-- ==== Sys2Proof/Word.lean ====
section
/-! DEFINITION. The word types of the device and their plainest arithmetic. -/

namespace Sys2Proof

/-- A register of a window: 16 bits (03_host_bus R148). -/
abbrev Word := BitVec 16

/-- A parameter: 32 bits (03_host_bus, "The parameter space"). -/
abbrev Par := BitVec 32

/-- A byte of raster memory, of a buffer or of a frame. -/
abbrev Byte := BitVec 8

/-- One function applied to every member of a group of like things. -/
def mapEach {α β : Type} {n : Nat} (f : α → β) (v : Vector α n) : Vector β n := Vector.ofFn fun k => f v[k]

end Sys2Proof
end

