-- ==== Sys2Proof/Syntax.lean ====
section
/-! DEFINITION. The commands of the block, one constructor per row of the table of operations and
events. A command carries what reaches the block with it: the window of an access, the value written,
the unit concerned, the levels and converter codes sampled. -/

namespace Sys2Proof

/-- An M line received on U0 (18_management, "The mailbox and U0"): its command
code, its tag and its four arguments. -/
structure MLine where
  code : Byte
  tag : Byte
  arg : Vector Word 4
  deriving DecidableEq, Repr

/-- A command: an access of the host, an event on a pin, a measurement or an instant at which one of
the block's own engines acts. -/
inductive Instr where
  /-- AO_POWER_ON (R61). AO gains power from VBAT_AO or VDD_IO and the device leaves OFF for WAKE, or for RETAIN when PWR_FAIL_N is low. -/
  | aoPowerOn (pwrFailN : Bool)
  /-- ALL_POWER_LOST (R61). VBAT_AO and VDD_IO are both absent and the device goes to OFF from any mode. -/
  | allPowerLost
  /-- WAKE_N_FALL (R118). A WAKE_N low level of sufficient length is taken as a wake source, or as the host acknowledge after a thermal shutdown. -/
  | wakeNFall
  /-- ALARM (R119). Device time reaches the alarm value in RETAIN and phase A begins. -/
  | alarm
  /-- LINK_WAKE (R118). A dominant edge on the Ryine receive input wakes the device from RETAIN when LINK is enabled. -/
  | linkWake
  /-- POWER_RETURN (R118). PWR_FAIL_N has been high for 10 ms after a power-fail power-down and the device wakes when enabled. -/
  | powerReturn
  /-- THERMAL_COOLED (R121). The AO comparator reports the die below 105 °C after a thermal shutdown and the restart timer is started. -/
  | thermalCooled
  /-- THERMAL_RESTART (R121). pwr.thermal_restart seconds pass after cooling and the device wakes with source THERMAL_RESTART. -/
  | thermalRestart
  /-- PG_IO_RISE (R106). PG_IO rises during phase A, fixing t_IO, after which PWR_EN[3] and PWR_EN[1] are asserted in order. -/
  | pgIoRise
  /-- PG_WAIT_TIMEOUT (R122). The wait for a power-good input ends without it; the enable is dropped for a retry, or HOLD or MEM_ABSENT follows. -/
  | pgWaitTimeout
  /-- PG_RETRY (R122). The 10 ms drop of a failed enable ends and the enable is asserted again. -/
  | pgRetry
  /-- PG_CORE_RISE (R98). PG_CORE rises, marking phase B zero; in HOLD it only lets MG start on the RC. -/
  | pgCoreRise
  /-- MG_RESET_RELEASE (R98). Core isolation is released, the oscillators start and MG leaves reset to run the boot ROM. -/
  | mgResetRelease
  /-- PLL_LOCK (R98). The PLL locks to the 25 MHz crystal within the wake lock wait. -/
  | pllLock
  /-- LOCK_TIMEOUT (R125). The lock wait ends without lock; the PLL switches to the RC fallback and CLK_FALLBACK is set. -/
  | lockTimeout
  /-- ISLANDS_RESET_RELEASE (R61). HB, MX, HD, MO, AN and LK leave reset on their clocks and NID straps are sampled. -/
  | islandsResetRelease (nid : Fin 16)
  /-- SLOT_CHECK_DONE (R99). The container and stepping checks of an image slot complete; the slot boots, slot B is tried, or HOLD is entered. -/
  | slotCheckDone
  /-- PG_MEM_RISE (R100). PG_MEM rises after PWR_EN[2] and memory training begins. -/
  | pgMemRise
  /-- MEMORY_TRAINING_DONE (R131). DDR3L training completes, or fails and sets MEM_ABSENT. -/
  | memoryTrainingDone (ok : Bool)
  /-- BOOT_COMPLETE (R102). The wake completes into RUN, or REDUCED when a loss is declared, and MODE_CHANGE is raised. -/
  | bootComplete
  /-- PWR_FAIL_N_LOW (R105). PWR_FAIL_N stays low for 2 µs and starts a power-fail power-down, or stage 6 only in HOLD or RETAIN. -/
  | pwrFailNLow
  /-- PWR_FAIL_N_GLITCH (R105). A PWR_FAIL_N low pulse shorter than 2 µs ends; it starts nothing and is counted when it lasted 1 µs or more. -/
  | pwrFailNGlitch (counted : Bool)
  /-- PG_IO_FALL (R106). An accepted PG_IO falls and starts a power-fail power-down. -/
  | pgIoFall
  /-- PG_CORE_FALL (R1103). An accepted PG_CORE falls; AO runs a power-down with no stage 1 to 5 work, or MG stops in HOLD. -/
  | pgCoreFall
  /-- PG_MEM_FALL (R132). PG_MEM falls while running; PWR_EN[2] is dropped, MEM_ABSENT is set and externally stored bands become LOST. -/
  | pgMemFall
  /-- PG_K_CHANGE (R70). PG_K changes level and ISLAND_POWER is raised without any change of main mode. -/
  | pgKChange (level : Bool)
  /-- STAGE_1 (R85). Power-down stage 1 begins: submissions are refused with NOT_NOW or NOT_RUNNING and dispatch stops. -/
  | stage1
  /-- STAGE_2 (R109). Stage 2 ends strobing at once and switches head supplies off. -/
  | stage2
  /-- STAGE_3 (R110). Stage 3 stops step pulses, zeroes bridge currents, switches lamps off and marks moving axes uncertain. -/
  | stage3
  /-- STAGE_4 (R111). Stage 4 commits pending records to flash for at most 2.7 ms. -/
  | stage4 (commits : Nat)
  /-- STAGE_5 (R111). Stage 5 leaves uncommitted records pending in the retention ring with the wake record. -/
  | stage5
  /-- STAGE_6 (R64). Stage 6 begins the timed dropping of the enables. -/
  | stage6
  /-- PWR_EN_DROP (R64). At its time in the power-down table an enable is dropped; after PWR_EN[0] COMPLETE is written. -/
  | pwrEnDrop
  /-- RST_N_ASSERT (R1105). A low level on RST_N is accepted and the main side takes its device-reset values with safe pin states. -/
  | rstNAssert
  /-- RST_N_RELEASE (R143). RST_N is released and phase B starts, or the device wakes from RETAIN or HOLD. -/
  | rstNRelease
  /-- RUN_REQUEST (R139). HV_MODE_REQ is written with RUN; SERVICE is left or a drain to SERVICE is ended. -/
  | runRequest
  /-- SERVICE_REQUEST (R84). HV_MODE_REQ is written with SERVICE and the drain of dispatched jobs begins. -/
  | serviceRequest
  /-- RETAIN_REQUEST (R115). HV_MODE_REQ is written with RETAIN in SERVICE and a power-down keeping PWR_EN[3] begins. -/
  | retainRequest
  /-- INVALID_MODE_REQUEST (R82). HV_MODE_REQ is written with a code that is not accepted; REQ_REFUSED is set and MODE_REFUSED raised. -/
  | invalidModeRequest (value : Word)
  /-- SERVICE_ENTRY (R84). The last dispatched or active job ends during the drain and SERVICE is entered. -/
  | serviceEntry
  /-- CLOCK_MON (R984). A stop or frequency window finds the reference stopped or off, and the R128 sequence switches to RC fallback. -/
  | clockMon (stopped : Bool) (off : Bool) (count : Word)
  /-- MEM_CFG_COMMIT (R101). A written pwr.mem_cfg is committed to both configuration record copies and COMMIT_PENDING clears. -/
  | memCfgCommit
  /-- PAR_INDEX_WRITE (R160). PAR_INDEX is written, setting the index, clearing the staged half and invalidating the snapshot. -/
  | parIndexWrite (w : Fin 11) (v : Word)
  /-- PAR_DHI_WRITE (R161). PAR_DHI is written and the high half is staged. -/
  | parDhiWrite (w : Fin 11) (v : Word)
  /-- PAR_DLO_WRITE (R162). PAR_DLO is written and the 32-bit value is committed to an index that has no command of its own. -/
  | parDloWrite (w : Fin 11) (v : Word)
  /-- PAR_DLO_READ (R164). PAR_DLO is read, fetching and snapshotting the whole value, including clearing reads and time latching. -/
  | parDloRead (w : Fin 11)
  /-- PAR_DHI_READ (R165). PAR_DHI is read, returning the snapshot high half or fetching, and advancing under AUTOINC. -/
  | parDhiRead (w : Fin 11)
  /-- PARAMETER_OP_DONE (R173). A posted parameter operation completes in its owning island, BUSY clears and ERR takes its code. -/
  | parameterOpDone (w : Fin 11)
  /-- REGISTER_WRITE (R255). A write to a register that has no row of its own takes effect. -/
  | registerWrite (w : Fin 11) (off : BitVec 6) (v : Word)
  /-- COUNTED_ACCESS (R210). A bus access that is not performed or is refused is counted in HV_BUS_ERR under its kind. -/
  | countedAccess (w : BitVec 5) (off : BitVec 6) (write : Bool) (kind : BitVec 3)
  /-- BUS_ERROR_REPEAT (R211). 1 ms after a BUS_ERROR with further counted accesses, one further BUS_ERROR is raised. -/
  | busErrorRepeat
  /-- HV_BUS_ERR_READ (R210). HV_BUS_ERR is read and cleared. -/
  | hvBusErrRead
  /-- LOCK_WRITE (R200). HV_LOCK is written; with key 0xA5 the lock bits written 1 are set, otherwise BAD_KEY is counted. -/
  | lockWrite (v : Word)
  /-- TIME_LO_READ (R205). VW_TIME_LO is read, returning device time [15:0] and latching [31:16]. -/
  | timeLoRead (w : Fin 9)
  /-- TIME_SET (R208). sys.time_set_lo is written from window 0 and device time is set, raising TIME_STEP. -/
  | timeSet (lo : Par)
  /-- DATA_STREAM_START (R187). VW_DATA_CTRL.EN is set, emptying the FIFO and starting a stream, or setting ADDR_ERR on a bad start. -/
  | dataStreamStart (vi : Fin 8) (ctrl : Word)
  /-- DATA_STREAM_STOP (R193). EN is cleared by host software, handing over the open band of a write stream or emptying a read stream FIFO. -/
  | dataStreamStop (vi : Fin 8) (ctrl : Word)
  /-- FLUSH (R193). FLUSH is written and the open band is padded white and handed to Marl. -/
  | flush (vi : Fin 8) (ctrl : Word)
  /-- DATA_PORT_WRITE (R194). VW_DATA_PORT is written, placing a halfword in the write stream FIFO or holding WAIT_N when it is full. -/
  | dataPortWrite (vi : Fin 8) (v : Word)
  /-- DATA_PORT_READ (R195). VW_DATA_PORT is read, returning the oldest halfword or holding WAIT_N when the stream FIFO is empty. -/
  | dataPortRead (vi : Fin 8)
  /-- FIFO_PLACE_FREE (R194). A place frees in a full write FIFO and a held data-port write completes. -/
  | fifoPlaceFree (vi : Fin 8)
  /-- DATA_PORT_TIMEOUT (R194). A held data-port access waits 2.0 µs; the halfword is discarded or 0x0000 returned, LOST or UNDERRUN set. -/
  | dataPortTimeout (vi : Fin 8)
  /-- READ_STREAM_FILL (R1111). A read stream fetches the next raster data into its FIFO, pinning pages and stopping at a LOST page or the end. -/
  | readStreamFill (vi : Fin 8)
  /-- VI_ENABLE (R224). An HV_VI_EN bit is written 1; the contract checks run and the VI becomes ENABLED or stays DISABLED. -/
  | viEnable (vi : Fin 8)
  /-- VI_RETIRE (R226). An HV_VI_EN bit is written 0; the VI goes to RETIRING and a reset with source retire follows. -/
  | viRetire (vi : Fin 8)
  /-- HV_VI_RESET (R258). HV_VI_RESET is written and a reset is requested for each VI whose bit is 1. -/
  | hvViReset (v : Word)
  /-- VW_RESET (R257). VW_RESET is written with key 0x5A and GO and a reset of its own VI is requested. -/
  | vwReset (vi : Fin 8) (v : Word)
  /-- VI_RESET_TAKES_EFFECT (R259). A requested VI reset takes effect after pending parameter operations or the 1 ms spacing, quiescing the VI. -/
  | viResetTakesEffect (vi : Fin 8)
  /-- VI_RESET_DONE (R271). A VI reset completes after its scrub and stop ramp; the VI returns to ENABLED, or DISABLED when retiring. -/
  | viResetDone (vi : Fin 8)
  /-- LEGAL_ROLE_WRITE (R243). HV_LEGAL_ROLE is written; the role moves, waiting LEGAL_LABEL jobs of the old holder fail and LEGAL_ROLE is raised. -/
  | legalRoleWrite (v : Word)
  /-- EVQ_POP (R249). VW_EVQ_POP is read, returning and removing the oldest event and latching its payload. -/
  | evqPop (w : Fin 9)
  /-- IRQ_PEND_WRITE (R251). VW_IRQ_PEND is written and the classes written 1 are cleared, updating IRQ_N. -/
  | irqPendWrite (w : Fin 9) (v : Word)
  /-- JOB_ALLOC (R290). VW_JOB_ALLOC is read and the lowest free handle is allocated as FILLED, or NO_DESC returned. -/
  | jobAlloc (vi : Fin 8)
  /-- JOB_SUBMIT (R296). VW_JOB_SUBMIT is written; the submission checks run and the descriptor goes to READY or is refused. -/
  | jobSubmit (vi : Fin 8) (v : Word)
  /-- CANCEL (R333). VW_JOB_CANCEL with op cancel cancels one handle by its state. -/
  | cancel (vi : Fin 8) (v : Word)
  /-- RELEASE (R339). VW_JOB_CANCEL with op release returns a terminal or FILLED descriptor to FREE. -/
  | release (vi : Fin 8) (v : Word)
  /-- CANCEL_ALL (R340). VW_JOB_CANCEL with op cancel-all cancels every held descriptor in handle order. -/
  | cancelAll (vi : Fin 8) (v : Word)
  /-- JOB_SELECT (R312). An idle head selects its next job by weighted fair sharing and dispatches it or sends the legal issue. -/
  | jobSelect (h : Fin 4)
  /-- HEAD_PURGED (R280). The purge feed and cut end and HEAD_PURGED is raised. -/
  | headPurged (h : Fin 4)
  /-- CAPACITY_UPDATE (R328). Every 10 ms Loam updates C_h of each head within its bounds and slew limit. -/
  | capacityUpdate
  /-- MIGRATION_CHECK (R344). Every 10 ms Loam checks the migration conditions and offers a qualifying READY job to a peer. -/
  | migrationCheck
  /-- DISCARD (R366). silt.discard is written and the named bands become ABSENT with their chunks and frames freed. -/
  | discard (w : Fin 11) (v : Par)
  /-- ARB_APPLY (R406). silt.arb_apply is written 1 and the slot table is checked for commit, or refused. -/
  | arbApply (w : Fin 11) (v : Par)
  /-- TABLE_COMMIT (R406). A committed slot table takes effect at the next position 0. -/
  | tableCommit
  /-- BAND_DECODE_START (R383). The decompressor becomes free and starts the band decode of the first fault in class order. -/
  | bandDecodeStart
  /-- FAULT_RESOLVED (R384). A page of a decoded band becomes RESIDENT, ending holds on it, or a check fails and the band is set LOST. -/
  | faultResolved
  /-- QUOTA_REPLACE (R374). Each millisecond a frame with REF = 0 of a VI over its frame_max is replaced. -/
  | quotaReplace
  /-- MARL_BLOCK_START (R454). The compressor becomes free and starts the next closed band by the sharing rule after reserving chunks. -/
  | marlBlockStart (waitClocks : Nat)
  /-- BLOCK_PLACED (R436). A coded or raw block is verified and placed; the band's pages become COMPRESSED and the buffer is freed. -/
  | blockPlaced (verifyOk : Bool)
  /-- LINE_START (R593). The paper axis reaches the position of a line and the head begins it, or holds for a late fetch or a guard page. -/
  | lineStart (h : Fin 4) (sensed : Bool) (vCode : BitVec 12) (iCode : BitVec 12)
  /-- LINE_FETCH_DONE (R391). A line is fetched whole into the line buffer, allowing its line to begin. -/
  | lineFetchDone (h : Fin 4)
  /-- PAUSE_CHECK (R549). One line period after a thermal pause, the pause limit is checked again and the line begins or pauses. -/
  | pauseCheck (h : Fin 4) (sensed : Bool) (vCode : BitVec 12) (iCode : BitVec 12)
  /-- MODEL_TICK (R537). Every 5,000 HD clocks the segment thermal model updates every node. -/
  | modelTick (h : Fin 4) (slots : Nat)
  /-- DERATING_UPDATE (R544). The derating loop updates each segment's D at a line start, or each millisecond while no line is burnt. -/
  | deratingUpdate (h : Fin 4)
  /-- OVERCURRENT_TRIP (R483). The head current comparator trips, strobes stop and the head goes to OUT (OVERCURRENT). -/
  | overcurrentTrip (h : Fin 4)
  /-- THERMISTOR_SAMPLE (R539). Every 10 ms Hn_TSNS is converted, T_r updated and plausibility judged. -/
  | thermistorSample (h : Fin 4) (code : BitVec 12)
  /-- SUPPLY_SAMPLE (R498). Every 10 ms an idle IN_SERVICE head's supply is sampled and judged against its bounds. -/
  | supplySample (h : Fin 4) (code : BitVec 12)
  /-- HEAD_CFG_WRITE (R496). head.cfg is written; FITTED moves the head between UNFITTED and OUT. -/
  | headCfgWrite (w : Fin 11) (h : Fin 4) (v : Par)
  /-- HEAD_ENABLE (R496). head.ctrl.ENABLE is written 1 and the head goes to POWERING or is refused. -/
  | headEnable (w : Fin 11) (h : Fin 4) (v : Par)
  /-- HEAD_DISABLE (R499). head.ctrl.ENABLE is written 0 and the head goes to OUT (MANUAL) once no job remains. -/
  | headDisable (w : Fin 11) (h : Fin 4) (v : Par)
  /-- SCAN (R486). head.ctrl.SCAN is written 1 and a dot resistance scan is requested. -/
  | scan (w : Fin 11) (h : Fin 4) (v : Par)
  /-- SCAN_ABORT (R486). head.ctrl.SCAN_ABORT is written 1 and the scan is abandoned. -/
  | scanAbort (w : Fin 11) (h : Fin 4) (v : Par)
  /-- SCAN_START (R485). A requested or periodic scan starts once the head is idle and its conditions hold. -/
  | scanStart (h : Fin 4) (iSum : BitVec 17)
  /-- SCAN_DOT (R489). A scan pulse ends and the dot's resistance is computed and classified. -/
  | scanDot (h : Fin 4) (vSum : BitVec 17) (iSum : BitVec 17)
  /-- HOTPLUG (R508). Hn_PRES_N is low for 100 ms on an absent head and the head goes to OUT (HOTPLUG). -/
  | hotplug (h : Fin 4)
  /-- PRESENCE_LOSS (R507). Hn_PRES_N is high for 10 µs; strobes end and the head goes to OUT (NOT_PRESENT). -/
  | presenceLoss (h : Fin 4)
  /-- POWERING_CHECK (R496). 50 ms after Hn_PEN rises the supply and thermistor are judged for a POWERING head. -/
  | poweringCheck (h : Fin 4) (vCode : BitVec 12) (tCode : BitVec 12)
  /-- AUTO_RETRY (R496). After 10 s in OUT with AUTO_RETRY, a head returns to POWERING when retries remain. -/
  | autoRetry (h : Fin 4)
  /-- AXIS_ENABLE (R568). axis.ctrl.ENABLE is written 1 and the axis or cutter is enabled after its checks, or refused. -/
  | axisEnable (w : Fin 11) (a : Fin 4) (v : Par)
  /-- AXIS_DISABLE (R567). axis.ctrl.ENABLE is written 0 and the axis goes to OFF, hard-stopping if moving. -/
  | axisDisable (w : Fin 11) (a : Fin 4) (v : Par)
  /-- HALT (R612). axis.ctrl.HALT is written and the axis hard-stops into FAULT. -/
  | halt (w : Fin 11) (a : Fin 4) (v : Par)
  /-- CLEAR (R567). axis.ctrl.CLEAR is written and a FAULT axis or JAMMED cutter is cleared when the bridge is good. -/
  | clear (w : Fin 11) (a : Fin 4) (v : Par)
  /-- CLEAR_UNCERTAIN (R614). axis.ctrl.CLEAR_UNCERTAIN is written from window 0 and UNCERTAIN clears. -/
  | clearUncertain (w : Fin 11) (a : Fin 4) (v : Par)
  /-- REV_REF (R603). axis.ctrl.REV_REF is written and the reverse reference is set. -/
  | revRef (w : Fin 11) (a : Fin 4) (v : Par)
  /-- BRIDGE_FAULT (R613). Mn_FLT_N is low for 1 µs; the axis hard-stops into FAULT or the cutter goes JAMMED. -/
  | bridgeFault (a : Fin 4) (low : Bool)
  /-- LIMIT_ACTIVE (R608). A limit input becomes active after debounce and a moving axis makes a hard or ramped stop. -/
  | limitActive (a : Fin 4) (input : Fin 2) (active : Bool)
  /-- MOTION_UPDATE (R589). Every 10 µs the step generator recomputes speed, ramps and stop ramps, bringing axes to rest. -/
  | motionUpdate
  /-- MICROSTEP (R588). A microstep falls due, advancing u and the DACs and ending a move at its target. -/
  | microstep (a : Fin 4)
  /-- QUEUED_MOVE_START (R599). A queued move starts after its running move ends, after a 1 ms dwell when it reverses. -/
  | queuedMoveStart (a : Fin 4)
  /-- STANDSTILL_REDUCTION (R584). An axis IDLE for the hold delay drops to reduced current and sets REDUCED. -/
  | standstillReduction (a : Fin 4)
  /-- CHOPPER_TRIP (R580). A phase comparator trips after blanking and the bridge leaves drive for its off-time. -/
  | chopperTrip (a : Fin 4) (phaseB : Bool)
  /-- OFF_TIME_END (R579). A phase's off-time ends and drive resumes with blanking. -/
  | offTimeEnd (a : Fin 4) (phaseB : Bool)
  /-- SERVICE_MOVE (R617). axis.move_dist is written in SERVICE and a service move is requested or refused. -/
  | serviceMove (w : Fin 11) (a : Fin 4) (v : Par)
  /-- CUT_START (R665). The cut interlocks hold and a cutter cycle starts. -/
  | cutStart (h : Fin 4)
  /-- HOME_SWITCH (R620). The cutter home input changes; leaving home, or reaching home, advances the cut cycle. -/
  | homeSwitch (home : Bool)
  /-- CUT_PARTIAL_TIMEOUT (R620). cut.t_partial passes after home was left in a partial cut and the cutter returns. -/
  | cutPartialTimeout
  /-- CUT_TIMEOUT (R620). cut.t_leave or cut.t_max passes and the cutter returns with FAULT, or goes JAMMED. -/
  | cutTimeout
  /-- BRAKE_END (R620). cut.t_brake elapses, the cutter is HOME and the cut is reported or the job ends. -/
  | brakeEnd
  /-- MEDIA_SAMPLE (R636). The active media sensor is converted; edges are confirmed, thresholds updated and learning advanced. -/
  | mediaSample (h : Fin 4) (code : BitVec 12)
  /-- LABEL_START_MISSED (R646). No label start is confirmed within pitch plus tolerance; a start is predicted and MEDIA_SEEK raised. -/
  | labelStartMissed (h : Fin 4)
  /-- SEEK_MAX_REACHED (R658). A TOF, tail or learn seek reaches media.seek_max without its edge and stops. -/
  | seekMaxReached (h : Fin 4)
  /-- LEARN (R648). media.ctrl.LEARN is written in SERVICE and a learning feed starts. -/
  | learn (w : Fin 11) (h : Fin 4) (v : Par)
  /-- DROP_CUT (R651). media.ctrl.DROP_CUT is written and the pending cut line is dropped. -/
  | dropCut (w : Fin 11) (h : Fin 4) (v : Par)
  /-- PAPER_LOW (R649). Hn_PE_N is low for 10 ms, PAPER_LOW is set and dispatch stops on the head. -/
  | paperLow (h : Fin 4)
  /-- PAPER_END (R650). The axis moves media.pe_reserve after PAPER_LOW and PAPER_END fails the running job. -/
  | paperEnd (h : Fin 4)
  /-- PAPER_CLEAR (R652). Hn_PE_N is high for 500 ms and the paper flags clear. -/
  | paperClear (h : Fin 4)
  /-- COVER_OPEN (R651). Hn_COV_N is low for 10 ms, COVER_OPEN is set and the running job fails. -/
  | coverOpen (h : Fin 4)
  /-- COVER_CLOSE (R652). Hn_COV_N is high for 500 ms and COVER_OPEN clears. -/
  | coverClose (h : Fin 4)
  /-- LAMP_ON (R677). lamp.cmd with op ON requests ON for the channels of the mask. -/
  | lampOn (w : Fin 11) (v : Par)
  /-- LAMP_OFF (R675). lamp.cmd with op OFF switches the channels of the mask off. -/
  | lampOff (w : Fin 11) (v : Par)
  /-- LAMP_DUTY (R675). lamp.cmd with op DUTY changes the duty from the next PWM period. -/
  | lampDuty (w : Fin 11) (v : Par)
  /-- LAMP_CLEAR (R669). lamp.cmd with op CLEAR returns TRIPPED channels to OFF. -/
  | lampClear (w : Fin 11) (v : Par)
  /-- LAMP_ADMIT (R670). The oldest waiting channel is admitted into INRUSH within the budget. -/
  | lampAdmit
  /-- INRUSH_COMPLETE (R671). A channel's soft-start or pull-in ends and it goes ON. -/
  | inrushComplete (c : Fin 8)
  /-- LIMIT_TRIP (R672). A lamp limit comparator trips and the gate is low for the rest of the period. -/
  | limitTrip (c : Fin 8)
  /-- OVERLOAD (R673). A channel limits in every period for 10 ms and is latched TRIPPED. -/
  | overload (c : Fin 8)
  /-- SHORT_TRIP (R682). A channel passes 3 × i_set, its gate falls and it is latched TRIPPED. -/
  | shortTrip (c : Fin 8)
  /-- LAMP_OPEN (R674). A channel ON stays below lamp.i_open for 100 ms and OPEN is set. -/
  | lampOpen (c : Fin 8)
  /-- LAMP_CURRENT_SAMPLE (R697). Every 1 ms each enabled lamp channel current is converted at mid on-time. -/
  | lampCurrentSample (c : Fin 8) (code : BitVec 12)
  /-- SEQUENCER_TRIGGER (R704). A TIMER, STROBE or CHOPPER trigger starts a pass or counts an overrun. -/
  | sequencerTrigger (x : Fin 2)
  /-- GO (R702). adc.ctrl.GO is written and a MANUAL pass starts. -/
  | go (w : Fin 11) (x : Fin 2) (v : Par)
  /-- ABORT (R707). adc.ctrl.ABORT is written and the pass ends after the conversion in progress. -/
  | abort (w : Fin 11) (x : Fin 2) (v : Par)
  /-- PASS_DELAY_END (R693). The trigger delay of a pass expires and entry 0 begins. -/
  | passDelayEnd (x : Fin 2)
  /-- CONVERSION_DONE (R690). A conversion completes; an entry result, limit and next conversion follow. -/
  | conversionDone (x : Fin 2) (code : BitVec 12) (postponed : Bool)
  /-- PLAUSIBILITY_CHECK (R715). Once per interval a check converts its channel on both converters and compares the codes. -/
  | plausibilityCheck (p : Fin 4) (made : Bool) (codeA : BitVec 12) (codeB : BitVec 12)
  /-- DIE_TEMP_UPDATE (R718). Every 1 ms die.temp is updated, changing throttle, FLASH_OK and DIODE_FAULT. -/
  | dieTempUpdate (code : BitVec 12)
  /-- SUPPLY_MONITOR_SAMPLE (R980). A supply monitor channel is converted and judged against its bands. -/
  | supplyMonitorSample (k : Fin 8) (code : BitVec 12)
  /-- THERMAL_TRIP (R727). The AO comparator trip at 125 °C is confirmed; the thermal record is written and a power-down starts. -/
  | thermalTrip
  /-- ISLAND_POWER_UP (R750). The island supplies are within limits and KRST_N high; the island enters SELF_TEST. -/
  | islandPowerUp
  /-- SELF_TEST_DONE (R751). SELF_TEST ends after its checks; the island goes to INHIBITED with its cause. -/
  | selfTestDone (imageOk : Bool) (paramsOk : Bool) (nvmOk : Bool) (auditOk : Bool) (crystalOk : Bool) (noiseOk : Bool) (nonce : Par) (key : BitVec 256)
  /-- ISLAND_RESET (R750). KRST_N is low for 10 µs or an island supply is out of limits; the island goes to INACTIVE. -/
  | islandReset
  /-- ISLAND_CLOCK_FAULT (R750). The island crystal stops or is off and the island is latched INHIBITED (CLOCK). -/
  | islandClockFault
  /-- SEAL_OPEN (R781). SEAL_N is low for 50 ms, the seal opens and SEAL_CHANGE is raised. -/
  | sealOpen
  /-- SEAL_CLOSE (R781). SEAL_N is high for 50 ms, the seal closes and the island re-enters SELF_TEST. -/
  | sealClose
  /-- ZERO (R813). The island performs ZERO on its deciding result. -/
  | zero
  /-- TARE (R814). The island performs TARE, taken or preset, on its deciding result. -/
  | tare
  /-- TARE_CLEAR (R815). The island performs TARE_CLEAR. -/
  | tareClear
  /-- READ_WEIGHT (R812). The island answers a READ_WEIGHT query on its deciding result. -/
  | readWeight
  /-- READ_WEIGHT_ISSUE (R824). The island decides a READ_WEIGHT issue from the device source and builds a record. -/
  | readWeightIssue
  /-- READ_WEIGHT_DUP (R832). The island performs a DUP issue, rendering an open record as a duplicate. -/
  | readWeightDup
  /-- PRINTED (R830). The island performs PRINTED for a record sequence. -/
  | printed
  /-- STATUS (R759). The island performs STATUS, optionally showing identification. -/
  | status
  /-- UNKNOWN_COMMAND (R760). A command code outside the table is answered UNKNOWN. -/
  | unknownCommand
  /-- ISSUED_COMMIT (R827). An ISSUED record commit ends; the field is rendered and OK returned. -/
  | issuedCommit
  /-- PRINTED_COMMIT (R830). The PRINTED page program completes and OK is returned. -/
  | printedCommit
  /-- LEGAL_RSP (R764). An island response arrives; the main side writes the data and response and raises LEGAL_RSP. -/
  | legalRsp
  /-- LEGAL_CMD_TIMEOUT (R763). A sent command is unanswered for 250 ms and is answered UNAVAILABLE. -/
  | legalCmdTimeout (src : Fin 9)
  /-- DUP_ARM (R835). VW_LEG_DUP_HI is written and a job handle is armed or disarmed as a duplicate. -/
  | dupArm (vi : Fin 8) (v : Word)
  /-- EPOCH_CHECK (R777). The management core compares epochs at wake or island entry to OPERATIONAL. -/
  | epochCheck
  /-- UK_I (R760). An I frame on UK is answered with the identification. -/
  | ukI
  /-- UK_A (R788). An A frame on UK is answered with the audit counter. -/
  | ukA
  /-- UK_R (R841). An R frame on UK reads a legal index. -/
  | ukR (index : Word)
  /-- UK_W (R782). A W frame on UK writes a legal parameter with the seal open. -/
  | ukW (index : Word) (v : Par)
  /-- UK_U (R780). A U frame carries a legal image container. -/
  | ukU (data : List Byte)
  /-- DISPLAY_FRAME (R785). A display frame is sent on UK each second outside OPERATIONAL. -/
  | displayFrame
  /-- WEIGHING_RESULT (R807). A result period ends; weights, inhibiting conditions and pending decisions are evaluated. -/
  | weighingResult (sig : Vector (BitVec 24) 4) (sns : BitVec 24) (drv : BitVec 24) (vddaK : Int) (zeroMean : List (Fin 5 × Rat)) (refMean : List (Fin 5 × Rat))
  /-- SLICE_ROTATION (R802). Every weigh.rot ms the spare takes over the longest-serving slice's role. -/
  | sliceRotation (slice : Fin 5) (o : Int) (g : Int) (t : Int)
  /-- ISLAND_TEMP (R823). Every second the island temperature is measured. -/
  | islandTemp (t : Int)
  /-- HEALTH_TEST (R853). A health test window completes on a source; a failure marks it FAILED. -/
  | healthTest (src : Fin 2) (ringA : Nat) (ringB : Nat) (samples : List Bool)
  /-- GRIT_RESTORED (R855). A FAILED source passes every test for 10 s and returns to standby. -/
  | gritRestored (src : Fin 2)
  /-- ENTROPY_INPUT_RELEASE (R857). An entropy input is complete and released or discarded. -/
  | entropyInputRelease
  /-- RESEED_SLOT (R858). The reseed slot of each 16 µs AES cycle applies a released input. -/
  | reseedSlot
  /-- GENERATE_REQUEST (R861). An instance's request slot makes one generate request. -/
  | generateRequest (i : Fin 10)
  /-- RAND_LO_READ (R868). VW_RAND_LO is read, removing the oldest random word. -/
  | randLoRead (w : Fin 9)
  /-- RAND_HI_READ (R869). VW_RAND_HI is read, returning and clearing the latched half. -/
  | randHiRead (w : Fin 9)
  /-- RAW (R875). grit.ctrl.RAW is written in SERVICE, blocking output and starting raw delivery. -/
  | raw (w : Fin 11) (v : Par)
  /-- SWITCH (R856). grit.ctrl.SWITCH is written and the sources are exchanged. -/
  | switch (w : Fin 11) (v : Par)
  /-- RAW_CFG_WRITE (R879). grit.raw_cfg is written and the raw FIFO and window 0 buffer are emptied. -/
  | rawCfgWrite (w : Fin 11) (v : Par)
  /-- SER_DATA_WRITE (R899). VW_SERn_DATA is written, queueing a character. -/
  | serDataWrite (w : Fin 9) (p : Fin 3) (v : Word)
  /-- SER_DATA_READ (R907). VW_SERn_DATA is read, removing the oldest receive entry. -/
  | serDataRead (w : Fin 9) (p : Fin 3)
  /-- SEND_BREAK (R901). VW_SER_CTRL.SEND_BREAK is written and a break is sent. -/
  | sendBreak (w : Fin 9) (v : Word)
  /-- FLUSH_RX (R914). VW_SER_CTRL.FLUSH_RX empties the receive FIFO. -/
  | flushRx (w : Fin 9) (v : Word)
  /-- FLUSH_TX (R919). VW_SER_CTRL.FLUSH_TX empties the transmit FIFO. -/
  | flushTx (w : Fin 9) (v : Word)
  /-- OWNER_CHANGE (R915). ser.owner is written and the port changes owner after the character in progress. -/
  | ownerChange (w : Fin 11) (v : Par)
  /-- CHARACTER_RECEIVED (R902). A character is received whole and stored or discarded by the policy. -/
  | characterReceived (p : Fin 3) (c : Byte) (parity : Bool) (stop : Bool)
  /-- BREAK (R904). A break ends or reaches 4,095 bit times and a BREAK entry is stored. -/
  | breakRx (p : Fin 3) (length : Nat)
  /-- CHARACTER_SENT (R891). A character or break is sent and the transmitter continues from its FIFO. -/
  | characterSent (p : Fin 3)
  /-- SER_RX_TIMEOUT (R909). No start edge for 4 character times with entries held raises SER_RX. -/
  | serRxTimeout (p : Fin 3)
  /-- TRIM_MEASURE (R894). Every 100.006 ms f_meas is measured and new dividers computed. -/
  | trimMeasure (fMeas : Word)
  /-- FRAME_TRANSMIT (R932). The link begins the frame of lowest TYPE after the bus idle time. -/
  | frameTransmit (fraction : Byte)
  /-- TRANSMIT_END (R937). A transmitted frame ends in success, loss, error or missing ACK. -/
  | transmitEnd (result : Fin 7)
  /-- RECEIVE_ERROR (R939). A receive error is detected; an error flag is sent and REC increased. -/
  | receiveError (kind : Fin 3)
  /-- SYNC (R941). A SYNC frame is taken and a follower steps or slews device time. -/
  | sync (src : Fin 16) (seq : BitVec 4) (dst : BitVec 5) (payload : List Byte) (age : Nat)
  /-- TIME_SLEW (R942). Every 10 ms device time slews 1 µs toward the master. -/
  | timeSlew
  /-- SYNC_LOSS (R943). No SYNC is applied for 3 sync periods and SYNCED clears. -/
  | syncLoss
  /-- SYNC_PERIOD (R941). Every sync period a master queues SYNC. -/
  | syncPeriod
  /-- CAP_PERIOD (R945). Every cap period a node queues CAP. -/
  | capPeriod
  /-- CAP (R947). A CAP frame is taken and the peer's advertisement updated. -/
  | cap (src : Fin 16) (seq : BitVec 4) (dst : BitVec 5) (payload : List Byte)
  /-- EVT (R950). An EVT frame is taken and LINK_EVENT is raised. -/
  | evt (src : Fin 16) (seq : BitVec 4) (dst : BitVec 5) (payload : List Byte)
  /-- EVT_TX (R949). ryine.evt_tx is written and queues one EVT frame. -/
  | evtTx (w : Fin 11) (v : Par)
  /-- RESERVED_FRAME (R929). A frame of reserved TYPE is acknowledged and discarded. -/
  | reservedFrame (src : Fin 16) (seq : BitVec 4) (dst : BitVec 5)
  /-- PEER_TIMEOUT (R947). A peer is silent for ryine.peer_timeout and ceases to be present. -/
  | peerTimeout (n : Fin 16)
  /-- BUS_OFF_RECOVERY (R940). After 128 runs of 11 recessive bits a bus-off node returns to ACTIVE. -/
  | busOffRecovery
  /-- RECOVER (R940). ryine.ctrl.RECOVER is written and the bus-off recovery count starts. -/
  | recover (w : Fin 11) (v : Par)
  /-- MIG_OFFER (R962). A MIG_OFFER is taken by a peer and answered ACCEPT or REFUSE. -/
  | migOffer (src : Fin 16) (seq : BitVec 4) (dst : BitVec 5) (payload : List Byte)
  /-- MIG_DATA (R963). A MIG_DATA frame is taken and its data stored in the guest slot. -/
  | migData (src : Fin 16) (seq : BitVec 4) (dst : BitVec 5) (payload : List Byte)
  /-- REVOKE (R967). A REVOKE is taken and answered REVOKED or TOO_LATE. -/
  | revoke (src : Fin 16) (seq : BitVec 4) (dst : BitVec 5) (payload : List Byte)
  /-- ACCEPT (R955). ACCEPT is taken and the job's stored blocks are sent. -/
  | accept (src : Fin 16) (seq : BitVec 4) (dst : BitVec 5) (migId : Word) (detail : Byte) (headTime : Par) (amount : Word)
  /-- REFUSE (R956). REFUSE is taken and the job returns to READY. -/
  | refuse (src : Fin 16) (seq : BitVec 4) (dst : BitVec 5) (migId : Word) (detail : Byte) (headTime : Par) (amount : Word)
  /-- ABANDONED (R956). ABANDONED is taken and the job returns to READY. -/
  | abandoned (src : Fin 16) (seq : BitVec 4) (dst : BitVec 5) (migId : Word) (detail : Byte) (headTime : Par) (amount : Word)
  /-- STARTED (R958). STARTED is taken for a migrated job. -/
  | started (src : Fin 16) (seq : BitVec 4) (dst : BitVec 5) (migId : Word) (detail : Byte) (headTime : Par) (amount : Word)
  /-- DONE (R957). DONE is taken; the migrated job ends DONE and is charged. -/
  | done (src : Fin 16) (seq : BitVec 4) (dst : BitVec 5) (migId : Word) (detail : Byte) (headTime : Par) (amount : Word)
  /-- FAILED (R957). FAILED is taken; the migrated job ends with PEER_FAILED. -/
  | failed (src : Fin 16) (seq : BitVec 4) (dst : BitVec 5) (migId : Word) (detail : Byte) (headTime : Par) (amount : Word)
  /-- REVOKED (R960). REVOKED is taken; the cancelled REMOTE job ends CANCELLED_BEFORE_DISPATCH. -/
  | revoked (src : Fin 16) (seq : BitVec 4) (dst : BitVec 5) (migId : Word) (detail : Byte) (headTime : Par) (amount : Word)
  /-- TOO_LATE (R960). TOO_LATE is taken; the cancelled job ends CANCELLED_AFTER_DISPATCH. -/
  | tooLate (src : Fin 16) (seq : BitVec 4) (dst : BitVec 5) (migId : Word) (detail : Byte) (headTime : Par) (amount : Word)
  /-- OFFER_TIMEOUT (R954). An offer is unanswered for 10 ms and is withdrawn. -/
  | offerTimeout
  /-- REVOKE_TIMEOUT (R960). A revoked job's REVOKE is unanswered within ryine.peer_timeout. -/
  | revokeTimeout (migId : Word)
  /-- TRANSFER_TIMEOUT (R965). No data frame arrives for 100 ms; the peer answers ABANDONED. -/
  | transferTimeout (slot : Fin 4)
  /-- INFO (R995). The command INFO returns the info block. -/
  | info (line : Option MLine)
  /-- LOG_READ (R1010). The command LOG_READ returns log entries. -/
  | logRead (line : Option MLine)
  /-- UPD_BEGIN (R1019). The command UPD_BEGIN opens a session, enters UPDATE and erases the target area. -/
  | updBegin (line : Option MLine) (flash : Bool)
  /-- UPD_CHUNK (R1021). The command UPD_CHUNK programs a container chunk. -/
  | updChunk (line : Option MLine) (flash : Bool)
  /-- UPD_END (R1024). The command UPD_END checks and activates the new image. -/
  | updEnd (line : Option MLine) (flash : Bool)
  /-- UPD_ABORT (R1028). The command UPD_ABORT ends the session FAILED. -/
  | updAbort (line : Option MLine)
  /-- RB_COMMIT (R1033). The command RB_COMMIT raises the rollback counter. -/
  | rbCommit (line : Option MLine)
  /-- CONFIRM (R1015). The command CONFIRM confirms a TRIAL image. -/
  | confirm (line : Option MLine)
  /-- MB_UNKNOWN (R995). A mailbox command code outside the table is answered UNKNOWN. -/
  | mbUnknown (line : Option MLine)
  /-- MB_DONE (R992). A mailbox command completes; results are written and MB_DONE is raised. -/
  | mbDone
  /-- MW_BUF_READ (R993). MW_BUF is read and MW_BUF_PTR advances. -/
  | mwBufRead
  /-- MW_BUF_WRITE (R993). MW_BUF is written and MW_BUF_PTR advances. -/
  | mwBufWrite (v : Word)
  /-- U0_B (R997). A B line on U0 writes the U0 buffer. -/
  | u0B (off : Nat) (data : List Byte)
  /-- U0_G (R997). A G line on U0 reads the U0 buffer. -/
  | u0G (off : Nat) (len : Nat)
  /-- LOG_COMMIT (R1001). A pending record is committed to the flash ring at the log rate. -/
  | logCommit
  /-- MG_WATCHDOG (R986). 1,000 ms pass without watchdog service and HOLD is entered. -/
  | mgWatchdog
  /-- ECC_ERROR (R988). An MG SRAM error is corrected, or HOLD is entered with cause INTERNAL. -/
  | eccError (correctable : Bool)
  /-- TRIAL_CONFIRM (R1015). A TRIAL image has run mgmt.trial_time seconds and is confirmed. -/
  | trialConfirm
  /-- SESSION_TIMEOUT (R1028). 60 s pass without a session command; the session fails. -/
  | sessionTimeout
  /-- PRINTED_TIMEOUT (R770). PRINTED for a LEGAL_LABEL job has not been answered OK within 1 s of the cut; the job goes to FAILED with LEGAL_UNAVAILABLE and no present phase runs. -/
  | printedTimeout (h : Fin 4)
  /-- AO_CRYSTAL_RUNS (R80). The 32.768 kHz AO crystal starts running and AO leaves its low-power oscillator; AO_XTAL and AO_LP change and device time advances from the crystal. -/
  | aoCrystalRuns
  /-- WAKE_GUARD_END (R97). 10 ms have passed since the last fall of PWR_EN[0], and a wake source latched meanwhile, or during the power-down, begins phase A. -/
  | wakeGuardEnd
  /-- LATCH_FIRING (R877). Each 2 MHz firing of a Grit latch yields a raw bit that feeds the REPEAT test and the conditioner, and while RAW is set it fills the raw FIFO, setting LOST when that FIFO is full. -/
  | latchFiring (src : Fin 2) (bit : Bool)
  /-- UK_MALFORMED_FRAME (R920). A UK frame that is malformed, or that contains a bad character or a break, ends and is answered ! 07. -/
  | ukMalformedFrame
  /-- U0_UNMATCHED_LINE (R997). A line on U0 that does not match the U0 table is answered ! 06. -/
  | u0UnmatchedLine
  /-- SHOW_ID_END (R776). 5 s after STATUS with SHOW_ID, the legal display stops showing the identification and returns to its state display. -/
  | showIdEnd
  /-- PWM_PERIOD (R671). A 20 kHz PWM period of the lamp channels begins; gates turn on at the duty in force, soft-start duties advance, and the limit-trip blanking of the previous period ends. -/
  | pwmPeriod
  deriving DecidableEq, Repr

end Sys2Proof
end

