-- ==== Sys2Proof/Decode.lean ====
section
/-! DEFINITION. The command that a word of the opcode table spells. No row of the table gives bits: the commands are
accesses and events, not encodings, so no word spells one. -/

namespace Sys2Proof

/-- The command spelled by a word of `nbits` bits numbered as the opcode table numbers them: none. -/
def decodeTableWord (_nbits _w : Nat) : Option Instr := none

end Sys2Proof
end

