-- ==== Sys2Proof/Machine/Codec.lean ====
section
/-! DEFINITION. The codes of the device: CRC-16 and CRC-32, the dictionary coder of Marl and its block
format (07_marl, "Coding", "Block format"). -/

namespace Sys2Proof.Machine

/-! ### CRC -/

/-- One bit step of CRC-16, polynomial 0x1021. -/
def crc16Bit (r : Nat) : Nat :=
  if r.testBit 15 then ((r * 2) % 65536) ^^^ 0x1021 else r * 2

/-- CRC-16 over one more byte. -/
def crc16Byte (r : Nat) (b : Byte) : Nat :=
  crc16Bit (crc16Bit (crc16Bit (crc16Bit (crc16Bit (crc16Bit (crc16Bit (crc16Bit
    (r ^^^ (b.toNat * 256)))))))))

/-- CRC-16: polynomial 0x1021, initial value 0xFFFF, no reflection, no final inversion (07_marl,
"Block format"; 17_ryine, "Frames"). -/
def crc16 (l : List Byte) : Nat := l.foldl crc16Byte 0xFFFF

/-- One bit step of the reflected CRC-32. -/
def crc32Bit (r : Nat) : Nat := if r.testBit 0 then (r / 2) ^^^ 0xEDB88320 else r / 2

/-- CRC-32 over one more byte. -/
def crc32Byte (r : Nat) (b : Byte) : Nat :=
  crc32Bit (crc32Bit (crc32Bit (crc32Bit (crc32Bit (crc32Bit (crc32Bit (crc32Bit
    (r ^^^ b.toNat))))))))

/-- CRC-32 of IEEE 802.3 (18_management, "The event log"). -/
def crc32 (l : List Byte) : Nat := (l.foldl crc32Byte 0xFFFFFFFF) ^^^ 0xFFFFFFFF

/-! ### The coder (07_marl, "Coding") -/

/-- Code of END. -/
def codeEnd : Nat := 0x100

/-- The code of the string (w, c) in the dictionary, newest entry first. -/
def dictFind (w c : Nat) : List (Nat × Nat × Nat) → Option Nat
  | [] => none
  | (p, b, k) :: t => if p = w ∧ b = c then some k else dictFind w c t

/-- Codes of the bytes that follow, with the dictionary, its next code and the code of the string held. -/
def encodeFrom (dict : List (Nat × Nat × Nat)) (next w : Nat) : List Byte → List Nat
  | [] => [w, codeEnd]
  | c :: t =>
    match dictFind w c.toNat dict with
    | some k => encodeFrom dict next k t
    | none =>
      if next ≤ 0xFFF then w :: encodeFrom ((w, c.toNat, next) :: dict) (next + 1) c.toNat t
      else w :: encodeFrom dict next c.toNat t

/-- The code stream of a band. -/
def encodeCodes : List Byte → List Nat
  | [] => [codeEnd]
  | c :: t => encodeFrom [] 0x101 c.toNat t

/-- Codes packed most significant bit first, padded with 0 bits to a byte. -/
def packCodes : List Nat → List Byte
  | [] => []
  | [a] => [BitVec.ofNat 8 (a / 16), BitVec.ofNat 8 (a % 16 * 16)]
  | a :: b :: t =>
    BitVec.ofNat 8 (a / 16) :: BitVec.ofNat 8 (a % 16 * 16 + b / 256) :: BitVec.ofNat 8 (b % 256)
      :: packCodes t

/-- The codes that a payload holds. -/
def unpackCodes : List Byte → List Nat
  | a :: b :: c :: t =>
    (a.toNat * 16 + b.toNat / 16) :: (b.toNat % 16 * 256 + c.toNat) :: unpackCodes t
  | [a, b] => [a.toNat * 16 + b.toNat / 16]
  | _ => []

/-- The coded payload of a band. -/
def encodeBand (band : List Byte) : List Byte := packCodes (encodeCodes band)

/-- The string of a code: a single byte, or an entry added, the first of which has code 0x101. -/
def dictString (dict : List (List Byte)) (k : Nat) : Option (List Byte) :=
  if k < 0x100 then some [BitVec.ofNat 8 k]
  else if k = codeEnd then none
  else dict[k - 0x101]?

/-- Decode the codes that follow: the output so far, and whether the code check has passed (07_marl
R437). -/
def decodeFrom (dict : List (List Byte)) (prev : List Byte) (out : List Byte) :
    List Nat → List Byte × Bool
  | [] => (out, false)
  | k :: t =>
    if k = codeEnd then (out, out.length = 16384 && t.isEmpty)
    else
      let full := 0x101 + dict.length > 0xFFF
      let str := match dictString dict k with
        | some x => some x
        | none => if k = 0x101 + dict.length ∧ !full ∧ !prev.isEmpty then some (prev ++ prev.take 1) else none
      match str with
      | none => (out, false)
      | some x =>
        let out1 := out ++ x
        if 16384 < out1.length then (out, false)
        else
          let dict1 := if prev.isEmpty ∨ full then dict else dict ++ [prev ++ x.take 1]
          decodeFrom dict1 x out1 t

/-- Decode a coded payload: its output, and whether every code is in order and END and its padding end
at its last byte. -/
def decodePayload (l : List Byte) : List Byte × Bool :=
  let r := decodeFrom [] [] [] (unpackCodes l)
  (r.1, r.2 && (l.length * 8) % 12 < 8)

/-! ### Blocks (07_marl, "Block format") -/

/-- The four pages of a band. -/
def bandPages (l : List Byte) : List (List Byte) :=
  [l.take 4096, (l.drop 4096).take 4096, (l.drop 8192).take 4096, (l.drop 12288).take 4096]

/-- A number as two bytes, most significant first. -/
def be16 (n : Nat) : List Byte := [BitVec.ofNat 8 (n / 256), BitVec.ofNat 8 n]

/-- The header of a block. -/
def blockHeader (raw speckle dither verifyFail : Bool) (len band : Nat) (content : List Byte) : List Byte :=
  let b1 := 0x10 + (if raw then 8 else 0) + (if speckle then 4 else 0) + (if dither then 2 else 0)
    + (if verifyFail then 1 else 0)
  let h := [0xA7, BitVec.ofNat 8 b1] ++ be16 len ++ be16 (band % 4096)
  h ++ be16 (crc16 h) ++ (bandPages content).flatMap fun p => be16 (crc16 p)

/-- The block of a band (07_marl R428, R429, R433): coded when its payload takes 16,368 bytes or less and
verifies, else raw. -/
def makeBlock (speckle dither verifyOk : Bool) (band : Nat) (content : List Byte) : List Byte :=
  let p := encodeBand content
  if p.length ≤ 16368 ∧ verifyOk then
    blockHeader false speckle dither false p.length band content ++ p
  else
    blockHeader true speckle dither (p.length ≤ 16368 && !verifyOk) 16384 band content ++ content

/-- Store chunks that a block of a given length takes. -/
def chunksFor (len : Nat) : Nat := (len + 1023) / 1024

/-- Bytes i and i + 1 as a number. -/
def at16 (l : List Byte) (i : Nat) : Nat := ((l[i]?).getD 0).toNat * 256 + ((l[i + 1]?).getD 0).toNat

/-- Length of the block that bytes begin with, from its header. -/
def blockLength (l : List Byte) : Nat := 16 + at16 l 2

/-- The header check (07_marl R437, check 1). -/
def headerOk (l : List Byte) : Bool :=
  (l[0]?).getD 0 = 0xA7 && ((l[1]?).getD 0).toNat / 16 = 1 && at16 l 6 = crc16 (l.take 6)
    && 1 ≤ at16 l 2 && at16 l 2 ≤ 16384
    && (!((l[1]?).getD 0).getLsbD 3 || at16 l 2 = 16384) && at16 l 4 < 4096

/-- What the decoder makes of a block: the content it gets to, and the check that fails, if one: 1 header,
2 band, 3 code. -/
def decodeContent (l : List Byte) (band : Nat) : List Byte × Option Nat :=
  if !headerOk l then ([], some 1)
  else if at16 l 4 ≠ band then ([], some 2)
  else if ((l[1]?).getD 0).getLsbD 3 then ((l.drop 16).take 16384, none)
  else
    let r := decodePayload ((l.drop 16).take (at16 l 2))
    (r.1, if r.2 then none else some 3)

/-- Page `k` of a block, or the check that fails for it (07_marl R437, R438): a page that the decoder
completes before a failing code is judged by its CRC alone, the last one after the code check. -/
def decodePage (l : List Byte) (band k : Nat) : Except Nat (List Byte) :=
  let r := decodeContent l band
  let p := (r.1.drop (4096 * k)).take 4096
  if p.length < 4096 ∨ (3 ≤ k ∧ r.2.isSome) then .error (r.2.getD 3)
  else if crc16 p = at16 l (8 + 2 * k) then .ok p else .error 4

end Sys2Proof.Machine
end

