-- ==== Sys2Proof/Config.lean ====
section
/-! DEFINITION. What an implementation fixes, and the free values: constants without a body, so that no
proof can see what they are. Each is named in notes/assumptions. -/

namespace Sys2Proof.Config

/-- id.stepping: B1 (00_scope R2). -/
def stepping : Par := 0x00004201

/-- What a thermal node holds when its exact next value lies outside 32 signed bits: the spec states no
result there (09_energy R538). -/
opaque nodeOverflow : Int → BitVec 32

/-- t_base while V_eff is zero, by the product that is to be divided by V_eff²: the quotient has no value
(09_energy, "Base pulse"). -/
opaque baseTimeUndefined : Nat → Nat

/-- The time in ns that a line sense takes to cross from AN into HD, within 3 clocks of each: 3 x 10 ns + 3 x 25 ns
(02_power_clocks_modes R76). -/
opaque senseCrossing : Nat → Fin 106

/-- The memory port takes a beat from its queue at an MX clock: the spec gives the port a rate alone (06_silt R382). -/
opaque portTakes : Nat → Bool

/-- The log commit in progress when the time of stage 4 ends completes its programs: the spec leaves both open
(02_power_clocks_modes R111). -/
opaque commitLands : Nat → Bool

/-- The fonts of the legal field: the dot at (x, y) of a character's cell of a given width and height. The
spec gives no glyphs (13_kaolin_island, "The legal field"). -/
opaque glyph (width height : Nat) (c : Char) (x y : Nat) : Bool

/-- r_i for a signal result while the sense result is zero: the quotient has no value (14_weighing,
"Results"). -/
opaque ratioUndefined : Int → Int

/-- weigh.sns while DRV is zero, or while SNS / DRV x 2^16 lies outside 32 bits: the spec states no value
(14_weighing, "Live values"). -/
opaque senseUndefined : Int → Int → Par

/-- A live value of the island that does not fit its 32 bits (14_weighing, "Live values"). -/
opaque liveOverflow : Int → Par

/-- The cell that a failed corner-load test suspects, from the four terms: the spec gives no rule for it
(14_weighing, "Telling the wire faults apart"). -/
opaque cornerSuspect : List Int → Option (Fin 4)

/-- VW_LEG_D0 to VW_LEG_D3 after an answer that returns no data (13_kaolin_island, "The protective
interface"), by the number drawn and the register. -/
opaque legNoData : Nat → Nat → Word

/-- Index field of the change log entry of an image activation (13_kaolin_island, legal.log). -/
opaque imageLogIndex : Word

/-- A data word that a mailbox answer does not return, or the rest of a buffer that an answer does not fill: the
spec gives the registers MW_RD0 to MW_RD3 no value there (18_management R992), by the number drawn and the
register. -/
opaque mbNoData : Nat → Nat → Word

/-- The longest interval at which Dravfin has serviced the watchdog between two instants, ms: its own choice below
1,000 (18_management R986). -/
opaque wdogInterval : Nat → Nat → Nat

/-- Edges counted in the last frequency window of a good reference, above the lower bound (18_management R984). -/
opaque refWindow : Nat → Nat

/-- A container's signature verifies (18_management, "Kuwell container"): ECDSA P-256 over the SHA-256 of
bytes 0x000 to 0x0BF with the boot ROM key. -/
opaque mainSignature : List Byte → Bool

/-- A container's signature verifies with the key whose hash is in the island's identity area
(13_kaolin_island R780). -/
opaque legalSignature : List Byte → Bool

end Sys2Proof.Config
end

