-- ==== Sys2Proof/Machine/State.lean ====
section
/-! DEFINITION. What the machine holds: every register, FIFO, buffer, counter, mode and pin the spec
gives it, as plain data, the faults and refusals, and the machine right after reset.

A field's docstring names what it is, the file and rule of spec/ that gives it, and its value at reset. -/

namespace Sys2Proof.Machine

/-! ### Part, power, clocks and modes (00_scope, 02_power_clocks_modes) -/

/-- The three parts (00_scope R1, R6). -/
inductive Part where
  | tl4816 | tl4816n | tl2816
  deriving DecidableEq, Repr

/-- The eight operating modes (02_power_clocks_modes, "Operating modes"). -/
inductive Mode where
  | off | retain | wake | run | reduced | service | update | hold
  deriving DecidableEq, Repr

/-- The reasons of a power-down (02_power_clocks_modes, pwr.last_pd). -/
inductive PdReason where
  | powerFail | retainRequest | thermal
  deriving DecidableEq, Repr

/-- How far a wake has come (02_power_clocks_modes, "The wake sequence"). -/
inductive WakePhase where
  /-- no wake in progress -/
  | none
  /-- phase A: PWR_EN[0] is high and PG_IO is awaited -/
  | waitIo
  /-- phase A: PWR_EN[0] is dropped for 10 ms before its next attempt (R122) -/
  | dropIo
  /-- phase A: PWR_EN[1] is high and PG_CORE is awaited -/
  | waitCore
  /-- phase A: PWR_EN[1] is dropped for 10 ms before its next attempt (R122) -/
  | dropCore
  /-- phase B: PG_CORE is up (or RST_N was released); MG is in reset -/
  | coreUp
  /-- phase B: MG runs the boot ROM on the RC and lock is awaited -/
  | waitLock
  /-- phase B: lock or fallback decided; the main islands are in reset -/
  | clocked
  /-- phase B: slot A is checked -/
  | checkA
  /-- phase B: slot B is checked -/
  | checkB
  /-- phase B: PWR_EN[2] is high and PG_MEM is awaited -/
  | waitMem
  /-- phase B: the external memory is trained -/
  | training
  /-- phase B: everything but the entry of RUN or REDUCED is done -/
  | ready
  deriving DecidableEq, Repr

/-- A power-down under way (02_power_clocks_modes, "The staged power-down"). -/
structure PowerDown where
  reason : PdReason
  /-- last stage begun, 0 before stage 1 -/
  stage : Nat
  /-- VDD_CORE collapsed: no stage work, no later marker, no COMPLETE (R1103, R1104) -/
  collapsed : Bool
  /-- started in RETAIN or HOLD: stage 6 only (R61, R137) -/
  stage6Only : Bool
  /-- the instant of stage 1 has passed, whether or not this power-down runs that stage: no further cause coincides
  (R138) -/
  closed : Bool := false
  deriving DecidableEq, Repr

/-- The thermal record of AO (12_analog_thermal R728). -/
structure ThermalRecord where
  time : BitVec 48
  mode : BitVec 3
  level : BitVec 2
  temp : BitVec 16
  valid : Bool
  deriving DecidableEq, Repr

/-- One record of the event log without its sequence-dependent words (18_management, "The event log"). -/
structure LogRecord where
  seq : BitVec 32
  time : BitVec 48
  code : Byte
  aux : Byte
  payload : Word
  wake : Byte
  mode : BitVec 3
  word4 : Par
  word5 : Par
  deriving DecidableEq, Repr

/-- AO island: kept while VBAT_AO or VDD_IO is present. -/
structure Ao where
  /-- AO is powered; 02_power_clocks_modes R61; reset true -/
  powered : Bool := true
  /-- device time, 48 bits of µs; 03_host_bus R207; reset 0 -/
  time : BitVec 48 := 0
  /-- sys.time_stat.VALID; 03_host_bus R209; reset false -/
  timeValid : Bool := false
  /-- sys.time_stat source of the last setting; 03_host_bus R209; reset 0 -/
  timeSource : BitVec 2 := 0
  /-- device time still to be slewed toward the master, signed µs; 17_ryine R942; reset 0 -/
  slewLeft : Int := 0
  /-- the next µs of device time is not counted (a backward slew); 17_ryine R942; reset false -/
  slewHold : Bool := false
  /-- stage marker, last stage begun, 7 COMPLETE; 02_power_clocks_modes R107; reset 0 -/
  pdStage : BitVec 3 := 0
  /-- pwr.last_pd.unclean; 02_power_clocks_modes R116; reset false -/
  pdUnclean : Bool := false
  /-- UNCLEAN_SHUTDOWN has been raised for the power-down recorded; 02_power_clocks_modes R116; reset false -/
  pdReported : Bool := false
  /-- pwr.last_pd.reason; 02_power_clocks_modes R138; reset 0 -/
  pdReason : PdReason := .powerFail
  /-- pwr.last_pd.flashed; 02_power_clocks_modes R111; reset false -/
  pdFlashed : Bool := false
  /-- pwr.last_pd.retained; 02_power_clocks_modes R111; reset 0 -/
  pdRetained : Byte := 0
  /-- pwr.last_pd.glitches; 02_power_clocks_modes R105; reset 0 -/
  glitches : Byte := 0
  /-- pwr.last_pd as reported from the last wake on; 02_power_clocks_modes R116; reset 0 -/
  lastPd : Par := 0
  /-- pwr.wake_en; 02_power_clocks_modes R118; reset 0x0000_0009 -/
  wakeEn : BitVec 4 := 9
  /-- pwr.alarm_lo and pwr.alarm_hi; 02_power_clocks_modes R119; reset 0 -/
  alarm : BitVec 48 := 0
  /-- device time at the last entry to RETAIN; 02_power_clocks_modes R119; reset 0 -/
  retainTime : BitVec 48 := 0
  /-- pwr.thermal_restart; 02_power_clocks_modes R121; reset 0x3C -/
  thermalRestart : BitVec 12 := 0x3C
  /-- pwr.hold_cause; 02_power_clocks_modes R95; reset 0 -/
  holdCause : Word := 0
  /-- sys.wake_count; 19_parameter_map R1059; reset 1 (the wake of the AO power-on) -/
  wakeCount : BitVec 32 := 1
  /-- latched wake source awaiting the guard time or the end of a power-down; 02_power_clocks_modes R97, R114; reset none -/
  wakeLatched : Option (BitVec 4) := none
  /-- 10 ms since the last fall of PWR_EN[0] have not yet passed; 02_power_clocks_modes R97; reset false -/
  guard : Bool := false
  /-- a thermal shutdown has not been left; 02_power_clocks_modes R121; reset false -/
  thermalShut : Bool := false
  /-- after a thermal shutdown the comparator has reported below 105 °C; 02_power_clocks_modes R121; reset false -/
  thermalCooled : Bool := false
  /-- thermal record written and not yet committed to flash; 12_analog_thermal R728; reset none -/
  thermalRecord : Option ThermalRecord := none
  /-- retention ring: pending log records, oldest first, at most 64; 18_management R1007; reset empty -/
  ring : List LogRecord := []
  /-- DRBG instantiation count; 15_grit "Expander instances"; reset 0 -/
  instCount : BitVec 64 := 0
  /-- trial boot increases held for the boot record; 18_management R1014; reset 0 -/
  trialHeld : Nat := 0
  /-- revert of the boot record held; 18_management R1014; reset false -/
  revertHeld : Bool := false
  /-- AO runs from its crystal (pwr.clk_stat.AO_XTAL); 02_power_clocks_modes R80; reset false -/
  xtal : Bool := false
  deriving DecidableEq, Repr

/-- Power, modes and clocks of the main side. -/
structure Pwr where
  /-- operating mode; 02_power_clocks_modes R61; reset WAKE (HV_MODE_STAT resets to 0x0002) -/
  mode : Mode := .wake
  /-- target of the transition in progress (BUSY and target of HV_MODE_STAT); 02_power_clocks_modes R84; reset none -/
  target : Option Mode := none
  /-- the drain to SERVICE: a SERVICE request has been accepted and neither SERVICE entered nor the drain ended by a RUN
  request; 02_power_clocks_modes R84, R85, R140; reset false -/
  drain : Bool := false
  /-- REQ_REFUSED; 02_power_clocks_modes R82; reset false -/
  reqRefused : Bool := false
  /-- loss CLK_FALLBACK; 02_power_clocks_modes R89; reset false -/
  clkFallback : Bool := false
  /-- loss HEAD_OUT; 02_power_clocks_modes R89; reset false -/
  headOut : Bool := false
  /-- loss DIE_THROTTLE; 02_power_clocks_modes R89; reset false -/
  dieThrottle : Bool := false
  /-- loss MEM_ABSENT; 02_power_clocks_modes R89; reset false -/
  memAbsent : Bool := false
  /-- PWR_EN[3:0]; 02_power_clocks_modes R64; reset 0b0001 (the wake event of AO power-on) -/
  en : BitVec 4 := 1
  /-- PG_IO level; 02_power_clocks_modes R66; reset false -/
  pgIo : Bool := false
  /-- PG_CORE level; 02_power_clocks_modes R66; reset false -/
  pgCore : Bool := false
  /-- PG_MEM level; 02_power_clocks_modes R66; reset false -/
  pgMem : Bool := false
  /-- PG_K level; 02_power_clocks_modes R70; reset false -/
  pgK : Bool := false
  /-- PWR_FAIL_N level; 02_power_clocks_modes R105; reset true -/
  pwrFailN : Bool := true
  /-- a low level on RST_N has been accepted and not yet released; 02_power_clocks_modes R1105; reset false -/
  rstHeld : Bool := false
  /-- wake phase; 02_power_clocks_modes "The wake sequence"; reset waitIo -/
  phase : WakePhase := .waitIo
  /-- PG_IO attempts of this wake; 02_power_clocks_modes R122; reset 1 -/
  ioAttempts : Nat := 1
  /-- PG_CORE attempts of this wake; 02_power_clocks_modes R122; reset 0 -/
  coreAttempts : Nat := 0
  /-- source of this wake; 02_power_clocks_modes R104; reset 0 (AO power-on) -/
  wakeSource : BitVec 4 := 0
  /-- slot B boots in this wake; 02_power_clocks_modes R104; reset false -/
  slotB : Bool := false
  /-- slot A or B passed its container check but failed its stepping check in this wake; 02_power_clocks_modes R130; reset false -/
  steppingFailed : Bool := false
  /-- MEM_ABSENT was set in this wake; 02_power_clocks_modes R104; reset false -/
  wakeMemAbsent : Bool := false
  /-- RC fallback was selected in this wake; 02_power_clocks_modes R104; reset false -/
  wakeFallback : Bool := false
  /-- pwr.wake_cause, 0 until set in the wake; 02_power_clocks_modes R104, 19_parameter_map R1054; reset 0 -/
  wakeCause : Par := 0
  /-- pwr.clk_stat.MAIN_LOCK; 02_power_clocks_modes pwr.clk_stat; reset false -/
  mainLock : Bool := false
  /-- MG runs; 02_power_clocks_modes R151 of 03_host_bus; reset false -/
  mgRunning : Bool := false
  /-- the power-down in progress; 02_power_clocks_modes R114; reset none -/
  pd : Option PowerDown := none
  /-- pwr.mem_cfg as written: fitted and size; 02_power_clocks_modes R101; reset 0 -/
  memCfg : BitVec 3 := 0
  /-- pwr.mem_cfg.COMMIT_PENDING; 02_power_clocks_modes R101; reset false -/
  memCfgPending : Bool := false
  deriving DecidableEq, Repr

/-! ### Host bus, windows and parameter access (03_host_bus) -/

/-- A parameter operation posted by a window and not yet completed (03_host_bus R163). -/
structure PostedOp where
  index : Word
  value : Par
  /-- VI_SEL when the write was committed -/
  viSel : BitVec 4
  deriving DecidableEq, Repr

/-- The parameter registers of one window (03_host_bus, "Parameter protocol"). -/
structure ParPort where
  /-- PAR_INDEX; 03_host_bus R160; reset 0 -/
  index : Word := 0
  /-- staged high half; 03_host_bus R161; reset 0 -/
  staged : Word := 0
  /-- snapshot of the current index, if valid; 03_host_bus R164; reset none -/
  snapshot : Option Par := none
  /-- the posted write in progress (BUSY); 03_host_bus R163; reset none -/
  posted : Option PostedOp := none
  /-- PAR_CTRL.AUTOINC; 03_host_bus R172; reset false -/
  autoInc : Bool := false
  /-- PAR_CTRL.ERR; 03_host_bus R173; reset 0 -/
  err : BitVec 4 := 0
  /-- PAR_CTRL.VI_SEL (window 0 only); 03_host_bus R180; reset 0 -/
  viSel : BitVec 4 := 0
  /-- device time [31:16] latched by TIME_LO; 03_host_bus R205; reset 0 -/
  timeHi : Word := 0
  /-- device time [47:32] latched by sys.time_lo; 03_host_bus R206; reset 0 -/
  sysTimeHi : Word := 0
  deriving DecidableEq, Repr

/-- The bulk data port of one VI window (03_host_bus, "Bulk data ports"). -/
structure DataPort where
  /-- EN; 03_host_bus R187; reset false -/
  en : Bool := false
  /-- DIR, true: raster to host; 03_host_bus R187; reset false -/
  dir : Bool := false
  /-- SWAP; 03_host_bus R191; reset false -/
  swap : Bool := false
  /-- SWAP as the stream that runs, or whose halfwords wait, took it at its start; 03_host_bus R190; reset false -/
  swapNow : Bool := false
  /-- THR; 03_host_bus R197; reset 0 -/
  thr : BitVec 2 := 0
  /-- LOST; 03_host_bus R194; reset false -/
  lost : Bool := false
  /-- UNDERRUN; 03_host_bus R195; reset false -/
  underrun : Bool := false
  /-- ADDR_ERR; 03_host_bus R188; reset false -/
  addrErr : Bool := false
  /-- data FIFO, oldest first, at most 256 halfwords; 03_host_bus R186; reset empty -/
  fifo : List Word := []
  /-- stream address VW_DATA_ADDR_HI, VW_DATA_ADDR_LO; 03_host_bus R189; reset 0 -/
  addr : Nat := 0
  /-- address at which the stream started; 07_marl R447; reset 0 -/
  start : Nat := 0
  /-- raster address of the next byte a read stream fetches into the FIFO; 06_silt R1111; reset 0 -/
  fetch : Nat := 0
  /-- page pinned by the read stream; 06_silt R1111; reset none -/
  pinned : Option Nat := none
  /-- a data-port write held by WAIT_N and its halfword; 03_host_bus R194; reset none -/
  heldWrite : Option Word := none
  /-- a data-port read held by WAIT_N; 03_host_bus R195; reset false -/
  heldRead : Bool := false
  /-- hand-overs of the open band that wait (FLUSH, or EN cleared), each until so many halfwords of the FIFO have been
  written into it, oldest first; 03_host_bus R193; reset empty -/
  closing : List Nat := []
  deriving DecidableEq, Repr

/-- One event entry (04_tenancy, "Events"). -/
structure Event where
  code : Byte
  aux : Byte
  payload : Word
  deriving DecidableEq, Repr

/-- The event queue and interrupt registers of window 0 or of a VI window (04_tenancy). -/
structure EventPort where
  /-- event queue, oldest first, at most 64; 04_tenancy R245; reset empty -/
  queue : List Event := []
  /-- IRQ_PEND without the level bit 15; 04_tenancy R251; reset 0 -/
  pend : Word := 0
  /-- IRQ_MASK; 04_tenancy R252; reset 0 -/
  mask : Word := 0
  /-- EVQ_DATA; 04_tenancy R249; reset 0 -/
  data : Word := 0
  /-- VW_CTRL.PAR_ERR_EVT; 03_host_bus R175; reset false -/
  parErrEvt : Bool := false
  /-- VW_CTRL.DATA_ERR_EVT; 03_host_bus R194; reset false -/
  dataErrEvt : Bool := false
  /-- head selected in CAP_HEAD; 05_loam VW_CAP_HEAD; reset 0 -/
  capHead : Fin 4 := 0
  deriving DecidableEq, Repr

/-- Host bus registers of the device. -/
structure Bus where
  /-- parameter registers of windows 0 to 10; 03_host_bus R160; reset all zero -/
  port : Vector ParPort 11 := Vector.replicate 11 {}
  /-- event queues of window 0 and VI windows 1 to 8; 04_tenancy R244; reset empty -/
  evq : Vector EventPort 9 := Vector.replicate 9 {}
  /-- D[15:0] as last driven by a read; 03_host_bus R150; reset 0 -/
  d : Word := 0
  /-- HV_LOCK; 03_host_bus R200; reset 0 -/
  lock : Byte := 0
  /-- HV_BUS_ERR; 03_host_bus R210; reset 0 -/
  err : Word := 0
  /-- HV_BUS_LAST; 03_host_bus R210; reset 0 -/
  last : Word := 0
  /-- a BUS_ERROR was raised within the last millisecond; 03_host_bus R211; reset false -/
  errRecent : Bool := false
  /-- further accesses were counted since that BUS_ERROR; 03_host_bus R211; reset false -/
  errMore : Bool := false
  /-- HV_DREQ_ROUTE; 03_host_bus HV_DREQ_ROUTE; reset 0 -/
  dreqRoute : Byte := 0
  /-- HV_IRQ_ROUTE0 to HV_IRQ_ROUTE3; 04_tenancy R253; reset 0x0001, 0, 0, 0 -/
  irqRoute : Vector (BitVec 9) 4 := #v[1, 0, 0, 0]
  /-- staged device time [47:32] of sys.time_set_hi; 03_host_bus R208; reset 0 -/
  timeStage : Word := 0
  /-- HV_VI_ERR; 04_tenancy R228; reset 0 -/
  viErr : Byte := 0
  /-- HV_LEGAL_ROLE; 04_tenancy R241; reset 0 -/
  legalRole : BitVec 4 := 0
  /-- sys.loop_freeze; 01_station_system R47; reset 0 -/
  loopFreeze : Word := 0
  /-- loops held at their lower bound, one bit each; 01_station_system R39, R40; reset 0 -/
  clampedLo : Word := 0
  /-- loops held at their upper bound, one bit each; 01_station_system R39, R40; reset 0 -/
  clampedHi : Word := 0
  /-- sys.clamp_count; 01_station_system R45; reset 0 -/
  clampCount : BitVec 32 := 0
  deriving DecidableEq, Repr

/-! ### Virtual instances (04_tenancy) -/

/-- The four states of a VI (04_tenancy R223). -/
inductive ViState where
  | disabled | enabled | resetting | retiring
  deriving DecidableEq, Repr

/-- Sources of a VI reset (04_tenancy, VW_RESET_STAT). -/
inductive ResetSource where
  | tenant | hypervisor | retire
  deriving DecidableEq, Repr

/-- A handle of a VI: the descriptor it maps to (05_loam, "Descriptors, handles and quotas"). -/
abbrev Handle := Fin 16

/-- One VI. -/
structure Vi where
  /-- state; 04_tenancy R223; reset DISABLED -/
  state : ViState := .disabled
  /-- bit of HV_VI_EN; 04_tenancy R1101; reset false -/
  enBit : Bool := false
  /-- writes of the VI's bit of HV_VI_EN not yet handled by the machine, oldest first (true = enable); 04_tenancy
  R1101; reset empty -/
  enQueue : List Bool := []
  /-- a reset has been requested and has not taken effect, with its source; 04_tenancy R1102; reset none -/
  resetReq : Option ResetSource := none
  /-- VW_RESET_STAT.DONE; 04_tenancy R271; reset false -/
  resetDone : Bool := false
  /-- VW_RESET_STAT.source; 04_tenancy R271; reset tenant -/
  resetSource : ResetSource := .tenant
  /-- VW_RESET_STAT.count; 04_tenancy R271; reset 0 -/
  resetCount : Byte := 0
  /-- instant (µs) at which the reset in progress took effect; 04_tenancy VI_RESET_DONE; reset 0 -/
  resetStart : Nat := 0
  /-- contract fields k = 0x00 to 0x13; 04_tenancy "The contract"; reset 0 -/
  contract : Vector Par 20 := Vector.replicate 20 0
  /-- data port; 03_host_bus R186; reset empty -/
  data : DataPort := {}
  /-- VW_JOB_SUBMIT result: refusal code and handle, none while VALID = 0; 05_loam R296; reset none -/
  submitResult : Option (Byte × BitVec 4) := none
  /-- VW_JOB_STAT selected handle; 05_loam VW_JOB_STAT; reset 0 -/
  statHandle : Handle := 0
  /-- a QUEUE_FULL has been given and QUEUE_SPACE not yet raised: head of the refused job; 05_loam R299; reset none -/
  queueFull : Option (Fin 4) := none
  /-- by head, the chain that the VI's last submission on it has left open; 05_loam R318; reset none -/
  openChain : Vector (Option Nat) 4 := Vector.replicate 4 none
  /-- loam.accepted; 05_loam loam.accepted; reset 0 -/
  accepted : BitVec 32 := 0
  /-- loam.refused; 05_loam loam.refused; reset 0 -/
  refused : BitVec 32 := 0
  /-- guaranteed credit c_g per head, µs; 05_loam R323; reset 0 -/
  creditG : Vector Int 4 := Vector.replicate 4 0
  /-- maximum credit c_m per head, µs; 05_loam R323; reset 0 -/
  creditM : Vector Int 4 := Vector.replicate 4 0
  /-- fractions of c_g and c_m not yet a whole µs, in 1/1,024; 05_loam "Sharing a head"; reset 0 -/
  creditFrac : Vector (Nat × Nat) 4 := Vector.replicate 4 (0, 0)
  /-- surplus time s per head, µs; 05_loam R323; reset 0 -/
  surplus : Vector Nat 4 := Vector.replicate 4 0
  /-- silt.page: page queried; 06_silt R365; reset 0 -/
  pageQuery : BitVec 14 := 0
  /-- silt.faults; 06_silt R386; reset 0 -/
  faults : BitVec 32 := 0
  /-- silt.fault_time_max; 06_silt R386; reset 0 -/
  faultTimeMax : BitVec 32 := 0
  /-- clock hand: frame number last visited; 06_silt R370; reset 0 -/
  hand : Nat := 0
  /-- compressor credit c_v, MX clocks, in 1/256; 07_marl "Sharing the compressor"; reset 0 -/
  marlCredit : Int := 0
  /-- marl.dither_seed_used; 07_marl R448; reset 0 -/
  seedUsed : Word := 0
  /-- marl.last_block; 07_marl marl.last_block; reset 0 -/
  lastBlock : Par := 0
  /-- marl.speckle_removed; 07_marl R443; reset 0 -/
  speckleRemoved : BitVec 32 := 0
  /-- lamp.cmd: last accepted write; 11_media_outputs lamp.cmd; reset 0 -/
  lampCmd : Par := 0
  /-- VW_LEG_ARG_HI and VW_LEG_ARG_LO; 13_kaolin_island R754; reset 0 -/
  legArg : Par := 0
  /-- VW_LEG_RSP response and tag, none while VALID = 0; 13_kaolin_island R764; reset none -/
  legRsp : Option (Byte × BitVec 4) := none
  /-- VW_LEG_RSP.PENDING: tag of the command pending; 13_kaolin_island R754; reset none -/
  legPending : Option (BitVec 4) := none
  /-- VW_LEG_D0 to VW_LEG_D3; 13_kaolin_island R764; reset 0 -/
  legData : Vector Word 4 := Vector.replicate 4 0
  /-- VW_LEG_DUP sequence [23:0] as written; 14_weighing R835; reset 0 -/
  dupSeq : BitVec 24 := 0
  /-- VW_LEG_DUP_HI handle as written; 14_weighing VW_LEG_DUP_HI; reset 0 -/
  dupHandle : Handle := 0
  /-- ARM: the handle is armed as a duplicate; 14_weighing R835; reset false -/
  dupArmed : Bool := false
  deriving DecidableEq, Repr

/-! ### Sparse tables and memories -/

/-- A sparse table: keys strictly rising (Machine/Ops.lean gives the operations). -/
abbrev Sparse (α : Type) := List (Nat × α)

/-- A byte memory: Host cells, keys strictly rising, no cell holding 0x00; an unlisted address
reads 0x00. -/
abbrev Memory := List Host.Cell

/-! ### Jobs (05_loam) -/

/-- Descriptor states (05_loam, "Descriptor state machine"). -/
inductive JobState where
  | free | filled | ready | dispatched | active | done | cancelled | failed
  deriving DecidableEq, Repr

/-- A job that is offered to or held by a peer (17_ryine, "Migration"). -/
structure Migration where
  migId : Word
  peer : Fin 16
  peerHead : Fin 4
  /-- ACCEPT has been taken -/
  accepted : Bool
  /-- STARTED has been taken -/
  started : Bool
  /-- a cancel has sent REVOKE and awaits the answer -/
  revoking : Bool
  /-- order of the acceptance (17_ryine R955) -/
  acceptOrder : Nat
  /-- bytes of blocks already read and not yet sent -/
  buf : List Byte
  /-- next band whose block is to be read, and the band after the last -/
  nextBand : Nat
  endBand : Nat
  /-- number of the next MIG_DATA frame -/
  nextFrame : Nat
  /-- every data frame has been queued -/
  sent : Bool
  deriving DecidableEq, Repr

/-- A job received from a peer (17_ryine, "Migration, receiving side"). -/
structure GuestLink where
  node : Fin 16
  migId : Word
  slot : Fin 4
  deriving DecidableEq, Repr

/-- One handle of a VI with its descriptor (05_loam, "Descriptors, handles and quotas"). -/
structure Job where
  /-- descriptor state; 05_loam "Descriptor state machine"; reset FREE -/
  state : JobState := .free
  /-- descriptor words 0 to 7; 05_loam R290; reset 0 -/
  word : Vector Par 8 := Vector.replicate 8 0
  /-- acceptance order; 05_loam R310; reset 0 -/
  order : Nat := 0
  /-- instant (µs) at which the job became READY; 05_loam "Migration decisions"; reset 0 -/
  readyAt : Nat := 0
  /-- instant (µs) before which the job is not eligible again after a refused issue; 05_loam R316; reset 0 -/
  notBefore : Nat := 0
  /-- latest instant (µs) at which an eligibility condition became true; 05_loam "Sharing a head"; reset 0 -/
  eligibleAt : Nat := 0
  /-- the job was eligible with c_g at or above 0 at the last accounting; 05_loam "Sharing a head"; reset false -/
  wasEligible : Bool := false
  /-- instant (µs) of DISPATCHED; 05_loam "Sharing a head"; reset 0 -/
  dispatchedAt : Nat := 0
  /-- surplus class at dispatch; 05_loam "Sharing a head"; reset false -/
  surplusClass : Bool := false
  /-- migration to a peer, REMOTE = 1; 05_loam R345; reset none -/
  remote : Option Migration := none
  /-- job received from a peer; 05_loam R347; reset none -/
  guest : Option GuestLink := none
  /-- record sequence issued for a LEGAL_LABEL job; 13_kaolin_island R769; reset none -/
  record : Option (BitVec 32) := none
  /-- since when (µs) the migration margin has held; 05_loam "Migration decisions"; reset none -/
  marginSince : Option Nat := none
  /-- the chain of the job, named by the acceptance order of its first job; 05_loam R318; reset none -/
  chain : Option Nat := none
  /-- a later job of the chain was lost before the chain began, so it never is complete; 05_loam R319; reset false -/
  broken : Bool := false
  deriving DecidableEq, Repr

/-- Lines, line time and pause time of one millisecond of printing (05_loam, "Capacity"). -/
structure CapSample where
  /-- the millisecond -/
  ms : Nat
  lines : Nat
  /-- sum of the line periods of the lines burnt, s -/
  lineTime : Rat
  /-- sum of the paused line periods, s -/
  pauseTime : Rat
  deriving DecidableEq, Repr

/-- A stopped page to be purged (04_tenancy R280). -/
structure Purge where
  /-- axis position of the end of the stopped page at the print line, microsteps; 04_tenancy R280 -/
  endAt : Int
  /-- length of the stopped page, microsteps; 04_tenancy R281 -/
  length : Int
  /-- the stopped page is empty; 11_media_outputs R661 -/
  empty : Bool
  deriving DecidableEq, Repr

/-- A job of a VI named by VI and handle. -/
structure JobRef where
  vi : Fin 8
  handle : Handle
  deriving DecidableEq, Repr

/-- Loam's state of one head. -/
structure LoamHead where
  /-- the job DISPATCHED or ACTIVE on the head here; 05_loam R312; reset none -/
  running : Option JobRef := none
  /-- LEGAL_LABEL job for which the head is reserved; 05_loam R316; reset none -/
  reserved : Option JobRef := none
  /-- purge-pending; 04_tenancy R280; reset none -/
  purge : Option Purge := none
  /-- the purge feed or its cut runs; 04_tenancy R280; reset false -/
  purging : Bool := false
  /-- the purge cut has been made; 04_tenancy R280; reset false -/
  purgeCut : Bool := false
  /-- axis position at the start of the purge; 04_tenancy R280; reset 0 -/
  purgeFrom : Int := 0
  /-- loam.cap_h; 05_loam R328; reset R_nom = 4,800 -/
  cap : Nat := 4800
  /-- C_h last notified; 05_loam R332; reset 4,800 -/
  capNotified : Nat := 4800
  /-- the milliseconds in which the head printed, newest first; 05_loam "Capacity"; reset empty -/
  history : List CapSample := []
  /-- the chain in progress on the head, with its VI; 05_loam R319; reset none -/
  chain : Option (Fin 8 × Nat) := none
  deriving DecidableEq, Repr

/-- A command that the device source has waiting for Loam or the cut path is in `Island`. Loam as a
whole. -/
structure Loam where
  /-- descriptors of each VI by handle; 05_loam "Descriptors, handles and quotas"; reset FREE -/
  jobs : Vector (Vector Job 16) 8 := Vector.replicate 8 (Vector.replicate 16 {})
  /-- Loam's state of each head; 05_loam "Sharing a head"; reset idle -/
  head : Vector LoamHead 4 := Vector.replicate 4 {}
  /-- next acceptance order; 05_loam R310; reset 0 -/
  nextOrder : Nat := 0
  /-- instant (µs) up to which the credits have risen; 05_loam R323; reset 0 -/
  creditAt : Nat := 0
  deriving DecidableEq, Repr

/-! ### Raster memory (06_silt) -/

/-- The block stored for a band (06_silt, "The store"). -/
structure Band where
  /-- store chunks in chain order, at most 17; 06_silt "The store" -/
  chunks : List Nat
  /-- the chunks lie in external memory -/
  external : Bool
  /-- the stored copy has been lost; 06_silt R415 -/
  lost : Bool
  deriving DecidableEq, Repr

/-- What a frame taken by a VI holds (06_silt, "Frames"). -/
inductive FrameUse where
  /-- the current version of a page -/
  | page (p : Nat)
  /-- an old version of a page, kept for the fetchers that pinned it (06_silt R412) -/
  | detached (p : Nat)
  /-- four store chunks, bit n: chunk 4f + n in use or reserved (06_silt R377) -/
  | store (used : BitVec 4)
  deriving DecidableEq, Repr

/-- A frame held by a VI. -/
structure Frame where
  owner : Fin 8
  use : FrameUse
  /-- reference bit; 06_silt R372 -/
  ref : Bool
  /-- pins: bits 0 to 3 the fetchers, bit 4 the read stream of the VI; 06_silt R363 -/
  pins : BitVec 5
  deriving DecidableEq, Repr

/-- Classes of a fault (06_silt, "Fault resolution"). -/
inductive FaultClass where
  /-- of a head fetcher, with its line deadline in µs -/
  | demand (head : Fin 4) (deadline : Nat)
  | read
  | prefetch (head : Fin 4)
  deriving DecidableEq, Repr

/-- A fault waiting for or in decode (06_silt R383). -/
structure PageFault where
  vi : Fin 8
  page : Nat
  cls : FaultClass
  raisedAt : Nat
  deriving DecidableEq, Repr

/-- The band decode in progress (06_silt R383, R384). -/
structure Decode where
  vi : Fin 8
  band : Nat
  /-- last page to decode, 0 to 3 -/
  last : Nat
  /-- next page that becomes RESIDENT -/
  next : Nat
  /-- chunks of the version being decoded -/
  chunks : List Nat
  external : Bool
  /-- bytes of its block, when a VI reset has freed the band meanwhile: the page in progress is completed and freed
  (04_tenancy R266) -/
  freed : Option (List Byte) := none
  deriving DecidableEq, Repr

/-- The slot arbiter (06_silt, "The slot arbiter"). -/
structure Arbiter where
  /-- committed slot table, owner code of each of the 64 entries; 06_silt R401; reset the default pattern -/
  table : Vector (BitVec 4) 64 := Vector.ofFn fun p =>
    (#v[1, 0, 6, 7, 2, 5, 0, 8, 3, 0, 6, 7, 4, 5, 9, 15] : Vector (BitVec 4) 16)[p.val % 16]'(by omega)
  /-- committed burst limits of owner codes 0 to 9; 06_silt R404; reset 16, 40 (r1 to r4), 8 (r7, r8) -/
  burst : Vector Nat 10 := #v[16, 40, 40, 40, 40, 16, 16, 8, 8, 16]
  /-- a commit waits for position 0, with the table and burst limits it carries; 06_silt R406; reset none -/
  pending : Option (Vector (BitVec 4) 64 × Vector Nat 10) := none
  /-- silt.arb_apply.REFUSED; 06_silt R406; reset false -/
  refused : Bool := false
  /-- MX clock t: the position is t mod 64, and claims are stamped with it; 06_silt R401; reset 0 -/
  clock : Nat := 0
  /-- outstanding claims, oldest first, with their stamps; 06_silt R401; reset empty -/
  claims : List (Fin 10 × Nat) := []
  /-- grant in force and the beats it has left; 06_silt R404; reset none -/
  grant : Option (Fin 10 × Nat) := none
  /-- beats in the queue of the memory port, at most 64; 06_silt R382; reset 0 -/
  port : Nat := 0
  /-- previous background winner; 06_silt R403; reset 9 -/
  bgLast : Fin 10 := 9
  /-- silt.arb_wait_max; 06_silt R410; reset 0 -/
  waitMax : Nat := 0
  deriving DecidableEq, Repr

/-- Silt as a whole. -/
structure Silt where
  /-- stored bands, key 4,096 x VI index + band; 06_silt "Bands and pages"; reset empty -/
  bands : Sparse Band := []
  /-- frames held by VIs, key frame number below 1,408; 06_silt "Frames"; reset empty -/
  frames : Sparse Frame := []
  /-- on-chip SRAM contents, address 4,096 x frame + offset; 06_silt "Frames"; reset nothing listed -/
  sram : Memory := []
  /-- external memory contents, address 1,024 x chunk + offset; 06_silt "The store"; reset nothing listed -/
  dram : Memory := []
  /-- store chunks in use or reserved in external memory, rising; 06_silt R376; reset empty -/
  extUsed : List Nat := []
  /-- external memory is fitted and trained: the store is placed there; 06_silt R376; reset false -/
  external : Bool := false
  /-- silt.mem_stat FITTED, TRAINED, LOST; 06_silt silt.mem_stat; reset 0 -/
  memStat : BitVec 3 := 0
  /-- size of the external memory in chunks; 06_silt "The store"; reset 0 -/
  extChunks : Nat := 0
  /-- silt.underruns; 06_silt R399; reset 0 -/
  underruns : BitVec 32 := 0
  /-- faults waiting, oldest first; 06_silt R383; reset empty -/
  faults : List PageFault := []
  /-- the band decode in progress; 06_silt R383; reset none -/
  decode : Option Decode := none
  /-- slot arbiter; 06_silt R401; reset the default table -/
  arb : Arbiter := {}
  deriving DecidableEq, Repr

/-! ### Marl (07_marl) -/

/-- An ingest buffer in use (07_marl, "Ingest buffers"). -/
structure IngestBuffer where
  vi : Fin 8
  band : Nat
  /-- bytes gathered, in raster order, at most 16,384 -/
  bytes : List Byte
  /-- the band has closed; 07_marl R427 -/
  closed : Bool
  /-- order of closing; 07_marl R454 -/
  closedOrder : Nat
  /-- speckle drop or dither was applied: header bits SPECKLE and DITHER -/
  speckle : Bool
  dither : Bool
  /-- its STORE_FULL has been raised; 06_silt R379 -/
  storeFull : Bool
  /-- its output is to be freed instead of placed; 07_marl R461, 04_tenancy R265 -/
  discard : Bool
  deriving DecidableEq, Repr

/-- The block being coded (07_marl R430). -/
structure Coding where
  /-- ingest buffer -/
  buffer : Fin 8
  /-- reserved chunks; 07_marl R434 -/
  chunks : List Nat
  external : Bool
  deriving DecidableEq, Repr

/-- Ingest conversion of a VI's stream in progress (07_marl, "Speckle drop", "Dither-on-ingest"). -/
structure Ingest where
  /-- conversion in force: 0 none, 1 speckle drop, 2 dither; 07_marl R451; reset 0 -/
  mode : BitVec 2 := 0
  /-- bpl in force; 07_marl R451; reset 0 -/
  bpl : Nat := 0
  /-- protected rectangles in force: first line, lines, first dot, dots; 07_marl R451; reset empty -/
  rects : List (Nat × Nat × Nat × Nat) := []
  /-- raster address of the next byte put into an ingest buffer; 07_marl R447; reset 0 -/
  out : Nat := 0
  /-- speckle drop: line above `current`; 07_marl "Speckle drop"; reset empty -/
  above : List Byte := []
  /-- speckle drop: line whose decisions wait for the line below; 07_marl R442; reset empty -/
  current : List Byte := []
  /-- speckle drop: line being received; 07_marl "Speckle drop"; reset empty -/
  below : List Byte := []
  /-- leading bytes of `current` and of `below` handed over by a FLUSH already; 07_marl R462; reset 0 -/
  currentDone : Nat := 0
  belowDone : Nat := 0
  /-- number of the line being received, from the start of the stream; 07_marl R453; reset 0 -/
  line : Nat := 0
  /-- dither: dots converted of the line being received; 07_marl R446; reset 0 -/
  dot : Nat := 0
  /-- dither: bits of the output byte being formed, most significant first; 07_marl R446; reset empty -/
  bits : List Bool := []
  /-- dither: error taken by the next dot of this line; 07_marl "Dither-on-ingest"; reset 0 -/
  errRight : Int := 0
  /-- dither: errors of this line from the next dot on; 07_marl "Dither-on-ingest"; reset empty -/
  errRow : List Int := []
  /-- dither: errors gathered for the next line, that of the next dot first and then backward; 07_marl "Dither-on-ingest"; reset empty -/
  errNext : List Int := []
  /-- dither: shift register; 07_marl R448; reset 0 -/
  lfsr : Word := 0
  /-- content handed over by a FLUSH, held for the band that reopens; 07_marl R462; reset empty -/
  carry : List Byte := []
  /-- converted bytes that wait for the next ingest buffer; 07_marl R425, R442; reset empty -/
  queued : List Byte := []
  deriving DecidableEq, Repr

/-- Marl as a whole. -/
structure Marl where
  /-- ingest buffers 0 to 7; 07_marl R423; reset free -/
  buffer : Vector (Option IngestBuffer) 8 := Vector.replicate 8 none
  /-- conversion state of each VI's stream; 07_marl R451; reset idle -/
  ingest : Vector Ingest 8 := Vector.replicate 8 {}
  /-- the block being coded; 07_marl R427; reset none -/
  coding : Option Coding := none
  /-- last surplus winner; 07_marl "Sharing the compressor"; reset 7 -/
  surplusLast : Fin 8 := 7
  /-- next order of closing; 07_marl R454; reset 0 -/
  nextOrder : Nat := 0
  /-- marl.blocks; 07_marl marl.blocks; reset 0 -/
  blocks : BitVec 32 := 0
  /-- marl.raw_blocks; 07_marl marl.raw_blocks; reset 0 -/
  rawBlocks : BitVec 32 := 0
  /-- marl.verify_fail; 07_marl R433; reset 0 -/
  verifyFail : BitVec 32 := 0
  /-- marl.decode_fail; 07_marl R438; reset 0 -/
  decodeFail : BitVec 32 := 0
  /-- marl.wait_max, MX clocks; 07_marl marl.wait_max; reset 0 -/
  waitMax : BitVec 32 := 0
  /-- instant (µs) up to which the compressor credits have risen; 07_marl "Sharing the compressor"; reset 0 -/
  creditAt : Nat := 0
  deriving DecidableEq, Repr

/-! ### Head ports (08_head_ports) -/

/-- Head service states (08_head_ports R496). -/
inductive HeadState where
  | unfitted | out | powering | inService
  deriving DecidableEq, Repr

/-- Causes of OUT (08_head_ports, head.stat). -/
inductive OutCause where
  | none | manual | notPresent | hotplug | supply | overcurrent | thermistor | dots
  deriving DecidableEq, Repr

/-- Dot classes (08_head_ports, "Dot resistance scan"). -/
inductive DotClass where
  | ok | low | high | short | open | unmeasured
  deriving DecidableEq, Repr

/-- Class and reported resistance of one dot. -/
structure Dot where
  cls : DotClass
  r : Word
  deriving DecidableEq, Repr

/-- The rendered legal field of a head (13_kaolin_island, "The legal field"). -/
structure LegalField where
  /-- text of lines 0 to 4 -/
  text : List String
  /-- cell width and height in dots and lines: 24 x 32, 18 x 24 or 12 x 16 -/
  font : Nat × Nat
  /-- rendered by the main side (NOT FOR TRADE) -/
  legend : Bool
  deriving DecidableEq, Repr

/-- A head port. -/
structure Head where
  /-- service state; 08_head_ports R496; reset UNFITTED -/
  state : HeadState := .unfitted
  /-- cause of OUT; 08_head_ports head.stat; reset none -/
  cause : OutCause := .none
  /-- head.ctrl.ENABLE; 08_head_ports R496; reset false -/
  enable : Bool := false
  /-- ENABLE_REFUSED; 08_head_ports head.stat; reset false -/
  enableRefused : Bool := false
  /-- DISABLE_PENDING; 08_head_ports R499; reset false -/
  disablePending : Bool := false
  /-- retries since the last ENABLE; 08_head_ports R496; reset 0 -/
  retries : BitVec 2 := 0
  /-- Hn_PRES_N is low; 08_head_ports R496; reset false -/
  present : Bool := false
  /-- level of Hn_PEN; 08_head_ports R481; reset false -/
  pen : Bool := false
  /-- POWERING: supply and thermistor have been judged good and the scan runs; 08_head_ports R496; reset false -/
  powerChecked : Bool := false
  /-- a scan is requested; 08_head_ports R486; reset false -/
  scanReq : Bool := false
  /-- a scan is in progress (running or handed over), next dot; 08_head_ports R487; reset none -/
  scanDot : Option Nat := none
  /-- the scan's pulses run now (SCANNING); 08_head_ports head.stat; reset false -/
  scanning : Bool := false
  /-- mean baseline current of the scan, mA; 08_head_ports "Dot resistance scan"; reset 0 -/
  baseline : Rat := 0
  /-- instant (µs) of the end of the last complete scan; 08_head_ports R488; reset none -/
  scanDoneAt : Option Nat := none
  /-- class and resistance of each dot measured since power-up; 08_head_ports R489; reset empty -/
  dots : Sparse Dot := []
  /-- class and resistance of each dot at the end of the last complete scan; 09_energy R521; reset empty -/
  lastScan : Sparse Dot := []
  /-- head.v_meas; 08_head_ports "Sensing"; reset 0 -/
  vMeas : Nat := 0
  /-- head.i_meas; 08_head_ports "Sensing"; reset 0 -/
  iMeas : Nat := 0
  /-- head.t_code; 08_head_ports "Sensing"; reset 0 -/
  tCode : BitVec 12 := 0
  /-- head.r_avg; 08_head_ports head.r_avg; reset 0 -/
  rAvg : Nat := 0
  /-- head.oc_count; 08_head_ports head.oc_count; reset 0 -/
  ocCount : BitVec 32 := 0
  /-- head.trunc; 08_head_ports R474; reset 0 -/
  trunc : BitVec 32 := 0
  /-- consecutive supply samples outside the bounds; 08_head_ports R496; reset 0 -/
  badSupply : Nat := 0
  /-- consecutive implausible thermistor samples; 08_head_ports R496; reset 0 -/
  badTherm : Nat := 0
  /-- dot selected in head.dot_query; 08_head_ports head.dot_query; reset 0 -/
  dotQuery : BitVec 11 := 0
  /-- legal field buffer; 13_kaolin_island R775; reset empty -/
  field : Option LegalField := none
  deriving DecidableEq, Repr

/-! ### Energy control (09_energy) -/

/-- One strobe of a line, or a scan pulse, whose energy waits for the tick in which it ends (09_energy R533, R534). -/
structure Strobe where
  /-- slot of the line and strobe group -/
  slot : Nat
  group : Nat
  /-- instant (µs) at which it begins, and its width, µs -/
  start : Rat
  width : Rat
  /-- it was cut at the latest rise of its slot (08_head_ports R474) -/
  cut : Bool
  /-- energy per segment, µJ -/
  energy : List Rat
  deriving DecidableEq, Repr

/-- Energy control and thermal model of one head. -/
structure Energy where
  /-- energy.t_base, 1/64 µs; 09_energy R512; reset 0 -/
  tBase : Nat := 0
  /-- T_r, 1/16 °C, signed; 09_energy R539; reset 0 -/
  tRef : Int := 0
  /-- T_s, 2^-16 K; 09_energy R538; reset 0 -/
  tSub : BitVec 32 := 0
  /-- T_j of the 64 segments, 2^-16 K; 09_energy R538; reset 0 -/
  node : Vector (BitVec 32) 64 := Vector.replicate 64 0
  /-- D last output per segment; 09_energy R544; reset 0 (the reset of energy.t_seg) -/
  d : Vector Nat 64 := Vector.replicate 64 0
  /-- the nodes wait for the first thermistor sample after FITTED; 09_energy R540; reset false -/
  seedNodes : Bool := false
  /-- energy.pauses; 09_energy R552; reset 0 -/
  pauses : BitVec 32 := 0
  /-- energy.sat; 09_energy R520; reset 0 -/
  sat : BitVec 32 := 0
  /-- p in W, none before the first sample with 8 or more dots since POWERING; 09_energy R531; reset none -/
  p : Option Rat := none
  /-- V_eff at which p was last set, mV; 09_energy R560; reset 0 -/
  pVeff : Nat := 0
  /-- energy.i_idle, mA; 09_energy R536; reset 0 -/
  iIdle : Rat := 0
  /-- strobes of lines and scan pulses not yet taken by a tick, oldest first; 09_energy R533; reset empty -/
  slots : List Strobe := []
  /-- raster lines y-1 and y-2 as printed; 09_energy R516; reset empty -/
  prev1 : List Bool := []
  prev2 : List Bool := []
  /-- white run of each dot in lines before the next one; 09_energy R525; reset empty -/
  white : List Nat := []
  /-- dots that have received pre-warm since they were last set; 09_energy R527; reset empty -/
  prewarmed : List Bool := []
  /-- marking and pre-warm sub-pulses given in the last line burnt, per dot; 09_energy R522; reset empty -/
  lastMarks : List Nat := []
  lastPrewarm : List Nat := []
  /-- t_sp of the last line burnt, in 1/1,024 µs; 09_energy R515; reset 0 -/
  lastTsp : Nat := 0
  /-- a pause of the current job has been reported; 09_energy R553; reset false -/
  pauseTold : Bool := false
  /-- released from freeze and still slewing; 09_energy R547; reset false -/
  slewing : Bool := false
  /-- envelope conditions that fail: bit 0 T_r, bit 1 v_meas, bit 2 a cut in the last 100 ms; 09_energy R555; reset 0 -/
  envelope : BitVec 3 := 0
  /-- instant (µs) of the last cut strobe; 09_energy R555; reset none -/
  cutAt : Option Nat := none
  deriving DecidableEq, Repr

/-! ### The job running on a paper path (11_media_outputs, "Job phases on a paper path") -/

/-- Phases of the job on a path. -/
inductive Phase where
  /-- TOF phase (R655) -/
  | tof
  /-- TOF phase stopped to cut the pending cut line (R659) -/
  | tofCut
  /-- printing, or waiting for its first line -/
  | print
  /-- tail feed (R663) -/
  | tail
  /-- waiting for the interlocks of a cut (R665), or cutting -/
  | cut
  /-- the cut is made and PRINTED awaits its answer (R769) -/
  | printed
  /-- present feed -/
  | present
  /-- the motion of a FEED or PRESENT job -/
  | motion
  deriving DecidableEq, Repr

/-- Causes of a hold (06_silt, "Hold causes"). -/
inductive HoldCause where
  | late | pending | lost | frames | external
  deriving DecidableEq, Repr

/-- A hold in force by the guard (06_silt R393). -/
structure Hold where
  cause : HoldCause
  /-- page whose arrival ends the hold -/
  page : Nat
  /-- line at whose position the axis stops -/
  stopLine : Nat
  /-- instant (µs) of the start -/
  since : Nat
  deriving DecidableEq, Repr

/-- The job on a paper path. -/
structure Run where
  job : JobRef
  phase : Phase
  /-- next line to begin -/
  line : Nat
  /-- next line to fetch -/
  fetchNext : Nat
  /-- lines fetched whole and not yet begun, from `line` on, as printed -/
  fetched : List (List Bool)
  hold : Option Hold
  /-- the line at `line` waits for its grant (thermal pause) -/
  paused : Bool
  /-- position p_0 of the first line, once printing has begun -/
  origin : Option Int
  /-- axis position at the start of the phase or of the job's motion -/
  startPos : Int
  /-- cut line of the job, once known -/
  cutLine : Option Int
  /-- record to report as PRINTED -/
  record : Option (BitVec 32)
  /-- instant (µs) of the cut, for R770 -/
  cutAt : Nat
  /-- a retry answer to PRINTED waits to be sent again (13_kaolin_island R769) -/
  resend : Bool
  /-- lines begun -/
  burnt : Nat
  /-- pages of the window that entered it ABSENT, of a band neither PENDING nor LOST (06_silt R393) -/
  passed : List Nat := []
  /-- instant (µs) from which the paper stands for a line not fetched in time (06_silt R1106) -/
  late : Option Nat := none
  /-- instant (µs) of the start of a hold from outside Silt (06_silt R398) -/
  ext : Option Nat := none
  deriving DecidableEq, Repr

/-! ### Motion (10_motion) -/

/-- Axis states (10_motion R567). -/
inductive AxisState where
  | off | idle | moving | stopping | fault
  deriving DecidableEq, Repr

/-- Who asked for a move. -/
inductive MoveOwner where
  /-- a phase of the job on this head's path -/
  | job (head : Fin 4)
  /-- the purge of this head -/
  | purge (head : Fin 4)
  /-- label length learning of this head -/
  | learn (head : Fin 4)
  /-- a service move (10_motion R617) -/
  | service
  deriving DecidableEq, Repr

/-- A move (10_motion, "The step generator and profiles"). -/
structure Move where
  /-- position at which the move ends; of a move that has not started with a distance, none yet -/
  target : Int
  /-- signed distance from where the move starts, microsteps: of a job's or service move until its start -/
  dist : Option Int := none
  /-- v_run, mm/s -/
  speed : Rat
  /-- a_acc, mm/s² -/
  acc : Nat
  owner : MoveOwner
  /-- line-locked printing: no target of its own -/
  lineLocked : Bool
  /-- the move is decelerating to its target (10_motion R596, R597) -/
  braking : Bool := false
  deriving DecidableEq, Repr

/-- Chopper of one phase (10_motion, "The chopper"). -/
inductive Chop where
  /-- slow decay with the DAC code at 0 -/
  | slow
  /-- drive, negative or not, since an instant (µs), with a blanking time in 0.2 µs; `turned` when it follows drive of
  the other polarity -/
  | drive (neg : Bool) (since blank : Nat) (turned : Bool)
  /-- the off-time after drive, since an instant (µs), with axis.chop as it was then -/
  | offTime (neg : Bool) (since : Nat) (chop : Par)
  deriving DecidableEq, Repr

/-- A stepper axis. -/
structure Axis where
  /-- axis state; 10_motion R567; reset OFF -/
  state : AxisState := .off
  /-- UNCERTAIN; 10_motion R614; reset true -/
  uncertain : Bool := true
  /-- REDUCED; 10_motion R584; reset false -/
  reduced : Bool := false
  /-- limit inputs active after debounce; 10_motion R606; reset inactive -/
  lim0 : Bool := false
  lim1 : Bool := false
  /-- Mn_FLT_N is low; 10_motion R567; reset false -/
  flt : Bool := false
  /-- last hard stop cause; 10_motion axis.stat; reset 0 -/
  stopCause : BitVec 3 := 0
  /-- ENABLE_REFUSED; 10_motion R568; reset false -/
  enableRefused : Bool := false
  /-- refuse_cause; 10_motion R568, R618; reset 0 -/
  refuseCause : BitVec 3 := 0
  /-- NEG; 10_motion axis.stat; reset false -/
  neg : Bool := false
  /-- position, signed 32-bit microsteps; 10_motion "Position, microsteps and the table"; reset 0 -/
  pos : BitVec 32 := 0
  /-- speed, mm per 50,000,000 MO clocks: mm/s off RC fallback; 10_motion "The step generator and profiles", R594;
  reset 0 -/
  speed : Rat := 0
  /-- the running move; 10_motion R595; reset none -/
  move : Option Move := none
  /-- the queued move; 10_motion R600; reset none -/
  queued : Option Move := none
  /-- deceleration of the stop ramp in force, mm/s²; 10_motion R610; reset none -/
  stopAt : Option Rat := none
  /-- position at which a hold brings the axis to rest; 10_motion R598; reset none -/
  holdAt : Option Int := none
  /-- the axis stands at a line position without a ramp; 10_motion "Line-locked printing"; reset false -/
  standing : Bool := false
  /-- highest position since the last reverse reference; 10_motion R603; reset 0 -/
  revHigh : BitVec 32 := 0
  /-- choppers of phases A and B; 10_motion R579; reset slow decay -/
  chopA : Chop := .slow
  chopB : Chop := .slow
  /-- axis.faults; 10_motion R616; reset 0 -/
  faults : BitVec 32 := 0
  /-- the running move resumes after a reference failure; 10_motion R633; reset false -/
  resume : Bool := false
  /-- axis.ctrl.ENABLE; 10_motion axis.ctrl; reset false -/
  enable : Bool := false
  deriving DecidableEq, Repr

/-- Cutter states (10_motion R620). -/
inductive CutState where
  | off | home | cutting | returning | braking | jammed
  deriving DecidableEq, Repr

/-- The DC cutter of axis 3 (10_motion, "Cutter mode"). -/
structure Cutter where
  /-- cutter state; 10_motion R620; reset OFF -/
  state : CutState := .off
  /-- home input, true: home; 10_motion R619; reset false -/
  home : Bool := false
  /-- home has been left in this cycle; 10_motion R620; reset false -/
  left : Bool := false
  /-- the cycle is a partial cut; 10_motion R620; reset false -/
  isPartial : Bool := false
  /-- FAULT flag of the last cycle; 10_motion R620; reset false -/
  fault : Bool := false
  /-- cut.count; 10_motion cut.count; reset 0 -/
  count : BitVec 32 := 0
  /-- instant (µs) of entry to the present state; 10_motion CUTTER_FAULT; reset 0 -/
  since : Nat := 0
  /-- head whose job, purge or TOF cut runs the cycle; 11_media_outputs R665; reset none -/
  head : Option (Fin 4) := none
  /-- the job that started the cycle still waits for it; 10_motion R624; reset false -/
  waits : Bool := false
  deriving DecidableEq, Repr

/-! ### Media (11_media_outputs) -/

/-- A feed that seeks a label edge. -/
inductive SeekKind where
  | tof | tail | learn
  deriving DecidableEq, Repr

/-- Media sensing of one head's path. -/
structure Media where
  /-- media.gap_thr; 11_media_outputs R640; reset 2,048 -/
  gapThr : Nat := 2048
  /-- media.mark_thr; 11_media_outputs R640; reset 2,048 -/
  markThr : Nat := 2048
  /-- released from freeze and still slewing, gap and mark; 11_media_outputs R643; reset false -/
  gapSlewing : Bool := false
  markSlewing : Bool := false
  /-- L_lab and L_gap; 11_media_outputs media.levels; reset 0 -/
  levLab : Nat := 0
  levGap : Nat := 0
  /-- pitch and mean gap length, 0.1 mm; 11_media_outputs R645; reset 0 -/
  pitch : Nat := 0
  gapLen : Nat := 0
  /-- LEARNED; 11_media_outputs R645; reset false -/
  learned : Bool := false
  /-- pending cut line, microsteps; 11_media_outputs media.cut_line; reset none -/
  cutLine : Option Int := none
  /-- the cut line of a job that has ended waits for its leading edge; 11_media_outputs R662; reset false -/
  cutWait : Bool := false
  /-- media.skipped; 11_media_outputs R656; reset 0 -/
  skipped : BitVec 32 := 0
  /-- label starts and leading edges confirmed, newest first, at most 8 each; 11_media_outputs R638; reset empty -/
  starts : List Int := []
  leads : List Int := []
  /-- recorded label starts that a TOF phase has counted as skipped, or at whose TOF it has ended; 11_media_outputs
  R656; reset empty -/
  past : List Int := []
  /-- confirmed side, true: gap; 11_media_outputs R636; reset none -/
  side : Option Bool := none
  /-- run of samples on one side: side, count, position of the first, sum of codes; 11_media_outputs R636; reset none -/
  run : Option (Bool × Nat × Int × Nat) := none
  /-- sum and number of label-side and gap-side samples; 11_media_outputs "Threshold tracking"; reset 0 -/
  labSum : Nat := 0
  labCount : Nat := 0
  gapSum : Nat := 0
  gapCount : Nat := 0
  /-- last pitches and gap lengths, microsteps, newest first; 11_media_outputs R645; reset empty -/
  pitches : List Int := []
  gaps : List Int := []
  /-- consecutive predicted label starts; 11_media_outputs R646; reset 0 -/
  predicted : Nat := 0
  /-- learning feed in progress; 11_media_outputs R648; reset false -/
  learning : Bool := false
  /-- seek in progress and the position at its start; 11_media_outputs R657; reset none -/
  seek : Option (SeekKind × Int) := none
  /-- Hn_PE_N low; 11_media_outputs media.stat; reset false -/
  peLow : Bool := false
  /-- Hn_COV_N low; 11_media_outputs media.stat; reset false -/
  covLow : Bool := false
  /-- PAPER_LOW; 11_media_outputs R649; reset false -/
  paperLow : Bool := false
  /-- PAPER_END; 11_media_outputs R650; reset false -/
  paperEnd : Bool := false
  /-- COVER_OPEN; 11_media_outputs R651; reset false -/
  coverOpen : Bool := false
  /-- position of the paper axis when PAPER_LOW was set; 11_media_outputs R650; reset 0 -/
  lowPos : Int := 0
  deriving DecidableEq, Repr

/-! ### Lamps (11_media_outputs) -/

/-- Lamp channel states (11_media_outputs R669). -/
inductive LampState where
  | off | waiting | inrush | on | tripped
  deriving DecidableEq, Repr

/-- One lamp or solenoid channel. -/
structure Lamp where
  /-- channel state; 11_media_outputs R669; reset OFF -/
  state : LampState := .off
  /-- OPEN; 11_media_outputs R674; reset false -/
  isOpen : Bool := false
  /-- OVERLOAD, cause of the last trip; 11_media_outputs lamp.stat; reset false -/
  overload : Bool := false
  /-- LIMITING; 11_media_outputs lamp.stat; reset false -/
  limiting : Bool := false
  /-- the limit comparator tripped in the present period; 11_media_outputs R672; reset false -/
  blanked : Bool := false
  /-- duty in force, /256; 11_media_outputs lamp.stat; reset 0 -/
  duty : Nat := 0
  /-- commanded duty, /256, last commanded; 11_media_outputs R667; reset none -/
  command : Option Nat := none
  /-- PWM periods of the inrush so far; 11_media_outputs R671; reset 0 -/
  period : Nat := 0
  /-- order of the ON request; 11_media_outputs R670; reset 0 -/
  order : Nat := 0
  /-- lamp.i_meas; 11_media_outputs lamp.i_meas; reset 0 -/
  iMeas : Nat := 0
  /-- lamp.trips; 11_media_outputs lamp.trips; reset 0 -/
  trips : BitVec 32 := 0
  deriving DecidableEq, Repr

/-- Everything that prints, moves and lights. -/
structure Paper where
  /-- head ports; 08_head_ports R496; reset UNFITTED -/
  head : Vector Head 4 := Vector.replicate 4 {}
  /-- energy control; 09_energy R537; reset as its fields -/
  energy : Vector Energy 4 := Vector.replicate 4 {}
  /-- job on each head's path; 11_media_outputs "Job phases on a paper path"; reset none -/
  run : Vector (Option Run) 4 := Vector.replicate 4 none
  /-- axes; 10_motion R567; reset OFF -/
  axis : Vector Axis 4 := Vector.replicate 4 {}
  /-- cutter; 10_motion R620; reset OFF -/
  cutter : Cutter := {}
  /-- media; 11_media_outputs R638; reset as its fields -/
  media : Vector Media 4 := Vector.replicate 4 {}
  /-- lamps; 11_media_outputs R669; reset OFF -/
  lamp : Vector Lamp 8 := Vector.replicate 8 {}
  /-- next order of an ON request; 11_media_outputs R670; reset 0 -/
  lampOrder : Nat := 0
  deriving DecidableEq, Repr

/-! ### Converters and die temperature (12_analog_thermal) -/

/-- A conversion that is due (12_analog_thermal R698). -/
structure Due where
  /-- priority of "System conversions" -/
  prio : Nat
  /-- instant (µs) at which it fell due -/
  since : Nat
  /-- head, channel or check number -/
  number : Nat
  deriving DecidableEq, Repr

/-- One converter with its sequencer. -/
structure Converter where
  /-- system conversions and plausibility checks due on the converter, in the order in which it begins them;
  12_analog_thermal R698; reset empty -/
  due : List Due := []
  /-- a pass is in progress, its delay included (RUNNING); 12_analog_thermal R702; reset false -/
  running : Bool := false
  /-- the trigger delay of the pass still runs; 12_analog_thermal R693; reset false -/
  delaying : Bool := false
  /-- POWERED; 12_analog_thermal R691; reset false -/
  powered : Bool := false
  /-- entry in progress; 12_analog_thermal adc.stat; reset 0 -/
  entry : Fin 16 := 0
  /-- passes; 12_analog_thermal adc.stat; reset 0 -/
  passes : Word := 0
  /-- sum of the codes of the entry in progress; 12_analog_thermal R708; reset 0 -/
  sum : Nat := 0
  /-- conversions of the entry done; 12_analog_thermal R702; reset 0 -/
  done : Nat := 0
  /-- a conversion of the entry was aborted or postponed; 12_analog_thermal R710; reset false -/
  late : Bool := false
  /-- ABORT waits for the end of the conversion in progress; 12_analog_thermal R707; reset false -/
  aborting : Bool := false
  /-- limits in force for the pass; 12_analog_thermal R706; reset 0xFFFF_0000 -/
  limits : Vector Par 16 := Vector.replicate 16 0xFFFF0000
  /-- result words; 12_analog_thermal R709; reset 0 -/
  result : Vector Par 16 := Vector.replicate 16 0
  /-- last result of the entry lay outside its limits; 12_analog_thermal R711; reset false -/
  outside : Vector Bool 16 := Vector.replicate 16 false
  /-- adc.overruns; 12_analog_thermal R704; reset 0 -/
  overruns : BitVec 32 := 0
  /-- instant (µs) of the last TRIG_OVERRUN; 12_analog_thermal R704; reset none -/
  overrunAt : Option Nat := none
  /-- adc.skips; 12_analog_thermal R700; reset 0 -/
  skips : BitVec 32 := 0
  /-- adc.aborts; 12_analog_thermal R699; reset 0 -/
  aborts : BitVec 32 := 0
  deriving DecidableEq, Repr

/-- One plausibility check. -/
structure Plaus where
  /-- adc.plaus_res; 12_analog_thermal R716; reset 0 -/
  codeA : BitVec 12 := 0
  codeB : BitVec 12 := 0
  fail : Bool := false
  /-- adc.plaus_miss; 12_analog_thermal R717; reset 0 -/
  miss : BitVec 32 := 0
  deriving DecidableEq, Repr

/-- Converters and die temperature. -/
structure Analog where
  /-- ADC-A and ADC-B; 12_analog_thermal R690; reset as their fields -/
  conv : Vector Converter 2 := Vector.replicate 2 {}
  /-- plausibility checks; 12_analog_thermal R715; reset 0 -/
  plaus : Vector Plaus 4 := Vector.replicate 4 {}
  /-- die.temp, signed 1/16 °C; 12_analog_thermal R718; reset 0 -/
  temp : Int := 0
  /-- die.temp.VALID; 12_analog_thermal R719; reset false -/
  valid : Bool := false
  /-- die.temp_max, none since its last read; 12_analog_thermal die.temp_max; reset none -/
  tempMax : Option Int := none
  /-- throttle level; 12_analog_thermal R720; reset 0 -/
  level : Fin 3 := 0
  /-- FLASH_OK; 12_analog_thermal R732; reset false -/
  flashOk : Bool := false
  /-- DIODE_FAULT; 12_analog_thermal R719; reset false -/
  diodeFault : Bool := false
  /-- consecutive implausible updates; 12_analog_thermal R719; reset 0 -/
  badRun : Nat := 0
  /-- consecutive plausible updates; 12_analog_thermal R719; reset 0 -/
  goodRun : Nat := 0
  /-- consecutive updates below the leaving temperature of the level; 12_analog_thermal R720; reset 0 -/
  belowRun : Nat := 0
  /-- µs spent at level 1 and 2 since wake; 12_analog_thermal die.throttle_time; reset 0 -/
  level1Time : Nat := 0
  level2Time : Nat := 0
  /-- die.shutdowns; 12_analog_thermal R728; reset DESIGN CHOICE 0 (flash contents) -/
  shutdowns : BitVec 32 := 0
  /-- die.last_sd: the last thermal record committed; 12_analog_thermal R728; reset DESIGN CHOICE none (flash contents) -/
  lastSd : Option ThermalRecord := none
  deriving DecidableEq, Repr

/-! ### The Kaolin island (13_kaolin_island, 14_weighing) -/

/-- Island states (13_kaolin_island R750). -/
inductive IslandState where
  | inactive | selfTest | operational | inhibited
  deriving DecidableEq, Repr

/-- Who sent a protective-interface command (13_kaolin_island, "The protective interface"). -/
inductive LegSource where
  | tenant (vi : Fin 8)
  /-- Loam, for the head reserved -/
  | loam (head : Fin 4)
  /-- the cut path, for the job on the head -/
  | cut (head : Fin 4)
  deriving DecidableEq, Repr

/-- A protective-interface command in the mailbox or in the island. -/
structure LegCommand where
  source : LegSource
  code : BitVec 4
  tag : BitVec 4
  arg : Par
  /-- its sender no longer wants the answer (13_kaolin_island R763, R795) -/
  orphan : Bool
  deriving DecidableEq, Repr

/-- A response of the island that has not yet reached the main side (13_kaolin_island R764). -/
structure LegResponse where
  cmd : LegCommand
  rsp : Byte
  d : Vector Word 4
  deriving DecidableEq, Repr

/-- A record slot holding a valid record (14_weighing, "Records"). -/
structure Record where
  seq : BitVec 32
  net : BitVec 32
  tare : BitVec 31
  preset : Bool
  /-- word 3 -/
  word3 : Par
  time : BitVec 48
  check : BitVec 40
  printed : Bool
  dups : BitVec 4
  deriving DecidableEq, Repr

/-- An entry of the change log (13_kaolin_island, legal.log). -/
structure ChangeEntry where
  counter : BitVec 32
  index : Word
  kind : Byte
  old : Par
  new : Par
  time : BitVec 48
  deriving DecidableEq, Repr

/-- A legal firmware image (13_kaolin_island, "Identification, epochs and the seal"). -/
structure LegalImage where
  version : Par
  epoch : Word
  peerLo : Word
  peerHi : Word
  ident : Par
  deriving DecidableEq, Repr

/-- Non-volatile memory and working state of the island. -/
structure Island where
  /-- island state; 13_kaolin_island R750; reset INACTIVE -/
  state : IslandState := .inactive
  /-- latched causes 0x01 to 0x09 except SEAL_OPEN, as bits; 13_kaolin_island R752; reset 0 -/
  latched : BitVec 16 := 0
  /-- weighing causes present, bit n: cause 0x10 + n; 14_weighing R818; reset 0 -/
  causes : Word := 0
  /-- the seal is open; 13_kaolin_island R781; reset false -/
  sealOpen : Bool := false
  /-- the island supplies are within limits and KRST_N is high; 13_kaolin_island R750; reset false -/
  powered : Bool := false
  /-- NOISE_FAIL; 13_kaolin_island R787; reset false -/
  noiseFail : Bool := false
  /-- legal.serial; 13_kaolin_island legal.serial; reset DESIGN CHOICE 0 (identity area) -/
  serial : Par := 0
  /-- record key; 13_kaolin_island R786; reset DESIGN CHOICE none (identity area) -/
  key : Option (BitVec 256) := none
  /-- legal.boot_nonce; 13_kaolin_island R786; reset 0 -/
  bootNonce : Par := 0
  /-- legal image slots; 13_kaolin_island R780; reset DESIGN CHOICE version 1.0, epoch 1 in slot A (island memory) -/
  image : Vector (Option LegalImage) 2 :=
    #v[some { version := 0x00010000, epoch := 1, peerLo := 0, peerHi := 0xFFFF, ident := 0 }, none]
  /-- active slot; 13_kaolin_island R780; reset DESIGN CHOICE 0 -/
  active : Fin 2 := 0
  /-- slot activated at the next SELF_TEST; 13_kaolin_island R780; reset none -/
  nextImage : Option (Fin 2) := none
  /-- legal parameters written, two equal copies, key index - 0x4200; 14_weighing R839; reset DESIGN CHOICE never written -/
  params : Option (Vector Par 32) := none
  /-- values in use since the last SELF_TEST; 14_weighing R840; reset 0 -/
  live : Vector Par 32 := Vector.replicate 32 0
  /-- legal.audit; 13_kaolin_island R788; reset DESIGN CHOICE 0 -/
  audit : BitVec 32 := 0
  /-- change log, newest first, at most 32; 13_kaolin_island R791; reset DESIGN CHOICE empty -/
  changes : List ChangeEntry := []
  /-- record ring: slot number and record, slot order; 14_weighing "Records"; reset DESIGN CHOICE empty -/
  records : Sparse Record := []
  /-- slot of the newest record; 14_weighing R826; reset 511 (slot 0 is written first) -/
  newest : Fin 512 := 511
  /-- weigh.lapsed; 14_weighing R826; reset 0 -/
  lapsed : BitVec 32 := 0
  /-- legal.refused; 13_kaolin_island R760; reset 0 -/
  refused : BitVec 32 := 0
  /-- mailbox, oldest first: one tenant and three device entries; 13_kaolin_island R758; reset empty -/
  mailbox : List LegCommand := []
  /-- command taken and awaiting its deciding result; 14_weighing R812; reset none -/
  deciding : Option LegCommand := none
  /-- issue whose ISSUED commit is in progress, with its record; 14_weighing R827; reset none -/
  issuing : Option (LegCommand × Record) := none
  /-- PRINTED whose page program is in progress; 14_weighing R830; reset none -/
  printing : Option (LegCommand × BitVec 32) := none
  /-- PRINTED answered OK and held in RAM until FLASH_OK; 13_kaolin_island R793; reset empty -/
  heldPrinted : List (BitVec 32) := []
  /-- response on its way to the main side; 13_kaolin_island R764; reset none -/
  response : Option LegResponse := none
  /-- the legal display shows the identification after SHOW_ID; 13_kaolin_island R776; reset false -/
  showId : Bool := false
  /-- z64; 14_weighing "Zero, tare and stability"; reset 0 -/
  z64 : Int := 0
  /-- z64 of the initial zero; 14_weighing "Zero, tare and stability"; reset 0 -/
  zInit : Int := 0
  /-- tare T; 14_weighing R814; reset 0 -/
  tare : Nat := 0
  /-- PRESET_TARE; 14_weighing R814; reset false -/
  preset : Bool := false
  /-- g64 of the last results, newest first, at most 50; 14_weighing "Zero, tare and stability"; reset empty -/
  window : List Int := []
  /-- last gross result g64; 14_weighing weigh.gross; reset 0 -/
  g64 : Int := 0
  /-- r_0 to r_3; 14_weighing weigh.r; reset 0 -/
  r : Vector Int 4 := Vector.replicate 4 0
  /-- SNS / DRV x 2^16; 14_weighing weigh.sns; reset 0 -/
  sns : Par := 0
  /-- weigh.diag_res: |Dg| and suspected cell; 14_weighing weigh.diag_res; reset 0, none -/
  dg : Nat := 0
  suspect : Option (Fin 4) := none
  /-- result count, modulo 256; 14_weighing weigh.flags; reset 0 -/
  results : Byte := 0
  /-- consecutive results with SNS / DRV outside, and with r_i at a clamp; 14_weighing "Inhibiting conditions"; reset 0 -/
  snsRun : Nat := 0
  sigRun : Vector Nat 4 := Vector.replicate 4 0
  /-- consecutive failed and passed evaluations of the cell tests; 14_weighing R821; reset 0 -/
  failRun : Nat := 0
  passRun : Nat := 0
  /-- the last result was stable; 14_weighing "Zero, tare and stability"; reset false -/
  stable : Bool := false
  /-- roles 0 to 3: the slice serving each; 14_weighing "The interleaved converter"; reset 0 to 3 -/
  role : Vector (Fin 5) 4 := #v[0, 1, 2, 3]
  /-- spare slice; 14_weighing "The interleaved converter"; reset 4 -/
  spare : Fin 5 := 4
  /-- slices in the order of their time in service, longest first; 14_weighing "The interleaved converter"; reset 0 to 3 -/
  served : List (Fin 5) := [0, 1, 2, 3]
  /-- marked slices; 14_weighing R804; reset 0 -/
  marked : BitVec 5 := 0
  /-- corrections o, g and s of each slice; 14_weighing R803; reset 0 -/
  corr : Vector (Int × Int × Int) 5 := Vector.replicate 5 (0, 0, 0)
  /-- island temperature, signed 1/16 °C; 14_weighing R823; reset 0 -/
  temp : Int := 0
  /-- moves of zero tracking in the last second: instant (µs) and amount, 1/64 e; 14_weighing R816; reset empty -/
  moves : List (Nat × Nat) := []
  /-- instant (µs) of the last display frame; 13_kaolin_island R785; reset none -/
  shownAt : Option Nat := none
  /-- last line sent on UK, as text; 13_kaolin_island "UK port"; reset empty -/
  ukTx : String := ""
  deriving DecidableEq, Repr

/-- The main side of the protective interface. -/
structure Legal where
  /-- legal.epoch_stat result: 0 unchecked, 1 match, 2 mismatch; 13_kaolin_island R777; reset 0 -/
  epochStat : BitVec 2 := 0
  /-- timeouts of legal.if_stat; 13_kaolin_island R763; reset 0 -/
  timeouts : Word := 0
  /-- BUSY answers of legal.if_stat; 13_kaolin_island legal.if_stat; reset 0 -/
  busy : Word := 0
  /-- the island has entered OPERATIONAL and the epochs have not been compared since; 13_kaolin_island R762; reset false -/
  epochOwed : Bool := false
  /-- while PG_K is low after having been high, the island as the mirror last took it; 13_kaolin_island R753; reset none -/
  mirror : Option Island := none
  deriving DecidableEq, Repr

/-! ### Grit (15_grit) -/

/-- Roles of a noise source (15_grit, grit.stat). -/
inductive SourceRole where
  | standby | active | failed
  deriving DecidableEq, Repr

/-- A noise source with its conditioner. -/
structure Source where
  /-- role; 15_grit R852; reset primary ACTIVE, secondary STANDBY -/
  role : SourceRole := .standby
  /-- conditioner register; 15_grit "Conditioner"; reset 0 -/
  s : BitVec 32 := 0
  /-- the next raw bit is the second of its pair; 15_grit "Conditioner"; reset false -/
  second : Bool := false
  /-- last raw bit and length of its run; 15_grit REPEAT; reset false, 0 -/
  lastBit : Bool := false
  run : Nat := 0
  deriving DecidableEq, Repr

/-- An instance of the expander. -/
structure Drbg where
  /-- AES-256 key; 15_grit R860; reset 0 -/
  key : BitVec 256 := 0
  /-- V; 15_grit R860; reset 0 -/
  v : BitVec 128 := 0
  /-- requests since the last instantiation or reseed; 15_grit "Expander instances"; reset 0 -/
  c : Nat := 0
  /-- READY; 15_grit R865; reset false -/
  ready : Bool := false
  /-- STALLED; 15_grit R864; reset false -/
  stalled : Bool := false
  /-- reseeds, modulo 256; 15_grit grit.inst; reset 0 -/
  reseeds : Byte := 0
  /-- grit.c_max; 15_grit R862; reset 0 -/
  cMax : BitVec 32 := 0
  deriving DecidableEq, Repr

/-- The random registers of a window. -/
structure RandPort where
  /-- buffer, oldest first, at most 8 words; 15_grit R867; reset empty -/
  words : List Par := []
  /-- latched high half; 15_grit R868; reset 0 -/
  latch : Word := 0
  /-- VALID; 15_grit R868; reset false -/
  valid : Bool := false
  deriving DecidableEq, Repr

/-- Grit as a whole. -/
structure Grit where
  /-- primary and secondary source; 15_grit R852; reset primary ACTIVE, secondary STANDBY (grit.stat 0x0000_0001) -/
  source : Vector Source 2 := #v[{ role := .active }, {}]
  /-- expander instances 0 to 9; 15_grit "Expander instances"; reset not READY -/
  inst : Vector Drbg 10 := Vector.replicate 10 {}
  /-- random registers of windows 0 to 8; 15_grit R867; reset empty -/
  rand : Vector RandPort 9 := Vector.replicate 9 {}
  /-- words drawn by instance 9 for the device, oldest first; 15_grit "Expander instances"; reset empty -/
  devWords : List Par := []
  /-- emitted bits of the entropy input being gathered, first bit first, at most 1,024; 15_grit "Conditioner"; reset empty -/
  gather : List Bool := []
  /-- complete inputs awaiting release: bits and number since wake; 15_grit R857; reset empty -/
  complete : List (List Bool × Nat) := []
  /-- input released for the next reseed slot, with its number since wake; 15_grit R858; reset none -/
  released : Option (List Bool × Nat) := none
  /-- number of the next entropy input since wake; 15_grit "Expander instances"; reset 0 -/
  nextInput : Nat := 0
  /-- grit.ctrl.RAW; 15_grit R875; reset false -/
  raw : Bool := false
  /-- grit.raw_cfg: source and tap; 15_grit R876; reset 0 -/
  rawCfg : BitVec 2 := 0
  /-- bits of the raw word being gathered, earliest first; 15_grit R876; reset empty -/
  rawBits : List Bool := []
  /-- raw FIFO, oldest first, at most 32 words; 15_grit R876; reset empty -/
  rawFifo : List Par := []
  /-- HV_RAND_STAT.LOST; 15_grit R877; reset false -/
  lost : Bool := false
  /-- grit.switches; 15_grit grit.switches; reset 0 -/
  switches : BitVec 32 := 0
  /-- grit.test_fail: ALIVE, LOCK, REPEAT; 15_grit grit.test_fail; reset 0 -/
  failAlive : Byte := 0
  failLock : Byte := 0
  failRepeat : Byte := 0
  /-- grit.inputs: applied and discarded; 15_grit R857; reset 0 -/
  applied : Word := 0
  discarded : Word := 0
  /-- grit.osc; 15_grit grit.osc; reset 0 -/
  osc : Par := 0
  deriving DecidableEq, Repr

/-! ### Serial ports (16_serial) -/

/-- A main-side serial port U0, U1 or U2. -/
structure Serial where
  /-- receive FIFO of entries, oldest first, at most 64; 16_serial "Receive entries and policies"; reset empty -/
  rx : List Word := []
  /-- transmit FIFO, oldest first, at most 64; 16_serial R899; reset empty -/
  tx : List Byte := []
  /-- in progress on TX: none idle, (false, ch) character ch, (true, n) break of n bit times; 16_serial R901; reset none -/
  sending : Option (Bool × Nat) := none
  /-- break requested, in bit times; 16_serial R901; reset none -/
  breakReq : Option Nat := none
  /-- err counts: parity, framing, receive lost, transmit lost; 16_serial R908; reset 0 -/
  errParity : Byte := 0
  errFraming : Byte := 0
  errRxLost : Byte := 0
  errTxLost : Byte := 0
  /-- SER_RX may be raised; 16_serial R909; reset true -/
  rxArmed : Bool := true
  /-- trimmed divider in force, 0 when not trimmed; 16_serial R894; reset 0 -/
  divT : Word := 0
  /-- settings with which the character or break in progress began; 16_serial R893; reset 0 -/
  txCfg : Par := 0
  /-- ser.rate_err, 0.1 %; 16_serial R896; reset 0 -/
  rateErr : Byte := 0
  /-- the figure is above the tolerance; 16_serial R897; reset false -/
  rateHigh : Bool := false
  /-- owner that takes over after the character in progress; 16_serial R915; reset none -/
  nextOwner : Option (BitVec 4) := none
  deriving DecidableEq, Repr

/-- Serial ports as a whole. -/
structure SerialBlock where
  /-- U0, U1 and U2; 16_serial R886; reset idle -/
  port : Vector Serial 3 := Vector.replicate 3 {}
  /-- owner of U1 and U2 in force; 16_serial R887; reset none -/
  owner : Vector (BitVec 4) 2 := Vector.replicate 2 0
  /-- ser.trim: f_meas and TRIMMING; 16_serial R894; reset 0 -/
  fMeas : Word := 0
  trimming : Bool := false
  deriving DecidableEq, Repr

/-! ### Ryine (17_ryine) -/

/-- Link states (17_ryine, "Errors and bus-off"). -/
inductive LinkState where
  | off | active | passive | busOff
  deriving DecidableEq, Repr

/-- A frame (17_ryine, "Frames"). -/
structure RyFrame where
  type : BitVec 4
  dst : BitVec 5
  payload : List Byte
  src : BitVec 4
  seq : BitVec 4
  /-- attempts made (17_ryine R937) -/
  attempts : Nat
  deriving DecidableEq, Repr

/-- A peer node. -/
structure Peer where
  /-- present; 17_ryine R947; reset false -/
  present : Bool := false
  /-- instant (µs) of the last frame taken from it; 17_ryine ryine.peer_seen; reset none -/
  seenAt : Option Nat := none
  /-- instant (µs) of its last advertisement; 17_ryine R948; reset none -/
  capAt : Option Nat := none
  /-- advertisement: class word and F of each head; 17_ryine ryine.peer_cap; reset 0 -/
  cap : Vector Par 4 := Vector.replicate 4 0
  /-- CAP flags: ACCEPT, RUNNING; guest slots free; 17_ryine CAP; reset 0 -/
  flags : Byte := 0
  slotsFree : Byte := 0
  /-- SEQ of the last frame taken from it; 17_ryine "Arbitration and delivery"; reset none -/
  lastSeq : Option (BitVec 4) := none
  /-- instant (µs) at which a job of this peer was last accepted; 05_loam "Migration decisions"; reset none -/
  acceptedAt : Option Nat := none
  /-- instant (µs) of its last SYNC; 17_ryine R941; reset none -/
  syncAt : Option Nat := none
  deriving DecidableEq, Repr

/-- A guest slot in use (17_ryine, "Migration, receiving side"). -/
structure GuestSlot where
  node : Fin 16
  migId : Word
  vi : Fin 8
  head : Fin 4
  word : Vector Par 4
  /-- total bytes of stored blocks announced, and bytes received -/
  size : Nat
  data : List Byte
  nextFrame : Nat
  /-- chunks reserved and not yet used -/
  reserved : List Nat
  external : Bool
  /-- handle of the guest job once submitted -/
  handle : Option Handle
  deriving DecidableEq, Repr

/-- The link. -/
structure Link where
  /-- link state; 17_ryine R939; reset OFF -/
  state : LinkState := .off
  /-- NID sampled in this wake; 17_ryine R921; reset 0 -/
  nid : Fin 16 := 0
  /-- CONFLICT; 17_ryine R938; reset false -/
  conflict : Bool := false
  /-- TEC and REC; 17_ryine R939; reset 0 -/
  tecCount : Nat := 0
  recCount : Nat := 0
  /-- SYNCED; 17_ryine R943; reset false -/
  synced : Bool := false
  /-- SYNC frames applied without a step since the last step; 17_ryine R943; reset 0 -/
  syncRun : Nat := 0
  /-- master followed; 17_ryine ryine.stat; reset 0 -/
  master : Fin 16 := 0
  /-- instant (µs) of the last SYNC applied; 17_ryine R943; reset none -/
  syncAt : Option Nat := none
  /-- transmit queue, in queue order, at most 8; 17_ryine R930; reset empty -/
  queue : List RyFrame := []
  /-- frame being sent; 17_ryine R932; reset none -/
  sending : Option RyFrame := none
  /-- next SEQ; 17_ryine "Frames"; reset 0 -/
  nextSeq : BitVec 4 := 0
  /-- counters; 17_ryine ryine.late_loss to ryine.dropped; reset 0 -/
  lateLoss : BitVec 32 := 0
  arbLoss : BitVec 32 := 0
  errBit : Byte := 0
  errStuff : Byte := 0
  errCrc : Byte := 0
  errForm : Byte := 0
  ackErr : BitVec 32 := 0
  framesSent : Word := 0
  framesTaken : Word := 0
  superseded : Word := 0
  exhausted : Word := 0
  /-- ryine.time_off; 17_ryine ryine.time_off; reset 0 -/
  timeOff : Int := 0
  /-- bus-off recovery count runs; 17_ryine R940; reset false -/
  recovering : Bool := false
  /-- peers; 17_ryine R947; reset not present -/
  peer : Vector Peer 16 := Vector.replicate 16 {}
  /-- own advertisement last sent; 17_ryine ryine.peer_cap; reset 0 -/
  ownCap : Vector Par 4 := Vector.replicate 4 0
  /-- next mig_id; 17_ryine R953; reset 0 -/
  nextMig : Word := 0
  /-- next order of an acceptance; 17_ryine R955; reset 0 -/
  nextAccept : Nat := 0
  /-- migrations that the device no longer holds and whose report has not come: mig_id, peer, and the job they were; 17_ryine R959; reset empty -/
  orphans : List (Word × Fin 16 × JobRef) := []
  /-- guest slots; 17_ryine R962; reset free -/
  guest : Vector (Option GuestSlot) 4 := Vector.replicate 4 none
  deriving DecidableEq, Repr

/-! ### Management (18_management) -/

/-- A Dravfin image held valid or invalid in an image area (18_management, "Kuwell container"). -/
structure MainImage where
  version : Par
  build : Par
  epoch : Word
  peerLo : Word
  peerHi : Word
  stepLo : Word
  stepHi : Word
  sv : Nat
  deriving DecidableEq, Repr

/-- Update session states (18_management, mgmt.update_stat). -/
inductive UpdateState where
  | idle | erasing | receiving | epochHeld | done | failed
  deriving DecidableEq, Repr

/-- Command sources of the engine. -/
inductive MbSource where
  | window10 | u0
  deriving DecidableEq, Repr

/-- A command the engine is serving. -/
structure MbCommand where
  source : MbSource
  code : Byte
  tag : Byte
  arg : Vector Word 4
  deriving DecidableEq, Repr

/-- The answer of a command, waiting to be written (18_management R992). -/
structure MbAnswer where
  cmd : MbCommand
  rsp : Byte
  rd : Vector Word 4
  deriving DecidableEq, Repr

/-- An update session (18_management R1019). -/
structure Session where
  source : MbSource
  length : Nat
  received : List Byte
  deriving DecidableEq, Repr

/-- A supply monitor. -/
structure Monitor where
  /-- mV; 18_management R980; reset 0 -/
  mV : Word := 0
  /-- WARN; 18_management R981; reset false -/
  warn : Bool := false
  /-- FAULT; 18_management R981; reset false -/
  fault : Bool := false
  /-- consecutive samples outside and inside the warn and fault bands; 18_management R981; reset 0 -/
  warnOut : Nat := 0
  warnIn : Nat := 0
  faultOut : Nat := 0
  faultIn : Nat := 0
  deriving DecidableEq, Repr

/-- Management subsystem. -/
structure Mgmt where
  /-- MW_ARG0 to MW_ARG3; 18_management R990; reset 0 -/
  arg : Vector Word 4 := Vector.replicate 4 0
  /-- MW_RSP response and tag, none while VALID = 0; 18_management R992; reset none -/
  rsp : Option (Byte × BitVec 4) := none
  /-- MW_RD0 to MW_RD3; 18_management R992; reset 0 -/
  rd : Vector Word 4 := Vector.replicate 4 0
  /-- MW_BUF, 4 KiB; 18_management R993; reset DESIGN CHOICE zeros -/
  buf : Memory := []
  /-- U0 buffer, 4 KiB; 18_management "The mailbox and U0"; reset DESIGN CHOICE zeros -/
  u0Buf : Memory := []
  /-- MW_BUF_PTR; 18_management R993; reset 0 -/
  bufPtr : BitVec 11 := 0
  /-- MW_STAT.CMD_LOST; 18_management R991; reset false -/
  cmdLost : Bool := false
  /-- window 10's command is in progress (BUSY); 18_management R990; reset none -/
  command : Option MbCommand := none
  /-- answer to be written by MB_DONE; 18_management R992; reset none -/
  answer : Option MbAnswer := none
  /-- bytes of U0's answers not yet sent, oldest first; 18_management "The mailbox and U0"; reset empty -/
  u0Tx : List Byte := []
  /-- update session; 18_management R1019; reset none -/
  session : Option Session := none
  /-- mgmt.update_stat state, source and last response; 18_management R1031; reset IDLE, 0, 0 -/
  update : UpdateState := .idle
  updateSource : BitVec 4 := 0
  updateRsp : Byte := 0
  /-- mgmt.update_bytes; 18_management mgmt.update_bytes; reset 0 -/
  updateBytes : Par := 0
  /-- images of area 0 and 1, none when invalid; 18_management "Kuwell container"; reset DESIGN CHOICE version 1.0, epoch 1 in area 0 (flash contents) -/
  image : Vector (Option MainImage) 2 :=
    #v[some { version := 0x00010000, build := 0, epoch := 1, peerLo := 0, peerHi := 0xFFFF, stepLo := 0, stepHi := 0xFFFF, sv := 0 }, none]
  /-- area of the running image, none before boot; 18_management mgmt.slot_stat; reset none -/
  running : Option (Fin 2) := none
  /-- boot record: preferred area; 18_management R1013; reset 0 (no valid copy) -/
  preferred : Fin 2 := 0
  /-- boot record: TRIAL; 18_management R1014; reset false -/
  trial : Bool := false
  /-- boot record: trial boots; 18_management R1014; reset 0 -/
  trialBoots : Nat := 0
  /-- a confirmation waits for FLASH_OK; 18_management R1015; reset false -/
  confirmHeld : Bool := false
  /-- pwr.mem_cfg in force in the configuration record; 02_power_clocks_modes R101; reset DESIGN CHOICE 0 (flash contents) -/
  memCfgFlash : BitVec 3 := 0
  /-- rollback counter; 18_management R1032; reset DESIGN CHOICE 0 (fused) -/
  rollback : Nat := 0
  /-- flash log ring: committed records, oldest first; 18_management R1006; reset DESIGN CHOICE empty -/
  log : List LogRecord := []
  /-- records committed into the sector being filled, 0 to 127; 18_management R1006; reset 0 -/
  sectorFill : Nat := 0
  /-- an erase of the next sector is owed before any further commit; 02_power_clocks_modes R111; reset false -/
  eraseOwed : Bool := false
  /-- mgmt.log_lost; 18_management R1007; reset 0 -/
  logLost : BitVec 32 := 0
  /-- supply monitors of channels 0x21 to 0x28; 18_management R980; reset 0 -/
  sup : Vector Monitor 8 := Vector.replicate 8 {}
  /-- bandgap outside its band: every monitor INVALID; 18_management R983; reset false -/
  supInvalid : Bool := false
  /-- mgmt.clk_stat REF_RUNNING and REF_IN_TOLERANCE; 18_management mgmt.clk_stat; reset 0 -/
  refRunning : Bool := false
  refInTol : Bool := false
  /-- mgmt.ref_count; 18_management mgmt.ref_count; reset 0 -/
  refCount : Par := 0
  /-- MODEL'S OWN: instant (µs) of the last clearing of mgmt.wdog_max, whose value is Dravfin's choice; 18_management R986; reset 0 -/
  wdogFrom : Nat := 0
  /-- mgmt.ecc; 18_management R988; reset 0 -/
  ecc : BitVec 32 := 0
  deriving DecidableEq, Repr

/-! ### The machine -/

/-- What is fused at manufacture (00_scope; 12_analog_thermal R1108; 15_grit, "Health tests"). The rollback
counter, which is fused too but moves, is in `Mgmt`. -/
structure Fuses where
  /-- id.serial_lo and id.serial_hi; 00_scope "Identity parameters"; reset DESIGN CHOICE 0 (fused) -/
  serial : BitVec 64 := 0
  /-- die.cal; 12_analog_thermal R1108; reset DESIGN CHOICE c25 = 2,048, s = 256 (fused) -/
  dieCal : Par := 0x01000800
  /-- ALIVE count fused for rings A and B of the primary and the secondary source; 15_grit "Health tests"; reset DESIGN CHOICE 1,000 (fused) -/
  ring : Vector Nat 4 := Vector.replicate 4 1000
  deriving DecidableEq, Repr

/-- The machine: everything the spec gives it, a clock for its measurements, a counter for the free
values, and the queue of commands waiting. -/
structure State where
  /-- part; 00_scope R1; reset DESIGN CHOICE TL-4816 (fused) -/
  part : Part := .tl4816
  fuse : Fuses := {}
  /-- MODEL'S OWN: µs since the model's reset, for every duration it reports; reset DESIGN CHOICE 0 -/
  now : Nat := 0
  /-- MODEL'S OWN: counter of free values drawn; reset DESIGN CHOICE 0 -/
  fresh : Nat := 0
  ao : Ao := {}
  pwr : Pwr := {}
  bus : Bus := {}
  vi : Vector Vi 8 := Vector.replicate 8 {}
  /-- plain parameters, written values that differ from their reset; 19_parameter_map; reset none listed -/
  par : Sparse Par := []
  loam : Loam := {}
  /-- raster memory; 06_silt; reset as its fields -/
  silt : Silt := {}
  marl : Marl := {}
  paper : Paper := {}
  analog : Analog := {}
  island : Island := {}
  legal : Legal := {}
  grit : Grit := {}
  ser : SerialBlock := {}
  link : Link := {}
  mgmt : Mgmt := {}
  /-- commands waiting, first in, first out; reset empty -/
  pending : List Instr := []
  deriving DecidableEq, Repr

/-- What stops the machine. Empty: no rule of the spec gives the block a stop without an effect, and
every command has an effect in every state, so no meaning raises a fault (safe: nothing is cut off). -/
inductive Fault where
  deriving DecidableEq, Repr

/-- Why a command has no meaning. -/
inductive Refusal where
  /-- raised by an arm of `exec` that has no meaning yet, and by nothing else; safe, since the machine
  stops there -/
  | notModelled (mnemonic : String)
  deriving DecidableEq, Repr

/-- The machine right after reset: AO has just gained power with PWR_FAIL_N high, so the device is in
WAKE (02_power_clocks_modes R61; HV_MODE_STAT resets to 0x0002) with PWR_EN[0] high, and everything
else holds its device reset value. What flash, the fuses and the island's memory hold at manufacture is
not in the spec: the values here are the model's (notes/assumptions). -/
def State.reset : State := {}

end Sys2Proof.Machine
end

