-- ==== Sys2Proof/Machine/Params.lean ====
section
/-! DEFINITION. The parameter map: one row for each run of parameters of one kind, with its access, its
lock group, its device reset value, the bits it holds and the plain ranges of its fields
(19_parameter_map, "The index space", and the Reference tables of the owning chapters). -/

namespace Sys2Proof.Machine

/-- Access codes (00_scope, "Notation"). -/
inductive ParAccess where
  | ro | rw | rwHv | wo | woHv | rc | rcHv
  deriving DecidableEq, Repr

/-- A field of a parameter and the values its encoding admits. -/
structure ParField where
  lo : Nat
  width : Nat
  min : Int
  max : Int
  /-- two's complement -/
  signed : Bool := false
  deriving DecidableEq, Repr

/-- A run of parameters: the indices `first + stride * u + j`, u < count, j < len. -/
structure ParRow where
  first : Nat
  acc : ParAccess
  /-- bit of HV_LOCK that locks its writes -/
  lock : Option (Fin 8) := none
  reset : Par := 0
  /-- bits held: the others are reserved (00_scope R9, R10) -/
  mask : Par := 0xFFFFFFFF
  fields : List ParField := []
  stride : Nat := 0
  count : Nat := 1
  len : Nat := 1
  /-- one value per VI -/
  banked : Bool := false
  /-- banked, with a dash in its "VI reset" column (19_parameter_map R1057) -/
  keep : Bool := false
  deriving DecidableEq, Repr

/-- A number compared whole, without masking. -/
def parNum (min max : Int) : List ParField := [{ lo := 0, width := 32, min := min, max := max }]

/-- A signed number compared whole. -/
def parInt (min max : Int) : List ParField := [{ lo := 0, width := 32, min := min, max := max, signed := true }]

/-- Identity, device time and loop controls (00_scope, 01_station_system, 03_host_bus, 19_parameter_map). -/
def parRowsGlobal : List ParRow := [
  -- id.part, id.stepping, id.map, id.serial
  { first := 0x0000, acc := .ro, len := 5 },
  -- sys.time_lo, sys.time_hi
  { first := 0x0010, acc := .ro, len := 2 },
  -- sys.wake_count
  { first := 0x0012, acc := .ro },
  -- sys.time_set_lo
  { first := 0x0013, acc := .woHv, lock := some 7 },
  -- sys.time_set_hi
  { first := 0x0014, acc := .woHv, lock := some 7, mask := 0xFFFF },
  -- sys.time_stat
  { first := 0x0015, acc := .ro },
  -- sys.loop_freeze
  { first := 0x0020, acc := .rwHv, lock := some 4, mask := 0xFFFF },
  -- sys.loop_clamped
  { first := 0x0021, acc := .ro },
  -- sys.clamp_count
  { first := 0x0022, acc := .rcHv },
  -- map descriptors
  { first := 0x0040, acc := .ro, len := 64 } ]

/-- Contracts (04_tenancy). -/
def parRowsContract : List ParRow := [
  -- vi.flags
  { first := 0x0100, acc := .rwHv, lock := some 0, mask := 0x3, stride := 0x40, count := 8 },
  -- vi.heads
  { first := 0x0101, acc := .rwHv, lock := some 0, mask := 0xF, stride := 0x40, count := 8 },
  -- vi.lamps
  { first := 0x0102, acc := .rwHv, lock := some 0, mask := 0xFF, stride := 0x40, count := 8 },
  -- vi.job_min
  { first := 0x0103, acc := .rwHv, lock := some 0, fields := parNum (0) (16), stride := 0x40, count := 8 },
  -- vi.job_max
  { first := 0x0104, acc := .rwHv, lock := some 0, fields := parNum (1) (16), stride := 0x40, count := 8 },
  -- vi.frame_min
  { first := 0x0105, acc := .rwHv, lock := some 0, fields := parNum (0) (1408), stride := 0x40, count := 8 },
  -- vi.frame_max
  { first := 0x0106, acc := .rwHv, lock := some 0, fields := parNum (8) (1408), stride := 0x40, count := 8 },
  -- vi.marl_share
  { first := 0x0107, acc := .rwHv, lock := some 0, fields := parNum (0) (256), stride := 0x40, count := 8 },
  -- vi.share_min, vi.share_max
  { first := 0x0108, acc := .rwHv, lock := some 0, fields := parNum (0) (1024), stride := 0x40, count := 8, len := 8 },
  -- vi.weight
  { first := 0x0110, acc := .rwHv, lock := some 0, fields := parNum (0) (255), stride := 0x40, count := 8, len := 4 } ]

/-- Loam (05_loam). -/
def parRowsLoam : List ParRow := [
  -- loam.credit_cap
  { first := 0x0400, acc := .rwHv, lock := some 7, reset := 0x1E8480, fields := parNum (1000) (10000000) },
  -- loam.cap
  { first := 0x0404, acc := .ro, len := 4 },
  -- loam.cap_floor
  { first := 0x0408, acc := .rwHv, lock := some 3, fields := parNum (0) (4800), len := 4 },
  -- loam.cap_ceil
  { first := 0x040C, acc := .rwHv, lock := some 3, reset := 0x12C0, fields := parNum (0) (4800), len := 4 },
  -- loam.job_limit
  { first := 0x0410, acc := .rwHv, lock := some 7, reset := 0x2710, fields := parNum (100) (60000), len := 4 },
  -- loam.cap_window
  { first := 0x0414, acc := .rwHv, lock := some 7, reset := 0x3E8, fields := parNum (100) (10000), len := 4 },
  -- loam.mig_margin
  { first := 0x0418, acc := .rwHv, lock := some 7, reset := 20, fields := parNum (5) (100) },
  -- loam.mig_hold
  { first := 0x0419, acc := .rwHv, lock := some 7, reset := 0x7D0, fields := parNum (100) (60000) },
  -- loam.mig_wait
  { first := 0x041A, acc := .rwHv, lock := some 7, reset := 0x1F4, fields := parNum (0) (60000) },
  -- loam.cap_notify
  { first := 0x041B, acc := .rwHv, lock := some 7, reset := 10, fields := parNum (1) (50) },
  -- loam.free
  { first := 0x041C, acc := .ro },
  -- loam.credit_g to loam.refused
  { first := 0x0500, acc := .ro, len := 15, banked := true },
  -- job.word: word k of each handle; its bits are those that some kind of job uses (notes/assumptions 157)
  { first := 0x0600, acc := .rw, mask := 0x0000FFFF, stride := 8, count := 16, banked := true },
  { first := 0x0601, acc := .rw, mask := 0x83FFFFFF, stride := 8, count := 16, banked := true },
  { first := 0x0602, acc := .rw, mask := 0x01FFFFFF, stride := 8, count := 16, banked := true },
  { first := 0x0603, acc := .rw, mask := 0x00001FFF, stride := 8, count := 16, banked := true },
  { first := 0x0604, acc := .rw, mask := 0x07FFFFFF, stride := 8, count := 16, banked := true },
  { first := 0x0605, acc := .rw, mask := 0x07FF07FF, stride := 8, count := 16, banked := true },
  { first := 0x0606, acc := .rw, mask := 0, stride := 8, count := 16, banked := true },
  { first := 0x0607, acc := .rw, stride := 8, count := 16, banked := true } ]

/-- Silt (06_silt). -/
def parRowsSilt : List ParRow := [
  -- silt.frames_free to silt.store_free
  { first := 0x0800, acc := .ro, len := 4 },
  -- silt.lookahead
  { first := 0x0804, acc := .rwHv, lock := some 7, reset := 0x3E8, fields := parNum (100) (20000) },
  -- silt.underruns, silt.mem_stat
  { first := 0x0805, acc := .ro, len := 2 },
  -- silt.fetch
  { first := 0x0808, acc := .ro, len := 4 },
  -- silt.arb_apply
  { first := 0x0810, acc := .rwHv, lock := some 2, mask := 0x1 },
  -- silt.arb_bg_mask
  { first := 0x0811, acc := .rwHv, lock := some 2, reset := 0x3FF, mask := 0x3FF },
  -- silt.arb_wait_max
  { first := 0x0812, acc := .rcHv },
  -- silt.arb_burst
  { first := 0x0820, acc := .rwHv, lock := some 2, reset := 16, fields := parNum (1) (64), len := 10 },
  -- silt.arb_slot
  { first := 0x0840, acc := .rwHv, lock := some 2, mask := 0xF, len := 64 },
  -- silt.held, silt.store_used
  { first := 0x0900, acc := .ro, len := 2, banked := true },
  -- silt.store_max
  { first := 0x0902, acc := .rwHv, lock := some 7, reset := 0x8000, fields := parNum (0) (1048576), banked := true, keep := true },
  -- silt.prefetch_max
  { first := 0x0903, acc := .rwHv, lock := some 7, reset := 2, fields := parNum (0) (8), banked := true, keep := true },
  -- silt.prefetch
  { first := 0x0904, acc := .rw, reset := 2, fields := parNum (0) (8), banked := true },
  -- silt.page
  { first := 0x0905, acc := .rw, mask := 0x3FFF, banked := true },
  -- silt.discard
  { first := 0x0906, acc := .wo, mask := 0xFFF0FFF, banked := true },
  -- silt.faults
  { first := 0x0907, acc := .ro, banked := true },
  -- silt.fault_time_max
  { first := 0x0908, acc := .rc, banked := true } ]

/-- Marl (07_marl). -/
def parRowsMarl : List ParRow := [
  -- marl.blocks to marl.buffers_free
  { first := 0x0C00, acc := .ro, len := 5 },
  -- marl.wait_max
  { first := 0x0C05, acc := .rcHv },
  -- marl.ingest
  { first := 0x0D00, acc := .rw, mask := 0x3, fields := [{ lo := 0, width := 2, min := 0, max := 2 }], banked := true },
  -- marl.line_bytes
  { first := 0x0D01, acc := .rw, fields := parNum (0) (256), banked := true },
  -- marl.dither_seed
  { first := 0x0D02, acc := .rw, mask := 0xFFFF, banked := true },
  -- marl.dither_seed_used to marl.buffers_held
  { first := 0x0D03, acc := .ro, len := 5, banked := true },
  -- marl.protect_a
  { first := 0x0D10, acc := .rw, stride := 0x2, count := 8, banked := true },
  -- marl.protect_b
  { first := 0x0D11, acc := .rw, mask := 0x7FF07FF, stride := 0x2, count := 8, banked := true } ]

/-- Head ports (08_head_ports). -/
def parRowsHead : List ParRow := [
  -- head.cfg
  { first := 0x1000, acc := .rwHv, lock := some 7, mask := 0xFFF07FF, fields := [{ lo := 4, width := 3, min := 0, max := 4 }], stride := 0x400, count := 4 },
  -- head.sck_div
  { first := 0x1001, acc := .rwHv, lock := some 7, reset := 50, fields := parNum (25) (800), stride := 0x400, count := 4 },
  -- head.timing
  { first := 0x1002, acc := .rwHv, lock := some 7, reset := 0x14140A, mask := 0xFFFFFF, fields := [{ lo := 0, width := 8, min := 10, max := 255 }, { lo := 8, width := 8, min := 20, max := 255 }, { lo := 16, width := 8, min := 20, max := 255 }], stride := 0x400, count := 4 },
  -- head.stb_stagger
  { first := 0x1003, acc := .rwHv, lock := some 7, fields := parNum (0) (1000), stride := 0x400, count := 4 },
  -- head.rate_max
  { first := 0x1004, acc := .rwHv, lock := some 7, reset := 0x12C0, fields := parNum (1) (65535), stride := 0x400, count := 4 },
  -- head.rate_lim
  { first := 0x1005, acc := .ro, stride := 0x400, count := 4 },
  -- head.ctrl
  { first := 0x1006, acc := .rwHv, lock := some 7, mask := 0x7, stride := 0x400, count := 4 },
  -- head.stat
  { first := 0x1007, acc := .ro, stride := 0x400, count := 4 },
  -- head.v_scale
  { first := 0x1008, acc := .rwHv, lock := some 7, reset := 0x80E8, fields := parNum (1000) (65535), stride := 0x400, count := 4 },
  -- head.i_scale
  { first := 0x1009, acc := .rwHv, lock := some 7, reset := 0x1F40, fields := parNum (100) (65535), stride := 0x400, count := 4 },
  -- head.v_bounds
  { first := 0x100A, acc := .rwHv, lock := some 7, reset := 0xFFFF0000, stride := 0x400, count := 4 },
  -- head.i_trip
  { first := 0x100B, acc := .rwHv, lock := some 7, reset := 0x1F40, fields := parNum (100) (65535), stride := 0x400, count := 4 },
  -- head.v_meas to head.t_code
  { first := 0x100C, acc := .ro, stride := 0x400, count := 4, len := 3 },
  -- head.sense_cfg
  { first := 0x100F, acc := .rwHv, lock := some 7, mask := 0xFF0F, stride := 0x400, count := 4 },
  -- head.scan_cfg
  { first := 0x1010, acc := .rwHv, lock := some 7, reset := 0x341440, mask := 0x37FFFF, fields := [{ lo := 8, width := 8, min := 5, max := 40 }, { lo := 16, width := 3, min := 0, max := 5 }], stride := 0x400, count := 4 },
  -- head.r_bounds
  { first := 0x1011, acc := .rwHv, lock := some 7, reset := 0x3E801F40, stride := 0x400, count := 4 },
  -- head.r_avg
  { first := 0x1012, acc := .ro, stride := 0x400, count := 4 },
  -- head.dot_query
  { first := 0x1013, acc := .rwHv, lock := some 7, mask := 0x7FF, stride := 0x400, count := 4 },
  -- head.fault_count
  { first := 0x1014, acc := .ro, stride := 0x400, count := 4 },
  -- head.dot_fault_max
  { first := 0x1015, acc := .rwHv, lock := some 7, fields := parNum (0) (2048), stride := 0x400, count := 4 },
  -- head.scan_age to head.trunc
  { first := 0x1016, acc := .ro, stride := 0x400, count := 4, len := 3 },
  -- head.mask
  { first := 0x1080, acc := .rwHv, lock := some 7, stride := 0x400, count := 4, len := 64 } ]

/-- Energy (09_energy). -/
def parRowsEnergy : List ParRow := [
  -- energy.cfg
  { first := 0x1100, acc := .rwHv, lock := some 7, reset := 129, mask := 0xFF7, fields := [{ lo := 1, width := 2, min := 0, max := 2 }, { lo := 4, width := 8, min := 2, max := 255 }], stride := 0x400, count := 4 },
  -- energy.e_base
  { first := 0x1101, acc := .rwHv, lock := some 7, reset := 0xA00, fields := parNum (16) (65535), stride := 0x400, count := 4 },
  -- energy.v_drop
  { first := 0x1102, acc := .rwHv, lock := some 7, fields := parNum (0) (5000), stride := 0x400, count := 4 },
  -- energy.r_nom
  { first := 0x1103, acc := .rwHv, lock := some 7, reset := 0x2D00, fields := parNum (1600) (65535), stride := 0x400, count := 4 },
  -- energy.t_mark
  { first := 0x1104, acc := .rwHv, lock := some 7, reset := 0xC80, fields := parNum (960) (6400), stride := 0x400, count := 4 },
  -- energy.t_nom
  { first := 0x1105, acc := .rwHv, lock := some 7, reset := 0x190, fields := parNum (0) (960), stride := 0x400, count := 4 },
  -- energy.t_pause
  { first := 0x1106, acc := .rwHv, lock := some 7, reset := 0x550, fields := parNum (640) (65535), stride := 0x400, count := 4 },
  -- energy.derate_lo
  { first := 0x1107, acc := .rwHv, lock := some 3, reset := 128, fields := parNum (0) (511), stride := 0x400, count := 4 },
  -- energy.derate_hi
  { first := 0x1108, acc := .rwHv, lock := some 3, reset := 0x100, fields := parNum (0) (511), stride := 0x400, count := 4 },
  -- energy.coef_a
  { first := 0x1110, acc := .rwHv, lock := some 7, reset := 0x1000, mask := 0xFFFF, stride := 0x400, count := 4 },
  -- energy.coef_b
  { first := 0x1111, acc := .rwHv, lock := some 7, reset := 0x666, mask := 0xFFFF, stride := 0x400, count := 4 },
  -- energy.coef_c
  { first := 0x1112, acc := .rwHv, lock := some 7, reset := 0x148, mask := 0xFFFF, stride := 0x400, count := 4 },
  -- energy.coef_as
  { first := 0x1113, acc := .rwHv, lock := some 7, reset := 64, mask := 0xFFFF, stride := 0x400, count := 4 },
  -- energy.coef_bs
  { first := 0x1114, acc := .rwHv, lock := some 7, reset := 66, mask := 0xFFFF, stride := 0x400, count := 4 },
  -- energy.ntc
  { first := 0x1120, acc := .rwHv, lock := some 7, mask := 0xFFFF, stride := 0x400, count := 4, len := 17 },
  -- energy.t_base to energy.i_idle
  { first := 0x1140, acc := .ro, stride := 0x400, count := 4, len := 8 },
  -- energy.t_seg
  { first := 0x1180, acc := .ro, stride := 0x400, count := 4, len := 64 },
  -- energy.profile
  { first := 0x1200, acc := .rwHv, lock := some 7, stride := 0x400, count := 4, len := 32 },
  -- energy.prewarm
  { first := 0x1300, acc := .rw, stride := 0x400, count := 4, banked := true },
  -- energy.vi_derate_lo
  { first := 0x1301, acc := .rw, reset := 128, fields := parNum (0) (511), stride := 0x400, count := 4, banked := true },
  -- energy.vi_derate_hi
  { first := 0x1302, acc := .rw, reset := 0x100, fields := parNum (0) (511), stride := 0x400, count := 4, banked := true } ]

/-- Motion (10_motion). -/
def parRowsMotion : List ParRow := [
  -- axis.cfg
  { first := 0x2000, acc := .rwHv, lock := some 7, reset := 1, mask := 0xF, fields := [{ lo := 0, width := 2, min := 0, max := 2 }], stride := 0x80, count := 4 },
  -- axis.scale
  { first := 0x2001, acc := .rwHv, lock := some 7, reset := 0x8000000, fields := parNum (65536) (4294967295), stride := 0x80, count := 4 },
  -- axis.v_max
  { first := 0x2002, acc := .rwHv, lock := some 7, reset := 0x190, fields := parNum (1) (1000), stride := 0x80, count := 4 },
  -- axis.accel
  { first := 0x2003, acc := .rwHv, lock := some 7, reset := 0xFA0, fields := parNum (100) (100000), stride := 0x80, count := 4 },
  -- axis.a_stop
  { first := 0x2004, acc := .rwHv, lock := some 7, reset := 0x61A8, fields := parNum (100) (100000), stride := 0x80, count := 4 },
  -- axis.v_ss
  { first := 0x2005, acc := .rwHv, lock := some 7, reset := 0x190, fields := parNum (1) (1000), stride := 0x80, count := 4 },
  -- axis.i_run
  { first := 0x2006, acc := .rwHv, lock := some 7, reset := 0x1F4, fields := parNum (0) (65535), stride := 0x80, count := 4 },
  -- axis.i_fs
  { first := 0x2007, acc := .rwHv, lock := some 7, reset := 0x7D0, fields := parNum (100) (65535), stride := 0x80, count := 4 },
  -- axis.hold
  { first := 0x2008, acc := .rwHv, lock := some 7, reset := 0x320080, mask := 0xFFFF01FF, fields := [{ lo := 0, width := 9, min := 8, max := 256 }], stride := 0x80, count := 4 },
  -- axis.chop
  { first := 0x2009, acc := .rwHv, lock := some 7, reset := 0x20214, mask := 0xF0F3F, fields := [{ lo := 0, width := 6, min := 1, max := 63 }, { lo := 8, width := 4, min := 0, max := 8 }, { lo := 16, width := 4, min := 1, max := 15 }], stride := 0x80, count := 4 },
  -- axis.lim_cfg
  { first := 0x200A, acc := .rwHv, lock := some 7, mask := 0xFF0707, fields := [{ lo := 0, width := 2, min := 0, max := 2 }, { lo := 8, width := 2, min := 0, max := 2 }], stride := 0x80, count := 4 },
  -- axis.rev_max
  { first := 0x200B, acc := .rwHv, lock := some 7, fields := parNum (0) (10000), stride := 0x80, count := 4 },
  -- axis.ctrl
  { first := 0x200C, acc := .rwHv, lock := some 7, mask := 0x1F, stride := 0x80, count := 4 },
  -- axis.stat to axis.target
  { first := 0x200D, acc := .ro, stride := 0x80, count := 4, len := 4 },
  -- axis.move_dist
  { first := 0x2011, acc := .woHv, lock := some 7, stride := 0x80, count := 4 },
  -- axis.move_v
  { first := 0x2012, acc := .rwHv, lock := some 7, reset := 50, fields := parNum (1) (1000), stride := 0x80, count := 4 },
  -- axis.move_acc
  { first := 0x2013, acc := .rwHv, lock := some 7, reset := 0x3E8, fields := parNum (100) (100000), stride := 0x80, count := 4 },
  -- axis.rev_floor to axis.faults
  { first := 0x2014, acc := .ro, stride := 0x80, count := 4, len := 3 },
  -- cut.pwm
  { first := 0x21A0, acc := .rwHv, lock := some 7, reset := 192, fields := parNum (1) (256) },
  -- cut.i_lim
  { first := 0x21A1, acc := .rwHv, lock := some 7, reset := 0x7D0, fields := parNum (100) (65535) },
  -- cut.t_leave
  { first := 0x21A2, acc := .rwHv, lock := some 7, reset := 100, fields := parNum (10) (1000) },
  -- cut.t_max
  { first := 0x21A3, acc := .rwHv, lock := some 7, reset := 0x258, fields := parNum (50) (5000) },
  -- cut.t_partial
  { first := 0x21A4, acc := .rwHv, lock := some 7, reset := 150, fields := parNum (10) (5000) },
  -- cut.t_brake
  { first := 0x21A5, acc := .rwHv, lock := some 7, reset := 20, fields := parNum (0) (1000) },
  -- cut.stat, cut.count
  { first := 0x21A6, acc := .ro, len := 2 },
  -- motion.path
  { first := 0x2200, acc := .rwHv, lock := some 7, mask := 0x3F, len := 4 },
  -- sine.tab
  { first := 0x2400, acc := .rwHv, lock := some 7, mask := 0x3FF, len := 1024 } ]

/-- Media and lamps (11_media_outputs). -/
def parRowsMedia : List ParRow := [
  -- media.cfg
  { first := 0x2800, acc := .rwHv, lock := some 7, mask := 0xF1F1F1F, fields := [{ lo := 0, width := 2, min := 0, max := 2 }], stride := 0x40, count := 4 },
  -- media.d_sense, media.d_cut
  { first := 0x2801, acc := .rwHv, lock := some 7, fields := parNum (0) (2000), stride := 0x40, count := 4, len := 2 },
  -- media.d_present
  { first := 0x2803, acc := .rwHv, lock := some 7, fields := parNum (0) (10000), stride := 0x40, count := 4 },
  -- media.tof_offset, media.cut_offset
  { first := 0x2804, acc := .rwHv, lock := some 7, fields := parInt (-100) (1000), stride := 0x40, count := 4, len := 2 },
  -- media.feed_v
  { first := 0x2806, acc := .rwHv, lock := some 7, reset := 100, fields := parNum (1) (1000), stride := 0x40, count := 4 },
  -- media.seek_max
  { first := 0x2807, acc := .rwHv, lock := some 7, reset := 0xBB8, fields := parNum (10) (10000), stride := 0x40, count := 4 },
  -- media.pe_reserve
  { first := 0x2808, acc := .rwHv, lock := some 7, fields := parNum (0) (10000), stride := 0x40, count := 4 },
  -- media.pitch_tol
  { first := 0x2809, acc := .rwHv, lock := some 7, reset := 5, fields := parNum (1) (100), stride := 0x40, count := 4 },
  -- media.hyst
  { first := 0x280A, acc := .rwHv, lock := some 7, reset := 64, fields := parNum (0) (511), stride := 0x40, count := 4 },
  -- media.contrast_min
  { first := 0x280B, acc := .rwHv, lock := some 7, reset := 0x100, fields := parNum (16) (2048), stride := 0x40, count := 4 },
  -- media.gap_thr_lo
  { first := 0x280C, acc := .rwHv, lock := some 3, fields := parNum (0) (4095), stride := 0x40, count := 4 },
  -- media.gap_thr_hi
  { first := 0x280D, acc := .rwHv, lock := some 3, reset := 0xFFF, fields := parNum (0) (4095), stride := 0x40, count := 4 },
  -- media.mark_thr_lo
  { first := 0x280E, acc := .rwHv, lock := some 3, fields := parNum (0) (4095), stride := 0x40, count := 4 },
  -- media.mark_thr_hi
  { first := 0x280F, acc := .rwHv, lock := some 3, reset := 0xFFF, fields := parNum (0) (4095), stride := 0x40, count := 4 },
  -- media.gap_thr to media.skipped
  { first := 0x2810, acc := .ro, stride := 0x40, count := 4, len := 7 },
  -- media.ctrl
  { first := 0x2817, acc := .woHv, lock := some 7, mask := 0x3, stride := 0x40, count := 4 },
  -- lamp.cfg
  { first := 0x2900, acc := .rwHv, lock := some 7, mask := 0x1, stride := 0x10, count := 8 },
  -- lamp.i_set
  { first := 0x2901, acc := .rwHv, lock := some 7, reset := 100, fields := parNum (10) (21845), stride := 0x10, count := 8 },
  -- lamp.i_lim
  { first := 0x2902, acc := .rwHv, lock := some 7, reset := 200, stride := 0x10, count := 8 },
  -- lamp.i_fs
  { first := 0x2903, acc := .rwHv, lock := some 7, reset := 0x7D0, fields := parNum (100) (65535), stride := 0x10, count := 8 },
  -- lamp.t_soft
  { first := 0x2904, acc := .rwHv, lock := some 7, reset := 100, fields := parNum (0) (2000), stride := 0x10, count := 8 },
  -- lamp.hold_duty
  { first := 0x2905, acc := .rwHv, lock := some 7, reset := 128, fields := parNum (1) (256), stride := 0x10, count := 8 },
  -- lamp.trip_filter
  { first := 0x2906, acc := .rwHv, lock := some 7, reset := 10, fields := parNum (0) (65535), stride := 0x10, count := 8 },
  -- lamp.i_open
  { first := 0x2907, acc := .rwHv, lock := some 7, stride := 0x10, count := 8 },
  -- lamp.stat to lamp.trips
  { first := 0x2908, acc := .ro, stride := 0x10, count := 8, len := 3 },
  -- lamp.budget
  { first := 0x2980, acc := .rwHv, lock := some 7, fields := parNum (0) (65535) },
  -- lamp.budget_used
  { first := 0x2981, acc := .ro },
  -- lamp.cmd
  { first := 0x29C0, acc := .rw, mask := 0x1FF03FF, fields := [{ lo := 16, width := 9, min := 0, max := 256 }], banked := true } ]

/-- Converters and die temperature (12_analog_thermal), power (02_power_clocks_modes). -/
def parRowsAnalog : List ParRow := [
  -- adc.seq_cfg
  { first := 0x3000, acc := .rwHv, lock := some 7, mask := 0xF3FF, stride := 0x80, count := 2 },
  -- adc.timer
  { first := 0x3001, acc := .rwHv, lock := some 7, reset := 0x3E8, fields := parNum (10) (1000000), stride := 0x80, count := 2 },
  -- adc.delay
  { first := 0x3002, acc := .rwHv, lock := some 7, mask := 0xFFFF, stride := 0x80, count := 2 },
  -- adc.ctrl
  { first := 0x3003, acc := .woHv, lock := some 7, mask := 0x3, stride := 0x80, count := 2 },
  -- adc.stat to adc.aborts
  { first := 0x3004, acc := .ro, stride := 0x80, count := 2, len := 4 },
  -- adc.entry
  { first := 0x3010, acc := .rwHv, lock := some 7, mask := 0x1FFFF37F, stride := 0x80, count := 2, len := 16 },
  -- adc.limit
  { first := 0x3020, acc := .rwHv, lock := some 7, reset := 0xFFFF0000, stride := 0x80, count := 2, len := 16 },
  -- adc.res
  { first := 0x3030, acc := .ro, stride := 0x80, count := 2, len := 16 },
  -- adc.ow_i
  { first := 0x3100, acc := .rwHv, lock := some 7, mask := 0xF, fields := [{ lo := 0, width := 2, min := 0, max := 2 }, { lo := 2, width := 2, min := 0, max := 2 }], len := 32 },
  -- adc.plaus_cfg
  { first := 0x3140, acc := .rwHv, lock := some 7, mask := 0x8FFFF37F, stride := 0x4, count := 4 },
  -- adc.plaus_tol
  { first := 0x3141, acc := .rwHv, lock := some 7, reset := 16, fields := parNum (1) (4095), stride := 0x4, count := 4 },
  -- adc.plaus_res, adc.plaus_miss
  { first := 0x3142, acc := .ro, stride := 0x4, count := 4, len := 2 },
  -- pwr.wake_cause, pwr.last_pd
  { first := 0x3200, acc := .ro, len := 2 },
  -- pwr.wake_en
  { first := 0x3202, acc := .rwHv, lock := some 5, reset := 9, mask := 0xF },
  -- pwr.alarm_lo
  { first := 0x3203, acc := .rwHv, lock := some 5 },
  -- pwr.alarm_hi
  { first := 0x3204, acc := .rwHv, lock := some 5, mask := 0xFFFF },
  -- pwr.thermal_restart
  { first := 0x3205, acc := .rwHv, lock := some 5, reset := 60, fields := parNum (0) (3600) },
  -- pwr.mem_cfg
  { first := 0x3206, acc := .rwHv, lock := some 5, mask := 0x7, fields := [{ lo := 1, width := 2, min := 0, max := 2 }] },
  -- pwr.hold_cause, pwr.clk_stat
  { first := 0x3207, acc := .ro, len := 2 },
  -- die.temp
  { first := 0x3210, acc := .ro },
  -- die.temp_max
  { first := 0x3211, acc := .rcHv },
  -- die.stat to die.cal
  { first := 0x3212, acc := .ro, len := 7 } ]

/-- Grit (15_grit). -/
def parRowsGrit : List ParRow := [
  -- grit.stat
  { first := 0x3400, acc := .ro },
  -- grit.ctrl
  { first := 0x3401, acc := .rwHv, lock := some 7, mask := 0x3 },
  -- grit.raw_cfg
  { first := 0x3402, acc := .rwHv, lock := some 7, mask := 0x3 },
  -- grit.switches to grit.osc
  { first := 0x3403, acc := .ro, len := 4 },
  -- grit.inst_hv, grit.inst_dev
  { first := 0x3410, acc := .ro, len := 2 },
  -- grit.inst
  { first := 0x3480, acc := .ro, banked := true },
  -- grit.c_max
  { first := 0x3481, acc := .rc, banked := true } ]

/-- Serial ports (16_serial). -/
def parRowsSerial : List ParRow := [
  -- ser.owner
  { first := 0x3500, acc := .rwHv, lock := some 7, mask := 0xFF, fields := [{ lo := 0, width := 4, min := 0, max := 8 }, { lo := 4, width := 4, min := 0, max := 8 }] },
  -- ser.u0_cfg
  { first := 0x3501, acc := .rwHv, lock := some 7, reset := 0x1001A, mask := 0x7F3FFFFF },
  -- ser.u0_err
  { first := 0x3502, acc := .rcHv },
  -- ser.trim_cfg
  { first := 0x3503, acc := .rwHv, lock := some 7, reset := 1, mask := 0x1 },
  -- ser.trim, ser.rate_err
  { first := 0x3504, acc := .ro, len := 2 },
  -- ser.u1_cfg, ser.u2_cfg
  { first := 0x3580, acc := .rw, mask := 0x7F3FFFFF, len := 2, banked := true },
  -- ser.u1_err, ser.u2_err
  { first := 0x3582, acc := .rc, len := 2, banked := true } ]

/-- Ryine (17_ryine). -/
def parRowsLink : List ParRow := [
  -- ryine.cfg
  { first := 0x3600, acc := .rwHv, lock := some 7, reset := 8, mask := 0x7F, fields := [{ lo := 1, width := 2, min := 0, max := 2 }, { lo := 5, width := 2, min := 0, max := 2 }] },
  -- ryine.node to ryine.arb_loss
  { first := 0x3601, acc := .ro, len := 5 },
  -- ryine.errors, ryine.ack_err
  { first := 0x3606, acc := .rcHv, len := 2 },
  -- ryine.frames to ryine.peers
  { first := 0x3608, acc := .ro, len := 3 },
  -- ryine.peer_timeout
  { first := 0x360B, acc := .rwHv, lock := some 7, reset := 0x1F4, fields := parNum (100) (10000) },
  -- ryine.retry
  { first := 0x360C, acc := .rwHv, lock := some 7, reset := 16, fields := parNum (1) (255) },
  -- ryine.sync_period
  { first := 0x360D, acc := .rwHv, lock := some 7, reset := 100, fields := parNum (10) (10000) },
  -- ryine.sync_comp
  { first := 0x360E, acc := .rwHv, lock := some 7, fields := parNum (0) (10000) },
  -- ryine.time_off
  { first := 0x360F, acc := .ro },
  -- ryine.cap_period
  { first := 0x3610, acc := .rwHv, lock := some 7, reset := 100, fields := parNum (10) (10000) },
  -- ryine.cap_horizon
  { first := 0x3611, acc := .rwHv, lock := some 7, reset := 0x2710, fields := parNum (1000) (60000) },
  -- ryine.evt_tx
  { first := 0x3612, acc := .woHv, lock := some 7, mask := 0x1FFFFFF },
  -- ryine.ctrl
  { first := 0x3613, acc := .woHv, lock := some 7, mask := 0x1 },
  -- ryine.mig_stat
  { first := 0x3614, acc := .ro },
  -- ryine.peer_cap, ryine.peer_seen
  { first := 0x3700, acc := .ro, len := 80 } ]

/-- Management (18_management). -/
def parRowsMgmt : List ParRow := [
  -- mgmt.version to mgmt.update_bytes
  { first := 0x3800, acc := .ro, len := 10 },
  -- mgmt.trial_time
  { first := 0x380A, acc := .rwHv, lock := some 7, reset := 60, fields := parNum (10) (3600) },
  -- mgmt.log_first to mgmt.log_lost
  { first := 0x3810, acc := .ro, len := 4 },
  -- mgmt.log_mask
  { first := 0x3814, acc := .rwHv, lock := some 7, reset := 0x3F6, mask := 0x3FF },
  -- mgmt.log_rate
  { first := 0x3815, acc := .rwHv, lock := some 7, reset := 50, fields := parNum (1) (200) },
  -- mgmt.sup
  { first := 0x3820, acc := .ro, len := 8 },
  -- mgmt.clk_stat, mgmt.ref_count
  { first := 0x3830, acc := .ro, len := 2 },
  -- mgmt.wdog_max
  { first := 0x3840, acc := .rcHv },
  -- mgmt.ecc
  { first := 0x3841, acc := .ro } ]

/-- Kaolin mirror (13_kaolin_island, 14_weighing). -/
def parRowsIsland : List ParRow := [
  -- legal.state to legal.if_stat
  { first := 0x4000, acc := .ro, len := 11 },
  -- legal.log
  { first := 0x4100, acc := .ro, stride := 0x8, count := 32, len := 6 },
  -- weigh parameters
  { first := 0x4200, acc := .ro, len := 28 },
  -- weigh live values
  { first := 0x4300, acc := .ro, len := 17 },
  -- records, newest first
  { first := 0x4400, acc := .ro, len := 1024 } ]

/-- The rows of the range an index lies in. -/
def parRowsOf (idx : Nat) : List ParRow :=
  if idx < 0x100 then parRowsGlobal else
  if idx < 0x400 then parRowsContract else
  if idx < 0x800 then parRowsLoam else
  if idx < 0xC00 then parRowsSilt else
  if idx < 0xE00 then parRowsMarl else
  if idx < 0x1000 then [] else
  if idx < 0x2000 then (if idx % 0x400 < 0x100 then parRowsHead else parRowsEnergy) else
  if idx < 0x2800 then parRowsMotion else
  if idx < 0x3000 then parRowsMedia else
  if idx < 0x3400 then parRowsAnalog else
  if idx < 0x3500 then parRowsGrit else
  if idx < 0x3600 then parRowsSerial else
  if idx < 0x3800 then parRowsLink else
  if idx < 0x4000 then parRowsMgmt else
  if idx < 0x5000 then parRowsIsland else
  []

/-- The row holds the index. -/
def ParRow.holds (r : ParRow) (idx : Nat) : Bool :=
  if idx < r.first then false
  else if r.count = 1 then idx - r.first < r.len
  else (idx - r.first) / r.stride < r.count && (idx - r.first) % r.stride < r.len

/-- The row of an index, none for an undefined one (19_parameter_map R1042). -/
def parRow (idx : Nat) : Option ParRow := (parRowsOf idx).find? fun r => r.holds idx

/-- Entries 0 to 63 of the sine table: round(1,023 × sin(i × π / 512)) (10_motion, sine.tab). -/
def sineQuarter0 : List Nat := [
  0, 6, 13, 19, 25, 31, 38, 44, 50, 56, 63, 69, 75, 82, 88, 94,
  100, 107, 113, 119, 125, 131, 138, 144, 150, 156, 163, 169, 175, 181, 187, 193,
  200, 206, 212, 218, 224, 230, 236, 242, 249, 255, 261, 267, 273, 279, 285, 291,
  297, 303, 309, 315, 321, 327, 333, 339, 345, 351, 356, 362, 368, 374, 380, 386]

/-- Entries 64 to 127 of the sine table: round(1,023 × sin(i × π / 512)) (10_motion, sine.tab). -/
def sineQuarter1 : List Nat := [
  391, 397, 403, 409, 415, 420, 426, 432, 437, 443, 449, 454, 460, 466, 471, 477,
  482, 488, 493, 499, 504, 510, 515, 521, 526, 531, 537, 542, 547, 553, 558, 563,
  568, 574, 579, 584, 589, 594, 599, 604, 609, 614, 619, 624, 629, 634, 639, 644,
  649, 654, 659, 663, 668, 673, 678, 682, 687, 692, 696, 701, 705, 710, 714, 719]

/-- Entries 128 to 191 of the sine table: round(1,023 × sin(i × π / 512)) (10_motion, sine.tab). -/
def sineQuarter2 : List Nat := [
  723, 728, 732, 737, 741, 745, 750, 754, 758, 762, 766, 771, 775, 779, 783, 787,
  791, 795, 799, 803, 806, 810, 814, 818, 822, 825, 829, 833, 836, 840, 844, 847,
  851, 854, 858, 861, 864, 868, 871, 874, 877, 881, 884, 887, 890, 893, 896, 899,
  902, 905, 908, 911, 914, 917, 919, 922, 925, 927, 930, 933, 935, 938, 940, 943]

/-- Entries 192 to 255 of the sine table: round(1,023 × sin(i × π / 512)) (10_motion, sine.tab). -/
def sineQuarter3 : List Nat := [
  945, 948, 950, 952, 954, 957, 959, 961, 963, 965, 967, 969, 971, 973, 975, 977,
  979, 981, 983, 984, 986, 988, 989, 991, 992, 994, 995, 997, 998, 999, 1001, 1002,
  1003, 1005, 1006, 1007, 1008, 1009, 1010, 1011, 1012, 1013, 1014, 1015, 1015, 1016, 1017, 1017,
  1018, 1019, 1019, 1020, 1020, 1021, 1021, 1021, 1022, 1022, 1022, 1023, 1023, 1023, 1023, 1023]

/-- Device reset value of sine.tab_n_i. -/
def sineReset (i : Nat) : Nat :=
  ((if i < 64 then sineQuarter0 else if i < 128 then sineQuarter1 else if i < 192 then sineQuarter2
    else sineQuarter3)[i % 64]?).getD 0

/-- Words of an energy profile at device reset (09_energy, energy.profile_p_w). -/
def profileReset (w : Nat) : Par :=
  if w % 4 = 2 then 0xBCCDDEEF else if w % 4 = 3 then 0x78899AAB else 0

/-- The device reset value of a parameter, where it varies along a row. -/
def parReset (r : ParRow) (idx : Nat) : Par :=
  if 0x0820 ≤ idx ∧ idx < 0x082A then
    (if 0x0821 ≤ idx ∧ idx ≤ 0x0824 then 40 else if idx = 0x0827 ∨ idx = 0x0828 then 8 else 16)
  else if 0x0840 ≤ idx ∧ idx < 0x0880 then
    BitVec.ofNat 32 (([1, 0, 6, 7, 2, 5, 0, 8, 3, 0, 6, 7, 4, 5, 9, 15][(idx - 0x0840) % 16]?).getD 0)
  else if 0x1000 ≤ idx ∧ idx < 0x2000 ∧ 0x200 ≤ idx % 0x400 ∧ idx % 0x400 < 0x220 then profileReset (idx % 4)
  else if 0x2200 ≤ idx ∧ idx < 0x2204 then BitVec.ofNat 32 (idx - 0x2200)
  else if 0x2400 ≤ idx ∧ idx < 0x2800 then BitVec.ofNat 32 (sineReset (idx % 0x100))
  else r.reset

end Sys2Proof.Machine
end

