-- ==== Sys2Proof/Machine/Ops.lean ====
section
/-! DEFINITION. The operations shared by the meanings: access to the parts of the state, sparse tables
and memories, parameters, event queues, the event log, modes and losses, and the device reset. -/

namespace Sys2Proof.Machine

/-- The answer of a command: every command has an effect in every state. -/
abbrev Answer := Host.Outcome State Fault Refusal

/-! ### Parts of the state -/

/-- Change one element of a vector. -/
def vmod {α : Type} {n : Nat} (v : Vector α n) (i : Fin n) (f : α → α) : Vector α n :=
  v.set i (f v[i])

/-- Change AO. -/
def State.onAo (s : State) (f : Ao → Ao) : State := { s with ao := f s.ao }
/-- Change power and modes. -/
def State.onPwr (s : State) (f : Pwr → Pwr) : State := { s with pwr := f s.pwr }
/-- Change the host bus. -/
def State.onBus (s : State) (f : Bus → Bus) : State := { s with bus := f s.bus }
/-- Change VI `v`. -/
def State.onVi (s : State) (v : Fin 8) (f : Vi → Vi) : State := { s with vi := vmod s.vi v f }
/-- Change the parameter registers of window `w`. -/
def State.onPort (s : State) (w : Fin 11) (f : ParPort → ParPort) : State :=
  s.onBus fun b => { b with port := vmod b.port w f }
/-- Change the event queue of window `w`. -/
def State.onEvq (s : State) (w : Fin 9) (f : EventPort → EventPort) : State :=
  s.onBus fun b => { b with evq := vmod b.evq w f }
/-- Change the data port of VI `v`. -/
def State.onData (s : State) (v : Fin 8) (f : DataPort → DataPort) : State :=
  s.onVi v fun x => { x with data := f x.data }
/-- Change Loam. -/
def State.onLoam (s : State) (f : Loam → Loam) : State := { s with loam := f s.loam }
/-- Change the descriptor of handle `h` of VI `v`. -/
def State.onJob (s : State) (j : JobRef) (f : Job → Job) : State :=
  s.onLoam fun l => { l with jobs := vmod l.jobs j.vi fun r => vmod r j.handle f }
/-- Change Loam's state of head `h`. -/
def State.onLoamHead (s : State) (h : Fin 4) (f : LoamHead → LoamHead) : State :=
  s.onLoam fun l => { l with head := vmod l.head h f }
/-- Change Silt. -/
def State.onSilt (s : State) (f : Silt → Silt) : State := { s with silt := f s.silt }
/-- Change Marl. -/
def State.onMarl (s : State) (f : Marl → Marl) : State := { s with marl := f s.marl }
/-- Change what prints, moves and lights. -/
def State.onPaper (s : State) (f : Paper → Paper) : State := { s with paper := f s.paper }
/-- Change head port `h`. -/
def State.onHead (s : State) (h : Fin 4) (f : Head → Head) : State :=
  s.onPaper fun p => { p with head := vmod p.head h f }
/-- Change the energy control of head `h`. -/
def State.onEnergy (s : State) (h : Fin 4) (f : Energy → Energy) : State :=
  s.onPaper fun p => { p with energy := vmod p.energy h f }
/-- Change the job on the path of head `h`. -/
def State.onRun (s : State) (h : Fin 4) (f : Option Run → Option Run) : State :=
  s.onPaper fun p => { p with run := vmod p.run h f }
/-- Change axis `a`. -/
def State.onAxis (s : State) (a : Fin 4) (f : Axis → Axis) : State :=
  s.onPaper fun p => { p with axis := vmod p.axis a f }
/-- Change the cutter. -/
def State.onCutter (s : State) (f : Cutter → Cutter) : State :=
  s.onPaper fun p => { p with cutter := f p.cutter }
/-- Change the media sensing of head `h`. -/
def State.onMedia (s : State) (h : Fin 4) (f : Media → Media) : State :=
  s.onPaper fun p => { p with media := vmod p.media h f }
/-- Change lamp channel `c`. -/
def State.onLamp (s : State) (c : Fin 8) (f : Lamp → Lamp) : State :=
  s.onPaper fun p => { p with lamp := vmod p.lamp c f }
/-- Change converters and die temperature. -/
def State.onAnalog (s : State) (f : Analog → Analog) : State := { s with analog := f s.analog }
/-- Change converter `x`. -/
def State.onConv (s : State) (x : Fin 2) (f : Converter → Converter) : State :=
  s.onAnalog fun a => { a with conv := vmod a.conv x f }
/-- A conversion is begun before another (12_analog_thermal R698). -/
def Due.before (a b : Due) : Bool :=
  a.prio < b.prio || (a.prio = b.prio && (a.since < b.since || (a.since = b.since && a.number < b.number)))

/-- A conversion takes its place among those that are due. -/
def insertDue (d : Due) : List Due → List Due
  | [] => [d]
  | e :: t => if d.before e then d :: e :: t else e :: insertDue d t

/-- A conversion falls due now on a converter, unless it is due already. -/
def State.convDue (s : State) (x : Fin 2) (prio number : Nat) : State :=
  s.onConv x fun k => if k.due.any fun d => d.prio = prio && d.number = number then k
    else { k with due := insertDue { prio := prio, since := s.now, number := number } k.due }

/-- A conversion has been made. -/
def State.convMade (s : State) (x : Fin 2) (prio number : Nat) : State :=
  s.onConv x fun k => { k with due := k.due.filter fun d => !(d.prio = prio && d.number = number) }

/-- Change the island. -/
def State.onIsland (s : State) (f : Island → Island) : State := { s with island := f s.island }
/-- Change the main side of the protective interface. -/
def State.onLegal (s : State) (f : Legal → Legal) : State := { s with legal := f s.legal }
/-- Change Grit. -/
def State.onGrit (s : State) (f : Grit → Grit) : State := { s with grit := f s.grit }
/-- Change the serial ports as a whole. -/
def State.onSerial (s : State) (f : SerialBlock → SerialBlock) : State := { s with ser := f s.ser }
/-- Change serial port `p`. -/
def State.onSer (s : State) (p : Fin 3) (f : Serial → Serial) : State :=
  s.onSerial fun b => { b with port := vmod b.port p f }
/-- Change the link. -/
def State.onLink (s : State) (f : Link → Link) : State := { s with link := f s.link }
/-- Change the management subsystem. -/
def State.onMgmt (s : State) (f : Mgmt → Mgmt) : State := { s with mgmt := f s.mgmt }

/-- Draw the next free value: the number to which a constant of `Config` is applied. -/
def State.draw (s : State) : Nat × State := (s.fresh, { s with fresh := s.fresh + 1 })

/-! ### Sparse tables and memories -/

/-- The entry under a key. -/
def sparseFind {α : Type} (k : Nat) : List (Nat × α) → Option α
  | [] => none
  | (j, a) :: t => if j = k then some a else sparseFind k t

/-- Remove the entry under a key. -/
def sparseDel {α : Type} (k : Nat) (t : List (Nat × α)) : List (Nat × α) := t.filter fun e => e.1 ≠ k

/-- Enter a value under a key, keeping the keys strictly rising. -/
def sparsePut {α : Type} (k : Nat) (a : α) : List (Nat × α) → List (Nat × α)
  | [] => [(k, a)]
  | (j, b) :: t =>
    if k < j then (k, a) :: (j, b) :: t
    else if k = j then (k, a) :: t
    else (j, b) :: sparsePut k a t

/-- The keys rise strictly. -/
def sparseSorted {α : Type} : List (Nat × α) → Bool
  | [] => true
  | [_] => true
  | (j, _) :: (k, b) :: t => j < k && sparseSorted ((k, b) :: t)

/-- What a memory reads at an address that nothing lists: 0x00 (notes/assumptions 4). -/
def memUnlisted : Byte := 0

/-- Read one byte. -/
def memRead (m : Memory) (a : Nat) : Byte := (sparseFind a m).getD memUnlisted

/-- Write one byte, keeping the canonical form. -/
def memWrite (m : Memory) (a : Nat) (b : Byte) : Memory :=
  if b = memUnlisted then sparseDel a m else sparsePut a b m

/-- The canonical form of a memory: addresses strictly rising, no cell that an unlisted one equals. -/
def Memory.wf (m : Memory) : Bool := sparseSorted m && m.all fun e => e.2 ≠ memUnlisted

/-- Read `n` bytes from an address on. -/
def memReadN (m : Memory) (a : Nat) : Nat → List Byte
  | 0 => []
  | n + 1 => memRead m a :: memReadN m (a + 1) n

/-- Write bytes from an address on. -/
def memWriteN (m : Memory) (a : Nat) : List Byte → Memory
  | [] => m
  | b :: t => memWriteN (memWrite m a b) (a + 1) t

/-! ### Parameters -/

/-- Key of a parameter in the table of plain parameters: one range of 2^16 keys for the global ones and
one for each VI. -/
def parKey (idx : Nat) (vi : Option (Fin 8)) : Nat :=
  match vi with
  | none => idx
  | some v => idx + 65536 * (v.val + 1)

/-- Value of a plain parameter: as written, else its device reset value. -/
def State.parAt (s : State) (idx : Nat) (vi : Option (Fin 8)) : Par :=
  match sparseFind (parKey idx vi) s.par with
  | some x => x
  | none => match parRow idx with
    | some r => parReset r idx
    | none => 0

/-- Value of a global parameter. -/
def State.parG (s : State) (idx : Nat) : Par := s.parAt idx none
/-- Value of a global parameter as a number. -/
def State.parN (s : State) (idx : Nat) : Nat := (s.parAt idx none).toNat
/-- Value of the instance of a banked parameter that belongs to VI `v`. -/
def State.parB (s : State) (v : Fin 8) (idx : Nat) : Par := s.parAt idx (some v)

/-- Store a plain parameter; its reset value is not listed, so that equal states are equal data. -/
def State.setPar (s : State) (idx : Nat) (vi : Option (Fin 8)) (x : Par) : State :=
  let d := match parRow idx with
    | some r => parReset r idx
    | none => 0
  { s with par := if x = d then sparseDel (parKey idx vi) s.par else sparsePut (parKey idx vi) x s.par }

/-- Bits [lo + width - 1 : lo] of a parameter, as a number. -/
def bits (x : Par) (lo width : Nat) : Nat := (x.toNat >>> lo) % 2 ^ width

/-- A bit of a parameter. -/
def bit (x : Par) (i : Nat) : Bool := x.toNat.testBit i

/-- A number put into bits [lo + ...] of a parameter. -/
def fld (x : Nat) (lo : Nat) : Par := BitVec.ofNat 32 (x <<< lo)

/-- A flag put into bit `i` of a parameter. -/
def flag (b : Bool) (i : Nat) : Par := if b then BitVec.ofNat 32 (2 ^ i) else 0

/-- A number limited to at most `m`. -/
def sat (x m : Nat) : Nat := if x ≤ m then x else m

/-- A counter that stops at its largest value. -/
def satInc {w : Nat} (x : BitVec w) : BitVec w := if x = BitVec.allOnes w then x else x + 1

/-! ### Part -/

/-- Head port `h` is present (00_scope R1, id.part). -/
def State.headPresent (s : State) (h : Fin 4) : Bool := s.part ≠ .tl2816 || h.val < 2

/-- The island is present (00_scope R6). -/
def State.islandPresent (s : State) : Bool := s.part ≠ .tl4816n

/-- id.part (00_scope, "Identity parameters"). -/
def Part.id : Part → Par
  | .tl4816 => 0x481600F8
  | .tl4816n => 0x48164EF0
  | .tl2816 => 0x28160038

/-! ### Modes -/

/-- Mode codes (02_power_clocks_modes, "Operating modes"). -/
def Mode.code : Mode → BitVec 3
  | .off => 0
  | .retain => 1
  | .wake => 2
  | .run => 3
  | .reduced => 4
  | .service => 5
  | .update => 6
  | .hold => 7

/-- HV_MODE_STAT (02_power_clocks_modes). -/
def Pwr.modeStat (p : Pwr) : Word :=
  let m := BitVec.setWidth 16 p.mode.code
  let t := match p.target with
    | some t => (8 : Word) ||| (BitVec.setWidth 16 t.code <<< 4)
    | none => 0
  m ||| t ||| (if p.clkFallback then 0x100 else 0) ||| (if p.headOut then 0x200 else 0)
    ||| (if p.dieThrottle then 0x400 else 0) ||| (if p.memAbsent then 0x800 else 0)
    ||| (if p.reqRefused then 0x8000 else 0)

/-- A loss is declared (02_power_clocks_modes R88). -/
def Pwr.anyLoss (p : Pwr) : Bool := p.clkFallback || p.headOut || p.dieThrottle || p.memAbsent

/-- The main islands are out of reset: they run in every mode with main rails, and in WAKE from the
release of their resets (02_power_clocks_modes, "The wake sequence"); not while RST_N holds the main side or
VDD_CORE has collapsed (R143, R1103). -/
def Pwr.islandsRun (p : Pwr) : Bool :=
  p.mgRunning && (match p.mode with
  | .run | .reduced | .service | .update => true
  | .wake => match p.phase with
    | .checkA | .checkB | .waitMem | .training | .ready => true
    | _ => false
  | _ => false)

/-- Jobs are accepted and dispatched in this mode (02_power_clocks_modes, "Operating modes"). -/
def Mode.running : Mode → Bool
  | .run | .reduced => true
  | _ => false

/-- A power-down has begun its stage 1. -/
def Pwr.stageBegun (p : Pwr) : Bool :=
  match p.pd with
  | some d => d.stage ≥ 1 || d.collapsed
  | none => false

/-- A power-down has begun its stage `n`. -/
def Pwr.pastStage (p : Pwr) (n : Nat) : Bool :=
  match p.pd with
  | some d => n ≤ d.stage || d.collapsed
  | none => false

/-! ### Events (04_tenancy, "Events") -/

/-- Pending bit of an event code (04_tenancy, VW_IRQ_PEND). -/
def eventBit (code : Byte) : Nat :=
  let c := code.toNat
  if c = 0x01 then 14
  else if c ≤ 0x05 then 8
  else if c = 0x06 ∨ c = 0x0A then 5
  else if c = 0x07 then 8
  else if c = 0x08 ∨ c = 0x09 ∨ c = 0x0B then 4
  else if c = 0x0C ∨ c = 0x0D then 3
  else if c ≤ 0x10 then 7
  else if c < 0x40 then 0
  else if c < 0x50 then 1
  else if c < 0x70 then 2
  else if c < 0x80 then 4
  else if c < 0x90 then 5
  else if c < 0xB0 then 9
  else if c < 0xC0 then 6
  else 9

/-- The class bit of an event in the aux of an EVQ_OVERFLOW (04_tenancy R247). -/
def overflowBit (code : Byte) : Byte :=
  if eventBit code < 8 then BitVec.ofNat 8 (2 ^ eventBit code) else 0

/-- An event arrives at a queue (04_tenancy R245 to R248). -/
def EventPort.push (p : EventPort) (e : Event) : EventPort :=
  let pend := p.pend ||| BitVec.ofNat 16 (2 ^ eventBit e.code)
  if p.queue.length < 63 then { p with queue := p.queue ++ [e], pend := pend }
  else if p.queue.length = 63 then
    { p with
      queue := p.queue ++ [{ code := 0x01, aux := overflowBit e.code, payload := 1 }]
      pend := pend ||| 0x4000 }
  else
    { p with
      queue := match p.queue.getLast? with
        | some l => p.queue.dropLast ++
            [{ l with aux := l.aux ||| overflowBit e.code, payload := satInc l.payload }]
        | none => p.queue
      pend := pend }

/-- The window of VI `v` among the windows 0 to 8. -/
def viWin (v : Fin 8) : Fin 9 := v.succ
/-- The window of VI `v` among the windows 0 to 10. -/
def viPort (v : Fin 8) : Fin 11 := ⟨v.val + 1, by omega⟩

/-- VI `v` is enabled (04_tenancy R1098). -/
def State.viEnabled (s : State) (v : Fin 8) : Bool :=
  match s.vi[v].state with
  | .enabled | .resetting => true
  | _ => false

/-- VI `v` is counted in the contract sums (04_tenancy, "The contract"). -/
def State.viCounted (s : State) (v : Fin 8) : Bool := s.vi[v].state ≠ .disabled

/-- An event raised for a VI: one raised while the VI is DISABLED or RETIRING (04_tenancy R1100) or
between the start and the end of its reset (R272) is discarded. -/
def State.raiseVi (s : State) (v : Fin 8) (code aux : Byte) (payload : Word) : State :=
  if s.vi[v].state = .enabled then s.onEvq (viWin v) fun p => p.push ⟨code, aux, payload⟩ else s

/-- Raise an event on every VI that passes a test. -/
def State.raiseVis (s : State) (t : State → Fin 8 → Bool) (code aux : Byte) (payload : Word) : State :=
  (List.finRange 8).foldl (fun u v => if t s v then u.raiseVi v code aux payload else u) s

/-! ### The event log (18_management, "The event log") -/

/-- Highest sequence held in flash or in the retention ring (18_management R1000). -/
def State.lastSeq (s : State) : Nat :=
  match s.ao.ring.getLast?, s.mgmt.log.getLast? with
  | some r, _ => r.seq.toNat
  | none, some r => r.seq.toNat
  | none, none => 0

/-- A record of a code as it would be created now. -/
def State.newRecord (s : State) (code aux : Byte) (payload : Word) (w4 w5 : Par) : LogRecord :=
  { seq := BitVec.ofNat 32 (s.lastSeq + 1), time := s.ao.time, code := code, aux := aux,
    payload := payload, wake := BitVec.setWidth 8 s.ao.wakeCount, mode := s.pwr.mode.code,
    word4 := w4, word5 := w5 }

/-- Create a record in the retention ring (18_management R999, R1000, R1007). -/
def State.logRecord (s : State) (code aux : Byte) (payload : Word) (w4 w5 : Par := 0) : State :=
  if s.ao.ring.length < 63 then
    s.onAo fun a => { a with ring := a.ring ++ [s.newRecord code aux payload w4 w5] }
  else if s.ao.ring.length = 63 then
    ((s.onAo fun a => { a with ring := a.ring ++ [s.newRecord 0xC0 0 1 0 0] }).onMgmt
      fun m => { m with logLost := satInc m.logLost }).onEvq 0 fun p => p.push ⟨0xC0, 0, 1⟩
  else
    (s.onAo fun a => { a with ring := match a.ring.getLast? with
      | some l => a.ring.dropLast ++ [{ l with payload := satInc l.payload }]
      | none => a.ring }).onMgmt fun m => { m with logLost := satInc m.logLost }

/-- Codes that are always logged (18_management, "Management events"). -/
def alwaysLogged (code : Byte) : Bool :=
  [0x08, 0x0B, 0x28, 0x50, 0x70, 0x71, 0x81, 0x82, 0x83, 0x84, 0xB0,
   0xC0, 0xC1, 0xC2, 0xC3, 0xC4, 0xC6, 0xC7].contains code.toNat

/-- Raise an event on window 0's queue, with its record if its class is logged (18_management R999).
Without main power there is neither (02_power_clocks_modes R61). -/
def State.raise0 (s : State) (code aux : Byte) (payload : Word) : State :=
  if s.pwr.mode = .off ∨ s.pwr.mode = .retain then s else
  let s' := s.onEvq 0 fun p => p.push ⟨code, aux, payload⟩
  if alwaysLogged code || (s.parG 0x3814).toNat.testBit (eventBit code) then
    s'.logRecord code aux payload
  else s'

/-- Raise an event at the queue of a window that has one. -/
def State.raiseWin (s : State) (w : Fin 11) (code aux : Byte) (payload : Word) : State :=
  if w.val = 0 then s.raise0 code aux payload
  else if h : w.val ≤ 8 ∧ 1 ≤ w.val then s.raiseVi ⟨w.val - 1, by omega⟩ code aux payload
  else s

/-- Raise an event on window 0 and on every VI that passes a test. -/
def State.raiseBoth (s : State) (t : State → Fin 8 → Bool) (code aux : Byte) (payload : Word) : State :=
  (s.raise0 code aux payload).raiseVis t code aux payload

/-- The test "enabled". -/
def isEnabled (s : State) (v : Fin 8) : Bool := s.viEnabled v

/-- The test "enabled, and vi.heads includes head h". -/
def hasHead (h : Fin 4) (s : State) (v : Fin 8) : Bool :=
  s.viEnabled v && bit (s.vi[v].contract[1]) h.val

/-- The VI that holds the legal role (04_tenancy R241). -/
def State.legalHolder (s : State) : Option (Fin 8) :=
  if h : 1 ≤ s.bus.legalRole.toNat ∧ s.bus.legalRole.toNat ≤ 8 then
    some ⟨s.bus.legalRole.toNat - 1, by omega⟩
  else none

/-- The test "holds the legal role". -/
def isHolder (s : State) (v : Fin 8) : Bool := s.legalHolder == some v

/-! ### Mode and loss changes -/

/-- RUN and REDUCED follow the declared losses (02_power_clocks_modes R61, R88, R89). -/
def Pwr.settle (p : Pwr) : Pwr :=
  match p.mode with
  | .run => if p.anyLoss then { p with mode := .reduced } else p
  | .reduced => if p.anyLoss then p else { p with mode := .run }
  | _ => p

/-- The bits of HV_MODE_STAT whose change raises MODE_CHANGE. -/
def Pwr.modeBits (p : Pwr) : Word := p.modeStat &&& 0x0F07

/-- Change modes or losses, and raise MODE_CHANGE when the mode or a loss bit changes
(02_power_clocks_modes R91). Nothing is raised while MG does not run (notes/assumptions 7). -/
def State.changeMode (s : State) (f : Pwr → Pwr) : State :=
  let p := (f s.pwr).settle
  let s' := { s with pwr := p }
  if p.modeBits = s.pwr.modeBits ∨ !s.pwr.mgRunning then s'
  else s'.raiseBoth isEnabled 0x08 0 p.modeStat

/-! ### Device reset -/

/-- What prints, moves and lights at its reset values, in the safe pin states: only the levels on the inputs stay
(02_power_clocks_modes R93, R96). -/
def Paper.safe (p : Paper) : Paper where
  head := mapEach (fun (h : Head) => { present := h.present }) p.head
  axis := mapEach (fun (a : Axis) => { flt := a.flt, lim0 := a.lim0, lim1 := a.lim1 }) p.axis
  cutter := { home := p.cutter.home }
  media := mapEach (fun (x : Media) => { peLow := x.peLow, covLow := x.covLow }) p.media

/-- The island as the main side finds it after a reset of its own: the commands in it have lost their sender, and their
answers reach no one; the mailbox reads empty while PG_CORE is low (13_kaolin_island R747, "Signals that cross";
notes/assumptions 169). -/
def Island.disown (i : Island) (core : Bool) : Island :=
  let mark : LegCommand → LegCommand := fun q => { q with orphan := true }
  { i with
    mailbox := if core then i.mailbox.map mark else []
    deciding := i.deciding.map mark
    issuing := i.issuing.map fun x => (mark x.1, x.2)
    printing := i.printing.map fun x => (mark x.1, x.2)
    response := none }

/-- The main side takes its device reset values (02_power_clocks_modes R143; 19_parameter_map, "Reset
classes"): AO, flash, the fuses and the levels on the pins stay, and the island but for what the main side had asked of
it. -/
def State.deviceReset (s : State) : State :=
  let m := s.mgmt
  { s with
    pwr := { mode := s.pwr.mode, en := s.pwr.en, pgIo := s.pwr.pgIo, pgCore := s.pwr.pgCore,
             pgMem := s.pwr.pgMem, pgK := s.pwr.pgK, pwrFailN := s.pwr.pwrFailN,
             rstHeld := s.pwr.rstHeld, phase := s.pwr.phase, ioAttempts := s.pwr.ioAttempts,
             coreAttempts := s.pwr.coreAttempts, wakeSource := s.pwr.wakeSource, pd := s.pwr.pd }
    bus := {}, vi := Vector.replicate 8 {}, par := []
    loam := { creditAt := s.now }, silt := {}, marl := { creditAt := s.now }
    paper := s.paper.safe
    analog := { shutdowns := s.analog.shutdowns, lastSd := s.analog.lastSd }
    island := s.island.disown s.pwr.pgCore
    legal := { epochOwed := s.island.state = .operational }, grit := {}, ser := {}, link := {}
    mgmt := { buf := m.buf, u0Buf := m.u0Buf, image := m.image, preferred := m.preferred,
              trial := m.trial, trialBoots := m.trialBoots, memCfgFlash := m.memCfgFlash,
              rollback := m.rollback, log := m.log, sectorFill := m.sectorFill,
              eraseOwed := m.eraseOwed, wdogFrom := s.now } }

end Sys2Proof.Machine
end

