-- ==== Sys2Proof/Machine/Operands.lean ====
section
/-! DEFINITION. Operand forms: the fields of a job descriptor (05_loam, "Descriptor words"), and the
frames of the link (17_ryine, "Frames"). -/

namespace Sys2Proof.Machine

/-- Kind code, word 0 [3:0]: 1 PRINT, 2 FEED, 3 CUT, 4 PRESENT, 5 LEGAL_LABEL, 6 FENCE. -/
def Job.kind (j : Job) : Nat := bits j.word[0] 0 4
/-- Head named, word 0 [5:4]. -/
def Job.head (j : Job) : Fin 4 := ⟨bits j.word[0] 4 2, by unfold bits; omega⟩
/-- AUTOFREE. -/
def Job.autofree (j : Job) : Bool := bit j.word[0] 6
/-- CONT. -/
def Job.cont (j : Job) : Bool := bit j.word[0] 7
/-- NO_MIGRATE. -/
def Job.noMigrate (j : Job) : Bool := bit j.word[0] 8
/-- NOTIFY_START. -/
def Job.notifyStart (j : Job) : Bool := bit j.word[0] 9
/-- LEGEND of a LEGAL_LABEL job. -/
def Job.legend (j : Job) : Bool := bit j.word[0] 10
/-- End action: 0 none, 1 cut, 2 cut and present. -/
def Job.endAction (j : Job) : Nat := bits j.word[0] 11 2
/-- Energy profile. -/
def Job.profile (j : Job) : Nat := bits j.word[0] 13 3
/-- Raster start address. -/
def Job.start (j : Job) : Nat := bits j.word[1] 0 26
/-- Distance of a FEED or PRESENT job, 0.1 mm. -/
def Job.distance (j : Job) : Nat := bits j.word[1] 0 20
/-- Reverse motion of a FEED job. -/
def Job.isReverse (j : Job) : Bool := bit j.word[1] 31
/-- Partial cut of a CUT job. -/
def Job.partialCut (j : Job) : Bool := bit j.word[1] 0
/-- Head `h` is in the mask of a FENCE job. -/
def Job.masks (j : Job) (h : Fin 4) : Bool := bit j.word[1] h.val
/-- Lines. -/
def Job.lines (j : Job) : Nat := bits j.word[2] 0 16
/-- Bytes per line. -/
def Job.bpl (j : Job) : Nat := bits j.word[2] 16 9
/-- Requested line rate, lines/s. -/
def Job.rate (j : Job) : Nat := bits j.word[3] 0 13
/-- Speed of a FEED or PRESENT job, mm/s. -/
def Job.speed (j : Job) : Nat := bits j.word[3] 0 13
/-- First line of the legal field. -/
def Job.fieldLine (j : Job) : Nat := bits j.word[4] 0 16
/-- First dot of the legal field. -/
def Job.fieldDot (j : Job) : Nat := bits j.word[4] 16 11
/-- Width of the legal field, dots. -/
def Job.fieldWidth (j : Job) : Nat := bits j.word[5] 0 11
/-- Height of the legal field, lines. -/
def Job.fieldHeight (j : Job) : Nat := bits j.word[5] 16 11
/-- Result code, word 7 [19:16]. -/
def Job.result (j : Job) : Nat := bits j.word[7] 16 4

/-- PRINT or LEGAL_LABEL. -/
def Job.prints (j : Job) : Bool := j.kind = 1 || j.kind = 5
/-- LEGAL_LABEL. -/
def Job.isLegal (j : Job) : Bool := j.kind = 5
/-- FENCE. -/
def Job.isFence (j : Job) : Bool := j.kind = 6

/-- State codes (05_loam, "Descriptor state machine"). -/
def JobState.code : JobState → Nat
  | .free => 0
  | .filled => 1
  | .ready => 2
  | .dispatched => 3
  | .active => 4
  | .done => 5
  | .cancelled => 6
  | .failed => 7

/-- DONE, CANCELLED and FAILED. -/
def JobState.terminal : JobState → Bool
  | .done | .cancelled | .failed => true
  | _ => false

/-- READY, DISPATCHED and ACTIVE: the resident descriptors (05_loam R298, R345). -/
def JobState.resident : JobState → Bool
  | .ready | .dispatched | .active => true
  | _ => false

/-- The descriptor of a job. -/
def State.job (s : State) (j : JobRef) : Job := s.loam.jobs[j.vi][j.handle]

/-- The low byte of a number. -/
def byteOf (n : Nat) : Byte := BitVec.ofNat 8 n

/-- A number as `k` bytes, most significant first. -/
def bytesBE (n : Nat) : Nat → List Byte
  | 0 => []
  | k + 1 => byteOf (n / 256 ^ k) :: bytesBE n k

/-- The number that bytes spell, most significant first. -/
def natBE (l : List Byte) : Nat := l.foldl (fun a b => a * 256 + b.toNat) 0

/-- Types of the frames that supersede an earlier one (17_ryine, "Frames"): SYNC and CAP. -/
def ryineSupersedes (t : BitVec 4) : Bool := t = 0 || t = 5

/-- The transmit queue has a place: the frame being sent still takes one (17_ryine R930, R934). -/
def Link.room (l : Link) : Bool := l.queue.length + (if l.sending.isSome then 1 else 0) < 8

/-- A frame is queued with the next SEQ. A superseding frame discards an earlier one of its TYPE
(17_ryine R931); with 8 frames in the queue a new one is dropped (notes/assumptions 16). -/
def State.queueFrame (s : State) (t : BitVec 4) (dst : BitVec 5) (payload : List Byte) : State :=
  let old := s.link.queue.filter fun f => ryineSupersedes t && f.type = t
  let s1 := s.onLink fun l => { l with
    queue := l.queue.filter fun f => !(ryineSupersedes t && f.type = t)
    superseded := l.superseded + BitVec.ofNat 16 old.length }
  if s1.link.room then
    s1.onLink fun l => { l with
      queue := l.queue ++ [{ type := t, dst := dst, payload := payload, src := BitVec.ofNat 4 l.nid.val
                             seq := l.nextSeq, attempts := 0 }]
      nextSeq := l.nextSeq + 1 }
  else s1

/-- MIG_RESULT to a node (17_ryine, "Migration"): mig_id, code, detail, head time in µs and word 7. -/
def State.sendResult (s : State) (node : Fin 16) (migId : Word) (code detail : Nat) (headTime : Nat)
    (amount : Nat) : State :=
  s.queueFrame 2 (BitVec.ofNat 5 node.val)
    (bytesBE migId.toNat 2 ++ [byteOf code, byteOf detail] ++ bytesBE headTime 4 ++ bytesBE amount 2)

end Sys2Proof.Machine
end

