-- ==== Sys2Proof/Machine/Container.lean ====
section
/-! DEFINITION. The Kuwell container: its fields and its check (18_management, "Kuwell container", R1011). -/

namespace Sys2Proof.Machine

/-- The number that `n` bytes of a container spell from an offset on. -/
def kuwellNum (m : List Byte) (off n : Nat) : Nat := natBE ((m.drop off).take n)

/-- Kind of a container: 1 Dravfin, 2 legal image. -/
def kuwellKind (m : List Byte) : Nat := kuwellNum m 6 2

/-- Magic, format and header length are as stated. -/
def kuwellFormat (m : List Byte) : Bool :=
  256 ≤ m.length && kuwellNum m 0 4 = 0x4B55574C && kuwellNum m 4 2 = 1 && kuwellNum m 8 4 = 256

/-- Length of the whole container. -/
def kuwellLength (m : List Byte) : Nat := 256 + kuwellNum m 12 4

/-- The SHA-256 of the payload is the one in the header. -/
def kuwellHash (m : List Byte) : Bool := sha256 (m.drop 256) = (m.drop 0x40).take 32

/-- The image that a Dravfin container carries. -/
def kuwellMain (m : List Byte) : MainImage :=
  { version := BitVec.ofNat 32 (kuwellNum m 0x10 4), build := BitVec.ofNat 32 (kuwellNum m 0x14 4)
    epoch := BitVec.ofNat 16 (kuwellNum m 0x18 2), peerLo := BitVec.ofNat 16 (kuwellNum m 0x1A 2)
    peerHi := BitVec.ofNat 16 (kuwellNum m 0x1C 2), stepLo := BitVec.ofNat 16 (kuwellNum m 0x1E 2)
    stepHi := BitVec.ofNat 16 (kuwellNum m 0x20 2), sv := kuwellNum m 0x22 1 }

/-- The legal image that a container carries; its identifier is the first 4 bytes of the SHA-256 of the image
as stored, header included (13_kaolin_island, "Identification, epochs and the seal"). -/
def kuwellLegal (m : List Byte) : LegalImage :=
  { version := BitVec.ofNat 32 (kuwellNum m 0x10 4), epoch := BitVec.ofNat 16 (kuwellNum m 0x18 2)
    peerLo := BitVec.ofNat 16 (kuwellNum m 0x1A 2), peerHi := BitVec.ofNat 16 (kuwellNum m 0x1C 2)
    ident := BitVec.ofNat 32 (natBE ((sha256 m).take 4)) }

/-- Response code of the container check of a received Dravfin container (R1011): 0 when it passes. -/
def kuwellCheck (m : List Byte) (rollback : Nat) : Byte :=
  if !kuwellFormat m ∨ kuwellLength m ≠ m.length ∨ 0x100000 < m.length then 0x06
  else if kuwellKind m ≠ 1 then 0x07
  else if kuwellNum m 0x23 1 ≠ 1 ∨ !Config.mainSignature m then 0x08
  else if !kuwellHash m then 0x09
  else if kuwellNum m 0x22 1 < rollback then 0x0A
  else 0

/-- The island accepts the container of a legal image (13_kaolin_island R780): it fits a slot of 48 KiB, and
its hash and signature verify. -/
def kuwellLegalOk (m : List Byte) : Bool :=
  kuwellFormat m && kuwellLength m = m.length && m.length ≤ 49152 && kuwellKind m = 2
    && Config.legalSignature m && kuwellHash m

end Sys2Proof.Machine
end

