-- ==== Sys2Proof/Machine/ParamCheck.lean ====
section
/-! DEFINITION. The classification of a parameter operation before its item is looked at, and the completion
of an operation in its window (03_host_bus, "Parameter protocol"; 19_parameter_map R1046). -/

namespace Sys2Proof.Machine

/-- ERR codes (03_host_bus, "Parameter error codes"). -/
def errOk : BitVec 4 := 0
def errUndefined : BitVec 4 := 1
def errNoAccess : BitVec 4 := 2
def errReadOnly : BitVec 4 := 3
def errInvalid : BitVec 4 := 4
def errLocked : BitVec 4 := 6
def errNotNow : BitVec 4 := 7
def errClamped : BitVec 4 := 8
def errLimited : BitVec 4 := 9

/-- Indices of heads 2 and 3 (19_parameter_map R1044). -/
def headTwoThree (idx : Nat) : Bool :=
  (0x1800 ≤ idx && idx < 0x2000)
    || [0x0406, 0x0407, 0x040A, 0x040B, 0x040E, 0x040F, 0x0412, 0x0413, 0x0416, 0x0417,
        0x0502, 0x0503, 0x0506, 0x0507, 0x050A, 0x050B, 0x2202, 0x2203].contains idx
    || (0x2880 ≤ idx && idx < 0x2900)

/-- The index reads zero on this part (00_scope R15, R19). -/
def State.absentIndex (s : State) (idx : Nat) : Bool :=
  (s.part = .tl2816 && headTwoThree idx) || (s.part = .tl4816n && 0x4000 ≤ idx && idx < 0x5000)

/-- VI of a window 1 to 8. -/
def windowVi (w : Fin 11) : Option (Fin 8) :=
  if h : 1 ≤ w.val ∧ w.val ≤ 8 then some ⟨w.val - 1, by omega⟩ else none

/-- VI whose banked instances an operation of a window reaches (R180). -/
def State.portVi (s : State) (w : Fin 11) : Option (Fin 8) :=
  if w.val = 0 then
    let n := (s.bus.port[(0 : Fin 11)]).viSel.toNat
    if h : 1 ≤ n ∧ n ≤ 8 then some ⟨n - 1, by omega⟩ else none
  else windowVi w

/-- Check 1 of 19_parameter_map R1046: mode and VI state (02_power_clocks_modes R92; R181, R184, R185). -/
def State.opNow (s : State) (w : Fin 11) (idx : Nat) (write : Bool) : Bool :=
  (match s.pwr.mode with
    | .hold => w.val = 10 || (w.val ≤ 8 && !write && idx < 2)
    | .wake => idx < 0x100
    | _ => true)
  && (match s.pwr.pd with
    | some d => if write then d.stage = 0 && !d.collapsed else d.stage < 6
    | none => true)
  && (match windowVi w with
    | some v => s.vi[v].state = .enabled || (!write && idx < 0x100)
    | none => true)

/-- Check 3: the window reaches the index (R179, R180, R182). -/
def State.opReach (s : State) (w : Fin 11) (idx : Nat) (banked : Bool) : Bool :=
  if w.val = 0 then !banked || (s.portVi w).isSome
  else if w.val ≤ 8 then
    idx < 0x100
      || (0x100 ≤ idx && idx < 0x400 && 0x100 + 0x40 * (w.val - 1) ≤ idx && idx < 0x140 + 0x40 * (w.val - 1))
      || (0x400 ≤ idx && idx < 0x4000)
  else if w.val = 9 then idx < 0x100 || (0x4000 ≤ idx && idx < 0x5000)
  else idx < 0x100

/-- Check 4: the window may write the item (R179, R182). -/
def opWritable (w : Fin 11) (r : ParRow) : Bool :=
  if w.val = 0 then
    (match r.acc with
      | .rwHv | .woHv => true
      | .rw | .wo => r.banked
      | _ => false)
  else if w.val ≤ 8 then
    r.banked && (match r.acc with
      | .rw | .wo => true
      | _ => false)
  else false

/-- Checks 1 to 6 of 19_parameter_map R1046. -/
def State.parCheck (s : State) (w : Fin 11) (idx : Nat) (write : Bool) : BitVec 4 :=
  if !s.opNow w idx write then errNotNow
  else match parRow idx with
  | none =>
    if write ∨ !s.absentIndex idx then errUndefined else if s.opReach w idx false then errOk else errNoAccess
  | some r =>
    if write ∧ s.part = .tl2816 ∧ headTwoThree idx then errUndefined
    else if !s.opReach w idx r.banked then errNoAccess
    else if write ∧ !opWritable w r then errReadOnly
    else if write then
      match r.lock with
      | some l => if s.bus.lock.getLsbD l.val then errLocked else errOk
      | none => errOk
    else errOk

/-- The queue of a window raises PAR_ERROR (R175): windows 0 to 8 have queues. -/
def State.parErrOn (s : State) (w : Fin 11) : Bool :=
  if h : w.val ≤ 8 then (s.bus.evq[(⟨w.val, by omega⟩ : Fin 9)]).parErrEvt else false

/-- An operation of a window completes: ERR, and PAR_ERROR for a refused one (R173, R175). -/
def State.completeOp (s : State) (w : Fin 11) (idx : Nat) (err : BitVec 4) : State :=
  let s1 := s.onPort w fun p => { p with err := err }
  if 1 ≤ err.toNat ∧ err.toNat ≤ 7 ∧ s.parErrOn w then
    s1.raiseWin w 0x0E (byteOf' err.toNat) (BitVec.ofNat 16 idx)
  else s1
where
  byteOf' (n : Nat) : Byte := BitVec.ofNat 8 n

/-- The index moves on with AUTOINC (R172). -/
def ParPort.advance (p : ParPort) : ParPort :=
  if p.autoInc then { p with index := p.index + 1, staged := 0, snapshot := none } else p

/-- A value lies in the ranges of its item's fields. -/
def ParField.admits (f : ParField) (v : Par) : Bool :=
  let x : Int := if f.signed then (if f.width = 32 then v.toInt else (bits v f.lo f.width : Nat)) else (bits v f.lo f.width : Nat)
  f.min ≤ x && x ≤ f.max

end Sys2Proof.Machine
end

