-- ==== Sys2Proof/Machine/Flags.lean ====
section
/-! DEFINITION. Settings and status words of the heads, axes, cutter, media and lamps: how a parameter's
fields are read, and what the status parameters report (08_head_ports, 09_energy, 10_motion,
11_media_outputs). -/

namespace Sys2Proof.Machine

/-! ### Numbers -/

/-- Rounding to the nearest integer, halves up. -/
def roundHalfUp (x : Rat) : Int := (x + 1 / 2).floor

/-- A signed number as a parameter. -/
def parOfInt (x : Int) : Par := BitVec.ofInt 32 x

/-- A signed number in the low 16 bits of a parameter. -/
def low16 (x : Int) : Par := BitVec.setWidth 32 (BitVec.ofInt 16 x)

/-- A fraction as a parameter, rounded half up. -/
def parOfRat (x : Rat) : Par := parOfInt (roundHalfUp x)

/-- Integer square root, rounded down. -/
def isqrt (n : Nat) : Nat := Nat.sqrt n

/-! ### Settings -/

/-- A parameter of head port `h`. -/
def State.hPar (s : State) (h : Fin 4) (off : Nat) : Par := s.parG (0x1000 + 0x400 * h.val + off)
/-- A parameter of axis `a`. -/
def State.aPar (s : State) (a : Fin 4) (off : Nat) : Nat := s.parN (0x2000 + 0x80 * a.val + off)
/-- A parameter of the media sensing of head `h`. -/
def State.mPar (s : State) (h : Fin 4) (off : Nat) : Nat := s.parN (0x2800 + 0x40 * h.val + off)
/-- A signed parameter of the media sensing of head `h`. -/
def State.mInt (s : State) (h : Fin 4) (off : Nat) : Int := (s.parG (0x2800 + 0x40 * h.val + off)).toInt
/-- A parameter of lamp channel `c`. -/
def State.lPar (s : State) (c : Fin 8) (off : Nat) : Nat := s.parN (0x2900 + 0x10 * c.val + off)
/-- A parameter of the cutter. -/
def State.cutPar (s : State) (off : Nat) : Nat := s.parN (0x21A0 + off)

/-- head.cfg.FITTED. -/
def State.fitted (s : State) (h : Fin 4) : Bool := bit (s.hPar h 0) 0
/-- Lines per mm, ρ (head.cfg.DENSITY). -/
def State.density (s : State) (h : Fin 4) : Nat := if bit (s.hPar h 0) 1 then 12 else 8
/-- head.cfg.MIRROR. -/
def State.mirror (s : State) (h : Fin 4) : Bool := bit (s.hPar h 0) 3
/-- Lanes used, L. -/
def State.lanes (s : State) (h : Fin 4) : Nat := 2 ^ bits (s.hPar h 0) 4 3
/-- Strobe groups used, G. -/
def State.groups (s : State) (h : Fin 4) : Nat := 2 ^ bits (s.hPar h 0) 7 2
/-- Dots of the head. -/
def State.dots (s : State) (h : Fin 4) : Nat := bits (s.hPar h 0) 16 12
/-- Segments in use, S. -/
def State.segments (s : State) (h : Fin 4) : Nat := s.dots h / 32

/-- t_LAT, t_LS, t_SL in 10 ns. -/
def State.tLat (s : State) (h : Fin 4) : Nat := bits (s.hPar h 2) 0 8
/-- t_LS in 10 ns. -/
def State.tLs (s : State) (h : Fin 4) : Nat := bits (s.hPar h 2) 8 8
/-- t_SL in 10 ns. -/
def State.tSl (s : State) (h : Fin 4) : Nat := bits (s.hPar h 2) 16 8
/-- t_stag in 10 ns. -/
def State.tStag (s : State) (h : Fin 4) : Nat := (s.hPar h 3).toNat

/-- Head dot of raster dot `d` (08_head_ports, "Lines, slots and planes"). -/
def State.headDot (s : State) (h : Fin 4) (d : Nat) : Nat := if s.mirror h then s.dots h - 1 - d else d
/-- Strobe group of a head dot. -/
def State.groupOf (s : State) (h : Fin 4) (hd : Nat) : Nat := hd * s.groups h / max 1 (s.dots h)

/-- f_HD in Hz, at the lowest clock of 02_power_clocks_modes R75 on RC fallback (08_head_ports R477). -/
def State.hdClock (s : State) : Nat := if s.pwr.clkFallback then 94100000 else 100000000

/-- f / nominal of every clock of the PLL: f_MO / 50 MHz of 10_motion R594. -/
def State.clockScale (s : State) : Rat := (s.hdClock : Nat) / (100000000 : Rat)

/-- T_shift in s. -/
def State.tShift (s : State) (h : Fin 4) : Rat :=
  ((s.dots h / s.lanes h : Nat) : Rat) * (s.hPar h 1).toNat / (8 * s.hdClock : Nat)

/-- T_slot_min in s (08_head_ports, "Timing within a slot"), with given timing and stagger words. -/
def State.slotMin (s : State) (h : Fin 4) (timing stag : Par) : Rat :=
  let st : Rat := ((bits timing 8 8 + (s.groups h - 1) * stag.toNat + bits timing 16 8 : Nat) : Rat) / 100000000
  let ts := s.tShift h
  (if st ≤ ts then ts else st) + ((bits timing 0 8 : Nat) : Rat) / 100000000

/-- head.rate_lim (08_head_ports R477). A head whose dots are not yet configured has no lane to shift and
keeps the bound of its strobe times. -/
def State.rateLim (s : State) (h : Fin 4) : Nat :=
  if s.fitted h then
    min (s.hPar h 4).toNat (1 / (16 * s.slotMin h (s.hPar h 2) (s.hPar h 3))).floor.toNat
  else 0

/-- Paper axis of a head's path (10_motion, "Paths"). -/
def State.paperAxis (s : State) (h : Fin 4) : Fin 4 :=
  ⟨bits (s.parG (0x2200 + h.val)) 0 2, by unfold bits; omega⟩
/-- Presenter axis of a head's path, else its paper axis. -/
def State.presentAxis (s : State) (h : Fin 4) : Fin 4 :=
  if bit (s.parG (0x2200 + h.val)) 2 then ⟨bits (s.parG (0x2200 + h.val)) 3 2, by unfold bits; omega⟩
  else s.paperAxis h
/-- The path has the cutter. -/
def State.hasCutter (s : State) (h : Fin 4) : Bool := bit (s.parG (0x2200 + h.val)) 5

/-- Axis in cutter mode. -/
def State.cutterMode (s : State) : Bool := s.aPar 3 0 % 4 = 2
/-- axis.cfg.REVERSIBLE. -/
def State.reversible (s : State) (a : Fin 4) : Bool := (s.aPar a 0).testBit 3
/-- axis.scale, 2^-16 microsteps per mm. -/
def State.axScale (s : State) (a : Fin 4) : Nat := s.aPar a 1

/-- conv(d): 0.1 mm to microsteps (11_media_outputs, "Edges and label starts"). -/
def State.conv (s : State) (a : Fin 4) (d : Int) : Int := roundHalfUp ((d : Rat) * s.axScale a / 655360)

/-- Microsteps to 0.1 mm, toward the nearest. -/
def State.toTenths (s : State) (a : Fin 4) (m : Int) : Int :=
  roundHalfUp ((m : Rat) * 655360 / s.axScale a)

/-- Media type: 0 CONTINUOUS, 1 GAP, 2 MARK. -/
def State.mediaType (s : State) (h : Fin 4) : Nat := s.mPar h 0 % 4
/-- media.cfg.TOF on GAP or MARK media. -/
def State.tofOn (s : State) (h : Fin 4) : Bool := s.mediaType h ≠ 0 && (s.mPar h 0).testBit 2

/-! ### Head status -/

/-- Codes of the head states. -/
def HeadState.code : HeadState → Nat
  | .unfitted => 0
  | .out => 1
  | .powering => 2
  | .inService => 3

/-- Codes of the causes of OUT. -/
def OutCause.code : OutCause → Nat
  | .none => 0
  | .manual => 1
  | .notPresent => 2
  | .hotplug => 3
  | .supply => 4
  | .overcurrent => 5
  | .thermistor => 6
  | .dots => 7

/-- Codes of the dot classes. -/
def DotClass.code : DotClass → Nat
  | .ok => 0
  | .low => 1
  | .high => 2
  | .short => 3
  | .open => 4
  | .unmeasured => 7

/-- head.stat (08_head_ports). -/
def State.headStat (s : State) (h : Fin 4) : Par :=
  let x := s.paper.head[h]
  if !s.headPresent h then 0
  else fld x.state.code 0 ||| fld (if x.state = .out then x.cause.code else 0) 4 ||| flag x.scanning 7
    ||| flag x.present 8 ||| flag x.pen 9 ||| flag x.enableRefused 10 ||| flag x.disablePending 11
    ||| fld x.retries.toNat 12 ||| fld (x.scanDot.getD 0 % 2048) 16

/-- The record of a dot. -/
def Head.dot (x : Head) (d : Nat) : Dot := (sparseFind d x.dots).getD { cls := .unmeasured, r := 0 }

/-- Dots of a class set. -/
def Head.countDots (x : Head) (t : DotClass → Bool) : Nat := (x.dots.filter fun e => t e.2.cls).length

/-- OPEN + SHORT. -/
def Head.badDots (x : Head) : Nat := x.countDots fun c => c = .open || c = .short
/-- LOW + HIGH. -/
def Head.offDots (x : Head) : Nat := x.countDots fun c => c = .low || c = .high

/-- head.fault_count (R494). -/
def Head.faultCount (x : Head) : Par := fld x.badDots 0 ||| fld x.offDots 16

/-- Dot `d` is masked. -/
def State.masked (s : State) (h : Fin 4) (d : Nat) : Bool := bit (s.hPar h (0x80 + d / 32)) (d % 32)

/-- head.dot_query. -/
def State.dotQuery (s : State) (h : Fin 4) : Par :=
  let x := s.paper.head[h]
  let d := x.dot x.dotQuery.toNat
  fld x.dotQuery.toNat 0 ||| fld d.cls.code 11 ||| flag (s.masked h x.dotQuery.toNat) 14 ||| fld d.r.toNat 16

/-- head.scan_age: seconds since the end of the last complete scan, saturating. -/
def State.scanAge (s : State) (h : Fin 4) : Par :=
  match s.paper.head[h].scanDoneAt with
  | none => 0xFFFFFFFF
  | some t => BitVec.ofNat 32 (sat ((s.now - t) / 1000000) 0xFFFFFFFF)

/-- head.r_avg: mean R of the dots classed OK, 1/16 Ω. -/
def Head.meanR (x : Head) : Nat :=
  let l := x.dots.filter fun e => e.2.cls = .ok
  if l.isEmpty then 0
  else (roundHalfUp ((l.foldl (fun n e => n + e.2.r.toNat) 0 : Nat) / (l.length : Rat))).toNat

/-! ### Energy status -/

/-- A node in 1/16 °C, rounded half up (09_energy R548). -/
def nodeSixteenth (t : BitVec 32) : Int := (t.toInt + 2048) / 4096

/-- energy.t_seg_j. -/
def State.tSeg (s : State) (h : Fin 4) (j : Fin 64) : Par :=
  let e := s.paper.energy[h]
  low16 (nodeSixteenth e.node[j]) ||| fld e.d[j] 16

/-- Hottest segment in use, the lowest among equals. -/
def State.hottest (s : State) (h : Fin 4) : Fin 64 :=
  (List.finRange 64).foldl (fun (b : Fin 64) (j : Fin 64) =>
    if j.val < s.segments h ∧ s.paper.energy[h].node[b].toInt < s.paper.energy[h].node[j].toInt then j else b) 0

/-- energy.t_max. -/
def State.tMax (s : State) (h : Fin 4) : Par :=
  let j := s.hottest h
  low16 (nodeSixteenth s.paper.energy[h].node[j]) ||| fld j.val 16

/-! ### Axis and cutter status -/

/-- Codes of the axis states. -/
def AxisState.code : AxisState → Nat
  | .off => 0
  | .idle => 1
  | .moving => 2
  | .stopping => 3
  | .fault => 4

/-- axis.stat (10_motion): the state reads OFF in cutter mode. -/
def State.axisStat (s : State) (a : Fin 4) : Par :=
  let x := s.paper.axis[a]
  fld (if a = 3 ∧ s.cutterMode then 0 else x.state.code) 0 ||| flag x.uncertain 3 ||| flag x.reduced 4
    ||| flag (x.lim0 && s.aPar a 0xA % 4 ≠ 0) 5 ||| flag (x.lim1 && s.aPar a 0xA / 256 % 4 ≠ 0) 6 ||| flag x.flt 7 ||| fld x.stopCause.toNat 8
    ||| flag x.queued.isSome 11 ||| flag x.enableRefused 12 ||| fld x.refuseCause.toNat 13 ||| flag x.neg 16

/-- Entry of an axis's table, T(256) being 1,023. -/
def State.sine (s : State) (a : Fin 4) (i : Nat) : Int :=
  if i < 256 then ((s.parN (0x2400 + 0x100 * a.val + i) % 1024 : Nat) : Int) else 1023

/-- S(u) (10_motion, "Position, microsteps and the table"). -/
def State.phaseS (s : State) (a : Fin 4) (u : Nat) : Int :=
  let j := u % 256
  match u % 1024 / 256 with
  | 0 => s.sine a j
  | 1 => s.sine a (256 - j)
  | 2 => - s.sine a j
  | _ => - s.sine a (256 - j)

/-- i_eff, mA (10_motion R584). -/
def State.iEff (s : State) (a : Fin 4) : Rat :=
  if s.paper.axis[a].reduced then (s.aPar a 6 : Rat) * (s.aPar a 8 % 512 : Nat) / 256 else (s.aPar a 6 : Rat)

/-- DAC code of a phase current i_eff × S / 1,023. -/
def State.dacCode (s : State) (a : Fin 4) (x : Int) : Nat :=
  min 1023 (roundHalfUp (s.iEff a * (x.natAbs : Rat) / (s.aPar a 7 : Rat))).toNat

/-- Microstep index u of an axis. -/
def Axis.index (x : Axis) : Nat := x.pos.toNat % 1024

/-- Current of a phase at the present index, in 1/1,023 of i_eff: DIR_INV exchanges the roles of the phases. -/
def State.phaseCurrent (s : State) (a : Fin 4) (phaseB : Bool) : Int :=
  let u := s.paper.axis[a].index
  s.phaseS a (if phaseB != (s.aPar a 0).testBit 2 then (u + 256) % 1024 else u)

/-- DAC code of a phase at the present index. -/
def State.phaseCode (s : State) (a : Fin 4) (phaseB : Bool) : Nat := s.dacCode a (s.phaseCurrent a phaseB)

/-- axis.dac: codes of phases A and B; an OFF axis drives neither. -/
def State.axisDac (s : State) (a : Fin 4) : Par :=
  if s.paper.axis[a].state = .off then 0 else fld (s.phaseCode a false) 0 ||| fld (s.phaseCode a true) 16

/-- axis.vel: signed, 1/16 mm/s, at the MO clock in force (10_motion R594). -/
def State.axisVel (s : State) (a : Fin 4) : Par :=
  let x := s.paper.axis[a]
  if x.standing then 0 else parOfRat ((if x.neg then -1 else 1) * x.speed * s.clockScale * 16)

/-- The reverse floor (10_motion R603). -/
def State.revFloor (s : State) (a : Fin 4) : Int :=
  s.paper.axis[a].revHigh.toInt - s.conv a (s.aPar a 0xB : Nat)

/-- axis.rev_floor: reported on reversible axes. -/
def State.revFloorPar (s : State) (a : Fin 4) : Par := parOfInt (s.revFloor a)

/-- axis.target: the position while no move runs. -/
def State.axisTarget (s : State) (a : Fin 4) : Par :=
  match s.paper.axis[a].move with
  | some m => parOfInt m.target
  | none => s.paper.axis[a].pos

/-- Codes of the cutter states. -/
def CutState.code : CutState → Nat
  | .off => 0
  | .home => 1
  | .cutting => 2
  | .returning => 3
  | .braking => 4
  | .jammed => 5

/-- cut.stat. -/
def Cutter.stat (c : Cutter) : Par := fld c.state.code 0 ||| flag c.home 3 ||| flag c.fault 4

/-! ### Media and lamp status -/

/-- media.stat. -/
def Media.stat (m : Media) : Par :=
  flag (!m.peLow) 0 ||| flag (!m.covLow) 1 ||| flag m.paperLow 2 ||| flag m.paperEnd 3
    ||| flag m.coverOpen 4 ||| flag m.learned 5 ||| flag m.cutLine.isSome 6 ||| flag m.seek.isSome 7

/-- Codes of the lamp states. -/
def LampState.code : LampState → Nat
  | .off => 0
  | .waiting => 1
  | .inrush => 2
  | .on => 3
  | .tripped => 4

/-- lamp.stat. -/
def Lamp.stat (l : Lamp) : Par :=
  fld l.state.code 0 ||| flag l.isOpen 3 ||| flag l.overload 4 ||| flag l.limiting 5 ||| fld l.duty 8

/-- Claim of a channel on lamp.budget, mA (11_media_outputs, "Lamp and solenoid channels"). -/
def State.lampClaim (s : State) (c : Fin 8) : Nat :=
  match s.paper.lamp[c].state with
  | .inrush => s.lPar c 2
  | .on => s.lPar c 1
  | _ => 0

/-- lamp.budget_used. -/
def State.budgetUsed (s : State) : Nat := (List.finRange 8).foldl (fun n c => n + s.lampClaim c) 0

end Sys2Proof.Machine
end

