-- ==== Sys2Proof/Machine/SiltOps.lean ====
section
/-! DEFINITION. Shared operations of the raster memory: pages, frames, store chunks and bands
(06_silt). A page's state follows from the stored bands and the frames (notes/assumptions 17). -/

namespace Sys2Proof.Machine

/-- Frames available to VIs (06_silt R367). -/
def frameTotal : Nat := 1408

/-- Key of band `b` of VI `v`. -/
def bandKey (v : Fin 8) (b : Nat) : Nat := 4096 * v.val + b

/-- The stored band. -/
def State.band (s : State) (v : Fin 8) (b : Nat) : Option Band := sparseFind (bandKey v b) s.silt.bands

/-- Frames held by a VI, by rising number. -/
def State.framesOf (s : State) (v : Fin 8) : List (Nat × Frame) :=
  s.silt.frames.filter fun e => e.2.owner = v

/-- Number of frames held by a VI. -/
def State.heldFrames (s : State) (v : Fin 8) : Nat := (s.framesOf v).length

/-- silt.frames_free. -/
def State.freeFrames (s : State) : Nat := frameTotal - s.silt.frames.length

/-- frame_min of a VI. -/
def State.frameMin (s : State) (v : Fin 8) : Nat := (s.vi[v].contract[5]).toNat
/-- frame_max of a VI. -/
def State.frameMax (s : State) (v : Fin 8) : Nat := (s.vi[v].contract[6]).toNat

/-- silt.pool_free (R369). -/
def State.poolFree (s : State) : Nat :=
  s.freeFrames - ((List.finRange 8).foldl (fun n v =>
    if s.viCounted v then n + (s.frameMin v - s.heldFrames v) else n) 0)

/-- The lowest free frame. -/
def State.lowestFree (s : State) : Option Nat :=
  (List.range frameTotal).find? fun f => (sparseFind f s.silt.frames).isNone

/-- A frame returns to the free frames and is zeroed (R375). -/
def State.freeFrame (s : State) (f : Nat) : State :=
  s.onSilt fun x => { x with
    frames := sparseDel f x.frames
    sram := x.sram.filter fun c => c.1 < 4096 * f || 4096 * f + 4096 ≤ c.1 }

/-- Enter or change a frame. -/
def State.putFrame (s : State) (f : Nat) (x : Frame) : State :=
  s.onSilt fun y => { y with frames := sparsePut f x y.frames }

/-- The frame may be replaced: it holds the current version of a page and is not pinned (R370, R371). -/
def Frame.replaceable (f : Frame) : Bool :=
  match f.use with
  | .page _ => f.pins = 0
  | _ => false

/-- The clock visits frames in turn: it clears REF and stops at the first frame whose REF was 0 (R370). -/
def clockVisit (s : State) (v : Fin 8) : List Nat → Option Nat × State
  | [] => (none, s)
  | f :: t =>
    match sparseFind f s.silt.frames with
    | none => clockVisit s v t
    | some x =>
      let s1 := s.onVi v fun y => { y with hand := f }
      if x.ref then clockVisit (s1.putFrame f { x with ref := false }) v t
      else (some f, s1)

/-- The frames that the clock of a VI may visit, in the order from its hand on. -/
def State.clockOrder (s : State) (v : Fin 8) : List Nat :=
  let l := ((s.framesOf v).filter fun e => e.2.replaceable).map fun e => e.1
  let h := s.vi[v].hand
  (l.filter fun f => h < f) ++ (l.filter fun f => f ≤ h)

/-- Replace one of the VI's own frames by the clock, within two turns (R370). -/
def State.replaceOwn (s : State) (v : Fin 8) : Option Nat × State :=
  let o := s.clockOrder v
  match clockVisit s v (o ++ o) with
  | (some f, s1) => (some f, s1.freeFrame f)
  | (none, s1) => (none, s1)

/-- A free frame by rule 1 or rule 2 of R368. -/
def State.freeByRule (s : State) (v : Fin 8) : Option Nat :=
  if s.heldFrames v < s.frameMin v then s.lowestFree
  else if s.heldFrames v < s.frameMax v ∧ 0 < s.poolFree then s.lowestFree
  else none

/-- The frame that a VI takes (R368), with one further replacement while it holds more than frame_max
(R374). A prefetch takes none by replacement (R388). -/
def State.takeFrame (s : State) (v : Fin 8) (prefetch : Bool) : Option Nat × State :=
  match s.freeByRule v with
  | some f => (some f, s)
  | none =>
    if prefetch then (none, s)
    else if s.frameMax v < s.heldFrames v then
      match s.replaceOwn v with
      | (some f, s1) => (some f, (s1.replaceOwn v).2)
      | (none, s1) => (none, s1)
    else s.replaceOwn v

/-- The frame that holds the current version of a page. -/
def State.frameOfPage (s : State) (v : Fin 8) (p : Nat) : Option (Nat × Frame) :=
  (s.framesOf v).find? fun e => e.2.use = .page p

/-- Pins: bit 0 to 3 the fetchers, bit 4 the read stream. -/
def fetcherPin (h : Fin 4) : Fin 5 := ⟨h.val, by omega⟩
/-- The pin of a VI's read stream. -/
def streamPin : Fin 5 := 4

/-- Pin a page that is in a frame (R363): its REF is set (R372). -/
def State.pinPage (s : State) (v : Fin 8) (p : Nat) (who : Fin 5) : State :=
  match s.frameOfPage v p with
  | some (f, x) => s.putFrame f { x with ref := true, pins := x.pins ||| BitVec.ofNat 5 (2 ^ who.val) }
  | none => s

/-- The last pin of a frame is released: a current page keeps its frame with REF = 1, a detached one
gives it back (R363, R412). -/
def State.unpinFrame (s : State) (f : Nat) (who : Fin 5) : State :=
  match sparseFind f s.silt.frames with
  | none => s
  | some x =>
    if x.pins.getLsbD who.val then
      let x1 := { x with pins := x.pins &&& ~~~(BitVec.ofNat 5 (2 ^ who.val)) }
      if x1.pins ≠ 0 then s.putFrame f x1
      else match x1.use with
        | .detached _ => s.freeFrame f
        | _ => s.putFrame f { x1 with ref := true }
    else s

/-- Release every pin that a fetcher or read stream has on the VI's frames whose page passes a test. -/
def State.unpinWhere (s : State) (v : Fin 8) (who : Fin 5) (t : Nat → Bool) : State :=
  (s.framesOf v).foldl (fun u e =>
    match e.2.use with
    | .page p | .detached p => if t p then u.unpinFrame e.1 who else u
    | .store _ => u) s

/-- An ingest buffer holds the band: it is PENDING (06_silt, "Bands and pages"). -/
def State.bandPending (s : State) (v : Fin 8) (b : Nat) : Bool :=
  s.marl.buffer.toList.any fun o => match o with
    | some x => x.vi = v && x.band = b
    | none => false

/-- The band is LOST. -/
def State.bandLost (s : State) (v : Fin 8) (b : Nat) : Bool :=
  match s.band v b with
  | some x => x.lost
  | none => false

/-- State code of a page: 0 ABSENT, 1 COMPRESSED, 2 RESIDENT, 3 PINNED. -/
def State.pageState (s : State) (v : Fin 8) (p : Nat) : Nat :=
  match s.frameOfPage v p with
  | some (_, x) => if x.pins ≠ 0 then 3 else 2
  | none => if (s.band v (p / 4)).isSome then 1 else 0

/-- A byte of the raster as a fetcher or read stream reads it: white where the page is ABSENT (R364),
the version pinned where its frame is pinned by the reader (R412). -/
def State.rasterByte (s : State) (v : Fin 8) (who : Fin 5) (a : Nat) : Byte :=
  let p := a / 4096
  let mine := (s.framesOf v).find? fun e =>
    (e.2.use = .page p || e.2.use = .detached p) && e.2.pins.getLsbD who.val
  match mine with
  | some (f, _) => memRead s.silt.sram (4096 * f + a % 4096)
  | none => match s.frameOfPage v p with
    | some (f, _) => memRead s.silt.sram (4096 * f + a % 4096)
    | none => 0

/-! ### Store chunks -/

/-- Read a chunk. A chunk of the on-chip store is a quarter of its frame. -/
def State.readChunk (s : State) (external : Bool) (c : Nat) : List Byte :=
  memReadN (if external then s.silt.dram else s.silt.sram) (1024 * c) 1024

/-- Write bytes into a chunk. -/
def State.writeChunk (s : State) (external : Bool) (c : Nat) (l : List Byte) : State :=
  s.onSilt fun x =>
    if external then { x with dram := memWriteN x.dram (1024 * c) l }
    else { x with sram := memWriteN x.sram (1024 * c) l }

/-- Write bytes into a chain of chunks. -/
def writeChain (s : State) (external : Bool) : List Nat → List Byte → State
  | [], _ => s
  | c :: t, l => writeChain (s.writeChunk external c (l.take 1024)) external t (l.drop 1024)

/-- Free a chunk; an on-chip store frame none of whose chunks is used returns to the free frames
(R377). -/
def State.freeChunk (s : State) (external : Bool) (c : Nat) : State :=
  if external then
    s.onSilt fun x => { x with
      extUsed := x.extUsed.filter fun d => d ≠ c
      dram := x.dram.filter fun e => e.1 < 1024 * c || 1024 * c + 1024 ≤ e.1 }
  else
    match sparseFind (c / 4) s.silt.frames with
    | some x => match x.use with
      | .store u =>
        let u1 := u &&& ~~~(BitVec.ofNat 4 (2 ^ (c % 4)))
        if u1 = 0 then s.freeFrame (c / 4) else s.putFrame (c / 4) { x with use := .store u1 }
      | _ => s
    | none => s

/-- Free chunks. -/
def State.freeChunks (s : State) (external : Bool) (l : List Nat) : State :=
  l.foldl (fun u c => u.freeChunk external c) s

/-- Chunks in use by a VI's stored bands: silt.store_used. -/
def State.storeUsed (s : State) (v : Fin 8) : Nat :=
  (s.silt.bands.filter fun e => e.1 / 4096 = v.val).foldl (fun n e => n + e.2.chunks.length) 0

/-- Chunks reserved for a VI: by the block being coded, and by its guest slots. -/
def State.storeReserved (s : State) (v : Fin 8) : Nat :=
  (match s.marl.coding with
    | some c => match s.marl.buffer[c.buffer] with
      | some b => if b.vi = v then c.chunks.length else 0
      | none => 0
    | none => 0)
  + s.link.guest.foldl (fun n o => match o with
    | some g => if g.vi = v then n + g.reserved.length else n
    | none => n) 0

/-- Insert a number into a rising list. -/
def insertRising (c : Nat) : List Nat → List Nat
  | [] => [c]
  | d :: t => if c < d then c :: d :: t else d :: insertRising c t

/-- The lowest free chunk of the external memory. -/
def lowestUnused (used : List Nat) (c : Nat) : Nat :=
  match used with
  | [] => c
  | d :: t => if d = c then lowestUnused t (c + 1) else c

/-- The VI's store frame with a chunk that is neither in use nor reserved, lowest frame first, and the
chunk (R377). -/
def State.partFrame (s : State) (v : Fin 8) : Option (Nat × BitVec 4 × Nat) :=
  (s.framesOf v).findSome? fun e =>
    match e.2.use with
    | .store u => ((List.range 4).find? fun n => !u.getLsbD n).map fun n => (e.1, u, n)
    | _ => none

/-- Reserve one chunk for a VI. -/
def State.reserveChunk (s : State) (v : Fin 8) : Option (Nat × State) :=
  if s.silt.external then
    let c := lowestUnused s.silt.extUsed 0
    if c < s.silt.extChunks then
      some (c, s.onSilt fun x => { x with extUsed := insertRising c x.extUsed })
    else none
  else match s.partFrame v with
    | some (f, u, n) => match sparseFind f s.silt.frames with
      | some x => some (4 * f + n, s.putFrame f { x with use := .store (u ||| BitVec.ofNat 4 (2 ^ n)) })
      | none => none
    | none => match s.takeFrame v false with
      | (some f, s1) => some (4 * f, s1.putFrame f { owner := v, use := .store 1, ref := false, pins := 0 })
      | (none, _) => none

/-- Reserve `n` chunks for a VI, or none at all. -/
def State.reserveChunks (s : State) (v : Fin 8) : Nat → Option (List Nat × State)
  | 0 => some ([], s)
  | n + 1 => match s.reserveChunk v with
    | some (c, s1) => match s1.reserveChunks v n with
      | some (l, s2) => some (c :: l, s2)
      | none => none
    | none => none

/-! ### Bands -/

/-- The pages of a band leave their frames: an unpinned frame is freed, a pinned one is detached
(R363, R412). -/
def State.dropPages (s : State) (v : Fin 8) (b : Nat) : State :=
  (s.framesOf v).foldl (fun u e =>
    match e.2.use with
    | .page p =>
      if p / 4 = b then
        (if e.2.pins = 0 then u.freeFrame e.1 else u.putFrame e.1 { e.2 with use := .detached p })
      else u
    | _ => u) s

/-- A band becomes ABSENT: its chunks and unpinned frames are freed (R366). -/
def State.dropBand (s : State) (v : Fin 8) (b : Nat) : State :=
  let s1 := s.dropPages v b
  match s1.band v b with
  | some x => (s1.freeChunks x.external x.chunks).onSilt fun y =>
      { y with bands := sparseDel (bandKey v b) y.bands }
  | none => s1

/-- Bands from `b` on become ABSENT. -/
def State.dropBands (s : State) (v : Fin 8) (b : Nat) : Nat → State
  | 0 => s
  | n + 1 => (s.dropBand v b).dropBands v (b + 1) n

/-- A block of a band is placed in chunks that hold it: its pages become COMPRESSED, and the chunks of the
previous block are freed (R363; 07_marl R436). -/
def State.placeBand (s : State) (v : Fin 8) (b : Nat) (external : Bool) (chunks : List Nat) : State :=
  (s.dropBand v b).onSilt fun y => { y with
    bands := sparsePut (bandKey v b) { chunks := chunks, external := external, lost := false } y.bands }

/-- The bytes of a band's stored block, with the padding of its last chunk. -/
def State.blockBytes (s : State) (x : Band) : List Byte :=
  x.chunks.flatMap fun c => s.readChunk x.external c

end Sys2Proof.Machine
end

