-- ==== Sys2Proof/Machine/Jobs.lean ====
section
/-! DEFINITION. Shared operations on jobs: the accounts of head time, chains and fences, and the end of a
job (05_loam). -/

namespace Sys2Proof.Machine

/-! ### Accounts (05_loam, "Sharing a head") -/

/-- The credits of one VI on one head rise with `dt` µs at `rate`/1,024, keeping the fraction, up to the
cap. -/
def riseCredit (c : Int) (frac rate dt cap : Nat) : Int × Nat :=
  let t := frac + rate * dt
  let c1 := c + (t / 1024 : Nat)
  (if (cap : Int) ≤ c1 then (cap : Int) else c1, t % 1024)

/-- The accounts rise up to the present instant (R323). VIs that are not counted gain nothing
(notes/assumptions 18). -/
def State.accrue (s : State) : State :=
  let dt := s.now - s.loam.creditAt
  let cap := s.parN 0x400
  let s1 := (List.finRange 8).foldl (fun u v =>
    if u.viCounted v then
      (List.finRange 4).foldl (fun u (h : Fin 4) =>
        u.onVi v fun x =>
          let g := riseCredit x.creditG[h] x.creditFrac[h].1 (x.contract[8 + h.val]).toNat dt cap
          let m := riseCredit x.creditM[h] x.creditFrac[h].2 (x.contract[12 + h.val]).toNat dt cap
          { x with creditG := x.creditG.set h g.1, creditM := x.creditM.set h m.1,
                   creditFrac := x.creditFrac.set h (g.2, m.2) }) u
    else u) s
  s1.onLoam fun l => { l with creditAt := s.now }

/-- Credits saturate at −2^31 µs (R324). -/
def floorCredit (c : Int) : Int := if c < -2147483648 then -2147483648 else c

/-- Head time is charged to a VI on a head (R323): to the surplus time only for a job dispatched in the
surplus class. -/
def State.charge (s : State) (v : Fin 8) (h : Fin 4) (t : Nat) (surplus : Bool) : State :=
  s.accrue.onVi v fun x =>
    let w := (x.contract[16 + h.val]).toNat
    { x with
      creditG := x.creditG.set h (floorCredit (x.creditG[h] - t))
      creditM := x.creditM.set h (floorCredit (x.creditM[h] - t))
      surplus := if surplus ∧ w ≠ 0 then x.surplus.set h (x.surplus[h] + t * 256 / w) else x.surplus }

/-! ### Descriptors of a VI -/

/-- All handles of a VI with their descriptors. -/
def State.viJobs (s : State) (v : Fin 8) : List (Handle × Job) :=
  (List.finRange 16).map fun i => (i, s.loam.jobs[v][i])

/-- Descriptors held by a VI. -/
def State.heldJobs (s : State) (v : Fin 8) : Nat :=
  ((s.viJobs v).filter fun e => e.2.state ≠ .free).length

/-- Resident descriptors of a VI. -/
def State.residentJobs (s : State) (v : Fin 8) : Nat :=
  ((s.viJobs v).filter fun e => e.2.state.resident).length

/-- loam.free: free descriptors of the device. -/
def State.freeJobs (s : State) : Nat :=
  32 - (List.finRange 8).foldl (fun n v => n + s.heldJobs v) 0

/-- Insert a job by acceptance order. -/
def insertByOrder (e : Handle × Job) : List (Handle × Job) → List (Handle × Job)
  | [] => [e]
  | f :: t => if e.2.order ≤ f.2.order then e :: f :: t else f :: insertByOrder e t

/-- Jobs of a VI on a head that are resident, by acceptance order; a FENCE is on no head. -/
def State.headJobs (s : State) (v : Fin 8) (h : Fin 4) : List (Handle × Job) :=
  ((s.viJobs v).filter fun e => e.2.state.resident && !e.2.isFence && e.2.head = h).foldr
    insertByOrder []

/-- The resident jobs of a chain of a VI, by acceptance order. -/
def State.chainJobs (s : State) (v : Fin 8) (c : Nat) : List (Handle × Job) :=
  ((s.viJobs v).filter fun e => e.2.state.resident && e.2.chain = some c).foldr insertByOrder []

/-- The later jobs of the chain of a job. -/
def State.chainLater (s : State) (j : JobRef) : List (Handle × Job) :=
  let x := s.job j
  match x.chain with
  | some c => (s.chainJobs j.vi c).filter fun e => x.order < e.2.order
  | none => []

/-- A job accepted with an order takes its place in a chain (R318): the one that its VI's submission before it on its
head has left open, else one of its own when it has CONT = 1. A job received from a peer takes no part
(notes/assumptions 46). -/
def State.joinChain (s : State) (j : JobRef) (order : Nat) : State :=
  let x := s.job j
  if x.guest.isSome then s
  else
    let c := match s.vi[j.vi].openChain[x.head] with
      | some c => some c
      | none => if x.cont then some order else none
    (s.onJob j fun y => { y with chain := c, broken := false }).onVi j.vi fun y => { y with
      openChain := y.openChain.set x.head (if x.cont then c else none) }

/-- A job of a chain does not end DONE (R318 to R320): the chain takes no further job, and if it has not begun, the
jobs before it wait for one that never comes (R360). -/
def State.breakChain (s : State) (j : JobRef) : State :=
  let x := s.job j
  match x.chain with
  | none => s
  | some c =>
    let s1 := s.onVi j.vi fun y => { y with
      openChain := if y.openChain[x.head] = some c then y.openChain.set x.head none else y.openChain }
    if s.loam.head[x.head].chain = some (j.vi, c) then s1
    else (s1.chainJobs j.vi c).foldl (fun u e => u.onJob ⟨j.vi, e.1⟩ fun y => { y with broken := true }) s1

/-- The chain in progress on a head is over with its last job there. -/
def State.chainOver (s : State) (h : Fin 4) : State :=
  match s.loam.head[h].chain with
  | none => s
  | some (v, c) =>
    if (s.headJobs v h).any fun e => e.2.chain = some c then s
    else s.onLoamHead h fun l => { l with chain := none }

/-! ### The end of a job -/

/-- The guest slot of a job that ends is discarded and freed, and the sender is told (17_ryine R966). -/
def State.endGuest (s : State) (j : JobRef) (ok : Bool) (result headTime amount : Nat) : State :=
  match (s.job j).guest with
  | none => s
  | some g =>
    let s1 := s.sendResult g.node g.migId (if ok then 4 else 5) result headTime amount
    let s2 := s1.dropBands j.vi (0xC00 + 0x100 * g.slot.val) 256
    s2.onLink fun l => { l with guest := l.guest.set g.slot none }

/-- QUEUE_SPACE is raised once when the resident count falls below vi.job_max after a QUEUE_FULL
(R299). -/
def State.queueSpace (s : State) (v : Fin 8) : State :=
  match s.vi[v].queueFull with
  | some h =>
    if s.residentJobs v < (s.vi[v].contract[4]).toNat then
      (s.onVi v fun x => { x with queueFull := none }).raiseVi v 0x27 (byteOf h.val)
        (BitVec.ofNat 16 (s.residentJobs v))
    else s
  | none => s

/-- Event code of a terminal state. -/
def terminalEvent : JobState → Byte
  | .done => 0x20
  | .failed => 0x21
  | _ => 0x22

/-- One descriptor takes a terminal state: word 7 is written and the event raised, and with AUTOFREE = 1
the descriptor is freed (R341, R342). -/
def State.finishOne (s : State) (j : JobRef) (st : JobState) (result amount : Nat) : State :=
  let a := sat amount 65535
  let x := s.job j
  let s1 := (s.onJob j fun y => { y with
    state := st, remote := none, marginSince := none
    word := y.word.set 7 (fld a 0 ||| fld result 16) }).onVi j.vi fun y =>
      if y.dupHandle = j.handle then { y with dupArmed := false } else y
  let s2 := s1.raiseVi j.vi (terminalEvent st) (byteOf (j.handle.val + 16 * result)) (BitVec.ofNat 16 a)
  if x.autofree then s2.onJob j fun _ => {} else s2

/-- Fences of a VI whose earlier jobs on their heads are all terminal go to DONE (R321). -/
def State.fencesDone (s : State) (v : Fin 8) : State :=
  (s.viJobs v).foldl (fun u e =>
    let x := u.loam.jobs[v][e.1]
    if x.state = .ready && x.isFence
        && !((u.viJobs v).any fun f => f.2.state.resident && !f.2.isFence && f.2.order < x.order
              && x.masks f.2.head)
    then (u.finishOne ⟨v, e.1⟩ .done 0 0).queueSpace v
    else u) s

/-- A job ends (R323, R341 to R343, R320, R321): a local job that was dispatched is charged its head
time, the later jobs of its chain are cancelled when it did not end DONE, and fences and QUEUE_SPACE
follow. `amount` is word 7: lines burnt or distance moved. -/
def State.endJob (s : State) (j : JobRef) (st : JobState) (result amount : Nat) : State :=
  let x := s.job j
  let started := (x.state = .dispatched ∨ x.state = .active) ∧ x.remote.isNone
  let t := if started then s.now - x.dispatchedAt else 0
  let later := if st = .done then [] else s.chainLater j
  let s1 := if started then s.charge j.vi x.head t x.surplusClass else s
  let s2 := s1.endGuest j (st = .done) result t (sat amount 65535)
  let s3 := (if st = .done then s2 else s2.breakChain j).finishOne j st result amount
  let s4 := s3.onLoamHead x.head fun l => { l with running := if l.running = some j then none else l.running }
  let s5 := later.foldl (fun u e => u.finishOne ⟨j.vi, e.1⟩ .cancelled 12 0) s4
  (((s5.chainOver x.head).fencesDone j.vi).queueSpace j.vi)

/-- A job goes to ACTIVE (R314, R341). -/
def State.activate (s : State) (j : JobRef) : State :=
  if (s.job j).state = .dispatched then
    let s1 := s.onJob j fun y => { y with state := .active }
    if (s.job j).notifyStart then s1.raiseVi j.vi 0x23 (byteOf j.handle.val) 0 else s1
  else s

/-- A job becomes DISPATCHED here (R312); a guest job's sender is told STARTED (17_ryine R966). -/
def State.dispatchJob (s : State) (j : JobRef) (surplus : Bool) : State :=
  let x := s.job j
  let s1 := s.onJob j fun y => { y with state := .dispatched, dispatchedAt := s.now, surplusClass := surplus }
  let s2 := s1.onLoamHead x.head fun l => { l with
    running := some j, reserved := none, chain := x.chain.map fun c => (j.vi, c) }
  match x.guest with
  | some g => s2.sendResult g.node g.migId 3 0 0 0
  | none => s2

/-- A migrated job goes back to READY with its acceptance order (R348; 17_ryine R956). -/
def State.returnJob (s : State) (j : JobRef) : State :=
  s.onJob j fun y => { y with state := .ready, remote := none, marginSince := none }

end Sys2Proof.Machine
end

