-- ==== Sys2Proof/Machine/PaperOps.lean ====
section
/-! DEFINITION. Shared operations of the paper path: adaptive loops, head states, moves of the axes, the
stop of a job and the phases of a job on its path (01_station_system, 08_head_ports, 10_motion,
11_media_outputs). -/

namespace Sys2Proof.Machine

/-! ### Adaptive loops and ceilings (01_station_system) -/

/-- A loop is frozen (R47). -/
def State.frozen (s : State) (loop : Nat) : Bool := s.bus.loopFreeze.getLsbD loop

/-- Payload of BOUND and CLAMP (R46). -/
def boundPayload (id : Nat) (upper : Bool) (source head lamp : Nat) : Word :=
  BitVec.ofNat 16 (id + (if upper then 256 else 0) + 512 * source + 2048 * head + 8192 * lamp)

/-- BOUND of a loop, on the queue of the party whose bound is binding (R44). -/
def State.raiseBound (s : State) (loop : Nat) (upper : Bool) (tenant : Option (Fin 8)) : State :=
  match tenant with
  | some v => s.raiseVi v 0x0C 0 (boundPayload loop upper 0 0 0)
  | none => s.raise0 0x0C 0 (boundPayload loop upper 0 0 0)

/-- Which bounds hold a loop from now on, whether each is entered, and whose each is: BOUND is raised at each
entry, lower first (R38 to R40, R546). -/
def State.loopHeld (s : State) (loop : Nat) (lo hi newLo newHi : Bool) (tLo tHi : Option (Fin 8)) : State :=
  let b : Word := BitVec.ofNat 16 (2 ^ loop)
  let s1 := if lo && newLo then s.raiseBound loop false tLo else s
  let s2 := if hi && newHi then s1.raiseBound loop true tHi else s1
  s2.onBus fun x => { x with
    clampedLo := if lo then x.clampedLo ||| b else x.clampedLo &&& ~~~b
    clampedHi := if hi then x.clampedHi ||| b else x.clampedHi &&& ~~~b }

/-- A value limited to bounds. -/
def limitTo (x lo hi : Int) : Int := if x < lo then lo else if hi < x then hi else x

/-- A loop has updated between two bounds: for each of its outputs, the output before and the value that it would take
without them. It is held at a bound while such a value lies beyond it (R38), and stays held while an output is still
that bound (R39, R40). A bound is entered when it did not hold the loop, or when an output lies outside it since it was
narrowed (R53). -/
def State.loopUpdated (s : State) (loop : Nat) (lo hi : Int) (steps : List (Int × Int)) (tLo tHi : Option (Fin 8)) :
    State :=
  let wasLo := s.bus.clampedLo.getLsbD loop
  let wasHi := s.bus.clampedHi.getLsbD loop
  s.loopHeld loop
    (steps.any fun e => decide (e.2 < lo) || (wasLo && limitTo e.2 lo hi = lo))
    (steps.any fun e => decide (hi < e.2) || (wasHi && limitTo e.2 lo hi = hi))
    (!wasLo || steps.any fun e => decide (e.1 < lo)) (!wasHi || steps.any fun e => decide (hi < e.1)) tLo tHi

/-- A frozen loop is at an update period: its outputs are moved to a bound narrowed past them, and the bits it already
has stay, with no further BOUND (R54, R57; notes/assumptions 147). -/
def State.loopHeldFrozen (s : State) (loop : Nat) (lo hi : Int) (held : List Int) (tLo tHi : Option (Fin 8)) : State :=
  let wasLo := s.bus.clampedLo.getLsbD loop
  let wasHi := s.bus.clampedHi.getLsbD loop
  s.loopHeld loop (wasLo || held.any fun x => decide (x < lo)) (wasHi || held.any fun x => decide (hi < x))
    (!wasLo) (!wasHi) tLo tHi

/-- A loop that is not held at any bound (R331, R644). -/
def State.loopFree (s : State) (loop : Nat) : State := s.loopHeld loop false false false false none none

/-- CLAMP on the queue of the writing window, counted in sys.clamp_count (R41, R45). -/
def State.raiseClamp (s : State) (w : Fin 11) (ceiling head lamp : Nat) : State :=
  (s.raiseWin w 0x0D 0 (boundPayload ceiling true 2 head lamp)).onBus fun x =>
    { x with clampCount := satInc x.clampCount }

/-- A value moves toward a target by at most `d`. -/
def slewTo (x target d : Int) : Int :=
  if x + d < target then x + d else if target < x - d then x - d else target

/-! ### Head states (08_head_ports R496) -/

/-- HEAD_STATE. -/
def State.headEvent (s : State) (h : Fin 4) : State :=
  s.raiseBoth (hasHead h) 0x50 (byteOf h.val) (BitVec.setWidth 16 (s.headStat h))

/-- HEAD_OUT is set while any head is in OUT or POWERING (R500). -/
def State.settleHeadOut (s : State) : State :=
  s.changeMode fun p => { p with headOut := (List.finRange 4).any fun (h : Fin 4) =>
    s.paper.head[h].state = .out || s.paper.head[h].state = .powering }

/-- A strobe that is ended at an instant gives the energy of its time so far. -/
def Strobe.endAt (x : Strobe) (t : Rat) : Strobe :=
  if t < x.start + x.width then
    { x with width := t - x.start, energy := x.energy.map fun e => e * (t - x.start) / x.width }
  else x

/-- Strobing of a head ends at an instant: strobes that have not begun are not given, and those in progress are
completed or end at once (04_tenancy R267; R483, R501, R507; 09_energy R558, R564). A dot whose pre-warm had not begun
has received none. -/
def State.endStrobes (s : State) (h : Fin 4) (t : Rat) (atOnce : Bool) : State :=
  let gone := s.paper.energy[h].slots.filter fun x => t < x.start
  let given (d k : Nat) : Bool := !gone.any fun x => x.slot = k && x.group = s.groupOf h (s.headDot h d)
  let s1 := s.onHead h fun x => { x with trunc := x.trunc - BitVec.ofNat 32 (gone.filter fun x => x.cut).length }
  s1.onEnergy h fun e =>
    let warm (d : Nat) : Nat := ((List.range (e.lastPrewarm.getD d 0)).filter fun i => given d (15 - i)).length
    { e with
      slots := (e.slots.filter fun x => x.start ≤ t).map fun x => if atOnce then x.endAt t else x
      lastMarks := (List.range e.lastMarks.length).map fun d =>
        ((List.range (e.lastMarks.getD d 0)).filter (given d)).length
      lastPrewarm := (List.range e.lastPrewarm.length).map warm
      prewarmed := (List.range e.prewarmed.length).map fun d =>
        e.prewarmed.getD d false && (e.lastPrewarm.getD d 0 = 0 || warm d ≠ 0) }

/-- A head takes a state (R496, R481): entering POWERING, its dots are unmeasured, and leaving POWERING or
IN_SERVICE ends its scan. -/
def State.setHead (s : State) (h : Fin 4) (st : HeadState) (cause : OutCause) : State :=
  let s1 := s.onHead h fun x =>
    let live : Bool := st = .powering || st = .inService
    { x with
      state := st, cause := cause, pen := live && !s.pwr.pastStage 2
      dots := if st = .powering then [] else x.dots
      powerChecked := if st = .inService then x.powerChecked else false
      scanReq := if live then x.scanReq else false
      scanDot := if live then x.scanDot else none
      scanning := if live then x.scanning else false
      badSupply := 0, badTherm := 0
      disablePending := if st = .inService then x.disablePending else false }
  let s2 := if st = .powering then s1.onEnergy h fun e => { e with p := none } else s1
  (s2.headEvent h).settleHeadOut

/-! ### Axes (10_motion) -/

/-- AXIS_STATE. -/
def State.axisEvent (s : State) (a : Fin 4) : State :=
  s.raise0 0x5C (byteOf a.val) (BitVec.setWidth 16 (s.axisStat a))

/-- An axis takes a state; AXIS_STATE is raised at each transition (R567). -/
def State.setAxis (s : State) (a : Fin 4) (st : AxisState) : State :=
  if s.paper.axis[a].state = st then s
  else (s.onAxis a fun x => { x with state := st }).axisEvent a

/-- Speed of an axis, zero while it stands at a line position. -/
def Axis.now (x : Axis) : Rat := if x.standing then 0 else x.speed

/-- The axis is at rest. -/
def Axis.atRest (x : Axis) : Bool := x.now = 0

/-- What an axis has stopped with. -/
def Axis.stopped (x : Axis) : Axis :=
  { x with speed := 0, move := none, stopAt := none, holdAt := none, standing := false, resume := false }

/-- A stop that is not a hard one discards the queued move (R634), but for one that another job has asked for: it is
delayed, not lost (04_tenancy R277; notes/assumptions 153). `gone` owns the move that stops for good, if one does. -/
def Axis.dropQueued (x : Axis) (gone : Option MoveOwner) : Axis :=
  { x with queued := x.queued.filter fun m => match m.owner with
      | .job _ => some m.owner ≠ gone
      | _ => false }

/-- A ramped stop (R610): the position stays certain. An axis that stands is at rest at once. -/
def State.rampStop (s : State) (a : Fin 4) : State :=
  let x := s.paper.axis[a]
  let s1 := s.onAxis a fun x => x.dropQueued (x.move.map fun m => m.owner)
  match x.state with
  | .moving =>
    let s2 := (s1.onAxis a fun x => { x with stopAt := some (s.aPar a 4 : Rat) }).setAxis a .stopping
    if x.atRest then (s2.onAxis a Axis.stopped).setAxis a .idle else s2
  | .stopping => s1.onAxis a fun x => { x with resume := false }
  | _ => s1

/-- Distance of the stop ramp from the present speed, mm (10_motion, "The step generator and profiles"). -/
def State.rampLength (s : State) (a : Fin 4) : Rat :=
  let v := s.paper.axis[a].now
  v * v / (2 * (s.aPar a 4 : Rat))

/-- Hard stop causes (axis.stat). -/
def State.hardStop (s : State) (a : Fin 4) (cause : BitVec 3) : State :=
  s.onAxis a fun x => { x.stopped with
    queued := none, uncertain := x.uncertain || !x.atRest, stopCause := cause, faults := x.faults + 1 }

/-- Position of line `i` of the job on a head (10_motion, "Line-locked printing"). -/
def State.linePos (s : State) (h : Fin 4) (origin : Int) (i : Nat) : Int :=
  origin + roundHalfUp ((i * s.axScale (s.paperAxis h) : Nat) / (65536 * s.density h : Nat))

/-- Axis that the job on a head moves in its phase. -/
def State.runAxis (s : State) (h : Fin 4) (r : Run) : Fin 4 :=
  match r.phase with
  | .present => s.presentAxis h
  | .motion => if (s.job r.job).kind = 4 then s.presentAxis h else s.paperAxis h
  | _ => s.paperAxis h

/-- A move, if there is one, is that of the job on a head. -/
def ofJob (h : Fin 4) (m : Option Move) : Bool := m.any fun m => m.owner = .job h

/-- Distance that the job has moved its axis, in 0.1 mm, with a further length in mm; none while its move waits. -/
def State.movedTenths (s : State) (h : Fin 4) (r : Run) (more : Rat) : Nat :=
  let a := s.runAxis h r
  if ofJob h s.paper.axis[a].queued then 0
  else (s.toTenths a ((s.paper.axis[a].pos.toInt - r.startPos).natAbs : Nat) + roundHalfUp (10 * more)).toNat

/-! ### The end of the job on a path -/

/-- Word 7 of a job that ends now: lines burnt, or the distance moved with the stop ramp that follows. -/
def State.runAmount (s : State) (h : Fin 4) (r : Run) : Nat :=
  let j := s.job r.job
  if j.prints then r.burnt
  else if j.kind = 3 then 0
  else s.movedTenths h r (s.rampLength (s.runAxis h r))

/-- A head with a disable pending goes to OUT (MANUAL) once no job remains on it (08_head_ports R499). -/
def State.settleDisable (s : State) (h : Fin 4) : State :=
  if s.paper.head[h].disablePending ∧ s.paper.head[h].state = .inService ∧ s.loam.head[h].running = none then
    s.setHead h .out .manual
  else s

/-- The job on a head's path ends: its window is released, its legal field cleared, and its descriptor
takes its terminal state. -/
def State.endRun (s : State) (h : Fin 4) (st : JobState) (result amount : Nat) : State :=
  match s.paper.run[h] with
  | none => s
  | some r =>
    let s1 := s.unpinWhere r.job.vi (fetcherPin h) fun _ => true
    let s2 := ((s1.onRun h fun _ => none).onHead h fun x => { x with field := none }).onCutter fun c =>
      if c.head = some h then { c with waits := false } else c
    let s3 := s2.onSilt fun y => { y with faults := y.faults.filter fun f =>
      !(match f.cls with
        | .demand g _ | .prefetch g => g = h && f.vi = r.job.vi
        | .read => false) }
    (s3.endJob r.job st result amount).settleDisable h

/-- The page of a job stopped before its cut: empty before its first line (11_media_outputs R661). -/
def State.pageOf (s : State) (h : Fin 4) (r : Run) : Option Purge :=
  match r.origin with
  | some o =>
    let e := s.linePos h o (s.job r.job).lines
    if r.burnt = 0 then some { endAt := 0, length := 0, empty := true }
    else some { endAt := e, length := e - o, empty := false }
  | none => some { endAt := 0, length := 0, empty := true }

/-- The stopped page that a job leaves (04_tenancy R280; 11_media_outputs R661): none once its cutter
cycle has started. -/
def State.stoppedPage (s : State) (h : Fin 4) (r : Run) : Option Purge :=
  if !(s.job r.job).prints then none
  else match r.phase with
    | .printed | .present | .motion => none
    | .cut => if s.paper.cutter.head = some h then none else s.pageOf h r
    | _ => s.pageOf h r

/-- The moves that a head's job has given come to an end on the stop ramp. -/
def State.stopMoves (s : State) (h : Fin 4) (r : Run) : State :=
  let a := s.runAxis h r
  let x := s.paper.axis[a]
  if ofJob h x.move then s.rampStop a
  else if ofJob h x.queued then s.onAxis a fun x => { x with queued := none }
  else s

/-- PRINTED of the job on a head that has not been answered is withdrawn: the record stays ISSUED (05_loam R338,
04_tenancy R282; 13_kaolin_island R770). -/
def State.withdrawPrinted (s : State) (h : Fin 4) : State :=
  match s.paper.run[h] with
  | none => s
  | some r => s.onIsland fun i => { i with
      mailbox := i.mailbox.filter fun c => c.source ≠ .cut h || r.record ≠ some c.arg
      printing := i.printing.filter fun c => c.1.source ≠ .cut h || r.record ≠ some c.2 }

/-- A job on a head's path is stopped before its end at an instant (05_loam R336, R337, R357, R358; 08_head_ports R501;
10_motion R615; 11_media_outputs R660): strobing ends, the axis comes to rest on its stop ramp, the cutter
is not fired and the head becomes purge-pending. -/
def State.stopJobAt (s : State) (h : Fin 4) (t : Rat) (st : JobState) (result : Nat) : State :=
  match s.paper.run[h] with
  | none => s
  | some r =>
    let s := (if st = .cancelled then s.withdrawPrinted h else s).endStrobes h t false
    let amount := s.runAmount h r
    let tof : Bool := r.phase = .tof || r.phase = .tofCut
    let s1 := if tof ∧ st = .cancelled then
        s.raiseVi r.job.vi 0x68 (byteOf (h.val + 16 * r.job.handle.val))
          (BitVec.ofNat 16 (sat (s.movedTenths h r (s.rampLength (s.runAxis h r))) 65535))
      else s
    let s2 := (s1.stopMoves h r).onMedia h fun m => { m with seek := if tof || r.phase = .tail then none else m.seek }
    let s3 := match s.stoppedPage h r with
      | some p => s2.onLoamHead h fun l => { l with purge := some p, purging := false, purgeCut := false }
      | none => s2
    s3.endRun h st result amount

/-- A job on a head's path is stopped now. -/
def State.stopJob (s : State) (h : Fin 4) (st : JobState) (result : Nat) : State := s.stopJobAt h s.now st result

/-- A head leaves POWERING or IN_SERVICE for OUT at an instant: its strobes end, at once at an overcurrent or a presence
loss, and a job on it fails (08_head_ports R483, R501, R507; 05_loam R357). -/
def State.headOutAt (s : State) (h : Fin 4) (t : Rat) (cause : OutCause) : State :=
  ((s.setHead h .out cause).endStrobes h t (cause = .overcurrent || cause = .notPresent)).stopJobAt h t .failed 6

/-- A head leaves POWERING or IN_SERVICE for OUT now. -/
def State.headOutOf (s : State) (h : Fin 4) (cause : OutCause) : State := s.headOutAt h s.now cause

/-- The jobs that use an axis fail when it faults or stops hard (10_motion R615); a CUT uses the cutter alone (R574). -/
def State.failAxisJobs (s : State) (a : Fin 4) : State :=
  (List.finRange 4).foldl (fun u (h : Fin 4) =>
    match u.paper.run[h] with
    | some r => if u.runAxis h r = a ∧ (u.job r.job).kind ≠ 3 then u.stopJob h .failed 9 else u
    | none => u) s

/-! ### Moves -/

/-- VI of the job that owns a move. -/
def State.ownerVi (s : State) (o : MoveOwner) : Option (Fin 8) :=
  match o with
  | .job h => s.paper.run[h].map fun r => r.job.vi
  | _ => none

/-- A move cannot be made, or was stopped: the job that asked for it fails (10_motion R607), and a purge is still to be
made (04_tenancy R280). -/
def State.failOwner (s : State) (o : MoveOwner) : State :=
  match o with
  | .job h => s.stopJob h .failed 9
  | .learn h => s.onMedia h fun m => { m with learning := false, seek := none }
  | .purge h => s.onLoamHead h fun l => { l with purging := false, purgeCut := false }
  | .service => s

/-- The input that blocks a move, if it is active (10_motion R606, R609). -/
def State.blocked (s : State) (a : Fin 4) (negative : Bool) : Option (Fin 2) :=
  let x := s.paper.axis[a]
  if negative then (if x.lim0 && s.aPar a 0xA % 4 ≠ 0 then some 0 else none)
  else if x.lim1 && s.aPar a 0xA / 256 % 4 ≠ 0 then some 1 else none

/-- AXIS_LIMIT (10_motion R607, R608). -/
def State.limitEvent (s : State) (a : Fin 4) (input : Fin 2) (hard : Bool) (vi : Option (Fin 8)) : State :=
  let aux := byteOf (a.val + 16 * input.val + (if hard then 32 else 0))
  let pos : Word := BitVec.setWidth 16 s.paper.axis[a].pos
  let s1 := s.raise0 0x5D aux pos
  match vi with
  | some v => s1.raiseVi v 0x5D aux pos
  | none => s1

/-- The action of an input is a hard stop (axis.lim_cfg). -/
def State.limitHard (s : State) (a : Fin 4) (input : Fin 2) : Bool :=
  (if input = 0 then s.aPar a 0xA % 4 else s.aPar a 0xA / 256 % 4) = 1

/-! ### The chopper (10_motion R576 to R582) -/

/-- t_blank of axis.chop, 0.2 µs. -/
def chopBlank (chop : Nat) : Nat := chop / 65536 % 16

/-- What a phase does when its DAC is loaded, with the polarity of its current: slow decay at code 0, and a new cycle
at a change of polarity. Drive of one polarity is never followed by drive of the other without slow decay between them
(R582; notes/assumptions 154). -/
def chopLoad (now blank : Nat) (c : Chop) (code : Nat) (neg : Bool) : Chop :=
  if code = 0 then .slow
  else match c with
    | .slow => .drive neg now blank false
    | .drive p _ _ _ => if p = neg then c else .drive neg now blank true
    | .offTime p _ _ => if p = neg then c else .drive neg now blank false

/-- The DACs of an axis are loaded (R576). -/
def State.loadDacs (s : State) (a : Fin 4) : State :=
  let load (phaseB : Bool) (c : Chop) : Chop :=
    chopLoad s.now (chopBlank (s.aPar a 9)) c (s.phaseCode a phaseB) (s.phaseCurrent a phaseB < 0)
  s.onAxis a fun x => { x with chopA := load false x.chopA, chopB := load true x.chopB }

/-! ### The start of a move -/

/-- The end of a move that starts at a position. -/
def Move.startAt (m : Move) (cur : Int) : Move :=
  match m.dist with
  | some d => { m with target := cur + d, dist := none }
  | none => m

/-- A move starts from rest (10_motion R567, R585, R604, R607): a reduced axis takes its run current again (R576). No
negative move is given on an axis with REVERSIBLE = 0 (R602; notes/assumptions 155). -/
def State.startMove (s : State) (a : Fin 4) (move : Move) : State :=
  let cur := s.paper.axis[a].pos.toInt
  let m := move.startAt cur
  let neg : Bool := m.target < cur
  let vi := s.ownerVi m.owner
  if neg ∧ !s.reversible a then (s.setAxis a .idle).failOwner m.owner
  else match (if m.target = cur then none else s.blocked a neg) with
  | some i => (((s.setAxis a .idle).limitEvent a i (s.limitHard a i) vi)).failOwner m.owner
  | none =>
    let t := if neg ∧ m.target < s.revFloor a then min cur (s.revFloor a) else m.target
    let s1 := if t ≠ m.target then
        match m.owner, vi with
        | .job h, some v => match s.paper.run[h] with
          | some r => s.raiseVi v 0x5E (byteOf (a.val + 16 * r.job.handle.val))
              (BitVec.ofNat 16 (sat (s.toTenths a (cur - t)).toNat 65535))
          | none => s
        | _, _ => s
      else s
    let s2 := s1.onAxis a fun x => { x with
      move := some { m with target := t, braking := false }, reduced := false, neg := if t = cur then x.neg else neg
      speed := 0, standing := false, stopAt := none, holdAt := none, resume := false }
    (if s.paper.axis[a].reduced then s2.loadDacs a else s2).setAxis a .moving

/-- A move is requested (10_motion R599, R600): it starts on an IDLE axis, waits for the running move, or
cannot be made. -/
def State.requestMove (s : State) (a : Fin 4) (m : Move) : State :=
  let x := s.paper.axis[a]
  match x.state with
  | .idle => if x.queued = none then s.startMove a m else s.failOwner m.owner
  | .moving | .stopping =>
    if x.queued = none then s.onAxis a fun x => { x with queued := some m } else s.failOwner m.owner
  | _ => s.failOwner m.owner

/-- A feed of a job's phase, a purge or learning: forward at media.feed_v and axis.accel. -/
def State.feedTo (s : State) (h a : Fin 4) (target : Int) (o : MoveOwner) : State :=
  s.requestMove a { target := target, speed := (s.mPar h 6 : Rat), acc := s.aPar a 3, owner := o, lineLocked := false }

/-! ### Phases of a job (11_media_outputs, "Job phases on a paper path") -/

/-- A target that no feed reaches: that of a seek, which ends at an edge or at media.seek_max. -/
def farTarget : Int := 2147483647

/-- TOF of a label that starts at a position. -/
def State.tofOf (s : State) (h : Fin 4) (p : Int) : Int :=
  p + s.conv (s.paperAxis h) ((s.mPar h 1 : Nat) + s.mInt h 4)

/-- TOF of the first recorded label start that is not behind the present position (R656). -/
def State.nextTof (s : State) (h : Fin 4) : Option Int :=
  let cur := s.paper.axis[s.paperAxis h].pos.toInt
  ((s.paper.media[h].starts.map (s.tofOf h)).filter fun t => cur ≤ t).foldl
    (fun (b : Option Int) t => match b with
      | some u => some (min u t)
      | none => some t) none

/-- Position at which the pending cut line stands at the cutter, if the path has one. -/
def State.pendingCut (s : State) (h : Fin 4) : Option Int :=
  if s.hasCutter h then s.paper.media[h].cutLine.map fun c => c + s.conv (s.paperAxis h) (s.mPar h 2 : Nat)
  else none

/-- Change the phase of the job on a head. -/
def State.setPhase (s : State) (h : Fin 4) (p : Phase) : State :=
  s.onRun h fun o => o.map fun r => { r with phase := p }

/-- The TOF phase goes on (R656, R657, R659): to its target, but no further than the pending cut line
allows. -/
def State.continueTof (s : State) (h : Fin 4) : State :=
  let a := s.paperAxis h
  let cur := s.paper.axis[a].pos.toInt
  let goal := if s.paper.media[h].seek.isSome then farTarget else (s.nextTof h).getD farTarget
  if goal ≤ cur then (s.onMedia h fun m => { m with past := m.starts.filter fun p => s.tofOf h p ≤ cur }).setPhase h .print
  else
    let s1 := if goal = farTarget ∧ s.paper.media[h].seek = none then
        s.onMedia h fun m => { m with starts := [], leads := [], past := [], seek := some (.tof, cur) }
      else s
    match s.pendingCut h with
    | some c =>
      if c ≤ cur then s1.setPhase h .tofCut
      else if c < goal then (s1.setPhase h .tof).feedTo h a c (.job h)
      else (s1.setPhase h .tof).feedTo h a goal (.job h)
    | none => (s1.setPhase h .tof).feedTo h a goal (.job h)

/-- The TOF phase begins (R655 to R657): recorded labels whose TOF lies behind are skipped and counted, each once, and
none at whose TOF a job has printed (notes/assumptions 168). -/
def State.beginTof (s : State) (h : Fin 4) : State :=
  let a := s.paperAxis h
  let cur := s.paper.axis[a].pos.toInt
  if s.paper.axis[a].uncertain then
    (s.onMedia h fun m => { m with starts := [], leads := [], past := [], seek := some (.tof, cur) }).continueTof h
  else
    let behind := s.paper.media[h].starts.filter fun p => s.tofOf h p < cur
    let s1 := s.onMedia h fun m => { m with
      skipped := m.skipped + BitVec.ofNat 32 (behind.filter fun p => !m.past.contains p).length, past := behind }
    (if s.nextTof h = none then
      s1.onMedia h fun m => { m with starts := [], leads := [], past := [], seek := some (.tof, cur) }
    else s1).continueTof h

/-- Cut line of the job on a head, if it is known (11_media_outputs, "Edges and label starts"): on label
media, that of the first recorded leading edge that passes the print line after the job's first line. -/
def State.jobCutLine (s : State) (h : Fin 4) (origin : Int) (lines : Nat) : Option Int :=
  let a := s.paperAxis h
  let off := s.conv a (s.mInt h 5)
  if s.mediaType h = 0 then some (s.linePos h origin lines + off)
  else (((s.paper.media[h].leads.map fun p => p + s.conv a (s.mPar h 1 : Nat)).filter fun p => origin < p).foldl
    (fun (b : Option Int) t => match b with
      | some u => some (min u t)
      | none => some t) none).map fun p => p + off

/-- The tail phase (R663): feed until the job's cut line reaches its cut position, seeking a leading edge
not yet recorded; a cut line already beyond gives no feed. -/
def State.beginTail (s : State) (h : Fin 4) : State :=
  match s.paper.run[h] with
  | none => s
  | some r =>
    let a := s.paperAxis h
    let cur := s.paper.axis[a].pos.toInt
    let c := s.jobCutLine h (r.origin.getD cur) (s.job r.job).lines
    let s1 := s.onRun h fun o => o.map fun r => { r with phase := .tail, cutLine := c, startPos := cur }
    match c with
    | some c =>
      let t := c + s.conv a (s.mPar h 2 : Nat)
      if t ≤ cur then s1.setPhase h .cut else s1.feedTo h a t (.job h)
    | none => (s1.onMedia h fun m => { m with seek := some (.tail, cur) }).feedTo h a farTarget (.job h)

/-- The job on a head ends DONE. -/
def State.doneRun (s : State) (h : Fin 4) : State :=
  match s.paper.run[h] with
  | none => s
  | some r =>
    let j := s.job r.job
    s.endRun h .done (if j.isLegal ∧ r.record = none then 1 else 0) (s.runAmount h r)

/-- ON requested for a lamp channel (11_media_outputs R669). -/
def State.requestOn (s : State) (c : Fin 8) (duty : Nat) : State :=
  let s1 := s.onLamp c fun l => { l with command := some duty }
  match s.paper.lamp[c].state with
  | .off => (s1.onLamp c fun l => { l with state := .waiting, order := s.paper.lampOrder }).onPaper fun p =>
      { p with lampOrder := p.lampOrder + 1 }
  | _ => s1

/-- The present phase (R667): the slot channel is requested ON, and the label is fed media.d_present. -/
def State.beginPresent (s : State) (h : Fin 4) : State :=
  match s.paper.run[h] with
  | none => s
  | some r =>
    let cfg := s.mPar h 0
    let c : Fin 8 := ⟨cfg / 2 ^ 24 % 8, by omega⟩
    let s1 := if cfg.testBit 27 ∧ bit (s.vi[r.job.vi].contract[2]) c.val then
        s.requestOn c (s.paper.lamp[c].command.getD 256)
      else s
    let a := s.presentAxis h
    let cur := s1.paper.axis[a].pos.toInt
    let s2 := s1.onRun h fun o => o.map fun r => { r with phase := .present, startPos := cur }
    s2.requestMove a { target := cur, dist := some (s.conv a (s.mPar h 3 : Nat)), speed := (s.mPar h 6 : Rat)
                       acc := s.aPar a 3, owner := .job h, lineLocked := false }

/-- What follows a completed cut, and the report of a legal label (R666; 13_kaolin_island R769). -/
def State.afterCut (s : State) (h : Fin 4) : State :=
  match s.paper.run[h] with
  | none => s
  | some r => if (s.job r.job).endAction = 2 then s.beginPresent h else s.doneRun h

/-- A move has reached its target: what its owner does next. -/
def State.moveReached (s : State) (o : MoveOwner) : State :=
  match o with
  | .job h =>
    match s.paper.run[h] with
    | none => s
    | some r => match r.phase with
      | .tof => s.continueTof h
      | .tail => s.setPhase h .cut
      | .present | .motion => s.doneRun h
      | _ => s
  | .learn h => s.onMedia h fun m => { m with learning := false, seek := none }
  | .purge _ | .service => s

/-- The running move has reached its target (10_motion R567): IDLE, or MOVING with a queued move that
QUEUED_MOVE_START begins. -/
def State.finishMove (s : State) (a : Fin 4) : State :=
  match s.paper.axis[a].move with
  | none => s
  | some m =>
    let s1 := s.onAxis a Axis.stopped
    let s2 := if s1.paper.axis[a].queued = none then s1.setAxis a .idle else s1
    s2.moveReached m.owner

/-- A line sense or scan sample aborts the sequencer conversion in progress on each converter, which is begun
again (12_analog_thermal R699, R710). -/
def State.senseAborts (s : State) : State :=
  s.onAnalog fun a => { a with conv := mapEach (fun (x : Converter) =>
    if x.running ∧ !x.delaying then { x with aborts := x.aborts + 1, late := true } else x) a.conv }

/-! ### Line rates -/

/-- Bytes per line, lines and rate give the rate at which a job prints on its head (05_loam R361,
08_head_ports R479, 10_motion R591, 06_silt R392): the page limit of 30 pages bounds the paper speed. -/
def State.lineRate (s : State) (h : Fin 4) (req bpl : Nat) : Nat :=
  let a := s.paperAxis h
  let n := 29 * 4096 / max 1 bpl - 3
  let lim := s.density h * min (s.aPar a 2) (s.aPar a 5)
  max 1 (min (min req (s.rateLim h)) (min lim (isqrt (2 * s.density h * s.aPar a 4 * n))))

/-- Line period of a job, s, at the HD clock in force (02_power_clocks_modes R127). -/
def State.linePeriod (s : State) (rate : Nat) : Rat :=
  (100000000 : Rat) / (s.hdClock * max 1 rate : Nat)

end Sys2Proof.Machine
end

