-- ==== Sys2Proof/Machine/Fetch.lean ====
section
/-! DEFINITION. Head fetchers: the window, the guard, holds, faults and the fetch of lines (06_silt). -/

namespace Sys2Proof.Machine

/-- Ceiling of a fraction that is not negative. -/
def ceilNat (x : Rat) : Nat := x.ceil.toNat

/-- N_stop, at the present paper speed (06_silt, "Head fetchers"). -/
def State.nStop (s : State) (h : Fin 4) : Nat :=
  let a := s.paperAxis h
  let v := s.paper.axis[a].now
  ceilNat ((s.density h : Rat) * v * v / (2 * (s.aPar a 4 : Rat)))

/-- N_look of the job on a head (06_silt R392). -/
def State.nLook (s : State) (h : Fin 4) (j : Job) : Nat :=
  let base := s.nStop h + 2
  let want := base + ceilNat ((j.rate * s.parN 0x804 : Nat) / (1000000 : Rat))
  if (want + 1) * j.bpl + 4095 < 30 * 4096 then want else max base (29 * 4096 / max 1 j.bpl - 1)

/-- Pages of the lines from `i` to `i + n` of a job, no further than its last line and the end of the
raster space. -/
def Job.pages (j : Job) (i n : Nat) : List Nat :=
  if j.lines = 0 ∨ j.bpl = 0 ∨ j.lines ≤ i then []
  else
    let first := (j.start + i * j.bpl) / 4096
    let last := (j.start + (min (i + n) (j.lines - 1)) * j.bpl + j.bpl - 1) / 4096
    ((List.range (last + 1 - first)).map fun k => first + k).filter fun p => p < 16384

/-- First line of a job that touches a page, from line `i` on. -/
def Job.lineTouching (j : Job) (i p : Nat) : Nat :=
  max i ((4096 * p - j.start) / max 1 j.bpl)

/-- The fetcher of a head has the page pinned, in whatever version. -/
def State.hasPin (s : State) (v : Fin 8) (who : Fin 5) (p : Nat) : Bool :=
  (s.framesOf v).any fun e => (e.2.use = .page p || e.2.use = .detached p) && e.2.pins.getLsbD who.val

/-- A fault on the page waits already. -/
def State.faultWaits (s : State) (v : Fin 8) (p : Nat) (cls : FaultClass → Bool) : Bool :=
  s.silt.faults.any fun f => f.vi = v && f.page = p && cls f.cls

/-- A fault is raised and counted (06_silt R386). -/
def State.raiseFault (s : State) (v : Fin 8) (p : Nat) (cls : FaultClass) : State :=
  (s.onSilt fun x => { x with faults := x.faults ++ [{ vi := v, page := p, cls := cls, raisedAt := s.now }] }).onVi
    v fun y => { y with faults := y.faults + 1 }

/-- An enabled write stream of the VI has the band at or after its open band (06_silt R414). -/
def State.streamAhead (s : State) (v : Fin 8) (b : Nat) : Bool :=
  let d := s.vi[v].data
  d.en && !d.dir && (s.marl.ingest[v]).out / 16384 ≤ b

/-- A guard treats the band as PENDING. -/
def State.guardPending (s : State) (v : Fin 8) (b : Nat) : Bool := s.bandPending v b || s.streamAhead v b

/-- The VI could take a frame for a demand fault (06_silt R368, R373). -/
def State.canTake (s : State) (v : Fin 8) : Bool :=
  (s.freeByRule v).isSome || !(s.clockOrder v).isEmpty

/-- A hold for a LOST page stays when its band is discarded: it ends with a new block or a cancel (R416). -/
def Run.stillLost (r : Run) (p : Nat) : Bool :=
  match r.hold with
  | some x => x.cause = .lost && x.page = p
  | none => false

/-- Why a page in the guard starts a hold, if it does (06_silt R393, R414, R416, R373). A page that entered the window
ABSENT has passed the test for its band. Before the first line has been fetched, a page that is only being brought in is
awaited without a hold (notes/assumptions 19). -/
def State.guardCause (s : State) (h : Fin 4) (r : Run) (p : Nat) : Option HoldCause :=
  let v := r.job.vi
  if s.hasPin v (fetcherPin h) p then none
  else if s.bandLost v (p / 4) || (r.stillLost p && (s.band v (p / 4)).isNone) then some .lost
  else if s.guardPending v (p / 4) && !r.passed.contains p then some .pending
  else if (s.frameOfPage v p).isSome || (s.band v (p / 4)).isNone then none
  else if !s.canTake v then some .frames
  else if r.origin.isSome then some .late
  else none

/-- The first page of the guard that starts a hold, with its cause and the first line touching it. -/
def State.guard (s : State) (h : Fin 4) (r : Run) : Option (HoldCause × Nat × Nat) :=
  let j := s.job r.job
  (j.pages r.line (s.nStop h + 2)).findSome? fun p =>
    (s.guardCause h r p).map fun c => (c, p, j.lineTouching r.line p)

/-- Codes of the hold causes. -/
def HoldCause.code : HoldCause → Nat
  | .late => 1
  | .pending => 2
  | .lost => 3
  | .frames => 4
  | .external => 5

/-- RASTER_HOLD: a hold is counted (R399). -/
def State.raiseHold (s : State) (h : Fin 4) (r : Run) (c : HoldCause) : State :=
  (s.onSilt fun x => { x with underruns := x.underruns + 1 }).raiseVi r.job.vi 0x40
    (byteOf (h.val + 16 * c.code)) (BitVec.ofNat 16 (sat r.burnt 65535))

/-- RASTER_RESUME: a hold that began at an instant ends. -/
def State.raiseResume (s : State) (h : Fin 4) (r : Run) (since : Nat) : State :=
  s.raiseVi r.job.vi 0x41 (byteOf h.val) (BitVec.ofNat 16 (sat ((s.now - since) / 100) 65535))

/-- A hold of the guard starts (R393, R399): RASTER_HOLD is raised and the axis told where to stop. -/
def State.startHold (s : State) (h : Fin 4) (r : Run) (c : HoldCause) (page line : Nat) : State :=
  let s1 := (s.onRun h fun o => o.map fun r => { r with
    hold := some { cause := c, page := page, stopLine := line, since := s.now } }).raiseHold h r c
  match r.origin with
  | some o => s1.onAxis (s.paperAxis h) fun x => { x with holdAt := some (s.linePos h o line) }
  | none => s1

/-- A hold of the guard ends (R395): RASTER_RESUME, and the axis goes on. -/
def State.endHold (s : State) (h : Fin 4) (r : Run) (x : Hold) : State :=
  ((s.onRun h fun o => o.map fun r => { r with hold := none }).onAxis (s.paperAxis h) fun y =>
    { y with holdAt := none }).raiseResume h r x.since

/-- A line has not been fetched as the paper reaches its position (R1106): a hold with cause LATE, in which the paper
stands there, beside any hold of the guard. -/
def State.startLate (s : State) (h : Fin 4) (r : Run) : State :=
  ((s.onRun h fun o => o.map fun r => { r with late := some s.now }).onAxis (s.paperAxis h) fun x =>
    { x with standing := true }).raiseHold h r .late

/-- The line has been fetched: the paper restarts at the line speed (R1106). -/
def State.endLate (s : State) (h : Fin 4) (r : Run) (since : Nat) : State :=
  ((s.onRun h fun o => o.map fun r => { r with late := none }).onAxis (s.paperAxis h) fun x =>
    { x with standing := false }).raiseResume h r since

/-- A hold from outside Silt starts and ends (R398). -/
def State.startExternal (s : State) (h : Fin 4) (r : Run) : State :=
  (s.onRun h fun o => o.map fun r => { r with ext := some s.now }).raiseHold h r .external

/-- The end of a hold from outside Silt. -/
def State.endExternal (s : State) (h : Fin 4) (r : Run) (since : Nat) : State :=
  (s.onRun h fun o => o.map fun r => { r with ext := none }).raiseResume h r since

/-- The hold of a head follows its guard: it starts, moves on, or ends. -/
def State.settleHold (s : State) (h : Fin 4) : State :=
  match s.paper.run[h] with
  | none => s
  | some r =>
    match r.hold, s.guard h r with
    | none, some (c, p, l) => s.startHold h r c p l
    | none, none => s
    | some x, none => s.endHold h r x
    | some x, some (c, p, l) =>
      let s1 := s.onRun h fun o => o.map fun r => { r with
        hold := some { x with cause := c, page := p, stopLine := l } }
      match r.origin with
      | some o => s1.onAxis (s.paperAxis h) fun y => { y with holdAt := some (s.linePos h o l) }
      | none => s1

/-- A page that enters a window reads white there: it is ABSENT, and its band neither PENDING nor LOST (R364, R393). -/
def State.entersWhite (s : State) (v : Fin 8) (p : Nat) : Bool :=
  (s.frameOfPage v p).isNone && (s.band v (p / 4)).isNone && !s.guardPending v (p / 4)

/-- The fetcher pins the pages of its window that are in frames and faults on those that are only in the
store (R392); pages that have left the window are released. -/
def State.pinWindow (s : State) (h : Fin 4) (r : Run) : State :=
  let v := r.job.vi
  let j := s.job r.job
  let w := j.pages r.line (s.nLook h j)
  let period := s.linePeriod (s.lineRate h j.rate j.bpl)
  let s1 := (s.unpinWhere v (fetcherPin h) fun p => !w.contains p).onRun h fun o => o.map fun r => { r with
    passed := w.filter fun p => r.passed.contains p || s.entersWhite v p }
  w.foldl (fun u p =>
    if u.hasPin v (fetcherPin h) p then u
    else if (u.frameOfPage v p).isSome then
      (if u.guardPending v (p / 4) || u.bandLost v (p / 4) then u else u.pinPage v p (fetcherPin h))
    else if u.guardPending v (p / 4) || u.bandLost v (p / 4) || (u.band v (p / 4)).isNone then u
    else if u.faultWaits v p (fun c => match c with | .demand g _ => g = h | _ => false) then u
    else
      let ahead := j.lineTouching r.line p - r.line
      u.raiseFault v p (.demand h (s.now + ((ahead : Rat) * period * 1000000).floor.toNat))) s1

/-- Prefetch faults (R387): for each of the bands that follow the end of the window, no further than that
of the job's last line, a fault on the last page of the band that the job uses and that is in no frame. -/
def State.prefetch (s : State) (h : Fin 4) (r : Run) : State :=
  let v := r.job.vi
  let j := s.job r.job
  match (j.pages r.line (s.nLook h j)).getLast?, (j.pages r.line j.lines).getLast? with
  | some e, some l =>
    (List.range (s.parB v 0x904).toNat).foldl (fun u k =>
      let b := e / 4 + 1 + k
      if (u.band v b).isNone ∨ u.guardPending v b ∨ u.bandLost v b then u
      else match ([4 * b + 3, 4 * b + 2, 4 * b + 1, 4 * b].filter fun p => p ≤ l).find? fun p =>
          (u.frameOfPage v p).isNone with
        | some p => if u.faultWaits v p (fun _ => true) then u else u.raiseFault v p (.prefetch h)
        | none => u) s
  | _, _ => s

/-- The job on a head is being fetched. -/
def State.fetching (s : State) (r : Run) : Bool :=
  (s.job r.job).prints && (match r.phase with
    | .tof | .tofCut | .print => true
    | _ => false)

/-- The window, prefetch and hold of a head follow the raster memory. -/
def State.refreshHead (s : State) (h : Fin 4) : State :=
  match s.paper.run[h] with
  | none => s
  | some r => if s.fetching r then ((s.pinWindow h r).prefetch h r).settleHold h else s

/-- Every head follows the raster memory. -/
def State.refreshHeads (s : State) : State :=
  (List.finRange 4).foldl (fun u h => u.refreshHead h) s

/-- Lines that energy control looks ahead (09_energy R524, R530): energy.cfg.ahead. -/
def State.ahead (s : State) (h : Fin 4) : Nat := bits (s.hPar h 0x100) 1 2

/-- The dots of a byte, most significant bit first. -/
def byteDots (b : Byte) : List Bool := (List.range 8).map fun i => b.getMsbD i

/-- The dot at (x, y) of a rendered legal field (13_kaolin_island, "The legal field"): text lines of 16
cells from the top left, the rest white. -/
def LegalField.dot (f : LegalField) (x y : Nat) : Bool :=
  let w := max 1 f.font.1
  let t := max 1 f.font.2
  if 16 ≤ x / w then false
  else match (f.text[y / t]?).bind fun l => l.toList[x / w]? with
    | some c => Config.glyph w t c (x % w) (y % t)
    | none => false

/-- The field bits replace the raster bits inside the field rectangle (13_kaolin_island R774). -/
def State.withField (s : State) (h : Fin 4) (j : Job) (i : Nat) (l : List Bool) : List Bool :=
  match s.paper.head[h].field with
  | some f =>
    if j.isLegal ∧ j.fieldLine ≤ i ∧ i < j.fieldLine + j.fieldHeight then
      (List.range (s.dots h)).map fun d =>
        if j.fieldDot ≤ d ∧ d < j.fieldDot + j.fieldWidth then f.dot (d - j.fieldDot) (i - j.fieldLine)
        else l.getD d false
    else l
  | none => l

/-- The dots of line `i` as printed. -/
def State.rasterLine (s : State) (h : Fin 4) (r : Run) (i : Nat) : List Bool :=
  let j := s.job r.job
  s.withField h j i (((List.range j.bpl).flatMap fun k =>
    let a := j.start + i * j.bpl + k
    byteDots (if a < 2 ^ 26 then s.rasterByte r.job.vi (fetcherPin h) a else 0)).take (s.dots h))

/-- Line `i` can be fetched whole: each of its pages is pinned, in a frame, or ABSENT and white
(R364, R391); no hold for a LOST page stands on it (R416). -/
def State.lineReady (s : State) (h : Fin 4) (r : Run) (i : Nat) : Bool :=
  ((s.job r.job).pages i 0).all fun p =>
    s.hasPin r.job.vi (fetcherPin h) p
      || (!r.stillLost p
          && (((s.frameOfPage r.job.vi p).isSome && !s.guardPending r.job.vi (p / 4) && !s.bandLost r.job.vi (p / 4))
            || ((s.frameOfPage r.job.vi p).isNone && (s.band r.job.vi (p / 4)).isNone
              && (!s.guardPending r.job.vi (p / 4) || r.passed.contains p))))

/-- The arbiter serves a requester: it owns an entry of the committed table, or silt.arb_bg_mask enables it
(R384, R403, R409). -/
def State.arbServes (s : State) (n : Fin 10) : Bool :=
  (s.silt.arb.table.toList.any fun c => c.toNat = n.val) || bit (s.parG 0x811) n.val

/-- Requester of the fetcher of a head. -/
def fetcherOf (h : Fin 4) : Fin 10 := ⟨h.val + 1, by omega⟩

end Sys2Proof.Machine
end

