-- ==== Sys2Proof/Machine/Energy.lean ====
section
/-! DEFINITION. Dot energy control, the segment thermal model and the derating loop (09_energy), and the
sampling of a head's thermistor and supply (08_head_ports). -/

namespace Sys2Proof.Machine

/-! ### Settings -/

/-- A parameter of the energy control of head `h`, at its offset from 0x1100. -/
def State.ePar (s : State) (h : Fin 4) (off : Nat) : Nat := (s.hPar h (0x100 + off)).toNat

/-- V_eff in mV, zero when the drop exceeds the voltage. -/
def State.vEff (s : State) (h : Fin 4) : Nat := s.paper.head[h].vMeas - s.ePar h 2

/-- R_base, 1/16 Ω. -/
def State.rBase (s : State) (h : Fin 4) : Nat :=
  if s.paper.head[h].rAvg = 0 then s.ePar h 3 else s.paper.head[h].rAvg

/-- t_base in 1/64 µs, rounded half up (R512): also t_sp in 1/1,024 µs. With V_eff zero the quotient has no value
(notes/assumptions 149). -/
def State.baseTime (s : State) (h : Fin 4) : Nat :=
  if s.vEff h = 0 then Config.baseTimeUndefined (s.ePar h 1 * s.rBase h)
  else (roundHalfUp ((s.ePar h 1 * s.rBase h * 250000 : Nat) / (s.vEff h * s.vEff h : Nat))).toNat

/-- p in W (R531, R532): as last set by a sense, and until then from V_eff and R_base. -/
def State.dotPower (s : State) (h : Fin 4) : Rat :=
  match s.paper.energy[h].p with
  | some p => p
  | none => ((s.vEff h * s.vEff h * 16 : Nat) : Rat) / (1000000 * s.rBase h : Nat)

/-! ### Envelope (R555) -/

/-- The measurable conditions that fail. -/
def State.envelopeBits (s : State) (h : Fin 4) : BitVec 3 :=
  let e := s.paper.energy[h]
  let v := s.paper.head[h].vMeas
  let b := s.hPar h 0xA
  (if e.tRef < 0 ∨ 960 < e.tRef then 1 else 0)
    ||| (if v < bits b 0 16 ∨ bits b 16 16 < v then 2 else 0)
    ||| (match e.cutAt with
      | some t => if s.now < t + 100000 then 4 else 0
      | none => 0)

/-- MODEL_ENVELOPE for each condition that starts or stops holding, while the head's model runs (R537, R555). -/
def State.settleEnvelope (s : State) (h : Fin 4) : State :=
  if !s.fitted h then s else
  let b := s.envelopeBits h
  let old := s.paper.energy[h].envelope
  let t := BitVec.setWidth 16 (low16 s.paper.energy[h].tRef)
  let s1 := (List.range 3).foldl (fun u i =>
    if b.getLsbD i = old.getLsbD i then u
    else u.raise0 0x59 (byteOf (h.val + (if b.getLsbD i then 16 else 0))) t) s
  s1.onEnergy h fun e => { e with envelope := b }

/-! ### The thermal model -/

/-- A product in units of 2^-16 K, rounded half up (R538). -/
def roundNode (x : Rat) : Int := roundHalfUp x

/-- A node takes its next value; one outside 32 signed bits is not stated (notes/assumptions 20). -/
def nodeOf (x : Int) : BitVec 32 :=
  if -2147483648 ≤ x ∧ x ≤ 2147483647 then BitVec.ofInt 32 x else Config.nodeOverflow x

/-- T_j' of one segment, from the values at the start of the tick. -/
def nodeStep (a b c : Nat) (e : Rat) (t ts tl tr : Int) : Int :=
  t + roundNode ((a : Rat) * e / 256) - roundNode ((b * (t - ts) : Int) / (65536 : Rat))
    + roundNode ((c * (tl + tr - 2 * t) : Int) / (65536 : Rat))

/-- Energy of segment `j` in some strobes. -/
def slotEnergy (l : List Strobe) (j : Nat) : Rat := l.foldl (fun x e => x + e.energy.getD j 0) 0

/-- The nodes after one tick that takes the energies of some strobes. -/
def State.tick (s : State) (h : Fin 4) (l : List Strobe) : Energy :=
  let e := s.paper.energy[h]
  let n := s.segments h
  let ts := e.tSub.toInt
  let t (j : Nat) : Int := if hj : j < 64 then (e.node[j]).toInt else 0
  let node := Vector.ofFn fun (j : Fin 64) =>
    if j.val < n then
      nodeOf (nodeStep (s.ePar h 0x10) (s.ePar h 0x11) (s.ePar h 0x12) (slotEnergy l j.val)
        (t j.val) ts (t (j.val - 1)) (t (min (j.val + 1) (n - 1))))
    else e.node[j]
  let sum := (List.range n).foldl (fun x j => x + slotEnergy l j) (0 : Rat)
  let tr := e.tRef * 4096
  { e with
    node := node
    tSub := nodeOf (ts + roundNode ((s.ePar h 0x13 : Rat) * sum / 4096)
      - roundNode (((s.ePar h 0x14 : Nat) * (ts - tr) : Int) / (65536 : Rat)))
    slots := e.slots.drop l.length }

/-- MODEL_TICK (R537, R565): the model takes the energies of the strobes and pulses that end in the tick. -/
def execModelTick (h : Fin 4) (slots : Nat) (s : State) : Answer :=
  .next (if s.fitted h ∧ s.pwr.islandsRun then
    (s.onEnergy h fun e => s.tick h (e.slots.take slots)).settleEnvelope h
  else s)

/-! ### The derating loop (R544 to R548) -/

/-- Effective bounds of the derating loop, and the tenant whose narrower bound is in force on each side.
A tenant's bound outside the outer bounds counts as limited to them (notes/assumptions 21). -/
def State.derateBounds (s : State) (h : Fin 4) : Int × Int × Option (Fin 8) × Option (Fin 8) :=
  let lo : Int := s.ePar h 7
  let hi : Int := s.ePar h 8
  match s.paper.run[h] with
  | some r =>
    if (s.job r.job).prints then
      let v := r.job.vi
      let tlo := limitTo (s.parB v (0x1301 + 0x400 * h.val)).toNat lo hi
      let thi := limitTo (s.parB v (0x1302 + 0x400 * h.val)).toNat lo hi
      (tlo, thi, if lo < tlo then some v else none, if thi < hi then some v else none)
    else (lo, hi, none, none)
  | none => (lo, hi, none, none)

/-- D_raw of a segment. -/
def State.dRaw (s : State) (h : Fin 4) (j : Fin 64) : Int :=
  let tm : Int := s.ePar h 4 * 4096
  let tn : Int := s.ePar h 5 * 4096
  roundHalfUp ((256 * (tm - s.paper.energy[h].node[j].toInt) : Int) / ((tm - tn : Int) : Rat))

/-- The segments in use. -/
def State.segmentsUsed (s : State) (h : Fin 4) : List (Fin 64) :=
  (List.finRange 64).filter fun j => j.val < s.segments h

/-- The value that the D of a segment would take without bounds (R544, R547): after a release it moves by at most
16. -/
def State.derateStep (s : State) (h : Fin 4) (j : Fin 64) : Int :=
  if s.paper.energy[h].slewing then slewTo s.paper.energy[h].d[j] (s.dRaw h j) 16 else s.dRaw h j

/-- DERATING_UPDATE (R544): frozen, the loop holds its outputs, moved only into a narrowed bound (R48,
R54); else each segment in use takes its value limited to the bounds (R37, R38, R546). -/
def execDeratingUpdate (h : Fin 4) (s : State) : Answer :=
  let (lo, hi, tLo, tHi) := s.derateBounds h
  let e := s.paper.energy[h]
  let used := s.segmentsUsed h
  .next (if s.pwr.islandsRun then
    if s.frozen h.val then
      let d := Vector.ofFn fun (j : Fin 64) =>
        if j.val < s.segments h then (limitTo e.d[j] lo hi).toNat else e.d[j]
      (s.onEnergy h fun e => { e with d := d }).loopHeldFrozen h.val lo hi (used.map fun j => ((e.d[j] : Nat) : Int)) tLo tHi
    else
      let d := Vector.ofFn fun (j : Fin 64) =>
        if j.val < s.segments h then (limitTo (s.derateStep h j) lo hi).toNat else e.d[j]
      (s.onEnergy h fun e => { e with
        d := d, slewing := e.slewing && used.any fun j => (d[j] : Int) ≠ limitTo (s.dRaw h j) lo hi }).loopUpdated
        h.val lo hi (used.map fun j => (((e.d[j] : Nat) : Int), s.derateStep h j)) tLo tHi
  else s)

/-! ### Thermistor and supply -/

/-- T_r at a code, by interpolation in the table (R539), 1/16 °C. -/
def State.ntc (s : State) (h : Fin 4) (code : Nat) : Int :=
  let k := code / 256
  let t (i : Nat) : Int := (BitVec.setWidth 16 (s.hPar h (0x120 + i))).toInt
  roundHalfUp ((t k : Rat) + ((t (k + 1) - t k) * (code % 256 : Nat) : Int) / (256 : Rat))

/-- A thermistor code is implausible (08_head_ports R497). -/
def badThermistor (code : Nat) : Bool := code ≤ 82 || 4013 ≤ code

/-- A thermistor sample is taken (R539, R540): an implausible one leaves T_r, and the first after FITTED sets every
node to T_r. -/
def State.takeThermistor (s : State) (h : Fin 4) (code : BitVec 12) : State :=
  let t := if badThermistor code.toNat then s.paper.energy[h].tRef else s.ntc h code.toNat
  ((s.onHead h fun x => { x with tCode := code }).onEnergy h fun e =>
    if e.seedNodes then
      { e with tRef := t, seedNodes := false, tSub := BitVec.ofInt 32 (t * 4096)
               node := Vector.replicate 64 (BitVec.ofInt 32 (t * 4096)) }
    else { e with tRef := t }).settleEnvelope h

/-- THERMISTOR_SAMPLE (R539, R540; 08_head_ports R496): the second implausible sample in a row takes an IN_SERVICE
head out. -/
def execThermistorSample (h : Fin 4) (code : BitVec 12) (s : State) : Answer :=
  .next (if s.headPresent h ∧ s.pwr.islandsRun then
    let s1 := (s.convMade 0 4 h.val).takeThermistor h code
    let s2 := s1.onHead h fun x => { x with badTherm := if badThermistor code.toNat then x.badTherm + 1 else 0 }
    if s2.paper.head[h].state = .inService ∧ 2 ≤ s2.paper.head[h].badTherm then s2.headOutOf h .thermistor else s2
  else s)

/-- Supply voltage of a code, mV (08_head_ports, "Sensing"). -/
def State.supplyMv (s : State) (h : Fin 4) (code : Nat) : Nat := code * (s.hPar h 8).toNat / 4096

/-- The supply lies outside v_min to v_max. -/
def State.badSupplyMv (s : State) (h : Fin 4) (mv : Nat) : Bool :=
  mv < bits (s.hPar h 0xA) 0 16 || bits (s.hPar h 0xA) 16 16 < mv

/-- A supply sample of an IN_SERVICE head is judged (08_head_ports R496): two in a row outside the bounds
take it out. -/
def State.judgeSupply (s : State) (h : Fin 4) (mv : Nat) : State :=
  let s1 := (s.onHead h fun x => { x with
    vMeas := mv, badSupply := if s.badSupplyMv h mv then x.badSupply + 1 else 0 }).settleEnvelope h
  if s1.paper.head[h].state = .inService ∧ 2 ≤ s1.paper.head[h].badSupply then s1.headOutOf h .supply else s1

/-- SUPPLY_SAMPLE (08_head_ports R498): while the head is IN_SERVICE and idle. -/
def execSupplySample (h : Fin 4) (code : BitVec 12) (s : State) : Answer :=
  .next (if s.paper.head[h].state = .inService ∧ s.paper.run[h].isNone then
    s.judgeSupply h (s.supplyMv h code.toNat)
  else s)

end Sys2Proof.Machine
end

