-- ==== Sys2Proof/Machine/Print.lean ====
section
/-! DEFINITION. Printing: the fetch of lines, the start of a line with its sub-pulses, pauses, and what
follows the last line (06_silt, 08_head_ports, 09_energy, 10_motion, 11_media_outputs). -/

namespace Sys2Proof.Machine

/-! ### Sub-pulse counts of a line (09_energy) -/


/-- Context of dot `d` (R516). -/
def context (now prev1 prev2 : List Bool) (d : Nat) : Nat :=
  let at1 (i : Nat) := prev1.getD i false
  (if now.getD d false then 16 else 0) + (if at1 d then 8 else 0) + (if prev2.getD d false then 4 else 0)
    + (if d ≠ 0 ∧ at1 (d - 1) then 2 else 0) + (if at1 (d + 1) then 1 else 0)

/-- Entry `c` of a profile of head `h`. -/
def State.profileEntry (s : State) (h : Fin 4) (p c : Nat) : Nat :=
  bits (s.hPar h (0x200 + 4 * p + c / 8)) (4 * (c % 8)) 4

/-- D of the segment of a head dot. -/
def State.dotD (s : State) (h : Fin 4) (hd : Nat) : Nat :=
  if x : hd / 32 < 64 then s.paper.energy[h].d[hd / 32] else 0

/-- q of a head dot (R521). -/
def State.dotQ (s : State) (h : Fin 4) (hd : Nat) : Nat :=
  let x := s.paper.head[h]
  let d := (sparseFind hd x.lastScan).getD { cls := .unmeasured, r := 0 }
  if bit (s.hPar h 0x100) 0 ∧ (d.cls = .ok ∨ d.cls = .low ∨ d.cls = .high) ∧ x.rAvg ≠ 0 then
    (limitTo (roundHalfUp ((256 * d.r.toNat : Nat) / (x.rAvg : Rat))) 128 384).toNat
  else 256

/-- Sub-pulses of a set dot before the limit to 15, in 1/65,536 (R519). -/
def State.markProduct (s : State) (h : Fin 4) (profile c hd : Nat) : Nat :=
  s.profileEntry h profile c * s.dotD h hd * s.dotQ h hd

/-- Marking count of dot `d`: zero for a white or masked dot (R470, R519). -/
def State.markCount (s : State) (h : Fin 4) (profile : Nat) (now : List Bool) (d : Nat) : Nat :=
  let e := s.paper.energy[h]
  let hd := s.headDot h d
  if now.getD d false ∧ !s.masked h hd then
    min 15 ((s.markProduct h profile (context now e.prev1 e.prev2 d) hd + 32768) / 65536)
  else 0

/-- The product exceeds 15.5 (R520). -/
def State.saturates (s : State) (h : Fin 4) (profile : Nat) (now : List Bool) (d : Nat) : Bool :=
  let e := s.paper.energy[h]
  let hd := s.headDot h d
  now.getD d false && !s.masked h hd
    && 15 * 65536 + 32768 < s.markProduct h profile (context now e.prev1 e.prev2 d) hd

/-- Dot `d` receives pre-warm in this line (R524, R525): `later` are the lines that follow. -/
def State.prewarms (s : State) (h : Fin 4) (a : Nat) (now : List Bool) (later : List (List Bool)) (d : Nat) : Bool :=
  let e := s.paper.energy[h]
  a ≠ 0 && !now.getD d false && bits (s.hPar h 0x100) 4 8 ≤ e.white.getD d 65536 + 1
    && ((later.take (a - 1)).all fun l => !l.getD d false)
    && (match later[a - 1]? with
      | some l => l.getD d false
      | none => false)
    && !e.prewarmed.getD d false && !s.masked h (s.headDot h d)

/-- Pre-warm count of dot `d` (R526, R527). -/
def State.prewarmCount (s : State) (h : Fin 4) (v : Fin 8) (a : Nat) (now : List Bool) (later : List (List Bool))
    (d : Nat) : Nat :=
  if s.prewarms h a now later d then
    let hd := s.headDot h d
    min 4 (16 * (s.parB v (0x1300 + 0x400 * h.val)).toNat * s.dotD h hd * s.dotQ h hd / (100 * 65536))
  else 0

/-- What a line is to receive: marking and pre-warm counts per raster dot. -/
structure LinePlan where
  now : List Bool
  marks : List Nat
  warm : List Nat
  sat : Nat
  deriving DecidableEq, Repr

/-- The plan of the line at the head of those fetched. -/
def State.planLine (s : State) (h : Fin 4) (r : Run) : LinePlan :=
  let j := s.job r.job
  let now := r.fetched.headD []
  let a := s.ahead h
  let ds := List.range (s.dots h)
  { now := now
    marks := ds.map (s.markCount h j.profile now)
    warm := ds.map (s.prewarmCount h r.job.vi a now r.fetched.tail)
    sat := (ds.filter (s.saturates h j.profile now)).length }

/-- Dots of a segment, by raster dot number, with their counts. -/
def State.segmentCount (s : State) (h : Fin 4) (p : LinePlan) (j : Nat) : Nat :=
  (List.range (s.dots h)).foldl (fun n d =>
    if s.headDot h d / 32 = j then n + p.marks.getD d 0 + p.warm.getD d 0 else n) 0

/-- The line would take a segment past the pause limit (R549). -/
def State.tooHot (s : State) (h : Fin 4) (p : LinePlan) (power : Rat) (tsp : Nat) : Bool :=
  (s.segmentsUsed h).any fun j =>
    let t : Rat := (s.paper.energy[h].node[j].toInt : Rat) / 65536
    let e : Rat := (s.segmentCount h p j.val : Rat) * power * tsp / 1024
    ((s.ePar h 6 : Nat) : Rat) / 16 < t + (s.ePar h 0x10 : Rat) * e / 16777216

/-! ### Strobes (08_head_ports, "Timing within a slot") -/


/-- Longest width of a strobe of group `g` in a slot, µs (R473, R474). -/
def State.strobeWindow (s : State) (h : Fin 4) (period : Rat) (g : Nat) : Rat :=
  let w := period * 1000000 / 16 - ((s.tLat h + s.tSl h + s.tLs h + g * s.tStag h : Nat) : Rat) / 100
  if w < 0 then 0 else w

/-- Width given to a strobe of group `g`, µs. -/
def State.strobeWidth (s : State) (h : Fin 4) (period : Rat) (tsp : Nat) (g : Nat) : Rat :=
  let w := s.strobeWindow h period g
  let t : Rat := (tsp : Rat) / 1024
  if t ≤ w then t else w

/-- Dot `d` is strobed in slot `k` of the line (R522, R526). -/
def LinePlan.strobed (p : LinePlan) (k d : Nat) : Bool :=
  k < p.marks.getD d 0 || 16 - p.warm.getD d 0 ≤ k

/-- A group has a dot strobed in slot `k`. -/
def State.groupActive (s : State) (h : Fin 4) (p : LinePlan) (k g : Nat) : Bool :=
  (List.range (s.dots h)).any fun d => s.groupOf h (s.headDot h d) = g && p.strobed k d

/-- Strobes cut in the line (R474). -/
def State.cutStrobes (s : State) (h : Fin 4) (p : LinePlan) (period : Rat) (tsp : Nat) : Nat :=
  (List.range 16).foldl (fun n k => (List.range (s.groups h)).foldl (fun n g =>
    if s.groupActive h p k g ∧ s.strobeWindow h period g < (tsp : Rat) / 1024 then n + 1 else n) n) 0

/-- Fall of the strobe of group `g` in slot `k` after the start of the line, µs. -/
def State.strobeFall (s : State) (h : Fin 4) (period : Rat) (k g : Nat) : Rat :=
  k * period * 1000000 / 16 + ((s.tLs h + g * s.tStag h : Nat) : Rat) / 100

/-- The strobes of a line that starts now, in the order of their falls; `power` is p for a strobe that falls at a given
time after the start of the line (R533). -/
def State.lineStrobes (s : State) (h : Fin 4) (p : LinePlan) (period : Rat) (tsp : Nat) (power : Rat → Rat) :
    List Strobe :=
  (List.range 16).flatMap fun k => ((List.range (s.groups h)).filter (s.groupActive h p k)).map fun g =>
    let f := s.strobeFall h period k g
    let w := s.strobeWidth h period tsp g
    { slot := k, group := g, start := s.now + f, width := w, cut := s.strobeWindow h period g < (tsp : Rat) / 1024
      energy := (List.range (s.segments h)).map fun j =>
        (List.range (s.dots h)).foldl (fun x d =>
          let hd := s.headDot h d
          if hd / 32 = j ∧ s.groupOf h hd = g ∧ p.strobed k d then x + power f * w else x) 0 }

/-- Delay of the sense instant after the start of its slot, µs (08_head_ports, "Sensing"). -/
def State.senseDelay (s : State) (h : Fin 4) (p : LinePlan) : Rat :=
  ((bits (s.hPar h 0xF) 8 8 : Nat) : Rat) / 100
    + (if s.groupActive h p (bits (s.hPar h 0xF) 0 4) 0 then ((s.tLs h : Nat) : Rat) / 100 else 0)

/-- End of the conversions of the line sense after the start of the line, µs: 10 + 30 AN clocks of 25 ns
(12_analog_thermal R690, "System conversions"). -/
def State.senseEnd (s : State) (h : Fin 4) (p : LinePlan) (period : Rat) : Rat :=
  (bits (s.hPar h 0xF) 0 4 : Nat) * period * 1000000 / 16 + s.senseDelay h p + 1

/-- n_s: dots whose strobe is active at the sense instant (08_head_ports, "Sensing"). -/
def State.sensedDots (s : State) (h : Fin 4) (p : LinePlan) (period : Rat) (tsp : Nat) : Nat :=
  let k := bits (s.hPar h 0xF) 0 4
  let t0 := s.senseDelay h p
  ((List.range (s.dots h)).filter fun d =>
    let g := s.groupOf h (s.headDot h d)
    let f : Rat := ((s.tLs h + g * s.tStag h : Nat) : Rat) / 100
    p.strobed k d && f ≤ t0 && t0 < f + s.strobeWidth h period tsp g).length

/-! ### Capacity samples (05_loam, "Capacity") -/

/-- A line burnt or a line period paused is entered in the present millisecond. -/
def State.capAdd (s : State) (h : Fin 4) (lines : Nat) (lineTime pauseTime : Rat) : State :=
  let ms := s.now / 1000
  s.onLoamHead h fun l => { l with history := match l.history with
    | x :: t =>
      if x.ms = ms then
        { x with lines := x.lines + lines, lineTime := x.lineTime + lineTime, pauseTime := x.pauseTime + pauseTime } :: t
      else ({ ms := ms, lines := lines, lineTime := lineTime, pauseTime := pauseTime } :: x :: t).take 10000
    | [] => [{ ms := ms, lines := lines, lineTime := lineTime, pauseTime := pauseTime }] }

/-! ### A line -/

/-- The line is withheld one line period (R549, R552, R553): the axis stands at its position. -/
def State.pauseLine (s : State) (h : Fin 4) (r : Run) (period : Rat) : State :=
  let e := s.paper.energy[h]
  let s1 := (s.onEnergy h fun e => { e with pauses := e.pauses + 1, pauseTold := true }).capAdd h 0 0 period
  let s2 := (s1.onRun h fun o => o.map fun r => { r with paused := true }).onAxis (s.paperAxis h) fun x =>
    { x with standing := true }
  if e.pauseTold then s2
  else
    let aux := byteOf (h.val + 16 * r.job.handle.val)
    let t := BitVec.setWidth 16 (s.tMax h)
    (s2.raiseVi r.job.vi 0x58 aux t).raise0 0x58 aux t

/-- The line sense (08_head_ports, "Sensing", R496; R531, R560): with 8 or more dots strobed p is measured anew,
else it follows the voltage. The voltage is a sample of the supply. A sense not made keeps everything
(12_analog_thermal R700). -/
def State.senseLine (s : State) (h : Fin 4) (sensed : Bool) (v i : BitVec 12) (ns : Nat) : State :=
  if sensed then
    let mv := s.supplyMv h v.toNat
    let ma := i.toNat * (s.hPar h 9).toNat / 4096
    let s1 := s.senseAborts.onHead h fun x => { x with
      vMeas := mv, iMeas := ma, badSupply := if s.badSupplyMv h mv then x.badSupply + 1 else 0 }
    let ve := s1.vEff h
    s1.onEnergy h fun e =>
      if 8 ≤ ns then { e with p := some ((ve : Rat) / 1000 * (((ma : Rat) - e.iIdle) / 1000) / ns), pVeff := ve }
      else match e.p with
        | some p =>
          { e with p := some (if e.pVeff = 0 then p else p * (ve * ve : Nat) / (e.pVeff * e.pVeff : Nat)), pVeff := ve }
        | none => e
  else s.onAnalog fun a => { a with conv := mapEach (fun (k : Converter) => { k with skips := k.skips + 1 }) a.conv }

/-- The line at the head of those fetched is burnt (R512 to R533; 08_head_ports R467 to R475): the energies
of its strobes wait for the ticks in which they end, and the history moves on. The new p holds for strobes that fall after
the sample has crossed into HD, within the bound of its crossing (R531; 02_power_clocks_modes R76). Two supply samples in a
row outside the bounds take the head out at the end of the sense (08_head_ports R496). -/
def State.burnLine (s : State) (h : Fin 4) (r : Run) (p : LinePlan) (period : Rat) (sensed : Bool)
    (v i : BitVec 12) : State :=
  let tsp := s.paper.energy[h].tBase
  let p1 := s.dotPower h
  let ns := s.sensedDots h p period tsp
  let cuts := s.cutStrobes h p period tsp
  let crossed := s.senseEnd h p period + (Config.senseCrossing s.draw.1 : Nat) / 1000
  let s1 := s.draw.2.senseLine h sensed v i ns
  let p2 := s1.dotPower h
  let strobes := s.lineStrobes h p period tsp fun f => if crossed < f then p2 else p1
  let ds := List.range (s.dots h)
  let s2 := s1.onEnergy h fun e => { e with
    lastTsp := tsp, lastMarks := p.marks, lastPrewarm := p.warm
    sat := e.sat + BitVec.ofNat 32 p.sat
    slots := (e.slots.map fun x => { x with start := if x.start ≤ s.now then x.start else s.now }) ++ strobes
    prev2 := e.prev1, prev1 := p.now
    white := ds.map fun d => if p.now.getD d false then 0 else e.white.getD d 65536 + 1
    prewarmed := ds.map fun d => !p.now.getD d false && (e.prewarmed.getD d false || p.warm.getD d 0 ≠ 0)
    cutAt := if cuts = 0 then e.cutAt else some s.now }
  let s3 := s2.onHead h fun x => { x with trunc := x.trunc + BitVec.ofNat 32 cuts }
  let s4 := (s3.capAdd h 1 period 0).onRun h fun o => o.map fun r => { r with
    line := r.line + 1, burnt := r.burnt + 1, fetched := r.fetched.tail, paused := false }
  let s5 := ((s4.onAxis (s.paperAxis h) fun x => { x with standing := false }).settleEnvelope h).activate r.job
  if s5.paper.head[h].state = .inService ∧ 2 ≤ s5.paper.head[h].badSupply then
    s5.headOutAt h (s.now + s.senseEnd h p period) .supply
  else s5

/-- What follows the last line (11_media_outputs R662, R663; 05_loam, "Job kinds"). -/
def State.afterLines (s : State) (h : Fin 4) (r : Run) : State :=
  let j := s.job r.job
  if j.endAction = 0 then
    let s1 :=
      if s.hasCutter h then
        match s.jobCutLine h (r.origin.getD 0) j.lines with
        | some c => s.onMedia h fun m => { m with cutLine := some c, cutWait := false }
        | none => s.onMedia h fun m => { m with cutWait := true }
      else s
    s1.doneRun h
  else s.beginTail h

/-- Lines that must be fetched before line `r.line` begins: itself and those that energy control looks
ahead to (R391; 09_energy R530). -/
def State.linesNeeded (s : State) (h : Fin 4) (r : Run) : Nat :=
  min (1 + s.ahead h) ((s.job r.job).lines - r.line)

/-- The period of a line that begins, s: while a hold in force decelerates the axis, that of the paper speed
(06_silt R394). -/
def State.periodNow (s : State) (h : Fin 4) (r : Run) : Rat :=
  let j := s.job r.job
  let nominal := s.linePeriod (s.lineRate h j.rate j.bpl)
  let v := s.paper.axis[s.paperAxis h].now
  if r.hold.isSome ∧ 0 < v then max nominal (1 / (s.density h * v * s.clockScale)) else nominal

/-- The line whose position has been reached begins, or pauses (R512, R513, R549). -/
def State.grantLine (s : State) (h : Fin 4) (r : Run) (sensed : Bool) (v i : BitVec 12) : State :=
  let j := s.job r.job
  let period := s.periodNow h r
  let p := s.planLine h r
  let s := s.onEnergy h fun e => { e with tBase := s.baseTime h }
  if s.vEff h < 1000 ∨ s.tooHot h p (s.dotPower h) (s.baseTime h) then s.pauseLine h r period
  else
    let s1 := s.burnLine h r p period sensed v i
    match s1.paper.run[h] with
    | some r1 => if j.lines ≤ r1.line then s1.afterLines h r1 else s1.refreshHead h
    | none => s1

/-- The paper axis of the job starts its line-locked move from its present position (10_motion,
"Line-locked printing"). -/
def State.startPrint (s : State) (h : Fin 4) (r : Run) : State :=
  let j := s.job r.job
  let a := s.paperAxis h
  let o := s.paper.axis[a].pos.toInt
  let s1 := s.onRun h fun x => x.map fun r => { r with origin := some o, startPos := o }
  let s2 := s1.onEnergy h fun e => { e with prev1 := [], prev2 := [], white := [], pauseTold := false }
  s2.startMove a { target := s.linePos h o j.lines
                   speed := (s.lineRate h j.rate j.bpl : Rat) / s.density h
                   acc := s.aPar a 3, owner := .job h, lineLocked := true }

/-- The head of a job that prints may burn now: the head is IN_SERVICE and the axis has neither stopped
nor faulted. -/
def State.mayPrint (s : State) (h : Fin 4) (r : Run) : Bool :=
  r.phase = .print && s.paper.head[h].state = .inService && (s.job r.job).prints
    && r.line < (s.job r.job).lines

/-- A hold keeps line `r.line` from being begun. -/
def Run.held (r : Run) : Bool :=
  r.ext.isSome || (match r.hold with
    | none => false
    | some x => x.stopLine ≤ r.line)

/-- LINE_START (R593, R314, R391, R393, R1106): the first line begins where the paper stands; a later one
when its position is reached. A line not fetched in time starts a hold with cause LATE. -/
def execLineStart (h : Fin 4) (sensed : Bool) (vCode iCode : BitVec 12) (s : State) : Answer :=
  .next (match s.paper.run[h] with
  | none => s
  | some r =>
    let a := s.paperAxis h
    let x := s.paper.axis[a]
    if !s.mayPrint h r || r.held || r.paused then s
    else match r.origin with
      | none =>
        if r.fetched.length < s.linesNeeded h r ∨ x.state ≠ .idle ∨ x.queued.isSome then s
        else
          let s1 := s.startPrint h r
          match s1.paper.run[h] with
          | some r1 => s1.grantLine h r1 sensed vCode iCode
          | none => s1
      | some o =>
        if x.pos.toInt < s.linePos h o r.line then s
        else if r.fetched.length < s.linesNeeded h r then
          if r.late.isSome then s.onAxis a fun x => { x with standing := true } else s.startLate h r
        else s.grantLine h r sensed vCode iCode)

/-- PAUSE_CHECK (R549): one line period after a pause the limit is checked again. -/
def execPauseCheck (h : Fin 4) (sensed : Bool) (vCode iCode : BitVec 12) (s : State) : Answer :=
  .next (match s.paper.run[h] with
  | none => s
  | some r =>
    if r.paused ∧ s.mayPrint h r ∧ !r.held then s.grantLine h r sensed vCode iCode else s)

/-- LINE_FETCH_DONE (R391, R530, R1106): the next line is in the line buffer; a stand for a late line
ends. A fetcher that the arbiter never serves fetches nothing (R409). -/
def execLineFetchDone (h : Fin 4) (s : State) : Answer :=
  .next (match s.paper.run[h] with
  | none => s
  | some r =>
    let j := s.job r.job
    if s.fetching r ∧ r.fetchNext < j.lines ∧ r.fetchNext ≤ r.line + 1 + s.ahead h
        ∧ s.lineReady h r r.fetchNext ∧ s.arbServes (fetcherOf h) then
      let s1 := s.onRun h fun o => o.map fun r => { r with
        fetchNext := r.fetchNext + 1, fetched := r.fetched ++ [s.rasterLine h r r.fetchNext] }
      match r.late, s1.paper.run[h] with
      | some t, some r1 => if s1.linesNeeded h r1 ≤ r1.fetched.length then s1.endLate h r1 t else s1
      | _, _ => s1
    else s)

end Sys2Proof.Machine
end

