-- ==== Sys2Proof/Machine/Head.lean ====
section
/-! DEFINITION. Head ports: service states, scans and the writes of their parameters (08_head_ports), and
the writes of the energy parameters (09_energy). -/

namespace Sys2Proof.Machine

/-! ### Service states (R496) -/

/-- A write of head.ctrl.ENABLE = 1: one that is refused leaves ENABLE at 0. -/
def State.enableHead (s : State) (h : Fin 4) : State :=
  let x := s.paper.head[h]
  let refuse := s.onHead h fun x => { x with enable := false, enableRefused := true }
  let go := (s.onHead h fun x => { x with enable := true, enableRefused := false, retries := 0 }).setHead h .powering .none
  match x.state with
  | .unfitted => refuse
  | .out => match x.cause with
    | .notPresent => refuse
    | .hotplug => if s.pwr.mode = .service then go else refuse
    | _ => go
  | _ => s

/-- A write of head.ctrl.ENABLE = 0 (R499). -/
def State.disableHead (s : State) (h : Fin 4) : State :=
  match s.paper.head[h].state with
  | .powering => (s.onHead h fun x => { x with enable := false }).setHead h .out .manual
  | .inService =>
    (s.onHead h fun x => { x with enable := false, disablePending := true }).settleDisable h
  | _ => s

/-- HOTPLUG (R496, R508): Hn_PRES_N has been low for 100 ms. -/
def execHotplug (h : Fin 4) (s : State) : Answer :=
  .next (if s.headPresent h then
    let s1 := s.onHead h fun x => { x with present := true }
    if s.paper.head[h].state = .out ∧ s.paper.head[h].cause = .notPresent then s1.setHead h .out .hotplug else s1
  else s)

/-- PRESENCE_LOSS (R496, R507): Hn_PRES_N has been high for 10 µs. -/
def execPresenceLoss (h : Fin 4) (s : State) : Answer :=
  let s1 := s.onHead h fun x => { x with present := false }
  .next (match s.paper.head[h].state with
    | .unfitted => s1
    | .out => if s.paper.head[h].cause = .notPresent then s1 else s1.setHead h .out .notPresent
    | _ => s1.headOutOf h .notPresent)

/-- OVERCURRENT_TRIP (R483, R496). -/
def execOvercurrentTrip (h : Fin 4) (s : State) : Answer :=
  .next (match s.paper.head[h].state with
    | .powering | .inService =>
      ((s.onHead h fun x => { x with ocCount := x.ocCount + 1 }).raiseBoth (hasHead h) 0x53 (byteOf h.val)
        (BitVec.ofNat 16 s.paper.head[h].iMeas)).headOutOf h .overcurrent
    | _ => s)

/-- POWERING_CHECK (R496): the supply and the thermistor are judged, and the power-up scan is requested. From stage 2 of
a power-down a head is not powered (R481, R510). -/
def execPoweringCheck (h : Fin 4) (vCode tCode : BitVec 12) (s : State) : Answer :=
  .next (if s.paper.head[h].state = .powering ∧ !s.paper.head[h].powerChecked ∧ !s.pwr.pastStage 2 then
    let mv := s.supplyMv h vCode.toNat
    let s1 := (s.onHead h fun x => { x with vMeas := mv }).takeThermistor h tCode
    if s.badSupplyMv h mv then s1.headOutOf h .supply
    else if badThermistor tCode.toNat then s1.headOutOf h .thermistor
    else s1.onHead h fun x => { x with powerChecked := true, scanReq := true }
  else s)

/-- AUTO_RETRY (R496). -/
def execAutoRetry (h : Fin 4) (s : State) : Answer :=
  let x := s.paper.head[h]
  .next (if x.state = .out ∧ bit (s.hPar h 0) 10 ∧ x.retries.toNat < 3
      ∧ (x.cause = .supply ∨ x.cause = .overcurrent ∨ x.cause = .thermistor ∨ x.cause = .dots) then
    (s.onHead h fun x => { x with retries := x.retries + 1 }).setHead h .powering .none
  else s)

/-! ### Scans (R485 to R495) -/

/-- A scan measures the dot (R489). -/
def State.scans (s : State) (h : Fin 4) (d : Nat) : Bool :=
  !(s.masked h d && (s.paper.head[h].dot d).cls = .short)

/-- First dot from `d` on that a scan measures. -/
def State.scanFrom (s : State) (h : Fin 4) (d : Nat) : Option Nat :=
  ((List.range (s.dots h - d)).map fun k => d + k).find? (s.scans h)

/-- Samples of a scan pulse. -/
def State.scanSamples (s : State) (h : Fin 4) : Nat := 2 ^ bits (s.hPar h 0x10) 16 3
/-- Current of one code step in a scan, mA. -/
def State.scanStep (s : State) (h : Fin 4) : Rat :=
  ((s.hPar h 9).toNat : Rat) / (4096 * 2 ^ bits (s.hPar h 0x10) 20 2 : Nat)
/-- Mean current of a pulse from the sum of its codes, mA. -/
def State.scanCurrent (s : State) (h : Fin 4) (sum : Nat) : Rat := (sum : Rat) / s.scanSamples h * s.scanStep h

/-- Pulse width of a scan, µs, cut to t_base / 4 (09_energy R535). -/
def State.scanWidth (s : State) (h : Fin 4) : Rat :=
  let w : Rat := (bits (s.hPar h 0x10) 8 8 : Nat)
  let q : Rat := ((s.paper.energy[h].tBase : Nat) : Rat) / 256
  if s.paper.energy[h].tBase ≠ 0 ∧ q < w then q else w

/-- The periodic interval has passed (R485). -/
def State.scanDue (s : State) (h : Fin 4) : Bool :=
  let n := bits (s.hPar h 0x10) 0 8
  n ≠ 0 && (match s.paper.head[h].scanDoneAt with
    | some t => t + n * 60000000 ≤ s.now
    | none => true)

/-- No job is dispatched or active on the head, and no READY job waits for it (R485). -/
def State.headIdle (s : State) (h : Fin 4) : Bool :=
  s.loam.head[h].running.isNone && s.loam.head[h].reserved.isNone
    && (List.finRange 8).all fun v => (s.viJobs v).all fun e =>
      !(e.2.state = .ready && !e.2.isFence && e.2.head = h)

/-- SCAN_START (R485 to R487): a scan starts with its baseline pulse, or goes on at the dot where it was
handed over. -/
def execScanStart (h : Fin 4) (iSum : BitVec 17) (s : State) : Answer :=
  let x := s.paper.head[h]
  let may : Bool := (match x.state with
    | .powering => x.powerChecked
    | .inService => s.headIdle h && (x.scanReq || x.scanDot.isSome || s.scanDue h)
    | _ => false) && s.paper.axis[s.paperAxis h].atRest && !s.pwr.pastStage 2
  .next (if may ∧ !x.scanning then
    match x.scanDot with
    | some _ => s.onHead h fun x => { x with scanning := true }
    | none => s.senseAborts.onHead h fun x => { x with
        scanning := true, scanReq := true, scanDot := s.scanFrom h 0
        baseline := s.scanCurrent h iSum.toNat }
  else s)

/-- Class of a dot (08_head_ports, "Dot resistance scan"): R in Ω, ΔI in mA. -/
def classify (lo hi : Nat) (r di step : Rat) : DotClass :=
  if di < 2 * step then .open
  else if 16 * r < (lo : Rat) / 2 then .short
  else if 16 * r < (lo : Rat) then .low
  else if (hi : Rat) < 16 * r then .high
  else .ok

/-- The scan of a head is complete (R488, R496; 09_energy R536). -/
def State.scanComplete (s : State) (h : Fin 4) : State :=
  let s1 := (s.onHead h fun x => { x with
    scanning := false, scanReq := false, scanDot := none, scanDoneAt := some s.now, lastScan := x.dots }).onEnergy
      h fun e => { e with iIdle := s.paper.head[h].baseline }
  let s2 := s1.raise0 0x51 (byteOf h.val) (BitVec.ofNat 16 s1.paper.head[h].badDots)
  if s2.paper.head[h].state = .powering then
    if s2.paper.head[h].badDots ≤ (s2.hPar h 0x15).toNat then s2.setHead h .inService .none
    else s2.headOutOf h .dots
  else s2

/-- The scan of a head goes on with the first dot from `d` on that it measures, or is complete. -/
def State.scanOn (s : State) (h : Fin 4) (d : Nat) : State :=
  match s.scanFrom h d with
  | some n => s.onHead h fun x => { x with scanDot := some n }
  | none => s.scanComplete h

/-- Energy per segment of the pulse of a dot, µJ (R534): the pulse of a masked dot drives an empty plane and gives none
(R470). -/
def State.pulseEnergy (s : State) (h : Fin 4) (d : Nat) (mv di : Rat) : List Rat :=
  (List.range (s.segments h)).map fun j =>
    if d / 32 = j ∧ !s.masked h d then mv * di * s.scanWidth h / 1000000 else 0

/-- SCAN_DOT (R489 to R494, R534): a pulse has ended and its dot is classified. A dot that R489 excludes since it was
picked is passed over (R511). -/
def execScanDot (h : Fin 4) (vSum iSum : BitVec 17) (s : State) : Answer :=
  let x := s.paper.head[h]
  .next (match x.scanDot with
  | none => if x.scanning then s.scanComplete h else s
  | some d =>
    if !x.scanning then s
    else if !s.scans h d then s.scanOn h (d + 1)
    else
      let mv := (vSum.toNat : Rat) / s.scanSamples h * (s.hPar h 8).toNat / 4096
      let di := s.scanCurrent h iSum.toNat - x.baseline
      let r := mv / di
      let b := s.hPar h 0x11
      let c := classify (bits b 0 16) (bits b 16 16) r di (s.scanStep h)
      let w : Word := if c = .open then 0xFFFF else BitVec.ofNat 16 (sat (roundHalfUp (16 * r)).toNat 65535)
      let s1 := s.senseAborts.onHead h fun x =>
        let y := { x with dots := sparsePut d { cls := c, r := w } x.dots }
        { y with rAvg := y.meanR }
      let s2 := if (x.dot d).cls ≠ c ∧ c ≠ .ok then
          s1.raise0 0x52 (byteOf (h.val + 16 * c.code)) (BitVec.ofNat 16 d) else s1
      let s3 := if (c = .open ∨ c = .short) ∧ (x.dot d).cls ≠ c ∧ bit (s.hPar h 0) 9 then
          s2.setPar (0x1080 + 0x400 * h.val + d / 32) none
            (s2.hPar h (0x80 + d / 32) ||| BitVec.ofNat 32 (2 ^ (d % 32)))
        else s2
      let s4 := s3.onEnergy h fun y => { y with slots := y.slots ++
        [{ slot := 0, group := s.groupOf h d, start := s.now - s.scanWidth h, width := s.scanWidth h, cut := false
           energy := s.pulseEnergy h d mv di }] }
      if s4.paper.head[h].state = .inService ∧ (s4.hPar h 0x15).toNat < s4.paper.head[h].badDots then
        s4.headOutOf h .dots
      else s4.scanOn h (d + 1))

/-- A head is handed over to a job (R487): the result of the dot being measured is discarded. -/
def State.handOver (s : State) (h : Fin 4) : State := s.onHead h fun x => { x with scanning := false }

/-! ### Parameter writes of head ports -/

/-- Item-specific state of a head or energy parameter (R502). -/
def State.headItemNow (s : State) (h : Fin 4) (off : Nat) : Bool :=
  !(off = 0 && (s.paper.head[h].state = .powering || s.paper.head[h].state = .inService))

/-- Values refused beyond the ranges of the fields (R476, R484, R490; 09_energy R518, R541, and the row of
energy.t_nom). -/
def State.headItemValid (s : State) (h : Fin 4) (off : Nat) (v : Par) : Bool :=
  if off = 0 then
    let d := bits v 16 12
    64 ≤ d && d ≤ 2048 && d % 64 = 0
  else if off = 2 then 16 * s.slotMin h v (s.hPar h 3) * (s.hPar h 4).toNat ≤ 1
  else if off = 3 then 16 * s.slotMin h (s.hPar h 2) v * (s.hPar h 4).toNat ≤ 1
  else if off = 0xA ∨ off = 0x11 then bits v 0 16 ≤ bits v 16 16
  else if off = 0x10 then 2 ^ bits v 16 3 + 3 ≤ bits v 8 8
  else if off = 0x104 then s.ePar h 5 < v.toNat
  else if off = 0x105 then v.toNat < s.ePar h 4
  else if off = 0x107 then v.toNat ≤ s.ePar h 8
  else if off = 0x108 then s.ePar h 7 ≤ v.toNat
  else if off = 0x111 then v.toNat + 2 * s.ePar h 0x12 ≤ 65535
  else if off = 0x112 then s.ePar h 0x11 + 2 * v.toNat ≤ 65535
  else if 0x200 ≤ off ∧ off < 0x220 then 2 ≤ off % 4 || v = 0
  else true

/-- A write of head.cfg (R496, R540). -/
def State.writeHeadCfg (s : State) (h : Fin 4) (v : Par) : State :=
  let s1 := s.setPar (0x1000 + 0x400 * h.val) none v
  match s.paper.head[h].state with
  | .unfitted =>
    if bit v 0 then
      (s1.onEnergy h fun e => { e with seedNodes := true }).setHead h .out
        (if s.paper.head[h].present then .manual else .notPresent)
    else s1
  | .out => if bit v 0 then s1 else s1.setHead h .unfitted .none
  | _ => s1

/-- A write of head.ctrl: ENABLE, then SCAN and SCAN_ABORT (R486, R496). -/
def State.writeHeadCtrl (s : State) (h : Fin 4) (v : Par) : State :=
  let s1 := if bit v 0 then s.enableHead h else s.disableHead h
  let s2 := if bit v 1 then s1.onHead h fun x => { x with scanReq := true } else s1
  if bit v 2 then s2.onHead h fun x => { x with scanReq := false, scanDot := none, scanning := false } else s2

/-- head.ctrl as read. -/
def State.headCtrl (s : State) (h : Fin 4) : Par :=
  let x := s.paper.head[h]
  flag x.enable 0 ||| flag (x.scanReq || x.scanDot.isSome) 1

/-- A tenant's derating bound is stored limited to the outer bounds (01_station_system R55): BOUND with
source OUTER goes to the writing window. A lower bound above the tenant's upper bound is refused (R56). -/
def State.writeTenantBound (s : State) (w : Fin 11) (h : Fin 4) (upper : Bool) (v : Fin 8) (x : Par) :
    State × BitVec 4 :=
  let idx := 0x1000 + 0x400 * h.val + (if upper then 0x302 else 0x301)
  let y := (limitTo x.toNat (s.ePar h 7) (s.ePar h 8)).toNat
  let other := (s.parB v (0x1000 + 0x400 * h.val + (if upper then 0x301 else 0x302))).toNat
  if (if upper then x.toNat < other else other < x.toNat) then (s, errInvalid)
  else
    let s1 := s.setPar idx (some v) (BitVec.ofNat 32 y)
    if y = x.toNat then (s1, errOk)
    else (s1.raiseWin w 0x0C 0 (boundPayload h.val (y < x.toNat) 1 0 0), errLimited)

/-- The effect of a write of a head or energy parameter that has passed its checks. -/
def State.headItemWrite (s : State) (w : Fin 11) (h : Fin 4) (off : Nat) (v : Par) (vi : Option (Fin 8)) :
    State × BitVec 4 :=
  let idx := 0x1000 + 0x400 * h.val + off
  if off = 0 then (s.writeHeadCfg h v, errOk)
  else if off = 0xA then ((s.setPar idx none v).settleEnvelope h, errOk)
  else if off = 4 ∧ 4800 < v.toNat then ((s.setPar idx none 4800).raiseClamp w 0x12 h.val 0, errClamped)
  else if off = 6 then (s.writeHeadCtrl h v, errOk)
  else if off = 0x10 ∧ s.paper.energy[h].tBase ≠ 0 ∧ s.paper.energy[h].tBase / 256 < bits v 8 8 then
    ((s.setPar idx none ((v &&& 0xFFFF00FF) ||| fld (s.paper.energy[h].tBase / 256) 8)).raiseClamp w 0x11 h.val 0,
      errClamped)
  else if off = 0x13 then (s.onHead h fun x => { x with dotQuery := BitVec.setWidth 11 v }, errOk)
  else if off = 0x106 ∧ 1440 < v.toNat then ((s.setPar idx none 1440).raiseClamp w 0x10 h.val 0, errClamped)
  else match vi with
    | some u =>
      if off = 0x300 then
        if 25 < v.toNat then ((s.setPar idx vi 25).raiseClamp w 0x11 h.val 0, errClamped)
        else (s.setPar idx vi v, errOk)
      else if off = 0x301 then s.writeTenantBound w h false u v
      else if off = 0x302 then s.writeTenantBound w h true u v
      else (s.setPar idx vi v, errOk)
    | none => (s.setPar idx none v, errOk)

end Sys2Proof.Machine
end

