-- ==== Sys2Proof/Machine/LegalOps.lean ====
section
/-! DEFINITION. Sending a command to the island (13_kaolin_island, "The protective interface"): what the
main side answers itself, the mailbox, and the report of a completed cut. -/

namespace Sys2Proof.Machine

/-- Answers of the protective interface (13_kaolin_island). -/
def rspOk : Byte := 0x00
def rspBusy : Byte := 0x01
def rspMotion : Byte := 0x02
def rspInhibited : Byte := 0x03
def rspRange : Byte := 0x04
def rspBelowMin : Byte := 0x05
def rspWait : Byte := 0x06
def rspUnknown : Byte := 0x07
def rspSource : Byte := 0x08
def rspNvmWait : Byte := 0x09
def rspPower : Byte := 0x0A
def rspNoRecord : Byte := 0x0B
def rspUnavailable : Byte := 0x0C
def rspNoRole : Byte := 0x0D

/-- An answer of class retry. -/
def rspRetry (r : Byte) : Bool := [rspBusy, rspMotion, rspWait, rspNvmWait, rspPower].contains r

/-- The device source: Loam and the cut path. -/
def LegSource.device : LegSource → Bool
  | .tenant _ => false
  | _ => true

/-- legal.epoch_stat reports a mismatch. -/
def epochMismatch : BitVec 2 := 2

/-- The answer that the main side gives without sending (R761, R762), if any. -/
def State.legalGate (s : State) (code : BitVec 4) : Option Byte :=
  if !s.islandPresent ∨ !s.pwr.pgK ∨ s.island.state = .inactive
      ∨ (code ≠ 6 ∧ s.legal.epochStat = epochMismatch) then some rspUnavailable
  else if s.island.state = .selfTest ∨ s.legal.epochOwed then some rspWait
  else none

/-- A mailbox entry of the source is free (R757): one for the tenant, three for the device. -/
def State.mailboxFree (s : State) (src : LegSource) : Bool :=
  let used := (s.island.mailbox.filter fun c => c.source.device == src.device).length
  if src.device then used < 3 else used < 1

/-- A command is sent, or answered by the main side (R757, R761, R762). -/
def State.sendLegal (s : State) (c : LegCommand) : State × Option Byte :=
  match s.legalGate c.code with
  | some r => (s, some r)
  | none =>
    if s.mailboxFree c.source then (s.onIsland fun i => { i with mailbox := i.mailbox ++ [c] }, none)
    else (s.onLegal fun l => { l with busy := l.busy + 1 }, some rspBusy)

/-- PRINTED is sent for the job on a head (R769); a retry answer leaves it to be sent again. -/
def State.sendPrinted (s : State) (h : Fin 4) : State :=
  match s.paper.run[h] with
  | none => s
  | some r => match r.record with
    | none => s
    | some seq =>
      let p := s.sendLegal { source := .cut h, code := 5, tag := 0, arg := seq, orphan := false }
      p.1.onRun h fun o => o.map fun r => { r with resend := match p.2 with
        | some a => rspRetry a
        | none => false }

/-- The reports that wait are sent again (R769). -/
def State.resendPrinted (s : State) : State :=
  (List.finRange 4).foldl (fun u (h : Fin 4) => match u.paper.run[h] with
    | some r => if r.phase = .printed ∧ r.resend then u.sendPrinted h else u
    | none => u) s

/-- A head's cut has been made for its job: the report of a legal label, then the present phase or the
end (11_media_outputs R666, 13_kaolin_island R769). -/
def State.cutMade (s : State) (h : Fin 4) : State :=
  match s.paper.run[h] with
  | none => s
  | some r =>
    if (s.job r.job).isLegal ∧ r.record.isSome then
      (s.onRun h fun o => o.map fun r => { r with phase := .printed, cutAt := s.now }).sendPrinted h
    else s.afterCut h

end Sys2Proof.Machine
end

