-- ==== Sys2Proof/Machine/Motion.lean ====
section
/-! DEFINITION. The paper axes and the cutter: the step generator, stops, limits, the chopper, the cut
cycle, and the writes of their parameters (10_motion). -/

namespace Sys2Proof.Machine

/-! ### Hard stops (R611 to R616) -/

/-- An axis stops hard and takes a state: its queued move is lost and the jobs on it fail. -/
def State.hardStopTo (s : State) (a : Fin 4) (cause : BitVec 3) (st : AxisState) : State :=
  let m := s.paper.axis[a].move
  let s1 := (s.hardStop a cause).setAxis a st
  let s2 := match m with
    | some m => match m.owner with
      | .learn _ | .purge _ => s1.failOwner m.owner
      | _ => s1
    | none => s1
  s2.failAxisJobs a

/-- The axis moves or stops. -/
def Axis.inMotion (x : Axis) : Bool := x.state = .moving || x.state = .stopping

/-! ### The chopper (R576 to R582) -/


/-- The cutter motor is driven. -/
def State.cutterDrives (s : State) : Bool :=
  s.cutterMode && (s.paper.cutter.state = .cutting || s.paper.cutter.state = .returning)

/-- The phase is driven by its chopper: an enabled axis, or phase A of the cutter motor. -/
def State.phaseLive (s : State) (a : Fin 4) (phaseB : Bool) : Bool :=
  if a = 3 ∧ s.cutterMode then !phaseB && s.cutterDrives else s.paper.axis[a].state ≠ .off

/-- A phase of an axis changes what it does. -/
def Axis.onChop (x : Axis) (phaseB : Bool) (f : Chop → Chop) : Axis :=
  if phaseB then { x with chopB := f x.chopB } else { x with chopA := f x.chopA }

/-- The whole of this µs lies in the blanking time of a phase that drives (R581). -/
def State.blanked (s : State) (since blank : Nat) : Bool :=
  decide ((5 * (s.now - since + 1) : Nat) * s.clockScale ≤ (blank : Rat))

/-- A comparator trip ends drive (R579, R580); one in the blanking time is ignored (R581). -/
def State.chopTrip (s : State) (a : Fin 4) (c : Chop) : Chop :=
  match c with
  | .drive p since blank _ => if s.blanked since blank then c else .offTime p s.now (s.parG (0x2000 + 0x80 * a.val + 9))
  | x => x

/-- The off-time ends: drive in the polarity of the phase current, unless the code has become 0. -/
def State.chopResume (s : State) (a : Fin 4) (phaseB : Bool) (c : Chop) : Chop :=
  match c with
  | .offTime p _ chop =>
    let blank := chopBlank chop.toNat
    if a = 3 ∧ s.cutterMode then .drive p s.now blank false
    else if s.phaseCode a phaseB = 0 then .slow
    else .drive (s.phaseCurrent a phaseB < 0) s.now blank false
  | x => x

/-- CHOPPER_TRIP (R579 to R582): the phase leaves drive for its off-time. -/
def execChopperTrip (a : Fin 4) (phaseB : Bool) (s : State) : Answer :=
  .next (if s.phaseLive a phaseB then s.onAxis a fun x => x.onChop phaseB (s.chopTrip a) else s)

/-- OFF_TIME_END (R579): drive resumes. -/
def execOffTimeEnd (a : Fin 4) (phaseB : Bool) (s : State) : Answer :=
  .next (if s.phaseLive a phaseB then s.onAxis a fun x => x.onChop phaseB (s.chopResume a phaseB) else s)

/-- STANDSTILL_REDUCTION (R584, R586, R613): the hold delay has passed on an IDLE axis, or on one halted. -/
def execStandstillReduction (a : Fin 4) (s : State) : Answer :=
  let x := s.paper.axis[a]
  .next (if (x.state = .idle ∨ (x.state = .fault ∧ x.stopCause = 1)) ∧ s.aPar a 8 / 65536 ≠ 0 then
    (s.onAxis a fun x => { x with reduced := true }).loadDacs a
  else s)

/-! ### Enable, clear and references (R567, R568, R603, R614) -/

/-- The table of an axis is not non-decreasing. -/
def State.tableBad (s : State) (a : Fin 4) : Bool :=
  (List.range 255).any fun i => s.sine a (i + 1) < s.sine a i

/-- The first enable check that fails: 1 TABLE, 2 RATE, 3 BRIDGE (R568). -/
def State.enableCheck (s : State) (a : Fin 4) : Option (BitVec 3) :=
  if s.tableBad a then some 1
  else if 5000000 * 65536 < s.aPar a 2 * s.axScale a then some 2
  else if s.paper.axis[a].flt then some 3
  else none

/-- What the cutter's bridge does in a state (R621, R622): never from drive to drive of the other polarity without slow
decay (R582). -/
def cutterChop (now blank : Nat) (c : Chop) (st : CutState) : Chop :=
  match st with
  | .cutting => chopLoad now blank c 1 false
  | .returning => chopLoad now blank c 1 true
  | _ => .slow

/-- The cutter takes a state. -/
def State.setCutter (s : State) (st : CutState) : State :=
  (s.onCutter fun c => { c with state := st, since := s.now }).onAxis 3 fun x => { x with
    chopA := cutterChop s.now (chopBlank (s.aPar 3 9)) x.chopA st }

/-- The cutter starts to return, or is home at once (R620). -/
def State.cutterReturn (s : State) : State :=
  s.setCutter (if s.paper.cutter.home then .braking else .returning)

/-- CUTTER_FAULT (R620): window 0, and the VI whose cut runs. -/
def State.cutterEvent (s : State) (since : Nat) : State :=
  let aux := BitVec.setWidth 8 s.paper.cutter.stat
  let t := BitVec.ofNat 16 (sat ((s.now - since) / 1000) 65535)
  let s1 := s.raise0 0x5F aux t
  match s.paper.cutter.head with
  | some h => match s.paper.run[h] with
    | some r => if s.paper.cutter.waits then s1.raiseVi r.job.vi 0x5F aux t else s1
    | none => s1
  | none => s1

/-- The job that waits for the cut fails (R623), and the cycle is over. -/
def State.cutterDropJob (s : State) : State :=
  let s1 := match s.paper.cutter.head with
    | some h => if s.paper.cutter.waits then s.stopJob h .failed 9 else s
    | none => s
  s1.onCutter fun c => { c with head := none, waits := false, left := false }

/-- The cutter jams (R620). -/
def State.cutterJam (s : State) : State :=
  ((s.setCutter .jammed).cutterEvent s.paper.cutter.since).cutterDropJob

/-- axis.ctrl.ENABLE written 1. -/
def State.enableAxis (s : State) (a : Fin 4) : State :=
  let isOff : Bool := if a = 3 ∧ s.cutterMode then s.paper.cutter.state = .off else s.paper.axis[a].state = .off
  if !isOff then s
  else match s.enableCheck a with
    | some c =>
      let s1 := s.onAxis a fun x => { x with enableRefused := true, refuseCause := c }
      if a = 3 ∧ s.cutterMode then s1 else s1.axisEvent a
    | none =>
      let s1 := s.onAxis a fun x => { x with enable := true, enableRefused := false }
      if a = 3 ∧ s.cutterMode then
        if s.paper.cutter.home then s1.setCutter .home else s1.setCutter .returning
      else
        let s2 := s1.onAxis a fun x => { x with reduced := false, revHigh := x.pos, chopA := .slow, chopB := .slow }
        (s2.loadDacs a).setAxis a .idle

/-- An axis goes to OFF with a hard stop first if it moves (R567, R578, R612). -/
def State.axisOff (s : State) (a : Fin 4) (cause : BitVec 3) : State :=
  let quiet : Axis → Axis := fun x => { x with enable := false, reduced := false, queued := none, chopA := .slow, chopB := .slow }
  if a = 3 ∧ s.cutterMode then
    let s1 := s.onAxis a quiet
    if s.paper.cutter.state = .off then s1 else (s1.setCutter .off).cutterDropJob
  else if s.paper.axis[a].inMotion then (s.hardStopTo a cause .off).onAxis a quiet
  else (s.onAxis a quiet).setAxis a .off

/-- axis.ctrl.HALT (R567, R612, R624): a cut cycle is not halted. -/
def State.haltAxis (s : State) (a : Fin 4) : State :=
  if a = 3 ∧ s.cutterMode then s
  else match s.paper.axis[a].state with
    | .idle | .moving | .stopping => s.hardStopTo a 1 .fault
    | _ => s

/-- axis.ctrl.CLEAR (R567, R620): of a jammed cutter only the row to HOME asks for Mn_FLT_N high. -/
def State.clearAxis (s : State) (a : Fin 4) : State :=
  if a = 3 ∧ s.cutterMode then
    if s.paper.cutter.state ≠ .jammed then s
    else if !s.paper.cutter.home then s.setCutter .returning
    else if s.paper.axis[a].flt then s
    else s.setCutter .home
  else if s.paper.axis[a].state ≠ .fault then s
  else if s.paper.axis[a].flt then s.axisEvent a
  else (s.loadDacs a).setAxis a .idle

/-- The reverse reference is set (R603). -/
def State.revReference (s : State) (a : Fin 4) : State := s.onAxis a fun x => { x with revHigh := x.pos }

/-- BRIDGE_FAULT (R567, R611 to R616, R620): Mn_FLT_N has been low for 1 µs, or has returned high. -/
def execBridgeFault (a : Fin 4) (low : Bool) (s : State) : Answer :=
  let s1 := s.onAxis a fun x => { x with flt := low }
  .next (if !low then s1
    else if a = 3 ∧ s.cutterMode then
      match s.paper.cutter.state with
      | .off | .jammed => s1
      | _ => s1.cutterJam
    else match s.paper.axis[a].state with
      | .idle | .moving | .stopping =>
        (s1.hardStopTo a 2 .fault).onAxis a fun x => { x with chopA := .slow, chopB := .slow }
      | _ => s1)

/-- LIMIT_ACTIVE (R606 to R608, R628): an input of an axis has held its active level for its debounce time,
or has left it. In cutter mode axis 3 takes its home switch from one input and ignores the other (R619). -/
def execLimitActive (a : Fin 4) (input : Fin 2) (active : Bool) (s : State) : Answer :=
  let x := s.paper.axis[a]
  let s1 := s.onAxis a fun x => if input = 0 then { x with lim0 := active } else { x with lim1 := active }
  let toward : Bool := if input = 0 then x.neg else !x.neg
  let isOff : Bool := (if input = 0 then s.aPar a 0xA % 4 else s.aPar a 0xA / 256 % 4) = 0
  .next (if a = 3 ∧ s.cutterMode then s
    else if !active || isOff || !x.inMotion || !toward then s1
    else
      let vi := x.move.bind fun m => s.ownerVi m.owner
      if s.limitHard a input then
        ((s1.limitEvent a input true vi).hardStopTo a (if input = 0 then 3 else 4) .idle)
      else
        let s2 := s1.limitEvent a input false vi
        match x.state with
        | .moving =>
          let s3 := s2.rampStop a
          match x.move with
          | some m => s3.failOwner m.owner
          | none => s3
        | _ => s2)

/-! ### The step generator (R587 to R598) -/

/-- 10 µs in s. -/
def updatePeriod : Rat := 1 / 100000

/-- Microsteps in mm on an axis. -/
def State.millimetres (s : State) (a : Fin 4) (m : Nat) : Rat := (m * 65536 : Nat) / (s.axScale a : Rat)

/-- Speed and acceleration that a move has now: a service move follows axis.move_v and axis.move_acc, a
line-locked move the line rate (R595, R596). -/
def State.moveNow (s : State) (a : Fin 4) (m : Move) : Rat × Nat :=
  match m.owner with
  | .service => ((s.aPar a 0x12 : Rat), s.aPar a 0x13)
  | .job h =>
    if m.lineLocked then
      match s.paper.run[h] with
      | some r =>
        let j := s.job r.job
        ((s.lineRate h j.rate j.bpl : Rat) / s.density h, m.acc)
      | none => (m.speed, m.acc)
    else (m.speed, m.acc)
  | _ => (m.speed, m.acc)

/-- Speed after one update of deceleration at rate `a`; a move that must still go on keeps creeping. -/
def brake (v a : Rat) : Rat := if v ≤ a * updatePeriod then v else v - a * updatePeriod

/-- The speed and acceleration of a moving axis after one update, and whether it decelerates to its target (R587, R589,
R596 to R598): once it does, a higher speed or acceleration is ignored. -/
def State.updateMove (s : State) (a : Fin 4) (x : Axis) (m : Move) : Rat × Nat × Bool :=
  let now := s.moveNow a m
  let v := x.speed
  let d := s.millimetres a (m.target - x.pos.toInt).natAbs
  match x.holdAt with
  | some p =>
    let q := s.millimetres a (p - x.pos.toInt).natAbs
    let stop : Rat := (s.aPar a 4 : Rat)
    if (if x.neg then x.pos.toInt ≤ p else p ≤ x.pos.toInt) then (0, now.2, false)
    else
      let r := v * v / (2 * q)
      (brake v (if r ≤ stop then r else stop), now.2, false)
  | none =>
    if m.braking ∨ d ≤ v * v / (2 * (now.2 : Rat)) then
      let top := if m.braking then m.acc else max m.acc now.2
      let r := v * v / (2 * d)
      (brake v (if r ≤ (top : Rat) then r else (top : Rat)), top, true)
    else if v < now.1 then
      let w := v + (now.2 : Rat) * updatePeriod
      (if w ≤ now.1 then w else now.1, now.2, false)
    else
      let w := v - (now.2 : Rat) * updatePeriod
      (if now.1 ≤ w then w else now.1, now.2, false)

/-- The job on a head goes on after a reference failure (06_silt R398): lines whose position the paper has passed are
not burnt, and a hold from outside Silt ends. -/
def State.resumeRun (s : State) (h : Fin 4) : State :=
  match s.paper.run[h] with
  | none => s
  | some r => match r.phase, r.origin with
    | .print, some o =>
      let cur := s.paper.axis[s.paperAxis h].pos.toInt
      let left := (s.job r.job).lines - r.line
      let k := ((List.range left).find? fun i => cur ≤ s.linePos h o (r.line + i)).getD left
      let r1 : Run := { r with
        line := r.line + k, fetchNext := max r.fetchNext (r.line + k), fetched := r.fetched.drop k }
      let s1 := s.onRun h fun _ => some r1
      let s2 := match r1.late with
        | some t => if s1.linesNeeded h r1 ≤ r1.fetched.length then s1.endLate h r1 t else s1
        | none => s1
      let s3 := match r1.ext with
        | some t => s2.endExternal h r1 t
        | none => s2
      if k = left then s3.afterLines h r1 else s3.refreshHead h
    | _, _ => s

/-- An axis at rest at the end of its stop ramp (R567, R633): a move interrupted by a reference failure is resumed to
its target, unless a limit keeps it from starting (R607). -/
def State.rampEnded (s : State) (a : Fin 4) : State :=
  let x := s.paper.axis[a]
  let s1 := (s.onAxis a Axis.stopped).setAxis a .idle
  match x.resume, x.move with
  | true, some m =>
    let s2 := s1.startMove a m
    match m.owner with
    | .job h => if s2.paper.axis[a].state = .moving then s2.resumeRun h else s2
    | _ => s2
  | _, _ => s1

/-- One update of one axis. -/
def State.updateAxis (s : State) (a : Fin 4) : State :=
  let x := s.paper.axis[a]
  match x.state with
  | .moving => match x.move with
    | none => s
    | some m =>
      if x.pos.toInt = m.target then s.finishMove a
      else if x.standing then s
      else
        let n := s.updateMove a x m
        s.onAxis a fun x => { x with
          speed := n.1, move := some { m with speed := (s.moveNow a m).1, acc := n.2.1, braking := n.2.2 } }
  | .stopping =>
    let v := x.now - x.stopAt.getD (s.aPar a 4 : Rat) * updatePeriod
    if v ≤ 0 then s.rampEnded a else s.onAxis a fun x => { x with speed := v, standing := false }
  | _ => s

/-- MOTION_UPDATE (R589): every axis. -/
def execMotionUpdate (s : State) : Answer := .next ((List.finRange 4).foldl (fun u a => u.updateAxis a) s)

/-- A step may be issued (R587, R598, R602, R605). -/
def State.mayStep (s : State) (a : Fin 4) : Bool :=
  let x := s.paper.axis[a]
  let p := x.pos.toInt
  x.inMotion && x.now ≠ 0
    && (match x.move with
      | some m => p ≠ m.target
      | none => true)
    && (match x.holdAt with
      | some q => if x.neg then q < p else p < q
      | none => true)
    && (!x.neg || (s.reversible a && s.revFloor a ≤ p - 1))

/-- The job that this axis moves becomes ACTIVE at its first step (05_loam R314). -/
def State.activateMover (s : State) (o : MoveOwner) : State :=
  match o with
  | .job h => match s.paper.run[h] with
    | some r => if r.phase = .motion then s.activate r.job else s
    | none => s
  | _ => s

/-- MICROSTEP (R576, R587, R603, R605, R314): the position and the DACs move on, and a move ends at its
target. -/
def execMicrostep (a : Fin 4) (s : State) : Answer :=
  let x := s.paper.axis[a]
  .next (if s.mayStep a then
    let s1 := s.onAxis a fun x =>
      let p := if x.neg then x.pos - 1 else x.pos + 1
      { x with pos := p, revHigh := if x.revHigh.toInt < p.toInt then p else x.revHigh }
    let s2 := s1.loadDacs a
    let s3 := match x.move with
      | some m => s2.activateMover m.owner
      | none => s2
    match x.move with
    | some m => if x.state = .moving ∧ s3.paper.axis[a].pos.toInt = m.target then s3.finishMove a else s3
    | none => s3
  else s)

/-- The job that owns a move that begins only now has moved nothing before (05_loam R337). -/
def State.startsHere (s : State) (a : Fin 4) (o : MoveOwner) : State :=
  match o with
  | .job h => s.onRun h fun q => q.map fun r => { r with startPos := s.paper.axis[a].pos.toInt }
  | _ => s

/-- A move that has waited starts. A TOF phase whose label has passed the axis meanwhile looks for its label anew
(11_media_outputs R656). -/
def State.startQueued (s : State) (a : Fin 4) (m : Move) : State :=
  let passed : Bool := match m.owner with
    | .job h => m.dist.isNone && m.target < s.paper.axis[a].pos.toInt && (s.paper.run[h].any fun r => r.phase = .tof)
    | _ => false
  match m.owner with
  | .job h => if passed then (s.setAxis a .idle).beginTof h else (s.startsHere a m.owner).startMove a m
  | _ => s.startMove a m

/-- QUEUED_MOVE_START (R599, R604, R607): the running move has reached its target, or has come to rest. -/
def execQueuedMoveStart (a : Fin 4) (s : State) : Answer :=
  let x := s.paper.axis[a]
  .next (match x.queued with
  | some m =>
    if x.move.isNone ∧ (x.state = .idle ∨ x.state = .moving) then
      let s1 := (s.onAxis a fun x => { x with queued := none }).startQueued a m
      if x.state = .moving ∧ s1.paper.axis[a].state = .moving then s1.axisEvent a else s1
    else s
  | none => s)

/-! ### The cut cycle (R619 to R624; 11_media_outputs R659, R664 to R666) -/

/-- The cut that a head waits for: the job in its cut phase, the TOF phase at its cut position, or a purge
whose feed has ended. A job of a VI in reset starts none (R624). -/
def State.cutWanted (s : State) (h : Fin 4) : Bool :=
  match s.paper.run[h] with
  | some r => (r.phase = .cut || r.phase = .tofCut) && s.vi[r.job.vi].state = .enabled
  | none => s.loam.head[h].purging && !s.loam.head[h].purgeCut

/-- The interlocks of a cutter cycle (11_media_outputs R665: the paper at rest, no strobe active, the cover closed, the
cutter HOME), and no power-down past stage 1 (R624). -/
def State.cutMay (s : State) (h : Fin 4) : Bool :=
  let a := s.paperAxis h
  let x := s.paper.axis[a]
  s.cutterMode && s.hasCutter h && s.paper.cutter.state = .home && !s.paper.media[h].coverOpen
    && x.move.isNone && x.atRest && (s.paper.energy[h].slots.all fun e => decide (e.start + e.width ≤ s.now))
    && !s.pwr.stageBegun

/-- CUT_START (R620, R624; 11_media_outputs R659, R665). -/
def execCutStart (h : Fin 4) (s : State) : Answer :=
  .next (if s.cutWanted h ∧ s.cutMay h then
    let isPart : Bool := match s.paper.run[h] with
      | some r => r.phase = .cut && (s.job r.job).kind = 3 && (s.job r.job).partialCut
      | none => false
    let s1 := (s.setCutter .cutting).onCutter fun c => { c with
      left := false, isPartial := isPart, fault := false, head := some h, waits := true }
    match s.paper.run[h] with
    | some r => if (s.job r.job).kind = 3 then s1.activate r.job else s1
    | none => s1
  else s)

/-- HOME_SWITCH (R620): the home input changes. -/
def execHomeSwitch (home : Bool) (s : State) : Answer :=
  let s1 := s.onCutter fun c => { c with home := home }
  .next (if !s.cutterMode then s1
    else match s.paper.cutter.state with
      | .cutting =>
        if !home then s1.onCutter fun c => { c with left := true }
        else if s.paper.cutter.left ∧ !s.paper.cutter.isPartial then s1.setCutter .braking else s1
      | .returning => if home then s1.setCutter .braking else s1
      | _ => s1)

/-- CUT_PARTIAL_TIMEOUT (R620): cut.t_partial after home was left. -/
def execCutPartialTimeout (s : State) : Answer :=
  let c := s.paper.cutter
  .next (if c.state = .cutting ∧ c.isPartial ∧ c.left then s.cutterReturn else s)

/-- CUT_TIMEOUT (R620): cut.t_leave or cut.t_max has passed. -/
def execCutTimeout (s : State) : Answer :=
  let c := s.paper.cutter
  .next (match c.state with
  | .cutting =>
    let s1 := ((s.setCutter .returning).onCutter fun c => { c with fault := true }).cutterEvent c.since
    if c.home then s1.setCutter .braking else s1
  | .returning => s.cutterJam
  | _ => s)

/-- BRAKE_END (R620, R623; 11_media_outputs R659, R664, R666): the cutter is HOME, and what waited for the
cut goes on. -/
def execBrakeEnd (s : State) : Answer :=
  let c := s.paper.cutter
  .next (if c.state = .braking then
    let s0 := match c.head with
      | some h => if c.fault ∧ c.waits then s.stopJob h .failed 9 else s
      | none => s
    let s1 := (s0.setCutter .home).onCutter fun x => { x with
      head := none, waits := false, left := false
      count := if c.head.isSome ∧ !c.fault then x.count + 1 else x.count }
    match c.head with
    | none => s1
    | some h =>
      if c.fault then s1
      else
        let s2 := (s1.onMedia h fun m => { m with cutLine := none, cutWait := false }).revReference (s.paperAxis h)
        if !c.waits then s2
        else match s.paper.run[h] with
          | some r =>
            if r.phase = .tofCut then s2.continueTof h
            else if (s.job r.job).kind = 3 then s2.doneRun h
            else s2.cutMade h
          | none => s2.onLoamHead h fun l => if l.purging then { l with purgeCut := true } else l
  else s)

/-! ### Parameter writes of axes, paths and tables -/

/-- Axes that a path names. -/
def pathAxes (v : Par) : List (Fin 4) :=
  (⟨bits v 0 2, by unfold bits; omega⟩ : Fin 4)
    :: (if bit v 2 then [(⟨bits v 3 2, by unfold bits; omega⟩ : Fin 4)] else [])
    ++ (if bit v 5 then [(3 : Fin 4)] else [])

/-- An axis, or the cutter on axis 3, is OFF. -/
def State.axisIsOff (s : State) (a : Fin 4) : Bool :=
  if a = 3 ∧ s.cutterMode then s.paper.cutter.state = .off else s.paper.axis[a].state = .off

/-- Item-specific state of an axis parameter (R569). -/
def State.axisItemNow (s : State) (a : Fin 4) (off : Nat) : Bool :=
  if off = 0 ∨ off = 1 then s.axisIsOff a
  else if off = 0x11 then
    s.pwr.mode = .service && !(a = 3 && s.cutterMode)
      && (s.paper.axis[a].state = .idle || s.paper.axis[a].state = .moving)
  else true

/-- Refused values beyond the plain ranges (R570, R571 and the rows of axis.move_v, axis.move_acc and
cut.i_lim). -/
def State.axisItemValid (s : State) (a : Fin 4) (off : Nat) (v : Par) : Bool :=
  if off = 0 then bits v 0 2 ≠ 2 || a = 3
  else if off = 3 then v.toNat ≤ s.aPar a 4
  else if off = 4 then s.aPar a 3 ≤ v.toNat
  else if off = 6 then v.toNat ≤ s.aPar a 7
  else if off = 0x12 then v.toNat ≤ s.aPar a 2
  else if off = 0x13 then v.toNat ≤ s.aPar a 3
  else if off = 0x21 then v.toNat ≤ s.aPar a 7
  else true

/-- A write of axis.move_dist (R599, R600, R617, R618): the move goes on from where the one that runs ends. -/
def State.serviceMove (s : State) (a : Fin 4) (v : Par) : State × BitVec 4 :=
  let x := s.paper.axis[a]
  let refuse (c : BitVec 3) := (s.onAxis a fun x => { x with refuseCause := c }, errInvalid)
  if v.toInt < 0 ∧ !s.reversible a then refuse 4
  else if x.queued.isSome then refuse 5
  else
    (s.requestMove a { target := x.pos.toInt, dist := some (s.conv a v.toInt), speed := (s.aPar a 0x12 : Rat)
                       acc := s.aPar a 0x13, owner := .service, lineLocked := false }, errOk)

/-- A write of axis.ctrl: ENABLE, then HALT, CLEAR, CLEAR_UNCERTAIN and REV_REF. -/
def State.writeAxisCtrl (s : State) (a : Fin 4) (v : Par) : State :=
  let s1 := if bit v 0 then s.enableAxis a else s.axisOff a 5
  let s2 := if bit v 1 then s1.haltAxis a else s1
  let s3 := if bit v 2 then s2.clearAxis a else s2
  let s4 := if bit v 3 then s3.onAxis a fun x => { x with uncertain := false } else s3
  if bit v 4 then s4.revReference a else s4

/-- The effect of a write of an axis parameter that has passed its checks; a change of the run current or
of the standstill fraction loads the DACs (R576). -/
def State.axisItemWrite (s : State) (a : Fin 4) (off : Nat) (v : Par) : State × BitVec 4 :=
  let idx := 0x2000 + 0x80 * a.val + off
  if off = 0xC then (s.writeAxisCtrl a v, errOk)
  else if off = 0x11 then s.serviceMove a v
  else
    let s1 := s.setPar idx none v
    if (off = 6 ∨ off = 7 ∨ off = 8) ∧ s.paper.axis[a].state ≠ .off then
      (s1.loadDacs a, errOk)
    else (s1, errOk)

/-- A write of a path may be made now (R573). -/
def State.pathNow (s : State) (h : Fin 4) (v : Par) : Bool :=
  !(s.paper.head[h].state = .powering || s.paper.head[h].state = .inService)
    && ((pathAxes (s.parG (0x2200 + h.val)) ++ pathAxes v).all s.axisIsOff)

/-- A path breaks none of the conditions of R572, put to the paths of the heads that are present and to the path written
(notes/assumptions 22). -/
def State.pathValid (s : State) (h : Fin 4) (v : Par) : Bool :=
  let at1 (k : Fin 4) : Par := if k = h then v else s.parG (0x2200 + k.val)
  let heads := (List.finRange 4).filter fun k => s.headPresent k
  let paper (k : Fin 4) := bits (at1 k) 0 2
  let cutters := (heads.filter fun k => bit (at1 k) 5).length
  (heads.all fun j => heads.all fun k => j = k || paper j ≠ paper k)
    && (heads.all fun j => heads.all fun k => j = k || !bit (at1 j) 2 || bits (at1 j) 3 2 ≠ paper k)
    && cutters ≤ 1 && (cutters = 0 || s.cutterMode)
    && !(s.cutterMode && (h :: heads).any fun k => paper k = 3 || (bit (at1 k) 2 && bits (at1 k) 3 2 = 3))

end Sys2Proof.Machine
end

