-- ==== Sys2Proof/Machine/Media.lean ====
section
/-! DEFINITION. Media sensing of a head's path: edges, threshold loops, label learning, seeks, paper end and
cover, and the writes of the media parameters (11_media_outputs). -/

namespace Sys2Proof.Machine

/-- Position of the paper axis of a head. -/
def State.paperPos (s : State) (h : Fin 4) : Int := s.paper.axis[s.paperAxis h].pos.toInt

/-- MEDIA_STATE, MEDIA_LEARNED and MEDIA_SEEK go to window 0 and to the VIs that have the head. -/
def State.mediaEvent (s : State) (h : Fin 4) (code : Byte) (aux : Nat) (payload : Int) : State :=
  s.raiseBoth (hasHead h) code (byteOf (h.val + 16 * aux)) (BitVec.ofNat 16 (sat payload.toNat 65535))

/-- MEDIA_STATE (R653). -/
def State.mediaState (s : State) (h : Fin 4) : State :=
  s.raiseBoth (hasHead h) 0x64 (byteOf h.val) (BitVec.setWidth 16 s.paper.media[h].stat)

/-- Every recorded position of the path is discarded, and LEARNED clears (R647). -/
def State.mediaForget (s : State) (h : Fin 4) : State :=
  s.onMedia h fun m => { m with
    learned := false, starts := [], leads := [], past := [], side := none, run := none, pitches := [], gaps := []
    predicted := 0, labSum := 0, labCount := 0, gapSum := 0, gapCount := 0 }

/-! ### Samples (R635 to R638) -/

/-- The path is on MARK media. -/
def State.onMark (s : State) (h : Fin 4) : Bool := s.mediaType h = 2

/-- θ of the active sensor. -/
def State.threshold (s : State) (h : Fin 4) : Nat :=
  if s.onMark h then s.paper.media[h].markThr else s.paper.media[h].gapThr

/-- Side of a sample: true for the gap, none inside the hysteresis band. -/
def State.sampleSide (s : State) (h : Fin 4) (code : Nat) : Option Bool :=
  let t := s.threshold h
  let e := s.mPar h 0xA
  let up : Bool := (s.mPar h 0).testBit (if s.onMark h then 4 else 3)
  if t + e < code then some up
  else if code + e < t then some (!up)
  else none

/-- A running feed is given the target that its seek has found: no nearer than its deceleration reaches
(notes/assumptions 23). -/
def State.retarget (s : State) (a : Fin 4) (t : Int) : State :=
  s.onAxis a fun x => { x with move := x.move.map fun m =>
    let d := x.speed * x.speed / (2 * (m.acc : Rat)) * (s.axScale a : Rat) / 65536
    { m with target := max t (x.pos.toInt + d.ceil) } }

/-! ### Threshold loops (R640 to R644) -/

/-- Loop number of the active sensor. -/
def State.mediaLoop (s : State) (h : Fin 4) : Nat := (if s.onMark h then 0x08 else 0x04) + h.val

/-- θ of a sensor is set, and whether it slews. -/
def State.putThreshold (s : State) (h : Fin 4) (mark : Bool) (x : Int) (slew : Bool) : State :=
  s.onMedia h fun m =>
    if mark then { m with markThr := x.toNat, markSlewing := slew } else { m with gapThr := x.toNat, gapSlewing := slew }

/-- The threshold loop of the active sensor updates at a trailing edge, with the mean levels of the label
and of the gap. At low contrast it keeps its output, limited to the bounds in force (R641, R37). -/
def State.thresholdUpdate (s : State) (h : Fin 4) (lab gap : Rat) : State :=
  let mark := s.onMark h
  let m := s.paper.media[h]
  let lo : Int := s.mPar h (if mark then 0xE else 0xC)
  let hi : Int := s.mPar h (if mark then 0xF else 0xD)
  let cur : Int := s.threshold h
  let slewing := if mark then m.markSlewing else m.gapSlewing
  let s1 := s.onMedia h fun m => { m with levLab := (roundHalfUp lab).toNat, levGap := (roundHalfUp gap).toNat }
  let diff : Rat := if lab ≤ gap then gap - lab else lab - gap
  if s.frozen (s.mediaLoop h) then
    (s1.putThreshold h mark (limitTo cur lo hi) slewing).loopHeldFrozen (s.mediaLoop h) lo hi [cur] none none
  else if diff < (s.mPar h 0xB : Rat) then
    ((s1.putThreshold h mark (limitTo cur lo hi) slewing).loopUpdated (s.mediaLoop h) lo hi [(cur, cur)] none none).raise0
      0x67 (byteOf (h.val + (if mark then 16 else 0))) (BitVec.ofInt 16 (roundHalfUp diff))
  else
    let t := roundHalfUp ((lab + gap) / 2)
    let x := if slewing then slewTo cur t 64 else t
    let out := limitTo x lo hi
    (s1.putThreshold h mark out (slewing && out ≠ limitTo t lo hi)).loopUpdated (s.mediaLoop h) lo hi [(cur, x)] none
      none

/-! ### Learning (R645, R648) -/

/-- Mean of a list of distances. -/
def meanOf (l : List Int) : Rat := (l.foldl (· + ·) 0 : Int) / (max 1 l.length : Nat)

/-- Three successive pitches lie within media.pitch_tol of their mean (R645). -/
def State.pitchesAgree (s : State) (h : Fin 4) : Bool :=
  let l := s.paper.media[h].pitches.take 3
  let tol : Rat := (s.mPar h 9 * s.axScale (s.paperAxis h) : Nat) / (655360 : Rat)
  l.length = 3 && l.all fun p =>
    let d := (p : Rat) - meanOf l
    (if d < 0 then -d else d) ≤ tol

/-- The path becomes LEARNED (R645). -/
def State.learnPitch (s : State) (h : Fin 4) : State :=
  let m := s.paper.media[h]
  let a := s.paperAxis h
  if !m.learned ∧ s.pitchesAgree h then
    let p := s.toTenths a (roundHalfUp (meanOf (m.pitches.take 3)))
    (s.onMedia h fun m => { m with
      learned := true, pitch := p.toNat, gapLen := (s.toTenths a (roundHalfUp (meanOf (m.gaps.take 3)))).toNat }).mediaEvent
      h 0x65 0 p
  else s

/-- A learning feed that has found its pitch stops at the next TOF (R648): of a recorded label, else of the one that is
a pitch away. -/
def State.learnStop (s : State) (h : Fin 4) : State :=
  let m := s.paper.media[h]
  if m.learning ∧ m.learned then
    let s1 := s.onMedia h fun m => { m with seek := none }
    match s.nextTof h, m.starts.head? with
    | some t, _ => s1.retarget (s.paperAxis h) t
    | none, some p => s1.retarget (s.paperAxis h) (s.tofOf h (p + s.conv (s.paperAxis h) (m.pitch : Nat)))
    | none, none => s1
  else s

/-! ### Edges (R636, R638, R645, R656, R657, R663) -/

/-- A leading edge at an axis position: recorded, and the cut line of the label that it follows becomes
known. -/
def State.leadingEdge (s : State) (h : Fin 4) (p : Int) : State :=
  let a := s.paperAxis h
  let c := p + s.conv a (s.mPar h 1 : Nat) + s.conv a (s.mInt h 5)
  let s1 := s.onMedia h fun m => { m with leads := (p :: m.leads).take 8 }
  let s2 := if s.paper.media[h].cutWait then s1.onMedia h fun m => { m with cutLine := some c, cutWait := false } else s1
  match s.paper.media[h].seek with
  | some (.tail, _) =>
    ((s2.onMedia h fun m => { m with seek := none }).onRun h fun o => o.map fun r => { r with cutLine := some c }).retarget
      a (c + s.conv a (s.mPar h 2 : Nat))
  | _ => s2

/-- A trailing edge at an axis position: a label start. -/
def State.trailingEdge (s : State) (h : Fin 4) (p : Int) (lab gap : Option Rat) : State :=
  let a := s.paperAxis h
  let m := s.paper.media[h]
  let s1 := s.onMedia h fun m => { m with
    pitches := (match m.starts.head? with
      | some q => ((p - q) :: m.pitches).take 3
      | none => m.pitches)
    gaps := (match m.leads.head? with
      | some q => ((p - q) :: m.gaps).take 3
      | none => m.gaps)
    starts := (p :: m.starts).take 8, predicted := 0 }
  let s2 := match lab, gap with
    | some l, some g => s1.thresholdUpdate h l g
    | _, _ => s1
  let s3 := s2.learnPitch h
  let s4 := s3.learnStop h
  match m.seek with
  | some (.tof, _) =>
    let goal := s.tofOf h p
    let t := match s.pendingCut h with
      | some c => if s.paperPos h < c then min c goal else goal
      | none => goal
    ((s4.onMedia h fun m => { m with seek := none }).onAxis a fun x => { x with uncertain := false }).retarget a t
  | _ => s4

/-- Mean of a sum of codes. -/
def meanCode (sum n : Nat) : Option Rat := if n = 0 then none else some ((sum : Rat) / n)

/-- A sample taken in positive motion lies on a side: it belongs to the confirmed side, or to a run that
confirms the other side at its fourth sample. -/
def State.sideSample (s : State) (h : Fin 4) (side : Bool) (code : Nat) : State :=
  let m := s.paper.media[h]
  let pos := s.paperPos h
  if m.side = some side then
    s.onMedia h fun m =>
      if side then { m with run := none, gapSum := m.gapSum + code, gapCount := m.gapCount + 1 }
      else { m with run := none, labSum := m.labSum + code, labCount := m.labCount + 1 }
  else
    let r := match m.run with
      | some (d, n, p, t) => if d = side then (n + 1, p, t + code) else (1, pos, code)
      | none => (1, pos, code)
    if r.1 < 4 then s.onMedia h fun m => { m with run := some (side, r) }
    else
      let s1 := s.onMedia h fun m =>
        if side then { m with run := none, side := some true, gapSum := r.2.2, gapCount := 4 }
        else { m with run := none, side := some false, labSum := r.2.2, labCount := 4 }
      match m.side with
      | none => s1
      | some _ =>
        if side then s1.leadingEdge h r.2.1
        else s1.trailingEdge h r.2.1 (meanCode m.labSum m.labCount) (meanCode m.gapSum m.gapCount)

/-- MEDIA_SAMPLE (R635 to R645): a sample at rest or in negative motion confirms no edge (R637), and one
inside the hysteresis band breaks a run (R689). -/
def execMediaSample (h : Fin 4) (code : BitVec 12) (s : State) : Answer :=
  let x := s.paper.axis[s.paperAxis h]
  let s1 := s.convMade 1 2 h.val
  .next (if s.headPresent h ∧ s.mediaType h ≠ 0 ∧ s.pwr.islandsRun then
    if !x.inMotion ∨ x.atRest ∨ x.neg then s1.onMedia h fun m => { m with run := none }
    else match s.sampleSide h code.toNat with
      | some side => s1.sideSample h side code.toNat
      | none => s1.onMedia h fun m => { m with run := none }
  else s)

/-- LABEL_START_MISSED (R646): the axis has gone pitch + media.pitch_tol past the last label start. -/
def execLabelStartMissed (h : Fin 4) (s : State) : Answer :=
  let m := s.paper.media[h]
  let a := s.paperAxis h
  .next (match m.learned, m.starts.head? with
  | true, some p =>
    if p + s.conv a (m.pitch + s.mPar h 9 : Nat) ≤ s.paperPos h then
      let fed := s.toTenths a (s.paperPos h - p)
      (s.onMedia h fun m => { m with
        starts := ((p + s.conv a (m.pitch : Nat)) :: m.starts).take 8
        predicted := if m.predicted = 0 then 1 else 0, learned := m.predicted = 0 }).mediaEvent h 0x66 1 fed
    else s
  | _, _ => s)

/-- SEEK_MAX_REACHED (R648, R658, R663): a seek has fed media.seek_max without its edge. -/
def execSeekMaxReached (h : Fin 4) (s : State) : Answer :=
  let a := s.paperAxis h
  .next (match s.paper.media[h].seek with
  | none => s
  | some (k, p) =>
    if s.paperPos h - p < s.conv a (s.mPar h 7 : Nat) then s
    else
      let fed := s.toTenths a (s.paperPos h - p)
      let s1 := s.onMedia h fun m => { m with seek := none }
      match k with
      | .tof => (s1.mediaEvent h 0x66 2 fed).stopJob h .failed 9
      | .tail => ((s1.rampStop a).setPhase h .cut).mediaEvent h 0x66 3 fed
      | .learn => ((s1.rampStop a).onMedia h fun m => { m with learning := false }).mediaEvent h 0x66 2 fed)

/-! ### Paper end and cover (R649 to R654) -/

/-- PAPER_END is set, and the job on the head fails (R650; 05_loam R358). -/
def State.paperEnds (s : State) (h : Fin 4) : State :=
  ((s.onMedia h fun m => { m with paperEnd := true }).mediaState h).stopJob h .failed 7

/-- PAPER_LOW (R649, R650). -/
def execPaperLow (h : Fin 4) (s : State) : Answer :=
  let s1 := s.onMedia h fun m => { m with peLow := true }
  .next (if !s.headPresent h ∨ s.paper.media[h].paperLow then s1
    else
      let s2 := s1.onMedia h fun m => { m with paperLow := true, lowPos := s.paperPos h }
      if s.mPar h 8 = 0 then s2.paperEnds h else s2.mediaState h)

/-- PAPER_END (R650, R688): the axis has moved media.pe_reserve with Hn_PE_N still low. -/
def execPaperEnd (h : Fin 4) (s : State) : Answer :=
  let m := s.paper.media[h]
  .next (if m.paperLow ∧ m.peLow ∧ !m.paperEnd
      ∧ s.conv (s.paperAxis h) (s.mPar h 8 : Nat) ≤ s.paperPos h - m.lowPos then s.paperEnds h
    else s)

/-- PAPER_CLEAR (R652). -/
def execPaperClear (h : Fin 4) (s : State) : Answer :=
  let s1 := s.onMedia h fun m => { m with peLow := false }
  .next (if s.paper.media[h].paperLow then
    let s2 := (s1.onMedia h fun m => { m with paperLow := false, paperEnd := false, cutLine := none, cutWait := false }).onAxis
      (s.paperAxis h) fun x => { x with uncertain := true }
    (s2.mediaForget h).mediaState h
  else s1)

/-- COVER_OPEN (R651, R647, R687). -/
def execCoverOpen (h : Fin 4) (s : State) : Answer :=
  let s1 := s.onMedia h fun m => { m with covLow := true }
  .next (if !s.headPresent h ∨ s.paper.media[h].coverOpen then s1
    else
      let s2 := (s1.onMedia h fun m => { m with coverOpen := true, cutLine := none, cutWait := false }).onAxis
        (s.paperAxis h) fun x => { x with uncertain := true }
      (((s2.mediaForget h).mediaState h).stopJob h .failed 8))

/-- COVER_CLOSE (R652). -/
def execCoverClose (h : Fin 4) (s : State) : Answer :=
  let s1 := s.onMedia h fun m => { m with covLow := false }
  .next (if s.paper.media[h].coverOpen then
    (s1.onMedia h fun m => { m with coverOpen := false }).mediaState h
  else s1)

/-! ### Parameter writes -/

/-- Item-specific state of a media parameter (R648, R668). -/
def State.mediaItemNow (s : State) (h : Fin 4) (off : Nat) (v : Par) : Bool :=
  if off ≤ 5 then s.loam.head[h].running.isNone
  else if off = 0x17 ∧ bit v 0 then
    s.pwr.mode = .service && s.paper.head[h].state = .inService && s.loam.head[h].running.isNone
  else true

/-- Refused values beyond the plain ranges: media.feed_v above axis.v_max, and a lower bound above its upper
bound (01_station_system R56). -/
def State.mediaItemValid (s : State) (h : Fin 4) (off : Nat) (v : Par) : Bool :=
  if off = 6 then v.toNat ≤ s.aPar (s.paperAxis h) 2
  else if off = 0xC then v.toNat ≤ s.mPar h 0xD
  else if off = 0xD then s.mPar h 0xC ≤ v.toNat
  else if off = 0xE then v.toNat ≤ s.mPar h 0xF
  else if off = 0xF then s.mPar h 0xE ≤ v.toNat
  else true

/-- A learning feed starts (R648). -/
def State.startLearn (s : State) (h : Fin 4) : State :=
  let a := s.paperAxis h
  let s1 := s.onMedia h fun m => { m with learning := true }
  match s.paper.media[h].learned, s.nextTof h with
  | true, some t => s1.feedTo h a t (.learn h)
  | _, _ => (s1.onMedia h fun m => { m with seek := some (.learn, s.paperPos h) }).feedTo h a farTarget (.learn h)

/-- A write of media.ctrl. -/
def State.writeMediaCtrl (s : State) (h : Fin 4) (v : Par) : State :=
  let s1 := if bit v 0 then s.startLearn h else s
  if bit v 1 then s1.onMedia h fun m => { m with cutLine := none, cutWait := false } else s1

/-- A threshold loop whose sensor is not active is not held at a bound (R644). -/
def State.freeIdleLoops (s : State) (h : Fin 4) : State :=
  let s1 := if s.mediaType h = 1 then s else s.loopFree (0x04 + h.val)
  if s.mediaType h = 2 then s1 else s1.loopFree (0x08 + h.val)

/-- The effect of a write of a media parameter that has passed its checks. -/
def State.mediaItemWrite (s : State) (h : Fin 4) (off : Nat) (v : Par) : State × BitVec 4 :=
  let idx := 0x2800 + 0x40 * h.val + off
  if off = 0 then (((s.setPar idx none v).mediaForget h).freeIdleLoops h, errOk)
  else if off = 0x17 then (s.writeMediaCtrl h v, errOk)
  else (s.setPar idx none v, errOk)

end Sys2Proof.Machine
end

