-- ==== Sys2Proof/Machine/Lamp.lean ====
section
/-! DEFINITION. The lamp and solenoid channels (11_media_outputs). -/

namespace Sys2Proof.Machine

/-- Periods of the inrush, J (R671). -/
def State.inrushPeriods (s : State) (c : Fin 8) : Nat := max 1 (20 * s.lPar c 4)

/-- Commanded duty of a channel. -/
def Lamp.commanded (l : Lamp) : Nat := l.command.getD 0

/-- Channel in SOLENOID mode. -/
def State.solenoid (s : State) (c : Fin 8) : Bool := (s.lPar c 0).testBit 0

/-- Duty of a channel ON (R678). -/
def State.onDuty (s : State) (c : Fin 8) : Nat :=
  if s.solenoid c then s.lPar c 5 else s.paper.lamp[c].commanded

/-- Duty in period `j` of an inrush (R671, R678). -/
def State.inrushDuty (s : State) (c : Fin 8) (j : Nat) : Nat :=
  if s.solenoid c then 256
  else if s.lPar c 4 = 0 then s.paper.lamp[c].commanded
  else s.paper.lamp[c].commanded * j / s.inrushPeriods c

/-- A channel goes to OFF, from any state (R669). -/
def State.lampOff (s : State) (c : Fin 8) : State :=
  s.onLamp c fun l => { l with state := .off, duty := 0, limiting := false, blanked := false, period := 0 }

/-- LAMP_TRIP and LAMP_OPEN: window 0, and the VIs that have the channel. -/
def State.lampEvent (s : State) (c : Fin 8) (code aux : Byte) (payload : Word) : State :=
  s.raiseBoth (fun s v => s.viEnabled v && bit (s.vi[v].contract[2]) c.val) code aux payload

/-- A channel is latched TRIPPED (R673, R682). -/
def State.lampTrip (s : State) (c : Fin 8) (heavy : Bool) : State :=
  let s1 := s.onLamp c fun l => { l with
    state := .tripped, overload := heavy, duty := 0, trips := l.trips + 1, period := 0 }
  s1.lampEvent c 0x69 (byteOf (c.val + (if heavy then 16 else 0))) (BitVec.setWidth 16 s1.paper.lamp[c].stat)

/-- The channel is in INRUSH or ON. -/
def Lamp.driven (l : Lamp) : Bool := l.state = .inrush || l.state = .on

/-- The oldest waiting channel, the lower among equals (R670). -/
def State.oldestWaiting (s : State) : Option (Fin 8) :=
  (List.finRange 8).foldl (fun (b : Option (Fin 8)) (c : Fin 8) =>
    if s.paper.lamp[c].state ≠ .waiting then b
    else match b with
      | some d => if s.paper.lamp[c].order < s.paper.lamp[d].order then some c else b
      | none => some c) none

/-- LAMP_ADMIT (R670, R671). -/
def execLampAdmit (s : State) : Answer :=
  .next (match s.oldestWaiting with
  | some c =>
    if !((List.finRange 8).any fun (d : Fin 8) => s.paper.lamp[d].state = .tripped)
        ∧ s.budgetUsed + s.lPar c 2 ≤ s.parN 0x2980 ∧ s.parN 0x2980 ≠ 0 then
      s.onLamp c fun l => { l with state := .inrush, period := 0, duty := s.inrushDuty c 0 }
    else s
  | none => s)

/-- PWM_PERIOD (R671, R672, R675): the duty in force moves on, and the blanking of the period before ends. -/
def execPwmPeriod (s : State) : Answer :=
  .next ((List.finRange 8).foldl (fun u c => u.onLamp c fun l =>
    let p := l.period + 1
    { l with
      limiting := l.blanked, blanked := false
      period := if l.state = .inrush then p else l.period
      duty := match l.state with
        | .inrush => u.inrushDuty c (min p (u.inrushPeriods c))
        | .on => u.onDuty c
        | _ => 0 }) s)

/-- INRUSH_COMPLETE (R669, R671): the soft-start or pull-in has run its periods. -/
def execInrushComplete (c : Fin 8) (s : State) : Answer :=
  let l := s.paper.lamp[c]
  .next (if l.state = .inrush ∧ s.inrushPeriods c ≤ l.period then
    s.onLamp c fun l => { l with state := .on, duty := s.onDuty c, period := 0 }
  else s)

/-- LIMIT_TRIP (R672). -/
def execLimitTrip (c : Fin 8) (s : State) : Answer :=
  .next (if s.paper.lamp[c].driven then s.onLamp c fun l => { l with blanked := true } else s)

/-- OVERLOAD (R673): a channel ON has tripped its limit comparator in every period for 10 ms. -/
def execOverload (c : Fin 8) (s : State) : Answer :=
  .next (if s.paper.lamp[c].state = .on then s.lampTrip c true else s)

/-- SHORT_TRIP (R681, R682, R684, R685). -/
def execShortTrip (c : Fin 8) (s : State) : Answer :=
  .next (if s.paper.lamp[c].driven then s.lampTrip c false else s)

/-- LAMP_OPEN (R674): the current of a channel ON has stayed below lamp.i_open for 100 ms. -/
def execLampOpen (c : Fin 8) (s : State) : Answer :=
  let l := s.paper.lamp[c]
  .next (if l.state = .on ∧ l.duty ≠ 0 ∧ l.iMeas < s.lPar c 7 ∧ !l.isOpen then
    (s.onLamp c fun l => { l with isOpen := true }).lampEvent c 0x6A (byteOf c.val)
      (BitVec.ofNat 16 (sat l.iMeas 65535))
  else s)

/-- Current of a code, mA: a direct conversion of 3.000 V full scale, 500 mV being lamp.i_fs
(12_analog_thermal). -/
def State.lampCurrent (s : State) (c : Fin 8) (code : Nat) : Nat :=
  (roundHalfUp ((code * 6 * s.lPar c 3 : Nat) / (4096 : Rat))).toNat

/-- LAMP_CURRENT_SAMPLE (R674; 12_analog_thermal R697): OPEN clears when the current is above lamp.i_open. -/
def execLampCurrentSample (c : Fin 8) (code : BitVec 12) (s : State) : Answer :=
  let i := s.lampCurrent c code.toNat
  .next (if s.paper.lamp[c].driven then
    (s.convMade 0 3 c.val).onLamp c fun l => { l with iMeas := i, isOpen := l.isOpen && !(s.lPar c 7 < i) }
  else s)

/-- An operation of lamp.cmd on one channel (R669, R675, R677). -/
def State.lampOp (s : State) (op : Nat) (duty : Nat) (c : Fin 8) : State :=
  match op with
  | 0 => if s.paper.lamp[c].state = .tripped then s else s.lampOff c
  | 1 => s.requestOn c duty
  | 2 => s.onLamp c fun l => { l with command := some duty }
  | _ => if s.paper.lamp[c].state = .tripped then s.lampOff c else s

/-- A write of lamp.cmd (R677): refused whole when its mask names a channel outside vi.lamps. -/
def State.writeLampCmd (s : State) (v : Fin 8) (x : Par) : State × BitVec 4 :=
  if bits x 0 8 &&& (bits (s.vi[v].contract[2]) 0 8) ≠ bits x 0 8 then (s, errNoAccess)
  else
    ((List.finRange 8).foldl (fun u c => if bit x c.val then u.lampOp (bits x 8 2) (bits x 16 9) c else u)
      (s.onVi v fun y => { y with lampCmd := x }), errOk)

/-- Item-specific state of a lamp parameter (R679). -/
def State.lampItemNow (s : State) (c : Fin 8) (off : Nat) : Bool :=
  4 ≤ off || s.paper.lamp[c].state = .off

/-- Refused values beyond the plain ranges (R679). -/
def State.lampItemValid (s : State) (c : Fin 8) (off : Nat) (v : Par) : Bool :=
  let g (k : Nat) := if k = off then v.toNat else s.lPar c k
  4 ≤ off || (3 * g 1 ≤ g 3 && g 1 ≤ g 2 && 2 * g 2 ≤ 5 * g 1)

/-- The effect of a write of a lamp parameter that has passed its checks (R683). -/
def State.lampItemWrite (s : State) (w : Fin 11) (c : Fin 8) (off : Nat) (v : Par) : State × BitVec 4 :=
  let idx := 0x2900 + 0x10 * c.val + off
  if off = 6 ∧ 18 < v.toNat then ((s.setPar idx none 18).raiseClamp w 0x13 0 c.val, errClamped)
  else (s.setPar idx none v, errOk)

end Sys2Proof.Machine
end

