-- ==== Sys2Proof/Machine/Loam.lean ====
section
/-! DEFINITION. The Loam scheduler: allocation and submission of descriptors, eligibility, the choice of the
next job of a head, purges and capacity (05_loam). Cancels and migration are in Migration.lean. -/

namespace Sys2Proof.Machine

/-- The window of a VI is fully served: the VI is ENABLED (04_tenancy R225, R229) and the main islands run. -/
def State.winServes (s : State) (v : Fin 8) : Bool := s.pwr.islandsRun && s.vi[v].state = .enabled

/-- D[15:0] carries the data of a read (03_host_bus R150). -/
def State.drive (s : State) (x : Word) : State := s.onBus fun b => { b with d := x }

/-- Accesses of a VI's data port held by WAIT_N end: a read returns 0x0000, a write changes nothing (03_host_bus
R212, R221). -/
def State.endHeld (s : State) (v : Fin 8) : State :=
  let s1 := if s.vi[v].data.heldRead then s.drive 0 else s
  s1.onData v fun d => { d with heldWrite := none, heldRead := false }

/-! ### Allocation (R290 to R292) -/

/-- Descriptors that the other counted VIs may still claim under vi.job_min (R291). -/
def State.reservedJobs (s : State) (v : Fin 8) : Nat :=
  (List.finRange 8).foldl (fun n u =>
    if u ≠ v ∧ s.viCounted u then n + ((s.vi[u].contract[3]).toNat - s.heldJobs u) else n) 0

/-- Lowest free handle of a VI. -/
def State.freeHandle (s : State) (v : Fin 8) : Option Handle :=
  (List.finRange 16).find? fun i => (s.loam.jobs[v][i]).state = .free

/-- VW_JOB_ALLOC when nothing can be allocated: OK = 0, code NO_DESC. -/
def noDesc : Word := 0x0010

/-- JOB_ALLOC (R290, R291; 04_tenancy R229): a read of VW_JOB_ALLOC. -/
def execJobAlloc (vi : Fin 8) (s : State) : Answer :=
  .next (if !s.pwr.mgRunning then s
    else if s.pwr.mode = .hold then s.drive 0
    else match s.vi[vi].state with
      | .enabled =>
        match s.freeHandle vi with
        | some i =>
          if s.reservedJobs vi < s.freeJobs then
            (s.onJob ⟨vi, i⟩ fun _ => { state := .filled }).drive (0x8000 ||| BitVec.ofNat 16 i.val)
          else s.drive noDesc
        | none => s.drive noDesc
      | .resetting => s.drive 0
      | _ => s.drive noDesc)

/-! ### Durations (R302; 11_media_outputs, "Job phases on a paper path") -/

/-- Square root of a fraction to 10^-9, rounded down (notes/assumptions 45). -/
def sqrtNano (x : Rat) : Rat := (isqrt (x * 1000000000000000000).floor.toNat : Nat) / (1000000000 : Rat)

/-- t_f(d, x) in s: `d` in 0.1 mm, `v` in mm/s, `a` in mm/s². -/
def feedTime (d v a : Nat) : Rat :=
  let mm : Rat := (d : Rat) / 10
  if (v : Rat) * v / a ≤ mm then mm / v + (v : Rat) / a else 2 * sqrtNano (mm / a)

/-- t_cut in s. -/
def State.cutTime (s : State) : Rat := ((s.cutPar 3 + s.cutPar 5 : Nat) : Rat) / 1000

/-- L_tof, 0.1 mm. -/
def State.tofLength (s : State) (h : Fin 4) : Nat :=
  if s.paper.media[h].learned ∧ !s.paper.axis[s.paperAxis h].uncertain then s.paper.media[h].pitch else s.mPar h 7

/-- t_end in s, for an end action. -/
def State.endTime (s : State) (h : Fin 4) (act : Nat) : Rat :=
  let v := s.mPar h 6
  let acc := s.aPar (s.paperAxis h) 3
  let tof : Rat := if s.tofOn h then
    feedTime (s.tofLength h) v acc + (if s.hasCutter h then s.cutTime else 0) else 0
  let tail : Rat := if act = 0 then 0 else
    let d := (((s.mPar h 2 : Nat) : Int) + s.mInt h 5).toNat + (if s.mediaType h = 0 then 0 else s.tofLength h)
    feedTime d v acc + s.cutTime
  let pres : Rat := if act = 2 then feedTime (s.mPar h 3) v (s.aPar (s.presentAxis h) 3) else 0
  tof + tail + pres

/-- Axis of a FEED or PRESENT job. -/
def State.jobAxis (s : State) (j : Job) : Fin 4 := if j.kind = 4 then s.presentAxis j.head else s.paperAxis j.head

/-- E of a job, s (R302). -/
def State.jobE (s : State) (j : Job) : Rat :=
  if j.prints then (j.lines : Rat) / (max 1 j.rate : Nat) + s.endTime j.head j.endAction
  else if j.kind = 3 then s.cutTime
  else if j.isFence then 0
  else feedTime j.distance (max 1 j.speed) (s.aPar (s.jobAxis j) 3) + 1 / 1000

/-! ### Submission (R296 to R305) -/

/-- Dots that a submission check uses (R305). -/
def State.checkDots (s : State) (h : Fin 4) : Nat := if s.fitted h then s.dots h else 2048

/-- A legal field lies outside its limits, the head's dots or the job's lines (13_kaolin_island R771). -/
def Job.badField (j : Job) (dots : Nat) : Bool :=
  j.fieldWidth < 192 || 1024 < j.fieldWidth || j.fieldHeight < 80 || 256 < j.fieldHeight
    || dots < j.fieldDot + j.fieldWidth || j.lines < j.fieldLine + j.fieldHeight

/-- BAD_DESC. -/
def State.badDesc (s : State) (j : Job) : Bool :=
  if j.prints then
    j.endAction = 3 || (j.isLegal && j.endAction = 0) || j.lines = 0 || j.bpl = 0 || 256 < j.bpl
      || s.checkDots j.head < 8 * j.bpl || j.rate = 0 || 4800 < j.rate
      || (j.isLegal && j.badField (s.checkDots j.head))
  else if j.kind = 2 ∨ j.kind = 4 then
    j.distance = 0 || j.speed = 0 || s.aPar (s.jobAxis j) 2 < j.speed
  else j.kind ≠ 3 && j.kind ≠ 6

/-- Heads that a job names: the mask of a FENCE (notes/assumptions 46), else its head. -/
def Job.names (j : Job) (h : Fin 4) : Bool := if j.isFence then j.masks h else j.head = h

/-- Submissions are taken in this mode (02_power_clocks_modes R84, R85). -/
def State.submits (s : State) : Bool :=
  s.pwr.mode.running && !s.pwr.drain && !s.pwr.stageBegun

/-- Codes of the submission refusals (05_loam), in the order of their checks: 0 is ACCEPTED. -/
def State.submitCheck (s : State) (v : Fin 8) (i : Handle) : Byte :=
  let j := s.loam.jobs[v][i]
  let q := s.vi[v].contract
  if !s.submits then 0x05
  else if j.state ≠ .filled then 0x06
  else if (List.finRange 4).any fun h => j.names h && !s.headPresent h then 0x02
  else if s.badDesc j then 0x07
  else if (List.finRange 4).any fun h => j.names h && !bit q[1] h.val then 0x03
  else if j.isLegal ∧ s.legalHolder ≠ some v then 0x04
  else if j.kind = 2 ∧ j.isReverse ∧ !s.reversible (s.paperAxis j.head) then 0x08
  else if (List.finRange 4).any fun h => j.names h && q[8 + h.val] = 0 && q[16 + h.val] = 0 then 0x09
  else if (s.parN (0x410 + j.head.val) : Rat) / 1000 < s.jobE j then 0x0A
  else if (q[4]).toNat ≤ s.residentJobs v then 0x01
  else 0x00

/-! ### Eligibility (05_loam, "Sharing a head") -/

/-- A VI has READY work on a head. -/
def State.backlogged (s : State) (v : Fin 8) (h : Fin 4) : Bool :=
  (s.headJobs v h).any fun e => e.2.state = .ready

/-- The front job of a VI on a head: its oldest READY one. -/
def State.frontJob (s : State) (v : Fin 8) (h : Fin 4) : Option (Handle × Job) :=
  (s.headJobs v h).find? fun e => e.2.state = .ready

/-- A fence that is not DONE blocks the job (R322). -/
def State.fenced (s : State) (v : Fin 8) (h : Fin 4) (j : Job) : Bool :=
  (s.viJobs v).any fun e => e.2.state = .ready && e.2.isFence && e.2.masks h && e.2.order < j.order

/-- The chain of a job has begun, or every job of it is READY: it has had its job with CONT = 0 and has lost none
(R318, R319). -/
def State.chainComplete (s : State) (v : Fin 8) (h : Fin 4) (j : Job) : Bool :=
  match j.chain with
  | none => true
  | some c => s.loam.head[h].chain = some (v, c)
      || (s.vi[v].openChain[h] ≠ some c && !j.broken && (s.chainJobs v c).all fun e => e.2.state = .ready)

/-- An axis is able to move (10_motion R574). -/
def State.axisReady (s : State) (a : Fin 4) : Bool :=
  match s.paper.axis[a].state with
  | .off | .fault => false
  | _ => !(a = 3 && s.cutterMode)

/-- What a job uses on its path is ready (10_motion R574; notes/assumptions 24). -/
def State.pathReady (s : State) (j : Job) : Bool :=
  let h := j.head
  let cutter := s.hasCutter h && s.cutterMode && s.paper.cutter.state = .home
  if j.kind = 3 then cutter
  else if j.kind = 4 then s.axisReady (s.presentAxis h)
  else s.axisReady (s.paperAxis h)
    && (!(j.prints && j.endAction ≠ 0) || cutter)
    && (!(j.prints && j.endAction = 2) || s.axisReady (s.presentAxis h))

/-- A front job is eligible, c_g apart. -/
def State.eligible (s : State) (v : Fin 8) (h : Fin 4) (j : Job) : Bool :=
  !s.fenced v h j && s.chainComplete v h j && s.paper.head[h].state = .inService
    && 0 ≤ s.vi[v].creditM[h]

/-- Eligibility times follow the conditions (05_loam, "Sharing a head"): that of a front job is the instant
at which it last became eligible with c_g at or above 0, but not before the instant that an answer of the
island has set (R316). -/
def State.refreshEligible (s : State) : State :=
  let s0 := s.accrue
  (List.finRange 4).foldl (fun u (h : Fin 4) => (List.finRange 8).foldl (fun u (v : Fin 8) =>
    match u.frontJob v h with
    | none => u
    | some e =>
      let ok := u.eligible v h e.2 && 0 ≤ u.vi[v].creditG[h]
      u.onJob ⟨v, e.1⟩ fun y => { y with
        wasEligible := ok
        eligibleAt := if ok ∧ !y.wasEligible then max y.notBefore u.now else y.eligibleAt }) u) s0

/-- s of a VI that becomes backlogged rises to the smallest s among the VIs backlogged already. -/
def State.joinBacklog (s : State) (v : Fin 8) (h : Fin 4) : State :=
  if s.backlogged v h then s
  else
    let m := (List.finRange 8).foldl (fun (b : Option Nat) (u : Fin 8) =>
      if u ≠ v ∧ s.backlogged u h then
        some (match b with
          | some x => min x s.vi[u].surplus[h]
          | none => s.vi[u].surplus[h])
      else b) none
    match m with
    | some x => s.onVi v fun y => { y with surplus := y.surplus.set h (max y.surplus[h] x) }
    | none => s

/-- An accepted submission (R304, R309, R321). -/
def State.acceptJob (s : State) (v : Fin 8) (i : Handle) : State :=
  let j := s.loam.jobs[v][i]
  let s0 := if j.isFence then s else s.joinBacklog v j.head
  let s1 := (s0.onJob ⟨v, i⟩ fun y => { y with
      state := .ready, order := s.loam.nextOrder, readyAt := s.now, notBefore := 0, eligibleAt := s.now
      wasEligible := false }).onLoam fun l => { l with nextOrder := l.nextOrder + 1 }
  let s2 := (s1.joinChain ⟨v, i⟩ s.loam.nextOrder).onVi v fun y => { y with accepted := y.accepted + 1 }
  if j.isLegal ∧ !j.legend ∧ s.part = .tl4816n then s2.endJob ⟨v, i⟩ .failed 4 0
  else if j.isFence then s2.fencesDone v
  else s2.refreshEligible

/-- A write of VW_JOB_SUBMIT (R296 to R300). -/
def State.submitJob (s : State) (v : Fin 8) (x : Word) : State :=
  if !s.winServes v then s
  else
    let i : Handle := ⟨x.toNat % 16, by omega⟩
    let c := s.submitCheck v i
    let s1 := s.onVi v fun y => { y with submitResult := some (c, BitVec.ofNat 4 i.val) }
    if c = 0 then s1.acceptJob v i
    else
      s1.onVi v fun y => { y with
        refused := y.refused + 1
        queueFull := if c = 1 then some (s.loam.jobs[v][i]).head else y.queueFull }

/-! ### Dispatch (R306, R310 to R322) -/

/-- Loam dispatches jobs now (02_power_clocks_modes R84). -/
def State.dispatches (s : State) : Bool := s.submits

/-- The READY job of a VI that is next on a head: of the chain in progress there, if one is, else its front job
(R319). -/
def State.nextJob (s : State) (v : Fin 8) (h : Fin 4) : Option (Handle × Job) :=
  match s.loam.head[h].chain with
  | none => s.frontJob v h
  | some (u, c) => if u = v then (s.headJobs v h).find? fun e => e.2.state = .ready && e.2.chain = some c else none

/-- A job that is due may be dispatched on its head now: the head is in service with no disable pending, its path
ready, the paper present and the cover closed (08_head_ports R499, R500; 10_motion R574; 11_media_outputs R649,
R651). -/
def State.pathTakes (s : State) (h : Fin 4) (j : Job) : Bool :=
  let m := s.paper.media[h]
  s.paper.head[h].state = .inService && !s.paper.head[h].disablePending && s.pathReady j
    && !m.paperLow && !m.paperEnd && !m.coverOpen

/-- The next job of a VI may be selected for a head: eligible, not held back by an answer of the island (R316), and the
path takes it. -/
def State.candidate (s : State) (v : Fin 8) (h : Fin 4) : Option (Handle × Job) :=
  match s.nextJob v h with
  | none => none
  | some e =>
    if s.vi[v].state = .enabled ∧ s.eligible v h e.2 ∧ e.2.notBefore ≤ s.now ∧ s.pathTakes h e.2 then some e else none

/-- The better of two choices, by a measure; the earlier VI wins ties. -/
def betterOf (m : JobRef → Nat) (b : Option JobRef) (j : JobRef) : Option JobRef :=
  match b with
  | some c => if m j < m c then some j else b
  | none => some j

/-- The job that Loam selects for a head, and whether in the surplus class (05_loam, "Sharing a head"). -/
def State.selectJob (s : State) (h : Fin 4) : Option (JobRef × Bool) :=
  let all : List JobRef := (List.finRange 8).filterMap fun v => (s.candidate v h).map fun e => ⟨v, e.1⟩
  let g := all.filter fun (j : JobRef) => decide (0 ≤ s.vi[j.vi].creditG[h])
  let w := all.filter fun (j : JobRef) => s.loam.head[h].chain.isSome ∨ s.vi[j.vi].contract[16 + h.val] ≠ 0
  match g.foldl (betterOf fun j => (s.job j).eligibleAt) none with
  | some j => some (j, false)
  | none => (w.foldl (betterOf fun j => s.vi[j.vi].surplus[h]) none).map fun j => (j, true)

/-- A job started on a path with nothing done yet. -/
def newRun (j : JobRef) (p : Phase) (start : Int) (record : Option (BitVec 32)) : Run :=
  { job := j, phase := p, line := 0, fetchNext := 0, fetched := [], hold := none, paused := false, origin := none
    startPos := start, cutLine := none, record := record, cutAt := 0, resend := false, burnt := 0 }

/-- A job is dispatched and its path begins (R312, R314; 08_head_ports R487; 11_media_outputs R655). -/
def State.startJob (s : State) (j : JobRef) (surplus : Bool) (record : Option (BitVec 32)) : State :=
  let x := s.job j
  let h := x.head
  let s1 := (s.dispatchJob j surplus).handOver h
  let a := s.jobAxis x
  let ax := s.paper.axis[a]
  if x.prints then
    let s2 := s1.onRun h fun _ => some (newRun j (if s.tofOn h then .tof else .print) ax.pos.toInt record)
    let s3 := if s.tofOn h then s2.beginTof h else s2
    s3.refreshHead h
  else if x.kind = 3 then s1.onRun h fun _ => some (newRun j .cut 0 none)
  else
    let s2 := s1.onRun h fun _ => some (newRun j .motion ax.pos.toInt none)
    let d := s.conv a (x.distance : Nat)
    s2.requestMove a { target := ax.pos.toInt, dist := some (if x.kind = 2 ∧ x.isReverse then - d else d)
                       speed := (x.speed : Rat), acc := s.aPar a 3, owner := .job h, lineLocked := false }

/-- Font of a legal field: the largest that its width and height hold (13_kaolin_island, "The legal
field"). -/
def fieldFont (w h : Nat) : Nat × Nat :=
  if 384 ≤ w ∧ 160 ≤ h then (24, 32) else if 288 ≤ w ∧ 120 ≤ h then (18, 24) else (12, 16)

/-- The legend field that the main side renders (13_kaolin_island R772). -/
def legendField (j : Job) : LegalField :=
  { text := ["", "NOT FOR TRADE", "", "", ""], font := fieldFont j.fieldWidth j.fieldHeight, legend := true }

/-- An answer of class retry or final, or UNAVAILABLE, to the issue of a selected LEGAL_LABEL job (R316,
R317; 13_kaolin_island R766 to R768, R772). With LEGEND the job prints, if its head and path take it now. -/
def State.issueAnswer (s : State) (j : JobRef) (rsp : Byte) (surplus : Bool) : State :=
  let x := s.job j
  let later := s.onJob j fun y => { y with notBefore := s.now + 20000, eligibleAt := s.now + 20000, wasEligible := true }
  if rspRetry rsp then later
  else if rsp = rspUnavailable then
    if !x.legend then s.endJob j .failed 4 0
    else if s.dispatches ∧ s.pathTakes x.head x then
      (s.onHead x.head fun y => { y with field := some (legendField x) }).startJob j surplus none
    else later
  else s.endJob j .failed 0xB 0

/-- The handle is armed as a duplicate (14_weighing R835). -/
def State.dupArm (s : State) (j : JobRef) : Bool := s.vi[j.vi].dupArmed && s.vi[j.vi].dupHandle = j.handle

/-- Argument of READ_WEIGHT with ISSUE for a job (14_weighing "Records"): [0] ISSUE, [1] DUP, and the
sequence of the record to be duplicated. -/
def State.issueArg (s : State) (j : JobRef) : Par :=
  if s.dupArm j then 3 ||| (BitVec.setWidth 32 s.vi[j.vi].dupSeq <<< 8) else 1

/-- A LEGAL_LABEL job that is DISPATCHED or ACTIVE carries the record of which these are the low 24 bits
(14_weighing R834). -/
def State.recordInUse (s : State) (seq : BitVec 24) : Bool :=
  (List.finRange 4).any fun (h : Fin 4) => match s.paper.run[h] with
    | some r => r.record.any fun n => BitVec.setWidth 24 n = seq
    | none => false

/-- READ_WEIGHT with ISSUE is sent for a job, or answered by the main side (R315; 14_weighing R834): WAIT until the
epochs have been compared since the wake (02_power_clocks_modes R103). -/
def State.sendIssue (s : State) (j : JobRef) : State × Option Byte :=
  if (s.legalGate 4).isNone ∧ s.legal.epochStat = 0 then (s, some rspWait)
  else if s.dupArm j ∧ s.recordInUse s.vi[j.vi].dupSeq then
    (s.onLegal fun l => { l with busy := l.busy + 1 }, some rspBusy)
  else
    s.sendLegal { source := .loam (s.job j).head, code := 4, tag := 0, arg := s.issueArg j, orphan := false }

/-- A LEGAL_LABEL job is selected: READ_WEIGHT with ISSUE is sent and the head reserved (R315, R316), or the
main side answers. -/
def State.issueJob (s : State) (j : JobRef) (surplus : Bool) : State :=
  let x := s.job j
  let p := s.sendIssue j
  match p.2 with
  | none => (p.1.onLoamHead x.head fun l => { l with reserved := some j }).onJob j fun y => { y with surplusClass := surplus }
  | some r => p.1.issueAnswer j r surplus

/-- The bytes per line or the legal field do not fit the head as it now is (R306). -/
def State.misfits (s : State) (j : Job) : Bool :=
  j.prints && (s.dots j.head < 8 * j.bpl || (j.isLegal && s.dots j.head < j.fieldDot + j.fieldWidth))

/-! ### Purges (04_tenancy R280, R281; 11_media_outputs R661) -/

/-- Feed of a purge, microsteps. -/
def State.purgeDistance (s : State) (h : Fin 4) (p : Purge) : Int :=
  let a := s.paperAxis h
  min (max 0 (p.endAt + s.conv a (s.mPar h 2 : Nat) - s.paper.axis[a].pos.toInt)) p.length

/-- The purge of a head begins: no motion for an empty page. -/
def State.startPurge (s : State) (h : Fin 4) (p : Purge) : State :=
  let a := s.paperAxis h
  let cur := s.paper.axis[a].pos.toInt
  let s1 := s.onLoamHead h fun l => { l with purging := true, purgeCut := p.empty, purgeFrom := cur }
  if p.empty then s1
  else
    let d := s.purgeDistance h p
    if d = 0 then s1 else s1.feedTo h a (cur + d) (.purge h)

/-- HEAD_PURGED (04_tenancy R280; 11_media_outputs R661): the feed has ended, and the cut where the path
has a cutter. -/
def execHeadPurged (h : Fin 4) (s : State) : Answer :=
  let l := s.loam.head[h]
  let a := s.paperAxis h
  let x := s.paper.axis[a]
  .next (match l.purge with
  | none => s
  | some p =>
    let still : Bool := match x.move with
      | some m => m.owner ≠ .purge h
      | none => true
    if l.purging ∧ still ∧ x.atRest ∧ (l.purgeCut ∨ !s.hasCutter h) then
      (s.onLoamHead h fun l => { l with purge := none, purging := false, purgeCut := false }).raise0 0x07
        (byteOf h.val)
        (if p.empty then 0 else BitVec.ofNat 16 (sat (s.toTenths a (x.pos.toInt - l.purgeFrom)).toNat 65535))
    else s)

/-- JOB_SELECT (R306, R310 to R319): the head is idle and Loam selects its next job. A purge-pending head is
purged before (04_tenancy R280). -/
def execJobSelect (h : Fin 4) (s : State) : Answer :=
  let s0 := s.refreshEligible
  let l := s0.loam.head[h]
  .next (if !s0.dispatches ∨ l.running.isSome ∨ l.reserved.isSome ∨ l.purging ∨ s0.paper.run[h].isSome then s0
    else match s0.selectJob h with
      | none => s0
      | some (j, surplus) => match l.purge with
        | some p =>
          let x := s0.paper.axis[s0.paperAxis h]
          if x.state = .idle ∧ x.queued = none then s0.startPurge h p else s0
        | none =>
          if s0.misfits (s0.job j) then s0.endJob j .failed 6 0
          else if (s0.job j).isLegal then s0.issueJob j surplus
          else s0.startJob j surplus none)

/-! ### Capacity (R328 to R332) -/

/-- R_nom. -/
def State.rNom (s : State) : Nat := if s.pwr.clkFallback then 4516 else 4800

/-- C_h as estimated over the milliseconds in which the head printed. -/
def State.capTarget (s : State) (h : Fin 4) : Int :=
  let w := s.parN (0x414 + h.val)
  let l := s.loam.head[h].history
  match l with
  | [] => s.rNom
  | x :: _ =>
    if x.ms + w < s.now / 1000 then s.rNom
    else
      let t := l.take w
      let pause := t.foldl (fun (n : Rat) (x : CapSample) => n + x.pauseTime) 0
      let line := t.foldl (fun (n : Rat) (x : CapSample) => n + x.lineTime) 0
      let lines := t.foldl (fun (n : Nat) (x : CapSample) => n + x.lines) 0
      if pause = 0 then s.rNom else min (s.rNom : Int) ((lines : Rat) / (line + pause)).floor

/-- The capacity loop of one head (R328 to R331). A head out of service has capacity 0 even while its loop is frozen,
which then holds 0 as its last output (notes/assumptions 148). -/
def State.capLoop (s : State) (h : Fin 4) : State :=
  let k := 0x0C + h.val
  let cur : Int := s.loam.head[h].cap
  let lo : Int := s.parN (0x408 + h.val)
  let hi : Int := s.parN (0x40C + h.val)
  if s.paper.head[h].state ≠ .inService then
    (s.onLoamHead h fun l => { l with cap := 0 }).loopFree k
  else if s.frozen k then
    (s.onLoamHead h fun l => { l with cap := (limitTo cur lo hi).toNat }).loopHeldFrozen k lo hi [cur] none none
  else
    let x := slewTo cur (s.capTarget h) (s.rNom / 10 : Nat)
    (s.onLoamHead h fun l => { l with cap := (limitTo x lo hi).toNat }).loopUpdated k lo hi [(cur, x)] none none

/-- CAP_CHANGE (R332). -/
def State.capNotify (s : State) (h : Fin 4) : State :=
  let l := s.loam.head[h]
  let d := if l.cap ≤ l.capNotified then l.capNotified - l.cap else l.cap - l.capNotified
  if d ≠ 0 ∧ s.parN 0x41B * l.capNotified ≤ 100 * d then
    (s.onLoamHead h fun l => { l with capNotified := l.cap }).raiseBoth (hasHead h) 0x26 (byteOf h.val)
      (BitVec.ofNat 16 l.cap)
  else s

/-- CAPACITY_UPDATE (R328): every 10 ms. -/
def execCapacityUpdate (s : State) : Answer :=
  .next (if s.pwr.islandsRun then
    (List.finRange 4).foldl (fun u (h : Fin 4) => if u.headPresent h then (u.capLoop h).capNotify h else u)
      s.refreshEligible
  else s)

/-! ### Registers and parameters -/

/-- VW_JOB_STAT. -/
def State.jobStat (s : State) (v : Fin 8) : Word :=
  let i := s.vi[v].statHandle
  let j := s.loam.jobs[v][i]
  BitVec.ofNat 16 (i.val + 16 * j.state.code + (if j.remote.isSome then 128 else 0) + 256 * j.result
    + 4096 * (bits j.word[0] 4 2))

/-- VW_CAP_HEAD and HV_CAP_HEAD; 0 lines/s for an absent head (08_head_ports R505). -/
def State.capHead (s : State) (w : Fin 9) : Word :=
  let h := s.bus.evq[w].capHead
  let c := if s.headPresent h then s.loam.head[h].cap % 8192 else 0
  BitVec.ofNat 16 (c + (if s.frozen (0x0C + h.val) then 8192 else 0) + 16384 * h.val)

/-- VW_JOB_SUBMIT as read. -/
def Vi.submitWord (x : Vi) : Word :=
  match x.submitResult with
  | some (c, i) => 0x8000 ||| BitVec.setWidth 16 c ||| (BitVec.setWidth 16 i <<< 8)
  | none => 0

/-- Item-specific state of a descriptor word (R293). -/
def State.jobItemNow (s : State) (v : Fin 8) (off : Nat) (window0 : Bool) : Bool :=
  let j := s.loam.jobs[v][(⟨off / 8 % 16, by omega⟩ : Handle)]
  !window0 && (off % 8 ≠ 7 && j.state = .filled || off % 8 = 0 && j.state.terminal)

/-- A write of a descriptor word (R293, R294). -/
def State.jobItemWrite (s : State) (v : Fin 8) (off : Nat) (x : Par) : State :=
  let r : JobRef := ⟨v, ⟨off / 8 % 16, by omega⟩⟩
  if (s.job r).state.terminal then
    s.onJob r fun _ => { state := .filled, word := (Vector.replicate 8 0).set 0 x }
  else s.onJob r fun j => { j with word := j.word.set (off % 8) x (by omega) }

end Sys2Proof.Machine
end

