-- ==== Sys2Proof/Machine/Link.lean ====
section
/-! DEFINITION. The Ryine link: frames, errors and bus-off, device-time synchronisation, capacity
advertisement, remote events and peers (17_ryine). Migration is in Migration.lean. -/

namespace Sys2Proof.Machine

/-! ### Settings -/

/-- ryine.cfg. -/
def State.ryCfg (s : State) : Par := s.parG 0x3600
/-- ryine.cfg.EN. -/
def State.ryEn (s : State) : Bool := bit s.ryCfg 0
/-- ryine.cfg.AUTO_RECOVER. -/
def State.autoRecover (s : State) : Bool := bit s.ryCfg 3
/-- ryine.cfg.ACCEPT. -/
def State.ryAccepts (s : State) : Bool := bit s.ryCfg 4
/-- The time role: 0 none, 1 master, 2 follower. -/
def State.timeRole (s : State) : Nat := bits s.ryCfg 5 2

/-- The link is ACTIVE or PASSIVE. -/
def Link.live (l : Link) : Bool := l.state = .active || l.state = .passive

/-- Codes of ryine.stat. -/
def LinkState.code : LinkState → Nat
  | .off => 0
  | .active => 1
  | .passive => 2
  | .busOff => 3

/-! ### Link states (17_ryine, "Errors and bus-off") -/

/-- The link changes state and LINK_STATE is raised (R939). A frame in progress waits again when the link
stops (notes/assumptions 52). -/
def State.setLink (s : State) (st : LinkState) (cause : Nat) : State :=
  if s.link.state = st then s
  else
    (s.onLink fun l =>
      let stops := st = .off ∨ st = .busOff
      { l with
        state := st
        recovering := false
        queue := match l.sending with
          | some f => if stops then f :: l.queue else l.queue
          | none => l.queue
        sending := if stops then none else l.sending }).raise0 0xB0
          (byteOf (st.code + 16 * cause)) (BitVec.ofNat 16 s.link.tecCount)

/-- The state follows the counters (R939). -/
def State.settleLink (s : State) : State :=
  if !s.link.live then s
  else if 256 ≤ s.link.tecCount then s.setLink .busOff 3
  else if 128 ≤ s.link.tecCount ∨ 128 ≤ s.link.recCount then s.setLink .passive 2
  else s.setLink .active 4

/-- RECEIVE_ERROR (R939): a stuff, CRC or form error while receiving. -/
def execReceiveError (kind : Fin 3) (s : State) : Answer :=
  .next (if s.link.live then
    (s.onLink fun l => { l with
      recCount := sat (l.recCount + 1) 511
      errStuff := if kind = 0 then satInc l.errStuff else l.errStuff
      errCrc := if kind = 1 then satInc l.errCrc else l.errCrc
      errForm := if kind = 2 then satInc l.errForm else l.errForm }).settleLink
  else s)

/-- BUS_OFF_RECOVERY (R940): 128 runs of 11 recessive bits have been seen. -/
def execBusOffRecovery (s : State) : Answer :=
  .next (if s.link.state = .busOff ∧ (s.autoRecover ∨ s.link.recovering) then
    (s.onLink fun l => { l with tecCount := 0, recCount := 0 }).setLink .active 4
  else s)

/-- A write of ryine.ctrl: RECOVER starts the count (R940). -/
def State.writeRyCtrl (s : State) (v : Par) : State :=
  if bit v 0 ∧ s.link.state = .busOff then s.onLink fun l => { l with recovering := true } else s

/-! ### Peers (R947, R958) -/

/-- Jobs at peers. -/
def State.remoteJobs (s : State) : List (JobRef × Migration) :=
  (List.finRange 8).flatMap fun (v : Fin 8) => (List.finRange 16).filterMap fun (i : Handle) =>
    (s.loam.jobs[v][i]).remote.map fun m => (⟨v, i⟩, m)

/-- A job comes back from a peer (05_loam R348). -/
def State.jobBack (s : State) (j : JobRef) : State :=
  ((s.joinBacklog j.vi (s.job j).head).returnJob j).onJob j fun y => { y with wasEligible := false }

/-- E of a job in µs, as it is charged (05_loam R302; notes/assumptions 45). -/
def State.jobMicros (s : State) (j : JobRef) : Nat := (roundHalfUp (s.jobE (s.job j) * 1000000)).toNat

/-- The job is charged its E (05_loam R352; R958, R960). -/
def State.chargeE (s : State) (j : JobRef) : State :=
  s.charge j.vi (s.job j).head (s.jobMicros j) true

/-- A peer ceases to be present while it holds a job (R958). A job whose cancel awaits an answer keeps
waiting for it (R960). -/
def State.peerGone (s : State) (j : JobRef) (m : Migration) : State :=
  if m.revoking then s
  else if m.started then (s.chargeE j).endJob j .failed 0xA 0
  else s.jobBack j

/-- A peer ceases to be present (R947, R958): its advertisement is cleared. -/
def State.losePeer (s : State) (n : Fin 16) : State :=
  if !s.link.peer[n].present then s
  else
    let s1 := (s.onLink fun l => { l with
      peer := vmod l.peer n fun p => { p with
        present := false, capAt := none, cap := Vector.replicate 4 0, flags := 0, slotsFree := 0 } }).raise0
      0xB2 (byteOf n.val) 0
    (s1.remoteJobs.filter fun e => e.2.peer = n).foldl (fun u e => u.peerGone e.1 e.2) s1

/-- PEER_TIMEOUT (R947). -/
def execPeerTimeout (n : Fin 16) (s : State) : Answer := .next (s.losePeer n).refreshEligible

/-- Entry to RC fallback: the link is OFF, and every peer is lost (R927). -/
def State.linkFallback (s : State) : State :=
  ((List.finRange 16).foldl (fun u (n : Fin 16) => u.losePeer n) (s.setLink .off 5)).refreshEligible

/-! ### Taking a frame (17_ryine, "Arbitration and delivery") -/

/-- The node acknowledges and takes a frame: it is broadcast or addressed to it (R936). -/
def Link.addressed (l : Link) (dst : BitVec 5) : Bool := dst = 31 || dst = BitVec.ofNat 5 l.nid.val

/-- A frame is taken: whether its content is to be handled, and the state (R936, R938, R939, R947). A frame
with the SRC and SEQ of the last one from that node is discarded. -/
def State.takeRyine (s : State) (src : Fin 16) (seq : BitVec 4) (dst : BitVec 5) : Bool × State :=
  if !s.link.live ∨ !s.link.addressed dst then (false, s)
  else if src = s.link.nid then (false, (s.onLink fun l => { l with conflict := true }).setLink .off 6)
  else if s.link.peer[src].lastSeq = some seq then (false, s)
  else
    let s1 := (s.onLink fun l => { l with
      framesTaken := l.framesTaken + 1
      recCount := l.recCount - 1
      peer := vmod l.peer src fun p => { p with present := true, seenAt := some s.now, lastSeq := some seq } }).settleLink
    (true, if s.link.peer[src].present then s1 else s1.raise0 0xB2 (byteOf src.val) 1)

/-- RESERVED_FRAME (R929). -/
def execReservedFrame (src : Fin 16) (seq : BitVec 4) (dst : BitVec 5) (s : State) : Answer :=
  .next (s.takeRyine src seq dst).2

/-- EVT (R950): LINK_EVENT. A payload of another length is discarded (notes/assumptions 53). -/
def execEvt (src : Fin 16) (seq : BitVec 4) (dst : BitVec 5) (payload : List Byte) (s : State) : Answer :=
  let t := s.takeRyine src seq dst
  let x := natBE payload
  .next (if t.1 ∧ payload.length = 3 then
    t.2.raise0 0xB1 (byteOf (src.val + 16 * (x / 1048576 % 16))) (BitVec.ofNat 16 x)
  else t.2)

/-- CAP (R945, R947). -/
def execCap (src : Fin 16) (seq : BitVec 4) (dst : BitVec 5) (payload : List Byte) (s : State) : Answer :=
  let t := s.takeRyine src seq dst
  .next (if t.1 ∧ payload.length = 18 then
    t.2.onLink fun l => { l with
      peer := vmod l.peer src fun p => { p with
        capAt := some s.now
        cap := Vector.ofFn fun (h : Fin 4) => BitVec.ofNat 32 (natBE ((payload.drop (4 * h.val)).take 4))
        flags := (payload[16]?).getD 0
        slotsFree := (payload[17]?).getD 0 } }
  else t.2)

/-! ### Time synchronisation (R941 to R944) -/

/-- A step of device time in signed ms: nearest, halves away from zero, limited (R942). -/
def stepMs (us : Int) : Word :=
  let a := (us.natAbs + 500) / 1000
  let x : Int := if us < 0 then -(a : Int) else a
  BitVec.ofInt 16 (limitTo x (-32768) 32767)

/-- off in 1/256 µs to the nearest µs, halves away from zero. -/
def offMicros (off : Int) : Int :=
  let a := (off.natAbs + 128) / 256
  if off < 0 then -(a : Int) else a

/-- A signed number limited to 32 bits. -/
def satInt32 (x : Int) : Int := limitTo x (-2147483648) 2147483647

/-- The lowest-numbered master heard within the last three sync periods (R941). -/
def State.masterHeard (s : State) : Option (Fin 16) :=
  (List.finRange 16).find? fun (n : Fin 16) => match (s.link.peer[n]).syncAt with
    | some t => s.now ≤ t + 3000 * s.parN 0x360D
    | none => false

/-- off of a SYNC frame taken `age`/256 µs after its SOF ("Time synchronisation"). -/
def State.syncOff (s : State) (payload : List Byte) (age : Nat) : Int :=
  (natBE payload : Int) + roundHalfUp ((s.parN 0x360E : Rat) * 256 / 1000)
    - ((s.ao.time.toNat : Int) * 256 - age)

/-- A follower applies a SYNC frame (R941 to R943). -/
def State.applySync (s : State) (src : Fin 16) (off : Int) : State :=
  let us := offMicros off
  let s1 := (s.onAo fun a => { a with timeValid := true, timeSource := 2 }).onLink fun l => { l with
    master := src, syncAt := some s.now, timeOff := satInt32 off }
  if 256000 ≤ off.natAbs then
    ((s1.onAo fun a => { a with time := BitVec.ofInt 48 ((a.time.toNat : Int) + us), slewLeft := 0 }).onLink fun l =>
      { l with syncRun := 0 }).raise0 0xB3 0 (stepMs us)
  else
    (s1.onAo fun a => { a with slewLeft := us }).onLink fun l => { l with
      syncRun := l.syncRun + 1, synced := l.synced || 1 ≤ l.syncRun }

/-- SYNC (R941): `age` is the time from the SOF edge to the take, in 1/256 µs. -/
def execSync (src : Fin 16) (seq : BitVec 4) (dst : BitVec 5) (payload : List Byte) (age : Nat) (s : State) : Answer :=
  let t := s.takeRyine src seq dst
  .next (if t.1 ∧ payload.length = 7 then
    let s1 := t.2.onLink fun l => { l with peer := vmod l.peer src fun p => { p with syncAt := some s.now } }
    if s1.timeRole = 2 ∧ s1.masterHeard = some src then s1.applySync src (s1.syncOff payload age) else s1
  else t.2)

/-- TIME_SLEW (R942): 10 ms of device time have passed since the last change; time moves 1 µs. A backward
slew lets one µs pass uncounted. -/
def execTimeSlew (s : State) : Answer :=
  .next (s.onAo fun a =>
    if 0 < a.slewLeft then { a with time := a.time + 1, slewLeft := a.slewLeft - 1 }
    else if a.slewLeft < 0 ∧ !a.slewHold then { a with slewHold := true, slewLeft := a.slewLeft + 1 }
    else a)

/-- SYNC_LOSS (R943): no SYNC has been applied for three sync periods. -/
def execSyncLoss (s : State) : Answer :=
  .next (s.onLink fun l => { l with synced := false, syncRun := 0 })

/-- SYNC_PERIOD (R941): a master queues SYNC; its time is put in as the frame begins. -/
def execSyncPeriod (s : State) : Answer :=
  .next (if s.link.live ∧ s.timeRole = 1 then s.queueFrame 0 31 (bytesBE 0 7) else s)

/-! ### Capacity advertisement (R945, R946) -/

/-- D of a job, s (05_loam, "Wait bound"). While C_h is 0 it takes 1 line/s (notes/assumptions 54). -/
def State.jobD (s : State) (j : Job) : Rat :=
  if j.prints then s.jobE j * max 1 ((j.rate : Rat) / (max 1 s.loam.head[j.head].cap : Nat)) else s.jobE j

/-- Q_h, s: jobs READY, DISPATCHED or ACTIVE on the head here, guest jobs included. -/
def State.headQueue (s : State) (h : Fin 4) : Rat :=
  (List.finRange 8).foldl (fun (q : Rat) (v : Fin 8) =>
    (s.headJobs v h).foldl (fun (q : Rat) e => if e.2.remote.isSome then q else q + s.jobD e.2) q) 0

/-- F_h. -/
def State.freeCapacity (s : State) (h : Fin 4) : Nat :=
  if s.pwr.mode.running then
    (roundHalfUp ((s.loam.head[h].cap : Rat) * max 0 (1 - s.headQueue h * 1000 / s.parN 0x3611))).toNat
  else 0

/-- The guest VI for a head ("Migration"). -/
def State.guestVi (s : State) (h : Fin 4) : Option (Fin 8) :=
  (List.finRange 8).find? fun (v : Fin 8) =>
    let q := s.vi[v].contract
    s.vi[v].state = .enabled && bit q[0] 1 && bit q[1] h.val && (q[8 + h.val] ≠ 0 || q[16 + h.val] ≠ 0)

/-- The path has a presenter. -/
def State.hasPresenter (s : State) (h : Fin 4) : Bool := bit (s.parG (0x2200 + h.val)) 2

/-- Class word of a head. -/
def State.classWord (s : State) (h : Fin 4) : Nat :=
  if !s.headPresent h ∨ !s.fitted h then 0
  else (if s.paper.head[h].state = .inService then 1 else 0) + (if s.density h = 12 then 2 else 0)
    + (if s.hasCutter h then 4 else 0) + (if s.hasPresenter h then 8 else 0) + 16 * s.mediaType h
    + (if (s.guestVi h).isSome then 64 else 0) + 256 * (s.dots h / 64)

/-- Advertisement of a head: class word and F. -/
def State.ownAdvert (s : State) (h : Fin 4) : Par :=
  if !s.headPresent h ∨ !s.fitted h then 0 else BitVec.ofNat 32 (65536 * s.classWord h + s.freeCapacity h)

/-- Free guest slots. -/
def Link.slotsFree (l : Link) : Nat := (List.finRange 4).countP fun (g : Fin 4) => l.guest[g].isNone

/-- CAP_PERIOD (R945, R946). -/
def execCapPeriod (s : State) : Answer :=
  .next (if s.link.live then
    let ad : Vector Par 4 := Vector.ofFn fun (h : Fin 4) => s.ownAdvert h
    let fl := (if s.ryAccepts then 1 else 0) + (if s.pwr.mode.running then 2 else 0)
    (s.onLink fun l => { l with ownCap := ad }).queueFrame 5 31
      ((List.finRange 4).flatMap (fun (h : Fin 4) => bytesBE ad[h].toNat 4) ++ [byteOf fl, byteOf s.link.slotsFree])
  else s)

/-! ### Remote events (R949) -/

/-- A write of ryine.evt_tx. -/
def State.writeEvtTx (s : State) (v : Par) : State :=
  s.queueFrame 6 (BitVec.ofNat 5 (bits v 20 5)) (bytesBE (1048576 * bits v 16 4 + bits v 0 16) 3)

/-! ### Data of migrations (R955) -/

/-- The stored block of a band as it now lies in the store. -/
def State.bandBlock (s : State) (v : Fin 8) (b : Nat) : List Byte :=
  match s.band v b with
  | some x => let l := s.blockBytes x
    l.take (blockLength l)
  | none => []

/-- Blocks are read until a whole frame can be filled. -/
def State.fillData (s : State) (v : Fin 8) : Nat → Migration → Migration
  | 0, m => m
  | n + 1, m =>
    if m.buf.length < 60 ∧ m.nextBand < m.endBand then
      s.fillData v n { m with buf := m.buf ++ s.bandBlock v m.nextBand, nextBand := m.nextBand + 1 }
    else m

/-- The job whose data are sent: the first accepted of those with data left (R955). -/
def State.sendingJob (s : State) : Option (JobRef × Migration) :=
  (s.remoteJobs.filter fun e => e.2.accepted && !e.2.sent && !e.2.revoking).foldl (fun b e =>
    match b with
    | some (c : JobRef × Migration) => if e.2.acceptOrder < c.2.acceptOrder then some e else b
    | none => some e) none

/-- The next MIG_DATA frame is queued when none waits (R955; notes/assumptions 55). -/
def State.topData (s : State) : State :=
  if (s.link.queue.any fun f => f.type = 4) ∨ !s.link.room then s
  else match s.sendingJob with
    | none => s
    | some (j, m) =>
      let m1 := s.fillData j.vi 1025 m
      let m2 := { m1 with
        buf := m1.buf.drop 60, nextFrame := m1.nextFrame + 1
        sent := m1.buf.length ≤ 60 && m1.endBand ≤ m1.nextBand }
      (s.onJob j fun y => { y with remote := some m2 }).queueFrame 4 (BitVec.ofNat 5 m.peer.val)
        (bytesBE m.migId.toNat 2 ++ bytesBE m.nextFrame 2 ++ m1.buf.take 60)

/-! ### Sending (R930 to R937) -/

/-- The first frame of the lowest TYPE, and the others. -/
def lowestType : List RyFrame → Option (RyFrame × List RyFrame)
  | [] => none
  | f :: t => match lowestType t with
    | some (g, r) => if g.type < f.type then some (g, f :: r) else some (f, t)
    | none => some (f, [])

/-- FRAME_TRANSMIT (R930, R932, R970): the next frame begins. A SYNC frame takes the device time at its SOF;
`fraction` is the part below a µs. -/
def execFrameTransmit (fraction : Byte) (s : State) : Answer :=
  .next (if s.link.live ∧ s.link.sending = none ∧ !s.pwr.stageBegun then
    match lowestType s.link.queue with
    | some (f, r) =>
      let g := if f.type = 0 then { f with payload := bytesBE s.ao.time.toNat 6 ++ [fraction] } else f
      (s.onLink fun l => { l with queue := r, sending := some g }).topData
    | none => s
  else s)

/-- A frame that was not sent: dropped after its last attempt, or sent again (R937). -/
def State.retryFrame (s : State) (f : RyFrame) : State :=
  if s.parN 0x360C ≤ f.attempts + 1 then
    let s1 := s.onLink fun l => { l with exhausted := l.exhausted + 1 }
    if f.dst = 31 then s1
    else s1.raise0 0xB4 (BitVec.setWidth 8 f.dst) (BitVec.setWidth 16 f.type)
  else s.onLink fun l => { l with queue := { f with attempts := f.attempts + 1 } :: l.queue }

/-- A frame that lost arbitration: dropped when its TYPE is superseding, else again first (R934). -/
def State.lostFrame (s : State) (f : RyFrame) : State :=
  s.onLink fun l =>
    if ryineSupersedes f.type then { l with superseded := l.superseded + 1 } else { l with queue := f :: l.queue }

/-- TRANSMIT_END (R933 to R937, R939): 0 success, 1 arbitration loss, 2 late loss, 3 bit error, 4 stuff
error, 5 form error, 6 no acknowledgement. -/
def execTransmitEnd (result : Fin 7) (s : State) : Answer :=
  .next (match s.link.sending with
  | none => s
  | some f =>
    let s0 := s.onLink fun l => { l with sending := none }
    let s1 := match result.val with
      | 0 => (s0.onLink fun l => { l with framesSent := l.framesSent + 1, tecCount := l.tecCount - 1 }).settleLink
      | 1 => (s0.onLink fun l => { l with arbLoss := l.arbLoss + 1 }).lostFrame f
      | 2 => (s0.onLink fun l => { l with lateLoss := l.lateLoss + 1 }).lostFrame f
      | 6 => (s0.onLink fun l => { l with ackErr := satInc l.ackErr }).retryFrame f
      | n => ((s0.onLink fun l => { l with
          tecCount := l.tecCount + 8
          errBit := if n = 3 then satInc l.errBit else l.errBit
          errStuff := if n = 4 then satInc l.errStuff else l.errStuff
          errForm := if n = 5 then satInc l.errForm else l.errForm }).retryFrame f).settleLink
    s1.topData)

/-! ### Parameters -/

/-- Item-specific state (R925, R949). -/
def State.ryItemNow (s : State) (off : Nat) (v : Par) : Bool :=
  if off = 0 then !(s.ryEn && (bits v 1 2 ≠ bits s.ryCfg 1 2 || bits v 5 2 ≠ bits s.ryCfg 5 2))
  else if off = 0x12 then s.link.room
  else true

/-- Values of an item. -/
def ryItemValid (off : Nat) (v : Par) : Bool :=
  if off = 0 then bits v 1 2 ≠ 3 && bits v 5 2 ≠ 3
  else if off = 0x12 then bits v 20 5 < 16 || bits v 20 5 = 31
  else true

/-- A write of an item 0x3600 + off (R925, R926, R940, R949). -/
def State.ryItemWrite (s : State) (off : Nat) (v : Par) : State :=
  if off = 0 then
    let was := s.ryEn
    let s1 := s.setPar 0x3600 none v
    if bit v 0 ∧ !was ∧ !s.link.conflict ∧ !s.pwr.clkFallback then
      (s1.onLink fun l => { l with tecCount := 0, recCount := 0 }).setLink .active 1
    else if !bit v 0 then s1.setLink .off 1
    else s1
  else if off = 0x12 then s.writeEvtTx v
  else if off = 0x13 then s.writeRyCtrl v
  else s.setPar (0x3600 + off) none v

end Sys2Proof.Machine
end

