-- ==== Sys2Proof/Machine/Migration.lean ====
section
/-! DEFINITION. Cancels and releases of descriptors (05_loam R333 to R340, R349 to R352), and the migration
of jobs to and from peers (05_loam "Migration decisions"; 17_ryine "Migration"). -/

namespace Sys2Proof.Machine

/-! ### Jobs at peers -/

/-- REVOKE is sent for a migration (17_ryine R954, R960, R961). -/
def State.sendRevoke (s : State) (m : Migration) : State :=
  s.queueFrame 1 (BitVec.ofNat 5 m.peer.val) (bytesBE m.migId.toNat 2)

/-- The device no longer holds a migration whose report may still come (R959). -/
def State.orphan (s : State) (j : JobRef) (m : Migration) : State :=
  s.onLink fun l => { l with orphans := l.orphans ++ [(m.migId, m.peer, j)] }

/-- MIGRATED_ORPHAN for a report that no job awaits (R959): VI and handle as remembered, else zero
(notes/assumptions 56). -/
def State.reportOrphan (s : State) (src : Fin 16) (migId : Word) : State :=
  match s.link.orphans.find? fun o => o.1 = migId && o.2.1 = src with
  | some o => (s.onLink fun l => { l with orphans := l.orphans.erase o }).raise0 0x28 (byteOf (o.2.2.vi.val + 1))
      (BitVec.ofNat 16 o.2.2.handle.val)
  | none => s.raise0 0x28 0 0

/-- A cancelled job that the peer runs to its end (05_loam R352; R960). -/
def State.cancelAfter (s : State) (j : JobRef) (m : Migration) : State :=
  ((s.orphan j m).chargeE j).endJob j .cancelled 3 0

/-- Cancel of a job at a peer (05_loam R350 to R352; R960). -/
def State.cancelRemote (s : State) (j : JobRef) (m : Migration) : State :=
  let s1 := s.sendRevoke m
  if m.revoking then s
  else if !m.accepted then s1.endJob j .cancelled 2 0
  else if m.started then s1.cancelAfter j m
  else s1.onJob j fun y => { y with remote := some { m with revoking := true } }

/-! ### Cancel and release (05_loam R333 to R340) -/

/-- The issue of a reserved job is no longer wanted: the head is free, and the answer is discarded
(notes/assumptions 57). -/
def State.dropReservation (s : State) (j : JobRef) : State :=
  (List.finRange 4).foldl (fun u (h : Fin 4) =>
    if u.loam.head[h].reserved = some j then
      let mark : LegCommand → LegCommand := fun q => if q.source = .loam h then { q with orphan := true } else q
      (u.onLoamHead h fun l => { l with reserved := none }).onIsland fun i => { i with
        mailbox := i.mailbox.map mark
        deciding := i.deciding.map mark
        issuing := i.issuing.map fun x => (mark x.1, x.2)
        response := i.response.map fun x => { x with cmd := mark x.cmd } }
    else u) s

/-- Cancel of a descriptor (R334 to R338). -/
def State.cancelJob (s : State) (j : JobRef) : State :=
  let x := s.job j
  match x.remote with
  | some m => s.cancelRemote j m
  | none => match x.state with
    | .filled => s.onJob j fun _ => {}
    | .ready => (s.dropReservation j).endJob j .cancelled 2 0
    | .dispatched | .active => s.stopJob x.head .cancelled 3
    | _ => s

/-- Release of a descriptor (R339). -/
def State.releaseJob (s : State) (j : JobRef) : State :=
  match (s.job j).state with
  | .filled | .done | .cancelled | .failed => s.onJob j fun _ => {}
  | _ => s

/-- A write of VW_JOB_CANCEL (R333; 04_tenancy R229). -/
def State.writeCancel (s : State) (v : Fin 8) (x : Word) : State :=
  let j : JobRef := ⟨v, ⟨x.toNat % 16, by omega⟩⟩
  if !s.winServes v then s
  else match x.toNat / 16 % 4 with
    | 0 => (s.cancelJob j).refreshEligible
    | 1 => s.releaseJob j
    | 2 => ((List.finRange 16).foldl (fun u (i : Handle) => u.cancelJob ⟨v, i⟩) s).refreshEligible
    | _ => s

/-- CANCEL (R333 to R338, R349). -/
def execCancel (vi : Fin 8) (v : Word) (s : State) : Answer := .next (s.writeCancel vi (v &&& 0xFFCF))
/-- RELEASE (R339). -/
def execRelease (vi : Fin 8) (v : Word) (s : State) : Answer := .next (s.writeCancel vi ((v &&& 0xFFCF) ||| 0x10))
/-- CANCEL_ALL (R340). -/
def execCancelAll (vi : Fin 8) (v : Word) (s : State) : Answer := .next (s.writeCancel vi ((v &&& 0xFFCF) ||| 0x20))

/-! ### Migration check (05_loam "Migration decisions"; 17_ryine R951 to R953) -/

/-- First band of a job's lines and the band after the last, in the VI's raster space (04_tenancy R240); none for a job
without lines. -/
def Job.bandSpan (j : Job) : Nat × Nat :=
  if j.prints then (j.start / 16384, min 4096 ((j.start + j.lines * j.bpl + 16383) / 16384)) else (0, 0)

/-- Every band of the job is stored whole, and they fit a guest slot (R951). -/
def State.bandsReady (s : State) (v : Fin 8) (j : Job) : Bool :=
  let p := j.bandSpan
  p.2 - p.1 ≤ 256 && (List.range (p.2 - p.1)).all fun k =>
    (s.band v (p.1 + k)).isSome && !s.bandLost v (p.1 + k) && !s.bandPending v (p.1 + k)

/-- Total size of the stored blocks of a job. -/
def State.blocksSize (s : State) (v : Fin 8) (j : Job) : Nat :=
  let p := j.bandSpan
  (List.range (p.2 - p.1)).foldl (fun n k => n + (s.bandBlock v (p.1 + k)).length) 0

/-- What a path with a class word offers to a job (R951): dots, cutter and presenter. -/
def Job.meets (j : Job) (word : Nat) : Bool :=
  word.testBit 0
    && (!j.prints || (8 * j.bpl ≤ 64 * (word / 256 % 256) && (j.endAction = 0 || word.testBit 2)
          && (j.endAction ≠ 2 || word.testBit 3)))
    && (j.kind ≠ 3 || word.testBit 2)
    && !(j.kind = 2 && j.isReverse)

/-- A peer head qualifies for a job of a local head: advertised as compatible, with the margin (R948, R951). -/
def State.peerFits (s : State) (h : Fin 4) (j : Job) (n : Fin 16) (k : Fin 4) : Bool :=
  let p := s.link.peer[n]
  let word := p.cap[k].toNat / 65536
  let own := s.classWord h
  (match p.capAt with
    | some t => s.now ≤ t + 3000 * s.parN 0x3610
    | none => false)
  && p.present && p.flags.getLsbD 1 && word.testBit 6 && j.meets word
  && (word.testBit 1 == own.testBit 1) && word / 16 % 4 = own / 16 % 4
  && (s.freeCapacity h : Rat) + (s.parN 0x418 * s.loam.head[h].cap : Nat) / (100 : Rat)
      ≤ ((p.cap[k].toNat % 65536 : Nat) : Rat)

/-- The job has not come from that peer lately ("Reverse"). -/
def State.notReverse (s : State) (n : Fin 16) : Bool :=
  match (s.link.peer[n]).acceptedAt with
  | some t => t + 1000 * s.parN 0x419 < s.now
  | none => true

/-- Peer heads, by node and head. -/
def peerHeads : List (Fin 16 × Fin 4) := (List.finRange 16).flatMap fun n => (List.finRange 4).map fun k => (n, k)

/-- The peer head with the largest F among those that qualify (R952). -/
def State.bestPeer (s : State) (h : Fin 4) (j : Job) : Option (Fin 16 × Fin 4) :=
  (peerHeads.filter fun e => s.peerFits h j e.1 e.2 && s.notReverse e.1).foldl (fun b e =>
    match b with
    | some (c : Fin 16 × Fin 4) =>
      if (s.link.peer[c.1]).cap[c.2].toNat % 65536 < (s.link.peer[e.1]).cap[e.2].toNat % 65536 then some e else b
    | none => some e) none

/-- The front job of a VI on a head may be offered, its waiting and the margin apart (R344, R347, R951;
notes/assumptions 58). -/
def State.offerable (s : State) (v : Fin 8) (h : Fin 4) (j : Job) : Bool :=
  s.vi[v].state = .enabled && bit (s.vi[v].contract[0]) 0
    && (1 ≤ j.kind && j.kind ≤ 4) && !j.noMigrate && j.chain.isNone
    && j.guest.isNone && !s.fenced v h j && s.bandsReady v j

/-- The margin condition of a job: a peer head that the link can reach has the margin. -/
def State.marginHolds (s : State) (j : Job) : Bool :=
  s.link.live && s.ryEn && peerHeads.any fun p => s.peerFits j.head j p.1 p.2

/-- Since when the margin condition of each READY job holds without a break ("Hold"). -/
def State.trackMargins (s : State) : State :=
  (List.finRange 8).foldl (fun u (v : Fin 8) => (u.viJobs v).foldl (fun u e =>
    if e.2.state = .ready then
      let ok := u.marginHolds e.2
      u.onJob ⟨v, e.1⟩ fun y => { y with marginSince := if ok then some (y.marginSince.getD u.now) else none }
    else u) u) s

/-- The front job has waited, and the margin has held, long enough. -/
def State.migrates (s : State) (j : Job) : Bool :=
  j.readyAt + 1000 * s.parN 0x41A ≤ s.now
    && (match j.marginSince with
      | some t => t + 1000 * s.parN 0x419 ≤ s.now
      | none => false)

/-- The first job to be offered, by acceptance order, with its peer head. -/
def State.offerChoice (s : State) : Option (JobRef × Fin 16 × Fin 4) :=
  let all : List (JobRef × Fin 16 × Fin 4) := (List.finRange 8).flatMap fun (v : Fin 8) =>
    (List.finRange 4).filterMap fun (h : Fin 4) => match s.frontJob v h with
      | some e =>
        if s.offerable v h e.2 ∧ s.migrates e.2 then (s.bestPeer h e.2).map fun p => (⟨v, e.1⟩, p.1, p.2) else none
      | none => none
  all.foldl (fun b e => match b with
    | some (c : JobRef × Fin 16 × Fin 4) => if (s.job e.1).order < (s.job c.1).order then some e else b
    | none => some e) none

/-- E of a job in ms, for the offer. -/
def State.jobMillis (s : State) (j : Job) : Nat := sat (roundHalfUp (s.jobE j * 1000)).toNat 65535

/-- MIG_OFFER is queued for a job (R953): it is DISPATCHED with REMOTE = 1 (05_loam R345). -/
def State.offer (s : State) (j : JobRef) (n : Fin 16) (k : Fin 4) : State :=
  let x := s.job j
  let id := s.link.nextMig
  let p := x.bandSpan
  ((s.onJob j fun y => { y with
    state := .dispatched, marginSince := none
    remote := some { migId := id, peer := n, peerHead := k, accepted := false, started := false, revoking := false
                     acceptOrder := 0, buf := [], nextBand := p.1, endBand := p.2, nextFrame := 0, sent := false } }).onLink
    fun l => { l with nextMig := l.nextMig + 1 }).queueFrame 3 (BitVec.ofNat 5 n.val)
      (bytesBE id.toNat 2 ++ [byteOf k.val] ++ bytesBE x.word[0].toNat 4 ++ bytesBE x.word[1].toNat 4
        ++ bytesBE x.word[2].toNat 4 ++ bytesBE x.word[3].toNat 4 ++ bytesBE (s.blocksSize j.vi x) 4
        ++ bytesBE (s.jobMillis x) 2)

/-- MIGRATION_CHECK (05_loam R344, R356; R951 to R953, R971): every 10 ms. -/
def execMigrationCheck (s : State) : Answer :=
  let s1 := s.trackMargins
  let held := s1.remoteJobs
  .next (if !s.dispatches ∨ !s.link.live ∨ !s.ryEn ∨ 8 ≤ held.length ∨ (held.any fun e => !e.2.accepted)
      ∨ !s1.link.room then s1
    else match s1.offerChoice with
      | some (j, n, k) => s1.offer j n k
      | none => s1)

/-! ### Reports of the peer (R954 to R960) -/

/-- The job of a migration with a peer. -/
def State.migrated (s : State) (src : Fin 16) (migId : Word) : Option (JobRef × Migration) :=
  s.remoteJobs.find? fun e => e.2.migId = migId && e.2.peer = src

/-- A MIG_RESULT is taken: `f` for the migration it names, `g` when the device holds none. -/
def State.takeResult (s : State) (src : Fin 16) (seq : BitVec 4) (dst : BitVec 5) (migId : Word)
    (f : State → JobRef → Migration → State) (g : State → State) : State :=
  let t := s.takeRyine src seq dst
  if t.1 then
    (match t.2.migrated src migId with
      | some (j, m) => f t.2 j m
      | none => g t.2).refreshEligible
  else t.2

/-- ACCEPT (R955): JOB_MIGRATED, and the data follow. -/
def execAccept (src : Fin 16) (seq : BitVec 4) (dst : BitVec 5) (migId : Word) (_detail : Byte) (_headTime : Par)
    (_amount : Word) (s : State) : Answer :=
  .next (s.takeResult src seq dst migId (fun u j m =>
    if m.accepted then u
    else
      (((u.onJob j fun y => { y with remote := some { m with accepted := true, acceptOrder := u.link.nextAccept } }).onLink
        fun l => { l with nextAccept := l.nextAccept + 1 }).raiseVi j.vi 0x24 (byteOf j.handle.val)
          (BitVec.ofNat 16 src.val)).topData) id)

/-- The peer does not hold the job (R956): JOB_RETURNED, or the end of a cancel that waited. -/
def State.notHeld (s : State) (j : JobRef) (m : Migration) : State :=
  if m.revoking then s.endJob j .cancelled 2 0
  else (s.jobBack j).raiseVi j.vi 0x25 (byteOf j.handle.val) (BitVec.ofNat 16 m.peer.val)

/-- REFUSE (R956). -/
def execRefuse (src : Fin 16) (seq : BitVec 4) (dst : BitVec 5) (migId : Word) (_detail : Byte) (_headTime : Par)
    (_amount : Word) (s : State) : Answer :=
  .next (s.takeResult src seq dst migId State.notHeld id)

/-- ABANDONED (R956). -/
def execAbandoned (src : Fin 16) (seq : BitVec 4) (dst : BitVec 5) (migId : Word) (_detail : Byte) (_headTime : Par)
    (_amount : Word) (s : State) : Answer :=
  .next (s.takeResult src seq dst migId State.notHeld id)

/-- STARTED (R958, R960, R975). -/
def execStarted (src : Fin 16) (seq : BitVec 4) (dst : BitVec 5) (migId : Word) (_detail : Byte) (_headTime : Par)
    (_amount : Word) (s : State) : Answer :=
  .next (s.takeResult src seq dst migId (fun u j m =>
    u.onJob j fun y => { y with remote := some { m with started := true } }) id)

/-- The completion report of a job (R957, R346): charged, and ended. A report to a job whose cancel still
waits is that of a job the peer had dispatched (R352). -/
def State.peerReport (s : State) (j : JobRef) (m : Migration) (st : JobState) (result headTime amount : Nat) : State :=
  if m.revoking then (s.cancelAfter j m).reportOrphan m.peer m.migId
  else (s.charge j.vi (s.job j).head headTime true).endJob j st result amount

/-- DONE (R957, R959). -/
def execDone (src : Fin 16) (seq : BitVec 4) (dst : BitVec 5) (migId : Word) (_detail : Byte) (headTime : Par)
    (amount : Word) (s : State) : Answer :=
  .next (s.takeResult src seq dst migId
    (fun u j m => u.peerReport j m .done 0 headTime.toNat amount.toNat) fun u => u.reportOrphan src migId)

/-- FAILED (R957, R959). -/
def execFailed (src : Fin 16) (seq : BitVec 4) (dst : BitVec 5) (migId : Word) (_detail : Byte) (headTime : Par)
    (amount : Word) (s : State) : Answer :=
  .next (s.takeResult src seq dst migId
    (fun u j m => u.peerReport j m .failed 0xA headTime.toNat amount.toNat) fun u => u.reportOrphan src migId)

/-- REVOKED (05_loam R351; R960). -/
def execRevoked (src : Fin 16) (seq : BitVec 4) (dst : BitVec 5) (migId : Word) (_detail : Byte) (_headTime : Par)
    (_amount : Word) (s : State) : Answer :=
  .next (s.takeResult src seq dst migId (fun u j m => if m.revoking then u.endJob j .cancelled 2 0 else u)
    fun u => u.onLink fun l => { l with orphans := l.orphans.filter fun o => !(o.1 = migId && o.2.1 = src) })

/-- TOO_LATE (05_loam R352; R960). -/
def execTooLate (src : Fin 16) (seq : BitVec 4) (dst : BitVec 5) (migId : Word) (_detail : Byte) (_headTime : Par)
    (_amount : Word) (s : State) : Answer :=
  .next (s.takeResult src seq dst migId (fun u j m => if m.revoking then u.cancelAfter j m else u) id)

/-- OFFER_TIMEOUT (R954): the offer that awaits an answer is withdrawn. -/
def execOfferTimeout (s : State) : Answer :=
  .next (match s.remoteJobs.find? fun e => !e.2.accepted with
    | some (j, m) => ((s.jobBack j).sendRevoke m).refreshEligible
    | none => s)

/-- REVOKE_TIMEOUT (R960): no answer to a REVOKE within ryine.peer_timeout. -/
def execRevokeTimeout (migId : Word) (s : State) : Answer :=
  .next (match s.remoteJobs.find? fun e => e.2.migId = migId && e.2.revoking with
    | some (j, m) => (s.cancelAfter j m).refreshEligible
    | none => s)

/-! ### The receiving side (R962 to R967) -/

/-- First band of a guest slot. -/
def guestBand (g : Fin 4) : Nat := 0xC00 + 0x100 * g.val

/-- First raster address of a guest slot. -/
def guestAddr (g : Fin 4) : Nat := 0x3000000 + 0x400000 * g.val

/-- The descriptor that an offer would submit: NO_MIGRATE, AUTOFREE and the peer head set, CONT cleared, and
the raster start moved into the slot (R964). -/
def guestWords (h g : Fin 4) (w : Vector Par 4) : Vector Par 8 :=
  let w0 := (w[0] &&& 0xFF4F) ||| 0x140 ||| fld h.val 4
  let j : Job := { word := #v[w0, w[1] &&& 0x83FFFFFF, w[2] &&& 0x01FFFFFF, w[3] &&& 0x1FFF, 0, 0, 0, 0] }
  if j.prints then j.word.set 1 (BitVec.ofNat 32 (guestAddr g + j.start % 16384)) else j.word

/-- Free guest slot of lowest number. -/
def Link.freeSlot (l : Link) : Option (Fin 4) := (List.finRange 4).find? fun (g : Fin 4) => l.guest[g].isNone

/-- The REFUSE detail of an offer, or the guest VI, the slot and the state with the chunks reserved (R962). -/
def State.judgeOffer (s : State) (k : Nat) (w : Vector Par 4) (size : Nat) :
    Nat ⊕ (Fin 8 × Fin 4 × List Nat × State) :=
  if !s.ryAccepts ∨ !s.pwr.mode.running then .inl 1
  else if hk : k < 4 then
    let h : Fin 4 := ⟨k, hk⟩
    match s.guestVi h with
    | none => .inl 2
    | some v =>
      let j : Job := { word := guestWords h 0 w }
      let p := j.bandSpan
      let n := if size = 0 then 0 else chunksFor size + (p.2 - p.1)
      if !(1 ≤ j.kind && j.kind ≤ 4) || !j.meets (s.classWord h) || s.badDesc j || 256 < p.2 - p.1 then .inl 3
      else match s.link.freeSlot with
        | none => .inl 4
        | some g =>
          if (s.vi[v].contract[4]).toNat ≤ s.residentJobs v ∨ 16 ≤ s.heldJobs v then .inl 5
          else if (s.parB v 0x902).toNat < s.storeUsed v + s.storeReserved v + n then .inl 6
          else match s.reserveChunks v n with
            | some (l, s1) => .inr (v, g, l, s1)
            | none => .inl 6
  else .inl 2

/-- MIG_OFFER (R962): answered ACCEPT or REFUSE. -/
def execMigOffer (src : Fin 16) (seq : BitVec 4) (dst : BitVec 5) (payload : List Byte) (s : State) : Answer :=
  let t := s.takeRyine src seq dst
  .next (if t.1 ∧ payload.length = 25 then
    let u := t.2
    let at4 : Nat → Par := fun i => BitVec.ofNat 32 (natBE ((payload.drop i).take 4))
    let id := BitVec.ofNat 16 (natBE (payload.take 2))
    let k := ((payload[2]?).getD 0).toNat
    let w : Vector Par 4 := #v[at4 3, at4 7, at4 11, at4 15]
    match u.judgeOffer k w (at4 19).toNat with
    | .inl d => u.sendResult src id 2 d 0 0
    | .inr (v, g, l, u1) =>
      (u1.onLink fun x => { x with
        guest := x.guest.set g (some { node := src, migId := id, vi := v, head := ⟨k % 4, by omega⟩, word := w
                                       size := (at4 19).toNat, data := [], nextFrame := 0, reserved := l
                                       external := u.silt.external, handle := none })
        peer := vmod x.peer src fun p => { p with acceptedAt := some u.now } }).sendResult src id 1 g.val 0 0
  else t.2)

/-- A guest slot is freed with what it still holds in reserve. -/
def State.freeGuest (s : State) (g : Fin 4) : State :=
  match s.link.guest[g] with
  | some x => ((s.freeChunks x.external x.reserved).dropBands x.vi (guestBand g) 256).onLink fun l =>
      { l with guest := l.guest.set g none }
  | none => s

/-- A received block is written into the store for a band of the slot: its band renumbered and hcrc
recomputed (R963). Answers the chunks left. -/
def State.storeBlock (s : State) (v : Fin 8) (band : Nat) (external : Bool) (chunks : List Nat) (l : List Byte) :
    List Nat × State :=
  let head := l.take 4 ++ be16 (band % 4096)
  let block := head ++ be16 (crc16 head) ++ l.drop 8
  let n := chunksFor block.length
  (chunks.drop n, (writeChain s external (chunks.take n) block).placeBand v band external (chunks.take n))

/-- The received blocks are stored one after another. -/
def State.storeBlocks (s : State) (v : Fin 8) (band : Nat) (external : Bool) (chunks : List Nat) :
    Nat → List Byte → List Nat × State
  | 0, _ => (chunks, s)
  | n + 1, l =>
    let len := blockLength l
    let r := s.storeBlock v band external chunks (l.take len)
    r.2.storeBlocks v (band + 1) external r.1 n (l.drop len)

/-- The last data frame has been stored: the guest job is submitted (R964), or, with no descriptor left for
it, the transfer is abandoned (notes/assumptions 59). -/
def State.guestReady (s : State) (g : Fin 4) (x : GuestSlot) : State :=
  let w := guestWords x.head g x.word
  let p := ({ word := w } : Job).bandSpan
  let r := s.storeBlocks x.vi (guestBand g) x.external x.reserved (p.2 - p.1) x.data
  let s1 := (r.2.freeChunks x.external r.1).onLink fun l => { l with
    guest := l.guest.set g (some { x with reserved := [], data := [] }) }
  match s1.freeHandle x.vi with
  | some i =>
    if s1.reservedJobs x.vi < s1.freeJobs then
      ((s1.onJob ⟨x.vi, i⟩ fun _ => { state := .filled, word := w
                                      guest := some { node := x.node, migId := x.migId, slot := g } }).onLink fun l =>
        { l with guest := l.guest.set g (some { x with reserved := [], data := [], handle := some i }) }).acceptJob x.vi i
    else (s1.freeGuest g).sendResult x.node x.migId 8 0 0 0
  | none => (s1.freeGuest g).sendResult x.node x.migId 8 0 0 0

/-- The guest slot of a migration with a node. -/
def State.guestOf (s : State) (src : Fin 16) (migId : Word) : Option (Fin 4 × GuestSlot) :=
  (List.finRange 4).findSome? fun (g : Fin 4) => match s.link.guest[g] with
    | some x => if x.node = src ∧ x.migId = migId then some (g, x) else none
    | none => none

/-- MIG_DATA (R963, R964): a frame out of its number is discarded. -/
def execMigData (src : Fin 16) (seq : BitVec 4) (dst : BitVec 5) (payload : List Byte) (s : State) : Answer :=
  let t := s.takeRyine src seq dst
  .next (if t.1 ∧ 4 ≤ payload.length then
    match t.2.guestOf src (BitVec.ofNat 16 (natBE (payload.take 2))) with
    | some (g, x) =>
      if x.handle.isNone ∧ natBE ((payload.drop 2).take 2) = x.nextFrame % 65536 then
        let y := { x with data := x.data ++ payload.drop 4, nextFrame := x.nextFrame + 1 }
        let u := t.2.onLink fun l => { l with guest := l.guest.set g (some y) }
        if x.size ≤ y.data.length then u.guestReady g y else u
      else t.2
    | none => t.2
  else t.2)

/-- TRANSFER_TIMEOUT (R965): no data frame for 100 ms. -/
def execTransferTimeout (slot : Fin 4) (s : State) : Answer :=
  .next (match s.link.guest[slot] with
    | some x => if x.handle.isNone then (s.freeGuest slot).sendResult x.node x.migId 8 0 0 0 else s
    | none => s)

/-- REVOKE (R967, R975). -/
def execRevoke (src : Fin 16) (seq : BitVec 4) (dst : BitVec 5) (payload : List Byte) (s : State) : Answer :=
  let t := s.takeRyine src seq dst
  let id := BitVec.ofNat 16 (natBE payload)
  .next (if t.1 ∧ payload.length = 2 then
    match t.2.guestOf src id with
    | none => t.2.sendResult src id 6 0 0 0
    | some (g, x) => match x.handle with
      | none => (t.2.freeGuest g).sendResult src id 6 0 0 0
      | some i =>
        if (t.2.job ⟨x.vi, i⟩).state = .ready then
          ((((t.2.onJob ⟨x.vi, i⟩ fun _ => {}).freeGuest g).fencesDone x.vi).queueSpace x.vi).sendResult src id 6 0 0 0
        else t.2.sendResult src id 7 0 0 0
  else t.2)

/-- ryine.mig_stat. -/
def State.migStat (s : State) : Par :=
  let guests := (List.finRange 4).countP fun (g : Fin 4) => s.link.guest[g].isSome
  fld (s.remoteJobs.countP fun e => e.2.accepted) 0 ||| fld guests 4 ||| fld s.link.nextMig.toNat 16

/-- The jobs of a VI at peers are revoked as it resets (04_tenancy R273; R961). -/
def State.revokeAll (s : State) (v : Fin 8) : State :=
  (s.remoteJobs.filter fun e => e.1.vi = v).foldl (fun u e =>
    ((u.sendRevoke e.2).orphan e.1 e.2).onJob e.1 fun _ => {}) s

end Sys2Proof.Machine
end

