-- ==== Sys2Proof/Machine/Power.lean ====
section
/-! DEFINITION. Power, wake sources and the wake sequence (02_power_clocks_modes). Power-down, HOLD and
RST_N are in PowerDown.lean. -/

namespace Sys2Proof.Machine

/-! ### Shared operations -/

/-- pwr.last_pd as AO holds it (02_power_clocks_modes, pwr.last_pd). -/
def Ao.pdWord (a : Ao) : Par :=
  BitVec.setWidth 32 a.pdStage ||| flag a.pdUnclean 3
    ||| (match a.pdReason with | .powerFail => 0 | .retainRequest => 0x10 | .thermal => 0x20)
    ||| flag a.pdFlashed 6 ||| fld a.pdRetained.toNat 8 ||| fld a.glitches.toNat 16

/-- The wake so far in the layout of pwr.wake_cause (02_power_clocks_modes R104). -/
def Pwr.causeWord (p : Pwr) : Par :=
  BitVec.setWidth 32 p.wakeSource ||| fld p.ioAttempts 4 ||| fld p.coreAttempts 6
    ||| flag p.wakeFallback 8 ||| flag p.slotB 9 ||| flag p.wakeMemAbsent 10

/-- A record whose sequence is held valid in flash (18_management R1005). -/
def Mgmt.holdsSeq (m : Mgmt) (r : LogRecord) : Bool := m.log.any fun x => x.seq = r.seq

/-- Pending records that flash already holds are discarded (18_management R1005). -/
def State.discardHeld (s : State) : State :=
  s.onAo fun a => { a with ring := a.ring.filter fun r => !s.mgmt.holdsSeq r }

/-- Entry to WAKE: every wake counts, takes the device reset values, discards what flash already holds, and reports
the last power-down as unclean unless COMPLETE was written (02_power_clocks_modes R116, R227; 18_management R1005;
19_parameter_map R1059). -/
def State.enterWake (s : State) (source : BitVec 4) : State :=
  let r := s.deviceReset.discardHeld
  let unclean := s.ao.pdStage ≠ 0 ∧ s.ao.pdStage ≠ 7
  let a := { r.ao with pdUnclean := unclean }
  { r with
    ao := { a with wakeCount := r.ao.wakeCount + 1, wakeLatched := none, lastPd := a.pdWord,
                   thermalShut := false, thermalCooled := false }
    pwr := { r.pwr with mode := .wake, target := none, pd := none, wakeSource := source } }

/-- A wake event: phase A begins with PWR_EN[0] (02_power_clocks_modes R64). -/
def State.beginWake (s : State) (source : BitVec 4) : State :=
  (s.enterWake source).onPwr fun p =>
    { p with en := p.en ||| 1, phase := .waitIo, ioAttempts := 1, coreAttempts := 0 }

/-- A wake source acts: at once in RETAIN, and after the guard time or the power-down when either still
runs (02_power_clocks_modes R97, R114, R120). In every other state it changes nothing. -/
def State.wakeBy (s : State) (source : BitVec 4) : State :=
  if s.pwr.pd.isSome || (s.pwr.mode = .retain && s.ao.guard) then
    s.onAo fun a => { a with wakeLatched := some (a.wakeLatched.getD source) }
  else if s.pwr.mode = .retain then s.beginWake source
  else s

/-- A wake source with an enable bit acts: after a thermal shutdown R121 governs instead. -/
def State.enabledSource (s : State) (n : Fin 4) : Bool :=
  !s.ao.thermalShut && s.ao.wakeEn[n]

/-- Rank of a reason among coinciding causes (R138). -/
def PdReason.rank : PdReason → Nat
  | .powerFail => 2
  | .thermal => 1
  | .retainRequest => 0

/-- A cause of a power-down arises (R61, R105, R114, R115, R138, 12_analog_thermal R727): its stages follow. In
HOLD and in RETAIN it is stage 6 alone (R137). A cause that coincides, before the instant of stage 1, gives the one
power-down the higher reason; a later one changes nothing. A drain to SERVICE stays what it was (R85). -/
def State.beginPd (s : State) (reason : PdReason) (stage6Only : Bool) : State :=
  match s.pwr.pd with
  | some d =>
    if d.stage = 0 ∧ !d.closed ∧ !d.collapsed ∧ d.reason.rank < reason.rank then
      s.onPwr fun p => { p with pd := some { d with reason := reason } }
    else s
  | none => s.onPwr fun p => { p with
      target := if p.mode = .retain then none else some .retain
      pd := some { reason := reason, stage := 0, collapsed := false, stage6Only := stage6Only } }

/-- Effective preferred area, with a revert that AO holds (18_management R1014). -/
def State.preferredArea (s : State) : Fin 2 :=
  if s.ao.revertHeld then (if s.mgmt.preferred = 0 then 1 else 0) else s.mgmt.preferred

/-- TRIAL, with a revert that AO holds (18_management R1014). -/
def State.inTrial (s : State) : Bool := s.mgmt.trial && !s.ao.revertHeld

/-- The other image area. -/
def otherArea (a : Fin 2) : Fin 2 := if a = 0 then 1 else 0

/-- The boot record is reverted: the other area becomes preferred and TRIAL is cleared. While
FLASH_OK = 0, AO holds the revert (18_management R1014). -/
def State.revertBoot (s : State) : State :=
  if s.analog.flashOk then
    (s.onMgmt fun m => { m with preferred := otherArea m.preferred, trial := false, trialBoots := 0 }).onAo
      fun a => { a with trialHeld := 0 }
  else s.onAo fun a => { a with revertHeld := true }

/-- One more trial boot is counted, in the boot record or, while FLASH_OK = 0, in AO
(18_management R1014). -/
def State.countTrial (s : State) : State :=
  if s.analog.flashOk then s.onMgmt fun m => { m with trialBoots := m.trialBoots + 1 }
  else s.onAo fun a => { a with trialHeld := a.trialHeld + 1 }

/-- Response code of the container check of an area (18_management R1011): an area without a valid image
fails as malformed, since an area is invalidated by programming its first page to zero. -/
def State.containerCheck (s : State) (a : Fin 2) : Byte :=
  match s.mgmt.image[a] with
  | none => 0x06
  | some i => if i.sv < s.mgmt.rollback then 0x0A else 0

/-- The stepping check of an area (18_management R1012). -/
def State.steppingOk (s : State) (a : Fin 2) : Bool :=
  match s.mgmt.image[a] with
  | none => false
  | some i =>
    let st := Config.stepping.toNat % 65536
    i.stepLo.toNat ≤ st && st ≤ i.stepHi.toNat

/-- Response code of the container and stepping checks of an area. -/
def State.slotCheck (s : State) (a : Fin 2) : Byte :=
  if s.containerCheck a ≠ 0 then s.containerCheck a else if s.steppingOk a then 0 else 0x0B

/-- Payload area and flags of IMAGE_CHECK (18_management, event 0xC2). -/
def imageCheckAux (a : Fin 2) (slotB reverted : Bool) : Byte :=
  BitVec.ofNat 8 (a.val + (if slotB then 2 else 0) + (if reverted then 4 else 0))

/-- A slot boots: its image runs, the configuration record in force is loaded, and external memory is
powered if it is configured (02_power_clocks_modes R99, R100, R101). -/
def State.bootSlot (s : State) (a : Fin 2) (b : Bool) : State :=
  let s1 := if b then s else if s.inTrial then s.countTrial else s
  let s2 := s1.onMgmt fun m => { m with running := some a }
  let s3 := if b && s2.inTrial then s2.revertBoot else s2
  s3.onPwr fun p =>
    if s.mgmt.memCfgFlash.getLsbD 0 then
      { p with slotB := b, memCfg := s.mgmt.memCfgFlash, en := p.en ||| 4, phase := .waitMem }
    else { p with slotB := b, memCfg := s.mgmt.memCfgFlash, phase := .ready }

/-- Number of chunks of 1,024 bytes of the external memory configured (pwr.mem_cfg). -/
def memChunks (cfg : BitVec 3) : Nat :=
  if cfg.getLsbD 0 then
    (match (cfg.toNat / 2) with | 0 => 0x40000 | 1 => 0x80000 | _ => 0x100000)
  else 0

/-! ### Commands -/

/-- AO_POWER_ON (R61, R207): AO takes its power-on values; the device wakes, or goes to RETAIN when
PWR_FAIL_N is low. -/
def execAoPowerOn (pwrFailN : Bool) (s : State) : Answer :=
  .next (if s.pwr.mode = .off then
    let s1 := { s with ao := { wakeCount := 0 }, pwr := { s.pwr with pwrFailN := pwrFailN, en := 0 } }
    if pwrFailN then s1.beginWake 0 else { s1 with pwr := { s1.pwr with mode := .retain } }
  else s)

/-- ALL_POWER_LOST (R61): AO loses what it holds, the retention ring included (18_management R1008). -/
def execAllPowerLost (s : State) : Answer :=
  let r := s.deviceReset
  .next { r with
    ao := { powered := false, wakeCount := 0 }
    pwr := { mode := .off, en := 0, pwrFailN := false, phase := .none, ioAttempts := 0 } }

/-- WAKE_N_FALL (R118, R121). -/
def execWakeNFall (s : State) : Answer :=
  .next (if s.ao.thermalShut then (if s.ao.thermalCooled then s.wakeBy 2 else s)
    else if s.enabledSource 0 then s.wakeBy 2 else s)

/-- ALARM (R119): in RETAIN, when device time has reached an alarm value that is not zero and was
greater than device time at the entry to RETAIN. -/
def execAlarm (s : State) : Answer :=
  .next (if s.pwr.mode = .retain ∧ s.enabledSource 1 ∧ s.ao.alarm ≠ 0
      ∧ s.ao.retainTime.toNat < s.ao.alarm.toNat ∧ s.ao.alarm.toNat ≤ s.ao.time.toNat
    then s.wakeBy 3 else s)

/-- LINK_WAKE (R118). -/
def execLinkWake (s : State) : Answer := .next (if s.enabledSource 2 then s.wakeBy 4 else s)

/-- AO has recorded a power-fail power-down as the last one, or one is under way (R116, R118). -/
def State.powerFailed (s : State) : Bool :=
  match s.pwr.pd with
  | some d => d.reason = .powerFail
  | none => s.ao.pdStage ≠ 0 && s.ao.pdReason = .powerFail

/-- POWER_RETURN (R118, R135): PWR_FAIL_N has been high for 10 ms after a power-fail power-down. Where none ran, as
after an AO power-on with PWR_FAIL_N low, it wakes nothing (notes/assumptions 150). -/
def execPowerReturn (s : State) : Answer :=
  let s1 := s.onPwr fun p => { p with pwrFailN := true }
  .next (if s1.powerFailed ∧ s1.enabledSource 3 then s1.wakeBy 5 else s1)

/-- THERMAL_COOLED (R121): the comparator reports the die below 105 °C after a thermal shutdown. -/
def execThermalCooled (s : State) : Answer :=
  .next (if s.ao.thermalShut then s.onAo fun a => { a with thermalCooled := true } else s)

/-- THERMAL_RESTART (R121): the restart time, if it is not zero, has passed since the report. -/
def execThermalRestart (s : State) : Answer :=
  .next (if s.ao.thermalShut ∧ s.ao.thermalCooled ∧ s.ao.thermalRestart ≠ 0 then s.wakeBy 6 else s)

/-- WAKE_GUARD_END (R97): 10 ms have passed since the last fall of PWR_EN[0]. What was latched acts, outside a
power-down. -/
def execWakeGuardEnd (s : State) : Answer :=
  let s1 := s.onAo fun a => { a with guard := false }
  .next (match s1.ao.wakeLatched with
    | some src => if s1.pwr.mode ≠ .off ∧ s1.pwr.pd = none then s1.beginWake src else s1
    | none => s1)

/-- The wake goes on: no power-down has begun in it (R136; notes/assumptions 151). -/
def Pwr.waking (p : Pwr) : Bool := p.mode = .wake && p.pd.isNone

/-- AO_CRYSTAL_RUNS (R80). -/
def execAoCrystalRuns (s : State) : Answer :=
  .next (if s.ao.powered then s.onAo fun a => { a with xtal := true } else s)

/-- PG_IO_RISE (R64, R69): PG_IO is accepted; PWR_EN[3], on a part with the island, and PWR_EN[1]
follow. -/
def execPgIoRise (s : State) : Answer :=
  let s1 := s.onPwr fun p => { p with pgIo := true }
  .next (if s1.pwr.waking ∧ s1.pwr.phase = .waitIo then
    s1.onPwr fun p => { p with
      en := p.en ||| 2 ||| (if s1.islandPresent then 8 else 0)
      phase := .waitCore, coreAttempts := 1 }
  else s1)

/-- PG_RETRY (R122): the enable dropped is asserted again, 10.0 ms after its fall, so that the time of R97 is over. -/
def execPgRetry (s : State) : Answer :=
  .next (if s.pwr.waking then match s.pwr.phase with
    | .dropIo => (s.onPwr fun p => { p with
        en := p.en ||| 1, phase := .waitIo, ioAttempts := p.ioAttempts + 1 }).onAo fun a => { a with guard := false }
    | .dropCore => s.onPwr fun p => { p with
        en := p.en ||| 2, phase := .waitCore, coreAttempts := p.coreAttempts + 1 }
    | _ => s
  else s)

/-- PG_CORE_RISE (R98, R124): phase B begins; in HOLD MG starts on the RC and the device stays in HOLD. -/
def execPgCoreRise (s : State) : Answer :=
  .next (s.onPwr fun p =>
    if p.waking ∧ p.phase = .waitCore then { p with pgCore := true, phase := .coreUp }
    else if p.mode = .hold then { p with pgCore := true, mgRunning := true }
    else { p with pgCore := true })

/-- MG_RESET_RELEASE (R98): MG leaves reset on the RC and the host bus answers as in WAKE. -/
def execMgResetRelease (s : State) : Answer :=
  .next (s.onPwr fun p =>
    if p.waking ∧ p.phase = .coreUp ∧ !p.rstHeld then { p with phase := .waitLock, mgRunning := true }
    else p)

/-- PLL_LOCK (R98): the reference runs, and its frequency is held good from then on (notes/assumptions 138). -/
def execPllLock (s : State) : Answer :=
  .next (if s.pwr.waking ∧ s.pwr.phase = .waitLock then
    (s.onPwr fun p => { p with phase := .clocked, mainLock := true }).onMgmt fun m => { m with
      refRunning := true, refInTol := s.ao.xtal }
  else s)

/-- ISLANDS_RESET_RELEASE (R61; 17_ryine R921): the main islands leave reset and the NID straps are
sampled. -/
def execIslandsResetRelease (nid : Fin 16) (s : State) : Answer :=
  .next (if s.pwr.waking ∧ s.pwr.phase = .clocked then
    (s.onPwr fun p => { p with phase := .checkA }).onLink fun l => { l with nid := nid }
  else s)

/-- PG_MEM_RISE (R100): training begins. -/
def execPgMemRise (s : State) : Answer :=
  .next (s.onPwr fun p =>
    if p.waking ∧ p.phase = .waitMem then { p with pgMem := true, phase := .training }
    else { p with pgMem := true })

/-- External memory is given up in a wake: PWR_EN[2] is dropped without retry and MEM_ABSENT is set (R131). -/
def State.memoryFailed (s : State) : State :=
  (s.changeMode fun p => { p with phase := .ready, en := p.en &&& 0xB, memAbsent := true, wakeMemAbsent := true }).onSilt
    fun x => { x with memStat := 1 }

/-- MEMORY_TRAINING_DONE (R131; 06_silt R376): the store lies in external memory from now on, or the
training failed, PWR_EN[2] is dropped and MEM_ABSENT is set. -/
def execMemoryTrainingDone (ok : Bool) (s : State) : Answer :=
  .next (if s.pwr.waking ∧ s.pwr.phase = .training then
    if ok then
      (s.onPwr fun p => { p with phase := .ready }).onSilt fun x => { x with
        external := true, memStat := 3, extChunks := memChunks s.pwr.memCfg }
    else s.memoryFailed
  else s)

/-- BOOT_COMPLETE (R102, R104, R116; 18_management R1018): RUN or REDUCED is entered with MODE_CHANGE,
pwr.wake_cause is set, an unclean power-down is reported and the WAKE record is logged. -/
def execBootComplete (s : State) : Answer :=
  .next (if s.pwr.waking ∧ s.pwr.phase = .ready then
    let c := s.pwr.causeWord
    let s1 := s.changeMode fun p => { p with mode := .run, phase := .none, wakeCause := c }
    let s2 := if s1.ao.pdUnclean ∧ !s1.ao.pdReported then
        (s1.raise0 0x0B 0 (BitVec.setWidth 16 s1.ao.lastPd)).onAo fun a => { a with pdReported := true }
      else s1
    s2.logRecord 0xCC (BitVec.setWidth 8 c) (BitVec.setWidth 16 s2.ao.lastPd)
  else s)

/-- PWR_FAIL_N_GLITCH (R105): a pulse that lasted 1 µs or more is counted. -/
def execPwrFailNGlitch (counted : Bool) (s : State) : Answer :=
  .next (if counted ∧ s.ao.powered then
    s.onAo fun a => { a with
      glitches := satInc a.glitches
      lastPd := (a.lastPd &&& 0xFF00FFFF) ||| fld (satInc a.glitches).toNat 16 }
  else s)

/-- PG_K_CHANGE (R69, R70; 13_kaolin_island R753): ISLAND_POWER is raised, the main mode does not change,
and the mirror of the island keeps its last values while PG_K is low. -/
def execPgKChange (level : Bool) (s : State) : Answer :=
  .next (if !s.islandPresent ∨ level = s.pwr.pgK then s
  else ((s.onPwr fun p => { p with pgK := level }).onLegal fun l => { l with
      mirror := if level then none else some s.island }).raise0 0x0A 0 (if level then 1 else 0))

/-- MEM_CFG_COMMIT (R101): the value written reaches both copies of the configuration record. -/
def execMemCfgCommit (s : State) : Answer :=
  .next (if s.pwr.memCfgPending ∧ s.analog.flashOk then
    (s.onMgmt fun m => { m with memCfgFlash := s.pwr.memCfg }).onPwr fun p => { p with memCfgPending := false }
  else s)

/-! ### Mode requests (R82 to R84, R139 to R141) -/

/-- A mode request is refused (R82). -/
def State.refuseMode (s : State) (v : Word) : State :=
  (s.onPwr fun p => { p with reqRefused := true }).raise0 0x09 0 v

/-- A mode request is accepted without effect (R83, R139). -/
def State.acceptMode (s : State) : State := s.onPwr fun p => { p with reqRefused := false }

/-- Accesses to HV_MODE_REQ act in the modes that serve it (R92, R1099, R151). A low level on RST_N outside a power-down
holds MG itself in reset; in a power-down it is not acted on (R142). -/
def State.modeReqServed (s : State) : Bool :=
  s.pwr.mgRunning && s.pwr.mode ≠ .hold && s.pwr.mode ≠ .retain && s.pwr.mode ≠ .off

/-- Output of Grit is blocked (15_grit R872). -/
def Grit.blocked (g : Grit) : Bool := g.raw || g.source.toList.all fun x => x.role = .failed

/-- grit.stat (15_grit, "Grit parameters"). -/
def Grit.stat (g : Grit) : Par :=
  let r (x : Source) : Nat := match x.role with
    | .standby => 0
    | .active => 1
    | .failed => 2
  fld (r g.source[0]) 0 ||| fld (r g.source[1]) 2 ||| flag g.blocked 4 ||| flag g.raw 5

/-- GRIT_BLOCKED at the start or the end of a blocked period (15_grit R873): cause 1 sources, 2 RAW. -/
def State.gritBlockEvent (s : State) (cause : Nat) : State :=
  s.raiseBoth isEnabled 0x91 (BitVec.ofNat 8 ((if s.grit.blocked then 1 else 0) + 2 * cause))
    (BitVec.setWidth 16 s.grit.stat)

/-- RAW ends (15_grit R875, R878): the words on their way to window 0 are discarded. -/
def State.endRaw (s : State) : State :=
  if !s.grit.raw then s
  else
    let s1 := s.onGrit fun g => { g with
      raw := false, rawBits := [], rawFifo := [], rand := vmod g.rand 0 fun r => { r with words := [] } }
    if s1.grit.blocked then s1 else s1.gritBlockEvent 2

/-- A request for RUN (R82, R139, R140, R61): it leaves SERVICE, ends the drain to SERVICE, is accepted
without effect in RUN and REDUCED, and is refused elsewhere. RAW ends when SERVICE is left
(15_grit R875). `v` is the value written. -/
def State.requestRun (s : State) (v : Word) : State :=
  if s.pwr.pd.isSome then (if s.pwr.mode.running then s.acceptMode else s.refuseMode v)
  else match s.pwr.mode, s.pwr.target with
    | .service, none => s.endRaw.changeMode fun p => { p with mode := .run, reqRefused := false }
    | .run, some .service | .reduced, some .service =>
      s.onPwr fun p => { p with target := none, drain := false, reqRefused := false }
    | .run, none | .reduced, none => s.acceptMode
    | _, _ => s.refuseMode v

/-- A request for SERVICE (R84, R139, R141): the drain begins. -/
def State.requestService (s : State) (v : Word) : State :=
  if s.pwr.pd.isSome then (if s.pwr.mode = .service then s.acceptMode else s.refuseMode v)
  else match s.pwr.mode, s.pwr.target with
    | .service, none | .run, some .service | .reduced, some .service => s.acceptMode
    | .run, none | .reduced, none =>
      s.onPwr fun p => { p with target := some .service, drain := true, reqRefused := false }
    | _, _ => s.refuseMode v

/-- A request for RETAIN (R61, R115, R138): accepted in SERVICE, it starts a power-down. -/
def State.requestRetain (s : State) (v : Word) : State :=
  match s.pwr.mode, s.pwr.target, s.pwr.pd with
  | .service, none, none =>
    (s.endRaw.onPwr fun p => { p with reqRefused := false }).beginPd .retainRequest false
  | _, some .retain, _ => s.acceptMode
  | _, _, _ => s.refuseMode v

/-- A write of HV_MODE_REQ (R82). MODE_REFUSED carries the value as written (04_tenancy, "Events";
notes/assumptions 152). -/
def State.modeRequest (s : State) (v : Word) : State :=
  if !s.modeReqServed then s
  else match (v.toNat % 8) with
    | 1 => s.requestRetain v
    | 3 => s.requestRun v
    | 5 => s.requestService v
    | _ => s.refuseMode v

/-- RUN_REQUEST (R139, R140). -/
def execRunRequest (s : State) : Answer := .next (s.modeRequest 3)
/-- SERVICE_REQUEST (R84). -/
def execServiceRequest (s : State) : Answer := .next (s.modeRequest 5)
/-- RETAIN_REQUEST (R115). -/
def execRetainRequest (s : State) : Answer := .next (s.modeRequest 1)
/-- INVALID_MODE_REQUEST (R82): a code that is not accepted. A value whose code is one of the three is
handled as the request that it is. -/
def execInvalidModeRequest (value : Word) (s : State) : Answer := .next (s.modeRequest value)

/-- A job is DISPATCHED or ACTIVE here, or its legal issue is awaited (R84; 05_loam R316). -/
def State.jobsRunning (s : State) : Bool :=
  (List.finRange 4).any fun h => s.loam.head[h].running.isSome || s.loam.head[h].reserved.isSome

/-- SERVICE_ENTRY (R84): the drain is complete. -/
def execServiceEntry (s : State) : Answer :=
  .next (if s.pwr.target = some .service ∧ s.pwr.mode.running ∧ !s.jobsRunning ∧ s.pwr.pd = none then
    s.changeMode fun p => { p with mode := .service, target := none, drain := false }
  else s)

end Sys2Proof.Machine
end

