-- ==== Sys2Proof/Machine/Weigh.lean ====
section
/-! DEFINITION. The weighing chain: the weight arithmetic, zero and stability, the inhibiting conditions, and
records with their check code and field text (14_weighing). -/

namespace Sys2Proof.Machine

/-! ### Legal parameters in use (14_weighing, "Legal parameters") -/

/-- Legal parameter 0x4200 + k in use. -/
def Island.lp (i : Island) (k : Nat) : Par := if h : k < 32 then i.live[k] else 0

/-- Max, e. -/
def Island.maxE (i : Island) : Nat := (i.lp 0).toNat
/-- Cell `n` is enabled. -/
def Island.cell (i : Island) (n : Fin 4) : Bool := bit (i.lp 4) n.val
/-- Number of cells enabled. -/
def Island.cells (i : Island) : Nat := ((List.finRange 4).filter fun n => i.cell n).length
/-- A 16-bit field of a parameter as a signed number. -/
def signed16 (n : Nat) : Int := if n < 32768 then n else (n : Int) - 65536
/-- A 32-bit live value as reported. -/
def live32 (x : Int) : Par :=
  if -2147483648 ≤ x ∧ x ≤ 2147483647 then BitVec.ofInt 32 x else Config.liveOverflow x

/-! ### Results (R807, R808) -/

/-- The clamp of r_i. -/
def clampR (x : Int) : Int := limitTo x (-8388607) 8388607

/-- r_i from a signal result and the sense result of the same period. -/
def ratioR (sig sns : Int) : Int :=
  if sns = 0 then clampR (Config.ratioUndefined sig)
  else clampR (roundHalfUp ((2 ^ 29 * sig : Int) / (sns : Rat)))

/-- round(k_i x r_i / 32,768), zero for a cell that is not enabled. -/
def Island.term (i : Island) (n : Fin 4) : Int :=
  if i.cell n then roundHalfUp (((bits (i.lp (5 + n.val)) 0 16 : Nat) * i.r[n] : Int) / (32768 : Rat)) else 0

/-- The terms of the four cells. -/
def Island.terms (i : Island) : List Int := (List.finRange 4).map i.term

/-- R - Z. -/
def Island.rz (i : Island) : Int := i.terms.foldl (· + ·) 0 - (i.lp 9).toInt

/-- g64 + z64. -/
def Island.gross (i : Island) : Int :=
  roundHalfUp ((i.rz * ((i.lp 0xA).toNat : Int) : Int) / (262144 : Rat))

/-- 1/64 e rounded to whole e, half away from zero. -/
def wholeE (g : Int) : Int := if 0 ≤ g then (g + 32) / 64 else -((-g + 32) / 64)

/-- G: displayed gross, e. -/
def Island.dispGross (i : Island) : Int := wholeE i.g64
/-- N: net, e. -/
def Island.net (i : Island) : Int := i.dispGross - i.tare
/-- OVER. -/
def Island.over (i : Island) : Bool := 64 * ((i.maxE : Int) + 9) < i.g64
/-- UNDER. -/
def Island.under (i : Island) : Bool := i.g64 < -64 * 20
/-- Centre of zero with tare inactive. -/
def Island.centre (i : Island) : Bool := i.g64.natAbs ≤ 16 && i.tare = 0

/-- D3 flags (13_kaolin_island, "The protective interface"). -/
def Island.d3 (i : Island) : Nat :=
  (if i.stable then 1 else 0) + (if i.centre then 2 else 0) + (if i.tare ≠ 0 then 4 else 0)
    + (if i.preset then 8 else 0) + (if i.over then 16 else 0) + (if i.under then 32 else 0)

/-- The zero changes: g64 follows it. -/
def Island.setZero (i : Island) (z : Int) : Island := { i with g64 := i.g64 + i.z64 - z, z64 := z }

/-- Stability: the last weigh.stab.window results of g64 span no more than the band. -/
def Island.steady (i : Island) : Bool :=
  let n := bits (i.lp 0xF) 16 8
  let w := i.window.take n
  n ≤ w.length && w.all fun a => w.all fun b => a - b ≤ (bits (i.lp 0xF) 0 8 : Nat)

/-- A result period ends: r_i, g64 and stability. -/
def Island.takeResult (i : Island) (sig : Vector (BitVec 24) 4) (sns drv : BitVec 24) : Island :=
  let q : Rat := if drv.toInt = 0 then 0 else (sns.toInt * 65536 : Int) / (drv.toInt : Rat)
  let w := roundHalfUp q
  let i1 := { i with
    r := Vector.ofFn fun n => ratioR sig[n].toInt sns.toInt
    sns := if drv.toInt = 0 ∨ w < 0 ∨ 4294967295 < w then Config.senseUndefined sns.toInt drv.toInt else BitVec.ofInt 32 w
    results := i.results + 1 }
  let g := i1.gross - i.z64
  let i2 := { i1 with g64 := g, window := (g :: i.window).take 50 }
  { i2 with stable := i2.steady }

/-! ### Inhibiting conditions (R818 to R823) -/

/-- SNS / DRV lies outside weigh.sns_bounds. -/
def Island.senseOut (i : Island) (sns drv : BitVec 24) : Bool :=
  let lo := bits (i.lp 0x12) 0 16
  let hi := bits (i.lp 0x12) 16 16
  if drv.toInt = 0 then (Config.senseUndefined sns.toInt 0).toNat < lo || hi < (Config.senseUndefined sns.toInt 0).toNat
  else
    let q : Rat := (sns.toInt * 65536 : Int) / (drv.toInt : Rat)
    q < lo || (hi : Rat) < q

/-- DRV lies outside 90 % to 102 % of VDDA_K, given on the scale of DRV. -/
def excitationOut (drv : BitVec 24) (vddaK : Int) : Bool :=
  100 * drv.toInt < 90 * vddaK || 102 * vddaK < 100 * drv.toInt

/-- Slices whose mean uncorrected code of ZERO or of REF differs from its nominal code by more than 655. -/
def badSlices (zero ref : List (Fin 5 × Rat)) : Nat :=
  ((List.finRange 5).filter fun n =>
    (zero.any fun e => e.1 = n && (655 < e.2 - 32768 || 655 < 32768 - e.2))
      || (ref.any fun e => e.1 = n && (655 < e.2 - 57344 || 655 < 57344 - e.2))).length

/-- Runs of results outside the bounds of SNS / DRV, and at a clamp. -/
def Island.countRuns (i : Island) (sns drv : BitVec 24) : Island :=
  { i with
    snsRun := if i.senseOut sns drv then min 3 (i.snsRun + 1) else 0
    sigRun := Vector.ofFn fun (n : Fin 4) =>
      if i.cell n && i.r[n].natAbs = 8388607 then min 3 (i.sigRun[n] + 1) else 0 }

/-- A weighing cause as a bit of weigh.inhibit. -/
def causeBit (b : Bool) (n : Nat) : Word := if b then BitVec.ofNat 16 (2 ^ n) else 0

/-- Marked slices. -/
def Island.marks (i : Island) : Nat := ((List.finRange 5).filter fun n => i.marked[n]).length

/-- Highest sequence held in any valid slot. -/
def Island.highest (i : Island) : Nat := i.records.foldl (fun n e => max n e.2.seq.toNat) 0

/-- The causes of the table "Inhibiting conditions" without CELL_FAULT and ZERO_INIT. SLICE and SEQ_END stay
once they have come (latched). -/
def Island.wireCauses (i : Island) (drv : BitVec 24) (vddaK : Int) (zero ref : List (Fin 5 × Rat)) : Word :=
  let t := i.lp 0x17
  causeBit (3 ≤ i.snsRun) 0
    ||| (List.finRange 4).foldl (fun w (n : Fin 4) => w ||| causeBit (3 ≤ i.sigRun[n]) (1 + n.val)) 0
    ||| causeBit (excitationOut drv vddaK) 6
    ||| causeBit (2 ≤ badSlices zero ref) 7
    ||| causeBit (2 ≤ i.marks) 8
    ||| causeBit (i.temp < signed16 (bits t 0 16) || signed16 (bits t 16 16) < i.temp) 10
    ||| causeBit (i.highest = 0xFFFFFFFF) 11
    ||| (i.causes &&& 0x0900)

/-- Dg of the corner-load test. -/
def Island.cornerDg (i : Island) : Int := i.term 0 + i.term 2 - (i.term 1 + i.term 3)

/-- The corner-load test applies, and fails. -/
def Island.cornerTest (i : Island) : Option Bool :=
  if i.cells = 4 ∧ ((bits (i.lp 0x13) 16 16 : Nat) : Int) ≤ i.dispGross then
    some (decide ((bits (i.lp 0x13) 0 8 : Int) * i.rz < 1024 * (i.cornerDg.natAbs : Int)))
  else none

/-- The cell zero test applies, and the first enabled cell that fails it. -/
def Island.zeroTest (i : Island) : Option (Option (Fin 4)) :=
  if i.stable ∧ i.centre then
    some ((List.finRange 4).find? fun n =>
      i.cell n && (i.lp 0x14).toNat < (i.r[n] - (i.lp (0x18 + n.val)).toInt).natAbs)
  else none

/-- The cell tests and CELL_FAULT (R820, R821): `w` are the other causes, which may keep them from being
evaluated. -/
def Island.cellTests (i : Island) (w : Word) : Island :=
  if w &&& 0x00DF ≠ 0 then i
  else
    let i1 := if i.cornerTest.isSome then { i with dg := i.cornerDg.natAbs } else i
    let z : Option (Fin 4) := i.zeroTest.getD none
    match i.cornerTest, i.zeroTest with
    | none, none => i
    | a, _ =>
      if a = some true ∨ z.isSome then
        { i1 with failRun := min 3 (i.failRun + 1), passRun := 0
                  suspect := if z.isSome then z else Config.cornerSuspect i.terms }
      else
        { i1 with passRun := min 10 (i.passRun + 1), failRun := 0 }

/-- CELL_FAULT after an evaluation: it begins after 3 failed ones and ends after 10 passed ones. -/
def Island.cellFault (i : Island) : Bool :=
  3 ≤ i.failRun || (i.causes &&& 0x0020 ≠ 0 && i.passRun < 10)

/-- The zero, its offset and the tare are lost (R817). -/
def Island.loseZero (i : Island) : Island :=
  { i with g64 := i.g64 + i.z64, z64 := 0, zInit := 0, tare := 0, preset := false, moves := []
           causes := i.causes ||| 0x0200 }

/-- A latched cause or the open seal keeps weighing from being OPERATIONAL. -/
def Island.blockedBySeal (i : Island) : Bool := i.latched ≠ 0 || i.sealOpen

/-- The initial zero (14_weighing, "Zero, tare and stability"). -/
def Island.initialZero (i : Island) : Island :=
  let p := i.lp 0xC
  let g := i.g64 + i.z64
  if i.causes = 0x0200 ∧ !i.blockedBySeal ∧ i.stable
      ∧ 64 * signed16 (bits p 0 16) ≤ g ∧ g ≤ 64 * signed16 (bits p 16 16) then
    { i.setZero g with zInit := g, causes := 0 }
  else i

/-- Zero tracking (R816): z64 moves toward g64 + z64 as far as the rate leaves within the last second. -/
def Island.track (i : Island) (now : Nat) : Island :=
  let p := i.lp 0xE
  let m := i.moves.filter fun e => now < e.1 + 1000000
  let room := 4 * bits p 8 4 - m.foldl (fun n e => n + e.2) 0
  let zr : Int := 64 * ((i.lp 0xD).toNat : Int)
  if bit p 0 ∧ i.causes &&& 0x0200 = 0 ∧ i.stable ∧ i.tare = 0 ∧ i.g64.natAbs ≤ 32 then
    let z := limitTo (slewTo i.z64 (i.z64 + i.g64) (room : Nat)) (i.zInit - zr) (i.zInit + zr)
    let d := (z - i.z64).natAbs
    if d = 0 then { i with moves := m } else { i.setZero z with moves := (now, d) :: m }
  else { i with moves := m }

/-- The conditions are evaluated at a result (R817 to R821). -/
def Island.evaluate (i : Island) (sns drv : BitVec 24) (vddaK : Int) (zero ref : List (Fin 5 × Rat)) (now : Nat) :
    Island :=
  let i1 := i.countRuns sns drv
  let w := i1.wireCauses drv vddaK zero ref
  let i2 := i1.cellTests w
  let fault := i2.cellFault
  let c := w ||| causeBit fault 5
  let i3 := if i.causes &&& 0x0020 ≠ 0 ∧ !fault then { i2 with suspect := none } else i2
  let i4 := { i3 with causes := c ||| (i.causes &&& 0x0200) }
  let i5 := if c &&& ~~~i.causes ≠ 0 then i4.loseZero else i4
  if i5.causes &&& 0x0200 ≠ 0 then i5.initialZero else i5.track now

/-! ### Slices (R801 to R806) -/

/-- weigh.slices (14_weighing, "Live values"). -/
def Island.slices (i : Island) : Par :=
  BitVec.ofNat 32 ((List.finRange 4).foldl (fun n (k : Fin 4) => n ||| 2 ^ (i.role[k]).val) 0)
    ||| fld i.marked.toNat 5 ||| fld i.spare.val 12

/-- A measured correction is put in force, held at its bounds; beyond one the slice is marked (R803, R804). -/
def Island.correct (i : Island) (n : Fin 5) (o g t : Int) : Island :=
  let p := i.lp 0x15
  let bo : Int := (bits p 0 8 : Nat)
  let bg : Int := (bits p 8 8 : Nat)
  let bt : Int := (bits p 16 7 : Nat)
  let y := (limitTo o (-bo) bo, limitTo g (-bg) bg, limitTo t (-bt) bt)
  { i with corr := i.corr.set n y
           marked := if y = (o, g, t) then i.marked else i.marked ||| BitVec.ofNat 5 (2 ^ n.val) }

/-- The spare takes the role of a slice, which becomes the spare. -/
def Island.swapSlice (i : Island) (n : Fin 5) : Island :=
  { i with role := mapEach (fun (k : Fin 5) => if k = n then i.spare else k) i.role
           spare := n
           served := (i.served.filter fun k => k ≠ n) ++ [i.spare] }

/-- A rotation (R802, R805): a marked slice is replaced first, and with a marked one out of service rotation
has stopped. -/
def Island.rotate (i : Island) : Island :=
  if i.marked[i.spare] then i
  else match i.role.toList.find? fun k => i.marked[k] with
    | some k => i.swapSlice k
    | none => match i.served with
      | k :: _ => i.swapSlice k
      | [] => i

/-! ### Records (14_weighing, "Records") -/

/-- The 32-bit words of a record (R827): word 7 carries the rest of the check code, the state and the
duplicates. -/
def Record.words (r : Record) : List Par :=
  [r.seq, r.net, BitVec.setWidth 32 r.tare ||| flag r.preset 31, r.word3,
   BitVec.ofNat 32 r.time.toNat, BitVec.ofNat 32 (r.time.toNat / 2 ^ 32),
   BitVec.ofNat 32 (r.check.toNat / 256),
   fld (r.check.toNat % 256) 0 ||| fld (if r.printed then 2 else 1) 8 ||| fld r.dups.toNat 12]

/-- The check code of a record (R828): the first 40 bits of the HMAC of 26 bytes. -/
def Record.code (r : Record) (serial : Par) (key : BitVec 256) : BitVec 40 :=
  let m := bytesBE serial.toNat 4 ++ (r.words.take 5).flatMap (fun w => bytesBE w.toNat 4)
    ++ bytesBE (r.time.toNat / 2 ^ 32) 2
  BitVec.ofNat 40 (natBE ((hmacSha256 (bytesBE key.toNat 32) m).take 5))

/-- The alphabet of the check code. -/
def codeAlphabet : List Char := "0123456789ABCDEFGHJKMNPQRSTVWXYZ".toList

/-- Character `k` of a check code, most significant first. -/
def codeChar (c : BitVec 40) (k : Nat) : Char := codeAlphabet.getD (c.toNat / 2 ^ (35 - 5 * k) % 32) '0'

/-- A check code in two groups of four. -/
def codeText (c : BitVec 40) : String :=
  String.ofList (((List.range 4).map (codeChar c)) ++ [' '] ++ ((List.range 4).map fun k => codeChar c (k + 4)))

/-- A text right-aligned in a width. -/
def padLeft (n : Nat) (t : String) : String := String.ofList (List.replicate (n - t.length) ' ' ++ t.toList)

/-- A text left-aligned in a width. -/
def padRight (n : Nat) (t : String) : String := String.ofList (t.toList ++ List.replicate (n - t.length) ' ')

/-- A number in decimal with at least `n` digits. -/
def decimal (n x : Nat) : String :=
  let t := toString x
  String.ofList (List.replicate (n - t.length) '0' ++ t.toList)

/-- A weight of `n` intervals in the unit, with as many decimals as e has there, without sign (14_weighing,
"Field text"). -/
def weightText (n : Nat) (e : Nat) (kg : Bool) : String :=
  let m := n * (e / 16)
  let base := if kg then 3 else 0
  let x := e % 16
  if x ≤ base + 1 then
    let d := base + 1 - x
    if d = 0 then toString m else toString (m / 10 ^ d) ++ "." ++ decimal d (m % 10 ^ d)
  else toString (m * 10 ^ (x - base - 1))

/-- A weight line: its head in two cells, the value right-aligned in cells 2 to 11, the unit from cell 13. -/
def weightLine (head : String) (n e : Nat) (kg : Bool) : String :=
  padRight 2 head ++ padLeft 10 (weightText n e kg) ++ " " ++ padRight 3 (if kg then "kg" else "g")

/-- The text of the legal field of a record (R829, R833). -/
def Record.fieldText (r : Record) (duplicate : Bool) : List String :=
  let e := bits r.word3 0 8
  let kg := bits r.word3 8 2 = 1
  [if duplicate then "DUPLICATE" else "",
   weightLine "N" r.net.toInt.natAbs e kg,
   if r.tare = 0 then "" else weightLine (if r.preset then "PT" else "T") r.tare.toNat e kg,
   "SEQ" ++ padLeft 13 (toString r.seq.toNat),
   "CHK " ++ codeText r.check]

/-- A record is open: ISSUED and not PRINTED. -/
def Record.isOpen (r : Record) : Bool := !r.printed

/-- Slots of valid records, newest first. -/
def Island.newestFirst (i : Island) : List (Nat × Record) :=
  ((List.range 512).map fun k => (i.newest.val + 512 - k) % 512).filterMap fun j =>
    (sparseFind j i.records).map fun r => (j, r)

/-- Open records. -/
def Island.openRecords (i : Island) : List Record := (i.records.map Prod.snd).filter Record.isOpen

/-- The record of the deciding result (R825, R828): the device time that the island sees with its VALID. -/
def Island.buildRecord (i : Island) (time : BitVec 48) (valid : Bool) : Record :=
  let r : Record :=
    { seq := BitVec.ofNat 32 (i.highest + 1), net := live32 i.net, tare := BitVec.ofNat 31 i.tare, preset := i.preset
      word3 := BitVec.setWidth 32 (BitVec.setWidth 8 (i.lp 1)) ||| fld (bits (i.lp 2) 0 1) 8 ||| flag valid 16
      time := time, check := 0, printed := false, dups := 0 }
  { r with check := r.code i.serial (i.key.getD 0) }

end Sys2Proof.Machine
end

