-- ==== Sys2Proof/Machine/Island.lean ====
section
/-! DEFINITION. The Kaolin island: its states, the protective interface with every command, records, the
legal field, the epoch check and the UK port (13_kaolin_island, 14_weighing). -/

namespace Sys2Proof.Machine

/-! ### State and mirror -/

/-- Lowest cause present while INHIBITED (13_kaolin_island, legal.state; 14_weighing R822). -/
def Island.cause (i : Island) : Nat :=
  if i.state ≠ .inhibited then 0
  else
    let l := i.latched ||| (if i.sealOpen then 0x100 else 0)
    match (List.range 16).find? fun n => l.getLsbD n with
    | some n => n
    | none => match (List.range 16).find? fun n => i.causes.getLsbD n with
      | some n => 16 + n
      | none => 0

/-- Codes of the island states. -/
def IslandState.code : IslandState → Nat
  | .inactive => 0
  | .selfTest => 1
  | .operational => 2
  | .inhibited => 3

/-- legal.state (13_kaolin_island, "Island parameters"). -/
def Island.word (i : Island) (stale : Bool) : Par :=
  fld i.state.code 0 ||| flag i.sealOpen 2 ||| flag stale 3 ||| flag i.noiseFail 4 ||| fld i.cause 8

/-- The island as the mirror has it (R753). -/
def State.mirrored (s : State) : Island := s.legal.mirror.getD s.island

/-- An island event on window 0 and, where the table says so, on the legal role holder: the main side learns it
through the mirror, while PG_K is high and MG runs (R753). -/
def State.islandEvent (s : State) (holder : Bool) (code aux : Byte) (payload : Word) : State :=
  if s.pwr.pgK ∧ s.pwr.mgRunning then
    if holder then s.raiseBoth isHolder code aux payload else s.raise0 code aux payload
  else s

/-- The active legal image. -/
def Island.running (i : Island) : Option LegalImage := i.image[i.active]

/-- The island takes a state (R750); at OPERATIONAL the epoch check falls due (R762, R777). -/
def State.setIsland (s : State) (st : IslandState) : State :=
  if s.island.state = st then s
  else
    let s1 := s.onIsland fun i => { i with state := st }
    let s2 := if st = .operational then s1.onLegal fun l => { l with epochOwed := true, epochStat := 0 } else s1
    s2.islandEvent true 0x81 (byteOf st.code) (BitVec.setWidth 16 (s2.island.word false))

/-- OPERATIONAL while no cause is present, INHIBITED while one is (R750, 14_weighing R822). -/
def State.settleIsland (s : State) : State :=
  let i := s.island
  match i.state with
  | .operational | .inhibited =>
    s.setIsland (if i.blockedBySeal || i.causes ≠ 0 then .inhibited else .operational)
  | _ => s

/-- WEIGH_INHIBIT when the causes present have changed (14_weighing R822). -/
def State.inhibitEvent (s : State) (before : Word) : State :=
  let c := s.island.causes
  if c = before then s
  else
    let low := match (List.range 16).find? fun n => c.getLsbD n with
      | some n => 16 + n
      | none => 0
    s.islandEvent true 0x89 (byteOf low) c

/-- A cause other than ZERO_INIT begins outside weighing: the zero is lost (14_weighing R817). -/
def State.beginCause (s : State) (f : Island → Island) : State :=
  ((s.onIsland fun i => (f i).loseZero).inhibitEvent s.island.causes).settleIsland

/-- PWR_FAIL_N as the island sees it (R747, R792). -/
def State.islandPowerFail (s : State) : Bool := !(s.pwr.pwrFailN && s.pwr.pgCore)
/-- FLASH_OK as the island sees it (R747, R793). -/
def State.islandFlashOk (s : State) : Bool := s.analog.flashOk && s.pwr.pgCore
/-- Device time as the island sees it (R747; 14_weighing R828). -/
def State.islandTime (s : State) : BitVec 48 := if s.pwr.pgCore then s.ao.time else 0

/-- SELF_TEST begins: conversion and weighing stop. -/
def State.beginSelfTest (s : State) : State :=
  (s.onIsland fun i => { i with noiseFail := false, causes := 0 }).setIsland .selfTest

/-- What weighing starts from after SELF_TEST (14_weighing R806, R817). -/
def Island.fresh (i : Island) : Island :=
  { i with z64 := 0, zInit := 0, tare := 0, preset := false, window := [], stable := false, moves := []
           snsRun := 0, sigRun := Vector.replicate 4 0, failRun := 0, passRun := 0, suspect := none
           marked := 0, causes := 0x0200 }

/-! ### Answers of the island -/

/-- No data (R764): the registers take values that the spec does not state. -/
def State.noData (s : State) : Vector Word 4 × State :=
  let d := s.draw
  (Vector.ofFn fun (k : Fin 4) => Config.legNoData d.1 k.val, d.2)

/-- Data words from a list. -/
def dataWords (l : List Nat) : Vector Word 4 := Vector.ofFn fun (k : Fin 4) => BitVec.ofNat 16 (l.getD k.val 0)

/-- Weight data: D0, D1 net, D2 tare, D3 flags. -/
def Island.weightData (i : Island) : Vector Word 4 :=
  let n := (live32 i.net).toNat
  dataWords [n % 65536, n / 65536, i.tare, i.d3]

/-- Sequence data: D0, D1. -/
def seqData (seq : BitVec 32) : Vector Word 4 := dataWords [seq.toNat % 65536, seq.toNat / 65536]

/-- The answer to an issue reaches Loam (R765 to R768, R773): with OK the field is in the head's buffer and the
job is dispatched, unless the head or its path has stopped taking jobs meanwhile: it then stays READY (08_head_ports
R499, R500; 10_motion R574; notes/assumptions 156). -/
def State.issueDone (s : State) (c : LegCommand) (h : Fin 4) (rsp : Byte) (rec : Option Record) : State :=
  match s.loam.head[h].reserved with
  | none => s
  | some j =>
    let x := s.job j
    let s1 := s.onLoamHead h fun l => { l with reserved := none }
    match rec with
    | some r =>
      let dup := bit c.arg 1
      let f : LegalField := { text := r.fieldText dup, font := fieldFont x.fieldWidth x.fieldHeight, legend := false }
      let s2 := s1.raiseVi j.vi 0x88 (byteOf (j.handle.val + (if dup then 16 else 0))) (BitVec.setWidth 16 r.seq)
      if s.dispatches ∧ s.pathTakes h x then
        ((s2.onHead h fun y => { y with field := some f }).onJob j fun y => { y with record := some r.seq }).startJob j
          x.surplusClass (some r.seq)
      else s2
    | none => s1.issueAnswer j rsp x.surplusClass

/-- The answer to PRINTED reaches the cut path (R769). -/
def State.printedDone (s : State) (c : LegCommand) (h : Fin 4) (rsp : Byte) : State :=
  match s.paper.run[h] with
  | none => s
  | some r =>
    if r.phase ≠ .printed ∨ r.record ≠ some c.arg then s
    else if rsp = rspOk then s.afterCut h
    else s.onRun h fun o => o.map fun r => { r with resend := rspRetry rsp }

/-- The island answers a command (R759): a device-source answer takes effect at once, a tenant's is on its way
to the main side (R764), and one that is no longer wanted is discarded (R763, R795). -/
def State.answerLegal (s : State) (c : LegCommand) (rsp : Byte) (data : Option (Vector Word 4))
    (rec : Option Record := none) : State :=
  if c.orphan then s
  else match c.source with
    | .tenant _ =>
      match data with
      | some d => s.onIsland fun i => { i with response := some { cmd := c, rsp := rsp, d := d } }
      | none =>
        let p := s.noData
        p.2.onIsland fun i => { i with response := some { cmd := c, rsp := rsp, d := p.1 } }
    | .loam h => s.issueDone c h rsp rec
    | .cut h => s.printedDone c h rsp

/-! ### The main side of the protective interface -/

/-- An answer is written into VW_LEG_RSP, and LEGAL_RSP raised. -/
def State.legAnswer (s : State) (v : Fin 8) (rsp : Byte) (tag : BitVec 4) : State :=
  (s.onVi v fun x => { x with legRsp := some (rsp, tag) }).raiseVi v 0x80 rsp (BitVec.setWidth 16 tag)

/-- A write of VW_LEG_CMD (R754 to R757). -/
def State.writeLegCmd (s : State) (v : Fin 8) (x : Word) : State :=
  let code := BitVec.setWidth 4 x
  let tag := BitVec.setWidth 4 (x >>> 4)
  if !s.winServes v then s
  else if s.legalHolder ≠ some v then s.legAnswer v rspNoRole tag
  else if s.vi[v].legPending.isSome then
    (s.onLegal fun l => { l with busy := l.busy + 1 }).legAnswer v rspBusy tag
  else
    let s1 := s.onVi v fun y => { y with legRsp := none }
    let p := s1.sendLegal { source := .tenant v, code := code, tag := tag, arg := s.vi[v].legArg, orphan := false }
    match p.2 with
    | some r => p.1.legAnswer v r tag
    | none => p.1.onVi v fun y => { y with legPending := some tag }

/-- LEGAL_RSP (R764): D0 to D3, then VW_LEG_RSP, then the event. -/
def execLegalRsp (s : State) : Answer :=
  .next (match s.island.response with
  | none => s
  | some r =>
    let s1 := s.onIsland fun i => { i with response := none }
    match r.cmd.source with
    | .tenant v =>
      if r.cmd.orphan then s1
      else (s1.onVi v fun y => { y with legData := r.d, legPending := none }).legAnswer v r.rsp r.cmd.tag
    | _ => s1)

/-- Commands of a source are no longer wanted: the island completes them, and their answers are discarded. -/
def State.orphanLegal (s : State) (t : LegSource → Bool) : State :=
  let mark : LegCommand → LegCommand := fun q => if t q.source then { q with orphan := true } else q
  s.onIsland fun i => { i with
    mailbox := i.mailbox.map mark
    deciding := i.deciding.map mark
    issuing := i.issuing.map fun x => (mark x.1, x.2)
    printing := i.printing.map fun x => (mark x.1, x.2)
    response := i.response.map fun x => { x with cmd := mark x.cmd } }

/-- Answers that are no longer wanted do not reach the main side. -/
def State.dropOrphanRsp (s : State) : State :=
  s.onIsland fun i => { i with response := match i.response with
    | some r => if r.cmd.orphan then none else some r
    | none => none }

/-- LEGAL_CMD_TIMEOUT (R763): a sent command has not been answered within 250 ms. Source 0 is the tenant, 1 to 4
Loam for heads 0 to 3, 5 to 8 the cut path for heads 0 to 3. -/
def execLegalCmdTimeout (src : Fin 9) (s : State) : Answer :=
  let count (u : State) : State := u.onLegal fun l => { l with timeouts := l.timeouts + 1 }
  .next (
    if src.val = 0 then
      match s.legalHolder with
      | none => s
      | some v => match s.vi[v].legPending with
        | none => s
        | some tag =>
          (((count s).orphanLegal fun q => q = .tenant v).dropOrphanRsp.onVi v fun y =>
            { y with legPending := none }).legAnswer v rspUnavailable tag
    else
      let h : Fin 4 := ⟨(src.val - 1) % 4, by omega⟩
      if src.val ≤ 4 then
        match s.loam.head[h].reserved with
        | none => s
        | some j =>
          (((count s).orphanLegal fun q => q = .loam h).onLoamHead h fun l => { l with reserved := none }).issueAnswer
            j rspUnavailable (s.job j).surplusClass
      else match s.paper.run[h] with
        | some r =>
          if r.phase = .printed ∧ !r.resend then
            (count s).orphanLegal fun q => q = .cut h
          else s
        | none => s)

/-- PRINTED_TIMEOUT (R770): PRINTED has not been answered OK within 1 s of the cut. -/
def execPrintedTimeout (h : Fin 4) (s : State) : Answer :=
  .next (match s.paper.run[h] with
  | some r =>
    if r.phase = .printed then (s.withdrawPrinted h).endRun h .failed 4 (s.runAmount h r) else s
  | none => s)

/-! ### Taking commands (R758) -/

/-- The island takes the oldest command of its mailbox, if it is one that the test names and no other is in
progress. -/
def State.takeLegal (s : State) (t : LegCommand → Bool) (f : LegCommand → State → State) : State :=
  let i := s.island
  match i.mailbox with
  | c :: m =>
    if t c ∧ (i.state = .operational ∨ i.state = .inhibited) ∧ i.deciding = none ∧ i.issuing = none
        ∧ i.printing = none then
      f c (s.onIsland fun i => { i with mailbox := m })
    else s
  | [] => s

/-- The command waits for its deciding result (14_weighing R812). -/
def awaitResult (c : LegCommand) (s : State) : State := s.onIsland fun i => { i with deciding := some c }

/-- A command that its source may not send (R760). -/
def refuseLegal (rsp : Byte) (c : LegCommand) (s : State) : State :=
  (s.onIsland fun i => { i with refused := i.refused + 1 }).answerLegal c rsp none

/-- ZERO (R812, R813). -/
def execZero (s : State) : Answer := .next (s.takeLegal (fun c => c.code = 1) awaitResult)
/-- TARE (R812, R814). -/
def execTare (s : State) : Answer := .next (s.takeLegal (fun c => c.code = 2) awaitResult)
/-- TARE_CLEAR (R812, R815). -/
def execTareClear (s : State) : Answer := .next (s.takeLegal (fun c => c.code = 3) awaitResult)
/-- READ_WEIGHT, query (R812). -/
def execReadWeight (s : State) : Answer :=
  .next (s.takeLegal (fun c => c.code = 4 && !bit c.arg 0 && !bit c.arg 1) awaitResult)
/-- READ_WEIGHT with ISSUE (R812, R824): from the tenant source it is answered SOURCE (R760). -/
def execReadWeightIssue (s : State) : Answer :=
  .next (s.takeLegal (fun c => c.code = 4 && bit c.arg 0 && !bit c.arg 1) fun c u =>
    if c.source.device then awaitResult c u else refuseLegal rspSource c u)

/-- What the island answers to an issue before it looks at the weight (R792, R793, R797). -/
def State.issueGate (s : State) : Option Byte :=
  if s.islandPowerFail then some rspPower
  else if !s.islandFlashOk then some rspNvmWait
  else if s.island.state ≠ .operational then some rspInhibited
  else none

/-- READ_WEIGHT with DUP (14_weighing R832, R833): an open record is rendered again as a duplicate. -/
def execReadWeightDup (s : State) : Answer :=
  .next (s.takeLegal (fun c => c.code = 4 && bit c.arg 1) fun c u =>
    if !c.source.device then refuseLegal rspSource c u
    else match u.issueGate with
      | some r => u.answerLegal c r none
      | none =>
        match u.island.newestFirst.find? fun e => e.2.isOpen && e.2.seq.toNat % 2 ^ 24 = bits c.arg 8 24 with
        | none => u.answerLegal c rspNoRecord none
        | some (k, r) =>
          let r1 := { r with dups := satInc r.dups }
          (u.onIsland fun i => { i with records := sparsePut k r1 i.records }).answerLegal c rspOk
            (some (seqData r.seq)) (some r1))

/-- PRINTED (14_weighing R830; R792, R793): one page program follows for an ISSUED record, or the report is held
while FLASH_OK is 0. -/
def execPrinted (s : State) : Answer :=
  .next (s.takeLegal (fun c => c.code = 5) fun c u =>
    if !c.source.device then refuseLegal rspSource c u
    else if u.islandPowerFail then u.answerLegal c rspPower none
    else match u.island.newestFirst.find? fun e => e.2.seq = c.arg with
      | none => u.answerLegal c rspNoRecord none
      | some (_, r) =>
        if r.printed then u.answerLegal c rspOk none
        else if !u.islandFlashOk then
          (u.onIsland fun i => { i with
            heldPrinted := if i.heldPrinted.contains c.arg then i.heldPrinted else i.heldPrinted ++ [c.arg] }).answerLegal
              c rspOk none
        else u.onIsland fun i => { i with printing := some (c, c.arg) })

/-- STATUS (R759, R776). -/
def execStatus (s : State) : Answer :=
  .next (s.takeLegal (fun c => c.code = 6) fun c u =>
    let i := u.island
    let m := i.running
    let u1 := if bit c.arg 0 then u.onIsland fun i => { i with showId := true } else u
    u1.answerLegal c rspOk (some (dataWords
      [(i.word false).toNat % 65536, i.audit.toNat % 65536, (m.map fun x => x.epoch.toNat).getD 0,
       (m.map fun x => x.version.toNat % 65536).getD 0])))

/-- UNKNOWN_COMMAND (R760). -/
def execUnknownCommand (s : State) : Answer :=
  .next (s.takeLegal (fun c => c.code = 0 || 6 < c.code.toNat) (refuseLegal rspUnknown))

/-! ### The deciding result (14_weighing R812 to R815, R824) -/

/-- ZERO on its deciding result (R813). -/
def State.decideZero (s : State) (c : LegCommand) : State :=
  let i := s.island
  let z := i.z64 + i.g64
  if !i.stable then s.answerLegal c rspMotion none
  else if i.tare ≠ 0 ∨ 64 * (i.lp 0xD).toNat < (z - i.zInit).natAbs then s.answerLegal c rspRange none
  else
    let s1 := s.onIsland fun i => i.setZero z
    s1.answerLegal c rspOk (some s1.island.weightData)

/-- TARE on its deciding result (R814). -/
def State.decideTare (s : State) (c : LegCommand) : State :=
  let i := s.island
  let cfg := i.lp 0x10
  let take (t : Nat) (p : Bool) : State :=
    let s1 := s.onIsland fun i => { i with tare := t, preset := p }
    s1.answerLegal c rspOk (some s1.island.weightData)
  if c.arg = 0 then
    if !i.stable then s.answerLegal c rspMotion none
    else if !bit cfg 0 ∨ i.dispGross ≤ 0 ∨ (i.maxE : Int) < i.dispGross then s.answerLegal c rspRange none
    else take i.dispGross.toNat false
  else if !bit cfg 1 ∨ i.maxE < c.arg.toNat then s.answerLegal c rspRange none
  else take c.arg.toNat true

/-- An issue on its deciding result (R824): the record is built and its ISSUED commit begins. -/
def State.decideIssue (s : State) (c : LegCommand) : State :=
  let i := s.island
  match s.issueGate with
  | some r => s.answerLegal c r none
  | none =>
    if i.over ∨ i.under then s.answerLegal c rspRange none
    else if !i.stable then s.answerLegal c rspMotion none
    else if i.net < (i.lp 3).toNat then s.answerLegal c rspBelowMin none
    else s.onIsland fun i => { i with
      issuing := some (c, i.buildRecord s.islandTime (s.pwr.pgCore && s.ao.timeValid)) }

/-- The command that awaited this result is decided. -/
def State.decideLegal (s : State) : State :=
  match s.island.deciding with
  | none => s
  | some c =>
    let s1 := s.onIsland fun i => { i with deciding := none }
    let i := s1.island
    if c.code = 3 then
      let s2 := s1.onIsland fun i => { i with tare := 0, preset := false }
      s2.answerLegal c rspOk (some s2.island.weightData)
    else if c.code = 4 ∧ bit c.arg 0 then s1.decideIssue c
    else if i.state ≠ .operational then
      s1.answerLegal c rspInhibited (if c.code = 4 then some (Vector.replicate 4 0) else none)
    else if c.code = 1 then s1.decideZero c
    else if c.code = 2 then s1.decideTare c
    else s1.answerLegal c (if i.over ∨ i.under then rspRange else rspOk) (some i.weightData)

/-- ISSUED_COMMIT (R826, R827): the record is in the slot after the newest, the field is rendered and OK
returned. -/
def execIssuedCommit (s : State) : Answer :=
  .next (match s.island.issuing with
  | none => s
  | some (c, r) =>
    let k : Fin 512 := s.island.newest + 1
    let s1 := match sparseFind k.val s.island.records with
      | some o =>
        if o.isOpen then
          (s.onIsland fun i => { i with lapsed := satInc i.lapsed }).islandEvent true 0x8A 0 (BitVec.setWidth 16 o.seq)
        else s
      | none => s
    let s2 := s1.onIsland fun i => { i with
      issuing := none, records := sparsePut k.val r i.records, newest := k
      heldPrinted := i.heldPrinted.filter fun q => (sparseFind k.val i.records).all fun o => o.seq ≠ q }
    s2.answerLegal c rspOk (some (seqData r.seq)) (some r))

/-- A record takes state PRINTED. -/
def Island.markPrinted (i : Island) (seq : BitVec 32) : Island :=
  { i with records := i.records.map fun e => if e.2.seq = seq then (e.1, { e.2 with printed := true }) else e }

/-- PRINTED_COMMIT (R830). -/
def execPrintedCommit (s : State) : Answer :=
  .next (match s.island.printing with
  | none => s
  | some (c, q) => (s.onIsland fun i => { i.markPrinted q with printing := none }).answerLegal c rspOk none)

/-- FLASH_OK has returned: the reports held are committed (13_kaolin_island R793), unless PWR_FAIL_N is low (R792). -/
def State.commitHeld (s : State) : State :=
  if s.islandFlashOk && !s.islandPowerFail then
    s.onIsland fun i => { i.heldPrinted.foldl Island.markPrinted i with heldPrinted := [] }
  else s

/-! ### UK: text -/

/-- A digit in upper-case hexadecimal. -/
def hexDigit (n : Nat) : Char := "0123456789ABCDEF".toList.getD (n % 16) '0'

/-- A number in upper-case hexadecimal with `k` digits. -/
def hexText (k n : Nat) : String := String.ofList ((List.range k).map fun i => hexDigit (n / 16 ^ (k - 1 - i)))

/-- The identification: "L", version and identifier. -/
def Island.identText (i : Island) : String :=
  match i.running with
  | some m => "L" ++ hexText 8 m.version.toNat ++ hexText 8 m.ident.toNat
  | none => "L"

/-- The displayed weight. -/
def Island.shownWeight (i : Island) : String :=
  (if i.net < 0 then "-" else "") ++ weightText i.net.natAbs (bits (i.lp 1) 0 8) (bit (i.lp 2) 0)

/-- A display frame (13_kaolin_island, "UK port"; R776, R785). -/
def Island.frame (i : Island) : String :=
  let sw := if i.state = .selfTest ∨ i.showId then i.identText
    else if i.state = .operational then i.shownWeight
    else "ERR " ++ hexText 2 i.cause
  "D " ++ sw ++ " " ++ (if bit (i.lp 2) 0 then "kg" else "g") ++ " " ++ hexText 2 (i.d3 % 64 + 64 * i.state.code)

/-- A line is sent on UK. -/
def State.ukSend (s : State) (t : String) : State := s.onIsland fun i => { i with ukTx := t }

/-- A display frame is sent. -/
def State.showFrame (s : State) : State :=
  s.onIsland fun i => { i with ukTx := i.frame, shownAt := some s.now }

/-- DISPLAY_FRAME (R785): at least one per second outside OPERATIONAL and INACTIVE. -/
def execDisplayFrame (s : State) : Answer :=
  .next (match s.island.state with
  | .selfTest | .inhibited => s.showFrame
  | _ => s)

/-- SHOW_ID_END (R776). -/
def execShowIdEnd (s : State) : Answer := .next (s.onIsland fun i => { i with showId := false })

/-! ### Results, slices and temperature -/

/-- WEIGHING_RESULT (14_weighing R807, R812, R817 to R822; R785): the decimator results of the period, the drive
and VDDA_K on one scale, and the mean uncorrected codes of ZERO and REF by slice. -/
def execWeighingResult (sig : Vector (BitVec 24) 4) (sns drv : BitVec 24) (vddaK : Int)
    (zeroMean refMean : List (Fin 5 × Rat)) (s : State) : Answer :=
  let old := s.island.causes
  .next (match s.island.state with
  | .operational | .inhibited =>
    let s1 := s.onIsland fun i => (i.takeResult sig sns drv).evaluate sns drv vddaK zeroMean refMean s.now
    let s2 := ((s1.inhibitEvent old).settleIsland).decideLegal
    let due : Bool := match s2.island.shownAt with
      | some t => t + 100000 ≤ s2.now
      | none => true
    if s2.island.state = .operational ∧ due then s2.showFrame else s2
  | _ => s)

/-- SLICE_ROTATION (14_weighing R802 to R805): the correction measured on a slice is put in force, and the spare
takes over a role. -/
def execSliceRotation (slice : Fin 5) (o g t : Int) (s : State) : Answer :=
  .next (match s.island.state with
  | .operational | .inhibited =>
    let m := s.island.marked
    let s1 := s.onIsland fun i => i.correct slice o g t
    let s2 := if s1.island.marked = m then s1
      else s1.islandEvent false 0x8B (byteOf slice.val) (BitVec.setWidth 16 s1.island.slices)
    s2.onIsland Island.rotate
  | _ => s)

/-- ISLAND_TEMP (14_weighing R823): 1/16 °C. -/
def execIslandTemp (t : Int) (s : State) : Answer :=
  .next (match s.island.state with
  | .inactive => s
  | _ => s.onIsland fun i => { i with temp := t })

/-! ### Island states (R750 to R752) -/

/-- ISLAND_POWER_UP (R750). -/
def execIslandPowerUp (s : State) : Answer :=
  .next (if s.islandPresent ∧ s.island.state = .inactive then
    (s.onIsland fun i => { i with powered := true }).beginSelfTest
  else s)

/-- ISLAND_RESET (R750, R752; 14_weighing R817, R846): what the island holds in RAM is lost. -/
def execIslandReset (s : State) : Answer :=
  let i := s.island
  let s1 := { s with island :=
    { state := i.state, sealOpen := i.sealOpen, serial := i.serial, key := i.key, bootNonce := i.bootNonce
      image := i.image, active := i.active, nextImage := i.nextImage, params := i.params, live := i.live
      audit := i.audit, changes := i.changes, records := i.records, newest := i.newest, lapsed := i.lapsed
      corr := i.corr, temp := i.temp } }
  .next (if i.state = .inactive then s else s1.setIsland .inactive)

/-- ISLAND_CLOCK_FAULT (R750): CLOCK is latched. -/
def execIslandClockFault (s : State) : Answer :=
  .next (match s.island.state with
  | .operational | .inhibited => s.beginCause fun i => { i with latched := i.latched ||| 0x40 }
  | _ => s)

/-- SEAL_CHANGE (R781). -/
def State.sealEvent (s : State) (isOpen : Bool) : State :=
  if s.island.state = .inactive then s
  else s.islandEvent true 0x82 (if isOpen then 1 else 0) (BitVec.setWidth 16 s.island.audit)

/-- SEAL_OPEN (R750, R781). -/
def execSealOpen (s : State) : Answer :=
  .next (if !s.islandPresent ∨ s.island.sealOpen then s
  else
    let s1 := (s.onIsland fun i => { i with sealOpen := true }).sealEvent true
    match s1.island.state with
    | .operational | .inhibited => s1.beginCause id
    | _ => s1)

/-- SEAL_CLOSE (R750, R752, R781): SELF_TEST follows unless a latched cause keeps the island INHIBITED. -/
def execSealClose (s : State) : Answer :=
  .next (if !s.islandPresent ∨ !s.island.sealOpen then s
  else
    let s1 := (s.onIsland fun i => { i with sealOpen := false }).sealEvent false
    if s1.island.state = .inhibited ∧ s1.island.latched = 0 ∧ s1.island.causes &&& 0x0900 = 0 then s1.beginSelfTest
    else s1.settleIsland)

/-! ### Audit trail (R788 to R791) -/

/-- A legal change: the counter and the change log entry, committed with it, and AUDIT_CHANGE. The counter never
decreases (R789): an image change that finds it full leaves it full (notes/assumptions 144). -/
def State.auditChange (s : State) (index : Word) (kind : Byte) (old new : Par) : State :=
  let s1 := s.onIsland fun i => { i with
    audit := satInc i.audit
    changes := ({ counter := satInc i.audit, index := index, kind := kind, old := old, new := new
                  time := s.islandTime } :: i.changes).take 32 }
  s1.islandEvent false 0x83 kind (BitVec.setWidth 16 s1.island.audit)

/-- The image of the next SELF_TEST becomes active (R780). -/
def State.activateImage (s : State) : State :=
  match s.island.nextImage with
  | none => s
  | some k =>
    let id (n : Fin 2) : Par := (s.island.image[n].map fun m => m.ident).getD 0
    (s.onIsland fun i => { i with active := k, nextImage := none }).auditChange Config.imageLogIndex 2
      (id s.island.active) (id k)

/-- SELF_TEST_DONE (R751, R786; 14_weighing R817, R840): the outcome of each check is given, with what the noise
source draws. -/
def execSelfTestDone (imageOk paramsOk nvmOk auditOk crystalOk noiseOk : Bool) (nonce : Par) (key : BitVec 256)
    (s : State) : Answer :=
  .next (if s.island.state ≠ .selfTest then s
  else
    let s1 := s.activateImage
    let i := s1.island
    let l (b : Bool) (n : Nat) : BitVec 16 := if b then BitVec.ofNat 16 (2 ^ n) else 0
    let latched := l (!imageOk || i.running.isNone) 1 ||| l (!paramsOk) 2 ||| l (!nvmOk) 3 ||| l (!auditOk) 4
      ||| l (i.key.isNone && !noiseOk) 5 ||| l (!crystalOk) 6 ||| l (!noiseOk) 7 ||| l i.params.isNone 9
    let s2 := s1.onIsland fun i => { i.fresh with
      latched := latched
      bootNonce := if noiseOk then nonce else i.bootNonce
      key := if i.key.isNone ∧ noiseOk then some key else i.key
      live := if latched = 0 then i.params.getD i.live else i.live }
    (s2.setIsland .inhibited).inhibitEvent 0)

/-! ### Epochs (R777, R778; 18_management R1035) -/

/-- A main image and the island's legal image mismatch (R777). -/
def epochsDiffer (m : MainImage) (l : LegalImage) : Bool :=
  m.epoch.toNat < l.peerLo.toNat || l.peerHi.toNat < m.epoch.toNat
    || l.epoch.toNat < m.peerLo.toNat || m.peerHi.toNat < l.epoch.toNat

/-- EPOCH_PAIR (18_management, event 0xCE): 1 match, 2 mismatch, 3 skipped. -/
def State.logEpochs (s : State) (m : MainImage) (l : Option LegalImage) (result : Nat) (forced : Bool) : State :=
  let lo (f : LegalImage → Word) : Nat := (l.map fun x => sat (f x).toNat 255).getD 0
  s.logRecord 0xCE (byteOf (result + (if forced then 4 else 0))) m.epoch
    (fld ((l.map fun x => x.epoch.toNat).getD 0) 0)
    (fld (lo LegalImage.peerLo) 0 ||| fld (lo LegalImage.peerHi) 8 ||| fld (sat m.peerLo.toNat 255) 16
      ||| fld (sat m.peerHi.toNat 255) 24)

/-- The image that runs. -/
def State.mainImage (s : State) : Option MainImage := s.mgmt.running.bind fun a => s.mgmt.image[a]

/-- EPOCH_CHECK (R777): once a mode has been reached and the mirror reports the island OPERATIONAL. -/
def execEpochCheck (s : State) : Answer :=
  .next (match s.mainImage, s.island.running with
  | some m, some l =>
    if s.islandPresent ∧ s.pwr.pgK ∧ s.island.state = .operational ∧ s.pwr.islandsRun ∧ s.pwr.mode ≠ .wake then
      let bad := epochsDiffer m l
      let s1 := s.onLegal fun x => { x with epochStat := if bad then 2 else 1, epochOwed := false }
      let s2 := s1.logEpochs m (some l) (if bad then 2 else 1) false
      if bad then s2.islandEvent true 0x84 0 l.epoch else s2
    else s
  | _, _ => s)

/-! ### Indices of the island (13_kaolin_island, 14_weighing, "Reference") -/

/-- legal.log: entry k, word w. -/
def Island.logWord (i : Island) (k w : Nat) : Option Par :=
  match i.changes[k]?, w with
  | some e, 0 => some e.counter
  | some e, 1 => some (BitVec.setWidth 32 e.index ||| fld e.kind.toNat 16)
  | some e, 2 => some e.old
  | some e, 3 => some e.new
  | some e, 4 => some (BitVec.ofNat 32 e.time.toNat)
  | some e, 5 => some (BitVec.ofNat 32 (e.time.toNat / 2 ^ 32))
  | none, w => if w < 6 then some 0 else none
  | _, _ => none

/-- Live values 0x4300 + k. -/
def Island.liveWord (i : Island) (k : Nat) : Option Par :=
  match k with
  | 0 => some (live32 i.g64)
  | 1 => some (live32 i.net)
  | 2 => some (fld i.tare 0 ||| flag i.preset 31)
  | 3 => some (fld i.d3 0 ||| fld i.results.toNat 8)
  | 4 => some (BitVec.setWidth 32 i.causes)
  | 5 => some (BitVec.ofInt 32 i.r[0])
  | 6 => some (BitVec.ofInt 32 i.r[1])
  | 7 => some (BitVec.ofInt 32 i.r[2])
  | 8 => some (BitVec.ofInt 32 i.r[3])
  | 9 => some i.sns
  | 10 => some (fld (sat i.dg 65535) 0 ||| fld ((i.suspect.map fun n => n.val).getD 15) 16)
  | 11 => some i.slices
  | 12 => some (if i.highest = 0xFFFFFFFF then Config.liveOverflow (i.highest + 1) else BitVec.ofNat 32 (i.highest + 1))
  | 13 => some (fld i.openRecords.length 0)
  | 14 => some i.lapsed
  | 15 => some (live32 i.z64)
  | 16 => some (live32 i.temp)
  | _ => none

/-- An index of the island's own: legal.epoch_stat and legal.if_stat are the main side's, and the record slots
from 0x5000 on are for UK alone (R841). -/
def Island.index (i : Island) (stale : Bool) (idx : Nat) : Option Par :=
  let m := i.running
  if idx = 0x4000 then some (i.word stale)
  else if idx = 0x4001 then some ((m.map fun x => x.version).getD 0)
  else if idx = 0x4002 then some ((m.map fun x => x.ident).getD 0)
  else if idx = 0x4003 then some ((m.map fun x => BitVec.setWidth 32 x.epoch).getD 0)
  else if idx = 0x4004 then some ((m.map fun x => fld x.peerLo.toNat 0 ||| fld x.peerHi.toNat 16).getD 0)
  else if idx = 0x4005 then some i.serial
  else if idx = 0x4006 then some i.audit
  else if idx = 0x4007 then some i.refused
  else if idx = 0x4008 then some i.bootNonce
  else if 0x4100 ≤ idx ∧ idx < 0x4200 then i.logWord ((idx - 0x4100) / 8) (idx % 8)
  else if 0x4200 ≤ idx ∧ idx < 0x421C then
    some ((i.params.map fun p => if h : idx - 0x4200 < 32 then p[idx - 0x4200] else 0).getD 0)
  else if 0x4300 ≤ idx ∧ idx < 0x4400 then i.liveWord (idx - 0x4300)
  else if 0x4400 ≤ idx ∧ idx < 0x4800 then
    some (((i.newestFirst[(idx - 0x4400) / 8]?).bind fun e => e.2.words[idx % 8]?).getD 0)
  else none

/-! ### UK: frames of the tester (R782 to R784, R788, R839) -/

/-- The UK port answers while the island runs. -/
def State.ukServes (s : State) : Bool := s.islandPresent && s.island.state ≠ .inactive

/-- UK_I (13_kaolin_island, "UK port"). -/
def execUkI (s : State) : Answer :=
  let i := s.island
  let n (f : LegalImage → Nat) : Nat := (i.running.map f).getD 0
  .next (if s.ukServes then s.ukSend ("ID " ++ hexText 8 i.serial.toNat ++ " " ++ hexText 8 (n fun m => m.version.toNat)
      ++ " " ++ hexText 8 (n fun m => m.ident.toNat) ++ " " ++ hexText 4 (n fun m => m.epoch.toNat))
    else s)

/-- UK_A (13_kaolin_island, "UK port"; R788). -/
def execUkA (s : State) : Answer :=
  .next (if s.ukServes then s.ukSend ("AUD " ++ hexText 8 s.island.audit.toNat) else s)

/-- UK_R (14_weighing R841): the island's own indices, and the record slots from 0x5000 on. -/
def execUkR (index : Word) (s : State) : Answer :=
  let i := s.island
  let idx := index.toNat
  let v : Option Par :=
    if 0x5000 ≤ idx ∧ idx < 0x6000 then
      some (((sparseFind ((idx - 0x5000) / 8) i.records).bind fun r => r.words[idx % 8]?).getD 0)
    else i.index false idx
  .next (if s.ukServes then s.ukSend (match v with
    | some x => "= " ++ hexText 8 x.toNat
    | none => "! 02") else s)

/-- The encoding and the rules of a legal parameter 0x4200 + k (14_weighing R839), with the stored values. -/
def legalParamOk (p : Nat → Par) (k : Nat) (v : Par) : Bool :=
  let q (n : Nat) : Par := if n = k then v else p n
  let max := (q 0).toNat
  let width := signed16 (bits (q 0xC) 16 16) - signed16 (bits (q 0xC) 0 16)
  let zeroOk : Bool := 5 * width ≤ max
  let rangeOk : Bool := 50 * (q 0xD).toNat ≤ max
  match k with
  | 0 => 100 ≤ max && max ≤ 6000 && zeroOk && rangeOk
  | 1 => v.toNat < 256 && [1, 2, 5].contains (v.toNat / 16) && v.toNat % 16 ≤ 6
  | 2 => v.toNat ≤ 1
  | 3 => 20 ≤ v.toNat
  | 4 => 1 ≤ v.toNat && v.toNat ≤ 15
  | 5 | 6 | 7 | 8 => v.toNat < 65536
  | 0xB => v.toNat ≤ 4
  | 0xC => zeroOk
  | 0xD => rangeOk
  | 0xE => v &&& ~~~0x00000F01 = 0 && bits v 8 4 ≤ 8
  | 0xF => v &&& ~~~0x00FF00FF = 0 && 2 ≤ bits v 16 8 && bits v 16 8 ≤ 50
  | 0x10 => v.toNat ≤ 3
  | 0x11 => v.toNat ≤ 7 && bits v 1 2 ≤ 2
  | 0x13 => v &&& 0x0000FF00 = 0
  | 0x15 => v &&& ~~~0x007FFFFF = 0
  | 0x16 => 100 ≤ v.toNat && v.toNat ≤ 10000
  | 0x17 => -400 ≤ signed16 (bits v 0 16) && signed16 (bits v 0 16) ≤ 880
      && -400 ≤ signed16 (bits v 16 16) && signed16 (bits v 16 16) ≤ 880
  | 9 | 0xA | 0x12 | 0x14 | 0x18 | 0x19 | 0x1A | 0x1B => true
  | _ => false

/-- What keeps a W or U frame from being performed (R783, R784): while PWR_FAIL_N is low no memory program is started
(R792; notes/assumptions 170). -/
def State.ukGate (s : State) : Option String :=
  if !s.island.sealOpen then some "! 01" else if !s.islandFlashOk || s.islandPowerFail then some "! 04" else none

/-- UK_W (R782, R788, R789; 14_weighing R839, R840). -/
def execUkW (index : Word) (v : Par) (s : State) : Answer :=
  let i := s.island
  let k := index.toNat - 0x4200
  let p : Vector Par 32 := i.params.getD (Vector.replicate 32 0)
  let at1 (n : Nat) : Par := if h : n < 32 then p[n] else 0
  .next (if !s.ukServes then s
  else match s.ukGate with
    | some t => s.ukSend t
    | none =>
      if index.toNat < 0x4200 ∨ 0x421C ≤ index.toNat then s.ukSend "! 02"
      else if !legalParamOk at1 k v then s.ukSend "! 03"
      else if at1 k ≠ v ∧ i.audit = BitVec.allOnes 32 then s.ukSend "! 08"
      else
        let s1 := s.onIsland fun i => { i with params := some (if h : k < 32 then p.set k v else p) }
        let s2 := if at1 k = v then s1 else s1.auditChange index 1 (at1 k) v
        s2.ukSend ("= " ++ hexText 8 v.toNat))

/-- UK_U (R780, R783, R784, R789): the container of a legal image goes to the inactive slot. -/
def execUkU (data : List Byte) (s : State) : Answer :=
  let i := s.island
  let m := kuwellLegal data
  let k : Fin 2 := otherArea i.active
  .next (if !s.ukServes then s
  else match s.ukGate with
    | some t => s.ukSend t
    | none =>
      if !kuwellLegalOk data then s.ukSend "! 05"
      else if m.version.toNat < (i.running.map fun x => x.version.toNat).getD 0 then s.ukSend "! 06"
      else if i.audit = BitVec.allOnes 32 then s.ukSend "! 08"
      else (s.onIsland fun i => { i with image := i.image.set k (some m), nextImage := some k }).ukSend "= OK")

/-- UK_MALFORMED_FRAME (16_serial R920). -/
def execUkMalformedFrame (s : State) : Answer := .next (if s.ukServes then s.ukSend "! 07" else s)

/-! ### Arming of duplicates (14_weighing R835, R836) -/

/-- A write of VW_LEG_DUP_HI: from the window of the legal role holder it arms or disarms. -/
def State.writeDupHi (s : State) (v : Fin 8) (x : Word) : State :=
  if s.winServes v ∧ s.legalHolder = some v then
    s.onVi v fun y => { y with
      dupSeq := BitVec.ofNat 24 (y.dupSeq.toNat % 65536 + 65536 * (x.toNat % 256))
      dupHandle := ⟨x.toNat / 256 % 16, by omega⟩
      dupArmed := x.getLsbD 15 }
  else s

/-- DUP_ARM (R835, R836). -/
def execDupArm (vi : Fin 8) (v : Word) (s : State) : Answer := .next (s.writeDupHi vi v)

end Sys2Proof.Machine
end

