-- ==== Sys2Proof/Machine/Mgmt.lean ====
section
/-! DEFINITION. The management core: the mailbox and U0, the event log in flash, updates, the boot record and
the rollback counter (18_management). -/

namespace Sys2Proof.Machine

/-! ### Response codes -/

def mbOk : Byte := 0x00
def mbBusy : Byte := 0x01
def mbUnknown : Byte := 0x02
def mbBadArg : Byte := 0x03
def mbNotNow : Byte := 0x04
def mbNvmWait : Byte := 0x05
def mbFormat : Byte := 0x06
def mbKind : Byte := 0x07
def mbStepping : Byte := 0x0B
def mbEpoch : Byte := 0x0C
def mbOrder : Byte := 0x0D
def mbFlash : Byte := 0x0E
def mbNoSession : Byte := 0x0F

/-! ### Indices 0x3800 on -/

/-- Codes of the session states. -/
def UpdateState.code : UpdateState → Nat
  | .idle => 0
  | .erasing => 1
  | .receiving => 2
  | .epochHeld => 3
  | .done => 4
  | .failed => 5

/-- mgmt.update_stat. -/
def Mgmt.updateStat (m : Mgmt) : Par :=
  fld m.update.code 0 ||| fld m.updateSource.toNat 4 ||| fld m.updateRsp.toNat 8

/-- Trial boots: those of the boot record and the increases that AO holds (R1014). -/
def State.trialCount (s : State) : Nat := s.mgmt.trialBoots + s.ao.trialHeld

/-- mgmt.slot_stat. -/
def State.slotStat (s : State) : Par :=
  fld ((s.mgmt.running.map fun (a : Fin 2) => a.val).getD 0) 0 ||| flag s.pwr.slotB 1 ||| flag s.inTrial 2
    ||| fld s.preferredArea.val 3 ||| flag (s.mgmt.image[(0 : Fin 2)]).isSome 4
    ||| flag (s.mgmt.image[(1 : Fin 2)]).isSome 5 ||| fld (sat s.trialCount 255) 8

/-- The image in the area that does not run. -/
def State.otherImage (s : State) : Option MainImage :=
  s.mgmt.image[otherArea (s.mgmt.running.getD s.preferredArea)]

/-- A record as the eight words of an entry ("The event log"); word 7 of a pending one reads 0 (R1010). -/
def LogRecord.words (r : LogRecord) (committed : Bool) : List Par :=
  let w2 : Par := BitVec.ofNat 32 (r.time.toNat / 2 ^ 32) ||| fld r.code.toNat 16 ||| fld r.aux.toNat 24
  let w3 : Par := BitVec.setWidth 32 r.payload ||| fld r.wake.toNat 16 ||| fld r.mode.toNat 24
  let l : List Par := [r.seq, BitVec.ofNat 32 r.time.toNat, w2, w3, r.word4, r.word5]
  l ++ [BitVec.ofNat 32 (crc32 (l.flatMap fun w => bytesBE w.toNat 4)), if committed then 0x5AC33CA5 else 0]

/-- Oldest sequence held, or the next one while none is (R1010). -/
def State.logFirst (s : State) : Nat :=
  match s.mgmt.log, s.ao.ring with
  | r :: _, _ => r.seq.toNat
  | [], r :: _ => r.seq.toNat
  | [], [] => s.lastSeq + 1

/-- mgmt.sup_k. -/
def Mgmt.supWord (m : Mgmt) (k : Fin 8) : Par :=
  BitVec.setWidth 32 m.sup[k].mV ||| flag m.sup[k].warn 16 ||| flag m.sup[k].fault 17 ||| flag m.supInvalid 18

/-- legal.epoch_stat (13_kaolin_island). -/
def State.epochStatWord (s : State) : Par :=
  BitVec.setWidth 32 s.legal.epochStat ||| fld ((s.mainImage.map fun m => m.epoch.toNat).getD 0) 16

/-- mgmt.wdog_max (R986): 0 from its clearing on, then an interval of Dravfin's own choosing below 1,000 ms. -/
def State.wdogMax (s : State) : Par :=
  if s.now ≤ s.mgmt.wdogFrom then 0 else fld ((Config.wdogInterval s.mgmt.wdogFrom s.now) % 1000) 0

/-- mgmt.ref_count (R984): the count given with the last finding; while the reference is good, a count within its
bounds that the spec leaves to the crystal. -/
def State.refCount (s : State) : Par :=
  if s.pwr.mainLock ∧ s.ao.xtal then fld (24925 + Config.refWindow s.now % 505) 0 else s.mgmt.refCount

/-- The indices of the management core that are not plain parameters. -/
def State.mgmtIndex (s : State) (idx : Nat) : Option Par :=
  let m := s.mainImage
  let n (f : MainImage → Par) : Option Par := some ((m.map f).getD 0)
  match idx with
  | 0x3800 => n fun i => i.version
  | 0x3801 => n fun i => i.build
  | 0x3802 => n fun i => BitVec.setWidth 32 i.epoch
  | 0x3803 => n fun i => fld i.peerLo.toNat 0 ||| fld i.peerHi.toNat 16
  | 0x3804 => n fun i => fld i.stepLo.toNat 0 ||| fld i.stepHi.toNat 16
  | 0x3805 => some s.slotStat
  | 0x3806 => some ((s.otherImage.map fun i => i.version).getD 0)
  | 0x3807 => some (fld s.mgmt.rollback 0 ||| fld ((m.map fun i => i.sv).getD 0) 8
      ||| fld ((s.otherImage.map fun i => i.sv).getD 0) 16)
  | 0x3808 => some s.mgmt.updateStat
  | 0x3809 => some s.mgmt.updateBytes
  | 0x3810 => some (BitVec.ofNat 32 s.logFirst)
  | 0x3811 => some (BitVec.ofNat 32 (s.lastSeq + 1))
  | 0x3812 => some (BitVec.ofNat 32 s.ao.ring.length)
  | 0x3813 => some s.mgmt.logLost
  | 0x3830 => some (flag s.mgmt.refRunning 0 ||| flag s.mgmt.refInTol 1 ||| flag s.ao.xtal 2)
  | 0x3831 => some s.refCount
  | 0x3840 => some s.wdogMax
  | 0x3841 => some s.mgmt.ecc
  | _ => if h : 0x3820 ≤ idx ∧ idx < 0x3828 then some (s.mgmt.supWord ⟨idx - 0x3820, by omega⟩) else none

/-- The 16 words of the info block; in HOLD those of the running image read 0. -/
def State.infoBlock (s : State) : List Par :=
  let img (k : Nat) : Par := if s.pwr.mode = .hold then 0 else (s.mgmtIndex k).getD 0
  [s.part.id, Config.stepping, img 0x3800, img 0x3801, img 0x3802, img 0x3803, img 0x3804,
   (s.mgmtIndex 0x3805).getD 0, (s.mgmtIndex 0x3806).getD 0, (s.mgmtIndex 0x3807).getD 0, s.epochStatWord,
   s.pwr.wakeCause, s.ao.lastPd, BitVec.setWidth 32 s.ao.holdCause, (s.mgmtIndex 0x3810).getD 0,
   (s.mgmtIndex 0x3811).getD 0]

/-! ### The engine (R990 to R996) -/

/-- A command is in progress: accepted and not yet answered (R994). -/
def Mgmt.engaged (m : Mgmt) : Bool := m.command.isSome || m.answer.isSome

/-- The answer of a command waits to be written (R992): data words that it does not return have no stated
value. -/
def State.mbAnswer (s : State) (q : MbCommand) (rsp : Byte) (data : List Nat) : State :=
  let d := s.draw
  let rd : Vector Word 4 := Vector.ofFn fun (k : Fin 4) => match data[k.val]? with
    | some x => BitVec.ofNat 16 x
    | none => Config.mbNoData d.1 k.val
  d.2.onMgmt fun m => { m with answer := some { cmd := q, rsp := rsp, rd := rd } }

/-- A command without data is answered. -/
def State.mbRefuse (s : State) (q : MbCommand) (rsp : Byte) : State := s.mbAnswer q rsp []

/-- ASCII text as bytes. -/
def asciiBytes (t : String) : List Byte := t.toList.map fun ch => byteOf ch.toNat

/-- A line is sent on U0, ended by CR. -/
def State.u0Send (s : State) (t : String) (data : List Byte := []) : State :=
  s.onMgmt fun m => { m with u0Tx := m.u0Tx ++ asciiBytes t ++ [0x0D] ++ data }

/-- The line R ss tt r0 r1 r2 r3. -/
def MbAnswer.line (a : MbAnswer) : String :=
  "R " ++ hexText 2 a.rsp.toNat ++ " " ++ hexText 2 a.cmd.tag.toNat ++ " " ++ hexText 4 a.rd[0].toNat ++ " "
    ++ hexText 4 a.rd[1].toNat ++ " " ++ hexText 4 a.rd[2].toNat ++ " " ++ hexText 4 a.rd[3].toNat

/-- MW_RSP (R990, R992). -/
def Mgmt.rspWord (m : Mgmt) : Word :=
  match m.command, m.rsp with
  | some q, _ => BitVec.ofNat 16 (q.tag.toNat % 16 * 256 + 0x4000)
  | none, some (r, t) => BitVec.ofNat 16 (r.toNat + t.toNat * 256 + 0x8000)
  | none, none => 0

/-- An answer is written: for window 10 the data words, then MW_RSP, then MB_DONE (R992); for U0 the R line. -/
def State.mbDeliver (s : State) (a : MbAnswer) : State :=
  match a.cmd.source with
  | .window10 =>
    let tag : BitVec 4 := BitVec.setWidth 4 a.cmd.tag
    let s1 := s.onMgmt fun m => { m with rd := a.rd, rsp := some (a.rsp, tag), command := none, answer := none }
    s1.raise0 0xC5 (BitVec.setWidth 8 tag) s1.mgmt.rspWord
  | .u0 => (s.onMgmt fun m => { m with answer := none }).u0Send a.line

/-- MB_DONE (R992). -/
def execMbDone (s : State) : Answer :=
  .next (match s.mgmt.answer with
  | some a => if s.pwr.mgRunning then s.mbDeliver a else s
  | none => s)

/-- A command from a source while the engine serves the other one is answered BUSY at once (R994). -/
def State.mbBusyNow (s : State) (q : MbCommand) : State :=
  let a := s.mgmt.answer
  let s1 := s.mbRefuse q mbBusy
  match s1.mgmt.answer with
  | some x => (s1.mbDeliver x).onMgmt fun m => { m with answer := a }
  | none => s1

/-- A write of MW_CMD (R990, R991, R994). -/
def State.writeMwCmd (s : State) (v : Word) : State :=
  if !s.pwr.mgRunning then s
  else if s.mgmt.command.isSome then s.onMgmt fun m => { m with cmdLost := true }
  else
    let q : MbCommand :=
      { source := .window10, code := BitVec.setWidth 8 v, tag := byteOf (v.toNat / 256 % 16), arg := s.mgmt.arg }
    if s.mgmt.answer.isSome then s.mbBusyNow q
    else s.onMgmt fun m => { m with command := some q, rsp := none }

/-- The engine serves a command whose code passes the test: that of window 10 which waits, or one that a line of
U0 brings. -/
def State.mbServe (s : State) (line : Option MLine) (t : Byte → Bool) (f : MbCommand → State → State) : State :=
  if !s.pwr.mgRunning then s
  else match line with
  | none =>
    match s.mgmt.command, s.mgmt.answer with
    | some q, none => if t q.code then f q s else s
    | _, _ => s
  | some l =>
    let q : MbCommand := { source := .u0, code := l.code, tag := l.tag, arg := l.arg }
    if !t l.code then s else if s.mgmt.engaged then s.mbBusyNow q else f q s

/-- From stage 1 of a power-down every command but INFO is answered NOT_NOW (R996). -/
def State.mbOpen (f : MbCommand → State → State) (q : MbCommand) (s : State) : State :=
  if s.pwr.stageBegun then s.mbRefuse q mbNotNow else f q s

/-- A 32-bit argument: ARGn as bits [15:0], the next as bits [31:16]. -/
def MbCommand.arg32 (q : MbCommand) (k : Fin 3) : Nat :=
  (q.arg[k.castSucc]).toNat + 65536 * (q.arg[k.succ]).toNat

/-- The buffer of a source. -/
def State.mbBuffer (s : State) (src : MbSource) : Memory :=
  match src with
  | .window10 => s.mgmt.buf
  | .u0 => s.mgmt.u0Buf

/-- Words are laid out in the buffer of a source, big-endian, from its start (R993). -/
def State.mbFill (s : State) (src : MbSource) (l : List Par) : State :=
  let b := l.flatMap fun w => bytesBE w.toNat 4
  s.onMgmt fun m => match src with
    | .window10 => { m with buf := memWriteN m.buf 0 b }
    | .u0 => { m with u0Buf := memWriteN m.u0Buf 0 b }

/-- INFO. -/
def execInfo (line : Option MLine) (s : State) : Answer :=
  .next (s.mbServe line (fun n => n = 1) fun q u => (u.mbFill q.source u.infoBlock).mbAnswer q mbOk [])

/-- The records that LOG_READ returns from a sequence on, with whether each is committed (R1010). -/
def State.logFrom (s : State) (seq : Nat) : List (LogRecord × Bool) :=
  (s.mgmt.log.map (fun r => (r, true)) ++ s.ao.ring.map fun r => (r, false)).filter fun e => seq ≤ e.1.seq.toNat

/-- Modes in which LOG_READ is accepted. -/
def Mode.logRead : Mode → Bool
  | .run | .reduced | .service | .update | .hold => true
  | _ => false

/-- LOG_READ (R1010). -/
def State.mbLogRead (q : MbCommand) (s : State) : State :=
  let n := q.arg[2].toNat
  if !s.pwr.mode.logRead then s.mbRefuse q mbNotNow
  else if n < 1 ∨ 128 < n then s.mbRefuse q mbBadArg
  else
    let first := q.arg32 0
    let all := s.logFrom first
    let l := all.take n
    let gap : Bool := first < s.logFirst
    let at0 := (l.head?.map fun e => e.1.seq.toNat).getD 0
    let s1 := s.mbFill q.source (l.flatMap fun e => e.1.words e.2)
    let d := s1.draw
    let rd01 : List Nat := if l.isEmpty then [(Config.mbNoData d.1 0).toNat, (Config.mbNoData d.1 1).toNat]
      else [at0 % 65536, at0 / 65536]
    d.2.mbAnswer q mbOk (rd01 ++ [l.length, (if gap then 1 else 0) + (if n < all.length then 2 else 0)])

/-- LOG_READ. -/
def execLogRead (line : Option MLine) (s : State) : Answer :=
  .next (s.mbServe line (fun n => n = 2) (State.mbOpen State.mbLogRead))

/-- MB_UNKNOWN (R995): a code outside the table. From stage 1 of a power-down it is answered NOT_NOW. -/
def execMbUnknown (line : Option MLine) (s : State) : Answer :=
  .next (s.mbServe line (fun n => n = 0 || 8 < n.toNat) (State.mbOpen fun q u => u.mbRefuse q mbUnknown))

/-! ### Boot record and rollback -/

/-- The running image is in TRIAL. -/
def State.runsTrial (s : State) : Bool := s.inTrial && s.mgmt.running == some s.preferredArea

/-- Confirmation is written (R1015): TRIAL and the count are cleared, and IMAGE_CONFIRMED is raised. -/
def State.confirmImage (s : State) : State :=
  let a := s.preferredArea
  let v : Word := ((s.mgmt.image[a]).map fun i => BitVec.setWidth 16 i.version).getD 0
  ((s.onMgmt fun m => { m with trial := false, trialBoots := 0, confirmHeld := false }).onAo
    fun x => { x with trialHeld := 0 }).raise0 0xC7 (byteOf a.val) v

/-- CONFIRM (R1015): without a TRIAL image it is performed and changes nothing. -/
def State.mbConfirm (q : MbCommand) (s : State) : State :=
  if !(s.pwr.mode.running || s.pwr.mode = .service) then s.mbRefuse q mbNotNow
  else if !s.analog.flashOk then s.mbRefuse q mbNvmWait
  else (if s.runsTrial then s.confirmImage else s).mbAnswer q mbOk []

/-- CONFIRM. -/
def execConfirm (line : Option MLine) (s : State) : Answer :=
  .next (s.mbServe line (fun n => n = 8) (State.mbOpen State.mbConfirm))

/-- TRIAL_CONFIRM (R1015): while FLASH_OK = 0 the confirmation is held. -/
def execTrialConfirm (s : State) : Answer :=
  .next (if s.pwr.mode.running ∧ s.runsTrial then
    if s.analog.flashOk then s.confirmImage else s.onMgmt fun m => { m with confirmHeld := true }
  else s)

/-- RB_COMMIT (R1033). -/
def State.mbRollback (q : MbCommand) (s : State) : State :=
  if s.pwr.mode ≠ .service ∨ s.runsTrial ∨ !s.analog.flashOk then s.mbRefuse q mbNotNow
  else match s.mainImage with
    | none => s.mbRefuse q mbNotNow
    | some i =>
      if i.sv ≤ s.mgmt.rollback then s.mbRefuse q mbBadArg
      else
        ((s.onMgmt fun m => { m with rollback := sat i.sv 64 }).raise0 0xC6 (byteOf (sat i.sv 64))
          (BitVec.ofNat 16 i.sv)).mbAnswer q mbOk [sat i.sv 64]

/-- RB_COMMIT. -/
def execRbCommit (line : Option MLine) (s : State) : Answer :=
  .next (s.mbServe line (fun n => n = 7) (State.mbOpen State.mbRollback))

/-- FLASH_OK has become 1: what was held for the boot record is written (R1014, R1015), and the island commits
the reports it held (13_kaolin_island R793). -/
def State.flashRose (s : State) : State :=
  let s1 := if s.ao.revertHeld then
      (s.onMgmt fun m => { m with preferred := otherArea m.preferred, trial := false, trialBoots := 0 }).onAo
        fun a => { a with revertHeld := false, trialHeld := 0 }
    else (s.onMgmt fun m => { m with trialBoots := m.trialBoots + s.ao.trialHeld }).onAo
        fun a => { a with trialHeld := 0 }
  (if s1.mgmt.confirmHeld ∧ s1.runsTrial then s1.confirmImage else s1).commitHeld

/-! ### Update sessions (R1019 to R1031) -/

/-- A session state is taken; each change raises UPDATE_STATE (R1031). -/
def State.setUpdate (s : State) (st : UpdateState) : State :=
  if s.mgmt.update = st then s
  else
    let s1 := s.onMgmt fun m => { m with update := st }
    s1.raise0 0xC1 (BitVec.setWidth 8 s1.mgmt.updateStat) (BitVec.setWidth 16 s1.mgmt.updateBytes)

/-- UPDATE is left to SERVICE (02_power_clocks_modes R61, R87); in HOLD the mode stays HOLD (R1019). -/
def State.leaveUpdate (s : State) : State :=
  if s.pwr.mode = .update then s.changeMode fun p => { p with mode := .service } else s

/-- The open session ends FAILED (R1028). -/
def State.failSession (s : State) : State :=
  match s.mgmt.session with
  | none => s
  | some _ => ((s.onMgmt fun m => { m with session := none }).setUpdate .failed).leaveUpdate

/-- Area of the session (R1020): the one not holding the running image, in HOLD that of slot B. -/
def State.targetArea (s : State) : Fin 2 :=
  if s.pwr.mode = .hold then otherArea s.preferredArea else otherArea (s.mgmt.running.getD s.preferredArea)

/-- The target area holds no valid image. -/
def State.invalidateTarget (s : State) : State :=
  let a := s.targetArea
  s.onMgmt fun m => { m with image := m.image.set a none }

/-- A session command is answered, and mgmt.update_stat keeps the response. -/
def State.updAnswer (s : State) (q : MbCommand) (rsp : Byte) (data : List Nat := []) : State :=
  (s.mbAnswer q rsp data).onMgmt fun m => { m with updateRsp := rsp }

/-- FLASH_OK has fallen: an update fails, and its target slot is invalid (12_analog_thermal R735). -/
def State.flashFell (s : State) : State :=
  match s.mgmt.session with
  | none => s
  | some _ => s.invalidateTarget.failSession

/-- UPD_BEGIN (R1019): the target area is erased, with the outcome given. -/
def State.mbUpdBegin (flash : Bool) (q : MbCommand) (s : State) : State :=
  let n := q.arg32 0
  let own := s.mgmt.session.map fun x => x.source
  if own.isSome ∧ own ≠ some q.source then s.mbRefuse q mbBusy
  else if own.isSome ∨ !(s.pwr.mode = .service || (s.pwr.mode = .hold
      && (s.ao.holdCause.toNat % 256 = 3 || s.ao.holdCause.toNat % 256 = 4))) then s.mbRefuse q mbNotNow
  else if n < 257 ∨ 1048576 < n then s.mbRefuse q mbBadArg
  else if !s.analog.flashOk then s.mbRefuse q mbNvmWait
  else
    let s1 := (s.endRaw.onMgmt fun m => { m with
      session := some { source := q.source, length := n, received := [] }
      updateSource := (match q.source with | .window10 => 1 | .u0 => 2), updateBytes := 0 })
    let s2 := if s1.pwr.mode = .service then s1.changeMode fun p => { p with mode := .update } else s1
    let s3 := (s2.setUpdate .erasing).invalidateTarget
    if flash then (s3.setUpdate .receiving).updAnswer q mbOk else s3.failSession.updAnswer q mbFlash

/-- UPD_BEGIN. -/
def execUpdBegin (line : Option MLine) (flash : Bool) (s : State) : Answer :=
  .next (s.mbServe line (fun n => n = 3) (State.mbOpen (State.mbUpdBegin flash)))

/-- A session command needs the session of its source (R994, NO_SESSION). -/
def State.inSession (f : Session → MbCommand → State → State) (q : MbCommand) (s : State) : State :=
  match s.mgmt.session with
  | none => s.mbRefuse q mbNoSession
  | some x => if x.source = q.source then f x q s else s.mbRefuse q mbBusy

/-- The area of the session holds the container just received whole, if it passes what does not depend on the
rollback counter (R1011). -/
def State.storeImage (s : State) (m : List Byte) : State :=
  let a := s.targetArea
  s.onMgmt fun g => { g with image := g.image.set a (if kuwellCheck m 0 = 0 then some (kuwellMain m) else none) }

/-- UPD_CHUNK (R1021 to R1023). -/
def State.mbUpdChunk (flash : Bool) (x : Session) (q : MbCommand) (s : State) : State :=
  let n := q.arg[0].toNat
  let off := q.arg32 1
  let have' := x.received.length
  let data := memReadN (s.mbBuffer q.source) 0 n
  let all := x.received ++ data
  if n < 1 ∨ 4096 < n then s.updAnswer q mbBadArg
  else if off ≠ have' then s.updAnswer q mbOrder
  else if x.length < have' + n then s.updAnswer q mbBadArg
  else if off = 0 ∧ (!kuwellFormat data ∨ kuwellLength data ≠ x.length) then
    s.failSession.updAnswer q mbFormat
  else if off = 0 ∧ kuwellKind data ≠ 1 then s.failSession.updAnswer q mbKind
  else if !flash then s.failSession.updAnswer q mbFlash
  else
    let s1 := s.onMgmt fun m => { m with
      session := some { x with received := all }, updateBytes := BitVec.ofNat 32 all.length }
    (if all.length = x.length then s1.storeImage all else s1).updAnswer q mbOk

/-- UPD_CHUNK. -/
def execUpdChunk (line : Option MLine) (flash : Bool) (s : State) : Answer :=
  .next (s.mbServe line (fun n => n = 4) (State.mbOpen (State.inSession (State.mbUpdChunk flash))))

/-- A failure at UPD_END invalidates the target area and ends the session (R1027). -/
def State.endFailed (s : State) (q : MbCommand) (rsp : Byte) : State :=
  (s.invalidateTarget.failSession).updAnswer q rsp

/-- The epoch check of UPD_END: none when it is skipped (R1024), else whether it finds a mismatch. -/
def State.updEpoch (s : State) (m : MainImage) : Option Bool :=
  if !s.islandPresent ∨ !s.pwr.pgK ∨ s.island.state = .inactive then none
  else s.island.running.map fun l => epochsDiffer m l

/-- The new image is activated (R1025). -/
def State.activateMain (s : State) (m : MainImage) : State :=
  let a := s.targetArea
  let s1 := (s.onMgmt fun g => { g with
    image := g.image.set a (some m), preferred := a, trial := true, trialBoots := 0, confirmHeld := false
    session := none }).onAo fun x => { x with trialHeld := 0, revertHeld := false }
  (s1.setUpdate .done).leaveUpdate

/-- UPD_END (R1024 to R1027). -/
def State.mbUpdEnd (flash : Bool) (x : Session) (q : MbCommand) (s : State) : State :=
  let force := (q.arg[0]).getLsbD 0
  let m := kuwellMain x.received
  let st := Config.stepping.toNat % 65536
  if x.received.length < x.length then s.updAnswer q mbBadArg
  else if kuwellCheck x.received s.mgmt.rollback ≠ 0 then s.endFailed q (kuwellCheck x.received s.mgmt.rollback)
  else if st < m.stepLo.toNat ∨ m.stepHi.toNat < st then s.endFailed q mbStepping
  else
    let e := s.updEpoch m
    let bad : Bool := e = some true
    let s1 := s.logEpochs m (if e.isNone then none else s.island.running)
      (match e with | none => 3 | some true => 2 | some false => 1) (bad && force)
    if bad ∧ !force then (s1.setUpdate .epochHeld).updAnswer q mbEpoch
    else if !flash then s1.endFailed q mbFlash
    else (s1.activateMain m).updAnswer q mbOk [m.version.toNat / 65536, m.version.toNat % 65536]

/-- UPD_END. -/
def execUpdEnd (line : Option MLine) (flash : Bool) (s : State) : Answer :=
  .next (s.mbServe line (fun n => n = 5) (State.mbOpen (State.inSession (State.mbUpdEnd flash))))

/-- UPD_ABORT (R1028). -/
def execUpdAbort (line : Option MLine) (s : State) : Answer :=
  .next (s.mbServe line (fun n => n = 6)
    (State.mbOpen (State.inSession fun _ q u => u.failSession.updAnswer q mbOk)))

/-- SESSION_TIMEOUT (R1028): 60 s without a session command. -/
def execSessionTimeout (s : State) : Answer := .next s.failSession

/-! ### Buffers and U0 lines (R993, R997) -/

/-- MW_BUF_READ (R993). -/
def execMwBufRead (s : State) : Answer :=
  let a := 2 * s.mgmt.bufPtr.toNat
  .next (if s.pwr.mgRunning then
    (s.drive (BitVec.ofNat 16 (natBE (memReadN s.mgmt.buf a 2)))).onMgmt fun m => { m with bufPtr := m.bufPtr + 1 }
  else s)

/-- MW_BUF_WRITE (R993): ignored while BUSY. -/
def State.writeMwBuf (s : State) (v : Word) : State :=
  if s.pwr.mgRunning ∧ s.mgmt.command.isNone then
    s.onMgmt fun m => { m with
      buf := memWriteN m.buf (2 * m.bufPtr.toNat) (bytesBE v.toNat 2), bufPtr := m.bufPtr + 1 }
  else s

/-- MW_BUF_WRITE. -/
def execMwBufWrite (v : Word) (s : State) : Answer := .next (s.writeMwBuf v)

/-- U0_B (R997): the line and its bytes are written into the U0 buffer. -/
def execU0B (off : Nat) (data : List Byte) (s : State) : Answer :=
  .next (if !s.pwr.mgRunning then s
  else if 4096 < off + data.length then s.u0Send "! 03"
  else (s.onMgmt fun m => { m with u0Buf := memWriteN m.u0Buf off data }).u0Send "= 00")

/-- U0_G (R997). -/
def execU0G (off len : Nat) (s : State) : Answer :=
  .next (if !s.pwr.mgRunning then s
  else if 4096 < off + len then s.u0Send "! 03"
  else s.u0Send ("D " ++ hexText 4 off ++ " " ++ hexText 4 len) (memReadN s.mgmt.u0Buf off len))

/-- U0_UNMATCHED_LINE (R997). -/
def execU0UnmatchedLine (s : State) : Answer := .next (if s.pwr.mgRunning then s.u0Send "! 06" else s)

/-! ### Commit of the log (R1001 to R1006) -/

/-- The sector after the one being filled is erased: the committed entries beyond the 4,096 before it go. -/
def Mgmt.eraseNext (m : Mgmt) : Mgmt :=
  { m with log := m.log.drop (m.log.length - (4096 + m.sectorFill)), eraseOwed := false }

/-- A record goes to the flash ring. When the sector is full the next one, kept erased, is taken; its successor
is erased then, or owed while `erase` is not allowed (R1006; 02_power_clocks_modes R111). -/
def Mgmt.commitRecord (m : Mgmt) (r : LogRecord) (erase : Bool) : Mgmt :=
  let m1 := if m.sectorFill = 0 then (if erase then m.eraseNext else { m with eraseOwed := true }) else m
  { m1 with log := m1.log ++ [r], sectorFill := (m1.sectorFill + 1) % 128 }

/-- The oldest pending record is committed and leaves the retention ring. -/
def State.commitOldest (s : State) (erase : Bool) : State :=
  match s.ao.ring with
  | [] => s
  | r :: l =>
    if !erase ∧ s.mgmt.eraseOwed ∧ s.mgmt.sectorFill = 0 then s
    else (s.onMgmt fun m => m.commitRecord r erase).onAo fun a => { a with ring := l }

/-- The thermal record is committed (12_analog_thermal R728). -/
def State.commitThermal (s : State) : State :=
  match s.ao.thermalRecord with
  | none => s
  | some r =>
    ((s.onAo fun a => { a with thermalRecord := none }).onAnalog fun a => { a with
      shutdowns := satInc a.shutdowns, lastSd := some r }).raise0 0x71 0 r.temp

/-- LOG_COMMIT (R1001; 02_power_clocks_modes R113). -/
def execLogCommit (s : State) : Answer :=
  .next (if s.pwr.mgRunning ∧ s.mgmt.running.isSome ∧ s.analog.flashOk ∧ s.pwr.pd = none ∧ s.pwr.mode ≠ .hold then
    match s.ao.thermalRecord with
    | some _ => s.commitThermal
    | none => (if s.mgmt.eraseOwed then s.onMgmt Mgmt.eraseNext else s).commitOldest true
  else s)

end Sys2Proof.Machine
end

