-- ==== Sys2Proof/Machine/Analog.lean ====
section
/-! DEFINITION. The general converters with their sequencers, the plausibility checks, the die temperature with
throttling and the flash programming window (12_analog_thermal), and the supply monitors (18_management,
"Monitors"). -/

namespace Sys2Proof.Machine

/-! ### Conversions that are due (R697, R698, R715) -/

/-- AN converts for the device: in the modes in which the main islands run, and in HOLD while MG runs. -/
def State.anRuns (s : State) : Bool := s.pwr.islandsRun || (s.pwr.mode = .hold && s.pwr.mgRunning)

/-- A conversion falls due if this µs ends its interval. -/
def State.convEvery (s : State) (interval : Nat) (x : Fin 2) (prio number : Nat) : State :=
  if interval ≠ 0 ∧ s.now % interval = 0 then s.convDue x prio number else s

/-- The system conversions of a head: its active sensor every 50 µs while its paper axis moves and every 10 ms at rest
(11_media_outputs R635), and its thermistor every 10 ms. -/
def State.headDue (s : State) (h : Fin 4) : State :=
  let x := s.paper.axis[s.paperAxis h]
  let s1 := if s.headPresent h ∧ s.mediaType h ≠ 0 then
      s.convEvery (if x.inMotion && !x.atRest then 50 else 10000) 1 2 h.val
    else s
  if s.fitted h then s1.convEvery 10000 0 4 h.val else s1

/-- What falls due in this µs ("System conversions"; R715): the phases of the intervals are those of the model's clock
(notes/assumptions 158). -/
def State.convMicro (s : State) : State :=
  if !s.anRuns ∨ s.now % 50 ≠ 0 then s
  else
    let s1 := (List.finRange 4).foldl (fun u h => u.headDue h) s
    let s2 := (List.finRange 8).foldl (fun u (c : Fin 8) =>
      if u.paper.lamp[c].driven then u.convEvery 1000 0 3 c.val else u) s1
    let s3 := (List.finRange 8).foldl (fun u (k : Fin 8) =>
      if u.now % 10000 = 1250 * k.val then u.convDue 1 5 (0x21 + k.val) else u) (s2.convEvery 1000 1 4 0x20)
    (List.finRange 4).foldl (fun u (p : Fin 4) =>
      let cfg := u.parG (0x3140 + 4 * p.val)
      if bit cfg 31 then (u.convEvery (1000 * bits cfg 20 8) 0 7 p.val).convEvery (1000 * bits cfg 20 8) 1 7 p.val
      else u) s3

/-! ### Sequencers (R690 to R712) -/

/-- A parameter of the sequencer of converter `x`. -/
def State.adcPar (s : State) (x : Fin 2) (off : Nat) : Par := s.parG (0x3000 + 0x80 * x.val + off)

/-- EN. -/
def State.adcEn (s : State) (x : Fin 2) : Bool := bit (s.adcPar x 0) 0

/-- EN clears. -/
def State.adcOff (s : State) (x : Fin 2) : State :=
  s.setPar (0x3000 + 0x80 * x.val) none (s.adcPar x 0 &&& 0xFFFFFFFE)

/-- A channel of heads 2 and 3 (R695). -/
def headChannel (ch : Nat) : Bool :=
  0x30 ≤ ch && ch < 0x44 && 2 ≤ ch % 4

/-- The code that a conversion of a channel yields: dedicated inputs of absent heads yield 0 (R695). -/
def State.adcCode (s : State) (ch : Nat) (code : BitVec 12) : BitVec 12 :=
  if s.part = .tl2816 ∧ headChannel ch then 0 else code

/-- The channel code is reserved ("Channels"). -/
def reservedChannel (ch : Nat) : Bool := (0x2A ≤ ch && ch < 0x30) || 0x54 ≤ ch

/-- A trigger arrives (R704): it starts a pass, with the limits written so far (R706), or counts an overrun. -/
def State.adcTrigger (s : State) (x : Fin 2) : State :=
  let k := s.analog.conv[x]
  if k.running then
    let s1 := s.onConv x fun k => { k with overruns := k.overruns + 1 }
    let due : Bool := match k.overrunAt with
      | some t => t + 100000 ≤ s.now
      | none => true
    if due then
      (s1.onConv x fun k => { k with overrunAt := some s.now }).raise0 0x76 (byteOf x.val)
        (BitVec.setWidth 16 (k.overruns + 1))
    else s1
  else s.onConv x fun k => { k with
    running := true, delaying := true, aborting := false, entry := 0, sum := 0, done := 0, late := false
    passes := k.passes + 1, limits := Vector.ofFn fun (e : Fin 16) => s.adcPar x (0x20 + e.val) }

/-- The trigger source of the sequencer drives (R703). -/
def State.adcSource (s : State) (x : Fin 2) : Bool :=
  let cfg := s.adcPar x 0
  let u : Fin 4 := ⟨bits cfg 4 2, by unfold bits; omega⟩
  match bits cfg 2 2 with
  | 1 => true
  | 2 => s.headPresent u && s.paper.head[u].state = .inService
  | 3 => s.paper.axis[u].state ≠ .off || (u.val = 3 && s.cutterMode && s.paper.cutter.state ≠ .off)
  | _ => false

/-- The conversions due on a converter, in the order in which it begins them (R698): those of the device, and that of
the sequencer entry in progress. -/
def State.dueOn (s : State) (x : Fin 2) : List Due :=
  let k := s.analog.conv[x]
  let entry : List Due := if k.running ∧ !k.delaying then
      [{ prio := 6, since := s.now, number := bits (s.adcPar x (0x10 + k.entry.val)) 0 7 }]
    else []
  (entry ++ k.due).foldr insertDue []

/-- The conversion that a converter begins next. -/
def State.nextConversion (s : State) (x : Fin 2) : Option Due := (s.dueOn x).head?

/-- SEQUENCER_TRIGGER (R703, R704): of TIMER, STROBE or CHOPPER. -/
def execSequencerTrigger (x : Fin 2) (s : State) : Answer :=
  .next (if s.pwr.islandsRun ∧ s.adcEn x ∧ s.adcSource x then s.adcTrigger x else s)

/-- adc.ctrl (R702, R707): GO gives a MANUAL trigger while EN is set, and ABORT clears EN and ends the pass, at
once during its delay, else at the end of the conversion in progress. -/
def State.adcCtrl (s : State) (x : Fin 2) (v : Par) : State :=
  let s1 := if bit v 0 ∧ s.adcEn x ∧ bits (s.adcPar x 0) 2 2 = 0 then s.adcTrigger x else s
  if bit v 1 then
    (s1.adcOff x).onConv x fun k =>
      if k.running then (if k.delaying then { k with running := false, delaying := false } else { k with aborting := true })
      else k
  else s1

/-- PASS_DELAY_END (R693). -/
def execPassDelayEnd (x : Fin 2) (s : State) : Answer :=
  .next (s.onConv x fun k => if k.running ∧ k.delaying then { k with delaying := false, powered := true } else k)

/-- The result of an entry (R708 to R711): sum, shift and limits. -/
def Converter.entryResult (k : Converter) (cfg : Par) : Nat × Bool × Bool :=
  let raw := k.sum >>> bits cfg 24 4
  let r := sat raw 65535
  let lim := k.limits[k.entry]
  (r, decide (65535 < raw), bit cfg 28 && (r < bits lim 0 16 || bits lim 16 16 < r))

/-- An entry ends (R705, R709, R711): its result word, ADC_LIMIT, and the next entry or the end of the pass. -/
def State.endEntry (s : State) (x : Fin 2) : State :=
  let k := s.analog.conv[x]
  let cfg := s.adcPar x (0x10 + k.entry.val)
  let q := k.entryResult cfg
  let word := fld q.1 0 ||| flag k.late 17 ||| flag q.2.2 18 ||| flag q.2.1 19 ||| fld (k.passes.toNat % 4096) 20
  let last : Bool := bits (s.adcPar x 0) 12 4 ≤ k.entry.val
  let ends : Bool := k.aborting || last
  let s1 := s.onConv x fun k => { k with
    result := k.result.set k.entry word
    outside := if bit cfg 28 then k.outside.set k.entry q.2.2 else k.outside
    sum := 0, done := 0, late := false, aborting := false
    entry := if ends then k.entry else k.entry + 1
    running := !ends, powered := !ends }
  let s2 := if q.2.2 ∧ !(k.outside[k.entry]) then
      s1.raise0 0x74 (byteOf (x.val + 16 * k.entry.val)) (BitVec.ofNat 16 q.1)
    else s1
  if ends ∧ bit (s.adcPar x 0) 1 then s2.adcOff x else s2

/-- CONVERSION_DONE (R690, R702, R707 to R710). -/
def execConversionDone (x : Fin 2) (code : BitVec 12) (postponed : Bool) (s : State) : Answer :=
  let k := s.analog.conv[x]
  let cfg := s.adcPar x (0x10 + k.entry.val)
  .next (if !k.running ∨ k.delaying then s
  else
    let s1 := s.onConv x fun k => { k with
      sum := k.sum + (s.adcCode (bits cfg 0 7) code).toNat, done := k.done + 1, late := k.late || postponed }
    if 2 ^ bits cfg 20 4 ≤ k.done + 1 then s1.endEntry x
    else if k.aborting then s1.onConv x fun k => { k with running := false, powered := false, aborting := false }
    else s1)

/-! ### Plausibility (R715 to R717) -/

/-- PLAUSIBILITY_CHECK: made with its two codes, or not begun within its interval. -/
def execPlausibilityCheck (p : Fin 4) (made : Bool) (codeA codeB : BitVec 12) (s : State) : Answer :=
  let cfg := s.parG (0x3140 + 4 * p.val)
  let put (f : Plaus → Plaus) : State := ((s.convMade 0 7 p.val).convMade 1 7 p.val).onAnalog fun a =>
    { a with plaus := vmod a.plaus p f }
  let a := s.adcCode (bits cfg 0 7) codeA
  let b := s.adcCode (bits cfg 0 7) codeB
  let diff := (a.toNat - b.toNat) + (b.toNat - a.toNat)
  let fail : Bool := s.parN (0x3141 + 4 * p.val) < diff
  .next (if !s.pwr.islandsRun ∨ !bit cfg 31 then s
  else if !made then put fun q => { q with miss := q.miss + 1 }
  else
    let s1 := put fun q => { q with codeA := a, codeB := b, fail := fail }
    if fail ∧ !(s.analog.plaus[p]).fail then s1.raise0 0x75 (byteOf p.val) (BitVec.ofNat 16 diff) else s1)

/-! ### Die temperature (R718 to R737) -/

/-- die.temp from an averaged code, 1/16 °C (R718, R1108). -/
def Fuses.dieTemp (f : Fuses) (code : Nat) : Int :=
  let m : Int := ((code : Int) - (bits f.dieCal 0 12 : Nat)) * signed16 (bits f.dieCal 16 16)
  400 + (2 * m + 256) / 512

/-- die.temp [15:0]. -/
def Analog.temp16 (a : Analog) : Word := BitVec.ofInt 16 a.temp

/-- The throttle level changes (R724): DIE_THROTTLE, and the loss of that name. -/
def State.setLevel (s : State) (l : Fin 3) : State :=
  if s.analog.level = l then s
  else
    let s1 := (s.onAnalog fun a => { a with level := l, belowRun := 0 }).raise0 0x70 (byteOf l.val) s.analog.temp16
    s1.changeMode fun p => { p with dieThrottle := decide (l ≠ 0) }

/-- FLASH_OK changes (R735, R737; 18_management R1014, R1015). -/
def State.setFlashOk (s : State) (ok : Bool) : State :=
  if s.analog.flashOk = ok then s
  else
    let s1 := (s.onAnalog fun a => { a with flashOk := ok }).raise0 0x72 (if ok then 1 else 0) s.analog.temp16
    if ok then s1.flashRose else s1.flashFell

/-- FLASH_OK as the temperature decides it (R732, R745). -/
def Analog.flashWanted (a : Analog) (seen : Bool) : Bool :=
  if a.diodeFault ∨ !seen then false
  else if a.temp < -400 ∨ 1440 < a.temp then false
  else if -368 ≤ a.temp ∧ a.temp ≤ 1408 then true
  else a.flashOk

/-- A plausible update (R718, R719). -/
def Analog.plausible (a : Analog) (t : Int) : Analog :=
  let clear : Bool := !a.diodeFault || 9 ≤ a.goodRun
  { a with
    temp := t, valid := clear, diodeFault := !clear, badRun := 0, goodRun := a.goodRun + 1
    tempMax := some (match a.tempMax with
      | some m => max m t
      | none => t) }

/-- An implausible update (R719). -/
def Analog.implausible (a : Analog) : Analog :=
  let fault : Bool := a.diodeFault || 2 ≤ a.badRun
  { a with diodeFault := fault, valid := a.valid && !fault, badRun := a.badRun + 1, goodRun := 0 }

/-- The level after a plausible update (R720), and the run of updates below the leaving temperature. -/
def Analog.nextLevel (a : Analog) : Fin 3 × Nat :=
  if 1840 ≤ a.temp ∧ a.level ≠ 2 then (2, 0)
  else if 1600 ≤ a.temp ∧ a.level = 0 then (1, 0)
  else
    let leave : Int := if a.level = 2 then 1760 else 1520
    let run := if a.level ≠ 0 ∧ a.temp < leave then a.belowRun + 1 else 0
    if 10 ≤ run then (if a.level = 2 then 1 else 0, 0) else (a.level, run)

/-- The time at each level since wake: an update ends a millisecond. -/
def Analog.countLevel (a : Analog) : Analog :=
  match a.level with
  | 0 => a
  | 1 => { a with level1Time := a.level1Time + 1000 }
  | 2 => { a with level2Time := a.level2Time + 1000 }

/-- DIE_TEMP_UPDATE (R718 to R724, R732 to R737). -/
def execDieTempUpdate (code : BitVec 12) (s : State) : Answer :=
  let n := code.toNat
  let ok : Bool := 82 < n && n < 4013
  let s1 := (s.convMade 1 4 0x20).onAnalog fun a =>
    let b := a.countLevel
    if ok then b.plausible (s.fuse.dieTemp n) else b.implausible
  let a := s1.analog
  let s2 := if a.diodeFault = s.analog.diodeFault then s1
    else s1.raise0 0x73 (if a.diodeFault then 1 else 0) (BitVec.ofNat 16 n)
  let s3 := if a.diodeFault then (s2.onAnalog fun a => { a with belowRun := 0 }).setLevel 2
    else if ok then (s2.onAnalog fun a => { a with belowRun := a.nextLevel.2 }).setLevel a.nextLevel.1
    else s2
  .next (if s.anRuns then s3.setFlashOk (s3.analog.flashWanted (s3.analog.flashOk || ok || a.valid)) else s)

/-- THERMAL_TRIP (R726 to R730, R741): AO writes the thermal record; in the modes with main power a power-down
with reason thermal begins, unless one runs already; in HOLD level 2 is applied. -/
def execThermalTrip (s : State) : Answer :=
  let a := s.analog
  let r : ThermalRecord :=
    { time := s.ao.time, mode := s.pwr.mode.code, level := BitVec.ofNat 2 a.level.val, temp := a.temp16, valid := a.valid }
  let s1 := s.onAo fun x => { x with thermalRecord := some r }
  .next (match s.pwr.mode with
  | .off => s
  | .retain => s1
  | .hold => s1.setLevel 2
  | _ => s1.beginPd .thermal false)

/-! ### Supply monitors (18_management R980 to R983) -/

/-- mV of a monitor channel 0x21 + k, half up. -/
def supplyMv (k : Fin 8) (code : Nat) : Nat :=
  let inv : Nat := match k.val with
    | 0 | 3 | 7 => 1
    | 6 => 4
    | _ => 2
  (code * 3000 * inv * 2 + 4096) / 8192

/-- The sample lies within the warn band, and within the fault band ("Monitors"). -/
def supplyBands (k : Fin 8) (mv : Nat) : Bool × Bool :=
  let b (l h : Nat) : Bool := l ≤ mv && mv ≤ h
  match k.val with
  | 0 => (b 855 945, b 810 990)
  | 1 | 4 => (b 3135 3465, b 2970 3630)
  | 2 => if mv < 2550 then (b 1710 1890, b 1620 1980) else (b 3135 3465, b 2970 3630)
  | 3 => (b 1283 1418, b 1215 1485)
  | 5 => (2000 ≤ mv, 1800 ≤ mv)
  | _ => (true, true)

/-- The condition after a sample (R981): entered after 3 samples outside, left after 10 inside. The runs of both
are returned. -/
def monitorStep (on inside invalid : Bool) (out inn : Nat) : Bool × Nat × Nat :=
  let o := if inside ∨ invalid then 0 else out + 1
  let i := if inside then inn + 1 else 0
  (if on then !(10 ≤ i) else 3 ≤ o, o, i)

/-- SUPPLY_WARN for a condition that has changed. -/
def State.supplyEvent (s : State) (k : Fin 8) (before after fault : Bool) : State :=
  if before = after then s
  else s.raise0 0xC3 (byteOf (k.val + (if fault then 16 else 0) + (if after then 0 else 32))) s.mgmt.sup[k].mV

/-- SUPPLY_MONITOR_SAMPLE (R980 to R983; 12_analog_thermal R696). -/
def execSupplyMonitorSample (k : Fin 8) (code : BitVec 12) (s : State) : Answer :=
  let mv := supplyMv k code.toNat
  let q := supplyBands k mv
  let m := s.mgmt.sup[k]
  let inv := s.mgmt.supInvalid
  let judged : Bool := k.val < 6 && !(k.val = 3 && !s.pwr.en.getLsbD 2)
  let w := monitorStep m.warn q.1 inv m.warnOut m.warnIn
  let f := monitorStep m.fault q.2 inv m.faultOut m.faultIn
  let s1 := (s.convMade 1 5 (0x21 + k.val)).onMgmt fun g => { g with
    sup := vmod g.sup k fun m =>
      if judged then { m with mV := BitVec.ofNat 16 mv, warn := w.1, warnOut := w.2.1, warnIn := w.2.2
                              fault := f.1, faultOut := f.2.1, faultIn := f.2.2 }
      else { m with mV := BitVec.ofNat 16 mv }
    supInvalid := if k.val = 7 then !(1182 ≤ mv && mv ≤ 1218) else g.supInvalid }
  .next (if !s.anRuns then s
  else if judged then (s1.supplyEvent k m.warn w.1 false).supplyEvent k m.fault f.1 true
  else s1)

/-! ### Indices -/

/-- adc.stat to adc.aborts and adc.res_e of converter `x`: it is powered in a pass, and while a conversion is due
(R691). -/
def Converter.index (k : Converter) (off : Nat) : Option Par :=
  match off with
  | 4 => some (flag k.running 0 ||| flag (k.powered || !k.due.isEmpty) 1 ||| fld k.entry.val 4 ||| fld k.passes.toNat 16)
  | 5 => some k.overruns
  | 6 => some k.skips
  | 7 => some k.aborts
  | _ => if h : 0x30 ≤ off ∧ off < 0x40 then some k.result[off - 0x30] else none

/-- The indices of this chapter that are not plain parameters. -/
def State.analogIndex (s : State) (idx : Nat) : Option Par :=
  let a := s.analog
  let sd (f : ThermalRecord → Par) : Option Par := some ((a.lastSd.map f).getD 0)
  let secs (t : Nat) : Nat := sat (t / 1000000) 65535
  if idx < 0x3000 then none
  else if idx < 0x3080 then (a.conv[(0 : Fin 2)]).index (idx - 0x3000)
  else if idx < 0x3100 then (a.conv[(1 : Fin 2)]).index (idx - 0x3080)
  else if h : 0x3140 ≤ idx ∧ idx < 0x3150 then
    let q := a.plaus[(idx - 0x3140) / 4]
    if idx % 4 = 2 then some (fld q.codeA.toNat 0 ||| fld q.codeB.toNat 16 ||| flag q.fail 28)
    else if idx % 4 = 3 then some q.miss
    else none
  else match idx with
  | 0x3210 => some (BitVec.setWidth 32 a.temp16 ||| flag a.valid 16)
  | 0x3211 => some (low16 (a.tempMax.getD a.temp))
  | 0x3212 => some (fld a.level.val 0 ||| flag a.flashOk 2 ||| flag a.diodeFault 3)
  | 0x3213 => some (fld (secs a.level1Time) 0 ||| fld (secs a.level2Time) 16)
  | 0x3214 => some a.shutdowns
  | 0x3215 => sd fun r => BitVec.ofNat 32 r.time.toNat
  | 0x3216 => sd fun r => fld (r.time.toNat / 2 ^ 32) 0 ||| fld r.mode.toNat 16 ||| fld r.level.toNat 20 ||| flag r.valid 22
  | 0x3217 => sd fun r => BitVec.setWidth 32 r.temp
  | 0x3218 => some s.fuse.dieCal
  | _ => none

/-! ### Parameter writes (R695, R706, R712) -/

/-- seq_cfg, timer, delay and the entries are refused with NOT_NOW while EN = 1 (R706). -/
def State.adcItemNow (s : State) (x : Fin 2) (off : Nat) : Bool :=
  !(s.adcEn x && (off < 3 || (0x10 ≤ off && off < 0x20)))

/-- Fields out of their ranges, a reserved channel, and a lower limit above the upper one are INVALID. -/
def adcItemValid (off : Nat) (v : Par) : Bool :=
  if 0x10 ≤ off ∧ off < 0x20 then
    !reservedChannel (bits v 0 7) && 4 ≤ bits v 12 8 && bits v 20 4 ≤ 8 && bits v 24 4 ≤ 8
  else if 0x20 ≤ off ∧ off < 0x30 then bits v 0 16 ≤ bits v 16 16
  else true

/-- adc.plaus_cfg: its channel, t_s and interval lie in their ranges. -/
def plausItemValid (v : Par) : Bool :=
  !reservedChannel (bits v 0 7) && 4 ≤ bits v 12 8 && bits v 12 8 ≤ 40 && 1 ≤ bits v 20 8

end Sys2Proof.Machine
end

