-- ==== Sys2Proof/Machine/Drbg.lean ====
section
/-! DEFINITION. AES-256 and the CTR_DRBG of the expander: derivation function, instantiation, reseed and generate
request (15_grit R860, "Expander instances"), as the standards define them (notes/assumptions 172). -/

namespace Sys2Proof.Machine

/-! ### AES-256 -/

/-- Doubling in the field of AES. -/
def aesDouble (b : Byte) : Byte := (b <<< 1) ^^^ (if b.getLsbD 7 then 0x1B else 0)

/-- `n` steps of the product of two field elements, from the low bit of the second on. -/
def aesMulStep : Nat → Byte → Byte → Byte
  | 0, _, _ => 0
  | n + 1, a, b => (if b.getLsbD 0 then a else 0) ^^^ aesMulStep n (aesDouble a) (b >>> 1)

/-- The product of two field elements. -/
def aesMul (a b : Byte) : Byte := aesMulStep 8 a b

/-- The inverse of a field element, 0 for 0: its 254th power. -/
def aesInverse (a : Byte) : Byte :=
  let a2 := aesMul a a
  let a3 := aesMul a2 a
  let a6 := aesMul a3 a3
  let a12 := aesMul a6 a6
  let a15 := aesMul a12 a3
  let a30 := aesMul a15 a15
  let a60 := aesMul a30 a30
  let a120 := aesMul a60 a60
  let a126 := aesMul a120 a6
  let a127 := aesMul a126 a
  aesMul a127 a127

/-- The substitution of a byte. -/
def aesSub (a : Byte) : Byte :=
  let i := aesInverse a
  i ^^^ i.rotateLeft 1 ^^^ i.rotateLeft 2 ^^^ i.rotateLeft 3 ^^^ i.rotateLeft 4 ^^^ 0x63

/-- Bytes of two lists, added in the field. -/
def xorBytes (a b : List Byte) : List Byte := List.zipWith (fun x y => x ^^^ y) a b

/-- The words of the key schedule after the first eight, newest first: `n` words more. -/
def aesExpand : Nat → Nat → Byte → List (List Byte) → List (List Byte)
  | 0, _, _, ws => ws
  | n + 1, i, rc, ws =>
    let last := ws.headD []
    let back := (ws.drop 7).headD []
    let t := if i % 8 = 0 then xorBytes ((last.drop 1 ++ last.take 1).map aesSub) [rc, 0, 0, 0]
      else if i % 8 = 4 then last.map aesSub
      else last
    aesExpand n (i + 1) (if i % 8 = 0 then aesDouble rc else rc) (xorBytes back t :: ws)

/-- A list cut into pieces of `k`, at most `n` of them. -/
def chunksOf {α : Type} (k : Nat) : Nat → List α → List (List α)
  | 0, _ => []
  | n + 1, l => l.take k :: chunksOf k n (l.drop k)

/-- The 15 round keys of a key of 32 bytes. -/
def aesKeys (key : List Byte) : List (List Byte) :=
  let w := (aesExpand 52 8 1 (chunksOf 4 8 key).reverse).reverse
  (chunksOf 4 15 w).map List.flatten

/-- The rows shifted: byte n of a block stands in row n mod 4. -/
def aesShift (b : List Byte) : List Byte :=
  (List.range 16).map fun n => b.getD ((n + 4 * (n % 4)) % 16) 0

/-- One column mixed. -/
def aesMixColumn (p : List Byte) : List Byte :=
  let a := p.getD 0 0
  let b := p.getD 1 0
  let d := p.getD 2 0
  let e := p.getD 3 0
  [aesDouble a ^^^ aesDouble b ^^^ b ^^^ d ^^^ e, a ^^^ aesDouble b ^^^ aesDouble d ^^^ d ^^^ e,
   a ^^^ b ^^^ aesDouble d ^^^ aesDouble e ^^^ e, aesDouble a ^^^ a ^^^ b ^^^ d ^^^ aesDouble e]

/-- The columns mixed. -/
def aesMix (b : List Byte) : List Byte := (chunksOf 4 4 b).flatMap aesMixColumn

/-- The rounds that a list of round keys names; the last of them mixes no columns. -/
def aesRounds : List (List Byte) → List Byte → List Byte
  | [], b => b
  | [k], b => xorBytes (aesShift (b.map aesSub)) k
  | k :: t, b => aesRounds t (xorBytes (aesMix (aesShift (b.map aesSub))) k)

/-- A block enciphered under a key of 32 bytes. -/
def aesEncrypt (key block : List Byte) : List Byte :=
  match aesKeys key with
  | k :: t => aesRounds t (xorBytes block k)
  | [] => block

/-! ### CTR_DRBG -/

/-- Block `V + n` enciphered. -/
def drbgBlock (key : BitVec 256) (v : BitVec 128) : List Byte :=
  aesEncrypt (bytesBE key.toNat 32) (bytesBE v.toNat 16)

/-- The update: K and V take the 48 bytes of three blocks, added to the data. -/
def Drbg.update (d : Drbg) (data : List Byte) : Drbg :=
  let t := xorBytes (drbgBlock d.key (d.v + 1) ++ drbgBlock d.key (d.v + 2) ++ drbgBlock d.key (d.v + 3)) data
  { d with key := BitVec.ofNat 256 (natBE (t.take 32)), v := BitVec.ofNat 128 (natBE (t.drop 32)) }

/-- Chained encipherment of blocks. -/
def drbgChain (key : List Byte) (data : List (List Byte)) : List Byte :=
  data.foldl (fun acc b => aesEncrypt key (xorBytes acc b)) (List.replicate 16 0)

/-- The derivation function, to 48 bytes. -/
def drbgDerive (input : List Byte) : List Byte :=
  let s0 := bytesBE input.length 4 ++ bytesBE 48 4 ++ input ++ [0x80]
  let s := s0 ++ List.replicate ((16 - s0.length % 16) % 16) 0
  let blocks := chunksOf 16 (s.length / 16) s
  let k0 : List Byte := (List.range 32).map fun n => byteOf n
  let t := (List.range 3).flatMap fun i => drbgChain k0 ((bytesBE i 4 ++ List.replicate 12 0) :: blocks)
  let key := t.take 32
  let x1 := aesEncrypt key (t.drop 32)
  let x2 := aesEncrypt key x1
  x1 ++ x2 ++ aesEncrypt key x2

/-- Instantiation from an entropy input, a nonce and a personalisation string. -/
def Drbg.instantiate (entropy nonce person : List Byte) (d : Drbg) : Drbg :=
  { ({ d with key := 0, v := 0 } : Drbg).update (drbgDerive (entropy ++ nonce ++ person)) with
    c := 0, ready := true, stalled := false }

/-- Reseed (R862). -/
def Drbg.reseed (entropy : List Byte) (d : Drbg) : Drbg :=
  { d.update (drbgDerive entropy) with
    c := 0, stalled := false, reseeds := d.reseeds + 1
    cMax := BitVec.ofNat 32 (max d.cMax.toNat d.c) }

/-- A generate request: four words, and the instance after it. -/
def Drbg.generate (d : Drbg) : List Par × Drbg :=
  let out := drbgBlock d.key (d.v + 1)
  let d1 := ({ d with v := d.v + 1 } : Drbg).update (List.replicate 48 0)
  ((chunksOf 4 4 out).map fun w => BitVec.ofNat 32 (natBE w),
   { d1 with c := d.c + 1, stalled := d.stalled || decide (65536 ≤ d.c + 1) })

/-- Bits as bytes, the first bit the most significant. -/
def bitsToBytes (l : List Bool) : List Byte :=
  (chunksOf 8 (l.length / 8) l).map fun p => byteOf (p.foldl (fun n b => 2 * n + (if b then 1 else 0)) 0)

end Sys2Proof.Machine
end

