-- ==== Sys2Proof/Machine/Grit.lean ====
section
/-! DEFINITION. Grit: the noise sources with their health tests and conditioners, entropy inputs, the instances of
the expander and the random registers (15_grit). -/

namespace Sys2Proof.Machine

/-! ### Sources (R851 to R856) -/

/-- The other source. -/
def otherSource (x : Fin 2) : Fin 2 := if x = 0 then 1 else 0

/-- Change source `x`. -/
def State.onSource (s : State) (x : Fin 2) (f : Source → Source) : State :=
  s.onGrit fun g => { g with source := vmod g.source x f }

/-- The entropy input being gathered is discarded (R857, R878). -/
def Grit.dropGather (g : Grit) : Grit :=
  if g.gather.isEmpty then g
  else { g with gather := [], discarded := g.discarded + 1, nextInput := g.nextInput + 1 }

/-- The inputs that await their release are discarded (R857). -/
def Grit.dropComplete (g : Grit) : Grit :=
  { g with complete := [], discarded := g.discarded + BitVec.ofNat 16 g.complete.length }

/-- Every buffer is emptied (R872). -/
def Grit.emptyBuffers (g : Grit) : Grit :=
  { g with rand := mapEach (fun (r : RandPort) => { r with words := [] }) g.rand, devWords := [] }

/-- A blocked period begins, with its cause, unless output was blocked already (R872, R873). -/
def State.gritBlock (s : State) (cause : Nat) (before : Bool) : State :=
  if s.grit.blocked ∧ !before then (s.onGrit Grit.emptyBuffers).gritBlockEvent cause else s

/-- The failures of a test window are counted: bit 0 ALIVE, bit 1 LOCK, bit 2 REPEAT. -/
def Grit.countFails (g : Grit) (kinds : BitVec 3) : Grit :=
  { g with
    failAlive := if kinds.getLsbD 0 then satInc g.failAlive else g.failAlive
    failLock := if kinds.getLsbD 1 then satInc g.failLock else g.failLock
    failRepeat := if kinds.getLsbD 2 then satInc g.failRepeat else g.failRepeat }

/-- A test has failed on a source (R853, R854, R857, R880). -/
def State.sourceFails (s : State) (x : Fin 2) (kinds : BitVec 3) : State :=
  let s1 := s.onGrit fun g => g.countFails kinds
  let y := otherSource x
  let fail (u : State) : State := u.onSource x fun q => { q with role := .failed }
  match (s.grit.source[x]).role with
  | .failed => s1
  | .standby =>
    if (s.grit.source[y]).role = .active then (fail s1).raise0 0x90 (byteOf y.val) (BitVec.setWidth 16 kinds)
    else fail s1
  | .active =>
    let s2 := (fail s1).onGrit fun g => g.dropGather.dropComplete
    if (s.grit.source[y]).role = .failed then s2.gritBlock 1 s.grit.blocked
    else
      ((s2.onSource y fun q => { q with role := .active }).onGrit fun g => { g with switches := g.switches + 1 }).raise0
        0x90 (byteOf y.val) (BitVec.setWidth 16 kinds)

/-- A ring's edge count fails ALIVE ("Health tests"). -/
def aliveFails (count fused : Nat) : Bool := 2 * count < fused || 2 * fused < count

/-- Samples that are periodic with a period `p` of 1 to 64 fail LOCK. -/
def lockFails (l : List Bool) : Bool :=
  (List.range 64).any fun p => (List.zipWith (fun a b => a == b) l (l.drop (p + 1))).all id

/-- HEALTH_TEST (R851 to R854): windows of ALIVE and LOCK complete on a source. LOCK is judged on 1,024 samples. -/
def execHealthTest (x : Fin 2) (ringA ringB : Nat) (samples : List Bool) (s : State) : Answer :=
  let fa := if x = 0 then s.fuse.ring[(0 : Fin 4)] else s.fuse.ring[(2 : Fin 4)]
  let fb := if x = 0 then s.fuse.ring[(1 : Fin 4)] else s.fuse.ring[(3 : Fin 4)]
  let kinds : BitVec 3 := (if aliveFails ringA fa || aliveFails ringB fb then 1 else 0)
    ||| (if samples.length = 1024 && lockFails samples then 2 else 0)
  let s1 := if (s.grit.source[x]).role = .active then
      s.onGrit fun g => { g with osc := fld (sat ringA 65535) 0 ||| fld (sat ringB 65535) 16 }
    else s
  .next (if !s.pwr.mgRunning then s else if kinds = 0 then s1 else s1.sourceFails x kinds)

/-- GRIT_RESTORED (R855, R880): a FAILED source has passed every test for 10 s. -/
def execGritRestored (x : Fin 2) (s : State) : Answer :=
  .next (if !s.pwr.mgRunning ∨ (s.grit.source[x]).role ≠ .failed then s
  else
    let only : Bool := (s.grit.source[otherSource x]).role = .failed
    let s1 := s.onSource x fun q => { q with role := if only then .active else .standby }
    let s2 := s1.raise0 0x92 (byteOf x.val) (BitVec.setWidth 16 s1.grit.stat)
    if only ∧ !s2.grit.blocked then s2.gritBlockEvent 1 else s2)

/-! ### Raw bits and the conditioner (R857, R876 to R878) -/

/-- One step of the conditioner: the source after it, and the bit it emits after the second bit of a pair. -/
def Source.condition (q : Source) (r : Bool) : Source × Option Bool :=
  let sh := q.s <<< 1
  let n := if q.s.getLsbD 31 ^^ r then sh ^^^ 0x00400007 else sh
  ({ q with s := n, second := !q.second }, if q.second then some (n.getLsbD 31) else none)

/-- Words pass from the raw FIFO into the buffer of window 0 (R876). -/
def Grit.rawMove (g : Grit) : Grit :=
  let room := 8 - (g.rand[(0 : Fin 9)]).words.length
  { g with
    rand := vmod g.rand 0 fun r => { r with words := r.words ++ g.rawFifo.take room }
    rawFifo := g.rawFifo.drop room }

/-- A bit of the selected source and tap (R876, R877). -/
def Grit.rawBit (g : Grit) (b : Bool) : Grit :=
  if 32 ≤ g.rawFifo.length then { g with lost := true }
  else
    let l := g.rawBits ++ [b]
    if l.length < 32 then { g with rawBits := l }
    else
      let w : Par := BitVec.ofNat 32 (l.foldl (fun n b => 2 * n + (if b then 1 else 0)) 0)
      ({ g with rawBits := [], rawFifo := g.rawFifo ++ [w] } : Grit).rawMove

/-- An emitted bit joins the entropy input; 1,024 of them form one, with its number (R857). -/
def Grit.gatherBit (g : Grit) (b : Bool) : Grit :=
  let l := g.gather ++ [b]
  if l.length < 1024 then { g with gather := l }
  else { g with gather := [], complete := g.complete ++ [(l, g.nextInput)], nextInput := g.nextInput + 1 }

/-- A raw bit of a source goes where it is used: to the conditioner of the active source, and while RAW = 1 to the
raw FIFO from the source and tap selected. -/
def Grit.takeBit (g : Grit) (x : Fin 2) (b : Bool) : Grit :=
  let active : Bool := (g.source[x]).role = .active
  let picked : Bool := g.raw && g.rawCfg.getLsbD 0 == decide (x = 1)
  let tap := g.rawCfg.getLsbD 1
  if active || (picked && tap) then
    let p := (g.source[x]).condition b
    let g1 := { g with source := g.source.set x p.1 }
    match p.2 with
    | some e =>
      if g.raw then (if picked then g1.rawBit (if tap then e else b) else g1) else g1.gatherBit e
    | none => if picked && !tap then g1.rawBit b else g1
  else if picked then g.rawBit b else g

/-- The run of equal raw bits of a source after one more (REPEAT); at 81 the test fails and starts afresh. -/
def Source.repeatTest (q : Source) (b : Bool) : Source × Bool :=
  let n := if q.run ≠ 0 ∧ q.lastBit = b then q.run + 1 else 1
  if 81 ≤ n then ({ q with lastBit := b, run := 0 }, true) else ({ q with lastBit := b, run := n }, false)

/-- LATCH_FIRING: a source fires and gives a raw bit. -/
def execLatchFiring (x : Fin 2) (b : Bool) (s : State) : Answer :=
  let p := (s.grit.source[x]).repeatTest b
  let s1 := (s.onSource x fun _ => p.1).onGrit fun g => g.takeBit x b
  .next (if !s.pwr.mgRunning then s else if p.2 then s1.sourceFails x 4 else s1)

/-! ### Entropy inputs and instances (R857 to R866) -/

/-- ENTROPY_INPUT_RELEASE (R857): every test window over the oldest complete input has passed. -/
def execEntropyInputRelease (s : State) : Answer :=
  .next (match s.grit.complete, s.grit.released with
  | e :: l, none => s.onGrit fun g => { g with complete := l, released := some e }
  | _, _ => s)

/-- An instance may be instantiated: those of the device always, those of a VI while it is enabled and not
resetting (R865, R882). -/
def State.instServed (s : State) (i : Fin 10) : Bool :=
  if h : 1 ≤ i.val ∧ i.val ≤ 8 then s.vi[i.val - 1].state = .enabled else true

/-- RESEED_SLOT (R858, R862): the released input instantiates or reseeds its instance, or is discarded; the nonce and
the personalisation string are those of notes/assumptions 171. -/
def execReseedSlot (s : State) : Answer :=
  .next (match s.grit.released with
  | none => s
  | some (l, n) =>
    let i : Fin 10 := ⟨n % 10, by omega⟩
    let d := s.grit.inst[i]
    let entropy := bitsToBytes l
    let s1 := s.onGrit fun g => { g with released := none }
    if !d.ready ∧ s.instServed i then
      let person := bytesBE i.val 2 ++ bytesBE s.ao.time.toNat 6
      (s1.onGrit fun g => { g with
        inst := vmod g.inst i (Drbg.instantiate entropy (bytesBE s.ao.instCount.toNat 8) person)
        applied := g.applied + 1 }).onAo fun a => { a with instCount := a.instCount + 1 }
    else if d.ready ∧ 1024 ≤ d.c then
      s1.onGrit fun g => { g with inst := vmod g.inst i (Drbg.reseed entropy), applied := g.applied + 1 }
    else s1.onGrit fun g => { g with discarded := g.discarded + 1 })

/-- Words waiting in the buffer of an instance. -/
def Grit.waiting (g : Grit) (i : Fin 10) : Nat :=
  if h : i.val < 9 then (g.rand[i.val]).words.length else g.devWords.length

/-- Words enter the buffer of an instance. -/
def Grit.deliver (g : Grit) (i : Fin 10) (l : List Par) : Grit :=
  if h : i.val < 9 then { g with rand := vmod g.rand ⟨i.val, h⟩ fun r => { r with words := r.words ++ l } }
  else { g with devWords := g.devWords ++ l }

/-- GENERATE_REQUEST (R861, R864, R867). -/
def execGenerateRequest (i : Fin 10) (s : State) : Answer :=
  let d := s.grit.inst[i]
  .next (if d.ready ∧ d.c < 65536 ∧ !s.grit.blocked ∧ s.grit.waiting i ≤ 4 then
    let p := d.generate
    let s1 := s.onGrit fun g => ({ g with inst := g.inst.set i p.2 } : Grit).deliver i p.1
    if p.2.c = 65536 then
      let aux := byteOf i.val
      let pay := BitVec.setWidth 16 s1.grit.switches
      if h : 1 ≤ i.val ∧ i.val ≤ 8 then s1.raiseVi ⟨i.val - 1, by omega⟩ 0x93 aux pay else s1.raise0 0x93 aux pay
    else s1
  else s)

/-- The instance of a VI is erased (R866). -/
def State.eraseInst (s : State) (v : Fin 8) : State :=
  s.onGrit fun g => { g with
    inst := g.inst.set (v.val + 1) {}
    rand := g.rand.set (viWin v) {} }

/-! ### Random registers (R867 to R869, R876) -/

/-- Random reads of a window act: of window 0 outside WAKE and HOLD, of a VI window while its VI is enabled. -/
def State.randServes (s : State) (w : Fin 9) : Bool :=
  if h : 1 ≤ w.val then s.winServes ⟨w.val - 1, by omega⟩ else s.pwr.islandsRun && s.pwr.mode != .wake

/-- A read of VW_RAND_LO that delivers no word: 0 and VALID cleared (R229, R868). -/
def State.randEmpty (s : State) (w : Fin 9) : State :=
  (s.onGrit fun g => { g with rand := vmod g.rand w fun r => { r with latch := 0, valid := false } }).drive 0

/-- RAND_LO_READ (R229, R868, R883). -/
def execRandLoRead (w : Fin 9) (s : State) : Answer :=
  .next (if !s.randServes w then (if s.pwr.mgRunning then s.randEmpty w else s)
  else match (s.grit.rand[w]).words with
  | [] => s.randEmpty w
  | x :: l =>
    let s1 := s.onGrit fun g => { g with
      rand := vmod g.rand w fun r => { words := l, latch := BitVec.setWidth 16 (x >>> 16), valid := true } }
    (if w = 0 then s1.onGrit Grit.rawMove else s1).drive (BitVec.setWidth 16 x))

/-- RAND_HI_READ (R229, R869). -/
def execRandHiRead (w : Fin 9) (s : State) : Answer :=
  .next (if !s.randServes w then (if s.pwr.mgRunning then s.drive 0 else s)
  else (s.drive (s.grit.rand[w]).latch).onGrit fun g => { g with rand := vmod g.rand w fun r => { r with latch := 0 } })

/-- VW_RAND_STAT and HV_RAND_STAT. -/
def State.randStat (s : State) (w : Fin 9) : Word :=
  let r := s.grit.rand[w]
  let d := s.grit.inst[w.castSucc]
  let own : Par := if w = 0 then flag s.grit.raw 5 ||| flag s.grit.lost 6 else 0
  BitVec.setWidth 16 (flag r.valid 0 ||| flag (!r.words.isEmpty) 1 ||| flag s.grit.blocked 2 ||| flag d.stalled 3
    ||| flag d.ready 4 ||| own)

/-! ### grit.ctrl and grit.raw_cfg (R856, R875 to R879) -/

/-- A write of grit.ctrl is accepted. -/
def State.gritCtrlNow (s : State) (v : Par) : Bool :=
  let standby : Bool := s.grit.source.toList.all fun q => q.role ≠ .failed
  !(bit v 0 && s.pwr.mode ≠ .service) && !(bit v 1 && (s.pwr.mode ≠ .service || !standby))

/-- RAW = 1 (R872, R875, R878): output is blocked, and no entropy input is formed. -/
def State.startRaw (s : State) : State :=
  if s.grit.raw then s
  else
    let s1 := s.onGrit fun g => { g.dropGather with raw := true, rawBits := [], rawFifo := [] }
    (s1.onGrit Grit.emptyBuffers).gritBlock 2 s.grit.blocked

/-- SWITCH (R856): the active and the standby source are exchanged. -/
def State.switchSource (s : State) : State :=
  let x : Fin 2 := if (s.grit.source[(0 : Fin 2)]).role = .active then 1 else 0
  let s1 := (s.onSource x fun q => { q with role := .active }).onSource (otherSource x) fun q => { q with role := .standby }
  (s1.onGrit fun g => { g.dropGather with switches := g.switches + 1 }).raise0 0x90 (byteOf x.val) 8

/-- A write of grit.ctrl. -/
def State.gritCtrl (s : State) (v : Par) : State :=
  let s1 := if bit v 1 then s.switchSource else s
  if bit v 0 then s1.startRaw else s1.endRaw

/-- A write of grit.raw_cfg (R879). -/
def State.gritRawCfg (s : State) (v : Par) : State :=
  s.onGrit fun g => { g with
    rawCfg := BitVec.setWidth 2 v, rawBits := [], rawFifo := []
    rand := vmod g.rand 0 fun r => { r with words := [] } }

/-! ### Indices -/

/-- grit.inst. -/
def Drbg.word (d : Drbg) : Par :=
  fld d.c 0 ||| flag (decide (1024 ≤ d.c)) 20 ||| flag d.ready 21 ||| flag d.stalled 22 ||| fld d.reseeds.toNat 24

/-- The indices of Grit; banked ones are those of a VI. -/
def State.gritIndex (s : State) (idx : Nat) (vi : Option (Fin 8)) : Option Par :=
  let g := s.grit
  match idx with
  | 0x3400 => some g.stat
  | 0x3401 => some (flag g.raw 0)
  | 0x3402 => some (BitVec.setWidth 32 g.rawCfg)
  | 0x3403 => some g.switches
  | 0x3404 => some (fld g.failAlive.toNat 0 ||| fld g.failLock.toNat 8 ||| fld g.failRepeat.toNat 16)
  | 0x3405 => some (fld g.applied.toNat 0 ||| fld g.discarded.toNat 16)
  | 0x3406 => some g.osc
  | 0x3410 => some (g.inst[(0 : Fin 10)]).word
  | 0x3411 => some (g.inst[(9 : Fin 10)]).word
  | 0x3480 => some ((vi.map fun v => (g.inst[v.val + 1]).word).getD 0)
  | 0x3481 => some ((vi.map fun v => (g.inst[v.val + 1]).cMax).getD 0)
  | _ => none

end Sys2Proof.Machine
end

