-- ==== Sys2Proof/Machine/Serial.lean ====
section
/-! DEFINITION. The serial ports U0, U1 and U2: ownership, rates and trimming, transmission, reception, and their
registers and events (16_serial). UK is the island's. -/

namespace Sys2Proof.Machine

/-! ### Ownership and settings (R886 to R889) -/

/-- Owner in force of port `p`: none for U0. -/
def SerialBlock.ownerOf (b : SerialBlock) (p : Fin 3) : Option (Fin 8) :=
  if h : p.val = 0 then none
  else
    let n := (b.owner[p.val - 1]).toNat
    if h : 1 ≤ n ∧ n ≤ 8 then some ⟨n - 1, by omega⟩ else none

/-- cfg of port `p`: that of U0, or the instance of the owning VI; 0 without an owner that is ENABLED. -/
def State.serCfg (s : State) (p : Fin 3) : Par :=
  if p.val = 0 then s.parG 0x3501
  else match s.ser.ownerOf p with
    | some v => if s.vi[v].state = .enabled then s.parB v (0x357F + p.val) else 0
    | none => 0

/-- N_frame of a cfg, bit times. -/
def frameLength (cfg : Par) : Nat :=
  1 + (if bit cfg 17 then 7 else 8) + (if bits cfg 18 2 = 0 then 0 else 1) + (if bit cfg 20 then 2 else 1)

/-- Transmitters and receivers run: while MG runs, up to stage 3 of a power-down (R913). -/
def State.serRuns (s : State) : Bool :=
  s.pwr.mgRunning && (match s.pwr.pd with
    | some d => d.stage < 3
    | none => true)

/-- An event of a port goes to its owner's queue (R909 to R912). -/
def State.raiseSer (s : State) (p : Fin 3) (code aux : Byte) (payload : Word) : State :=
  match s.ser.ownerOf p with
  | some v => s.raiseVi v code aux payload
  | none => s

/-! ### Rate figures (R894 to R897) -/

/-- The conditions for trimming hold. -/
def State.trims (s : State) : Bool := s.pwr.clkFallback && s.ao.xtal && bit (s.parG 0x3503) 0

/-- div_t of a cfg (R894). -/
def trimDivider (cfg : Par) (fMeas : Word) : Nat :=
  max 1 ((2 * bits cfg 0 16 * fMeas.toNat + 48000) / 96000)

/-- ser.rate_err of a port, 0.1 %: 0 on the crystal; |ε_t| + 0.2 % when trimmed; else 5.9 %. -/
def rateFigure (fallback trimming : Bool) (cfg : Par) (divT : Word) (fMeas : Word) : Nat :=
  if !fallback then 0
  else if !trimming ∨ bits cfg 0 16 = 0 ∨ divT = 0 then 59
  else
    let e : Rat := ((fMeas.toNat * bits cfg 0 16 : Nat) : Rat) / ((48000 * divT.toNat : Nat) : Rat) - 1
    sat (roundHalfUp (1000 * (if e < 0 then -e else e)) + 2).toNat 255

/-- A figure in 0.1 % is above the tolerance for a frame length. -/
def aboveTolerance (figure n : Nat) : Bool := (375 : Rat) / ((n : Rat) - 1 / 2) < figure

/-- A port reports its figure, and SER_RATE when it crosses the tolerance (R896, R897). -/
def State.reportRate (s : State) (p : Fin 3) : State :=
  let cfg := s.serCfg p
  let q := s.ser.port[p]
  let f := rateFigure s.pwr.clkFallback s.ser.trimming cfg q.divT s.ser.fMeas
  let high := aboveTolerance f (frameLength cfg)
  let s1 := s.onSer p fun q => { q with rateErr := byteOf f, rateHigh := high }
  if high = q.rateHigh then s1
  else
    let aux := byteOf (p.val + (if high then 16 else 0))
    (s1.raise0 0x9B aux (BitVec.ofNat 16 f)).raiseSer p 0x9B aux (BitVec.ofNat 16 f)

/-- Every port reports. -/
def State.reportRates (s : State) : State :=
  (List.finRange 3).foldl (fun u (p : Fin 3) => u.reportRate p) s

/-- The clock state or AUTO_TRIM has changed: without the conditions of R894 the ports run on their written
dividers (R895, R896). -/
def State.serClock (s : State) : State :=
  if s.trims then s.reportRates
  else
    let untrim : Serial → Serial := fun q => { q with divT := 0 }
    (s.onSerial fun b => { b with trimming := false, port := mapEach untrim b.port }).reportRates

/-- While the ports are trimmed, the divider of a port follows a change of its cfg (R893, R894). -/
def State.serRetrim (s : State) (p : Fin 3) : State :=
  if s.ser.trimming then s.onSer p fun q => { q with divT := BitVec.ofNat 16 (trimDivider (s.serCfg p) s.ser.fMeas) }
  else s

/-- TRIM_MEASURE (R894): f_meas in kHz, and a divider for every port. -/
def execTrimMeasure (fMeas : Word) (s : State) : Answer :=
  .next (if s.serRuns ∧ s.trims then
    let s1 := s.onSerial fun b => { b with fMeas := fMeas, trimming := true }
    ((List.finRange 3).foldl (fun u (p : Fin 3) =>
      u.onSer p fun q => { q with divT := BitVec.ofNat 16 (trimDivider (u.serCfg p) fMeas) }) s1).reportRates
  else s)

/-! ### Transmission (R899 to R901, R913 to R919) -/

/-- The divider in force: the trimmed one or the one written. -/
def State.serDivider (s : State) (p : Fin 3) : Nat :=
  let q := s.ser.port[p]
  if q.divT = 0 then bits (s.serCfg p) 0 16 else q.divT.toNat

/-- An idle transmitter goes on: with a break that was asked for, else with the oldest character (R893, R901). -/
def State.serNext (s : State) (p : Fin 3) : State :=
  let cfg := s.serCfg p
  if !s.serRuns ∨ s.pwr.mode = .hold ∨ !bit cfg 16 then s
  else s.onSer p fun q =>
    match q.sending, q.breakReq, q.tx with
    | none, some n, _ => { q with breakReq := none, sending := some (true, max n (frameLength cfg + 1)), txCfg := cfg }
    | none, none, b :: l =>
      { q with tx := l, sending := some (false, b.toNat % (if bit cfg 17 then 128 else 256)), txCfg := cfg }
    | _, _, _ => q

/-- A VI owns port `p` and reaches it through its window. -/
def State.serOwns (s : State) (v : Fin 8) (p : Fin 3) : Bool := s.winServes v && s.ser.ownerOf p == some v

/-- The first count that ser.un_err takes after a read raises SER_ERROR (R908, R911): 1 parity, 2 framing,
3 receive lost, 4 transmit lost. -/
def State.serCount (s : State) (p : Fin 3) (kind : Nat) : State :=
  let q := s.ser.port[p]
  let first : Bool := q.errParity = 0 && q.errFraming = 0 && q.errRxLost = 0 && q.errTxLost = 0
  let s1 := s.onSer p fun q => match kind with
    | 1 => { q with errParity := satInc q.errParity }
    | 2 => { q with errFraming := satInc q.errFraming }
    | 3 => { q with errRxLost := satInc q.errRxLost }
    | _ => { q with errTxLost := satInc q.errTxLost }
  if first then
    let q := s1.ser.port[p]
    s1.raiseSer p 0x9A (byteOf (p.val + 16 * kind)) (BitVec.ofNat 16 (q.errParity.toNat + 256 * q.errFraming.toNat))
  else s1

/-- A write of VW_SERn_DATA (R889, R899, R900). -/
def State.serWrite (s : State) (v : Fin 8) (p : Fin 3) (x : Word) : State :=
  if !s.serOwns v p then s
  else if 64 ≤ (s.ser.port[p]).tx.length then s.serCount p 4
  else (s.onSer p fun q => { q with tx := q.tx ++ [BitVec.setWidth 8 x] }).serNext p

/-- The VI of a window 1 to 8. -/
def viOf (w : Fin 9) : Option (Fin 8) :=
  if h : 1 ≤ w.val then some ⟨w.val - 1, by omega⟩ else none

/-- SER_DATA_WRITE. -/
def execSerDataWrite (w : Fin 9) (p : Fin 3) (x : Word) (s : State) : Answer :=
  .next (match viOf w with
  | some v => s.serWrite v p x
  | none => s)

/-- A write of VW_SER_CTRL (R889, R901): FLUSH_RX, FLUSH_TX, then SEND_BREAK, for one port. -/
def State.serCtrl (s : State) (v : Fin 8) (x : Word) : State :=
  let p : Fin 3 := if x.getLsbD 12 then 2 else 1
  if !s.serOwns v p then s
  else
    (s.onSer p fun q => { q with
      rx := if x.getLsbD 14 then [] else q.rx
      tx := if x.getLsbD 15 then [] else q.tx
      breakReq := if x.getLsbD 13 then some (x.toNat % 4096) else q.breakReq }).serNext p

/-- A write of VW_SER_CTRL from a window with a bit set. -/
def State.serCtrlWin (s : State) (w : Fin 9) (x : Word) : State :=
  match viOf w with
  | some v => s.serCtrl v x
  | none => s

/-- SEND_BREAK (R901). -/
def execSendBreak (w : Fin 9) (x : Word) (s : State) : Answer := .next (s.serCtrlWin w (x ||| 0x2000))
/-- FLUSH_RX (R914). -/
def execFlushRx (w : Fin 9) (x : Word) (s : State) : Answer := .next (s.serCtrlWin w (x ||| 0x4000))
/-- FLUSH_TX (R919). -/
def execFlushTx (w : Fin 9) (x : Word) (s : State) : Answer := .next (s.serCtrlWin w (x ||| 0x8000))

/-- The error counts of a port, in the layout of ser.un_err. -/
def Serial.errWord (q : Serial) : Par :=
  fld q.errParity.toNat 0 ||| fld q.errFraming.toNat 8 ||| fld q.errRxLost.toNat 16 ||| fld q.errTxLost.toNat 24

/-- The error counts take a value of that layout. -/
def Serial.setErr (q : Serial) (x : Par) : Serial :=
  { q with errParity := BitVec.setWidth 8 x, errFraming := BitVec.setWidth 8 (x >>> 8)
           errRxLost := BitVec.setWidth 8 (x >>> 16), errTxLost := BitVec.setWidth 8 (x >>> 24) }

/-- Port `p` passes to another owner (R915): both FIFOs are emptied, and the counts of ser.un_err, which belong to
the owner's instance, are put away and taken up. -/
def State.serTakeOver (s : State) (p : Fin 3) (o : BitVec 4) : State :=
  let idx := 0x3581 + p.val
  let s1 := match s.ser.ownerOf p with
    | some v => s.setPar idx (some v) (s.ser.port[p]).errWord
    | none => s
  let s2 := s1.onSerial fun b => { b with owner := if h : p.val = 0 then b.owner else b.owner.set (p.val - 1) o }
  let e := match s2.ser.ownerOf p with
    | some v => s2.parB v idx
    | none => 0
  (s2.onSer p fun q =>
    ({ q with rx := [], tx := [], breakReq := none, nextOwner := none, rxArmed := true } : Serial).setErr e).serRetrim p

/-- ser.owner is written (R890, R915): a port whose owner changes completes the character in progress first. -/
def State.serOwnerWrite (s : State) (v : Par) : State :=
  [(1 : Fin 3), 2].foldl (fun u (p : Fin 3) =>
    let o : BitVec 4 := BitVec.ofNat 4 (bits v (4 * (p.val - 1)) 4)
    let now : BitVec 4 := if h : p.val = 0 then 0 else u.ser.owner[p.val - 1]
    if (u.ser.port[p]).sending.isSome then u.onSer p fun q => { q with nextOwner := if o = now then none else some o }
    else if o = now then u
    else u.serTakeOver p o) s

/-- CHARACTER_SENT (R891, R901, R915): the character or break in progress is complete. U0 sends the answers of the
management core. -/
def execCharacterSent (p : Fin 3) (s : State) : Answer :=
  .next (if p.val = 0 then
    (if s.pwr.mgRunning then s.onMgmt fun m => { m with u0Tx := m.u0Tx.drop 1 } else s)
  else if (s.ser.port[p]).sending = none then s
  else
    let s1 := s.onSer p fun q => { q with sending := none }
    (match (s.ser.port[p]).nextOwner with
      | some o => s1.serTakeOver p o
      | none => s1).serNext p)

/-- VI reset of an owner (R914): FIFOs empty, a break ends, a character in progress is completed. -/
def State.serViReset (s : State) (v : Fin 8) : State :=
  [(1 : Fin 3), 2].foldl (fun u (p : Fin 3) =>
    if u.ser.ownerOf p = some v then
      u.onSer p fun q =>
        ({ q with
          rx := [], tx := [], breakReq := none, rxArmed := true
          sending := match q.sending with
            | some (false, n) => some (false, n)
            | _ => none } : Serial).setErr 0
    else u) s

/-- Every transmitter is idle at once (02_power_clocks_modes R93). -/
def State.serSilence (s : State) : State :=
  s.onSerial fun b => { b with port := mapEach (fun (q : Serial) => { q with sending := none, breakReq := none }) b.port }

/-- Stage 3 of a power-down (R913): a character in progress is ended, a break at once. -/
def State.serStop (s : State) : State :=
  let stop : Serial → Serial := fun q =>
    let sending := match q.sending with
      | some (false, n) => some (false, n)
      | _ => none
    { q with sending := sending, breakReq := none }
  s.onSerial fun b => { b with port := mapEach stop b.port }

/-! ### Reception (R902 to R911) -/

/-- An entry arrives (R905, R906): whether it is stored, and the port after it. DROP keeps the old entries. -/
def Serial.arrive (q : Serial) (drop : Bool) (e : Word) : Bool × Serial :=
  let n := q.rx.length
  if drop then (if n < 64 then (true, { q with rx := q.rx ++ [e] }) else (false, q))
  else if n < 63 then (true, { q with rx := q.rx ++ [e] })
  else if n = 63 then (false, { q with rx := q.rx ++ [0x4001] })
  else (false, { q with rx := match q.rx.getLast? with
    | some l => if l.toNat / 4096 = 4 ∧ l ≠ 0x4FFF then q.rx.dropLast ++ [l + 1] else q.rx
    | none => q.rx })

/-- SER_RX when the level has risen to the threshold (R909). -/
def State.serLevel (s : State) (p : Fin 3) (before : Nat) : State :=
  let n := (s.ser.port[p]).rx.length
  let t := bits (s.serCfg p) 24 7
  if t ≠ 0 ∧ before < t ∧ t ≤ n ∧ (s.ser.port[p]).rxArmed then
    (s.onSer p fun q => { q with rxArmed := false }).raiseSer p 0x98 (byteOf p.val) (BitVec.ofNat 16 n)
  else s

/-- An entry arrives at a port: what was lost is counted, and the level is watched. The management core takes the
entries of U0 as they come. -/
def State.serArrive (s : State) (p : Fin 3) (e : Word) : State :=
  if p.val = 0 then s
  else
    let q := s.ser.port[p]
    let r := q.arrive (bit (s.serCfg p) 21) e
    let s1 := s.onSer p fun _ => r.2
    let s2 := if r.1 then s1 else s1.serCount p 3
    let s3 := if r.1 ∧ e.toNat / 4096 = 3 then s2.raiseSer p 0x99 (byteOf p.val) (e &&& 0xFFF) else s2
    s3.serLevel p q.rx.length

/-- CHARACTER_RECEIVED (R902, R906, R908): the character bits, whether its parity bit is right, and whether its
first stop bit is high. -/
def execCharacterReceived (p : Fin 3) (ch : Byte) (parity stop : Bool) (s : State) : Answer :=
  let cfg := s.serCfg p
  let v := ch.toNat % (if bit cfg 17 then 128 else 256)
  let kind : Nat := if !stop then 2 else if bits cfg 18 2 ≠ 0 ∧ !parity then 1 else 0
  .next (if !s.serRuns ∨ !bit cfg 16 then s
  else
    let s1 := if kind = 0 then s else s.serCount p kind
    if kind ≠ 0 ∧ bit cfg 21 then s1 else s1.serArrive p (BitVec.ofNat 16 (4096 * kind + v)))

/-- BREAK (R903 to R905, R910): a low level of `length` bit times has ended, or has reached 4,095 bit times. A
shorter one than N_frame + 1 is no break. -/
def execBreakRx (p : Fin 3) (length : Nat) (s : State) : Answer :=
  let cfg := s.serCfg p
  .next (if !s.serRuns ∨ !bit cfg 16 ∨ length < frameLength cfg + 1 then s
  else s.serArrive p (BitVec.ofNat 16 (0x3000 + sat length 4095)))

/-- SER_RX_TIMEOUT (R909): no start edge for 4 character times. -/
def execSerRxTimeout (p : Fin 3) (s : State) : Answer :=
  let q := s.ser.port[p]
  .next (if s.serRuns ∧ q.rx ≠ [] ∧ q.rxArmed ∧ bits (s.serCfg p) 24 7 ≠ 0 then
    (s.onSer p fun q => { q with rxArmed := false }).raiseSer p 0x98 (byteOf p.val) (BitVec.ofNat 16 q.rx.length)
  else s)

/-- SER_DATA_READ (R889, R907, R909). -/
def execSerDataRead (w : Fin 9) (p : Fin 3) (s : State) : Answer :=
  .next (match viOf w with
  | none => s
  | some v =>
    if p.val = 0 ∨ !s.pwr.mgRunning then s
    else if !s.winServes v then s.drive (if s.pwr.mode = .hold then 0 else 0xF000)
    else if s.ser.ownerOf p ≠ some v then s.drive 0xF000
    else match (s.ser.port[p]).rx with
      | [] => (s.onSer p fun q => { q with rxArmed := true }).drive 0xF000
      | e :: l => (s.onSer p fun q => { q with rx := l, rxArmed := true }).drive e)

/-! ### Registers and indices -/

/-- VW_SERn_STAT (R889). -/
def State.serStat (s : State) (v : Fin 8) (p : Fin 3) : Word :=
  let q := s.ser.port[p]
  if s.ser.ownerOf p ≠ some v then 0
  else BitVec.setWidth 16 (fld q.rx.length 0 ||| flag (bit (s.serCfg p) 16) 7 ||| fld (64 - q.tx.length) 8
    ||| flag (q.tx.isEmpty && q.sending.isNone) 15)

/-- ser.owner as written: an owner that waits for the character in progress counts. -/
def State.serOwnerWord (s : State) : Par :=
  let o (p : Fin 3) (now : BitVec 4) : Nat := (((s.ser.port[p]).nextOwner).getD now).toNat
  fld (o 1 s.ser.owner[(0 : Fin 2)]) 0 ||| fld (o 2 s.ser.owner[(1 : Fin 2)]) 4

/-- The indices of the serial ports that are not plain parameters. -/
def State.serIndex (s : State) (idx : Nat) (vi : Option (Fin 8)) : Option Par :=
  let b := s.ser
  let err (p : Fin 3) : Par := match vi with
    | some v => if b.ownerOf p = some v then (b.port[p]).errWord else s.parB v (0x3581 + p.val)
    | none => 0
  match idx with
  | 0x3500 => some s.serOwnerWord
  | 0x3502 => some (b.port[(0 : Fin 3)]).errWord
  | 0x3504 => some (BitVec.setWidth 32 b.fMeas ||| flag b.trimming 16)
  | 0x3505 => some (fld (b.port[(0 : Fin 3)]).rateErr.toNat 0 ||| fld (b.port[(1 : Fin 3)]).rateErr.toNat 8
      ||| fld (b.port[(2 : Fin 3)]).rateErr.toNat 16)
  | 0x3582 => some (err 1)
  | 0x3583 => some (err 2)
  | _ => none

/-- A read of ser.un_err clears it (R908). -/
def State.serErrClear (s : State) (idx : Nat) (vi : Option (Fin 8)) : State :=
  let p : Fin 3 := if idx = 0x3582 then 1 else if idx = 0x3583 then 2 else 0
  match vi with
  | none => s.onSer 0 fun q => q.setErr 0
  | some v => if s.ser.ownerOf p = some v then s.onSer p fun q => q.setErr 0 else s.setPar idx (some v) 0

/-- A write of a cfg is INVALID (R892). -/
def serCfgValid (v : Par) : Bool :=
  !(bit v 16 && bits v 0 16 = 0) && bits v 18 2 ≠ 3 && bits v 24 7 ≤ 64

/-- A write of ser.owner is INVALID (R890). -/
def serOwnerValid (v : Par) : Bool := bits v 0 4 ≤ 8 && bits v 4 4 ≤ 8

/-- A cfg of U1 or U2 is refused with NOT_NOW from a VI that does not own the port (R888). -/
def State.serCfgNow (s : State) (v : Fin 8) (p : Fin 3) : Bool := s.ser.ownerOf p == some v

end Sys2Proof.Machine
end

