-- ==== Sys2Proof/Machine/Marl.lean ====
section
/-! DEFINITION. Marl: ingest buffers, ingest conversion, the compressor and the placing of blocks (07_marl),
and the draining of the data FIFOs into it (03_host_bus, "Bulk data ports"). -/

namespace Sys2Proof.Machine

/-! ### Ingest buffers (R423 to R426) -/

/-- Change Marl's conversion state of a VI's stream. -/
def State.onIngest (s : State) (v : Fin 8) (f : Ingest → Ingest) : State :=
  s.onMarl fun m => { m with ingest := vmod m.ingest v f }

/-- Buffers held by a VI. -/
def Marl.held (m : Marl) (v : Fin 8) : Nat :=
  (List.finRange 8).countP fun (i : Fin 8) => match m.buffer[i] with
    | some b => b.vi = v
    | none => false

/-- marl.buffers_free. -/
def Marl.free (m : Marl) : Nat := (List.finRange 8).countP fun (i : Fin 8) => m.buffer[i].isNone

/-- Free buffer of lowest number. -/
def Marl.lowestFree (m : Marl) : Option (Fin 8) := (List.finRange 8).find? fun (i : Fin 8) => m.buffer[i].isNone

/-- The open band of a VI's stream: its buffer. -/
def Marl.openBuffer (m : Marl) (v : Fin 8) : Option (Fin 8 × IngestBuffer) :=
  (List.finRange 8).findSome? fun (i : Fin 8) => match m.buffer[i] with
    | some b => if b.vi = v ∧ !b.closed then some (i, b) else none
    | none => none

/-- A VI may take a buffer (R424). -/
def State.mayBuffer (s : State) (v : Fin 8) : Bool :=
  let without := (List.finRange 8).countP fun (u : Fin 8) => u ≠ v && s.viCounted u && s.marl.held u = 0
  match s.marl.held v with
  | 0 => 0 < s.marl.free
  | 1 => without < s.marl.free
  | _ => false

/-- Change a buffer. -/
def State.setBuffer (s : State) (i : Fin 8) (b : Option IngestBuffer) : State :=
  s.onMarl fun m => { m with buffer := m.buffer.set i b }

/-- The compressor is coding the buffer. -/
def Marl.codes (m : Marl) (i : Fin 8) : Bool :=
  match m.coding with
  | some c => c.buffer = i
  | none => false

/-- Waiting blocks of a band are discarded (R459, R461). -/
def State.dropWaiting (s : State) (v : Fin 8) (band : Nat) : State :=
  (List.finRange 8).foldl (fun u (i : Fin 8) => match u.marl.buffer[i] with
    | some b => if b.vi = v ∧ b.band = band ∧ b.closed ∧ !u.marl.codes i then u.setBuffer i none else u
    | none => u) s

/-- A number of bytes of white. -/
def whites (n : Nat) : List Byte := List.replicate n 0

/-- The open band closes with white for what is missing (03_host_bus R192, R193); a block of it that waits is
discarded (R459). -/
def State.closeBand (s : State) (v : Fin 8) : State :=
  match s.marl.openBuffer v with
  | none => s
  | some (i, b) =>
    let s1 := s.dropWaiting v b.band
    (s1.setBuffer i (some { b with
      bytes := b.bytes ++ whites (16384 - b.bytes.length), closed := true, closedOrder := s1.marl.nextOrder })).onMarl
        fun m => { m with nextOrder := m.nextOrder + 1 }

/-- One byte after conversion goes into the open band; none when it needs a buffer that the VI may not take
(R425). -/
def State.putByte (s : State) (v : Fin 8) (x : Byte) : Option State :=
  let g := s.marl.ingest[v]
  let next := s.onIngest v fun g => { g with out := g.out + 1 }
  match s.marl.openBuffer v with
  | some (i, b) =>
    let s1 := next.setBuffer i (some { b with bytes := b.bytes ++ [x] })
    some (if 16384 ≤ b.bytes.length + 1 then s1.closeBand v else s1)
  | none =>
    if s.mayBuffer v then
      match s.marl.lowestFree with
      | some i => some ((next.setBuffer i (some {
          vi := v, band := g.out / 16384, bytes := (g.carry.take (g.out % 16384)) ++ [x], closed := false
          closedOrder := 0, speckle := g.mode = 1, dither := g.mode = 2, storeFull := false, discard := false })).onIngest
            v fun g => { g with carry := [] })
      | none => none
    else none

/-- Bytes after conversion go into the band as far as buffers allow; the rest waits (R425). -/
def State.putQueued (s : State) (v : Fin 8) : List Byte → State
  | [] => s.onIngest v fun g => { g with queued := [] }
  | x :: t => match s.putByte v x with
    | some u => u.putQueued v t
    | none => s.onIngest v fun g => { g with queued := x :: t }

/-- Bytes after conversion, behind those that wait. -/
def State.putBytes (s : State) (v : Fin 8) (l : List Byte) : State := s.putQueued v ((s.marl.ingest[v]).queued ++ l)

/-- The next byte has its place: nothing waits, and the VI has a band open or may take a buffer (R424, R425). -/
def State.placeable (s : State) (v : Fin 8) : Bool :=
  (s.marl.ingest[v]).queued.isEmpty && ((s.marl.openBuffer v).isSome || (s.mayBuffer v && s.marl.lowestFree.isSome))

/-- What a byte of the stream yields: none when it has to wait (R425). -/
def State.yield (s : State) (v : Fin 8) (l : List Byte) : Option State :=
  if l.isEmpty then some s
  else if s.placeable v ∨ !(s.marl.ingest[v]).queued.isEmpty then some (s.putBytes v l)
  else none

/-! ### Conversion (07_marl, "Speckle drop", "Dither-on-ingest") -/

/-- Dots to bytes, bit 7 the leftmost. -/
def dotsToByte (l : List Bool) : Byte :=
  BitVec.ofNat 8 ((List.range 8).foldl (fun n k => 2 * n + (if l.getD k false then 1 else 0)) 0)

/-- Dots to bytes. -/
def packDots : Nat → List Bool → List Byte
  | 0, _ => []
  | n + 1, l => dotsToByte (l.take 8) :: packDots n (l.drop 8)

/-- A dot lies in a protected rectangle (R453). -/
def protectedDot (rects : List (Nat × Nat × Nat × Nat)) (x y : Nat) : Bool :=
  rects.any fun r => r.1 ≤ y && y < r.1 + r.2.1 && r.2.2.1 ≤ x && x < r.2.2.1 + r.2.2.2

/-- One line of speckle drop (R440, R441): the dots left of the present one in the lines above, present and
below, then the rest of the three lines. Answers the dots, and how many were cleared. -/
def speckleRow (safe : Nat → Bool) (x : Nat) (la lc lb : Bool) : List Bool → List Bool → List Bool →
    List Bool × Nat
  | _, [], _ => ([], 0)
  | a, c :: ct, b =>
    let a0 := a.headD false
    let b0 := b.headD false
    let lone := !la && !a0 && !(a.tail.headD false) && !lc && !(ct.headD false) && !lb && !b0 && !(b.tail.headD false)
    let drop := c && lone && !safe x
    let r := speckleRow safe (x + 1) a0 c b0 a.tail ct b.tail
    ((c && !drop) :: r.1, r.2 + (if drop then 1 else 0))

/-- A line after speckle drop, from byte `skip` on, and the dots cleared in it. -/
def speckleLine (rects : List (Nat × Nat × Nat × Nat)) (y bpl skip : Nat) (above line below : List Byte) :
    List Byte × Nat :=
  let wide := fun (l : List Byte) => (l ++ whites (bpl - l.length)).flatMap byteDots
  let r := speckleRow (fun x => protectedDot rects x y || x < 8 * skip) 0 false false false
    (wide above) (wide line) (wide below)
  ((packDots bpl r.1).drop skip, r.2)

/-- Dots cleared are counted, saturating (R443). -/
def State.countSpeckle (s : State) (v : Fin 8) (n : Nat) : State :=
  s.onVi v fun y => { y with speckleRemoved := BitVec.ofNat 32 (sat (y.speckleRemoved.toNat + n) 4294967295) }

/-- A byte arrives under speckle drop: with the last byte of a line, the line before it is decided. -/
def State.speckleByte (s : State) (v : Fin 8) (x : Byte) : Option State :=
  let g := s.marl.ingest[v]
  let b := g.below ++ [x]
  if b.length < g.bpl then some (s.onIngest v fun g => { g with below := b })
  else
    let shift := fun (u : State) => u.onIngest v fun g => { g with
      above := g.current, current := b, below := [], currentDone := g.belowDone, belowDone := 0, line := g.line + 1 }
    if g.current.isEmpty then some (shift s)
    else
      let r := speckleLine g.rects (g.line - 1) g.bpl g.currentDone g.above g.current b
      (s.yield v r.1).map fun u => shift (u.countSpeckle v r.2)

/-- tie_bit(): the bit and the register. -/
def tieBit (l : Word) : Bool × Word :=
  let b := ((l.getLsbD 0 ^^ l.getLsbD 2) ^^ l.getLsbD 3) ^^ l.getLsbD 5
  (b, (l >>> 1) ||| (if b then 0x8000 else 0))

/-- An error as accumulated: limited to −512 to 511. -/
def clampErr (e : Int) : Int := limitTo e (-512) 511

/-- Add to the first element of a list of errors. -/
def addHead (e : Int) : List Int → List Int
  | [] => [clampErr e]
  | a :: t => clampErr (a + e) :: t

/-- One dot of dither-on-ingest: the bit and the state after it. `errNext` holds the errors of the next line,
that of this dot first. -/
def ditherDot (g : Ingest) (d : Nat) : Bool × Ingest :=
  let x := g.dot
  let y := g.line
  let here := match g.errNext with
    | [] => [0]
    | l => l
  let row := g.errRow.tail
  if protectedDot g.rects x y then
    (decide (128 ≤ d), { g with dot := x + 1, errRow := row, errRight := 0, errNext := 0 :: here })
  else
    let v : Int := (d : Int) + clampErr (g.errRow.headD 0 + g.errRight)
    let t := tieBit g.lfsr
    let o := if 128 < v then (true, g.lfsr) else if v < 128 then (false, g.lfsr) else t
    let e : Int := v - (if o.1 then 255 else 0)
    let r := (7 * e) / 16
    let dl := (3 * e) / 16
    let dn := (5 * e) / 16
    let dr := e - r - dl - dn
    let into := fun (tx ty : Nat) (z : Int) => if protectedDot g.rects tx ty then 0 else z
    let below := addHead (into x (y + 1) dn) here
    let below := match below with
      | [] => []
      | b :: t => b :: (if 0 < x then (match t with
          | [] => []
          | c :: u => clampErr (c + into (x - 1) (y + 1) dl) :: u) else t)
    (o.1, { g with
      dot := x + 1, errRow := row, lfsr := o.2
      errRight := if x + 1 < 8 * g.bpl then into (x + 1) y r else 0
      errNext := clampErr (into (x + 1) (y + 1) dr) :: below })

/-- After the last dot of a line the errors gathered below become those of the next line. -/
def endDitherLine (g : Ingest) : Ingest :=
  if g.dot < 8 * g.bpl then g
  else { g with dot := 0, line := g.line + 1, errRow := g.errNext.tail.reverse, errNext := [], errRight := 0 }

/-- A darkness byte arrives under dither-on-ingest (R446): eight dots make a byte. -/
def State.ditherByte (s : State) (v : Fin 8) (x : Byte) : Option State :=
  let r := ditherDot (s.marl.ingest[v]) x.toNat
  let b := r.2.bits ++ [r.1]
  let g := endDitherLine { r.2 with bits := if b.length < 8 then b else [] }
  let s1 := s.onIngest v fun h => { g with out := h.out, carry := h.carry, queued := h.queued }
  if b.length < 8 then some s1 else s1.yield v [dotsToByte b]

/-- One byte of the stream. -/
def State.ingestByte (s : State) (v : Fin 8) (x : Byte) : Option State :=
  match (s.marl.ingest[v]).mode.toNat with
  | 1 => s.speckleByte v x
  | 2 => s.ditherByte v x
  | _ => s.yield v [x]

/-! ### Hand-over of the open band (03_host_bus R193; R441, R442, R462) -/

/-- What the line history of speckle drop still holds goes into the band: a dot beside the end of the data
has no neighbour there. -/
def State.speckleFlush (s : State) (v : Fin 8) : State :=
  let g := s.marl.ingest[v]
  let first := if g.current.isEmpty then s
    else
      let r := speckleLine g.rects (g.line - 1) g.bpl g.currentDone g.above g.current g.below
      (s.putBytes v r.1).countSpeckle v r.2
  let second := if g.below.length ≤ g.belowDone then first
    else
      let r := speckleLine g.rects g.line g.bpl g.belowDone g.current g.below []
      (first.putBytes v (r.1.take (g.below.length - g.belowDone))).countSpeckle v r.2
  second.onIngest v fun h => { h with
    above := [], current := [], currentDone := 0, below := whites g.below.length, belowDone := g.below.length }

/-- The dither error row is cleared; the byte being formed stays. -/
def clearDither (g : Ingest) : Ingest :=
  { g with errRow := [], errRight := 0, errNext := List.replicate (if g.dot = 0 then 0 else g.dot + 1) 0 }

/-- Bits of a byte being formed, with white after them. -/
def Ingest.partByte (g : Ingest) : List Byte := if g.bits.isEmpty then [] else [dotsToByte g.bits]

/-- What is still held of the open band beside its buffer goes into it: the lines of speckle drop, and a byte of dither
that is being formed. -/
def State.gatherRest (s : State) (v : Fin 8) : State :=
  let g := s.marl.ingest[v]
  if g.mode = 1 then s.speckleFlush v
  else if g.mode = 2 ∧ (s.marl.openBuffer v).isNone ∧ !g.bits.isEmpty ∧ s.placeable v then
    (s.putBytes v g.partByte).onIngest v fun h => { h with out := g.out }
  else s

/-- The open band closes; its content up to the stream address is kept for the band that reopens (R462). -/
def State.handBand (s : State) (v : Fin 8) : State :=
  let s1 := s.onIngest v clearDither
  match s1.marl.openBuffer v with
  | none => s1
  | some (i, b) =>
    let g := s1.marl.ingest[v]
    let keep := b.bytes.take (g.out % 16384)
    let full := if g.mode = 2 then keep ++ g.partByte else b.bytes
    ((s1.setBuffer i (some { b with bytes := full })).closeBand v).onIngest v fun h => { h with carry := keep }

/-- The open band may be handed over: nothing of it waits for a buffer that the VI may not take (R425, R442). -/
def State.gathered (s : State) (v : Fin 8) : Bool :=
  let g := s.marl.ingest[v]
  g.queued.isEmpty && (g.mode ≠ 2 || (s.marl.openBuffer v).isSome || g.bits.isEmpty)

/-- The open band is handed over, or, while what is held of it waits for a buffer, only gathered as far as it can
be. -/
def State.flushBand (s : State) (v : Fin 8) : Bool × State :=
  let s1 := s.gatherRest v
  if s1.gathered v then (true, s1.handBand v) else (false, s1)

/-! ### The data FIFO (03_host_bus R186 to R196) -/

/-- The two bytes of a halfword, the one of the lower raster address first (R191). -/
def halfBytes (swap : Bool) (x : Word) : Byte × Byte :=
  let hi : Byte := BitVec.ofNat 8 (x.toNat / 256)
  let lo : Byte := BitVec.ofNat 8 x.toNat
  if swap then (lo, hi) else (hi, lo)

/-- The VI is the guest VI of a head (17_ryine "Migration"). -/
def State.isGuestVi (s : State) (v : Fin 8) : Bool := (List.finRange 4).any fun (h : Fin 4) => s.guestVi h == some v

/-- First raster address that a write stream may not reach (R196; 17_ryine R968). -/
def State.writeLimit (s : State) (v : Fin 8) : Nat := if s.isGuestVi v then 0x3000000 else 0x4000000

/-- Halfwords leave the FIFO for Marl until one has to wait (R425); each awaited hand-over takes its place between
them (R193). -/
def State.drainLoop (s : State) (v : Fin 8) : Nat → State
  | 0 => s
  | n + 1 =>
    let d := s.vi[v].data
    if !(s.marl.ingest[v]).queued.isEmpty then s
    else if d.closing.head? = some 0 then
      let r := s.flushBand v
      if r.1 then (r.2.onData v fun d => { d with closing := d.closing.tail }).drainLoop v n else r.2
    else match d.fifo with
    | [] => s
    | x :: t =>
      let b := halfBytes d.swapNow x
      match (s.ingestByte v b.1).bind fun u => u.ingestByte v b.2 with
      | some u => ((u.putBytes v []).onData v fun d => { d with
          fifo := t, closing := d.closing.map fun k => k - 1 }).drainLoop v n
      | none => s

/-- The FIFO of a write stream, or of one whose band is still to be handed over, drains as far as it can, behind the
bytes that wait for a buffer. -/
def State.drain (s : State) (v : Fin 8) : State :=
  let d := s.vi[v].data
  if (d.en ∧ !d.dir) ∨ !d.closing.isEmpty then (s.putBytes v []).drainLoop v (258 + d.closing.length) else s

/-- Every write stream drains as far as it can. -/
def State.drainAll (s : State) : State := (List.finRange 8).foldl (fun u (v : Fin 8) => u.drain v) s

/-- A band is partly gathered: BAND_OPEN. -/
def State.bandOpen (s : State) (v : Fin 8) : Bool :=
  let g := s.marl.ingest[v]
  (s.marl.openBuffer v).isSome || !g.current.isEmpty || g.belowDone < g.below.length || !g.bits.isEmpty
    || !g.queued.isEmpty

/-- Raster address of the next halfword of a write stream (R447). -/
def State.writeAt (s : State) (v : Fin 8) : Nat :=
  let d := s.vi[v].data
  if (s.marl.ingest[v]).mode = 2 then d.start + (d.addr - d.start) / 8 else d.addr

/-- The device stops a stream (R196; 06_silt R417): the read stream's pin is released, and a write stream
hands over its open band. -/
def State.stopStream (s : State) (v : Fin 8) : State :=
  let d := s.vi[v].data
  let s1 := s.onData v fun d => { d with
    en := false, addrErr := true, pinned := none
    closing := if d.dir then d.closing else d.closing ++ [d.fifo.length] }
  if d.dir then s1.unpinWhere v streamPin fun _ => true else s1.drain v

/-- A halfword is taken into the FIFO of a write stream, or stops it at the end of its space (R189, R196). -/
def State.acceptHalf (s : State) (v : Fin 8) (x : Word) : State :=
  if s.writeLimit v ≤ s.writeAt v then s.stopStream v
  else (s.onData v fun d => { d with fifo := d.fifo ++ [x], addr := d.addr + 2 }).drain v

/-- DATA_PORT_WRITE (R194, R1109). -/
def execDataPortWrite (vi : Fin 8) (v : Word) (s : State) : Answer :=
  let d := s.vi[vi].data
  .next (if !s.winServes vi ∨ !d.en ∨ d.dir then s
    else if d.fifo.length < 256 then s.acceptHalf vi v
    else s.onData vi fun d => { d with heldWrite := some v })

/-- FIFO_PLACE_FREE (R194): a held write completes. -/
def execFifoPlaceFree (vi : Fin 8) (s : State) : Answer :=
  let s1 := s.drain vi
  .next (match s1.vi[vi].data.heldWrite with
    | some x => if s1.vi[vi].data.fifo.length < 256 then
        (s1.onData vi fun d => { d with heldWrite := none }).acceptHalf vi x
      else s1
    | none => s1)

/-- The oldest halfword of the FIFO is read. -/
def State.popHalf (s : State) (v : Fin 8) : State :=
  match s.vi[v].data.fifo with
  | x :: t => (s.onData v fun d => { d with fifo := t, addr := d.addr + 2, heldRead := false }).drive x
  | [] => s.drive 0

/-- DATA_PORT_READ (R195, R1109). -/
def execDataPortRead (vi : Fin 8) (s : State) : Answer :=
  let d := s.vi[vi].data
  .next (if !s.winServes vi then (if s.pwr.mgRunning then s.drive 0 else s)
    else if d.en ∧ !d.dir then s.drive 0
    else if d.en ∧ d.fifo.isEmpty then s.onData vi fun d => { d with heldRead := true }
    else if !d.closing.isEmpty then s.drive 0
    else s.popHalf vi)

/-- DATA_LOST, when VW_CTRL.DATA_ERR_EVT is 1 (R194, R195). -/
def State.dataLost (s : State) (v : Fin 8) (aux : Byte) : State :=
  if (s.bus.evq[viWin v]).dataErrEvt then s.raiseVi v 0x0F aux (BitVec.ofNat 16 s.vi[v].data.addr) else s

/-- DATA_PORT_TIMEOUT (R194, R195): a held access has waited 2.0 µs. -/
def execDataPortTimeout (vi : Fin 8) (s : State) : Answer :=
  let d := s.vi[vi].data
  .next (if d.heldWrite.isSome then
      (s.onData vi fun d => { d with heldWrite := none, lost := true }).dataLost vi 1
    else if d.heldRead then
      ((s.onData vi fun d => { d with heldRead := false, underrun := true }).drive 0).dataLost vi 2
    else s)

/-- A read stream's fetch address leaves its page. -/
def State.leavePage (s : State) (v : Fin 8) : State :=
  match s.vi[v].data.pinned with
  | some _ => (s.unpinWhere v streamPin fun _ => true).onData v fun d => { d with pinned := none }
  | none => s

/-- Halfwords of the page at the fetch address enter the FIFO, as many as it and the page hold (R1111). -/
def State.fetchHalves (s : State) (v : Fin 8) : State :=
  let d := s.vi[v].data
  let n := min (256 - d.fifo.length) ((4096 - d.fetch % 4096) / 2)
  let l : List Word := (List.range n).map fun k =>
    let a := (s.rasterByte v streamPin (d.fetch + 2 * k)).toNat
    let b := (s.rasterByte v streamPin (d.fetch + 2 * k + 1)).toNat
    BitVec.ofNat 16 (if d.swapNow then 256 * b + a else 256 * a + b)
  let s1 := s.onData v fun d => { d with fifo := d.fifo ++ l, fetch := d.fetch + 2 * n }
  let s2 := if (d.fetch + 2 * n) % 4096 = 0 then s1.leavePage v else s1
  if d.heldRead ∧ 0 < n then s2.popHalf v else s2

/-- READ_STREAM_FILL (R1111; R196; 06_silt R364, R372, R417): the stream stops at the end of the raster space
and at a LOST page, waits for a page that is only in the store, and pins the page it reads. -/
def execReadStreamFill (vi : Fin 8) (s : State) : Answer :=
  let d := s.vi[vi].data
  let p := d.fetch / 4096
  .next (if !d.en ∨ !d.dir ∨ 256 ≤ d.fifo.length then s
    else if 0x4000000 ≤ d.fetch then s.stopStream vi
    else if d.pinned = some p then s.fetchHalves vi
    else if (s.frameOfPage vi p).isSome then
      ((s.pinPage vi p streamPin).onData vi fun d => { d with pinned := some p }).fetchHalves vi
    else if s.bandLost vi (p / 4) then s.stopStream vi
    else if (s.band vi (p / 4)).isNone then s.fetchHalves vi
    else if s.faultWaits vi p (fun c => match c with | .read => true | _ => false) then s
    else s.raiseFault vi p .read)

/-! ### The compressor (R427 to R436, R454 to R461) -/

/-- MX clocks in a µs, as a multiple of 1/1,000: the edges delivered at the throttle level in force, all of them, 3 of 4
or 1 of 2 (12_analog_thermal R721). -/
def State.mxClocks (s : State) : Nat :=
  (if s.pwr.clkFallback then 250306 else 266000) * (match s.analog.level.val with
    | 0 => 4
    | 1 => 3
    | _ => 2) / 4

/-- MX clocks delivered from an instant (µs) to now. -/
def State.mxSince (s : State) (t : Nat) : Nat := s.now * s.mxClocks / 1000 - t * s.mxClocks / 1000

/-- The compressor credits rise (07_marl, "Sharing the compressor"), in 1/256 clock. -/
def State.marlAccrue (s : State) : State :=
  let clocks := s.mxSince s.marl.creditAt
  let s1 := (List.finRange 8).foldl (fun u (v : Fin 8) => u.onVi v fun x => { x with
    marlCredit := min (32768 * 256) (x.marlCredit + ((x.contract[7]).toNat * clocks : Nat)) }) s
  s1.onMarl fun m => { m with creditAt := s.now }

/-- The oldest closed band of a VI that waits for the compressor. -/
def Marl.oldestClosed (m : Marl) (v : Fin 8) : Option (Fin 8 × IngestBuffer) :=
  (List.finRange 8).foldl (fun o (i : Fin 8) => match m.buffer[i] with
    | some b => if b.vi = v ∧ b.closed ∧ !m.codes i then
        (match o with
          | some (c : Fin 8 × IngestBuffer) => if b.closedOrder < c.2.closedOrder then some (i, b) else o
          | none => some (i, b))
      else o
    | none => o) none

/-- The VI whose band starts next, among those that are left: guaranteed, else in round-robin order after the
last surplus winner (second component true). -/
def State.marlNext (s : State) (left : List (Fin 8)) : Option (Fin 8 × Bool) :=
  let has := left.filter fun v => (s.marl.oldestClosed v).isSome
  let order := fun (v : Fin 8) => match s.marl.oldestClosed v with
    | some e => e.2.closedOrder
    | none => 0
  match (has.filter fun (v : Fin 8) => decide (0 ≤ s.vi[v].marlCredit)).foldl (fun o v =>
      match o with
      | some (u : Fin 8) => if order v < order u then some v else o
      | none => some v) none with
  | some v => some (v, false)
  | none =>
    let turn := (has.filter fun v => s.marl.surplusLast < v) ++ (has.filter fun v => v ≤ s.marl.surplusLast)
    turn.head?.map fun v => (v, true)

/-- STORE_FULL, once for a band (06_silt R379): bit 0 the quota of the VI, bit 1 the store. -/
def State.storeFull (s : State) (i : Fin 8) (b : IngestBuffer) (quota : Bool) : State :=
  if b.storeFull then s
  else (s.setBuffer i (some { b with storeFull := true })).raiseVi b.vi 0x43 (if quota then 1 else 2)
    (BitVec.ofNat 16 b.band)

/-- The block of the chosen VI starts when its chunks can be reserved (R434); else blocks of the VIs left
proceed. -/
def State.marlStart (s : State) (waitClocks : Nat) : Nat → List (Fin 8) → State
  | 0, _ => s
  | n + 1, left =>
    match s.marlNext left with
    | none => s
    | some (v, surplus) => match s.marl.oldestClosed v with
      | none => s
      | some (i, b) =>
        let rest := left.filter fun u => u ≠ v
        if (s.parB v 0x902).toNat < s.storeUsed v + s.storeReserved v + 17 then
          (s.storeFull i b true).marlStart waitClocks n rest
        else match s.reserveChunks v 17 with
          | none => (s.storeFull i b false).marlStart waitClocks n rest
          | some (l, s1) =>
            (s1.onVi v fun x => { x with marlCredit := x.marlCredit - 16384 * 256 }).onMarl fun m => { m with
              coding := some { buffer := i, chunks := l, external := s.silt.external }
              surplusLast := if surplus then v else m.surplusLast
              waitMax := BitVec.ofNat 32 (max m.waitMax.toNat (sat waitClocks 4294967295)) }

/-- The compressor runs: the arbiter serves it (R431). -/
def State.compressorRuns (s : State) : Bool := s.pwr.islandsRun && s.arbServes 5

/-- MARL_BLOCK_START (R431, R454): the compressor is free. `waitClocks` is the wait of the block from its closing,
in MX clocks. -/
def execMarlBlockStart (waitClocks : Nat) (s : State) : Answer :=
  .next (if s.marl.coding.isSome ∨ !s.compressorRuns then s
    else s.marlAccrue.marlStart waitClocks 8 (List.finRange 8))

/-- The block that a buffer's band makes (R427 to R429, R433). -/
def IngestBuffer.block (b : IngestBuffer) (verifyOk : Bool) : List Byte :=
  makeBlock b.speckle b.dither verifyOk b.band b.bytes

/-- RAW and VERIFY_FAIL in the header of a block. -/
def blockRaw (l : List Byte) : Bool := ((l[1]?).getD 0).getLsbD 3
def blockFailed (l : List Byte) : Bool := ((l[1]?).getD 0).getLsbD 0

/-- The block of a buffer is placed in its chunks (R435, R436). -/
def State.placeBlock (s : State) (q : Coding) (b : IngestBuffer) (block : List Byte) : State :=
  let n := chunksFor block.length
  let s1 := (writeChain s q.external (q.chunks.take n) block).placeBand b.vi b.band q.external (q.chunks.take n)
  let s2 := (s1.freeChunks q.external (q.chunks.drop n)).onMarl fun m => { m with
    blocks := m.blocks + 1
    rawBlocks := if blockRaw block then m.rawBlocks + 1 else m.rawBlocks }
  s2.onVi b.vi fun x => { x with
    lastBlock := fld b.band 0 ||| fld n 16 ||| flag (blockRaw block) 24 ||| flag (blockFailed block) 25 }

/-- A mismatch is counted, and MARL_VERIFY raised, of a block that is placed or freed (R433, R461). -/
def State.judgeBlock (s : State) (b : IngestBuffer) (block : List Byte) : State :=
  if blockFailed block then
    ((s.onMarl fun m => { m with verifyFail := m.verifyFail + 1 }).raiseVi b.vi 0x48 (byteOf (b.vi.val + 1))
      (BitVec.ofNat 16 b.band)).raise0 0x48 (byteOf (b.vi.val + 1)) (BitVec.ofNat 16 b.band)
  else s

/-- BLOCK_PLACED (R431, R436, R426, R461): the block ends, its buffer is free, and streams and fetchers follow. -/
def execBlockPlaced (verifyOk : Bool) (s : State) : Answer :=
  .next (match s.marl.coding with
  | none => s
  | some q => if !s.compressorRuns then s else match s.marl.buffer[q.buffer] with
    | none => (s.freeChunks q.external q.chunks).onMarl fun m => { m with coding := none }
    | some b =>
      let s0 := (s.onMarl fun m => { m with coding := none }).setBuffer q.buffer none
      let block := b.block verifyOk
      let s1 := if b.discard then s0.freeChunks q.external q.chunks else s0.placeBlock q b block
      (s1.judgeBlock b block).drainAll.refreshHeads)

/-- Blocks of a band in Marl are discarded with it (R461): a waiting one at once, one being coded at its end. -/
def State.discardBlock (s : State) (v : Fin 8) (band : Nat) : State :=
  let s1 := s.dropWaiting v band
  match s1.marl.coding with
  | some q => match s1.marl.buffer[q.buffer] with
    | some b => if b.vi = v ∧ b.band = band then s1.setBuffer q.buffer (some { b with discard := true }) else s1
    | none => s1
  | none => s1

/-- The block of a VI that is coded is completed for nothing, its chunks freed at its end, and the VI's other bands are
discarded (R465; 04_tenancy R265). -/
def State.discardMarl (s : State) (v : Fin 8) : State :=
  let s1 := (List.finRange 8).foldl (fun u (i : Fin 8) => match u.marl.buffer[i] with
    | some b => if b.vi ≠ v then u
        else if u.marl.codes i then u.setBuffer i (some { b with discard := true })
        else u.setBuffer i none
    | none => u) s
  s1.onIngest v fun _ => {}

end Sys2Proof.Machine
end

