-- ==== Sys2Proof/Machine/Silt.lean ====
section
/-! DEFINITION. Silt: fault resolution, discards, quotas, the slot arbiter and the loss of the external memory
(06_silt). -/

namespace Sys2Proof.Machine

/-! ### Fault resolution (R383 to R389, R437, R438) -/

/-- Order of the fault classes: demand by deadline and head, then read, then prefetch. -/
def FaultClass.key : FaultClass → Nat × Nat × Nat
  | .demand h d => (0, d, h.val)
  | .read => (1, 0, 0)
  | .prefetch _ => (2, 0, 0)

/-- A key comes before another. -/
def keyBefore (a b : Nat × Nat × Nat) : Bool :=
  a.1 < b.1 || (a.1 = b.1 && (a.2.1 < b.2.1 || (a.2.1 = b.2.1 && a.2.2 < b.2.2)))

/-- A prefetch fault. -/
def FaultClass.isPrefetch : FaultClass → Bool
  | .prefetch _ => true
  | _ => false

/-- The page of the fault is still only in the store, and its content is not lost. -/
def State.faultStands (s : State) (f : PageFault) : Bool :=
  (s.band f.vi (f.page / 4)).isSome && !s.bandLost f.vi (f.page / 4) && (s.frameOfPage f.vi f.page).isNone

/-- Faults that no longer stand, and prefetch faults without a frame to take (R388), are dropped. -/
def State.pruneFaults (s : State) : State :=
  let keep := fun (f : PageFault) => s.faultStands f && (!f.cls.isPrefetch || (s.freeByRule f.vi).isSome)
  s.onSilt fun x => { x with faults := x.faults.filter keep }

/-- The first fault in the order of the classes that need not wait for a frame (R373, R383). -/
def State.firstFault (s : State) : Option PageFault :=
  (s.silt.faults.filter fun f => f.cls.isPrefetch || s.canTake f.vi).foldl (fun o f => match o with
    | some (g : PageFault) => if keyBefore f.cls.key g.cls.key then some f else o
    | none => some f) none

/-- BAND_DECODE_START (R383, R384): the decompressor is free, and the arbiter serves it. -/
def execBandDecodeStart (s : State) : Answer :=
  .next (if s.silt.decode.isSome ∨ !s.pwr.islandsRun ∨ !s.arbServes 6 then s
    else
      let s1 := s.pruneFaults
      match s1.firstFault with
      | none => s1
      | some f => match s1.band f.vi (f.page / 4) with
        | some b => s1.onSilt fun x => { x with
            decode := some { vi := f.vi, band := f.page / 4, last := f.page % 4, next := 0, chunks := b.chunks
                             external := b.external } }
        | none => s1)

/-- A page enters a frame: content written, REF = 0 (R389; notes/assumptions 63). -/
def State.enterPage (s : State) (v : Fin 8) (p f : Nat) (l : List Byte) : State :=
  (s.putFrame f { owner := v, use := .page p, ref := false, pins := 0 }).onSilt fun x =>
    { x with sram := memWriteN x.sram (4096 * f) l }

/-- The faults on a page that has become RESIDENT are over; the longest is kept (R386). -/
def State.faultsOver (s : State) (v : Fin 8) (p : Nat) : State :=
  let t := (s.silt.faults.filter fun f => f.vi = v && f.page = p).foldl (fun (n : Nat) (f : PageFault) =>
    max n (s.now - f.raisedAt)) 0
  (s.onSilt fun x => { x with faults := x.faults.filter fun f => !(f.vi = v && f.page = p) }).onVi v fun y =>
    { y with faultTimeMax := BitVec.ofNat 32 (max y.faultTimeMax.toNat (sat t 4294967295)) }

/-- The page decoded is put into a frame: one before the faulting page only by rule 1 or 2 of R368 (R385), the
faulting one also by replacement, unless only prefetched (R388). -/
def State.keepPage (s : State) (d : Decode) (l : List Byte) : State :=
  let p := 4 * d.band + d.next
  if (s.frameOfPage d.vi p).isSome then s.faultsOver d.vi p
  else
    let wanted := d.next = d.last ∧ s.faultWaits d.vi p (fun c => !c.isPrefetch)
    let t := s.takeFrame d.vi !wanted
    match t.1 with
    | some f => (t.2.enterPage d.vi p f l).faultsOver d.vi p
    | none => t.2

/-- DECODE_FAIL: a decode check has failed (07_marl R438). -/
def State.raiseDecodeFail (s : State) (v : Fin 8) (band check : Nat) : State :=
  let aux := byteOf (v.val + 1 + 16 * check)
  ((s.onMarl fun m => { m with decodeFail := m.decodeFail + 1 }).raiseVi v 0x49 aux (BitVec.ofNat 16 band)).raise0
    0x49 aux (BitVec.ofNat 16 band)

/-- A decode check fails (07_marl R438): the band is LOST. -/
def State.decodeFails (s : State) (v : Fin 8) (band check : Nat) : State :=
  (s.onSilt fun x => { x with
    decode := none
    bands := match sparseFind (bandKey v band) x.bands with
      | some b => sparsePut (bandKey v band) { b with lost := true } x.bands
      | none => x.bands
    faults := x.faults.filter fun f => !(f.vi = v && f.page / 4 = band) }).raiseDecodeFail v band check

/-- The decompressor is free again. -/
def State.endDecode (s : State) : State := s.onSilt fun x => { x with decode := none }

/-- The page in progress of a VI that has been reset is completed and freed (04_tenancy R266): what its checks find is
reported. -/
def State.finishFreed (s : State) (d : Decode) (l : List Byte) : State :=
  match decodePage l d.band d.next with
  | .error c => s.endDecode.raiseDecodeFail d.vi d.band c
  | .ok _ => s.endDecode

/-- The next page of the band decoded is judged. A band that has taken a new block meanwhile is decoded anew for its
fault (notes/assumptions 64). -/
def State.finishPage (s : State) (d : Decode) : State :=
  match s.band d.vi d.band with
  | none => s.endDecode
  | some b =>
    if b.chunks ≠ d.chunks ∨ b.external ≠ d.external ∨ b.lost then s.endDecode
    else match decodePage (s.blockBytes b) d.band d.next with
      | .error c => (s.decodeFails d.vi d.band c).refreshHeads
      | .ok l => ((s.keepPage d l).onSilt fun x => { x with
          decode := if d.next < d.last then some { d with next := d.next + 1 } else none }).refreshHeads

/-- FAULT_RESOLVED (R384, R385; 07_marl R437, R438): the decompressor, when the arbiter serves it, ends a page. -/
def execFaultResolved (s : State) : Answer :=
  .next (match s.silt.decode with
  | none => s
  | some d => if !s.arbServes 6 then s else match d.freed with
    | some l => s.finishFreed d l
    | none => s.finishPage d)

/-- QUOTA_REPLACE (R374): each millisecond, of a VI over its frame_max one frame with REF = 0. -/
def execQuotaReplace (s : State) : Answer :=
  .next ((List.finRange 8).foldl (fun u (v : Fin 8) =>
    if u.frameMax v < u.heldFrames v then
      match (u.clockOrder v).find? fun f => match sparseFind f u.silt.frames with
          | some x => !x.ref
          | none => false with
      | some f => (u.onVi v fun y => { y with hand := f }).freeFrame f
      | none => u
    else u) s)

/-! ### Discards (R366; 07_marl R461) -/

/-- A write of silt.discard by or for a VI. -/
def State.writeDiscard (s : State) (v : Fin 8) (x : Par) : State × BitVec 4 :=
  let first := bits x 0 12
  let n := bits x 16 12 + 1
  if 4096 < first + n then (s, 4)
  else
    let s1 := (List.range n).foldl (fun (u : State) k => (u.discardBlock v (first + k)).dropBand v (first + k)) s
    (s1.drainAll.refreshHeads, 0)

/-! ### The slot arbiter (R401 to R410) -/

/-- The table as the parameters hold it. -/
def State.slotTable (s : State) : Vector (BitVec 4) 64 :=
  Vector.ofFn fun (p : Fin 64) => BitVec.setWidth 4 (s.parG (0x840 + p.val))

/-- The burst limits as the parameters hold them. -/
def State.burstTable (s : State) : Vector Nat 10 := Vector.ofFn fun (n : Fin 10) => s.parN (0x820 + n.val)

/-- Entries of a table owned by a code. -/
def ownedBy (t : Vector (BitVec 4) 64) (n : BitVec 4) : Nat := t.toList.countP fun x => x = n

/-- A write of silt.arb_apply (R406). -/
def State.writeArbApply (s : State) (x : Par) : State × BitVec 4 :=
  if !bit x 0 then (s, 0)
  else
    let t := s.slotTable
    let n := ownedBy t 7
    if n < 4 ∨ (t.toList.any fun e => 10 ≤ e.toNat && e.toNat ≤ 14) then
      ((s.onSilt fun y => { y with arb := { y.arb with refused := true } }).raise0 0x44 1 (BitVec.ofNat 16 n), 4)
    else (s.onSilt fun y => { y with arb := { y.arb with refused := false, pending := some (t, s.burstTable) } }, 0)

/-- The committed table takes effect at position 0 (R406, R421). -/
def Arbiter.commit (a : Arbiter) : Arbiter :=
  match a.pending with
  | some p => { a with table := p.1, burst := p.2, pending := none }
  | none => a

/-- A scrub runs: frames of a VI that resets or retires are zeroed (R408; 04_tenancy R269). -/
def State.scrubs (s : State) : Bool :=
  (List.finRange 8).any fun (v : Fin 8) => s.vi[v].state = .resetting || s.vi[v].state = .retiring

/-- Silt has page faults to serve, its work beside a scrub. -/
def State.siltWorks (s : State) : Bool := !s.silt.faults.isEmpty || s.silt.decode.isSome

/-- Requesters that ask for the memory now (notes/assumptions 65): the host bus for read streams, the fetchers
for lines not yet fetched, the compressor, the decompressor, Silt for faults and for a scrub, the management core for
a command and the link DMA for a transfer. -/
def State.requests (s : State) (n : Fin 10) : Bool :=
  if h : 1 ≤ n.val ∧ n.val ≤ 4 then
    match s.paper.run[(⟨n.val - 1, by omega⟩ : Fin 4)] with
    | some r => s.fetching r && r.fetched.isEmpty && r.fetchNext < (s.job r.job).lines
    | none => false
  else match n.val with
    | 0 => (List.finRange 8).any fun (v : Fin 8) => s.vi[v].data.en && s.vi[v].data.dir && s.vi[v].data.fifo.length < 256
    | 5 => s.marl.coding.isSome
    | 6 => s.silt.decode.isSome
    | 7 => s.scrubs || s.siltWorks
    | 8 => s.mgmt.command.isSome
    | _ => s.sendingJob.isSome

/-- Accesses of a requester target the memory port: those of Marl's engines and of the link DMA to blocks that lie in
external memory (R382). -/
def State.targetsPort (s : State) (n : Fin 10) : Bool :=
  match n.val with
  | 5 => (match s.marl.coding with
    | some q => q.external
    | none => false)
  | 6 => (match s.silt.decode with
    | some d => d.external
    | none => false)
  | 9 => s.silt.external
  | _ => false

/-- The next requester in the background round-robin after the last winner (R403). -/
def bgWinner (req : Fin 10 → Bool) (mask : Par) (last : Fin 10) : Option (Fin 10) :=
  let on := (List.finRange 10).filter fun (n : Fin 10) => req n && bit mask n.val
  (on.find? fun n => last < n).orElse fun _ => on.head?

/-- The owner of a position, when it is a requester. -/
def ownerAt (t : Vector (BitVec 4) 64) (p : Fin 64) : Option (Fin 10) :=
  if h : (t[p]).toNat < 10 then some ⟨(t[p]).toNat, h⟩ else none

/-- What the arbiter sees of the rest of the device. -/
structure ArbView where
  /-- requesters that have accesses to make -/
  req : Fin 10 → Bool
  /-- those whose accesses target the memory port -/
  port : Fin 10 → Bool
  /-- silt.arb_bg_mask -/
  mask : Par
  /-- a scrub runs, and Silt has other work -/
  scrub : Bool
  work : Bool

/-- The arbiter's view of the device now. -/
def State.arbView (s : State) : ArbView :=
  { req := s.requests, port := s.targetsPort, mask := s.parG 0x811, scrub := s.scrubs, work := s.siltWorks }

/-- Position p (R401). -/
def Arbiter.pos (a : Arbiter) : Fin 64 := ⟨a.clock % 64, by omega⟩

/-- A requester requests: an access that targets the port waits for room in its queue (R382). -/
def Arbiter.asks (a : Arbiter) (w : ArbView) (n : Fin 10) : Bool := w.req n && (!w.port n || a.port < 64)

/-- The Silt entry at a position serves the scrub: every fourth one in table order, from the first after position 0
(R408). -/
def scrubEntry (t : Vector (BitVec 4) 64) (p : Fin 64) : Bool :=
  (((List.finRange 64).countP fun (q : Fin 64) => t[q] = 7 && (1 ≤ q.val && (q.val < p.val || p.val = 0))) % 4) = 0

/-- The requester that the entry at the present position serves, if it requests (R401, R407, R408). -/
def Arbiter.called (a : Arbiter) (w : ArbView) : Option (Fin 10) :=
  (ownerAt a.table a.pos).bind fun n =>
    if a.asks w n ∧ (n ≠ 7 ∨ w.work ∨ (w.scrub ∧ scrubEntry a.table a.pos)) then some n else none

/-- A beat moves: one that targets the port enters its queue (R382, R404). -/
def Arbiter.beat (a : Arbiter) (w : ArbView) (n : Fin 10) (left : Nat) : Arbiter :=
  { a with
    grant := if 1 < left then some (n, left - 1) else none
    port := if w.port n then a.port + 1 else a.port }

/-- The port takes a beat from its queue, or not (R382). -/
def Arbiter.drainPort (a : Arbiter) : Arbiter :=
  if Config.portTakes a.clock then { a with port := a.port - 1 } else a

/-- The clock's beat: of the grant in force, else of the oldest claim, else of the background round-robin
(R403, R404, R410). -/
def Arbiter.give (a : Arbiter) (w : ArbView) : Arbiter :=
  match a.grant with
  | some g => a.beat w g.1 g.2
  | none => match a.claims with
    | c :: t =>
      ({ a with claims := t, waitMax := max a.waitMax (a.clock - c.2) } : Arbiter).beat w c.1 a.burst[c.1]
    | [] => match bgWinner (a.asks w) w.mask a.bgLast with
      | some n => ({ a with bgLast := n } : Arbiter).beat w n a.burst[n]
      | none => a

/-- One MX clock of the arbiter (R401 to R408, R410, R421): a table committed takes effect at position 0; a requester
that drops its request loses its claim and its grant; the owner of the position leaves a claim; and a beat is
given. -/
def Arbiter.tick (w : ArbView) (a : Arbiter) : Arbiter :=
  let a1 := (if a.pos = 0 then a.commit else a).drainPort
  let a2 := { a1 with
    claims := a1.claims.filter fun (c : Fin 10 × Nat) => a1.asks w c.1
    grant := a1.grant.filter fun g => a1.asks w g.1 }
  let a3 := match a2.called w with
    | some n => if (a2.grant.any fun (g : Fin 10 × Nat) => g.1 = n) ∨ (a2.claims.any fun c => c.1 = n) then a2
      else { a2 with claims := a2.claims ++ [(n, a2.clock)] }
    | none => a2
  let a4 := a3.give w
  { a4 with clock := a4.clock + 1 }

/-- A number of MX clocks. -/
def Arbiter.run (w : ArbView) : Nat → Arbiter → Arbiter
  | 0, a => a
  | n + 1, a => Arbiter.run w n (a.tick w)

/-- Nothing is requested, claimed, granted, committed or queued at the port: only the clock moves. -/
def Arbiter.quiet (a : Arbiter) (w : ArbView) : Bool :=
  (List.finRange 10).all (fun k => !w.req k) && a.claims.isEmpty && a.grant.isNone && a.pending.isNone && a.port = 0

/-- The arbiter over a number of MX clocks; ARB_APPLIED when its table took effect in them (R406). -/
def State.arbClocks (s : State) (n : Nat) : State :=
  let a := s.silt.arb
  let b := if a.quiet s.arbView then { a with clock := a.clock + n } else Arbiter.run s.arbView n a
  let s1 := s.onSilt fun y => { y with arb := b }
  if a.pending.isSome ∧ b.pending.isNone then s1.raise0 0x44 0 (BitVec.ofNat 16 (ownedBy b.table 7)) else s1

/-- The arbiter over the µs that has just passed. -/
def State.arbMicro (s : State) : State := s.arbClocks (s.mxSince (s.now - 1))

/-- TABLE_COMMIT (R406): the next position 0 comes up. -/
def execTableCommit (s : State) : Answer :=
  .next (if s.silt.arb.pending.isSome then s.arbClocks ((64 - s.silt.arb.clock % 64) % 64 + 1) else s)

/-! ### Loss of the external memory (R415; 07_marl R1107) -/

/-- Bands of a VI in external memory. -/
def State.externalBands (s : State) (v : Fin 8) : Nat :=
  s.silt.bands.countP fun e => e.1 / 4096 = v.val && e.2.external && !e.2.lost

/-- The external memory is lost while the device runs: its bands are LOST, the block being coded into it goes
back to its buffer, transfers of guest jobs are given up (notes/assumptions 66), and new blocks are placed on
chip. -/
def State.memoryLost (s : State) : State :=
  let total := (List.finRange 8).foldl (fun n (v : Fin 8) => n + s.externalBands v) 0
  let s1 := (List.finRange 8).foldl (fun u (v : Fin 8) =>
    if 0 < s.externalBands v then u.raiseVi v 0x42 0 (BitVec.ofNat 16 (sat (s.externalBands v) 65535)) else u) s
  let s2 := s1.raise0 0x42 0 (BitVec.ofNat 16 (sat total 65535))
  let s3 := (List.finRange 4).foldl (fun u (g : Fin 4) => match u.link.guest[g] with
    | some x => if x.external ∧ x.handle.isNone then
        (u.onLink fun l => { l with guest := l.guest.set g none }).sendResult x.node x.migId 8 0 0 0 else u
    | none => u) s2
  let s4 := s3.onSilt fun x => { x with
    bands := x.bands.map fun e => (e.1, if e.2.external then { e.2 with lost := true, chunks := [] } else e.2)
    dram := [], extUsed := [], external := false, memStat := x.memStat ||| 4
    decode := match x.decode with
      | some d => if d.external then none else some d
      | none => none }
  (s4.onMarl fun m => { m with coding := match m.coding with
    | some q => if q.external then none else some q
    | none => none }).pruneFaults.refreshHeads

/-! ### Parameters -/

/-- silt.held. -/
def State.siltHeld (s : State) (v : Fin 8) : Par :=
  fld (s.heldFrames v) 0 ||| fld ((s.framesOf v).countP fun e => e.2.pins ≠ 0) 16

/-- silt.page as read. -/
def State.siltPage (s : State) (v : Fin 8) : Par :=
  let p := s.vi[v].pageQuery.toNat
  let f := s.frameOfPage v p
  fld p 0 ||| fld (s.pageState v p) 14
    ||| (match f with
      | some (n, x) => fld n 16 ||| flag x.ref 27
      | none => 0)
    ||| flag (s.bandLost v (p / 4)) 28 ||| flag (s.bandPending v (p / 4)) 29

/-- silt.store_free. -/
def State.storeFree (s : State) : Nat := if s.silt.external then s.silt.extChunks - s.silt.extUsed.length else 0

/-- silt.fetch_hn. -/
def State.fetchStat (s : State) (h : Fin 4) : Par :=
  match s.paper.run[h] with
  | none => 0
  | some r =>
    let n := (s.framesOf r.job.vi).countP fun e => e.2.pins.getLsbD (fetcherPin h).val
    (match r.ext, r.hold, r.late with
      | some _, _, _ => 1 ||| fld HoldCause.external.code 1
      | none, some x, _ => 1 ||| fld x.cause.code 1
      | none, none, some _ => 1 ||| fld HoldCause.late.code 1
      | none, none, none => 0)
    ||| fld (min n 31) 4 ||| (if s.fetching r then fld (s.nLook h (s.job r.job) % 256) 16 else 0)

/-- silt.arb_apply as read. -/
def State.arbStat (s : State) : Par := flag s.silt.arb.pending.isSome 0 ||| flag s.silt.arb.refused 1

end Sys2Proof.Machine
end

