-- ==== Sys2Proof/Machine/Stream.lean ====
section
/-! DEFINITION. VW_DATA_CTRL: starting and stopping a data stream, FLUSH (03_host_bus R187 to R193; 07_marl R446 to
R452, R463; 17_ryine R968). -/

namespace Sys2Proof.Machine

/-- VW_DATA_CTRL as read. -/
def State.dataCtrl (s : State) (v : Fin 8) : Word :=
  let d := s.vi[v].data
  BitVec.setWidth 16 (flag d.en 0 ||| flag d.dir 1 ||| flag d.swap 3 ||| fld d.thr.toNat 4 ||| flag d.lost 8
    ||| flag d.underrun 9 ||| flag d.addrErr 10 ||| flag (s.bandOpen v) 11)

/-- The bits of VW_DATA_CTRL that are cleared by writing 1. -/
def DataPort.clearBits (d : DataPort) (x : Word) : DataPort :=
  { d with
    lost := d.lost && !x.getLsbD 8
    underrun := d.underrun && !x.getLsbD 9
    addrErr := d.addrErr && !x.getLsbD 10 }

/-- A write of VW_DATA_CTRL would change DIR, SWAP or THR. -/
def DataPort.changes (d : DataPort) (x : Word) : Bool :=
  d.dir != x.getLsbD 1 || d.swap != x.getLsbD 3 || d.thr != BitVec.setWidth 2 (x >>> 4)

/-- DIR, SWAP and THR as written. -/
def DataPort.setFields (d : DataPort) (x : Word) : DataPort :=
  { d with dir := x.getLsbD 1, swap := x.getLsbD 3, thr := BitVec.setWidth 2 (x >>> 4) }

/-- The first halfword that is not zero, the high half of each word first. -/
def seedOf : List Par → Option (Word × List Par)
  | [] => none
  | x :: l =>
    let hi : Word := BitVec.setWidth 16 (x >>> 16)
    let lo : Word := BitVec.setWidth 16 x
    if hi ≠ 0 then some (hi, l) else if lo ≠ 0 then some (lo, l) else seedOf l

/-- A seed is drawn from Grit's device instance (07_marl R448): from the words that wait for it, else from a new
request. -/
def State.drawSeed (s : State) : Option (Word × State) :=
  let g := s.grit
  if g.blocked then none
  else match seedOf g.devWords with
  | some (x, l) => some (x, s.onGrit fun g => { g with devWords := l })
  | none =>
    let d := g.inst[(9 : Fin 10)]
    if d.ready ∧ d.c < 65536 then
      let p := d.generate
      match seedOf p.1 with
      | some (x, l) => some (x, s.onGrit fun g => { g with inst := g.inst.set 9 p.2, devWords := l })
      | none => none
    else none

/-- Protected rectangles set in the VI's parameters; those with no lines or no dots are disabled (07_marl R453). -/
def State.protectRects (s : State) (v : Fin 8) : List (Nat × Nat × Nat × Nat) :=
  (List.range 8).filterMap fun r =>
    let a := s.parB v (0xD10 + 2 * r)
    let b := s.parB v (0xD11 + 2 * r)
    if bits a 16 16 = 0 ∨ bits b 16 11 = 0 then none else some (bits a 0 16, bits a 16 16, bits b 0 11, bits b 16 11)

/-- A start is refused: EN stays 0 and ADDR_ERR is set (R188, R452, R463, R968). -/
def State.refuseStart (s : State) (v : Fin 8) : State := s.onData v fun d => { d with en := false, addrErr := true }

/-- What an earlier stream left is put away: its open band is handed over and its halfwords are discarded (R187;
notes/assumptions 68). -/
def State.endEarlier (s : State) (v : Fin 8) : State :=
  let s1 := if s.vi[v].data.closing.isEmpty then s else (s.flushBand v).2
  s1.onData v fun d => { d with fifo := [], closing := [] }

/-- The stream address that VW_DATA_ADDR_HI and VW_DATA_ADDR_LO hold: 26 bits (R187, R189). -/
def DataPort.at (d : DataPort) : Nat := d.addr % 0x4000000

/-- A read stream starts (R187, R188; 06_silt R1111). -/
def State.startRead (s : State) (v : Fin 8) : State :=
  if s.vi[v].data.at % 2 ≠ 0 then s.refuseStart v
  else (s.endEarlier v).onData v fun d => { d with
    en := true, swapNow := d.swap, addr := d.at, start := d.at, fetch := d.at, pinned := none }

/-- A write stream runs from its address on, with the ingest state fresh (07_marl R451). -/
def State.runWrite (s : State) (v : Fin 8) (mode : BitVec 2) (bpl : Nat) (lfsr : Word) : State :=
  let addr := s.vi[v].data.at
  let fresh : Ingest := { mode := mode, bpl := bpl, rects := s.protectRects v, out := addr, lfsr := lfsr }
  ((s.endEarlier v).onIngest v fun _ => fresh).onData v fun d => { d with
    en := true, swapNow := d.swap, addr := addr, start := addr }

/-- A write stream starts with the settings taken (07_marl R451). -/
def State.startWrite (s : State) (v : Fin 8) : State :=
  let addr := s.vi[v].data.at
  let mode : BitVec 2 := BitVec.setWidth 2 (s.parB v 0xD00)
  let bpl := (s.parB v 0xD01).toNat
  let seed : Word := BitVec.setWidth 16 (s.parB v 0xD02)
  if addr % 16384 ≠ 0 ∨ s.writeLimit v ≤ addr ∨ (mode ≠ 0 ∧ bpl = 0) then s.refuseStart v
  else
    if mode = 2 then
      match if seed ≠ 0 then some (seed, s) else s.drawSeed with
      | none => s.refuseStart v
      | some (x, u) => (u.runWrite v mode bpl x).onVi v fun y => { y with seedUsed := x }
    else s.runWrite v mode bpl 0

/-- The open band of a write stream is to be handed over behind the halfwords now in the FIFO, after the hand-overs that
wait already (R193). -/
def State.closeSoon (s : State) (v : Fin 8) : State :=
  (s.onData v fun d => { d with closing := d.closing ++ [d.fifo.length] }).drain v

/-- Host software clears EN (R193, R1110). -/
def State.stopHost (s : State) (v : Fin 8) : State :=
  if s.vi[v].data.dir then (s.leavePage v).onData v fun d => { d with en := false, fifo := [] }
  else (s.onData v fun d => { d with en := false }).closeSoon v

/-- A write of VW_DATA_CTRL (R187 to R193, R229); the heads follow what the streams have still to bring (06_silt
R414). -/
def State.writeDataCtrl (s : State) (v : Fin 8) (x : Word) : State :=
  if !s.winServes v then s
  else
    let s1 := s.onData v fun d => d.clearBits x
    let d := s1.vi[v].data
    (if d.en then
      let s2 := if d.changes x then s1.onData v fun d => { d with addrErr := true } else s1
      if !x.getLsbD 0 then s2.stopHost v else if x.getLsbD 2 ∧ !d.dir then s2.closeSoon v else s2
    else
      let s2 := s1.onData v fun d => d.setFields x
      if x.getLsbD 0 then (if x.getLsbD 1 then s2.startRead v else s2.startWrite v) else s2).refreshHeads

/-- DATA_STREAM_START (R187). -/
def execDataStreamStart (vi : Fin 8) (ctrl : Word) (s : State) : Answer := .next (s.writeDataCtrl vi (ctrl ||| 1))

/-- DATA_STREAM_STOP (R193, R1110). -/
def execDataStreamStop (vi : Fin 8) (ctrl : Word) (s : State) : Answer := .next (s.writeDataCtrl vi (ctrl &&& 0xFFFE))

/-- FLUSH (R193). -/
def execFlush (vi : Fin 8) (ctrl : Word) (s : State) : Answer := .next (s.writeDataCtrl vi (ctrl ||| 4))

/-- A write of VW_DATA_ADDR_HI or VW_DATA_ADDR_LO (R189, R190). -/
def State.writeDataAddr (s : State) (v : Fin 8) (high : Bool) (x : Word) : State :=
  s.onData v fun d =>
    if d.en then { d with addrErr := true }
    else if high then { d with addr := d.addr % 65536 + 65536 * (x.toNat % 1024) }
    else { d with addr := d.addr / 65536 * 65536 + 2 * (x.toNat / 2) }

end Sys2Proof.Machine
end

