-- ==== Sys2Proof/Machine/Tenancy.lean ====
section
/-! DEFINITION. Virtual instances: contract checks, enable and retire, VI resets, the legal role, event queues and
interrupt requests (04_tenancy). -/

namespace Sys2Proof.Machine

/-! ### The contract (R230 to R233) -/

/-- Field `k` of a contract. -/
def cField (t : Vector Par 20) (k : Fin 20) : Nat := (t[k]).toNat

/-- vi.share_min and vi.share_max of a head. -/
def cShareMin (k : Vector Par 20) (h : Fin 4) : Nat := cField k ⟨8 + h.val, by omega⟩
def cShareMax (k : Vector Par 20) (h : Fin 4) : Nat := cField k ⟨12 + h.val, by omega⟩

/-- The contracts of the other counted VIs. -/
def State.otherContracts (s : State) (v : Fin 8) : List (Vector Par 20) :=
  ((List.finRange 8).filter fun u => u ≠ v && s.viCounted u).map fun u => s.vi[u].contract

/-- Sum of a quantity over contracts. -/
def contractSum (l : List (Vector Par 20)) (f : Vector Par 20 → Nat) : Nat := l.foldl (fun n k => n + f k) 0

/-- The contract check table but for its STATE check, in its order: the reason code of the first check that fails,
0 when all pass. `k` is the contract under check and `l` are those of the other counted VIs. -/
def State.contractCheck (s : State) (k : Vector Par 20) (l : List (Vector Par 20)) : BitVec 4 :=
  let jobMin := cField k 3
  let jobMax := cField k 4
  let frameMin := cField k 5
  let frameMax := cField k 6
  let all := k :: l
  let heads := List.finRange 4
  if !(1 ≤ jobMax && jobMax ≤ 16 && jobMin ≤ jobMax) then 1
  else if 32 < contractSum all (fun c => cField c 3) then 2
  else if !(8 ≤ frameMax && frameMax ≤ 1408 && frameMin ≤ frameMax) then 3
  else if 1408 < contractSum all (fun c => cField c 5) then 4
  else if heads.any fun (h : Fin 4) => cShareMax k h < cShareMin k h || 1024 < cShareMax k h
      || (!bit k[1] h.val && cShareMin k h != 0) then 5
  else if heads.any fun (h : Fin 4) => decide (1024 < contractSum all fun c => cShareMin c h) then 6
  else if 256 < cField k 7 ∨ 256 < contractSum all (fun c => cField c 7) then 7
  else if bits k[1] 0 4 = 0 ∨ heads.any fun (h : Fin 4) => bit k[1] h.val && !s.headPresent h then 8
  else if l.any fun (t : Vector Par 20) => k[2] &&& t[2] ≠ 0 then 9
  else 0

/-- The modes in which a VI may be enabled. -/
def Mode.enables : Mode → Bool
  | .run | .reduced | .service | .update => true
  | _ => false

/-- The whole table, the STATE check last (R228, R230). -/
def State.enableCheck1 (s : State) (v : Fin 8) : BitVec 4 :=
  let r := s.contractCheck s.vi[v].contract (s.otherContracts v)
  if r ≠ 0 then r else if s.vi[v].state = .disabled ∧ s.pwr.mode.enables then 0 else 0xA

/-- A write of a contract field is accepted in the state of its VI (R232). -/
def State.contractNow (s : State) (v : Fin 8) (k : Fin 20) : Bool := !((k = 1 || k = 2) && s.viCounted v)

/-- The contract with field `k` written, of a counted VI, passes every check but STATE (R231); the encoding alone
counts for a VI that is not counted (R233). -/
def State.contractValid (s : State) (v : Fin 8) (k : Fin 20) (x : Par) : Bool :=
  !s.viCounted v || s.contractCheck (s.vi[v].contract.set k x) (s.otherContracts v) = 0

/-- A contract field is written: the credits have risen by the shares before it. -/
def State.contractWrite (s : State) (v : Fin 8) (k : Fin 20) (x : Par) : State :=
  s.accrue.marlAccrue.onVi v fun y => { y with contract := y.contract.set k x }

/-! ### Enable and retire (R223 to R229, R1101) -/

/-- Window 0 serves its registers beyond the few of WAKE and HOLD (02_power_clocks_modes R92, R1099). -/
def State.hvServes (s : State) : Bool := s.pwr.islandsRun && s.pwr.mode != .wake

/-- Number of a VI, 1 to 8, in an event. -/
def viAux (v : Fin 8) : Byte := byteOf (v.val + 1)

/-- The VI goes to RETIRING: a reset with source retire is owed, unless one is in progress (R223, R226). -/
def State.retire (s : State) (v : Fin 8) : State :=
  match s.vi[v].state with
  | .enabled => s.onVi v fun y => { y with state := .retiring, resetReq := some .retire }
  | .resetting => s.onVi v fun y => { y with state := .retiring, resetReq := none }
  | _ => s

/-- What the bit of HV_VI_EN was last written to (R224, R1101). -/
def Vi.lastEn (y : Vi) : Bool :=
  match y.enQueue.getLast? with
  | some b => b
  | none => y.state = .enabled || y.state = .resetting

/-- One bit of a write of HV_VI_EN (R224, R1101). -/
def State.writeEnBit (s : State) (v : Fin 8) (b : Bool) : State :=
  let y := s.vi[v]
  if b = y.lastEn ∨ y.state = .retiring then s
  else if b then s.onVi v fun y => { y with enQueue := y.enQueue ++ [true], enBit := true }
  else if y.enQueue.isEmpty then s.retire v
  else s.onVi v fun y => { y with enQueue := y.enQueue ++ [false] }

/-- A write of HV_VI_EN. -/
def State.writeViEn (s : State) (x : Word) : State :=
  if !s.hvServes then s
  else (List.finRange 8).foldl (fun u (v : Fin 8) => u.writeEnBit v (x.getLsbD (v.val + 1))) s

/-- An enable is handled: the checks, and ENABLED or VI_REFUSED (R223, R225, R228). -/
def State.handleEnable (s : State) (v : Fin 8) : State :=
  let r := s.enableCheck1 v
  if r = 0 then (s.accrue.onVi v fun y => { y with state := .enabled, enBit := true }).raise0 0x03 (viAux v) 0
  else
    ((s.onVi v fun y => { y with enBit := y.enQueue.contains true }).onBus fun b => { b with
      viErr := BitVec.ofNat 8 (v.val + 1 + 16 * r.toNat) }).raise0 0x04 (viAux v) (BitVec.setWidth 16 r)

/-- Clears that waited for the enable just handled are acted on (R1101). -/
def State.handleClears (s : State) (v : Fin 8) : State :=
  match s.vi[v].enQueue with
  | false :: t => (s.onVi v fun y => { y with
      enQueue := if y.state = .enabled then [] else t.dropWhile (!·) }).retire v
  | _ => s

/-- VI_ENABLE (R223 to R225): the enable that waits is handled, or a write of 1 to the VI's bit. -/
def execViEnable (vi : Fin 8) (s : State) : Answer :=
  .next (if !s.hvServes then s
  else match s.vi[vi].enQueue with
  | true :: t => ((s.onVi vi fun y => { y with enQueue := t }).handleEnable vi).handleClears vi
  | _ => if s.vi[vi].state = .disabled then s.handleEnable vi else s)

/-- VI_RETIRE (R226, R1101): a write of 0 to the VI's bit. -/
def execViRetire (vi : Fin 8) (s : State) : Answer := .next (if s.hvServes then s.writeEnBit vi false else s)

/-! ### Reset requests (R257 to R260, R1102) -/

/-- A reset of the VI has been requested or is in progress: RESET_BUSY. -/
def Vi.resetBusy (y : Vi) : Bool :=
  y.resetReq.isSome || y.state = .resetting || y.state = .retiring

/-- A reset of a VI is requested; only an ENABLED VI takes it, and requests merge (R223). -/
def State.requestReset (s : State) (v : Fin 8) (src : ResetSource) : State :=
  if s.vi[v].state = .enabled ∧ s.vi[v].resetReq.isNone then s.onVi v fun y => { y with resetReq := some src } else s

/-- A write of HV_VI_RESET (R258, R286). -/
def State.writeViReset (s : State) (v : Word) : State :=
  if !s.hvServes then s
  else (List.finRange 8).foldl (fun u (i : Fin 8) =>
    if v.getLsbD (i.val + 1) then u.requestReset i .hypervisor else u) s

/-- HV_VI_RESET. -/
def execHvViReset (v : Word) (s : State) : Answer := .next (s.writeViReset v)

/-! ### A VI reset (R259 to R275) -/

/-- The VI's runs are stopped (R267, R268). -/
def State.stopViRuns (s : State) (v : Fin 8) : State :=
  (List.finRange 4).foldl (fun u (h : Fin 4) => match u.paper.run[h] with
    | some r => if r.job.vi = v then u.stopJob h .cancelled 3 else u
    | none => u) s

/-- Guest jobs and transfers held under the VI end, and their senders are told (R275; 17_ryine R965, R977). -/
def State.dropGuests (s : State) (v : Fin 8) : State :=
  (List.finRange 4).foldl (fun u (g : Fin 4) => match u.link.guest[g] with
    | some x =>
      if x.vi = v then (u.sendResult x.node x.migId (if x.handle.isSome then 5 else 8)
        (if x.handle.isSome then 2 else 0) 0 0).freeGuest g
      else u
    | none => u) s

/-- Heads reserved for the VI's jobs, and chains of the VI, are released. -/
def State.dropLoam (s : State) (v : Fin 8) : State :=
  let s1 := (List.finRange 16).foldl (fun u (i : Handle) => u.dropReservation ⟨v, i⟩) s
  s1.onLoam fun l => { l with
    jobs := l.jobs.set v (Vector.replicate 16 {})
    head := mapEach (fun (x : LoamHead) =>
      { x with chain := x.chain.filter fun c => c.1 ≠ v }) l.head }

/-- A page of the VI that is being decoded at its reset is completed from the bytes of its block, and freed (R266). -/
def State.keepDecode (s : State) (v : Fin 8) : State :=
  match s.silt.decode with
  | none => s
  | some d =>
    if d.vi = v ∧ d.freed.isNone then
      match s.band d.vi d.band with
      | some b =>
        if b.lost ∨ b.chunks ≠ d.chunks ∨ b.external ≠ d.external then s.endDecode
        else s.onSilt fun x => { x with decode := some { d with freed := some (s.blockBytes b) } }
      | none => s.endDecode
    else s

/-- The VI's raster space becomes ABSENT; its frames stay held, empty, until they have been scrubbed
(R261, R266, R269). The chunks of a block being coded are freed at its end: those on chip with the frames
(07_marl R465). -/
def State.dropRaster (s : State) (v : Fin 8) : State :=
  let mine : Nat × Band → Bool := fun e => decide (e.1 / 4096 = v.val)
  let ext := ((s.silt.bands.filter mine).filter fun e => e.2.external).flatMap fun e => e.2.chunks
  let s1 := s.keepDecode v
  let s2 := (s1.freeChunks true ext).onSilt fun x => { x with
    bands := x.bands.filter fun e => !mine e
    frames := x.frames.map fun e => if e.2.owner = v then (e.1, { e.2 with use := .detached 0, ref := false, pins := 0 }) else e
    faults := x.faults.filter fun f => f.vi ≠ v }
  s2.onMarl fun m => { m with coding := m.coding.map fun q => match m.buffer[q.buffer] with
    | some b => if b.vi = v ∧ !q.external then { q with chunks := [] } else q
    | none => q }

/-- Lamp and solenoid channels of vi.lamps are switched off (R268). -/
def State.viLampsOff (s : State) (v : Fin 8) : State :=
  (List.finRange 8).foldl (fun u (l : Fin 8) => if bit u.vi[v].contract[2] l.val then u.lampOff l else u) s

/-- Banked parameters of the VI take their VI reset values (R261; 19_parameter_map R1057); its bounds of the derating
loops become the outer bounds (01_station_system R58). -/
def State.viParams (s : State) (v : Fin 8) : State :=
  let keeps : Nat × Par → Bool := fun e => e.1 / 65536 ≠ v.val + 1 ||
    (match parRow (e.1 % 65536) with
      | some r => r.keep
      | none => false)
  let s1 : State := { s with par := s.par.filter keeps }
  (List.finRange 4).foldl (fun u (h : Fin 4) =>
    let at1 := 0x1000 + 0x400 * h.val
    (u.setPar (at1 + 0x301) (some v) (u.hPar h 0x107)).setPar (at1 + 0x302) (some v) (u.hPar h 0x108)) s1

/-- Registers of the VI's window and its tenant state (R261, R262): what has no VI reset value stays. -/
def State.viRegisters (s : State) (v : Fin 8) : State :=
  let s1 := s.onVi v fun y => {
    state := y.state, enBit := y.enBit, enQueue := y.enQueue, resetReq := y.resetReq, resetDone := y.resetDone
    resetSource := y.resetSource, resetCount := y.resetCount, resetStart := y.resetStart, contract := y.contract }
  (s1.onPort (viPort v) fun p => { timeHi := p.timeHi, sysTimeHi := p.sysTimeHi }).onEvq (viWin v) fun _ => {}

/-- A command of the tenant that the island has is orphaned (13_kaolin_island R795). -/
def State.dropTenantLegal (s : State) (v : Fin 8) : State :=
  ((s.orphanLegal fun q => q = .tenant v).dropOrphanRsp).onVi v fun y => { y with legPending := none }

/-- A reset of the VI takes effect: everything the VI has in the shared engines is put away (R259 to R275). -/
def State.resetVi (s : State) (v : Fin 8) (src : ResetSource) : State :=
  let s1 := s.accrue.marlAccrue.onVi v fun y => { y with
    state := if y.state = .retiring then .retiring else .resetting
    resetReq := none, resetDone := false, resetSource := src, resetStart := s.now }
  (((((((((((s1.revokeAll v).stopViRuns v).dropGuests v).dropLoam v).dropTenantLegal v).dropRaster v).discardMarl
    v).viLampsOff v).serViReset v).eraseInst v |>.viParams v).endHeld v).viRegisters v

/-- VI resets proceed: the main islands run and no power-down is under way (R285). -/
def State.resetsProceed (s : State) : Bool := s.pwr.islandsRun && s.pwr.pd.isNone

/-- VI_RESET_TAKES_EFFECT (R259, R1102): no parameter operation of the window is in progress. -/
def execViResetTakesEffect (vi : Fin 8) (s : State) : Answer :=
  .next (if !s.resetsProceed then s else match s.vi[vi].resetReq with
  | some src => if (s.bus.port[viPort vi]).posted.isSome then s else (s.resetVi vi src).refreshEligible
  | none => s)

/-- The frames of the VI have been zeroed and return to the free frames (R269). -/
def State.freeScrubbed (s : State) (v : Fin 8) : State := (s.framesOf v).foldl (fun u e => u.freeFrame e.1) s

/-- Code of a reset source in VW_RESET_STAT and VI_RESET_DONE. -/
def ResetSource.code : ResetSource → Nat
  | .tenant => 0
  | .hypervisor => 1
  | .retire => 2

/-- The reset in progress completes (R223, R271). -/
def State.resetOver (s : State) (v : Fin 8) : State :=
  let y := s.vi[v]
  let gone : Bool := y.state = .retiring
  let src : ResetSource := if gone then .retire else y.resetSource
  let pay : Word := BitVec.ofNat 16 (src.code + 4 * sat ((s.now - y.resetStart) / 10) 16383)
  let s1 := (s.freeScrubbed v).onVi v fun y => { y with
    state := if gone then .disabled else .enabled
    enBit := if gone then false else y.enBit
    resetDone := true, resetSource := src, resetCount := y.resetCount + 1 }
  let s2 := (s1.raise0 0x02 (viAux v) pay).raiseVi v 0x02 (viAux v) pay
  if gone then s2.raise0 0x05 (viAux v) 0 else s2

/-- VI_RESET_DONE (R271): not while a reset that is owed has yet to take effect. -/
def execViResetDone (vi : Fin 8) (s : State) : Answer :=
  .next (if !s.resetsProceed then s else match s.vi[vi].state with
  | .resetting => s.resetOver vi
  | .retiring => if s.vi[vi].resetReq.isNone then s.resetOver vi else s
  | _ => s)

/-! ### Legal role (R241 to R243) -/

/-- Waiting LEGAL_LABEL jobs of a former holder fail; nothing is charged (R243). -/
def State.failLegalJobs (s : State) (v : Fin 8) : State :=
  (List.finRange 16).foldl (fun u (i : Handle) =>
    let j := u.job ⟨v, i⟩
    if j.isLegal ∧ (j.state = .filled ∨ j.state = .ready) then
      (u.dropReservation ⟨v, i⟩).endJob ⟨v, i⟩ .failed 5 0
    else u) s

/-- The VI named by a value of HV_LEGAL_ROLE. -/
def roleVi (x : BitVec 4) : Option (Fin 8) :=
  if h : 1 ≤ x.toNat ∧ x.toNat ≤ 8 then some ⟨x.toNat - 1, by omega⟩ else none

/-- Raised at a VI's queue when there is one. -/
def State.raiseOpt (s : State) (v : Option (Fin 8)) (code aux : Byte) (payload : Word) : State :=
  v.elim s fun i => s.raiseVi i code aux payload

/-- The former holder loses what goes with the role (R243; 13_kaolin_island R795; 14_weighing R836). -/
def State.loseRole (s : State) (v : Fin 8) : State :=
  ((s.failLegalJobs v).dropTenantLegal v).onVi v fun y => { y with dupArmed := false }

/-- HV_LEGAL_ROLE takes a value (R242, R243). -/
def State.moveRole (s : State) (x : BitVec 4) : State :=
  let was := s.bus.legalRole
  if 8 < x.toNat ∨ x = was then s
  else
    let s1 := s.onBus fun b => { b with legalRole := x }
    let s2 := (roleVi was).elim s1 fun v => s1.loseRole v
    let aux : Byte := BitVec.setWidth 8 x
    let pay : Word := BitVec.setWidth 16 was
    (((s2.raise0 0x06 aux pay).raiseOpt (roleVi was) 0x06 aux pay).raiseOpt (roleVi x) 0x06 aux pay).refreshEligible

/-! ### Event queues and interrupts (R244 to R256) -/

/-- The event registers of a window are served (R92, R229, R1099). -/
def State.evqServes (s : State) (w : Fin 9) : Bool :=
  if h : 1 ≤ w.val then s.winServes ⟨w.val - 1, by omega⟩ else s.pwr.mgRunning && s.pwr.mode != .hold

/-- An event entry's high half: code and aux. -/
def Event.high (e : Event) : Word := BitVec.ofNat 16 (256 * e.code.toNat + e.aux.toNat)

/-- EVQ_POP (R244, R249). -/
def execEvqPop (w : Fin 9) (s : State) : Answer :=
  .next (if !s.evqServes w then (if s.pwr.mgRunning then s.drive 0 else s)
  else match (s.bus.evq[w]).queue with
  | [] => (s.onEvq w fun p => { p with data := 0 }).drive 0
  | e :: t => (s.onEvq w fun p => { p with queue := t, data := e.payload }).drive e.high)

/-- Bits of IRQ_PEND that writing 1 clears: the classes, and OVERFLOW (R251). -/
def pendBits : Word := 0x43FF

/-- IRQ_PEND_WRITE (R251). -/
def execIrqPendWrite (w : Fin 9) (v : Word) (s : State) : Answer :=
  .next (if s.evqServes w then s.onEvq w fun p => { p with pend := p.pend &&& ~~~(v &&& pendBits) } else s)

/-- IRQ_PEND as read: the classes and NONEMPTY (R251). -/
def EventPort.pendWord (p : EventPort) : Word := p.pend ||| (if p.queue.isEmpty then 0 else 0x8000)

/-- The interrupt request of a window is active (R252). -/
def EventPort.request (p : EventPort) : Bool := p.pendWord &&& p.mask ≠ 0

/-- IRQ_N[k] is low (R253): released while MG does not run and in HOLD (02_power_clocks_modes R93, R96). -/
def State.irqLow (s : State) (k : Fin 4) : Bool :=
  s.pwr.mgRunning && s.pwr.mode ≠ .hold && (List.finRange 9).any fun (w : Fin 9) => (s.bus.irqRoute[k]).getLsbD w.val && (s.bus.evq[w]).request

/-- HV_IRQ_SUM (R256). -/
def State.irqSum (s : State) : Word :=
  (List.finRange 9).foldl (fun x (w : Fin 9) => if (s.bus.evq[w]).request then x ||| BitVec.ofNat 16 (2 ^ w.val) else x) 0

/-- Halfwords of a DMA threshold. -/
def thrHalves (t : BitVec 2) : Nat := (#v[8, 32, 64, 128] : Vector Nat 4)[t.toNat]

/-- DREQ_N[k] is low (03_host_bus R197): released while MG does not run and in HOLD (02_power_clocks_modes R93, R96). -/
def State.dreqLow (s : State) (k : Fin 2) : Bool :=
  s.pwr.mgRunning && s.pwr.mode ≠ .hold && match roleVi (BitVec.ofNat 4 (s.bus.dreqRoute.toNat / 16 ^ k.val)) with
  | some v =>
    let d := s.vi[v].data
    s.viEnabled v && d.en
      && (if d.dir then thrHalves d.thr ≤ d.fifo.length else d.fifo.length + thrHalves d.thr ≤ 256)
  | none => false

end Sys2Proof.Machine
end

