-- ==== Sys2Proof/Machine/ParamWrite.lean ====
section
/-! DEFINITION. A committed write of a parameter: the checks of 19_parameter_map R1046 in their order, and the effect
of the write in its owning island. -/

namespace Sys2Proof.Machine

/-- VI and field of an index of the contract blocks (04_tenancy, "The contract"). -/
def contractAt (idx : Nat) : Option (Fin 8 × Fin 20) :=
  if h : 0x100 ≤ idx ∧ idx < 0x300 ∧ (idx - 0x100) % 0x40 < 20 then
    some (⟨(idx - 0x100) / 0x40, by omega⟩, ⟨(idx - 0x100) % 0x40, h.2.2⟩)
  else none

/-- Unit of an index: `first + size * unit + offset`. -/
def unitOf (n : Nat) [NeZero n] (idx first size : Nat) : Fin n := Fin.ofNat n ((idx - first) / size)

/-- An optional VI satisfies a condition; without one nothing is asked. -/
def optAll (v : Option (Fin 8)) (f : Fin 8 → Bool) : Bool := v.all f

/-- Check 7: the state of the item admits a write. -/
def State.itemNow (s : State) (w : Fin 11) (idx : Nat) (vi : Option (Fin 8)) (v : Par) : Bool :=
  if idx < 0x400 then
    match contractAt idx with
    | some (u, k) => s.contractNow u k
    | none => true
  else if 0x600 ≤ idx ∧ idx < 0x680 then optAll vi fun u => s.jobItemNow u (idx - 0x600) (w = 0)
  else if 0xD00 ≤ idx ∧ idx < 0xD20 then optAll vi fun u => !(s.vi[u].data.en && !s.vi[u].data.dir)
  else if idx < 0x1000 then true
  else if idx < 0x2000 then s.headItemNow (unitOf 4 idx 0x1000 0x400) (idx % 0x400)
  else if idx < 0x2200 then s.axisItemNow (unitOf 4 idx 0x2000 0x80) (idx % 0x80)
  else if idx < 0x2400 then s.pathNow (unitOf 4 idx 0x2200 1) v
  else if idx < 0x2800 then s.axisIsOff (unitOf 4 idx 0x2400 0x100)
  else if idx < 0x2900 then s.mediaItemNow (unitOf 4 idx 0x2800 0x40) (idx % 0x40) v
  else if idx < 0x2980 then s.lampItemNow (unitOf 8 idx 0x2900 0x10) (idx % 0x10)
  else if idx < 0x3000 then true
  else if idx < 0x3100 then s.adcItemNow (unitOf 2 idx 0x3000 0x80) (idx % 0x80)
  else if idx = 0x3401 then s.gritCtrlNow v
  else if idx = 0x3580 ∨ idx = 0x3581 then optAll vi fun u => s.serCfgNow u (if idx = 0x3580 then 1 else 2)
  else if 0x3600 ≤ idx ∧ idx < 0x3700 then s.ryItemNow (idx - 0x3600) v
  else true

/-- Check 8: the value is in the item's encoding and limits. -/
def State.itemValid (s : State) (idx : Nat) (v : Par) : Bool :=
  if idx < 0x400 then
    match contractAt idx with
    | some (u, k) => s.contractValid u k v
    | none => true
  else if 0x408 ≤ idx ∧ idx < 0x40C then v.toNat ≤ s.parN (idx + 4)
  else if 0x40C ≤ idx ∧ idx < 0x410 then s.parN (idx - 4) ≤ v.toNat
  else if idx < 0x1000 then true
  else if idx < 0x2000 then s.headItemValid (unitOf 4 idx 0x1000 0x400) (idx % 0x400) v
  else if idx < 0x2200 then s.axisItemValid (unitOf 4 idx 0x2000 0x80) (idx % 0x80) v
  else if idx < 0x2400 then s.pathValid (unitOf 4 idx 0x2200 1) v
  else if idx < 0x2800 then true
  else if idx < 0x2900 then s.mediaItemValid (unitOf 4 idx 0x2800 0x40) (idx % 0x40) v
  else if idx < 0x2980 then s.lampItemValid (unitOf 8 idx 0x2900 0x10) (idx % 0x10) v
  else if idx < 0x3000 then true
  else if idx < 0x3100 then adcItemValid (idx % 0x80) v
  else if 0x3140 ≤ idx ∧ idx < 0x3150 ∧ idx % 4 = 0 then plausItemValid v
  else if idx = 0x3500 then serOwnerValid v
  else if idx = 0x3501 ∨ idx = 0x3580 ∨ idx = 0x3581 then serCfgValid v
  else if 0x3600 ≤ idx ∧ idx < 0x3700 then ryItemValid (idx - 0x3600) v
  else true

/-- Device time is set by the host (03_host_bus R208, R209). -/
def State.hostTime (s : State) (lo : Par) : State :=
  let t : BitVec 48 := BitVec.ofNat 48 (s.bus.timeStage.toNat * 2 ^ 32 + lo.toNat)
  let step : Int := (t.toNat : Int) - s.ao.time.toNat
  ((s.onAo fun a => { a with
    time := t, timeValid := true, timeSource := 1, slewLeft := 0, slewHold := false }).onBus fun b => { b with
      timeStage := 0 }).raise0 0xB3 1 (stepMs step)

/-- Loops released by a write of sys.loop_freeze slew to their next outputs (01_station_system R47, R50). -/
def State.writeFreeze (s : State) (v : Word) : State :=
  let x := if s.part = .tl2816 then v &&& 0x3333 else v
  let off (n : Nat) : Bool := s.frozen n && !x.getLsbD n
  let s1 := s.onBus fun b => { b with loopFreeze := x }
  (List.finRange 4).foldl (fun u (h : Fin 4) =>
    (u.onEnergy h fun e => { e with slewing := e.slewing || off h.val }).onMedia h fun m => { m with
      gapSlewing := m.gapSlewing || off (4 + h.val), markSlewing := m.markSlewing || off (8 + h.val) }) s1

/-- A write of pwr.wake_en to pwr.mem_cfg (02_power_clocks_modes R101, R118 to R121). -/
def State.pwrItemWrite (s : State) (idx : Nat) (v : Par) : State :=
  match idx with
  | 0x3202 => s.onAo fun a => { a with wakeEn := BitVec.setWidth 4 v }
  | 0x3203 => s.onAo fun a => { a with alarm := BitVec.ofNat 48 (a.alarm.toNat / 2 ^ 32 * 2 ^ 32 + v.toNat) }
  | 0x3204 => s.onAo fun a => { a with alarm := BitVec.ofNat 48 (bits v 0 16 * 2 ^ 32 + a.alarm.toNat % 2 ^ 32) }
  | 0x3205 => s.onAo fun a => { a with thermalRestart := BitVec.setWidth 12 v }
  | 0x3206 => s.onPwr fun p => { p with memCfg := BitVec.setWidth 3 v, memCfgPending := true }
  | _ => s.setPar idx none v

/-- A write of an index 0x3400 to 0x35FF (15_grit; 16_serial). -/
def State.serviceItemWrite (s : State) (idx : Nat) (vi : Option (Fin 8)) (v : Par) : State :=
  match idx with
  | 0x3401 => s.gritCtrl v
  | 0x3402 => s.gritRawCfg v
  | 0x3500 => s.serOwnerWrite v
  | 0x3501 => ((s.setPar idx none v).serRetrim 0).serNext 0
  | 0x3503 => (s.setPar idx none v).serClock
  | 0x3580 => ((s.setPar idx vi v).serRetrim 1).serNext 1
  | 0x3581 => ((s.setPar idx vi v).serRetrim 2).serNext 2
  | _ => s.setPar idx vi v

/-- A write of an index below 0x1000 that has passed its checks. -/
def State.lowItemWrite (s : State) (idx : Nat) (vi : Option (Fin 8)) (v : Par) : State × BitVec 4 :=
  if idx = 0x13 then (s.hostTime v, errOk)
  else if idx = 0x14 then (s.onBus fun b => { b with timeStage := BitVec.setWidth 16 v }, errOk)
  else if idx = 0x20 then (s.writeFreeze (BitVec.setWidth 16 v), errOk)
  else if idx < 0x400 then
    match contractAt idx with
    | some (u, k) => (s.contractWrite u k v, errOk)
    | none => (s, errOk)
  else if idx = 0x810 then s.writeArbApply v
  else match vi with
  | none => (s.setPar idx none v, errOk)
  | some u =>
    if 0x600 ≤ idx ∧ idx < 0x680 then (s.jobItemWrite u (idx - 0x600) v, errOk)
    else if idx = 0x904 ∧ (s.parB u 0x903).toNat < v.toNat then (s.setPar idx vi (s.parB u 0x903), errLimited)
    else if idx = 0x905 then (s.onVi u fun y => { y with pageQuery := BitVec.setWidth 14 v }, errOk)
    else if idx = 0x906 then s.writeDiscard u v
    else (s.setPar idx vi v, errOk)

/-- The effect of a write that has passed its checks, and its result code. -/
def State.itemWrite (s : State) (w : Fin 11) (idx : Nat) (vi : Option (Fin 8)) (v : Par) : State × BitVec 4 :=
  if idx < 0x1000 then s.lowItemWrite idx vi v
  else if idx < 0x2000 then s.headItemWrite w (unitOf 4 idx 0x1000 0x400) (idx % 0x400) v vi
  else if idx < 0x2200 then s.axisItemWrite (unitOf 4 idx 0x2000 0x80) (idx % 0x80) v
  else if idx < 0x2800 then (s.setPar idx none v, errOk)
  else if idx < 0x2900 then s.mediaItemWrite (unitOf 4 idx 0x2800 0x40) (idx % 0x40) v
  else if idx < 0x2980 then s.lampItemWrite w (unitOf 8 idx 0x2900 0x10) (idx % 0x10) v
  else if idx = 0x29C0 then
    match vi with
    | some u => s.writeLampCmd u v
    | none => (s, errNoAccess)
  else if idx = 0x3003 ∨ idx = 0x3083 then (s.adcCtrl (unitOf 2 idx 0x3000 0x80) v, errOk)
  else if 0x3200 ≤ idx ∧ idx < 0x3300 then (s.pwrItemWrite idx v, errOk)
  else if 0x3400 ≤ idx ∧ idx < 0x3600 then (s.serviceItemWrite idx vi v, errOk)
  else if 0x3600 ≤ idx ∧ idx < 0x3700 then (s.ryItemWrite (idx - 0x3600) v, errOk)
  else (s.setPar idx none v, errOk)

/-- A committed write reaches its owning island (19_parameter_map R1046): the first check that fails refuses it, and
a refused write changes nothing (03_host_bus R174). Reserved bits are ignored (00_scope R9). -/
def State.applyCommit (s : State) (w : Fin 11) (idx : Nat) (v : Par) : State × BitVec 4 :=
  let e := s.parCheck w idx true
  if e ≠ errOk then (s, e)
  else match parRow idx with
  | none => (s, errUndefined)
  | some r =>
    let vi := if r.banked then s.portVi w else none
    let x := v &&& r.mask
    if !s.itemNow w idx vi x then (s, errNotNow)
    else if !(r.fields.all fun f => f.admits x) || !s.itemValid idx x then (s, errInvalid)
    else s.itemWrite w idx vi x

end Sys2Proof.Machine
end

