-- ==== Sys2Proof/Machine/ParamRead.lean ====
section
/-! DEFINITION. The value of every parameter, and what a fetch of one changes: read-clear items and latched device
time (03_host_bus R164, R206; 19_parameter_map R1046, R1048 to R1050). -/

namespace Sys2Proof.Machine

/-- Map descriptors, range and attribute words (19_parameter_map, "Descriptor values"); the rest read 0. -/
def mapWords : List (Nat × Nat) := [
  (0x00FF0000, 0x87B0), (0x03FF0100, 0x8231), (0x07FF0400, 0x8279), (0x0BFF0800, 0x8279), (0x0DFF0C00, 0x8279),
  (0x17FF1000, 0x827A), (0x1FFF1800, 0x827A), (0x23FF2000, 0x8233), (0x27FF2400, 0x8233), (0x29FF2800, 0x827C),
  (0x31FF3000, 0x8234), (0x32FF3200, 0x8636), (0x34FF3400, 0x823E), (0x35FF3500, 0x827E), (0x37FF3600, 0x8235),
  (0x3BFF3800, 0x8636), (0x4FFF4000, 0x8287)]

/-- A word of a map descriptor (R1060, R1061): PRESENT is clear for heads 2 and 3 of a TL-2816 and for the island of a
TL-4816N. -/
def State.mapWord (s : State) (i : Nat) : Par :=
  match mapWords[i / 2]? with
  | none => 0
  | some (range, attr) =>
    let absent : Bool := (i / 2 = 6 && s.part = .tl2816) || (i / 2 = 16 && s.part = .tl4816n)
    BitVec.ofNat 32 (if i % 2 = 0 then range else if absent then attr - 0x200 else attr)

/-- sys.loop_clamped (01_station_system R40). -/
def Bus.clamped (b : Bus) : Par := BitVec.setWidth 32 (b.clampedLo ||| b.clampedHi)

/-- Indices below 0x0400 (00_scope, 01_station_system, 03_host_bus, 04_tenancy, 19_parameter_map). The staged and
set values of device time are write-only. -/
def State.sysIndex (s : State) (idx : Nat) : Option Par :=
  if 0x40 ≤ idx ∧ idx < 0x80 then some (s.mapWord (idx - 0x40))
  else if 0x100 ≤ idx then (contractAt idx).map fun p => s.vi[p.1].contract[p.2]
  else match idx with
  | 0x00 => some s.part.id
  | 0x01 => some 0x4201
  | 0x02 => some 1
  | 0x03 => some (BitVec.setWidth 32 s.fuse.serial)
  | 0x04 => some (BitVec.setWidth 32 (s.fuse.serial >>> 32))
  | 0x10 => some (BitVec.setWidth 32 s.ao.time)
  | 0x12 => some s.ao.wakeCount
  | 0x15 => some (flag s.ao.timeValid 0 ||| fld s.ao.timeSource.toNat 1)
  | 0x20 => some (BitVec.setWidth 32 s.bus.loopFreeze)
  | 0x21 => some s.bus.clamped
  | 0x22 => some s.bus.clampCount
  | _ => none

/-- Global indices 0x0400 to 0x0FFF. -/
def State.mxIndex (s : State) (idx : Nat) : Option Par :=
  let m := s.marl
  if 0x404 ≤ idx ∧ idx < 0x408 then some (BitVec.ofNat 32 (s.loam.head[unitOf 4 idx 0x404 1]).cap)
  else if 0x808 ≤ idx ∧ idx < 0x80C then some (s.fetchStat (unitOf 4 idx 0x808 1))
  else match idx with
  | 0x41C => some (BitVec.ofNat 32 s.freeJobs)
  | 0x800 => some (BitVec.ofNat 32 s.freeFrames)
  | 0x801 => some (BitVec.ofNat 32 s.poolFree)
  | 0x802 => some (flag s.silt.external 0)
  | 0x803 => some (BitVec.ofNat 32 s.storeFree)
  | 0x805 => some s.silt.underruns
  | 0x806 => some (BitVec.setWidth 32 s.silt.memStat)
  | 0x810 => some s.arbStat
  | 0x812 => some (BitVec.ofNat 32 s.silt.arb.waitMax)
  | 0xC00 => some m.blocks
  | 0xC01 => some m.rawBlocks
  | 0xC02 => some m.verifyFail
  | 0xC03 => some m.decodeFail
  | 0xC04 => some (BitVec.ofNat 32 m.free)
  | 0xC05 => some m.waitMax
  | _ => none

/-- Banked indices 0x0500 to 0x0DFF and 0x29C0. -/
def State.viIndex (s : State) (v : Fin 8) (idx : Nat) : Option Par :=
  let y := s.vi[v]
  let h : Fin 4 := unitOf 4 idx 0x500 1
  if 0x500 ≤ idx ∧ idx < 0x504 then some (BitVec.ofInt 32 y.creditG[h])
  else if 0x504 ≤ idx ∧ idx < 0x508 then some (BitVec.ofInt 32 y.creditM[h])
  else if 0x508 ≤ idx ∧ idx < 0x50C then some (BitVec.ofNat 32 y.surplus[h])
  else if h : 0x600 ≤ idx ∧ idx < 0x680 then
    some ((s.loam.jobs[v][(idx - 0x600) / 8]).word[(idx - 0x600) % 8])
  else match idx with
  | 0x50C => some (fld (s.heldJobs v) 0 ||| fld (s.residentJobs v) 8)
  | 0x50D => some y.accepted
  | 0x50E => some y.refused
  | 0x900 => some (s.siltHeld v)
  | 0x901 => some (BitVec.ofNat 32 (s.storeUsed v))
  | 0x905 => some (s.siltPage v)
  | 0x907 => some y.faults
  | 0x908 => some y.faultTimeMax
  | 0xD03 => some (BitVec.setWidth 32 y.seedUsed)
  | 0xD04 => some (BitVec.ofInt 32 (y.marlCredit / 256))
  | 0xD05 => some y.lastBlock
  | 0xD06 => some y.speckleRemoved
  | 0xD07 => some (BitVec.ofNat 32 (s.marl.held v))
  | 0x29C0 => some y.lampCmd
  | _ => none

/-- Indices of a head, 0x1000 + 0x400 × h + off (08_head_ports, 09_energy). -/
def State.headIndex (s : State) (h : Fin 4) (off : Nat) : Option Par :=
  let x := s.paper.head[h]
  let e := s.paper.energy[h]
  if 0x180 ≤ off ∧ off < 0x1C0 then some (s.tSeg h (unitOf 64 off 0x180 1))
  else match off with
  | 0x05 => some (BitVec.ofNat 32 (s.rateLim h))
  | 0x06 => some (s.headCtrl h)
  | 0x07 => some (s.headStat h)
  | 0x0C => some (BitVec.ofNat 32 x.vMeas)
  | 0x0D => some (BitVec.ofNat 32 x.iMeas)
  | 0x0E => some (BitVec.setWidth 32 x.tCode)
  | 0x12 => some (BitVec.ofNat 32 x.rAvg)
  | 0x13 => some (s.dotQuery h)
  | 0x14 => some x.faultCount
  | 0x16 => some (s.scanAge h)
  | 0x17 => some x.ocCount
  | 0x18 => some x.trunc
  | 0x140 => some (BitVec.ofNat 32 e.tBase)
  | 0x141 => some (parOfInt e.tRef)
  | 0x142 => some (parOfInt (nodeSixteenth e.tSub))
  | 0x143 => some (s.tMax h)
  | 0x144 => some e.pauses
  | 0x145 => some e.sat
  | 0x146 => some (parOfRat (1000 * s.dotPower h))
  | 0x147 => some (parOfRat e.iIdle)
  | _ => none

/-- Indices of an axis, 0x2000 + 0x80 × a + off, and of the cutter (10_motion). -/
def State.axisIndex (s : State) (a : Fin 4) (off : Nat) : Option Par :=
  let x := s.paper.axis[a]
  match off with
  | 0x0C => some (flag x.enable 0)
  | 0x0D => some (s.axisStat a)
  | 0x0E => some x.pos
  | 0x0F => some (s.axisVel a)
  | 0x10 => some (s.axisTarget a)
  | 0x14 => some (s.revFloorPar a)
  | 0x15 => some (s.axisDac a)
  | 0x16 => some x.faults
  | 0x26 => if a = 3 then some s.paper.cutter.stat else none
  | 0x27 => if a = 3 then some s.paper.cutter.count else none
  | _ => none

/-- Indices of media sensing, 0x2800 + 0x40 × h + off (11_media_outputs). -/
def State.mediaIndex (s : State) (h : Fin 4) (off : Nat) : Option Par :=
  let m := s.paper.media[h]
  match off with
  | 0x10 => some (BitVec.ofNat 32 m.gapThr)
  | 0x11 => some (BitVec.ofNat 32 m.markThr)
  | 0x12 => some (fld m.levLab 0 ||| fld m.levGap 16)
  | 0x13 => some (fld m.pitch 0 ||| fld m.gapLen 16)
  | 0x14 => some m.stat
  | 0x15 => some (parOfInt (m.cutLine.getD 0))
  | 0x16 => some m.skipped
  | _ => none

/-- Indices of a lamp channel, 0x2900 + 0x10 × c + off (11_media_outputs). -/
def State.lampIndex (s : State) (l : Fin 8) (off : Nat) : Option Par :=
  let x := s.paper.lamp[l]
  match off with
  | 0x8 => some x.stat
  | 0x9 => some (BitVec.ofNat 32 x.iMeas)
  | 0xA => some x.trips
  | _ => none

/-- Indices 0x3200 to 0x3208 (02_power_clocks_modes). -/
def State.pwrIndex (s : State) (idx : Nat) : Option Par :=
  let a := s.ao
  let p := s.pwr
  match idx with
  | 0x3200 => some p.wakeCause
  | 0x3201 => some a.lastPd
  | 0x3202 => some (BitVec.setWidth 32 a.wakeEn)
  | 0x3203 => some (BitVec.setWidth 32 a.alarm)
  | 0x3204 => some (BitVec.setWidth 32 (a.alarm >>> 32))
  | 0x3205 => some (BitVec.setWidth 32 a.thermalRestart)
  | 0x3206 => some (BitVec.setWidth 32 p.memCfg ||| flag p.memCfgPending 31)
  | 0x3207 => some (BitVec.setWidth 32 a.holdCause)
  | 0x3208 => some (flag p.mainLock 0 ||| flag p.clkFallback 1 ||| flag a.xtal 2 ||| flag (!a.xtal) 3)
  | _ => none

/-- ms since the last frame from a node, saturating (17_ryine ryine.peer_seen). -/
def State.peerSeen (s : State) (n : Fin 16) : Par :=
  match (s.link.peer[n]).seenAt with
  | some t => BitVec.ofNat 32 (sat ((s.now - t) / 1000) 65535)
  | none => 0xFFFF

/-- Indices 0x3600 to 0x374F (17_ryine). -/
def State.ryIndex (s : State) (idx : Nat) : Option Par :=
  let l := s.link
  if 0x3740 ≤ idx ∧ idx < 0x3750 then some (s.peerSeen (unitOf 16 idx 0x3740 1))
  else if 0x3700 ≤ idx ∧ idx < 0x3740 then
    let n : Fin 16 := unitOf 16 idx 0x3700 4
    let h : Fin 4 := Fin.ofNat 4 idx
    some (if n = l.nid then l.ownCap[h] else (l.peer[n]).cap[h])
  else match idx with
  | 0x3601 => some (fld l.nid.val 0 ||| flag l.conflict 4)
  | 0x3602 => some (fld l.state.code 0 ||| flag l.synced 4 ||| fld l.master.val 8)
  | 0x3603 => some (fld l.tecCount 0 ||| fld l.recCount 16)
  | 0x3604 => some l.lateLoss
  | 0x3605 => some l.arbLoss
  | 0x3606 => some (fld l.errBit.toNat 0 ||| fld l.errStuff.toNat 8 ||| fld l.errCrc.toNat 16 ||| fld l.errForm.toNat 24)
  | 0x3607 => some l.ackErr
  | 0x3608 => some (fld l.framesSent.toNat 0 ||| fld l.framesTaken.toNat 16)
  | 0x3609 => some (fld l.superseded.toNat 0 ||| fld l.exhausted.toNat 16)
  | 0x360A => some ((List.finRange 16).foldl (fun x (n : Fin 16) => x ||| flag (l.peer[n]).present n.val) 0)
  | 0x360F => some (parOfInt l.timeOff)
  | 0x3614 => some s.migStat
  | _ => none

/-- Indices of the island mirror (13_kaolin_island; 14_weighing). -/
def State.islandIndex (s : State) (idx : Nat) : Option Par :=
  if idx = 0x4009 then some s.epochStatWord
  else if idx = 0x400A then some (fld s.legal.timeouts.toNat 0 ||| fld s.legal.busy.toNat 16)
  else s.mirrored.index s.legal.mirror.isSome idx

/-- What the device computes for an index that is no plain parameter. -/
def State.computed (s : State) (idx : Nat) (vi : Option (Fin 8)) : Option Par :=
  if idx < 0x400 then s.sysIndex idx
  else if idx < 0x1000 then
    match vi with
    | some v => s.viIndex v idx
    | none => s.mxIndex idx
  else if idx < 0x2000 then s.headIndex (unitOf 4 idx 0x1000 0x400) (idx % 0x400)
  else if idx < 0x2200 then s.axisIndex (unitOf 4 idx 0x2000 0x80) (idx % 0x80)
  else if idx < 0x2800 then none
  else if idx < 0x2900 then s.mediaIndex (unitOf 4 idx 0x2800 0x40) (idx % 0x40)
  else if idx < 0x2980 then s.lampIndex (unitOf 8 idx 0x2900 0x10) (idx % 0x10)
  else if idx = 0x2981 then some (BitVec.ofNat 32 s.budgetUsed)
  else if idx < 0x3000 then vi.bind fun v => s.viIndex v idx
  else if idx < 0x3200 ∨ (0x3210 ≤ idx ∧ idx < 0x3300) then s.analogIndex idx
  else if idx < 0x3300 then s.pwrIndex idx
  else if idx < 0x3500 then s.gritIndex idx vi
  else if idx < 0x3600 then s.serIndex idx vi
  else if idx < 0x3800 then s.ryIndex idx
  else if idx < 0x4000 then s.mgmtIndex idx
  else if idx < 0x5000 then s.islandIndex idx
  else none

/-- The item is write-only: it reads 0 (R1048). -/
def ParAccess.writeOnly : ParAccess → Bool
  | .wo | .woHv => true
  | _ => false

/-- The value of a defined parameter (00_scope R15, R19; R1048). -/
def State.parValue (s : State) (r : ParRow) (idx : Nat) (vi : Option (Fin 8)) : Par :=
  if s.absentIndex idx ∨ r.acc.writeOnly then 0
  else match s.computed idx vi with
  | some x => x
  | none => s.parAt idx vi

/-- A read-clear item is cleared (R1049, R1050). -/
def State.clearItem (s : State) (idx : Nat) (vi : Option (Fin 8)) : State :=
  match idx, vi with
  | 0x0022, _ => s.onBus fun b => { b with clampCount := 0 }
  | 0x0812, _ => s.onSilt fun x => { x with arb := { x.arb with waitMax := 0 } }
  | 0x0908, some v => s.onVi v fun y => { y with faultTimeMax := 0 }
  | 0x0C05, _ => s.onMarl fun m => { m with waitMax := 0 }
  | 0x3211, _ => s.onAnalog fun a => { a with tempMax := none }
  | 0x3481, some v => s.onGrit fun g => { g with inst := vmod g.inst v.succ.castSucc fun d => { d with cMax := 0 } }
  | 0x3502, _ => s.serErrClear 0x3502 none
  | 0x3582, some v => s.serErrClear 0x3582 (some v)
  | 0x3583, some v => s.serErrClear 0x3583 (some v)
  | 0x3606, _ => s.onLink fun l => { l with errBit := 0, errStuff := 0, errCrc := 0, errForm := 0 }
  | 0x3607, _ => s.onLink fun l => { l with ackErr := 0 }
  | 0x3840, _ => s.onMgmt fun m => { m with wdogFrom := s.now }
  | _, _ => s

/-- A read of the item by the window clears it (R1049, R1050). -/
def clears (w : Fin 11) : ParAccess → Bool
  | .rc => true
  | .rcHv => w = 0
  | _ => false

/-- A fetch by a window (03_host_bus R164, R174, R206): the value, the state after it and the result code. A refused
fetch returns 0 and changes nothing. -/
def State.fetch (s : State) (w : Fin 11) (idx : Nat) : Par × State × BitVec 4 :=
  let e := s.parCheck w idx false
  if e ≠ errOk then (0, s, e)
  else if s.absentIndex idx then (0, s, errOk)
  else match parRow idx with
  | none => (0, s, errUndefined)
  | some r =>
    let vi := if r.banked then s.portVi w else none
    if idx = 0x11 then (BitVec.setWidth 32 (s.bus.port[w]).sysTimeHi, s, errOk)
    else
      let s1 := if idx = 0x10 then
          s.onPort w fun p => { p with sysTimeHi := BitVec.setWidth 16 (s.ao.time >>> 32) }
        else if clears w r.acc then s.clearItem idx vi else s
      (s.parValue r idx vi, s1, errOk)

end Sys2Proof.Machine
end

