-- ==== Sys2Proof/Machine/Regs.lean ====
section
/-! DEFINITION. What the registers of every window read as, and which offsets the layouts define (03_host_bus,
04_tenancy and the chapters that add registers). Reads that change the state have commands of their own. -/

namespace Sys2Proof.Machine

/-- Byte offset of a register. -/
def byteOff (off : BitVec 6) : Nat := 2 * off.toNat

/-- The layout of the window defines the offset (R147). -/
def definedOffset (w : Fin 11) (o : Nat) : Bool :=
  let common : Bool := o = 0 || o = 2 || (0x10 ≤ o && o ≤ 0x16)
  if w.val = 0 then
    common || o = 4 || (8 ≤ o && o ≤ 0xE) || (0x26 ≤ o && o ≤ 0x2A) || o = 0x30 || o = 0x32 || (0x38 ≤ o && o ≤ 0x5C)
  else if w.val ≤ 8 then common || o = 4 || (8 ≤ o && o ≤ 0x5C)
  else if w.val = 9 then common || o = 0x34 || o = 0x36
  else common || (0x20 ≤ o && o ≤ 0x36)

/-- The device serves a register of the window as usual: not those of the modes HOLD and WAKE, and of a VI that is
not ENABLED, that R92, R1099 and R229 leave out. -/
def State.regServed (s : State) (w : Fin 11) (o : Nat) : Bool :=
  let par : Bool := 0x10 ≤ o && o ≤ 0x16
  s.pwr.mgRunning &&
    (if w.val = 10 then true
    else if w.val = 9 then s.part ≠ .tl4816n && s.hvServes
    else if s.pwr.mode = .hold then o = 0 || o = 2 || par || (w.val = 0 && (o = 0x42 || o = 0x44))
    else if w.val = 0 then
      s.hvServes || o = 0 || o = 2 || o = 0x30 || o = 0x32 || par || (8 ≤ o && o ≤ 0xE) || o = 0x38 || o = 0x40
        || o = 0x42 || o = 0x44
    else
      (match windowVi w with
        | some v => s.winServes v
        | none => false)
      || o = 0 || o = 2 || o = 0x2E || o = 0x30 || o = 0x32 || par)

/-- The identity register of a window (VW_ID). -/
def idWord (w : Fin 11) : Word :=
  BitVec.ofNat 16 (w.val + 32 * (if w.val = 0 then 0 else if w.val ≤ 8 then 1 else if w.val = 9 then 2 else 3) + 256)

/-- VW_STAT of windows 0 to 8. -/
def State.statWord (s : State) (w : Fin 11) : Word :=
  let busy : Par := flag (s.bus.port[w]).posted.isSome 2 ||| fld s.pwr.mode.code.toNat 4
  match windowVi w with
  | some v =>
    BitVec.setWidth 16 (busy ||| flag (s.viEnabled v) 0 ||| flag s.vi[v].resetBusy 1 ||| flag (s.legalHolder == some v) 3)
  | none => BitVec.setWidth 16 (busy ||| 1)

/-- KW_STAT (13_kaolin_island). -/
def State.kwStat (s : State) : Word :=
  let x := s.mirrored.word s.legal.mirror.isSome
  BitVec.setWidth 16 ((x &&& 0xFF07) ||| flag s.pwr.pgK 3 ||| fld s.legal.epochStat.toNat 4 ||| flag (bit x 3) 6)

/-- MW_STAT (18_management). -/
def State.mwStat (s : State) : Word :=
  let m := s.mgmt
  BitVec.setWidth 16 (flag s.pwr.mgRunning 0 ||| flag m.running.isNone 1 ||| flag m.session.isSome 2 ||| flag m.cmdLost 3
    ||| fld s.pwr.mode.code.toNat 4 ||| (if s.pwr.mode = .hold then fld (s.ao.holdCause.toNat % 256) 8 else 0))

/-- PAR_CTRL of a window. -/
def State.parCtrl (s : State) (w : Fin 11) : Word :=
  let p := s.bus.port[w]
  BitVec.setWidth 16 (flag p.posted.isSome 0 ||| flag p.snapshot.isSome 1 ||| flag p.autoInc 2 ||| fld p.err.toNat 4
    ||| (if w.val = 0 then fld p.viSel.toNat 8 else 0))

/-- VW_RESET_STAT. -/
def Vi.resetStat (y : Vi) : Word :=
  BitVec.setWidth 16 (flag y.resetBusy 0 ||| flag y.resetDone 1 ||| fld y.resetSource.code 2 ||| fld y.resetCount.toNat 8)

/-- Code of a VI state in HV_VI_STAT. -/
def ViState.code : ViState → Nat
  | .disabled => 0
  | .enabled => 1
  | .resetting => 2
  | .retiring => 3

/-- One bit per VI, from bit 1 on. -/
def viBits (f : Fin 8 → Bool) : Word :=
  (List.finRange 8).foldl (fun x (v : Fin 8) => if f v then x ||| BitVec.ofNat 16 (2 ^ (v.val + 1)) else x) 0

/-- HV_VI_STAT. -/
def State.viStat (s : State) : Word :=
  BitVec.ofNat 16 ((List.finRange 8).foldl (fun n (v : Fin 8) => n + s.vi[v].state.code * 4 ^ v.val) 0)

/-- VW_LEG_RSP. -/
def Vi.legRspWord (y : Vi) : Word :=
  let done : Par := match y.legRsp with
    | some (r, tag) => fld r.toNat 0 ||| fld tag.toNat 8 ||| flag true 15
    | none => 0
  BitVec.setWidth 16 (done ||| flag y.legPending.isSome 14)

/-- Lowest sequence among the open records (14_weighing R838). -/
def Island.lowestOpen (i : Island) : Nat :=
  match i.openRecords.map fun r => r.seq.toNat with
  | [] => 0
  | n :: l => l.foldl min n

/-- VW_LEG_OPEN_LO and VW_LEG_OPEN_HI, in the window of the legal role holder (14_weighing R838). -/
def State.legOpen (s : State) (v : Fin 8) (high : Bool) : Word :=
  if s.legalHolder ≠ some v then 0
  else
    let i := s.mirrored
    let n := i.lowestOpen
    if high then
      BitVec.setWidth 16 (fld (n / 65536 % 256) 0 ||| fld (sat i.openRecords.length 63) 8
        ||| flag (s.pwr.pgK && i.state ≠ .inactive) 15)
    else BitVec.ofNat 16 n

/-- VW_LEG_DUP_LO and VW_LEG_DUP_HI (14_weighing R835). -/
def State.legDup (s : State) (v : Fin 8) (high : Bool) : Word :=
  let y := s.vi[v]
  if s.legalHolder ≠ some v then 0
  else if high then
    BitVec.setWidth 16 (fld (y.dupSeq.toNat / 65536) 0 ||| fld y.dupHandle.val 8 ||| flag y.dupArmed 15)
  else BitVec.ofNat 16 y.dupSeq.toNat

/-- Registers that windows 0 to 8 have in common. -/
def State.commonReg (s : State) (w : Fin 9) (o : Nat) : Word :=
  let p := s.bus.port[w.castLE (by omega : 9 ≤ 11)]
  let e := s.bus.evq[w]
  match o with
  | 0x00 => idWord (w.castLE (by omega))
  | 0x02 => s.statWord (w.castLE (by omega))
  | 0x04 => (if e.parErrEvt then 1 else 0) ||| (if e.dataErrEvt then 2 else 0)
  | 0x08 => e.pendWord
  | 0x0A => e.mask
  | 0x0C => (e.queue.head?.map Event.high).getD 0
  | 0x0E => BitVec.ofNat 16 e.queue.length
  | 0x10 => p.index
  | 0x16 => s.parCtrl (w.castLE (by omega))
  | 0x26 => BitVec.setWidth 16 ((s.grit.rand[w]).words.headD 0)
  | 0x28 => (s.grit.rand[w]).latch
  | 0x2A => s.capHead w
  | 0x30 => BitVec.setWidth 16 s.ao.time
  | 0x32 => p.timeHi
  | 0x38 => e.data
  | _ => 0

/-- Registers of window 0. -/
def State.hvReg (s : State) (o : Nat) : Word :=
  match o with
  | 0x3A => s.viStat
  | 0x3C => BitVec.setWidth 16 s.bus.viErr
  | 0x3E => BitVec.setWidth 16 s.bus.legalRole
  | 0x42 => s.pwr.modeStat
  | 0x44 => if s.pwr.mode = .hold then s.ao.holdCause else 0
  | 0x46 => BitVec.setWidth 16 s.bus.lock
  | 0x48 => s.bus.err
  | 0x4A => s.bus.last
  | 0x4C => BitVec.setWidth 16 s.bus.dreqRoute
  | 0x4E => s.irqSum
  | 0x50 => BitVec.setWidth 16 s.bus.irqRoute[(0 : Fin 4)]
  | 0x52 => BitVec.setWidth 16 s.bus.irqRoute[(1 : Fin 4)]
  | 0x54 => BitVec.setWidth 16 s.bus.irqRoute[(2 : Fin 4)]
  | 0x56 => BitVec.setWidth 16 s.bus.irqRoute[(3 : Fin 4)]
  | 0x58 => viBits fun v => s.vi[v].enBit
  | 0x5A => viBits fun v => s.vi[v].resetBusy
  | 0x5C => s.randStat 0
  | _ => s.commonReg 0 o

/-- Registers of a VI window. -/
def State.vwReg (s : State) (v : Fin 8) (o : Nat) : Word :=
  let y := s.vi[v]
  match o with
  | 0x1A => y.submitWord
  | 0x1E => s.jobStat v
  | 0x22 => s.dataCtrl v
  | 0x24 => BitVec.ofNat 16 y.data.fifo.length
  | 0x2E => y.resetStat
  | 0x34 => BitVec.ofNat 16 y.data.addr
  | 0x36 => BitVec.ofNat 16 (y.data.addr / 65536 % 1024)
  | 0x3C => BitVec.setWidth 16 y.legArg
  | 0x3E => BitVec.setWidth 16 (y.legArg >>> 16)
  | 0x40 => y.legRspWord
  | 0x42 => y.legData[(0 : Fin 4)]
  | 0x44 => y.legData[(1 : Fin 4)]
  | 0x46 => y.legData[(2 : Fin 4)]
  | 0x48 => y.legData[(3 : Fin 4)]
  | 0x4A => s.legDup v false
  | 0x4C => s.legDup v true
  | 0x4E => s.legOpen v false
  | 0x50 => s.legOpen v true
  | 0x52 => s.randStat (viWin v)
  | 0x56 => s.serStat v 1
  | 0x5A => s.serStat v 2
  | _ => s.commonReg (viWin v) o

/-- Registers of window 9. -/
def State.kwReg (s : State) (o : Nat) : Word :=
  let audit := s.mirrored.audit
  match o with
  | 0x00 => idWord 9
  | 0x02 => s.kwStat
  | 0x10 => (s.bus.port[(9 : Fin 11)]).index
  | 0x16 => s.parCtrl 9
  | 0x34 => BitVec.setWidth 16 audit
  | 0x36 => BitVec.setWidth 16 (audit >>> 16)
  | _ => 0

/-- Registers of window 10. -/
def State.mwReg (s : State) (o : Nat) : Word :=
  let m := s.mgmt
  match o with
  | 0x00 => idWord 10
  | 0x02 => s.mwStat
  | 0x10 => (s.bus.port[(10 : Fin 11)]).index
  | 0x16 => s.parCtrl 10
  | 0x22 => m.arg[(0 : Fin 4)]
  | 0x24 => m.arg[(1 : Fin 4)]
  | 0x26 => m.arg[(2 : Fin 4)]
  | 0x28 => m.arg[(3 : Fin 4)]
  | 0x2A => m.rspWord
  | 0x2C => m.rd[(0 : Fin 4)]
  | 0x2E => m.rd[(1 : Fin 4)]
  | 0x30 => m.rd[(2 : Fin 4)]
  | 0x32 => m.rd[(3 : Fin 4)]
  | 0x36 => BitVec.setWidth 16 m.bufPtr
  | _ => 0

/-- What a register reads as. Of the registers whose reading changes the state this is the value before that change;
those with a command of their own drive the bus themselves. -/
def State.readReg (s : State) (w : Fin 11) (off : BitVec 6) : Word :=
  let o := byteOff off
  if !s.regServed w o then
    (if 1 ≤ w.val ∧ w.val ≤ 8 ∧ s.pwr.mgRunning ∧ s.pwr.mode ≠ .hold then
      (if o = 0x18 then noDesc else if o = 0x54 ∨ o = 0x58 then 0xF000 else 0)
    else 0)
  else if h : w.val = 0 then s.hvReg o
  else if h8 : w.val ≤ 8 then s.vwReg ⟨w.val - 1, by omega⟩ o
  else if w.val = 9 then s.kwReg o
  else s.mwReg o

end Sys2Proof.Machine
end

