-- ==== Sys2Proof/Machine/Access.lean ====
section
/-! DEFINITION. The accesses of the host bus: counted accesses, the parameter registers of every window, HV_LOCK,
device time, the writes of all other registers, and the parameter writes that have a command of their own
(03_host_bus; 19_parameter_map). -/

namespace Sys2Proof.Machine

/-! ### Counted accesses (R210, R211) -/

/-- HV_BUS_LAST (03_host_bus). -/
def lastWord (w : Nat) (off : BitVec 6) (write : Bool) (kind : Nat) : Word :=
  BitVec.setWidth 16 (fld w 0 ||| fld off.toNat 5 ||| flag write 11 ||| fld kind 12)

/-- BUS_ERROR with HV_BUS_LAST as it stands. -/
def State.raiseBusError (s : State) : State := s.raise0 0x10 (byteOf (s.bus.last.toNat / 4096 % 8)) s.bus.last

/-- An access is counted, in every mode but HOLD (R210); BUS_ERROR follows R211. -/
def State.countAccess (s : State) (w : Nat) (off : BitVec 6) (write : Bool) (kind : Nat) : State :=
  if !s.pwr.mgRunning ∨ s.pwr.mode = .hold then s
  else
    let s1 := s.onBus fun b => { b with err := satInc b.err, last := lastWord w off write kind }
    if s.bus.errRecent then s1.onBus fun b => { b with errMore := true }
    else (s1.onBus fun b => { b with errRecent := true, errMore := false }).raiseBusError

/-- COUNTED_ACCESS (R146, R147, R154, R155, R210): a read drives 0. -/
def execCountedAccess (w : BitVec 5) (off : BitVec 6) (write : Bool) (kind : BitVec 3) (s : State) : Answer :=
  .next (if kind = 0 ∨ kind = 7 then s
    else
      let s1 := s.countAccess w.toNat off write kind.toNat
      if write ∨ !s.pwr.mgRunning then s1 else s1.drive 0)

/-- BUS_ERROR_REPEAT (R211): 1 ms has passed since the last BUS_ERROR. -/
def execBusErrorRepeat (s : State) : Answer :=
  .next (if s.bus.errRecent ∧ s.bus.errMore then (s.onBus fun b => { b with errMore := false }).raiseBusError
    else s.onBus fun b => { b with errRecent := false })

/-- HV_BUS_ERR_READ (R210). -/
def execHvBusErrRead (s : State) : Answer :=
  .next (if s.hvServes then (s.drive s.bus.err).onBus fun b => { b with err := 0 }
    else if s.pwr.mgRunning then s.drive 0 else s)

/-! ### The parameter registers (R157 to R175) -/

/-- The posted operation of a window reaches its owning island and completes (R163, R173). VI_SEL is that of its
commit. -/
def State.finishPosted (s : State) (w : Fin 11) : State :=
  match (s.bus.port[w]).posted with
  | none => s
  | some op =>
    let sel := (s.bus.port[w]).viSel
    let r := (s.onPort w fun p => { p with posted := none, viSel := op.viSel }).applyCommit w op.index.toNat op.value
    (r.1.onPort w fun p => { p with viSel := sel }).completeOp w op.index.toNat r.2

/-- PARAMETER_OP_DONE (R173). -/
def execParameterOpDone (w : Fin 11) (s : State) : Answer := .next (s.finishPosted w)

/-- PAR_INDEX_WRITE (R160). An access held by WAIT_N follows the posted operation (R157). -/
def execParIndexWrite (w : Fin 11) (v : Word) (s : State) : Answer :=
  .next (if s.regServed w 0x10 then
    (s.finishPosted w).onPort w fun p => { p with index := v, staged := 0, snapshot := none }
  else s)

/-- PAR_DHI_WRITE (R161). -/
def execParDhiWrite (w : Fin 11) (v : Word) (s : State) : Answer :=
  .next (if s.regServed w 0x14 then (s.finishPosted w).onPort w fun p => { p with staged := v } else s)

/-- PAR_DLO_WRITE (R162, R163, R166, R172): the write is posted. -/
def execParDloWrite (w : Fin 11) (v : Word) (s : State) : Answer :=
  .next (if s.regServed w 0x12 then
    (s.finishPosted w).onPort w fun p =>
      let op : PostedOp := { index := p.index, value := fld p.staged.toNat 16 ||| BitVec.setWidth 32 v, viSel := p.viSel }
      ({ p with posted := some op, staged := 0, snapshot := none } : ParPort).advance
  else s)

/-- A fetch of the current index: its value becomes the snapshot (R164). -/
def State.fetchCurrent (s : State) (w : Fin 11) : Par × State :=
  let idx := (s.bus.port[w]).index.toNat
  let r := s.fetch w idx
  (r.1, (r.2.1.completeOp w idx r.2.2).onPort w fun p => { p with snapshot := some r.1 })

/-- PAR_DLO_READ (R164). -/
def execParDloRead (w : Fin 11) (s : State) : Answer :=
  .next (if s.regServed w 0x12 then
    let r := (s.finishPosted w).fetchCurrent w
    r.2.drive (BitVec.setWidth 16 r.1)
  else if s.pwr.mgRunning then s.drive 0 else s)

/-- PAR_DHI_READ (R165, R172). -/
def execParDhiRead (w : Fin 11) (s : State) : Answer :=
  .next (if s.regServed w 0x14 then
    let s1 := s.finishPosted w
    let r := match (s1.bus.port[w]).snapshot with
      | some x => (x, s1)
      | none => s1.fetchCurrent w
    (r.2.drive (BitVec.setWidth 16 (r.1 >>> 16))).onPort w ParPort.advance
  else if s.pwr.mgRunning then s.drive 0 else s)

/-- A parameter write that has a command of its own: a commit of the value to the index in the window's parameter
registers, and its completion. -/
def State.ownCommit (s : State) (w : Fin 11) (idx : Nat) (v : Par) : State :=
  if !s.regServed w 0x12 then s
  else
    let s1 := s.finishPosted w
    let r := s1.applyCommit w idx v
    (r.1.completeOp w idx r.2).onPort w fun p =>
      ({ p with index := BitVec.ofNat 16 idx, staged := 0, snapshot := none } : ParPort).advance

/-! ### HV_LOCK, VW_RESET, device time, jobs, the legal role -/

/-- A write of HV_LOCK (R200 to R202, R218). -/
def State.writeLock (s : State) (v : Word) : State :=
  if !s.hvServes then s
  else
    let s1 := s.finishPosted 0
    if v.toNat / 256 = 0xA5 then s1.onBus fun b => { b with lock := b.lock ||| BitVec.setWidth 8 v }
    else s1.countAccess 0 0x23 true 6

/-- LOCK_WRITE. -/
def execLockWrite (v : Word) (s : State) : Answer := .next (s.writeLock v)

/-- A write of VW_RESET (04_tenancy R229, R257). -/
def State.writeReset (s : State) (vi : Fin 8) (v : Word) : State :=
  if !s.winServes vi then s
  else
    let s1 := s.finishPosted (viPort vi)
    if v.toNat / 256 ≠ 0x5A then s1.countAccess (vi.val + 1) 0x16 true 6
    else if v.getLsbD 0 then s1.requestReset vi .tenant else s1

/-- VW_RESET. -/
def execVwReset (vi : Fin 8) (v : Word) (s : State) : Answer := .next (s.writeReset vi v)

/-- TIME_LO_READ (R205). -/
def execTimeLoRead (w : Fin 9) (s : State) : Answer :=
  let p : Fin 11 := w.castLE (by omega)
  .next (if s.regServed p 0x30 then
    (s.drive (BitVec.setWidth 16 s.ao.time)).onPort p fun q => { q with timeHi := BitVec.setWidth 16 (s.ao.time >>> 16) }
  else if s.pwr.mgRunning then s.drive 0 else s)

/-- TIME_SET (R208). -/
def execTimeSet (lo : Par) (s : State) : Answer := .next (s.ownCommit 0 0x0013 lo)

/-- A write of VW_JOB_SUBMIT (R171; 05_loam). -/
def State.writeSubmit (s : State) (vi : Fin 8) (v : Word) : State :=
  if s.winServes vi then ((s.finishPosted (viPort vi)).submitJob vi v).refreshEligible else s

/-- JOB_SUBMIT. -/
def execJobSubmit (vi : Fin 8) (v : Word) (s : State) : Answer := .next (s.writeSubmit vi v)

/-- An item under the lock of a register write: it changes nothing and is counted (R203). -/
def State.lockedWrite (s : State) (off : BitVec 6) (lock : Nat) (f : State → State) : State :=
  if !s.hvServes then s else if s.bus.lock.getLsbD lock then s.countAccess 0 off true 5 else f s

/-- A write of HV_LEGAL_ROLE (04_tenancy R242, R243). -/
def State.writeRole (s : State) (v : Word) : State := s.lockedWrite 0x1F 6 fun u => u.moveRole (BitVec.setWidth 4 v)

/-- LEGAL_ROLE_WRITE. -/
def execLegalRoleWrite (v : Word) (s : State) : Answer := .next (s.writeRole v)

/-! ### Writes of other registers -/

/-- A write of VW_PAR_CTRL. -/
def State.writeParCtrl (s : State) (w : Fin 11) (v : Word) : State :=
  s.onPort w fun p => { p with
    autoInc := v.getLsbD 2
    viSel := if w = 0 then BitVec.setWidth 4 (v >>> 8) else p.viSel }

/-- Registers of windows 0 to 8 alike: the event bits, the mask, the head of the capacity register. -/
def State.writeCommon (s : State) (w : Fin 9) (o : Nat) (v : Word) : State :=
  match o with
  | 0x04 => s.onEvq w fun p => { p with parErrEvt := v.getLsbD 0, dataErrEvt := v.getLsbD 1 }
  | 0x08 => s.onEvq w fun p => { p with pend := p.pend &&& ~~~(v &&& pendBits) }
  | 0x0A => s.onEvq w fun p => { p with mask := v &&& 0xC3FF }
  | 0x2A => s.onEvq w fun p => { p with capHead := ⟨v.toNat % 4, by omega⟩ }
  | _ => s

/-- HV_IRQ_ROUTEk takes a value (04_tenancy R253, R255). -/
def State.writeRoute (s : State) (k : Fin 4) (off : BitVec 6) (v : Word) : State :=
  s.lockedWrite off 1 fun u => u.onBus fun b => { b with irqRoute := b.irqRoute.set k (BitVec.setWidth 9 v) }

/-- Registers of window 0. -/
def State.writeHv (s : State) (off : BitVec 6) (v : Word) : State :=
  match byteOff off with
  | 0x3E => s.writeRole v
  | 0x40 => s.modeRequest v
  | 0x46 => s.writeLock v
  | 0x4C => s.lockedWrite off 1 fun u => u.onBus fun b => { b with dreqRoute := BitVec.setWidth 8 v }
  | 0x50 => s.writeRoute 0 off v
  | 0x52 => s.writeRoute 1 off v
  | 0x54 => s.writeRoute 2 off v
  | 0x56 => s.writeRoute 3 off v
  | 0x58 => s.writeViEn v
  | 0x5A => s.writeViReset v
  | o => s.writeCommon 0 o v

/-- VW_DATA_PORT is written (03_host_bus R194, R1109). -/
def State.writePort (s : State) (vi : Fin 8) (v : Word) : State :=
  let d := s.vi[vi].data
  if !d.en ∨ d.dir then s
  else if d.fifo.length < 256 then s.acceptHalf vi v
  else s.onData vi fun d => { d with heldWrite := some v }

/-- Registers of the window of an ENABLED VI. -/
def State.writeVw (s : State) (vi : Fin 8) (o : Nat) (v : Word) : State :=
  match o with
  | 0x1A => s.writeSubmit vi v
  | 0x1C => s.writeCancel vi v
  | 0x1E => s.onVi vi fun y => { y with statHandle := ⟨v.toNat % 16, by omega⟩ }
  | 0x20 => s.writePort vi v
  | 0x22 => s.writeDataCtrl vi v
  | 0x2C => s.writeReset vi v
  | 0x2E => if v.getLsbD 1 then s.onVi vi fun y => { y with resetDone := false } else s
  | 0x34 => s.writeDataAddr vi false v
  | 0x36 => s.writeDataAddr vi true v
  | 0x3A => s.writeLegCmd vi v
  | 0x3C => s.onVi vi fun y => { y with legArg := fld (y.legArg.toNat / 65536) 16 ||| BitVec.setWidth 32 v }
  | 0x3E => s.onVi vi fun y => { y with legArg := fld v.toNat 16 ||| fld (y.legArg.toNat % 65536) 0 }
  | 0x4A => if s.legalHolder = some vi then
      s.onVi vi fun y => { y with dupSeq := BitVec.ofNat 24 (y.dupSeq.toNat / 65536 * 65536 + v.toNat) }
    else s
  | 0x4C => s.writeDupHi vi v
  | 0x54 => s.serWrite vi 1 v
  | 0x58 => s.serWrite vi 2 v
  | 0x5C => s.serCtrl vi v
  | _ => s.writeCommon (viWin vi) o v

/-- Registers of window 10. -/
def State.writeMw (s : State) (o : Nat) (v : Word) : State :=
  match o with
  | 0x02 => if v.getLsbD 3 then s.onMgmt fun m => { m with cmdLost := false } else s
  | 0x20 => s.writeMwCmd v
  | 0x22 => s.onMgmt fun m => { m with arg := m.arg.set 0 v }
  | 0x24 => s.onMgmt fun m => { m with arg := m.arg.set 1 v }
  | 0x26 => s.onMgmt fun m => { m with arg := m.arg.set 2 v }
  | 0x28 => s.onMgmt fun m => { m with arg := m.arg.set 3 v }
  | 0x34 => s.writeMwBuf v
  | 0x36 => s.onMgmt fun m => { m with bufPtr := BitVec.setWidth 11 v }
  | _ => s

/-- A write of a parameter register of a window, posting the commit of PAR_DLO. -/
def State.writePar (s : State) (w : Fin 11) (o : Nat) (v : Word) : State :=
  match o with
  | 0x10 => (s.finishPosted w).onPort w fun p => { p with index := v, staged := 0, snapshot := none }
  | 0x12 => (s.finishPosted w).onPort w fun p =>
      let op : PostedOp := { index := p.index, value := fld p.staged.toNat 16 ||| BitVec.setWidth 32 v, viSel := p.viSel }
      ({ p with posted := some op, staged := 0, snapshot := none } : ParPort).advance
  | 0x14 => (s.finishPosted w).onPort w fun p => { p with staged := v }
  | _ => s.writeParCtrl w v

/-- REGISTER_WRITE (R144, R147, R150, R203, R229): a write of a register; an offset that the layout does not define is
counted. -/
def execRegisterWrite (w : Fin 11) (off : BitVec 6) (v : Word) (s : State) : Answer :=
  let o := byteOff off
  .next (
    if !s.pwr.mgRunning then s
    else if !definedOffset w o then s.countAccess w.val off true 3
    else if !s.regServed w o then s
    else if 0x10 ≤ o ∧ o ≤ 0x16 then s.writePar w o v
    else if w.val = 0 then s.writeHv off v
    else if h : w.val ≤ 8 then
      (if s.winServes ⟨w.val - 1, by omega⟩ then s.writeVw ⟨w.val - 1, by omega⟩ o v else s)
    else if w.val = 9 then s
    else s.writeMw o v)

/-! ### Parameter writes with commands of their own -/

/-- Set one bit of a value. -/
def withBit (v : Par) (i : Nat) : Par := v ||| flag true i

/-- DISCARD (06_silt R366). -/
def execDiscard (w : Fin 11) (v : Par) (s : State) : Answer := .next (s.ownCommit w 0x0906 v)

/-- ARB_APPLY (06_silt R406). -/
def execArbApply (w : Fin 11) (v : Par) (s : State) : Answer := .next (s.ownCommit w 0x0810 (withBit v 0))

/-- Index of a head parameter. -/
def headAt (h : Fin 4) (off : Nat) : Nat := 0x1000 + 0x400 * h.val + off

/-- HEAD_CFG_WRITE (08_head_ports R496). -/
def execHeadCfgWrite (w : Fin 11) (h : Fin 4) (v : Par) (s : State) : Answer := .next (s.ownCommit w (headAt h 0) v)

/-- HEAD_ENABLE (08_head_ports R496): head.ctrl with ENABLE = 1. -/
def execHeadEnable (w : Fin 11) (h : Fin 4) (v : Par) (s : State) : Answer :=
  .next (s.ownCommit w (headAt h 6) (withBit v 0))

/-- HEAD_DISABLE (08_head_ports R499): head.ctrl with ENABLE = 0. -/
def execHeadDisable (w : Fin 11) (h : Fin 4) (v : Par) (s : State) : Answer :=
  .next (s.ownCommit w (headAt h 6) (v &&& 0xFFFFFFFE))

/-- SCAN (08_head_ports R486). -/
def execScan (w : Fin 11) (h : Fin 4) (v : Par) (s : State) : Answer := .next (s.ownCommit w (headAt h 6) (withBit v 1))

/-- SCAN_ABORT (08_head_ports R486). -/
def execScanAbort (w : Fin 11) (h : Fin 4) (v : Par) (s : State) : Answer :=
  .next (s.ownCommit w (headAt h 6) (withBit v 2))

/-- Index of axis.ctrl. -/
def axisCtrlAt (a : Fin 4) : Nat := 0x200C + 0x80 * a.val

/-- AXIS_ENABLE (10_motion R568). -/
def execAxisEnable (w : Fin 11) (a : Fin 4) (v : Par) (s : State) : Answer :=
  .next (s.ownCommit w (axisCtrlAt a) (withBit v 0))

/-- AXIS_DISABLE (10_motion R567). -/
def execAxisDisable (w : Fin 11) (a : Fin 4) (v : Par) (s : State) : Answer :=
  .next (s.ownCommit w (axisCtrlAt a) (v &&& 0xFFFFFFFE))

/-- HALT (10_motion R612). -/
def execHalt (w : Fin 11) (a : Fin 4) (v : Par) (s : State) : Answer := .next (s.ownCommit w (axisCtrlAt a) (withBit v 1))

/-- CLEAR (10_motion R567). -/
def execClear (w : Fin 11) (a : Fin 4) (v : Par) (s : State) : Answer := .next (s.ownCommit w (axisCtrlAt a) (withBit v 2))

/-- CLEAR_UNCERTAIN (10_motion R614). -/
def execClearUncertain (w : Fin 11) (a : Fin 4) (v : Par) (s : State) : Answer :=
  .next (s.ownCommit w (axisCtrlAt a) (withBit v 3))

/-- REV_REF (10_motion R603). -/
def execRevRef (w : Fin 11) (a : Fin 4) (v : Par) (s : State) : Answer :=
  .next (s.ownCommit w (axisCtrlAt a) (withBit v 4))

/-- SERVICE_MOVE (10_motion R617): axis.move_dist. -/
def execServiceMove (w : Fin 11) (a : Fin 4) (v : Par) (s : State) : Answer :=
  .next (s.ownCommit w (0x2011 + 0x80 * a.val) v)

/-- LEARN (11_media_outputs R648). -/
def execLearn (w : Fin 11) (h : Fin 4) (v : Par) (s : State) : Answer :=
  .next (s.ownCommit w (0x2817 + 0x40 * h.val) (withBit v 0))

/-- DROP_CUT (11_media_outputs R651). -/
def execDropCut (w : Fin 11) (h : Fin 4) (v : Par) (s : State) : Answer :=
  .next (s.ownCommit w (0x2817 + 0x40 * h.val) (withBit v 1))

/-- lamp.cmd with its op field set. -/
def lampWord (v : Par) (op : Nat) : Par := (v &&& 0xFFFFFCFF) ||| fld op 8

/-- LAMP_ON (11_media_outputs R677). -/
def execLampOn (w : Fin 11) (v : Par) (s : State) : Answer := .next (s.ownCommit w 0x29C0 (lampWord v 1))

/-- LAMP_OFF (11_media_outputs R675). -/
def execLampOff (w : Fin 11) (v : Par) (s : State) : Answer := .next (s.ownCommit w 0x29C0 (lampWord v 0))

/-- LAMP_DUTY (11_media_outputs R675). -/
def execLampDuty (w : Fin 11) (v : Par) (s : State) : Answer := .next (s.ownCommit w 0x29C0 (lampWord v 2))

/-- LAMP_CLEAR (11_media_outputs R669). -/
def execLampClear (w : Fin 11) (v : Par) (s : State) : Answer := .next (s.ownCommit w 0x29C0 (lampWord v 3))

/-- GO (12_analog_thermal R702). -/
def execGo (w : Fin 11) (x : Fin 2) (v : Par) (s : State) : Answer :=
  .next (s.ownCommit w (0x3003 + 0x80 * x.val) (withBit v 0))

/-- ABORT (12_analog_thermal R707). -/
def execAbort (w : Fin 11) (x : Fin 2) (v : Par) (s : State) : Answer :=
  .next (s.ownCommit w (0x3003 + 0x80 * x.val) (withBit v 1))

/-- RAW (15_grit R875). -/
def execRaw (w : Fin 11) (v : Par) (s : State) : Answer := .next (s.ownCommit w 0x3401 (withBit v 0))

/-- SWITCH (15_grit R856). -/
def execSwitch (w : Fin 11) (v : Par) (s : State) : Answer := .next (s.ownCommit w 0x3401 (withBit v 1))

/-- RAW_CFG_WRITE (15_grit R879). -/
def execRawCfgWrite (w : Fin 11) (v : Par) (s : State) : Answer := .next (s.ownCommit w 0x3402 v)

/-- OWNER_CHANGE (16_serial R915). -/
def execOwnerChange (w : Fin 11) (v : Par) (s : State) : Answer := .next (s.ownCommit w 0x3500 v)

/-- EVT_TX (17_ryine R949). -/
def execEvtTx (w : Fin 11) (v : Par) (s : State) : Answer := .next (s.ownCommit w 0x3612 v)

/-- RECOVER (17_ryine R940). -/
def execRecover (w : Fin 11) (v : Par) (s : State) : Answer := .next (s.ownCommit w 0x3613 (withBit v 0))

end Sys2Proof.Machine
end

