-- ==== Sys2Proof/Machine/PowerDown.lean ====
section
/-! DEFINITION. HOLD, the staged power-down, RST_N, and the failures that the clock, the power-good inputs and the
management core meet (02_power_clocks_modes; 18_management R984 to R989). -/

namespace Sys2Proof.Machine

/-! ### HOLD (02_power_clocks_modes R92 to R96, R123, R129, R130) -/

/-- Cause codes of HV_FAULT (02_power_clocks_modes, "HV_FAULT"). -/
def holdPgIo : Byte := 1
def holdPgCore : Byte := 2
def holdNoImage : Byte := 3
def holdStepping : Byte := 4
def holdWatchdog : Byte := 5
def holdInternal : Byte := 6

/-- Every main-side pin takes its safe state (R93, R96): nothing prints, moves, lights or sends, and the link's
transmitter stays recessive. -/
def State.safePins (s : State) : State :=
  ((s.onPaper Paper.safe).serSilence).onLink fun l => { l with sending := none, state := .off }

/-- A wake that ends in HOLD is recorded as every wake is (R104; 18_management R1018). -/
def State.recordWake (s : State) : State :=
  if s.pwr.mode = .wake then
    let w := s.pwr.causeWord
    (s.onPwr fun p => { p with wakeCause := w }).logRecord 0xCC (BitVec.setWidth 8 w) (BitVec.setWidth 16 s.ao.lastPd)
  else s

/-- What waits on the bus is let go at the entry to HOLD (03_host_bus R221). -/
def State.dropHeld (s : State) : State :=
  let s1 := s.onBus fun b => { b with port := mapEach (fun (p : ParPort) => { p with posted := none }) b.port }
  (List.finRange 8).foldl State.endHeld s1

/-- HOLD is entered, once, and not during a power-down (R61, R94, R95, R114; 18_management R989, R1039): HOLD_ENTRY is
logged before the pins change. -/
def State.enterHold (s : State) (cause detail : Byte) : State :=
  if s.pwr.pd.isSome then s
  else match s.pwr.mode with
  | .off | .retain | .hold => s
  | .wake | .run | .reduced | .service | .update =>
    let d : Word := BitVec.setWidth 16 detail
    let s1 := (s.recordWake.logRecord 0xCD cause d).onAo fun a => { a with
      holdCause := BitVec.setWidth 16 cause ||| (d <<< 8) }
    let s2 := match s1.mgmt.session with
      | some _ => (s1.onMgmt fun m => { m with session := none }).setUpdate .failed
      | none => s1
    ((s2.dropHeld.safePins).changeMode fun p => { p with
      mode := .hold, phase := .none, target := none, drain := false }).onMgmt
      fun m => { m with running := none }

/-! ### Failures of a wake -/

/-- An enable that got no power-good is dropped for 10 ms, or HOLD is entered with it asserted (R122, R123). A fall of
PWR_EN[0] starts the time of R97. -/
def State.powerGoodFailed (s : State) (core : Bool) : State :=
  let n := if core then s.pwr.coreAttempts else s.pwr.ioAttempts
  if 3 ≤ n then s.enterHold (if core then holdPgCore else holdPgIo) 3
  else if core then s.onPwr fun p => { p with en := p.en &&& 0xD, phase := .dropCore }
  else (s.onPwr fun p => { p with en := p.en &&& 0xE, phase := .dropIo }).onAo fun a => { a with guard := true }

/-- PG_WAIT_TIMEOUT (R67, R122, R123, R131). -/
def execPgWaitTimeout (s : State) : Answer :=
  .next (if s.pwr.waking then match s.pwr.phase with
    | .waitIo => s.powerGoodFailed false
    | .waitCore => s.powerGoodFailed true
    | .waitMem => s.memoryFailed
    | _ => s
  else s)

/-- LOCK_TIMEOUT (R91, R125, R126): the RC fallback is selected, CLK_FALLBACK is set with MODE_CHANGE, and
CLOCK_FALLBACK is logged. -/
def execLockTimeout (s : State) : Answer :=
  .next (if s.pwr.waking ∧ s.pwr.phase = .waitLock then
    let s1 := s.changeMode fun p => { p with phase := .clocked, clkFallback := true, wakeFallback := true }
    (s1.logRecord 0xCF 0 (BitVec.setWidth 16 s1.pwr.causeWord)).serClock
  else s)

/-- The check of slot A ends (R99; 18_management R1014): a trial image that would boot a fourth time is given up
first, and the other area is slot A from then on. -/
def State.slotAChecked (s : State) : State :=
  let a := s.preferredArea
  let r := s.slotCheck a
  let pay : Word := BitVec.setWidth 16 r
  if r ≠ 0 then
    (s.raise0 0xC2 (imageCheckAux a false false) pay).onPwr fun p => { p with
      phase := .checkB, steppingFailed := r = mbStepping }
  else if s.inTrial ∧ 3 < s.trialCount + 1 then s.revertBoot.raise0 0xC2 (imageCheckAux a false true) pay
  else (s.raise0 0xC2 (imageCheckAux a false false) pay).bootSlot a false

/-- The check of slot B ends (R99, R129, R130; 18_management R1016). -/
def State.slotBChecked (s : State) : State :=
  let a := otherArea s.preferredArea
  let r := s.slotCheck a
  let pay : Word := BitVec.setWidth 16 r
  if r = 0 then
    let t := s.inTrial
    (s.bootSlot a true).raise0 0xC2 (imageCheckAux a true t) pay
  else
    (s.raise0 0xC2 (imageCheckAux a true false) pay).enterHold
      (if s.pwr.steppingFailed || r = mbStepping then holdStepping else holdNoImage) 0

/-- SLOT_CHECK_DONE. -/
def execSlotCheckDone (s : State) : Answer :=
  .next (if s.pwr.waking ∧ s.pwr.mgRunning then match s.pwr.phase with
    | .checkA => s.slotAChecked
    | .checkB => s.slotBChecked
    | _ => s
  else s)

/-! ### Causes of a power-down (R105, R106, R1103, R1104, R132) -/

/-- PWR_FAIL_N_LOW (R61, R105, R136 to R138). -/
def execPwrFailNLow (s : State) : Answer :=
  let s1 := s.onPwr fun p => { p with pwrFailN := false }
  .next (match s.pwr.mode with
  | .off => s1
  | .retain | .hold => s1.beginPd .powerFail true
  | _ => s1.beginPd .powerFail false)

/-- PG_IO has been accepted in this wake (R106). -/
def Pwr.ioAccepted (p : Pwr) : Bool :=
  match p.phase with
  | .waitIo | .dropIo => false
  | .none => p.en.getLsbD 1
  | _ => true

/-- PG_IO_FALL (R106). -/
def execPgIoFall (s : State) : Answer :=
  let s1 := s.onPwr fun p => { p with pgIo := false }
  .next (if !s.pwr.en.getLsbD 0 ∨ !s.pwr.pgIo then s1
  else match s.pwr.mode with
  | .run | .reduced | .service | .update => s1.beginPd .powerFail false
  | .wake => if s.pwr.ioAccepted then s1.beginPd .powerFail false else s1
  | _ => s1)

/-- PG_CORE has been accepted in this wake (R1103). -/
def Pwr.coreAccepted (p : Pwr) : Bool :=
  match p.phase with
  | .waitIo | .dropIo | .waitCore | .dropCore => false
  | _ => true

/-- VDD_CORE has collapsed in the power-down in progress: the main side stops and takes its reset values, and AO has
written marker 1 with the reason when no marker was written before (R1103, R1104). -/
def State.collapse (s : State) : State :=
  match s.pwr.pd with
  | none => s
  | some d =>
    let first : Bool := d.stage = 0 && !d.stage6Only
    let r := s.deviceReset
    let s1 := r.onPwr fun p => { p with
      target := s.pwr.target, pd := some { d with collapsed := true, stage := if first then 1 else d.stage } }
    if first then s1.onAo fun a => { a with
      pdStage := 1, pdReason := d.reason, pdFlashed := false, pdRetained := 0, pdReported := false }
    else s1

/-- PG_CORE_FALL (R1103, R1104): the island sees its mailbox empty (13_kaolin_island, "Signals that cross"). -/
def execPgCoreFall (s : State) : Answer :=
  let s1 := (s.onPwr fun p => { p with pgCore := false }).onIsland fun i => { i with mailbox := [] }
  .next (if !s.pwr.en.getLsbD 1 ∨ !s.pwr.pgCore then s1
  else match s.pwr.mode with
  | .off | .retain => s1
  | .hold =>
    let s2 := s1.onPwr fun p => { p with mgRunning := false }
    match s.pwr.pd with
    | some d => s2.onPwr fun p => { p with pd := some { d with collapsed := true } }
    | none => s2
  | .wake => if s.pwr.coreAccepted then (s1.beginPd .powerFail false).collapse else s1
  | _ => (s1.beginPd .powerFail false).collapse)

/-- PG_MEM_FALL (R132; 06_silt R415). -/
def execPgMemFall (s : State) : Answer :=
  let s1 := s.onPwr fun p => { p with pgMem := false }
  .next (if !s.pwr.en.getLsbD 2 ∨ !s.pwr.pgMem then s1
  else match s.pwr.mode with
  | .run | .reduced | .service | .update =>
    (s1.changeMode fun p => { p with en := p.en &&& 0xB, memAbsent := true }).memoryLost
  | _ => s1)

/-! ### The stages (R107 to R116, R136, R137) -/

/-- Stage `n` is run by this power-down from where it stands: its blocks are out of reset (R136), VDD_CORE has not
collapsed (R1103), and no later stage has begun. Stage 6 is run always. -/
def State.stageRuns (s : State) (d : PowerDown) (n : Nat) : Bool :=
  !d.collapsed && d.stage < n &&
    (n = 6 || (!d.stage6Only && (if n ≤ 3 then s.pwr.islandsRun else s.pwr.mgRunning)))

/-- Stage `n` is the next one that runs. -/
def State.stageDue (s : State) (d : PowerDown) (n : Nat) : Bool :=
  s.stageRuns d n && ((List.range n).all fun k => !s.stageRuns d k)

/-- The marker of a stage is written before it begins (R107); the first marker of a power-down also records its
reason. -/
def State.markStage (s : State) (d : PowerDown) (n : Nat) : State :=
  let s1 := s.onPwr fun p => { p with pd := some { d with stage := n } }
  let a := s1.ao
  let clean : Ao := { a with pdReason := d.reason, pdFlashed := false, pdRetained := 0, pdReported := false }
  { s1 with ao := { (if d.stage = 0 then clean else a) with pdStage := BitVec.ofNat 3 n } }

/-- A stage command: the work of the stage, when it is due. -/
def State.stage (s : State) (n : Nat) (work : State → State) : State :=
  match s.pwr.pd with
  | none => s
  | some d => if s.stageDue d n then work (s.markStage d n) else s

/-- The instant of stage 1, 3 µs after the zero of a power-down, has passed (R138). -/
def State.closeCauses (s : State) : State :=
  s.onPwr fun p => { p with pd := p.pd.map fun d => { d with closed := true } }

/-- STAGE_1 (R85, R107, R114, R138; 18_management R1028): no submission, no dispatch, no session from here on. A
power-down that runs no stage 1 takes no further cause either. -/
def execStage1 (s : State) : Answer := .next (s.stage 1 State.failSession).closeCauses

/-- Strobes end and the head supplies are off: at once when the reason is power fail, else with the sub-pulse in
progress (R109; 08_head_ports R481, R510; 09_energy R564). -/
def State.stopHeads (s : State) (atOnce : Bool) : State :=
  ((List.finRange 4).foldl (fun u (h : Fin 4) => u.endStrobes h u.now atOnce) s).onPaper fun p => { p with
    run := Vector.replicate 4 none
    head := mapEach (fun (x : Head) =>
      { x with pen := false, scanReq := false, scanDot := none, scanning := false }) p.head }

/-- The power-down in progress has the reason power fail. -/
def State.failing (s : State) : Bool :=
  match s.pwr.pd with
  | some d => d.reason = .powerFail
  | none => false

/-- STAGE_2 (R109). -/
def execStage2 (s : State) : Answer := .next (s.stage 2 fun u => u.stopHeads u.failing)

/-- An axis, or the cutter, at stage 3 (R110; 10_motion R567, R612, R613, R620, R624). -/
def State.stopAxis (s : State) (a : Fin 4) : State := s.axisOff a 6

/-- STAGE_3 (R110; 11_media_outputs R669; 16_serial R913; 17_ryine R970). -/
def execStage3 (s : State) : Answer :=
  .next (s.stage 3 fun u =>
    let s1 := (List.finRange 4).foldl State.stopAxis u
    let s2 := (List.finRange 8).foldl State.lampOff s1
    s2.serStop.onLink fun l => { l with sending := none })

/-- Pending records are committed, oldest first, without an erase (R111). -/
def State.commitMany (s : State) : Nat → State
  | 0 => s
  | n + 1 => (s.commitOldest false).commitMany n

/-- A commit still in progress when the time of stage 4 ends: its record stays pending, whether or not its programs
then complete, which nothing decides but the time left (R111). -/
def State.commitCut (s : State) : State :=
  let d := s.draw
  if Config.commitLands d.1 then (d.2.commitOldest false).onAo fun a => { a with ring := s.ao.ring } else d.2

/-- STAGE_4 (R111, R112; 18_management R1002): as many records as the time allowed are committed. -/
def execStage4 (commits : Nat) (s : State) : Answer :=
  .next (s.stage 4 fun u =>
    let s1 := if u.analog.flashOk then (u.commitMany (min commits u.ao.ring.length)).commitCut else u
    s1.onAo fun a => { a with pdFlashed := a.ring.isEmpty })

/-- STAGE_5 (R111): what is still pending stays in the retention ring, with the wake record behind it
(notes/assumptions 129). -/
def execStage5 (s : State) : Answer :=
  .next (s.stage 5 fun u =>
    (u.logRecord 0xCC (BitVec.setWidth 8 u.pwr.wakeCause) (BitVec.setWidth 16 u.ao.lastPd)).onAo fun a => { a with
      pdRetained := BitVec.ofNat 8 a.ring.length })

/-- STAGE_6 (R107). -/
def execStage6 (s : State) : Answer := .next (s.stage 6 id)

/-! ### Dropping the enables, RETAIN (R64, R68, R97, R116 to R121, R137) -/

/-- RETAIN: COMPLETE has been written unless VDD_CORE had collapsed, and the main side is without power. A wake source
latched in the power-down acts at the end of the guard time, or now when PWR_EN[0] has not fallen (R97, R114). After a
thermal shutdown only RST_N is kept (R121). -/
def State.enterRetain (s : State) (d : PowerDown) : State :=
  let was : Bool := s.pwr.mode = .retain
  let thermal : Bool := d.reason = .thermal
  let s1 := if d.collapsed then s else s.onAo fun a => { a with pdStage := 7 }
  let s2 := s1.deviceReset
  let s3 := (s2.onPwr fun p => { p with mode := .retain, pd := none, phase := .none }).onAo fun a => { a with
    retainTime := if was then a.retainTime else a.time
    thermalShut := a.thermalShut || thermal
    thermalCooled := a.thermalCooled && !thermal
    wakeLatched := if thermal then (if a.wakeLatched = some 1 then some 1 else none) else a.wakeLatched }
  if s3.ao.guard then s3
  else match s3.ao.wakeLatched with
    | some src => s3.beginWake src
    | none => s3

/-- The next enable to drop, in the order PWR_EN[2], [1], [3], [0] (R64, R68): [3] only when the reason is power
fail. -/
def Pwr.nextDrop (p : Pwr) (d : PowerDown) : Option (Fin 4) :=
  if p.en.getLsbD 2 then some 2
  else if p.en.getLsbD 1 then some 1
  else if p.en.getLsbD 3 ∧ d.reason = .powerFail then some 3
  else if p.en.getLsbD 0 then some 0
  else none

/-- An enable is dropped. -/
def State.dropEnable (s : State) (k : Fin 4) : State :=
  let s1 := s.onPwr fun p => { p with
    en := p.en &&& ~~~(BitVec.ofNat 4 (2 ^ k.val))
    mgRunning := p.mgRunning && !(k = 1) }
  if k = 0 then s1.onAo fun a => { a with guard := true } else s1

/-- PWR_EN_DROP (R64, R68, R137): after the last one COMPLETE is written and the device is in RETAIN. -/
def execPwrEnDrop (s : State) : Answer :=
  .next (match s.pwr.pd with
  | none => s
  | some d =>
    if !(d.stage = 6 || d.collapsed) then s
    else
      let s1 := match s.pwr.nextDrop d with
        | some k => s.dropEnable k
        | none => s
      if (s1.pwr.nextDrop d).isNone then s1.enterRetain d else s1)

/-! ### RST_N (R61, R96, R142, R143, R1105) -/

/-- RST_N_ASSERT: the main side takes its device-reset values at once, except during a power-down (R142, R143). A wake
in progress is over. -/
def execRstNAssert (s : State) : Answer :=
  let s1 := s.onPwr fun p => { p with rstHeld := true }
  .next (if s.pwr.pd.isSome then s1
  else match s.pwr.mode with
  | .off => s
  | .retain => s1
  | _ => (s1.deviceReset.onPwr fun p => { p with phase := .none }).onAo fun a => { a with wakeLatched := none })

/-- The rails are up: PWR_EN[0], PWR_EN[1], PG_IO and PG_CORE. -/
def Pwr.railsUp (p : Pwr) : Bool := p.en.getLsbD 0 && p.en.getLsbD 1 && p.pgIo && p.pgCore

/-- The device wakes by RST_N: through phase B alone when the rails are up (R143), and never within 10 ms of the last
fall of PWR_EN[0] (R97). -/
def State.wakeByReset (s : State) : State :=
  if s.pwr.railsUp then
    (s.enterWake 1).onPwr fun p => { p with phase := .coreUp, ioAttempts := 0, coreAttempts := 0 }
  else if s.ao.guard then s.onAo fun a => { a with wakeLatched := some 1 }
  else s.beginWake 1

/-- RST_N_RELEASE (R61, R114, R121, R142): during a power-down, and in the guard time, it is latched. After a thermal
shutdown it takes the place of what was latched. -/
def execRstNRelease (s : State) : Answer :=
  let s1 := s.onPwr fun p => { p with rstHeld := false }
  .next (if !s.pwr.rstHeld then s
  else match s.pwr.pd with
  | some d => s1.onAo fun a => { a with
      wakeLatched := if d.reason = .thermal then some 1 else some (a.wakeLatched.getD 1) }
  | none => match s.pwr.mode with
    | .off => s1
    | .retain => s1.wakeBy 1
    | _ => s1.wakeByReset)

/-! ### The reference clock (R128; 18_management R984, R985) -/

/-- A head that prints is held from outside Silt (06_silt R398, R399): the sub-pulse in progress ends, the rest of its
line is not burnt, and a hold of its guard stays beside this one. -/
def State.holdExternal (s : State) (h : Fin 4) : State :=
  match s.paper.run[h] with
  | none => s
  | some r =>
    if r.phase = .print ∧ r.origin.isSome ∧ r.ext.isNone then (s.endStrobes h s.now false).startExternal h r else s

/-- A moving axis comes to rest on its stop ramp, and its move is resumed from there (R128; 10_motion R633, R634). -/
def State.clockStop (s : State) (a : Fin 4) : State :=
  let x := s.paper.axis[a]
  if x.state = .moving then
    let s1 := s.onAxis a fun y => y.dropQueued none
    if x.atRest then s1
    else (s1.onAxis a fun y => { y with stopAt := some (s.aPar a 4 : Rat), resume := true }).setAxis a .stopping
  else s

/-- A head whose paper stands goes on at once after the switch of clocks (R128). -/
def State.resumeStanding (s : State) (h : Fin 4) : State :=
  let x := s.paper.axis[s.paperAxis h]
  match s.paper.run[h] with
  | none => s
  | some r => match r.ext with
    | some t => if x.state = .stopping ∧ x.resume then s else s.endExternal h r t
    | none => s

/-- The steps of R128: heads, axes, the link, the clock, and what goes on. -/
def State.referenceFailed (s : State) : State :=
  let s1 := (List.finRange 4).foldl State.holdExternal s
  let s2 := (List.finRange 4).foldl State.clockStop s1
  let s3 := (s2.onLink fun l => { l with sending := none }).linkFallback
  let s4 := s3.changeMode fun p => { p with mainLock := false, clkFallback := true }
  (List.finRange 4).foldl State.resumeStanding s4.serClock

/-- CLOCK_MON (R128; 18_management R984, R985): a finding of the stop windows, or of a frequency window while the AO
crystal runs. -/
def execClockMon (stopped off : Bool) (count : Word) (s : State) : Answer :=
  let bad : Bool := off && s.ao.xtal && (count.toNat < 24925 || 25429 < count.toNat)
  .next (if s.pwr.islandsRun ∧ s.pwr.mainLock ∧ (stopped || bad) then
    let s1 := s.onMgmt fun m => { m with
      refRunning := !stopped, refInTol := false
      refCount := if s.ao.xtal then BitVec.setWidth 32 count else m.refCount }
    (s1.raise0 0xC4 (byteOf ((if stopped then 1 else 0) + (if bad then 2 else 0)))
      (BitVec.setWidth 16 s1.mgmt.refCount)).referenceFailed
  else s)

/-! ### Watchdog and memory of the core (18_management R986 to R988, R1017) -/

/-- The modes that an unrecoverable fault leaves for HOLD (R61; notes/assumptions 127). -/
def Mode.faultHolds : Mode → Bool
  | .run | .reduced | .service | .update => true
  | _ => false

/-- MG_WATCHDOG (R61, R986, R987, R1017): 1,000 ms without service. -/
def execMgWatchdog (s : State) : Answer :=
  .next (if s.pwr.mgRunning ∧ s.pwr.pd.isNone ∧ s.pwr.mode.faultHolds then
    (if s.runsTrial ∧ s.analog.flashOk then s.revertBoot else s).enterHold holdWatchdog 0
  else s)

/-- ECC_ERROR (R61, R988). -/
def execEccError (correctable : Bool) (s : State) : Answer :=
  .next (if !s.pwr.mgRunning then s
  else if correctable then s.onMgmt fun m => { m with ecc := satInc m.ecc }
  else if s.pwr.mode.faultHolds then s.enterHold holdInternal 0
  else s)

end Sys2Proof.Machine
end

