-- ==== Sys2Proof/Machine/Dispatch.lean ====
section
/-! DEFINITION. One arm per command: the one place that names the meaning of each. -/

namespace Sys2Proof.Machine

def exec (i : Instr) (s : State) : Host.Outcome State Fault Refusal :=
  match i with
  | .aoPowerOn pwrFailN => Sys2Proof.Machine.execAoPowerOn pwrFailN s
  | .allPowerLost => Sys2Proof.Machine.execAllPowerLost s
  | .wakeNFall => Sys2Proof.Machine.execWakeNFall s
  | .alarm => Sys2Proof.Machine.execAlarm s
  | .linkWake => Sys2Proof.Machine.execLinkWake s
  | .powerReturn => Sys2Proof.Machine.execPowerReturn s
  | .thermalCooled => Sys2Proof.Machine.execThermalCooled s
  | .thermalRestart => Sys2Proof.Machine.execThermalRestart s
  | .pgIoRise => Sys2Proof.Machine.execPgIoRise s
  | .pgWaitTimeout => Sys2Proof.Machine.execPgWaitTimeout s
  | .pgRetry => Sys2Proof.Machine.execPgRetry s
  | .pgCoreRise => Sys2Proof.Machine.execPgCoreRise s
  | .mgResetRelease => Sys2Proof.Machine.execMgResetRelease s
  | .pllLock => Sys2Proof.Machine.execPllLock s
  | .lockTimeout => Sys2Proof.Machine.execLockTimeout s
  | .islandsResetRelease nid => Sys2Proof.Machine.execIslandsResetRelease nid s
  | .slotCheckDone => Sys2Proof.Machine.execSlotCheckDone s
  | .pgMemRise => Sys2Proof.Machine.execPgMemRise s
  | .memoryTrainingDone ok => Sys2Proof.Machine.execMemoryTrainingDone ok s
  | .bootComplete => Sys2Proof.Machine.execBootComplete s
  | .pwrFailNLow => Sys2Proof.Machine.execPwrFailNLow s
  | .pwrFailNGlitch counted => Sys2Proof.Machine.execPwrFailNGlitch counted s
  | .pgIoFall => Sys2Proof.Machine.execPgIoFall s
  | .pgCoreFall => Sys2Proof.Machine.execPgCoreFall s
  | .pgMemFall => Sys2Proof.Machine.execPgMemFall s
  | .pgKChange level => Sys2Proof.Machine.execPgKChange level s
  | .stage1 => Sys2Proof.Machine.execStage1 s
  | .stage2 => Sys2Proof.Machine.execStage2 s
  | .stage3 => Sys2Proof.Machine.execStage3 s
  | .stage4 commits => Sys2Proof.Machine.execStage4 commits s
  | .stage5 => Sys2Proof.Machine.execStage5 s
  | .stage6 => Sys2Proof.Machine.execStage6 s
  | .pwrEnDrop => Sys2Proof.Machine.execPwrEnDrop s
  | .rstNAssert => Sys2Proof.Machine.execRstNAssert s
  | .rstNRelease => Sys2Proof.Machine.execRstNRelease s
  | .runRequest => Sys2Proof.Machine.execRunRequest s
  | .serviceRequest => Sys2Proof.Machine.execServiceRequest s
  | .retainRequest => Sys2Proof.Machine.execRetainRequest s
  | .invalidModeRequest value => Sys2Proof.Machine.execInvalidModeRequest value s
  | .serviceEntry => Sys2Proof.Machine.execServiceEntry s
  | .clockMon stopped off count => Sys2Proof.Machine.execClockMon stopped off count s
  | .memCfgCommit => Sys2Proof.Machine.execMemCfgCommit s
  | .parIndexWrite w v => Sys2Proof.Machine.execParIndexWrite w v s
  | .parDhiWrite w v => Sys2Proof.Machine.execParDhiWrite w v s
  | .parDloWrite w v => Sys2Proof.Machine.execParDloWrite w v s
  | .parDloRead w => Sys2Proof.Machine.execParDloRead w s
  | .parDhiRead w => Sys2Proof.Machine.execParDhiRead w s
  | .parameterOpDone w => Sys2Proof.Machine.execParameterOpDone w s
  | .registerWrite w off v => Sys2Proof.Machine.execRegisterWrite w off v s
  | .countedAccess w off write kind => Sys2Proof.Machine.execCountedAccess w off write kind s
  | .busErrorRepeat => Sys2Proof.Machine.execBusErrorRepeat s
  | .hvBusErrRead => Sys2Proof.Machine.execHvBusErrRead s
  | .lockWrite v => Sys2Proof.Machine.execLockWrite v s
  | .timeLoRead w => Sys2Proof.Machine.execTimeLoRead w s
  | .timeSet lo => Sys2Proof.Machine.execTimeSet lo s
  | .dataStreamStart vi ctrl => Sys2Proof.Machine.execDataStreamStart vi ctrl s
  | .dataStreamStop vi ctrl => Sys2Proof.Machine.execDataStreamStop vi ctrl s
  | .flush vi ctrl => Sys2Proof.Machine.execFlush vi ctrl s
  | .dataPortWrite vi v => Sys2Proof.Machine.execDataPortWrite vi v s
  | .dataPortRead vi => Sys2Proof.Machine.execDataPortRead vi s
  | .fifoPlaceFree vi => Sys2Proof.Machine.execFifoPlaceFree vi s
  | .dataPortTimeout vi => Sys2Proof.Machine.execDataPortTimeout vi s
  | .readStreamFill vi => Sys2Proof.Machine.execReadStreamFill vi s
  | .viEnable vi => Sys2Proof.Machine.execViEnable vi s
  | .viRetire vi => Sys2Proof.Machine.execViRetire vi s
  | .hvViReset v => Sys2Proof.Machine.execHvViReset v s
  | .vwReset vi v => Sys2Proof.Machine.execVwReset vi v s
  | .viResetTakesEffect vi => Sys2Proof.Machine.execViResetTakesEffect vi s
  | .viResetDone vi => Sys2Proof.Machine.execViResetDone vi s
  | .legalRoleWrite v => Sys2Proof.Machine.execLegalRoleWrite v s
  | .evqPop w => Sys2Proof.Machine.execEvqPop w s
  | .irqPendWrite w v => Sys2Proof.Machine.execIrqPendWrite w v s
  | .jobAlloc vi => Sys2Proof.Machine.execJobAlloc vi s
  | .jobSubmit vi v => Sys2Proof.Machine.execJobSubmit vi v s
  | .cancel vi v => Sys2Proof.Machine.execCancel vi v s
  | .release vi v => Sys2Proof.Machine.execRelease vi v s
  | .cancelAll vi v => Sys2Proof.Machine.execCancelAll vi v s
  | .jobSelect h => Sys2Proof.Machine.execJobSelect h s
  | .headPurged h => Sys2Proof.Machine.execHeadPurged h s
  | .capacityUpdate => Sys2Proof.Machine.execCapacityUpdate s
  | .migrationCheck => Sys2Proof.Machine.execMigrationCheck s
  | .discard w v => Sys2Proof.Machine.execDiscard w v s
  | .arbApply w v => Sys2Proof.Machine.execArbApply w v s
  | .tableCommit => Sys2Proof.Machine.execTableCommit s
  | .bandDecodeStart => Sys2Proof.Machine.execBandDecodeStart s
  | .faultResolved => Sys2Proof.Machine.execFaultResolved s
  | .quotaReplace => Sys2Proof.Machine.execQuotaReplace s
  | .marlBlockStart waitClocks => Sys2Proof.Machine.execMarlBlockStart waitClocks s
  | .blockPlaced verifyOk => Sys2Proof.Machine.execBlockPlaced verifyOk s
  | .lineStart h sensed vCode iCode => Sys2Proof.Machine.execLineStart h sensed vCode iCode s
  | .lineFetchDone h => Sys2Proof.Machine.execLineFetchDone h s
  | .pauseCheck h sensed vCode iCode => Sys2Proof.Machine.execPauseCheck h sensed vCode iCode s
  | .modelTick h slots => Sys2Proof.Machine.execModelTick h slots s
  | .deratingUpdate h => Sys2Proof.Machine.execDeratingUpdate h s
  | .overcurrentTrip h => Sys2Proof.Machine.execOvercurrentTrip h s
  | .thermistorSample h code => Sys2Proof.Machine.execThermistorSample h code s
  | .supplySample h code => Sys2Proof.Machine.execSupplySample h code s
  | .headCfgWrite w h v => Sys2Proof.Machine.execHeadCfgWrite w h v s
  | .headEnable w h v => Sys2Proof.Machine.execHeadEnable w h v s
  | .headDisable w h v => Sys2Proof.Machine.execHeadDisable w h v s
  | .scan w h v => Sys2Proof.Machine.execScan w h v s
  | .scanAbort w h v => Sys2Proof.Machine.execScanAbort w h v s
  | .scanStart h iSum => Sys2Proof.Machine.execScanStart h iSum s
  | .scanDot h vSum iSum => Sys2Proof.Machine.execScanDot h vSum iSum s
  | .hotplug h => Sys2Proof.Machine.execHotplug h s
  | .presenceLoss h => Sys2Proof.Machine.execPresenceLoss h s
  | .poweringCheck h vCode tCode => Sys2Proof.Machine.execPoweringCheck h vCode tCode s
  | .autoRetry h => Sys2Proof.Machine.execAutoRetry h s
  | .axisEnable w a v => Sys2Proof.Machine.execAxisEnable w a v s
  | .axisDisable w a v => Sys2Proof.Machine.execAxisDisable w a v s
  | .halt w a v => Sys2Proof.Machine.execHalt w a v s
  | .clear w a v => Sys2Proof.Machine.execClear w a v s
  | .clearUncertain w a v => Sys2Proof.Machine.execClearUncertain w a v s
  | .revRef w a v => Sys2Proof.Machine.execRevRef w a v s
  | .bridgeFault a low => Sys2Proof.Machine.execBridgeFault a low s
  | .limitActive a input active => Sys2Proof.Machine.execLimitActive a input active s
  | .motionUpdate => Sys2Proof.Machine.execMotionUpdate s
  | .microstep a => Sys2Proof.Machine.execMicrostep a s
  | .queuedMoveStart a => Sys2Proof.Machine.execQueuedMoveStart a s
  | .standstillReduction a => Sys2Proof.Machine.execStandstillReduction a s
  | .chopperTrip a phaseB => Sys2Proof.Machine.execChopperTrip a phaseB s
  | .offTimeEnd a phaseB => Sys2Proof.Machine.execOffTimeEnd a phaseB s
  | .serviceMove w a v => Sys2Proof.Machine.execServiceMove w a v s
  | .cutStart h => Sys2Proof.Machine.execCutStart h s
  | .homeSwitch home => Sys2Proof.Machine.execHomeSwitch home s
  | .cutPartialTimeout => Sys2Proof.Machine.execCutPartialTimeout s
  | .cutTimeout => Sys2Proof.Machine.execCutTimeout s
  | .brakeEnd => Sys2Proof.Machine.execBrakeEnd s
  | .mediaSample h code => Sys2Proof.Machine.execMediaSample h code s
  | .labelStartMissed h => Sys2Proof.Machine.execLabelStartMissed h s
  | .seekMaxReached h => Sys2Proof.Machine.execSeekMaxReached h s
  | .learn w h v => Sys2Proof.Machine.execLearn w h v s
  | .dropCut w h v => Sys2Proof.Machine.execDropCut w h v s
  | .paperLow h => Sys2Proof.Machine.execPaperLow h s
  | .paperEnd h => Sys2Proof.Machine.execPaperEnd h s
  | .paperClear h => Sys2Proof.Machine.execPaperClear h s
  | .coverOpen h => Sys2Proof.Machine.execCoverOpen h s
  | .coverClose h => Sys2Proof.Machine.execCoverClose h s
  | .lampOn w v => Sys2Proof.Machine.execLampOn w v s
  | .lampOff w v => Sys2Proof.Machine.execLampOff w v s
  | .lampDuty w v => Sys2Proof.Machine.execLampDuty w v s
  | .lampClear w v => Sys2Proof.Machine.execLampClear w v s
  | .lampAdmit => Sys2Proof.Machine.execLampAdmit s
  | .inrushComplete c => Sys2Proof.Machine.execInrushComplete c s
  | .limitTrip c => Sys2Proof.Machine.execLimitTrip c s
  | .overload c => Sys2Proof.Machine.execOverload c s
  | .shortTrip c => Sys2Proof.Machine.execShortTrip c s
  | .lampOpen c => Sys2Proof.Machine.execLampOpen c s
  | .lampCurrentSample c code => Sys2Proof.Machine.execLampCurrentSample c code s
  | .sequencerTrigger x => Sys2Proof.Machine.execSequencerTrigger x s
  | .go w x v => Sys2Proof.Machine.execGo w x v s
  | .abort w x v => Sys2Proof.Machine.execAbort w x v s
  | .passDelayEnd x => Sys2Proof.Machine.execPassDelayEnd x s
  | .conversionDone x code postponed => Sys2Proof.Machine.execConversionDone x code postponed s
  | .plausibilityCheck p made codeA codeB => Sys2Proof.Machine.execPlausibilityCheck p made codeA codeB s
  | .dieTempUpdate code => Sys2Proof.Machine.execDieTempUpdate code s
  | .supplyMonitorSample k code => Sys2Proof.Machine.execSupplyMonitorSample k code s
  | .thermalTrip => Sys2Proof.Machine.execThermalTrip s
  | .islandPowerUp => Sys2Proof.Machine.execIslandPowerUp s
  | .selfTestDone imageOk paramsOk nvmOk auditOk crystalOk noiseOk nonce key => Sys2Proof.Machine.execSelfTestDone imageOk paramsOk nvmOk auditOk crystalOk noiseOk nonce key s
  | .islandReset => Sys2Proof.Machine.execIslandReset s
  | .islandClockFault => Sys2Proof.Machine.execIslandClockFault s
  | .sealOpen => Sys2Proof.Machine.execSealOpen s
  | .sealClose => Sys2Proof.Machine.execSealClose s
  | .zero => Sys2Proof.Machine.execZero s
  | .tare => Sys2Proof.Machine.execTare s
  | .tareClear => Sys2Proof.Machine.execTareClear s
  | .readWeight => Sys2Proof.Machine.execReadWeight s
  | .readWeightIssue => Sys2Proof.Machine.execReadWeightIssue s
  | .readWeightDup => Sys2Proof.Machine.execReadWeightDup s
  | .printed => Sys2Proof.Machine.execPrinted s
  | .status => Sys2Proof.Machine.execStatus s
  | .unknownCommand => Sys2Proof.Machine.execUnknownCommand s
  | .issuedCommit => Sys2Proof.Machine.execIssuedCommit s
  | .printedCommit => Sys2Proof.Machine.execPrintedCommit s
  | .legalRsp => Sys2Proof.Machine.execLegalRsp s
  | .legalCmdTimeout src => Sys2Proof.Machine.execLegalCmdTimeout src s
  | .dupArm vi v => Sys2Proof.Machine.execDupArm vi v s
  | .epochCheck => Sys2Proof.Machine.execEpochCheck s
  | .ukI => Sys2Proof.Machine.execUkI s
  | .ukA => Sys2Proof.Machine.execUkA s
  | .ukR index => Sys2Proof.Machine.execUkR index s
  | .ukW index v => Sys2Proof.Machine.execUkW index v s
  | .ukU data => Sys2Proof.Machine.execUkU data s
  | .displayFrame => Sys2Proof.Machine.execDisplayFrame s
  | .weighingResult sig sns drv vddaK zeroMean refMean => Sys2Proof.Machine.execWeighingResult sig sns drv vddaK zeroMean refMean s
  | .sliceRotation slice o g t => Sys2Proof.Machine.execSliceRotation slice o g t s
  | .islandTemp t => Sys2Proof.Machine.execIslandTemp t s
  | .healthTest src ringA ringB samples => Sys2Proof.Machine.execHealthTest src ringA ringB samples s
  | .gritRestored src => Sys2Proof.Machine.execGritRestored src s
  | .entropyInputRelease => Sys2Proof.Machine.execEntropyInputRelease s
  | .reseedSlot => Sys2Proof.Machine.execReseedSlot s
  | .generateRequest inst => Sys2Proof.Machine.execGenerateRequest inst s
  | .randLoRead w => Sys2Proof.Machine.execRandLoRead w s
  | .randHiRead w => Sys2Proof.Machine.execRandHiRead w s
  | .raw w v => Sys2Proof.Machine.execRaw w v s
  | .switch w v => Sys2Proof.Machine.execSwitch w v s
  | .rawCfgWrite w v => Sys2Proof.Machine.execRawCfgWrite w v s
  | .serDataWrite w p v => Sys2Proof.Machine.execSerDataWrite w p v s
  | .serDataRead w p => Sys2Proof.Machine.execSerDataRead w p s
  | .sendBreak w v => Sys2Proof.Machine.execSendBreak w v s
  | .flushRx w v => Sys2Proof.Machine.execFlushRx w v s
  | .flushTx w v => Sys2Proof.Machine.execFlushTx w v s
  | .ownerChange w v => Sys2Proof.Machine.execOwnerChange w v s
  | .characterReceived p c parity stop => Sys2Proof.Machine.execCharacterReceived p c parity stop s
  | .breakRx p length => Sys2Proof.Machine.execBreakRx p length s
  | .characterSent p => Sys2Proof.Machine.execCharacterSent p s
  | .serRxTimeout p => Sys2Proof.Machine.execSerRxTimeout p s
  | .trimMeasure fMeas => Sys2Proof.Machine.execTrimMeasure fMeas s
  | .frameTransmit fraction => Sys2Proof.Machine.execFrameTransmit fraction s
  | .transmitEnd result => Sys2Proof.Machine.execTransmitEnd result s
  | .receiveError kind => Sys2Proof.Machine.execReceiveError kind s
  | .sync src seq dst payload age => Sys2Proof.Machine.execSync src seq dst payload age s
  | .timeSlew => Sys2Proof.Machine.execTimeSlew s
  | .syncLoss => Sys2Proof.Machine.execSyncLoss s
  | .syncPeriod => Sys2Proof.Machine.execSyncPeriod s
  | .capPeriod => Sys2Proof.Machine.execCapPeriod s
  | .cap src seq dst payload => Sys2Proof.Machine.execCap src seq dst payload s
  | .evt src seq dst payload => Sys2Proof.Machine.execEvt src seq dst payload s
  | .evtTx w v => Sys2Proof.Machine.execEvtTx w v s
  | .reservedFrame src seq dst => Sys2Proof.Machine.execReservedFrame src seq dst s
  | .peerTimeout n => Sys2Proof.Machine.execPeerTimeout n s
  | .busOffRecovery => Sys2Proof.Machine.execBusOffRecovery s
  | .recover w v => Sys2Proof.Machine.execRecover w v s
  | .migOffer src seq dst payload => Sys2Proof.Machine.execMigOffer src seq dst payload s
  | .migData src seq dst payload => Sys2Proof.Machine.execMigData src seq dst payload s
  | .revoke src seq dst payload => Sys2Proof.Machine.execRevoke src seq dst payload s
  | .accept src seq dst migId detail headTime amount => Sys2Proof.Machine.execAccept src seq dst migId detail headTime amount s
  | .refuse src seq dst migId detail headTime amount => Sys2Proof.Machine.execRefuse src seq dst migId detail headTime amount s
  | .abandoned src seq dst migId detail headTime amount => Sys2Proof.Machine.execAbandoned src seq dst migId detail headTime amount s
  | .started src seq dst migId detail headTime amount => Sys2Proof.Machine.execStarted src seq dst migId detail headTime amount s
  | .done src seq dst migId detail headTime amount => Sys2Proof.Machine.execDone src seq dst migId detail headTime amount s
  | .failed src seq dst migId detail headTime amount => Sys2Proof.Machine.execFailed src seq dst migId detail headTime amount s
  | .revoked src seq dst migId detail headTime amount => Sys2Proof.Machine.execRevoked src seq dst migId detail headTime amount s
  | .tooLate src seq dst migId detail headTime amount => Sys2Proof.Machine.execTooLate src seq dst migId detail headTime amount s
  | .offerTimeout => Sys2Proof.Machine.execOfferTimeout s
  | .revokeTimeout migId => Sys2Proof.Machine.execRevokeTimeout migId s
  | .transferTimeout slot => Sys2Proof.Machine.execTransferTimeout slot s
  | .info line => Sys2Proof.Machine.execInfo line s
  | .logRead line => Sys2Proof.Machine.execLogRead line s
  | .updBegin line flash => Sys2Proof.Machine.execUpdBegin line flash s
  | .updChunk line flash => Sys2Proof.Machine.execUpdChunk line flash s
  | .updEnd line flash => Sys2Proof.Machine.execUpdEnd line flash s
  | .updAbort line => Sys2Proof.Machine.execUpdAbort line s
  | .rbCommit line => Sys2Proof.Machine.execRbCommit line s
  | .confirm line => Sys2Proof.Machine.execConfirm line s
  | .mbUnknown line => Sys2Proof.Machine.execMbUnknown line s
  | .mbDone => Sys2Proof.Machine.execMbDone s
  | .mwBufRead => Sys2Proof.Machine.execMwBufRead s
  | .mwBufWrite v => Sys2Proof.Machine.execMwBufWrite v s
  | .u0B off data => Sys2Proof.Machine.execU0B off data s
  | .u0G off len => Sys2Proof.Machine.execU0G off len s
  | .logCommit => Sys2Proof.Machine.execLogCommit s
  | .mgWatchdog => Sys2Proof.Machine.execMgWatchdog s
  | .eccError correctable => Sys2Proof.Machine.execEccError correctable s
  | .trialConfirm => Sys2Proof.Machine.execTrialConfirm s
  | .sessionTimeout => Sys2Proof.Machine.execSessionTimeout s
  | .printedTimeout h => Sys2Proof.Machine.execPrintedTimeout h s
  | .aoCrystalRuns => Sys2Proof.Machine.execAoCrystalRuns s
  | .wakeGuardEnd => Sys2Proof.Machine.execWakeGuardEnd s
  | .latchFiring src bit => Sys2Proof.Machine.execLatchFiring src bit s
  | .ukMalformedFrame => Sys2Proof.Machine.execUkMalformedFrame s
  | .u0UnmatchedLine => Sys2Proof.Machine.execU0UnmatchedLine s
  | .showIdEnd => Sys2Proof.Machine.execShowIdEnd s
  | .pwmPeriod => Sys2Proof.Machine.execPwmPeriod s

end Sys2Proof.Machine
end

