-- ==== Sys2Proof/Machine/Idle.lean ====
section
/-! DEFINITION. What one microsecond does when no command waits (notes/assumptions 1). -/

namespace Sys2Proof.Machine

/-- Device time over one µs: it counts while AO is powered (02_power_clocks_modes R80; 03_host_bus R207), except in a
µs that a backward slew holds back (17_ryine R942). -/
def Ao.micro (a : Ao) : Ao :=
  if !a.powered then a
  else if a.slewHold then { a with slewHold := false }
  else { a with time := a.time + 1 }

/-- What the main islands do by themselves in a µs: the slot arbiter advances, reports that wait are sent again, the
windows of the heads and the migration margins are followed, and the credits and Loam's conditions move with time. -/
def State.mainMicro (s : State) : State :=
  if s.pwr.islandsRun then s.arbMicro.resendPrinted.refreshHeads.trackMargins.marlAccrue.refreshEligible else s

/-- One microsecond of idle time. -/
def State.idle (s : State) : State :=
  let t : State := { s with now := s.now + 1, ao := s.ao.micro }
  t.convMicro.mainMicro

end Sys2Proof.Machine
end

