-- ==== Sys2Proof/Machine/Pins.lean ====
section
/-! DEFINITION. Levels of pins that follow from the state: FAULT_N, the serial data of the head ports, the motor bridges,
the sensor emitters and the open-wire currents (02_power_clocks_modes, 08_head_ports, 10_motion, 11_media_outputs,
12_analog_thermal, 14_weighing). -/

namespace Sys2Proof.Machine

/-- FAULT_N is low: in HOLD, and in no other mode (02_power_clocks_modes R93, R96, R123, "Safe pin states"). -/
def State.faultLow (s : State) : Bool := s.pwr.mode = .hold

/-! ### Head data (08_head_ports, "Lines, slots and planes") -/

/-- m: head dots of one lane. -/
def State.laneDots (s : State) (h : Fin 4) : Nat := s.dots h / s.lanes h

/-- Lane that carries a head dot, and its position there. -/
def State.lanePos (s : State) (h : Fin 4) (hd : Nat) : Nat × Nat :=
  let l := hd / max 1 (s.laneDots h)
  (l, hd - l * s.laneDots h)

/-- Position shifted as the `i`-th of a plane: from m - 1 down to 0 with REV = 0, from 0 up with REV = 1. -/
def State.shiftPos (s : State) (h : Fin 4) (i : Nat) : Nat :=
  if bit (s.hPar h 0) 2 then i else s.laneDots h - 1 - i

/-- Hn_DAT[lane] at the `i`-th shift of a plane, given as the head dots that it sets: low on the lanes from L on, and a
masked dot is 0 in every plane (R467, R470). -/
def State.laneLevel (s : State) (h : Fin 4) (plane : Nat → Bool) (lane i : Nat) : Bool :=
  let hd := lane * s.laneDots h + s.shiftPos h i
  lane < s.lanes h && i < s.laneDots h && !s.masked h hd && plane hd

/-- The plane of slot `k` of a line, over head dots. -/
def State.slotPlane (s : State) (h : Fin 4) (p : LinePlan) (k : Nat) : Nat → Bool :=
  fun hd => p.strobed k (s.headDot h hd)

/-! ### Motor bridges (10_motion, "The axis", "The chopper") -/

/-- The enable of an axis's bridges is high: low in OFF and after a bridge fault, and in cutter mode in OFF and JAMMED
(R567, R578, R613, R621). -/
def State.bridgeEnabled (s : State) (a : Fin 4) : Bool :=
  if a = 3 ∧ s.cutterMode then s.paper.cutter.state ≠ .off && s.paper.cutter.state ≠ .jammed
  else match s.paper.axis[a].state with
    | .off => false
    | .fault => s.paper.axis[a].stopCause ≠ 2
    | _ => true

/-- A bridge code: 0b10 drives positive and 0b01 negative. -/
def driveCode (neg : Bool) : BitVec 2 := if neg then 1 else 2

/-- The time of fast decay in an off-time, µs: floor(t_off × fast / 8), at the MO clock in force (R579, R594). -/
def State.fastTime (s : State) (chop : Par) : Rat := (bits chop 0 6 * bits chop 8 4 / 8 : Nat) / s.clockScale

/-- The code of a bridge whose phase does this now: fast decay drives in the opposite polarity for the first part of the
off-time, and drive that follows drive of the other polarity begins after slow decay to the end of its µs. -/
def State.chopCode (s : State) (c : Chop) : BitVec 2 :=
  match c with
  | .slow => 0
  | .drive neg since _ turned => if turned && s.now = since then 0 else driveCode neg
  | .offTime neg since chop => if ((s.now - since : Nat) : Rat) < s.fastTime chop then driveCode (!neg) else 0

/-- The cutter's 20 kHz pulse is on: for cut.pwm / 256 of each 50 µs of its drive (R621). -/
def State.cutterPulse (s : State) : Bool :=
  256 * ((s.now - s.paper.cutter.since) % 50) < 50 * s.cutPar 0

/-- Mn_AIN and Mn_BIN: both low in OFF (R578), and M3_BIN held low in cutter mode (R619). -/
def State.bridgeCode (s : State) (a : Fin 4) (phaseB : Bool) : BitVec 2 :=
  if !s.phaseLive a phaseB ∨ (a = 3 ∧ s.cutterMode ∧ !s.cutterPulse) then 0
  else s.chopCode (if phaseB then s.paper.axis[a].chopB else s.paper.axis[a].chopA)

/-! ### Sensor emitters (11_media_outputs R639) -/

/-- The gap or the mark sensor of a head is its active sensor. -/
def State.sensorActive (s : State) (h : Fin 4) (mark : Bool) : Bool := s.mediaType h = (if mark then 2 else 1)

/-- Current of Hn_GLED or Hn_MLED, mA: the emitter of the active sensor is driven while head.cfg.FITTED = 1, and the
other one is off. -/
def State.emitter (s : State) (h : Fin 4) (mark : Bool) : Nat :=
  if s.pwr.islandsRun ∧ s.fitted h ∧ s.sensorActive h mark then s.mPar h 0 / (if mark then 65536 else 256) % 32 else 0

/-! ### Open-wire currents (12_analog_thermal R713, R714; 14_weighing R810) -/

/-- Nominal current into input ANi, µA: from VDDA as pull-up, toward ground as pull-down, and none outside RUN, REDUCED,
SERVICE and UPDATE. -/
def State.openWire (s : State) (i : Fin 32) : Int :=
  let v := s.parG (0x3100 + i.val)
  let size : Int := (4 : Int) ^ bits v 2 2
  match s.pwr.mode with
  | .run | .reduced | .service | .update => if bits v 0 2 = 1 then size else if bits v 0 2 = 2 then - size else 0
  | _ => 0

/-- The load-cell wires that carry an open-wire current (14_weighing, "Load-cell connection"). -/
inductive CellWire where
  | snsP | snsN
  | sigP (cell : Fin 4)
  | sigN (cell : Fin 4)
  deriving DecidableEq, Repr

/-- The wire is pulled toward VDDA_K, and not toward ground. -/
def CellWire.toSupply : CellWire → Bool
  | .snsN | .sigP _ => true
  | .snsP | .sigN _ => false

/-- Nominal open-wire current of weigh.ow into a load-cell wire, nA, positive from VDDA_K: while the island has power
and EN = 1 (14_weighing R810). -/
def State.cellOpenWire (s : State) (w : CellWire) : Int :=
  let v := s.island.lp 0x11
  let size : Int := match bits v 1 2 with
    | 0 => 10
    | 1 => 50
    | _ => 200
  if s.islandPresent ∧ s.island.state ≠ .inactive ∧ bit v 0 then (if w.toSupply then size else - size) else 0

end Sys2Proof.Machine
end

