-- ==== Sys2Proof/Safety.lean ====
section
/-! DEFINITION. What counts as a well-kept machine: bounds and canonical forms that every run keeps. -/

namespace Sys2Proof

open Machine

/-- Every event queue holds at most 64 entries (04_tenancy R245). -/
def QueuesBounded (s : State) : Prop := ∀ w : Fin 9, (s.bus.evq[w]).queue.length ≤ 64

/-- The retention ring holds at most 64 records (18_management R1007). -/
def RingBounded (s : State) : Prop := s.ao.ring.length ≤ 64

/-- What is fused, with a rollback counter of at least `n`, counted up to 64 (00_scope R1; 18_management R1032). -/
def FusedAs (p : Part) (f : Fuses) (n : Nat) (s : State) : Prop :=
  s.part = p ∧ s.fuse = f ∧ n ≤ s.mgmt.rollback ∧ s.mgmt.rollback ≤ 64

/-- The on-chip SRAM, the external memory and both mailbox buffers are in canonical form (06_silt, "Frames", "The
store"; 18_management R993). -/
def MemoriesWf (s : State) : Prop :=
  Memory.wf s.silt.sram = true ∧ Memory.wf s.silt.dram = true ∧ Memory.wf s.mgmt.buf = true
    ∧ Memory.wf s.mgmt.u0Buf = true

/-- What no command and no idle time undoes: the part and its fuses, the queue of waiting commands, a rollback
counter of at least `n` and an audit counter of at least `m` (18_management R1032; 13_kaolin_island R789), and the
bounds and canonical forms above. -/
structure Kept (p : Part) (f : Fuses) (n m : Nat) (q : List Instr) (s : State) : Prop where
  fused : FusedAs p f n s
  audited : m ≤ s.island.audit.toNat
  waiting : s.pending = q
  queues : QueuesBounded s
  ring : RingBounded s
  memories : MemoriesWf s

/-! ### What statements about commands are written with -/

/-- The command answers a next state, and that state has a property. -/
def Answers (i : Instr) (s : State) (P : State → Prop) : Prop := ∃ t, exec i s = .next t ∧ P t

/-- `t` is `s` but for events put on queues and records put into the retention ring, with the count of records
lost. -/
def Reports (s t : State) : Prop :=
  t = { s with
    bus := { s.bus with evq := t.bus.evq }
    ao := { s.ao with ring := t.ao.ring }
    mgmt := { s.mgmt with logLost := t.mgmt.logLost } }

/-- A write of `v` to index `idx` through window `w` passes the checks of 19_parameter_map R1046; `r` is the row of
the item. -/
structure Admitted (s : State) (w : Fin 11) (idx : Nat) (v : Par) (r : ParRow) : Prop where
  checked : s.parCheck w idx true = errOk
  row : parRow idx = some r
  now : s.itemNow w idx (if r.banked then s.portVi w else none) (v &&& r.mask) = true
  fits : (r.fields.all fun f => f.admits (v &&& r.mask)) = true
  valid : s.itemValid idx (v &&& r.mask) = true

/-- A parameter write with a command of its own is served by window `w` and admitted; `u` is the state once the
operation posted in the window has completed, and `x` the value without reserved bits. -/
structure Takes (s : State) (w : Fin 11) (idx : Nat) (v : Par) (r : ParRow) (u : State) (x : Par) : Prop where
  served : s.regServed w 0x12 = true
  after : u = s.finishPosted w
  admitted : Admitted u w idx v r
  value : x = v &&& r.mask

/-- The parameter registers of window `w` once a write of index `idx` has completed with code `e` (03_host_bus R172,
R173). -/
def wrote (w : Fin 11) (idx : Nat) (e : BitVec 4) (s : State) : State :=
  s.onPort w fun p =>
    ({ p with index := BitVec.ofNat 16 idx, err := e, staged := 0, snapshot := none } : ParPort).advance

/-- Head `h` goes to a state with a cause (08_head_ports): the other heads and all motion keep theirs, and the loss of
heads is declared as they stand. -/
def HeadGoes (h : Fin 4) (st : HeadState) (cause : OutCause) (s t : State) : Prop :=
  t.paper.head[h].state = st ∧ t.paper.head[h].cause = cause
    ∧ t.paper.head[h].pen = ((st = .powering || st = .inService) && !s.pwr.pastStage 2)
    ∧ (∀ k : Fin 4, k ≠ h → t.paper.head[k] = s.paper.head[k])
    ∧ t.pwr.headOut = ((List.finRange 4).any fun (k : Fin 4) =>
        t.paper.head[k].state = .out || t.paper.head[k].state = .powering)
    ∧ t.paper.axis = s.paper.axis ∧ t.paper.run = s.paper.run ∧ t.vi = s.vi ∧ t.loam = s.loam ∧ t.island = s.island

/-- But for what is reported, only axis `a` changes. -/
def AxisAlone (a : Fin 4) (s t : State) : Prop :=
  (∀ k : Fin 4, k ≠ a → t.paper.axis[k] = s.paper.axis[k])
    ∧ Reports { s with paper := { s.paper with axis := t.paper.axis } } t

/-- The engine of the management core takes command `q`: the one that waits in window 10, or that of a line of U0
while it serves none (18_management R994). -/
structure EngineTakes (s : State) (line : Option MLine) (q : MbCommand) : Prop where
  runs : s.pwr.mgRunning = true
  free : s.mgmt.answer = none
  waits : line = none → s.mgmt.command = some q
  brought : ∀ l : MLine, line = some l →
    s.mgmt.command = none ∧ q = { source := .u0, code := l.code, tag := l.tag, arg := l.arg }

/-- Command `q` has its answer, with response `r`. -/
def Answered (q : MbCommand) (r : Byte) (t : State) : Prop :=
  (t.mgmt.answer.map fun a => (a.cmd, a.rsp)) = some (q, r)

/-- Command `q` is answered with response `r`, and nothing else changes. -/
def OnlyAnswered (q : MbCommand) (r : Byte) (s t : State) : Prop :=
  Answered q r t ∧ t = { s with mgmt := { s.mgmt with answer := t.mgmt.answer }, fresh := t.fresh }

end Sys2Proof
end

