-- ==== Sys2Proof/Certificates/Slice0/Obligations.lean ====
section
/-! DEFINITION. The statements for the provers, one definition each. -/

section

open Sys2Proof Sys2Proof.Machine

/-! ### The machine as a whole -/

/-- A step takes the command at the front of the queue and runs it with the queue's rest. -/
def Obligations.StepServesTheFront : Prop :=
  ∀ (i : Instr) (l : List Instr) (s : State), s.pending = i :: l → step s = exec i { s with pending := l }

/-- With nothing waiting, a step is one microsecond of idle time: the instant and device time advance, and the queue
stays empty (the model's choice: notes/assumptions 1). While neither the main islands run nor AN converts, nothing
else changes; in HOLD, conversions fall due. -/
def Obligations.IdleTimePasses : Prop :=
  ∀ s : State, s.pending = [] → ∃ t, step s = .next t ∧ t.now = s.now + 1 ∧ t.pending = []
    ∧ (s.ao.powered = true → s.ao.slewHold = false → t.ao.time = s.ao.time + 1)
    ∧ (s.anRuns = false → t = { s with now := t.now, ao := t.ao })
    ∧ (s.pwr.islandsRun = false → t = { s with
        now := t.now, ao := t.ao, analog := { s.analog with conv := t.analog.conv } })

/-- Every command is answered with a next state, in every state: no command ends in a fault or a refusal. No command
touches the queue of those that wait, and no command takes one off or puts one on it. -/
def Obligations.EveryCommandCompletes : Prop :=
  (∀ (i : Instr) (s : State), ∃ t, exec i s = .next t)
  ∧ ∀ (i : Instr) (s t : State), exec i s = .next t → t.pending = s.pending

/-- What is fused never changes, and the rollback counter, counted up to 64, never falls (18_management R1032;
19_parameter_map R1052): over every step, a command's or an idle one. -/
def Obligations.FusesStayAndRollbackNeverFalls : Prop :=
  ∀ (p : Part) (f : Fuses) (n : Nat) (s t : State), FusedAs p f n s → step s = .next t → FusedAs p f n t

/-- legal.audit never decreases (13_kaolin_island R789). -/
def Obligations.AuditNeverDecreases : Prop :=
  ∀ s t : State, step s = .next t → s.island.audit.toNat ≤ t.island.audit.toNat

/-- Every event queue keeps to its 64 places (04_tenancy R244, R245). The retention ring keeps to its 64 records
(18_management R1007). -/
def Obligations.QueuesAndRingStayBounded : Prop :=
  (∀ s t : State, QueuesBounded s → step s = .next t → QueuesBounded t)
  ∧ ∀ s t : State, RingBounded s → step s = .next t → RingBounded t

/-- The on-chip SRAM, the external memory and both mailbox buffers keep their canonical form, so that equal memories
are equal data. -/
def Obligations.MemoriesStayCanonical : Prop :=
  ∀ s t : State, MemoriesWf s → step s = .next t → MemoriesWf t

/-- The invariants above hold right after reset. -/
def Obligations.ResetIsWellKept : Prop :=
  Kept .tl4816 {} 0 0 [] State.reset ∧ QueuesBounded State.reset ∧ RingBounded State.reset ∧ MemoriesWf State.reset

/-- What reset leaves, where the spec gives the values: the mode is WAKE and HV_MODE_STAT reads 0x0002, no pin but
PWR_EN[0] is enabled, every VI is DISABLED, every head UNFITTED, every axis OFF, every lamp channel OFF, the island
INACTIVE, the queues empty, and device time 0 with VALID clear. -/
def Obligations.ResetState : Prop :=
  State.reset.pwr.mode = .wake ∧ State.reset.pwr.modeStat = 0x0002 ∧ State.reset.pwr.en = 1
    ∧ (∀ v : Fin 8, State.reset.vi[v].state = .disabled) ∧ (∀ h : Fin 4, State.reset.paper.head[h].state = .unfitted)
    ∧ (∀ a : Fin 4, State.reset.paper.axis[a].state = .off) ∧ (∀ l : Fin 8, State.reset.paper.lamp[l].state = .off)
    ∧ State.reset.island.state = .inactive ∧ (∀ w : Fin 9, (State.reset.bus.evq[w]).queue = [])
    ∧ State.reset.ao.time = 0 ∧ State.reset.ao.timeValid = false ∧ State.reset.pending = []

/-! ### Power, modes and clocks (02_power_clocks_modes) -/

/-- In RETAIN, with no power-down and the guard time over, each wake source that is enabled wakes the device: phase A
begins with PWR_EN[0], the wake is counted, and AO, flash and the island keep what they hold, but that a pending
record which flash already holds is discarded and that the answers of commands still in the island reach no one.
PWR_FAIL_N wakes it as it returns after a power-fail power-down. After a thermal shutdown only a low level on WAKE_N,
the restart time and RST_N wake it. AO gains power, loses it, and what AO notes by itself: its crystal, the die cooled
after a thermal shutdown, a counted glitch of PWR_FAIL_N and the end of the guard time with a wake source latched. -/
def Obligations.AlwaysOnIsland : Prop :=
  (∀ s : State, s.pwr.mode = .retain → s.pwr.pd = none → s.ao.guard = false →
     let woken (i : Instr) (n : BitVec 4) : Prop := Answers i s fun t =>
       t.pwr.mode = .wake ∧ t.pwr.wakeSource = n ∧ t.pwr.en = s.pwr.en ||| 1 ∧ t.ao.wakeCount = s.ao.wakeCount + 1
         ∧ t.ao.time = s.ao.time ∧ t.ao.ring = s.ao.ring.filter (fun r => !s.mgmt.holdsSeq r)
         ∧ t.island = s.island.disown s.pwr.pgCore
         ∧ t.mgmt.log = s.mgmt.log ∧ t.mgmt.rollback = s.mgmt.rollback
     (s.ao.thermalShut = false → s.ao.wakeEn[(0 : Fin 4)] = true → woken .wakeNFall 2)
     ∧ (s.ao.thermalShut = false → s.ao.wakeEn[(1 : Fin 4)] = true → s.ao.alarm ≠ 0 →
         s.ao.retainTime.toNat < s.ao.alarm.toNat → s.ao.alarm.toNat ≤ s.ao.time.toNat → woken .alarm 3)
     ∧ (s.ao.thermalShut = false → s.ao.wakeEn[(2 : Fin 4)] = true → woken .linkWake 4)
     ∧ (s.ao.thermalShut = false → s.ao.wakeEn[(3 : Fin 4)] = true → s.ao.pdStage ≠ 0 → s.ao.pdReason = .powerFail →
         woken .powerReturn 5)
     ∧ (s.ao.thermalShut = true → s.ao.thermalCooled = true → woken .wakeNFall 2)
     ∧ (s.ao.thermalShut = true → s.ao.thermalCooled = true → s.ao.thermalRestart ≠ 0 → woken .thermalRestart 6)
     ∧ (s.pwr.rstHeld = true → woken .rstNRelease 1))
  ∧ (∀ s : State, s.pwr.mode = .off →
      Answers (.aoPowerOn true) s fun t => t.pwr.mode = .wake ∧ t.pwr.wakeSource = 0 ∧ t.pwr.en = 1 ∧ t.ao.time = 0
          ∧ t.ao.wakeCount = 1 ∧ t.island = s.island.disown s.pwr.pgCore)
    ∧ (∀ s : State, s.pwr.mode = .off →
      Answers (.aoPowerOn false) s fun t => t.pwr.mode = .retain ∧ t.pwr.en = 0 ∧ t.pwr.pwrFailN = false ∧ t.ao.time = 0
          ∧ t.island = s.island)
    ∧ (∀ s : State, Answers .allPowerLost s fun t => t.pwr.mode = .off ∧ t.pwr.en = 0 ∧ t.ao.powered = false
          ∧ t.ao.ring = [] ∧ t.island = s.island.disown s.pwr.pgCore ∧ t.mgmt.log = s.mgmt.log ∧ t.fuse = s.fuse)
    ∧ (∀ s : State, s.ao.powered = true → exec .aoCrystalRuns s = .next (s.onAo fun a => { a with xtal := true }))
    ∧ (∀ s : State, s.ao.thermalShut = true →
        exec .thermalCooled s = .next (s.onAo fun a => { a with thermalCooled := true }))
    ∧ (∀ s : State, s.ao.powered = true → s.ao.glitches ≠ 0xFF → Answers (.pwrFailNGlitch true) s fun t =>
        t.ao.glitches = s.ao.glitches + 1 ∧ t = s.onAo fun a => { a with glitches := t.ao.glitches, lastPd := t.ao.lastPd })
    ∧ (∀ s : State, exec (.pwrFailNGlitch false) s = .next s)
    ∧ (∀ (s : State) (n : BitVec 4), s.ao.wakeLatched = some n → s.pwr.mode = .retain → s.pwr.pd = none →
        Answers .wakeGuardEnd s fun t => t.ao.guard = false ∧ t.pwr.mode = .wake ∧ t.pwr.wakeSource = n)

/-- The wake sequence: each supply and each clock that comes up takes the wake one phase on, with the enables asserted
in their order (PWR_EN[1], and PWR_EN[3] on a part with the island), and a supply that does not come up within its
wait has its enable dropped for a retry. A slot that passes its checks boots; the wake ends in RUN, or in REDUCED when
a loss is declared, with a WAKE record. A wake in which a power-down has begun goes no further (the model's choice:
notes/assumptions 151). -/
def Obligations.WakeSequence : Prop :=
  (∀ s : State, s.pwr.mode = .wake → s.pwr.pd = none →
     (s.pwr.phase = .waitIo → exec .pgIoRise s = .next (s.onPwr fun p => { p with
         pgIo := true, phase := .waitCore, coreAttempts := 1
         en := p.en ||| 2 ||| (if s.part = .tl4816n then 0 else 8) }))
     ∧ (s.pwr.phase = .dropIo → exec .pgRetry s = .next ((s.onPwr fun p => { p with
         en := p.en ||| 1, phase := .waitIo, ioAttempts := p.ioAttempts + 1 }).onAo fun a => { a with guard := false }))
     ∧ (s.pwr.phase = .dropCore → exec .pgRetry s = .next (s.onPwr fun p => { p with
         en := p.en ||| 2, phase := .waitCore, coreAttempts := p.coreAttempts + 1 }))
     ∧ (s.pwr.phase = .waitCore → exec .pgCoreRise s = .next (s.onPwr fun p => { p with pgCore := true, phase := .coreUp }))
     ∧ (s.pwr.phase = .coreUp → s.pwr.rstHeld = false → exec .mgResetRelease s = .next (s.onPwr fun p => { p with
         phase := .waitLock, mgRunning := true }))
     ∧ (s.pwr.phase = .waitLock → exec .pllLock s = .next ((s.onPwr fun p => { p with
         phase := .clocked, mainLock := true }).onMgmt fun m => { m with refRunning := true, refInTol := s.ao.xtal }))
     ∧ (s.pwr.phase = .waitLock → Answers .lockTimeout s fun t => t.pwr.phase = .clocked ∧ t.pwr.clkFallback = true
         ∧ t.pwr.mode = .wake ∧ t.paper = s.paper ∧ t.island = s.island)
     ∧ (s.pwr.phase = .clocked → ∀ nid : Fin 16, exec (.islandsResetRelease nid) s = .next ((s.onPwr fun p => { p with
         phase := .checkA }).onLink fun l => { l with nid := nid }))
     ∧ (s.pwr.phase = .waitMem → exec .pgMemRise s = .next (s.onPwr fun p => { p with pgMem := true, phase := .training }))
     ∧ (s.pwr.phase = .training → exec (.memoryTrainingDone true) s = .next ((s.onPwr fun p => { p with
         phase := .ready }).onSilt fun x => { x with external := true, memStat := 3, extChunks := memChunks s.pwr.memCfg }))
     ∧ (s.pwr.phase = .training → Answers (.memoryTrainingDone false) s fun t => t.pwr.phase = .ready
         ∧ t.pwr.memAbsent = true ∧ t.pwr.en = s.pwr.en &&& 0xB)
     ∧ (s.pwr.phase = .waitIo → s.pwr.ioAttempts < 3 → exec .pgWaitTimeout s = .next
         ((s.onPwr fun p => { p with en := p.en &&& 0xE, phase := .dropIo }).onAo fun a => { a with guard := true }))
     ∧ (s.pwr.phase = .waitCore → s.pwr.coreAttempts < 3 → exec .pgWaitTimeout s = .next
         (s.onPwr fun p => { p with en := p.en &&& 0xD, phase := .dropCore }))
     ∧ (s.pwr.phase = .waitIo → 3 ≤ s.pwr.ioAttempts → Answers .pgWaitTimeout s fun t => t.pwr.mode = .hold
         ∧ t.ao.holdCause = 0x0301 ∧ t.pwr.en = s.pwr.en ∧ t.faultLow = true)
     ∧ (s.pwr.phase = .waitCore → 3 ≤ s.pwr.coreAttempts → Answers .pgWaitTimeout s fun t => t.pwr.mode = .hold
         ∧ t.ao.holdCause = 0x0302 ∧ t.pwr.en = s.pwr.en ∧ t.faultLow = true)
     ∧ (s.pwr.phase = .waitMem → Answers .pgWaitTimeout s fun t => t.pwr.phase = .ready
         ∧ t.pwr.memAbsent = true ∧ t.pwr.en = s.pwr.en &&& 0xB))
  ∧ (∀ s : State, s.pwr.mode = .wake → s.pwr.pd ≠ none → ∀ i ∈ [Instr.pgRetry, .slotCheckDone, .bootComplete,
      .lockTimeout, .pgWaitTimeout, .pllLock], exec i s = .next s)
  ∧ (∀ s : State, s.pwr.mode = .wake → s.pwr.pd = none → s.pwr.mgRunning = true → s.pwr.phase = .checkA → s.inTrial = false →
      s.slotCheck s.preferredArea = 0 → s.mgmt.memCfgFlash.getLsbD 0 = false →
      Answers .slotCheckDone s fun t => t.pwr.phase = .ready ∧ t.mgmt.running = some s.preferredArea ∧ t.pwr.slotB = false)
    ∧ (∀ s : State, s.pwr.mode = .wake → s.pwr.pd = none → s.pwr.mgRunning = true → s.pwr.phase = .checkA →
      s.slotCheck s.preferredArea ≠ 0 →
      Answers .slotCheckDone s fun t => t.pwr.phase = .checkB ∧ t.mgmt.running = s.mgmt.running)
    ∧ (∀ s : State, s.pwr.mode = .wake → s.pwr.pd = none → s.pwr.phase = .ready →
      Answers .bootComplete s fun t => t.pwr.mode = (if s.pwr.anyLoss then .reduced else .run)
        ∧ t.pwr.wakeCause = s.pwr.causeWord ∧ t.paper = s.paper ∧ t.island = s.island ∧ t.vi = s.vi
        ∧ (s.ao.ring.length < 61 → (t.ao.ring.getLast?.map fun r => r.code) = some 0xCC))

/-- The stages of a power-down, each begun by its command when it is the next one: its marker is written, and its work
is done. Stage 6 drops the enables in their order, PWR_EN[2], [1], [3] after a power failure, and [0]; with the last
one the device is in RETAIN, COMPLETE is written, and nothing of the main side is left. -/
def Obligations.PowerDownStages : Prop :=
  (∀ (s : State) (d : PowerDown), s.pwr.pd = some d → d.collapsed = false → d.stage6Only = false →
     s.pwr.islandsRun = true →
     (d.stage = 0 → Answers .stage1 s fun t => t.pwr.pd = some { d with stage := 1, closed := true } ∧ t.ao.pdStage = 1
         ∧ t.ao.pdReason = d.reason ∧ t.mgmt.session = none)
     ∧ (d.stage = 1 → Answers .stage2 s fun t => t.pwr.pd = some { d with stage := 2 } ∧ t.ao.pdStage = 2
         ∧ ∀ h : Fin 4, t.paper.run[h] = none ∧ t.paper.head[h].pen = false)
     ∧ (d.stage = 2 → Answers .stage3 s fun t => t.pwr.pd = some { d with stage := 3 } ∧ t.ao.pdStage = 3
         ∧ ∀ l : Fin 8, t.paper.lamp[l].state ≠ .on)
     ∧ (d.stage = 3 → ∀ n : Nat, Answers (.stage4 n) s fun t => t.pwr.pd = some { d with stage := 4 } ∧ t.ao.pdStage = 4
         ∧ t.ao.pdFlashed = t.ao.ring.isEmpty)
     ∧ (d.stage = 4 → Answers .stage5 s fun t => t.ao.pdRetained = BitVec.ofNat 8 t.ao.ring.length
         ∧ (s.ao.ring.length < 63 → ∃ r : LogRecord, r.code = 0xCC ∧ t.ao.ring = s.ao.ring ++ [r])
         ∧ Reports ((s.onPwr fun p => { p with pd := some { d with stage := 5 } }).onAo fun a => { a with
             pdStage := 5, pdRetained := t.ao.pdRetained }) t)
     ∧ (d.stage = 5 → Answers .stage6 s fun t => t = (s.onPwr fun p => { p with pd := some { d with stage := 6 } }).onAo
         fun a => { a with pdStage := 6 }))
  ∧ ∀ (s : State) (d : PowerDown), s.pwr.pd = some d → d.stage = 6 → d.collapsed = false →
      (s.pwr.en = 0xF → exec .pwrEnDrop s = .next (s.onPwr fun p => { p with en := 0xB }))
      ∧ (s.pwr.en = 0xB → exec .pwrEnDrop s = .next (s.onPwr fun p => { p with en := 0x9, mgRunning := false }))
      ∧ (s.pwr.en = 0x9 → d.reason = .powerFail → exec .pwrEnDrop s = .next (s.onPwr fun p => { p with en := 0x1 }))
      ∧ (s.pwr.en = 0x1 → Answers .pwrEnDrop s fun t => t.pwr.mode = .retain ∧ t.pwr.en = 0 ∧ t.pwr.pd = none
          ∧ t.ao.pdStage = 7 ∧ t.ao.guard = true ∧ t.ao.ring = s.ao.ring ∧ t.island = s.island.disown s.pwr.pgCore
          ∧ t.bus = {} ∧ t.par = [])

/-- RST_N holds the main side at its device reset values without leaving the mode; requests of HV_MODE_REQ are
accepted or refused, in a power-down too, whatever RST_N then is; SERVICE is entered when the last job has ended; a
written pwr.mem_cfg is committed. -/
def Obligations.ResetAndModeRequests : Prop :=
  (∀ s : State, s.pwr.mode.running = true → s.pwr.pd = none →
    Answers .rstNAssert s fun t => t.pwr.mode = s.pwr.mode ∧ t.pwr.rstHeld = true ∧ t.pwr.mgRunning = false
      ∧ t.ao = { s.ao with wakeLatched := none } ∧ t.bus = {} ∧ t.par = []
      ∧ t.island = s.island.disown s.pwr.pgCore ∧ t.mgmt.log = s.mgmt.log ∧ t.mgmt.rollback = s.mgmt.rollback)
  ∧ (∀ s : State, s.modeReqServed = true → s.pwr.pd ≠ none → s.pwr.mode.running = true →
      exec .serviceRequest s = .next ((s.onPwr fun p => { p with reqRefused := true }).raise0 0x09 0 5)
      ∧ exec .runRequest s = .next (s.onPwr fun p => { p with reqRefused := false }))
  ∧ ∀ s : State, s.modeReqServed = true → s.pwr.pd = none →
    (s.pwr.mode.running = true → s.pwr.target = none → exec .serviceRequest s = .next (s.onPwr fun p => { p with
        target := some .service, drain := true, reqRefused := false }))
    ∧ (s.pwr.mode.running = true → s.pwr.target = some .service → exec .runRequest s = .next (s.onPwr fun p => { p with
        target := none, drain := false, reqRefused := false }))
    ∧ (s.pwr.mode = .service → s.pwr.target = none → Answers .runRequest s fun t =>
        t.pwr.mode = (if s.pwr.anyLoss then .reduced else .run) ∧ t.pwr.reqRefused = false ∧ t.grit.raw = false)
    ∧ (s.pwr.mode = .service → s.pwr.target = none → Answers .retainRequest s fun t => t.pwr.target = some .retain
        ∧ t.pwr.pd = some { reason := .retainRequest, stage := 0, collapsed := false, stage6Only := false })
    ∧ (∀ v : Word, v.toNat % 8 ≠ 1 → v.toNat % 8 ≠ 3 → v.toNat % 8 ≠ 5 →
        exec (.invalidModeRequest v) s = .next ((s.onPwr fun p => { p with reqRefused := true }).raise0 0x09 0 v))
    ∧ (s.pwr.mode.running = true → s.pwr.target = some .service → s.jobsRunning = false → Answers .serviceEntry s fun t =>
        Reports (s.onPwr fun p => { p with mode := .service, target := none, drain := false }) t)
    ∧ (s.pwr.memCfgPending = true → s.analog.flashOk = true → exec .memCfgCommit s = .next ((s.onMgmt fun m => { m with
        memCfgFlash := s.pwr.memCfg }).onPwr fun p => { p with memCfgPending := false }))

/-- A supply or PWR_FAIL_N that fails starts a power-fail power-down while the device runs; a fall of PG_CORE takes
the main side with it at once; external memory that fails is declared absent; a change of PG_K changes no mode. A
reference found stopped, or off while AO's crystal runs, sets the device on RC fallback; the watchdog and an
uncorrectable memory error end in HOLD with their causes, FAULT_N low and the other outputs safe, but in WAKE; a
correctable one is counted. -/
def Obligations.SuppliesAndMonitorsFail : Prop :=
  (∀ s : State, s.pwr.mode.running = true → s.pwr.pd = none →
     let pd : PowerDown := { reason := .powerFail, stage := 0, collapsed := false, stage6Only := false }
     exec .pwrFailNLow s = .next (s.onPwr fun p => { p with pwrFailN := false, target := some .retain, pd := some pd })
     ∧ (s.pwr.en.getLsbD 0 = true → s.pwr.pgIo = true →
         exec .pgIoFall s = .next (s.onPwr fun p => { p with pgIo := false, target := some .retain, pd := some pd }))
     ∧ (s.pwr.en.getLsbD 1 = true → s.pwr.pgCore = true →
         Answers .pgCoreFall s fun t => t.pwr.pd = some { pd with stage := 1, collapsed := true } ∧ t.pwr.mode = s.pwr.mode
           ∧ t.pwr.mgRunning = false ∧ t.ao.pdStage = 1 ∧ t.ao.pdReason = .powerFail
           ∧ t.island = s.island.disown false
           ∧ t.mgmt.log = s.mgmt.log)
     ∧ (s.pwr.en.getLsbD 2 = true → s.pwr.pgMem = true →
         Answers .pgMemFall s fun t => t.pwr.memAbsent = true ∧ t.pwr.en = s.pwr.en &&& 0xB ∧ t.pwr.pgMem = false
           ∧ t.pwr.pd = none ∧ t.island = s.island)
     ∧ (s.part ≠ .tl4816n → ∀ level : Bool, level ≠ s.pwr.pgK →
         Answers (.pgKChange level) s fun t => t.pwr = { s.pwr with pgK := level }
           ∧ Reports ((s.onPwr fun p => { p with pgK := level }).onLegal fun l => { l with mirror := t.legal.mirror }) t))
  ∧ (∀ (s : State) (off : Bool) (count : Word), s.pwr.islandsRun = true → s.pwr.mainLock = true →
      Answers (.clockMon true off count) s fun t => t.pwr.clkFallback = true ∧ t.pwr.mainLock = false
        ∧ t.mgmt.refRunning = false ∧ t.mgmt.refInTol = false)
    ∧ (∀ s : State, s.pwr.mgRunning = true → s.pwr.pd = none → s.pwr.mode.running = true →
      let holds (cause : Word) (t : State) : Prop := t.pwr.mode = .hold ∧ t.ao.holdCause = cause
        ∧ t.mgmt.running = none ∧ t.faultLow = true ∧ (∀ k : Fin 4, t.irqLow k = false) ∧ (∀ k : Fin 2, t.dreqLow k = false)
        ∧ t.link.sending = none ∧ (∀ p : Fin 3, (t.ser.port[p]).sending = none)
        ∧ ∀ h : Fin 4, t.paper.run[h] = none ∧ t.paper.head[h].pen = false
      Answers .mgWatchdog s (holds 5)
      ∧ Answers (.eccError false) s (holds 6)
      ∧ exec (.eccError true) s = .next (s.onMgmt fun m => { m with ecc := satInc m.ecc }))
    ∧ (∀ s : State, s.pwr.mode = .wake → exec .mgWatchdog s = .next s ∧ exec (.eccError false) s = .next s)

/-! ### The host bus and its parameter registers (03_host_bus, 19_parameter_map) -/

/-- A write to the parameter registers of a window waits for the operation posted there: PAR_INDEX takes the value
with nothing staged and no snapshot, PAR_DHI stages the upper half, and PAR_DLO posts the write with its halves
joined. A read of PAR_DLO drives the low half of the fetched value and keeps the value as the snapshot, from which
PAR_DHI then drives the high half; a refused fetch reads 0 with its code. -/
def Obligations.ParameterRegisters : Prop :=
  (∀ (s : State) (w : Fin 11) (v : Word), s.pwr.mgRunning = true →
     (w = 9 → s.part ≠ .tl4816n ∧ s.hvServes = true) →
     let u := s.finishPosted w
     ((s.bus.port[w]).posted = none → u = s)
     ∧ exec (.parIndexWrite w v) s = .next (u.onPort w fun p => { p with index := v, staged := 0, snapshot := none })
     ∧ exec (.parDhiWrite w v) s = .next (u.onPort w fun p => { p with staged := v })
     ∧ Answers (.parDloWrite w v) s fun t =>
         let p := u.bus.port[w]
         (t.bus.port[w]).posted = some ⟨p.index, BitVec.setWidth 32 p.staged <<< 16 ||| BitVec.setWidth 32 v, p.viSel⟩
         ∧ (t.bus.port[w]).index = (if p.autoInc then p.index + 1 else p.index) ∧ (t.bus.port[w]).staged = 0
         ∧ (t.bus.port[w]).snapshot = none ∧ t = u.onPort w fun _ => t.bus.port[w])
  ∧ ∀ (s : State) (w : Fin 11), s.regServed w 0x12 = true →
      let u := s.finishPosted w
      ((u.bus.port[w]).index = 0 → u.parCheck w 0 false = errOk →
        exec (.parDloRead w) s = .next ((u.onPort w fun p => { p with err := errOk, snapshot := some s.part.id }).drive
          (BitVec.setWidth 16 s.part.id)))
      ∧ (u.parCheck w (u.bus.port[w]).index.toNat false ≠ errOk → Answers (.parDloRead w) s fun t =>
          t.bus.d = 0 ∧ (t.bus.port[w]).err = u.parCheck w (u.bus.port[w]).index.toNat false
            ∧ Reports ((u.onPort w fun p => { p with err := (t.bus.port[w]).err, snapshot := some 0 }).drive 0) t)
      ∧ (∀ x : Par, (u.bus.port[w]).snapshot = some x → Answers (.parDhiRead w) s fun t =>
          t.bus.d = BitVec.setWidth 16 (x >>> 16)
            ∧ (t.bus.port[w]).index = (u.bus.port[w]).index + (if (u.bus.port[w]).autoInc then 1 else 0)
            ∧ t = (u.drive t.bus.d).onPort w fun _ => t.bus.port[w])

/-- A posted write that a check of R1046 refuses changes nothing but its code, with PAR_ERROR where it is enabled; one
that is admitted to a plain item (drng.cfg) stores its value. -/
def Obligations.PostedWritesComplete : Prop :=
  ∀ (s : State) (w : Fin 11) (op : PostedOp), (s.bus.port[w]).posted = some op →
    let u := s.onPort w fun p => { p with posted := (none : Option PostedOp), viSel := op.viSel }
    let sel := (s.bus.port[w]).viSel
    (∀ e : BitVec 4, e = u.parCheck w op.index.toNat true → e ≠ errOk → Answers (.parameterOpDone w) s fun t =>
      Reports (s.onPort w fun p => { p with posted := none, err := e }) t
      ∧ (s.parErrOn w = false → t = s.onPort w fun p => { p with posted := none, err := e }))
    ∧ (∀ r : ParRow, op.index = 0x3814 → Admitted u w 0x3814 op.value r →
        exec (.parameterOpDone w) s = .next ((s.setPar 0x3814 none (op.value &&& r.mask)).onPort w fun p => { p with
          posted := none, viSel := sel, err := errOk }))

/-- Writes of registers: the interrupt mask of a window, the DREQ routes of the hypervisor, locked and not, the
control of a parameter port; one of an offset outside the layout is counted, and one of a window that is not served
does nothing. A counted access counts, and HV_BUS_LAST keeps it; BUS_ERROR is raised at once, or 1 ms after the last
one. HV_BUS_ERR is cleared by its read. -/
def Obligations.RegisterWritesAndBusErrors : Prop :=
  (∀ (s : State) (x : Word), s.pwr.mgRunning = true →
     (∀ v : Fin 8, s.winServes v = true → s.pwr.mode ≠ .hold → exec (.registerWrite (viPort v) 5 x) s
         = .next (s.onEvq (viWin v) fun p => { p with mask := x &&& 0xC3FF }))
     ∧ (s.hvServes = true → s.pwr.mode ≠ .hold → s.bus.lock.getLsbD 1 = false →
         exec (.registerWrite 0 0x26 x) s = .next (s.onBus fun b => { b with dreqRoute := BitVec.setWidth 8 x }))
     ∧ (s.hvServes = true → s.pwr.mode ≠ .hold → s.bus.lock.getLsbD 1 = true →
         exec (.registerWrite 0 0x26 x) s = exec (.countedAccess 0 0x26 true 5) s)
     ∧ (exec (.registerWrite 0 0x0B x) s = .next (s.onPort 0 fun p => { p with
         autoInc := x.getLsbD 2, viSel := BitVec.setWidth 4 (x >>> 8) }))
     ∧ (∀ (w : Fin 11) (off : BitVec 6), definedOffset w (byteOff off) = false →
         exec (.registerWrite w off x) s = .next (s.countAccess w.val off true 3))
     ∧ (∀ v : Fin 8, s.vi[v].state ≠ .enabled → exec (.registerWrite (viPort v) 5 x) s = .next s))
  ∧ (∀ (s : State) (w : BitVec 5) (off : BitVec 6) (write : Bool) (kind : BitVec 3), s.pwr.mgRunning = true →
      s.pwr.mode ≠ .hold → kind ≠ 0 → kind ≠ 7 → Answers (.countedAccess w off write kind) s fun t =>
        t.bus.err = satInc s.bus.err ∧ t.bus.last.toNat = w.toNat + 32 * off.toNat + 2048 * write.toNat + 4096 * kind.toNat
        ∧ t.bus.errRecent = true ∧ (write = false → t.bus.d = 0) ∧ (write = true → t.bus.d = s.bus.d)
        ∧ Reports (s.onBus fun b => { b with
            err := t.bus.err, last := t.bus.last, errRecent := true, errMore := s.bus.errRecent, d := t.bus.d }) t)
    ∧ (∀ s : State, s.bus.errRecent = true → s.bus.errMore = true → Answers .busErrorRepeat s fun t =>
        Reports (s.onBus fun b => { b with errMore := false }) t)
    ∧ (∀ s : State, s.bus.errMore = false → exec .busErrorRepeat s = .next (s.onBus fun b => { b with errRecent := false }))
    ∧ (∀ s : State, s.hvServes = true →
        exec .hvBusErrRead s = .next (s.onBus fun b => { b with d := s.bus.err, err := 0 }))

/-- HV_LOCK takes lock bits with its key alone, and only sets them; VW_TIME_LO drives device time and latches its upper
half; a write of sys.time_set sets device time with what was staged. -/
def Obligations.LocksAndDeviceTime : Prop :=
  (∀ (s : State) (v : Word), s.hvServes = true → v.toNat / 256 = 0xA5 →
    exec (.lockWrite v) s = .next ((s.finishPosted 0).onBus fun b => { b with lock := b.lock ||| BitVec.setWidth 8 v }))
  ∧ (∀ (s : State) (v : Word), s.hvServes = true → v.toNat / 256 ≠ 0xA5 →
      exec (.lockWrite v) s = .next ((s.finishPosted 0).countAccess 0 0x23 true 6))
  ∧ (∀ (s : State) (w : Fin 9), s.regServed (w.castLE (by omega)) 0x30 = true → exec (.timeLoRead w) s
      = .next ((s.drive (BitVec.setWidth 16 s.ao.time)).onPort (w.castLE (by omega)) fun p => { p with
          timeHi := BitVec.setWidth 16 (s.ao.time >>> 16) }))
  ∧ (∀ (s u : State) (v x : Par) (r : ParRow), Takes s 0 0x13 v r u x → Answers (.timeSet v) s fun t =>
      t.ao.time.toNat = u.bus.timeStage.toNat * 2 ^ 32 + x.toNat ∧ t.ao.timeValid = true ∧ t.ao.timeSource = 1
      ∧ Reports (wrote 0 0x13 errOk ((u.onAo fun a => { a with
          time := t.ao.time, timeValid := true, timeSource := 1, slewLeft := 0, slewHold := false }).onBus fun b => { b
            with timeStage := 0 })) t)

/-! ### Data ports and tenancy (03_host_bus, 04_tenancy) -/

/-- VW_DATA_CTRL: EN set starts a stream from the stream address, a read stream at an even one and a write stream at a
band below the VI's limit, and a start from elsewhere is refused with ADDR_ERR; EN cleared ends the stream, keeping
its address; FLUSH asks for the open band to be handed over behind what the FIFO holds, after the hand-overs that wait
already. The heads follow what the streams have still to bring. -/
def Obligations.DataStreamsStartAndStop : Prop :=
  ∀ (s : State) (v : Fin 8) (ctrl : Word), s.winServes v = true →
    let d := s.vi[v].data
    (d.en = false → d.closing = [] → ctrl.getLsbD 1 = true → d.addr % 2 = 0 → ∃ e : DataPort,
      e.en = true ∧ e.dir = true ∧ e.swap = ctrl.getLsbD 3 ∧ e.swapNow = ctrl.getLsbD 3 ∧ e.addr = d.at ∧ e.start = d.at
        ∧ e.fetch = d.at ∧ e.fifo = [] ∧ e.pinned = none
        ∧ exec (.dataStreamStart v ctrl) s = .next (s.onData v fun _ => e).refreshHeads)
    ∧ (d.en = false → d.closing = [] → ctrl.getLsbD 1 = false → d.at % 16384 = 0 → d.at < s.writeLimit v →
        BitVec.setWidth 2 (s.parB v 0xD00) = 0 → ∃ (e : DataPort) (g : Ingest),
      e.en = true ∧ e.dir = false ∧ e.addr = d.at ∧ e.start = d.at ∧ e.fifo = [] ∧ e.swapNow = ctrl.getLsbD 3
        ∧ g.mode = 0 ∧ g.out = d.at ∧ g.rects = s.protectRects v ∧ g.queued = []
        ∧ exec (.dataStreamStart v ctrl) s
          = .next ((s.onData v fun _ => e).onIngest v fun _ => g).refreshHeads)
    ∧ (d.en = false → ctrl.getLsbD 1 = true → d.addr % 2 = 1 → ∃ e : DataPort, e.en = false ∧ e.addrErr = true
        ∧ e.addr = d.addr ∧ exec (.dataStreamStart v ctrl) s = .next (s.onData v fun _ => e).refreshHeads)
    ∧ (d.en = true → d.dir = true → d.pinned = none → ∃ e : DataPort, e.en = false ∧ e.fifo = [] ∧ e.addr = d.addr
        ∧ exec (.dataStreamStop v ctrl) s = .next (s.onData v fun _ => e).refreshHeads)
    ∧ (d.en = true → d.dir = false → ∃ e : DataPort, e.en = false ∧ e.addr = d.addr ∧ e.fifo = d.fifo
        ∧ e.closing = d.closing ++ [d.fifo.length]
        ∧ exec (.dataStreamStop v ctrl) s = .next ((s.onData v fun _ => e).drain v).refreshHeads)
    ∧ (d.en = true → d.dir = false → (d.clearBits (ctrl ||| 4)).changes (ctrl ||| 4) = false → ctrl.getLsbD 0 = true →
        exec (.flush v ctrl) s = .next ((s.onData v fun d => { d.clearBits (ctrl ||| 4) with
          closing := d.closing ++ [d.fifo.length] }).drain v).refreshHeads)

/-- The data port: a halfword written is put behind those in the FIFO and the FIFO drains, or is held while the FIFO
is full; one read is the FIFO's oldest, or the read is held while there is none; a held access is taken up, or given
up with LOST or UNDERRUN. A window that is not served drives 0. -/
def Obligations.DataPortAccesses : Prop :=
  ∀ (s : State) (v : Fin 8),
    let d := s.vi[v].data
    (∀ x : Word, s.winServes v = true → d.en = true → d.dir = false → d.fifo.length < 256 → s.writeAt v < s.writeLimit v →
      exec (.dataPortWrite v x) s
        = .next ((s.onData v fun d => { d with fifo := d.fifo ++ [x], addr := d.addr + 2 }).drain v))
    ∧ (∀ x : Word, s.winServes v = true → d.en = true → d.dir = false → 256 ≤ d.fifo.length →
        exec (.dataPortWrite v x) s = .next (s.onData v fun d => { d with heldWrite := some x }))
    ∧ (s.winServes v = false → s.pwr.mgRunning = true → exec (.dataPortRead v) s = .next (s.drive 0))
    ∧ (∀ (x : Word) (l : List Word), s.winServes v = true → d.dir = true → d.fifo = x :: l → d.closing = [] →
        exec (.dataPortRead v) s
          = .next ((s.onData v fun d => { d with fifo := l, addr := d.addr + 2, heldRead := false }).drive x))
    ∧ (s.winServes v = true → d.en = true → d.dir = true → d.fifo = [] →
        exec (.dataPortRead v) s = .next (s.onData v fun d => { d with heldRead := true }))
    ∧ ((s.drain v).vi[v].data.heldWrite = none → exec (.fifoPlaceFree v) s = .next (s.drain v))
    ∧ (∀ x : Word, (s.drain v).vi[v].data.heldWrite = some x → (s.drain v).vi[v].data.fifo.length < 256 →
        (s.drain v).writeAt v < (s.drain v).writeLimit v → exec (.fifoPlaceFree v) s
          = .next (((s.drain v).onData v fun d => { d with
              heldWrite := none, fifo := d.fifo ++ [x], addr := d.addr + 2 }).drain v))
    ∧ (d.heldWrite ≠ none → Answers (.dataPortTimeout v) s fun t =>
        Reports (s.onData v fun d => { d with heldWrite := none, lost := true }) t)
    ∧ (d.heldWrite = none → d.heldRead = true → Answers (.dataPortTimeout v) s fun t =>
        Reports ((s.onData v fun d => { d with heldRead := false, underrun := true }).drive 0) t)

/-- A read stream fills its FIFO from the page it has pinned, each halfword from two bytes of raster in the order that
SWAP gave at its start; a page with no frame is asked for by a fault. -/
def Obligations.ReadStreamsFill : Prop :=
  ∀ (s : State) (v : Fin 8),
    let d := s.vi[v].data
    let p := d.fetch / 4096
    let n := 256 - d.fifo.length
    d.en = true → d.dir = true → d.fifo.length < 256 → d.fetch < 0x4000000 →
    (d.pinned = some p → d.heldRead = false → 2 * n < 4096 - d.fetch % 4096 → Answers (.readStreamFill v) s fun t =>
      t.vi[v].data.fetch = d.fetch + 2 * n ∧ t.vi[v].data.fifo.length = 256
        ∧ (∀ k < n, (t.vi[v].data.fifo[d.fifo.length + k]?).map BitVec.toNat = some (
            let a := (s.rasterByte v streamPin (d.fetch + 2 * k)).toNat
            let b := (s.rasterByte v streamPin (d.fetch + 2 * k + 1)).toNat
            if d.swapNow then 256 * b + a else 256 * a + b))
        ∧ t = s.onData v fun _ => t.vi[v].data)
    ∧ (d.pinned = none → s.frameOfPage v p = none → s.bandLost v (p / 4) = false → s.band v (p / 4) ≠ none →
        s.silt.faults = [] → exec (.readStreamFill v) s
          = .next ((s.onSilt fun x => { x with faults := [{ vi := v, page := p, cls := .read, raisedAt := s.now }] }).onVi
              v fun y => { y with faults := y.faults + 1 }))

/-- An event that arrives at a queue with fewer than 63 entries is stored as the newest; at 63 an EVQ_OVERFLOW with
payload 1 is stored in its place, and at 64 the payload of that overflow counts on; in each case the pending bit of its
class is set (R245 to R248). -/
def Obligations.EventsQueueAndOverflow : Prop :=
  ∀ (p : EventPort) (e : Event),
    (p.push e).pend = p.pend ||| BitVec.ofNat 16 (2 ^ eventBit e.code) ||| (if p.queue.length = 63 then 0x4000 else 0)
    ∧ (p.queue.length < 63 → (p.push e).queue = p.queue ++ [e])
    ∧ (p.queue.length = 63 → (p.push e).queue = p.queue ++ [⟨0x01, overflowBit e.code, 1⟩])
    ∧ (∀ (l : List Event) (o : Event), 64 ≤ p.queue.length → p.queue = l ++ [o] →
        (p.push e).queue = l ++ [{ o with aux := o.aux ||| overflowBit e.code, payload := satInc o.payload }])
    ∧ (p.push e).mask = p.mask ∧ (p.push e).data = p.data

/-- The oldest event is popped with its payload latched, an empty queue pops as zeros, and pending bits are cleared by
writing 1. -/
def Obligations.EventRegisters : Prop :=
  ∀ (s : State) (w : Fin 9), s.evqServes w = true →
    (∀ (e : Event) (l : List Event), (s.bus.evq[w]).queue = e :: l → exec (.evqPop w) s
      = .next ((s.onEvq w fun p => { p with queue := l, data := e.payload }).drive e.high))
    ∧ ((s.bus.evq[w]).queue = [] → exec (.evqPop w) s = .next ((s.onEvq w fun p => { p with data := 0 }).drive 0))
    ∧ ∀ v : Word, Answers (.irqPendWrite w v) s fun t =>
        (∀ n < 16, (t.bus.evq[w]).pend.getLsbD n
          = ((s.bus.evq[w]).pend.getLsbD n && !(v.getLsbD n && (0x43FF : Word).getLsbD n)))
        ∧ t = s.onEvq w fun p => { p with pend := (t.bus.evq[w]).pend }

/-- The hypervisor asks for resets of the ENABLED VIs whose bits it writes, a tenant for its own with the key; a
request while one is owed changes nothing. A reset leaves the VI RESETTING with its registers, its queue, its jobs, its
bands and its ingest at their reset values; its end enables the VI again, or disables one that retires. -/
def Obligations.VisAreReset : Prop :=
  (∀ (s : State) (x : Word), s.hvServes = true → Answers (.hvViReset x) s fun t => t = { s with vi := t.vi }
    ∧ ∀ i : Fin 8, t.vi[i] = if x.getLsbD (i.val + 1) ∧ s.vi[i].state = .enabled ∧ s.vi[i].resetReq = none
        then { s.vi[i] with resetReq := some .hypervisor } else s.vi[i])
  ∧ (∀ (s : State) (v : Fin 8) (x : Word), s.winServes v = true →
      let u := s.finishPosted (viPort v)
      x.toNat / 256 = 0x5A → x.getLsbD 0 = true → u.vi[v].state = .enabled → u.vi[v].resetReq = none →
      exec (.vwReset v x) s = .next (u.onVi v fun y => { y with resetReq := some .tenant }))
  ∧ (∀ (s : State) (v : Fin 8) (src : ResetSource), s.resetsProceed = true → s.vi[v].resetReq = some src →
      s.vi[v].state = .enabled → (s.bus.port[viPort v]).posted = none → Answers (.viResetTakesEffect v) s fun t =>
        t.vi[v].state = .resetting ∧ t.vi[v].resetReq = none ∧ t.vi[v].resetSource = src
        ∧ t.vi[v].contract = s.vi[v].contract ∧ t.vi[v].data = {} ∧ (t.bus.evq[viWin v]) = {}
        ∧ t.loam.jobs[v] = Vector.replicate 16 {} ∧ t.marl.ingest[v] = {} ∧ t.legal.mirror = s.legal.mirror
        ∧ t.ao.time = s.ao.time ∧ t.mgmt.log = s.mgmt.log)
  ∧ (∀ (s : State) (v : Fin 8), s.resetsProceed = true → s.vi[v].state = .resetting →
      Answers (.viResetDone v) s fun t => t.vi[v].state = .enabled ∧ t.vi[v].resetDone = true
        ∧ t.vi[v].resetCount = s.vi[v].resetCount + 1
        ∧ Reports ((s.freeScrubbed v).onVi v fun y => { y with
            state := .enabled, resetDone := true, resetCount := y.resetCount + 1 }) t)
  ∧ (∀ (s : State) (v : Fin 8), s.resetsProceed = true → s.vi[v].state = .retiring → s.vi[v].resetReq = none →
      Answers (.viResetDone v) s fun t => t.vi[v].state = .disabled ∧ t.vi[v].enBit = false
        ∧ t.vi[v].resetSource = .retire
        ∧ Reports ((s.freeScrubbed v).onVi v fun y => { y with
            state := .disabled, enBit := false, resetDone := true, resetSource := .retire
            resetCount := y.resetCount + 1 }) t)

/-- Enabling a VI whose contract and state pass the checks makes it ENABLED, and VI_ENABLED is raised; one that fails
a check keeps its state, and its number and the check are kept in HV_VI_ERR. Clearing an enable bit retires an ENABLED
VI: a reset with source retire is owed. The legal role moves where HV_LEGAL_ROLE is written with another VI or with
none, while its lock is open; the same holder again changes nothing. -/
def Obligations.VisAndTheLegalRole : Prop :=
  (∀ (s : State) (v : Fin 8), s.hvServes = true →
     (s.vi[v].enQueue = [true] → s.enableCheck1 v = 0 → Answers (.viEnable v) s fun t =>
       t.vi[v].state = .enabled ∧ t.vi[v].enBit = true ∧ t.vi[v].enQueue = []
         ∧ Reports ((s.onVi v fun y => { y with enQueue := [] }).accrue.onVi v fun y => { y with
             state := .enabled, enBit := true }) t)
     ∧ (s.vi[v].enQueue = [true] → s.enableCheck1 v ≠ 0 → Answers (.viEnable v) s fun t =>
         t.vi[v].state = s.vi[v].state ∧ t.bus.viErr.toNat = v.val + 1 + 16 * (s.enableCheck1 v).toNat
           ∧ Reports ((s.onVi v fun y => { y with enQueue := [], enBit := false }).onBus fun b => { b with
               viErr := t.bus.viErr }) t)
     ∧ (s.vi[v].state = .enabled → s.vi[v].enQueue = [] → exec (.viRetire v) s
         = .next (s.onVi v fun y => { y with state := .retiring, resetReq := some .retire })))
  ∧ ∀ (s : State) (x : Word), s.hvServes = true →
      let n : BitVec 4 := BitVec.setWidth 4 x
      (s.bus.lock.getLsbD 6 = false → n.toNat ≤ 8 → s.bus.legalRole = 0 → n ≠ 0 → Answers (.legalRoleWrite x) s fun t =>
        t.bus.legalRole = n ∧ t.paper = s.paper ∧ t.island = s.island ∧ t.legal = s.legal ∧ t.pwr = s.pwr ∧ t.link = s.link)
      ∧ (s.bus.lock.getLsbD 6 = false → n = s.bus.legalRole → exec (.legalRoleWrite x) s = .next s)
      ∧ (s.bus.lock.getLsbD 6 = true → exec (.legalRoleWrite x) s = .next (s.countAccess 0 0x1F true 5))

/-! ### Jobs and scheduling (05_loam) -/

/-- A tenant allocates a free handle, submits a descriptor that passes the checks, and releases or cancels one: an
accepted job is READY in its order, in the chain that the submission before it on its head left open or, with CONT =
1, in one of its own; a refused one stays as it was and is counted, a released or cancelled FILLED descriptor is FREE,
and a READY job that is cancelled ends CANCELLED. A VI that is not ENABLED gets no handle. -/
def Obligations.TenantsHandleJobs : Prop :=
  ∀ (s : State) (v : Fin 8),
    (∀ i : Handle, s.pwr.mgRunning = true → s.pwr.mode ≠ .hold → s.vi[v].state = .enabled → s.freeHandle v = some i →
      s.reservedJobs v < s.freeJobs → exec (.jobAlloc v) s
        = .next ((s.onJob ⟨v, i⟩ fun _ => { state := .filled }).drive (0x8000 ||| BitVec.ofNat 16 i.val)))
    ∧ (s.pwr.mgRunning = true → s.pwr.mode ≠ .hold → s.vi[v].state = .enabled → s.freeHandle v = none →
        exec (.jobAlloc v) s = .next (s.drive 0x0010))
    ∧ (s.pwr.mgRunning = true → s.pwr.mode ≠ .hold → s.vi[v].state = .disabled ∨ s.vi[v].state = .retiring →
        exec (.jobAlloc v) s = .next (s.drive 0x0010))
    ∧ (s.pwr.mgRunning = true → s.pwr.mode = .hold ∨ s.vi[v].state = .resetting →
        exec (.jobAlloc v) s = .next (s.drive 0))
    ∧ (∀ (x : Word) (i : Handle), s.winServes v = true → i.val = x.toNat % 16 →
        let u := s.finishPosted (viPort v)
        u.winServes v = true →
        (u.submitCheck v i = 0 → (u.loam.jobs[v][i]).isFence = false →
          ((u.loam.jobs[v][i]).isLegal = false ∨ s.part ≠ .tl4816n) → Answers (.jobSubmit v x) s fun t =>
            t.vi[v].submitResult = some (0, BitVec.ofNat 4 i.val) ∧ t.vi[v].accepted = u.vi[v].accepted + 1
              ∧ (t.loam.jobs[v][i]).state = .ready ∧ (t.loam.jobs[v][i]).order = u.loam.nextOrder
              ∧ t.loam.nextOrder = u.loam.nextOrder + 1 ∧ t.paper = u.paper ∧ t.silt = u.silt ∧ t.bus = u.bus
              ∧ let j := u.loam.jobs[v][i]
                let c := match u.vi[v].openChain[j.head] with
                  | some c => some c
                  | none => if j.cont then some u.loam.nextOrder else none
                (j.guest = none → (t.loam.jobs[v][i]).chain = c ∧ (t.loam.jobs[v][i]).broken = false
                  ∧ t.vi[v].openChain[j.head] = if j.cont then c else none))
        ∧ (∀ b : Byte, b = u.submitCheck v i → b ≠ 0 → Answers (.jobSubmit v x) s fun t =>
            t.vi[v].submitResult = some (b, BitVec.ofNat 4 i.val) ∧ t.vi[v].refused = u.vi[v].refused + 1
              ∧ (t.loam.jobs[v][i]).state = (u.loam.jobs[v][i]).state ∧ t.paper = u.paper ∧ t.bus = u.bus))
    ∧ (∀ (x : Word) (i : Handle), s.winServes v = true → i.val = x.toNat % 16 →
        ((s.loam.jobs[v][i]).state.terminal = true ∨ (s.loam.jobs[v][i]).state = .filled) →
        exec (.release v x) s = .next (s.onJob ⟨v, i⟩ fun _ => {}))
    ∧ (∀ (x : Word) (i : Handle), s.winServes v = true → i.val = x.toNat % 16 → (s.loam.jobs[v][i]).remote = none →
        (s.loam.jobs[v][i]).state = .filled → Answers (.cancel v x) s fun t =>
          t.loam.jobs[v][i] = {} ∧ t.paper = s.paper ∧ t.silt = s.silt ∧ t.bus = s.bus)
    ∧ (∀ (x : Word) (i : Handle), s.winServes v = true → i.val = x.toNat % 16 → (s.loam.jobs[v][i]).remote = none →
        (s.loam.jobs[v][i]).state = .ready → (s.loam.jobs[v][i]).autofree = false → Answers (.cancel v x) s fun t =>
          (t.loam.jobs[v][i]).state = .cancelled ∧ bits (t.loam.jobs[v][i]).word[7] 16 8 = 2 ∧ t.paper = s.paper)
    ∧ (∀ x : Word, s.winServes v = true →
        (∀ i : Handle, (s.loam.jobs[v][i]).remote = none ∧ (s.loam.jobs[v][i]).state ∈ [.filled, .free]) →
        Answers (.cancelAll v x) s fun t =>
          (∀ i : Handle, (t.loam.jobs[v][i]).state = .free) ∧ t.paper = s.paper ∧ t.silt = s.silt ∧ t.bus = s.bus)

/-- A free head takes the job that is selected for it, a page to be purged first; what a purge leaves is reported. The
capacity of a present head follows its target by the slew limit within its bounds, rests where it is frozen, and is 0
out of service. The station offers a job that a peer suits better, by a frame with a migration number of its own. -/
def Obligations.HeadsTakeJobsAndCapacity : Prop :=
  ((∀ (s : State) (h : Fin 4),
     let u := s.refreshEligible
     let l := u.loam.head[h]
     u.dispatches = true → l.running = none → l.reserved = none → l.purging = false → u.paper.run[h] = none →
     (u.selectJob h = none → exec (.jobSelect h) s = .next u)
     ∧ (∀ (j : JobRef) (b : Bool), u.selectJob h = some (j, b) → l.purge = none → u.misfits (u.job j) = false →
         (u.job j).isLegal = false → (u.job j).head = h →
         ((u.job j).prints = true → u.tofOn h = false → exec (.jobSelect h) s
           = .next ((((u.dispatchJob j b).handOver h).onRun h fun _ => some (newRun j .print
               u.paper.axis[u.jobAxis (u.job j)].pos.toInt none)).refreshHead h))
         ∧ ((u.job j).prints = false → (u.job j).kind = 3 → exec (.jobSelect h) s
             = .next (((u.dispatchJob j b).handOver h).onRun h fun _ => some (newRun j .cut 0 none)))
         ∧ ((u.job j).kind = 2 ∨ (u.job j).kind = 4 →
             let a := u.jobAxis (u.job j)
             let d := u.conv a ((u.job j).distance : Nat)
             exec (.jobSelect h) s = .next ((((u.dispatchJob j b).handOver h).onRun h fun _ =>
               some (newRun j .motion u.paper.axis[a].pos.toInt none)).requestMove a {
                 target := u.paper.axis[a].pos.toInt
                 dist := some (if (u.job j).kind = 2 ∧ (u.job j).isReverse then - d else d)
                 speed := ((u.job j).speed : Rat), acc := u.aPar a 3, owner := .job h, lineLocked := false })))
     ∧ (∀ (j : JobRef × Bool) (p : Purge), u.selectJob h = some j → l.purge = some p → p.empty = true →
         u.paper.axis[u.paperAxis h].state = .idle → u.paper.axis[u.paperAxis h].queued = none →
         exec (.jobSelect h) s = .next (u.onLoamHead h fun l => { l with
           purging := true, purgeCut := true, purgeFrom := u.paper.axis[u.paperAxis h].pos.toInt })))
   ∧ ∀ (s : State) (h : Fin 4) (p : Purge), s.loam.head[h].purge = some p → s.loam.head[h].purging = true →
       s.loam.head[h].purgeCut = true → s.paper.axis[s.paperAxis h].move = none →
       s.paper.axis[s.paperAxis h].atRest = true → Answers (.headPurged h) s fun t =>
         Reports (s.onLoamHead h fun l => { l with purge := none, purging := false, purgeCut := false }) t)
  ∧ (∀ s : State, s.pwr.islandsRun = true → Answers .capacityUpdate s fun t =>
      (∀ h : Fin 4, s.headPresent h = true →
        let cur : Int := s.loam.head[h].cap
        let lo : Int := s.parN (0x408 + h.val)
        let hi : Int := s.parN (0x40C + h.val)
        t.loam.head[h].cap = if s.paper.head[h].state ≠ .inService then 0
          else if s.frozen (0x0C + h.val) then (limitTo cur lo hi).toNat
          else (limitTo (slewTo cur (s.capTarget h) (s.rNom / 10 : Nat)) lo hi).toNat)
      ∧ t.paper = s.paper ∧ t.silt = s.silt ∧ t.island = s.island ∧ t.pwr = s.pwr)
    ∧ (∀ s : State, s.dispatches = false ∨ s.link.live = false ∨ s.ryEn = false →
        exec .migrationCheck s = .next s.trackMargins)
    ∧ ∀ s : State, s.dispatches = true → s.link.live = true → s.ryEn = true →
        let u := s.trackMargins
        (u.offerChoice = none → exec .migrationCheck s = .next u)
        ∧ (∀ (j : JobRef) (n : Fin 16) (k : Fin 4), u.offerChoice = some (j, n, k) → u.remoteJobs.length < 8 →
            (u.remoteJobs.all fun e => e.2.accepted) = true → u.link.room = true → Answers .migrationCheck s fun t =>
              ((t.job j).remote.map fun m => (m.migId, m.peer, m.peerHead, m.accepted))
                  = some (u.link.nextMig, n, k, false)
                ∧ (t.job j).state = .dispatched ∧ t.link.nextMig = u.link.nextMig + 1
                ∧ t.paper = s.paper ∧ t.island = s.island ∧ t.bus = s.bus)

/-! ### Raster memory and ingest (06_silt, 07_marl) -/

/-- DISCARD drops the blocks and the bands of its range, and refuses one past the last band; ARB_APPLY takes the slot
table with its burst limits for the next position 0, and refuses one with too few entries of the background or with a
reserved owner. At position 0 a waiting slot table comes into force; the first fault that can be served has its band
decoded; the page decoded next is kept and the decode goes on to the last page asked for; a band that changed
meanwhile ends its decode, and the page of a VI that has been reset is completed and freed; a decompressor that the
arbiter never serves does nothing; and a VI above its quota gives back an unreferenced frame. -/
def Obligations.RasterEngines : Prop :=
  (∀ (s u : State) (w : Fin 11) (v x : Par) (r : ParRow),
     (∀ y : Fin 8, Takes s w 0x906 v r u x → r.banked = true → u.portVi w = some y →
       let n := bits x 16 12 + 1
       (bits x 0 12 + n ≤ 4096 → exec (.discard w v) s = .next (wrote w 0x906 0
         (((List.range n).foldl (fun (q : State) k => (q.discardBlock y (bits x 0 12 + k)).dropBand y (bits x 0 12 + k))
           u).drainAll.refreshHeads)))
       ∧ (4096 < bits x 0 12 + n → Answers (.discard w v) s fun t => Reports (wrote w 0x906 4 u) t))
     ∧ (Takes s w 0x810 (withBit v 0) r u x → bit x 0 = true →
       let bad := ownedBy u.slotTable 7 < 4 ∨ (u.slotTable.toList.any fun e => 10 ≤ e.toNat && e.toNat ≤ 14) = true
       (bad → Answers (.arbApply w v) s fun t =>
         Reports (wrote w 0x810 4 (u.onSilt fun y =>
           let a := { y.arb with refused := true }
           { y with arb := a })) t)
       ∧ (¬bad → exec (.arbApply w v) s = .next (wrote w 0x810 0 (u.onSilt fun y =>
           let a := { y.arb with refused := false, pending := some (u.slotTable, u.burstTable) }
           { y with arb := a })))))
  ∧ (∀ (s : State) (p : Vector (BitVec 4) 64 × Vector Nat 10), s.silt.arb.pending = some p → Answers .tableCommit s fun t =>
      t.silt.arb.table = p.1 ∧ t.silt.arb.burst = p.2 ∧ t.silt.arb.pending = none ∧ t.silt.arb.clock % 64 = 1
        ∧ s.silt.arb.clock < t.silt.arb.clock ∧ t.silt.arb.clock ≤ s.silt.arb.clock + 64
        ∧ Reports (s.onSilt fun x => { x with arb := t.silt.arb }) t)
    ∧ (∀ (s : State) (f : PageFault) (b : Band), s.silt.decode = none → s.pwr.islandsRun = true → s.arbServes 6 = true →
        s.pruneFaults.firstFault = some f → s.pruneFaults.band f.vi (f.page / 4) = some b →
        exec .bandDecodeStart s = .next (s.pruneFaults.onSilt fun x => { x with decode := some {
          vi := f.vi, band := f.page / 4, last := f.page % 4, next := 0, chunks := b.chunks, external := b.external } }))
    ∧ (∀ s : State, s.arbServes 6 = false → exec .bandDecodeStart s = .next s ∧ exec .faultResolved s = .next s)
    ∧ (∀ (s : State) (d : Decode) (l : List Byte), s.silt.decode = some d → s.arbServes 6 = true → d.freed = some l →
        let u := s.onSilt fun x => { x with decode := none }
        exec .faultResolved s = .next (match decodePage l d.band d.next with
          | .ok _ => u
          | .error c => u.raiseDecodeFail d.vi d.band c))
    ∧ (∀ (s : State) (d : Decode) (b : Band), s.silt.decode = some d → s.arbServes 6 = true → d.freed = none →
        s.band d.vi d.band = some b →
        (b.chunks ≠ d.chunks → exec .faultResolved s = .next (s.onSilt fun x => { x with decode := none }))
        ∧ (b.chunks = d.chunks → b.external = d.external → b.lost = false → exec .faultResolved s
            = .next ((match decodePage (s.blockBytes b) d.band d.next with
              | .ok l => (s.keepPage d l).onSilt fun x => { x with
                  decode := if d.next < d.last then some { d with next := d.next + 1 } else none }
              | .error e => s.decodeFails d.vi d.band e).refreshHeads)))
    ∧ (∀ (s : State) (v : Fin 8) (f : Nat), (∀ u : Fin 8, s.frameMax u < s.heldFrames u ↔ u = v) →
        ((s.clockOrder v).find? fun f => match sparseFind f s.silt.frames with
          | some x => !x.ref
          | none => false) = some f →
        exec .quotaReplace s = .next ((s.onVi v fun y => { y with hand := f }).freeFrame f))

/-- MARL_BLOCK_START and BLOCK_PLACED complete. While the compressor is free and the arbiter serves it, it takes the
oldest closed buffer of the VI whose turn it is, reserves 17 chunks for it and charges the VI; the coded block is
placed, its band readable from then on, and the buffer is free; a block to be discarded gives its chunks back, and is
judged as one that is placed. A busy compressor starts no other block, and one that the arbiter never serves does
nothing. -/
def Obligations.MarlCodesBlocks : Prop :=
  (∀ (s : State) (n : Nat), s.marl.coding = none → s.compressorRuns = true →
    let u := s.marlAccrue
    (u.marlNext (List.finRange 8) = none → exec (.marlBlockStart n) s = .next u)
    ∧ ∀ (v : Fin 8) (surplus : Bool) (i : Fin 8) (b : IngestBuffer) (l : List Nat) (w : State),
      u.marlNext (List.finRange 8) = some (v, surplus) → u.marl.oldestClosed v = some (i, b) →
      u.storeUsed v + u.storeReserved v + 17 ≤ (u.parB v 0x902).toNat → u.reserveChunks v 17 = some (l, w) →
      exec (.marlBlockStart n) s = .next ((w.onVi v fun x => { x with
        marlCredit := x.marlCredit - 16384 * 256 }).onMarl fun m => { m with
          coding := some { buffer := i, chunks := l, external := s.silt.external }
          surplusLast := if surplus then v else m.surplusLast
          waitMax := BitVec.ofNat 32 (max m.waitMax.toNat (sat n 4294967295)) }))
  ∧ (∀ (s : State) (n : Nat), s.marl.coding ≠ none ∨ s.compressorRuns = false → exec (.marlBlockStart n) s = .next s)
  ∧ (∀ (s : State) (k : Coding) (b : IngestBuffer) (ok : Bool), s.marl.coding = some k →
      s.marl.buffer[k.buffer] = some b → s.compressorRuns = true →
      let u := (s.onMarl fun m => { m with coding := none }).setBuffer k.buffer none
      let block := makeBlock b.speckle b.dither ok b.band b.bytes
      (b.discard = false →
        exec (.blockPlaced ok) s = .next ((u.placeBlock k b block).judgeBlock b block).drainAll.refreshHeads)
      ∧ (b.discard = true →
          exec (.blockPlaced ok) s = .next ((u.freeChunks k.external k.chunks).judgeBlock b block).drainAll.refreshHeads))
  ∧ (∀ (s : State) (ok : Bool), s.marl.coding = none ∨ s.compressorRuns = false → exec (.blockPlaced ok) s = .next s)

/-! ### Head ports and energy (08_head_ports, 09_dot_energy) -/

/-- head.cfg fits a head that is UNFITTED and unfits one that is OUT; head.ctrl enables an OUT head whose cause allows
it, refuses one that is not present, takes a POWERING head out again, and asks for a scan or gives one up. -/
def Obligations.HeadParameterWrites : Prop :=
  ∀ (s u : State) (w : Fin 11) (h : Fin 4) (v x : Par) (r : ParRow),
    (Takes s w (headAt h 0) v r u x → u.paper.head[h].state = .unfitted → bit x 0 = true →
      Answers (.headCfgWrite w h v) s fun t =>
        HeadGoes h .out (if u.paper.head[h].present then .manual else .notPresent) u t
          ∧ t.paper.energy[h] = { u.paper.energy[h] with seedNodes := true } ∧ t.parG (headAt h 0) = x)
    ∧ (Takes s w (headAt h 0) v r u x → u.paper.head[h].state = .out → bit x 0 = false →
        Answers (.headCfgWrite w h v) s fun t => HeadGoes h .unfitted .none u t ∧ t.parG (headAt h 0) = x)
    ∧ (Takes s w (headAt h 6) (withBit v 0) r u x → bit x 0 = true → bit x 1 = false → bit x 2 = false →
        u.paper.head[h].state = .out →
        (u.paper.head[h].cause ≠ .notPresent → u.paper.head[h].cause ≠ .hotplug → Answers (.headEnable w h v) s fun t =>
          HeadGoes h .powering .none u t ∧ t.paper.head[h].enable = true ∧ t.paper.head[h].retries = 0)
        ∧ (u.paper.head[h].cause = .hotplug → u.pwr.mode = .service → Answers (.headEnable w h v) s fun t =>
          HeadGoes h .powering .none u t ∧ t.paper.head[h].enable = true ∧ t.paper.head[h].retries = 0)
        ∧ (u.paper.head[h].cause = .notPresent ∨ (u.paper.head[h].cause = .hotplug ∧ u.pwr.mode ≠ .service) →
            exec (.headEnable w h v) s = .next (wrote w (headAt h 6) 0 (u.onHead h fun y => { y with
              enable := false, enableRefused := true }))))
    ∧ (Takes s w (headAt h 6) (v &&& 0xFFFFFFFE) r u x → bit x 1 = false → bit x 2 = false →
        u.paper.head[h].state = .powering → Answers (.headDisable w h v) s fun t =>
          HeadGoes h .out .manual u t ∧ t.paper.head[h].enable = false)
    ∧ (Takes s w (headAt h 6) (withBit v 1) r u x → bit x 0 = true → bit x 1 = true → bit x 2 = false →
        u.paper.head[h].state = .inService → exec (.scan w h v) s
          = .next (wrote w (headAt h 6) 0 (u.onHead h fun y => { y with scanReq := true })))
    ∧ (Takes s w (headAt h 6) (withBit v 2) r u x → bit x 0 = true → bit x 1 = false → bit x 2 = true →
        u.paper.head[h].state = .inService → exec (.scanAbort w h v) s
          = .next (wrote w (headAt h 6) 0 (u.onHead h fun y => { y with
              scanReq := false, scanDot := none, scanning := false })))

/-- A head with nothing on its path goes OUT for a trip of its supply's overcurrent comparator, for the second bad
reading in a row of its thermistor or its supply, and when it is unplugged; plugged in again it waits for service. A
head that fails its power-on readings goes OUT, one that passes them is scanned, and auto-retry powers an OUT head
again. A thermistor sample gives T_r, the first one after FITTED every node too; an implausible one leaves T_r. -/
def Obligations.HeadsGoOutAndReturn : Prop :=
  ∀ (s : State) (h : Fin 4), s.paper.run[h] = none →
    let x := s.paper.head[h]
    (x.state = .inService ∨ x.state = .powering → Answers (.overcurrentTrip h) s fun t =>
      HeadGoes h .out .overcurrent s t ∧ t.paper.head[h].ocCount = x.ocCount + 1)
    ∧ (∀ code : BitVec 12, s.headPresent h = true → s.pwr.islandsRun = true →
        let e := s.paper.energy[h]
        let t0 := if badThermistor code.toNat = true then e.tRef else s.ntc h code.toNat
        let taken (n : Nat) (t : State) : Prop := t.paper.energy[h].tRef = t0 ∧ t.paper.energy[h].seedNodes = false
          ∧ (∀ j : Fin 64, t.paper.energy[h].node[j] = if e.seedNodes then BitVec.ofInt 32 (t0 * 4096) else e.node[j])
          ∧ t.paper.energy[h].slots = e.slots ∧ (∀ k : Fin 4, k ≠ h → t.paper.energy[k] = s.paper.energy[k])
          ∧ Reports { (s.convMade 0 4 h.val) with paper := { s.paper with
              head := s.paper.head.set h { x with badTherm := n, tCode := code }, energy := t.paper.energy } } t
        (badThermistor code.toNat = true → x.state = .inService → 1 ≤ x.badTherm → Answers (.thermistorSample h code) s
          fun t => HeadGoes h .out .thermistor s t ∧ t.paper.energy[h].tRef = e.tRef
            ∧ (∀ k : Fin 4, k ≠ h → t.paper.energy[k] = s.paper.energy[k]))
        ∧ (badThermistor code.toNat = true → x.badTherm = 0 → Answers (.thermistorSample h code) s (taken 1))
        ∧ (badThermistor code.toNat = false → Answers (.thermistorSample h code) s (taken 0)))
    ∧ (∀ code : BitVec 12, x.state = .inService →
        (s.badSupplyMv h (s.supplyMv h code.toNat) = true → 1 ≤ x.badSupply →
          Answers (.supplySample h code) s fun t => HeadGoes h .out .supply s t)
        ∧ (s.badSupplyMv h (s.supplyMv h code.toNat) = false → Answers (.supplySample h code) s fun t =>
            Reports { s with paper := { s.paper with
              head := s.paper.head.set h { x with vMeas := s.supplyMv h code.toNat, badSupply := 0 }
              energy := s.paper.energy.set h { s.paper.energy[h] with envelope := t.paper.energy[h].envelope } } } t))
    ∧ (s.headPresent h = true → x.state = .out → x.cause = .notPresent → Answers (.hotplug h) s fun t =>
        HeadGoes h .out .hotplug s t ∧ t.paper.head[h].present = true)
    ∧ (x.state ≠ .unfitted → x.cause ≠ .notPresent → Answers (.presenceLoss h) s fun t =>
        HeadGoes h .out .notPresent s t ∧ t.paper.head[h].present = false)
    ∧ (∀ vCode tCode : BitVec 12, x.state = .powering → x.powerChecked = false →
        (s.pwr.pastStage 2 = true → exec (.poweringCheck h vCode tCode) s = .next s)
        ∧ (s.pwr.pastStage 2 = false → s.badSupplyMv h (s.supplyMv h vCode.toNat) = true →
            Answers (.poweringCheck h vCode tCode) s fun t => HeadGoes h .out .supply s t)
        ∧ (s.pwr.pastStage 2 = false → s.badSupplyMv h (s.supplyMv h vCode.toNat) = false →
            badThermistor tCode.toNat = false → Answers (.poweringCheck h vCode tCode) s fun t =>
              t.paper.energy[h].tRef = s.ntc h tCode.toNat ∧ t.paper.energy[h].slots = s.paper.energy[h].slots
              ∧ (∀ k : Fin 4, k ≠ h → t.paper.energy[k] = s.paper.energy[k])
              ∧ Reports { s with paper := { s.paper with
                  head := s.paper.head.set h { x with
                    vMeas := s.supplyMv h vCode.toNat, tCode := tCode, powerChecked := true, scanReq := true }
                  energy := t.paper.energy } } t))
    ∧ (x.state = .out → bit (s.hPar h 0) 10 = true → x.retries.toNat < 3 → x.cause = .supply →
        Answers (.autoRetry h) s fun t => HeadGoes h .powering .none s t ∧ t.paper.head[h].retries = x.retries + 1)

/-- A scan begins where the head is at rest, aborting the sensing passes in progress, takes its dots one by one,
passing over those excluded, and ends with its result kept: a POWERING head with few enough bad dots is then
IN_SERVICE. Lines: one whose place has come and whose dots are not too hot is burnt, and the run goes on to the next;
one too hot, or with the head's supply too low, pauses the run with the paper standing; each publishes t_base. The
second bad reading in a row of the supply takes the head OUT. Every head dot of a plane is shifted on one lane, masked
dots as 0, and the lanes not in use stay low. A line not yet fetched holds the run with cause LATE until it is
fetched. A line is fetched once its raster is there, by a fetcher that the arbiter serves. -/
def Obligations.ScansAndLines : Prop :=
  (∀ (s : State) (h : Fin 4),
     let x := s.paper.head[h]
     (∀ i : BitVec 17, x.state = .inService → s.headIdle h = true → x.scanReq = true → x.scanDot = none →
       x.scanning = false → s.paper.axis[s.paperAxis h].atRest = true → s.pwr.pastStage 2 = false →
       exec (.scanStart h i) s
         = .next (s.senseAborts.onHead h fun y => { y with
             scanning := true, scanReq := true, scanDot := s.scanFrom h 0, baseline := s.scanCurrent h i.toNat }))
     ∧ (∀ (v i : BitVec 17) (d n : Nat), x.scanning = true → x.scanDot = some d → s.scans h d = false →
         s.scanFrom h (d + 1) = some n →
         exec (.scanDot h v i) s = .next (s.onHead h fun y => { y with scanDot := some n }))
     ∧ (∀ (v i : BitVec 17) (d n : Nat), x.scanning = true → x.scanDot = some d → x.state = .powering →
         s.scans h d = true → s.scanFrom h (d + 1) = some n → bit (s.hPar h 0) 9 = false → Answers (.scanDot h v i) s fun t =>
           let mv := (v.toNat : Rat) / s.scanSamples h * (s.hPar h 8).toNat / 4096
           let di := s.scanCurrent h i.toNat - x.baseline
           (t.paper.head[h].dot d).cls
               = classify (bits (s.hPar h 0x11) 0 16) (bits (s.hPar h 0x11) 16 16) (mv / di) di (s.scanStep h)
             ∧ t.paper.head[h].scanDot = some n ∧ t.paper.head[h].scanning = true ∧ t.paper.head[h].state = .powering
             ∧ t.paper.axis = s.paper.axis ∧ t.par = s.par ∧ t.vi = s.vi)
     ∧ (∀ v i : BitVec 17, x.scanning = true → x.scanDot = none → x.state = .inService → Answers (.scanDot h v i) s fun t =>
         t.paper.head[h].scanDoneAt = some s.now ∧ t.paper.head[h].lastScan = x.dots ∧ t.paper.head[h].scanning = false
           ∧ t.paper.energy[h].iIdle = x.baseline ∧ t.paper.axis = s.paper.axis ∧ t.vi = s.vi)
     ∧ (∀ v i : BitVec 17, x.scanning = true → x.scanDot = none → x.state = .powering →
         x.badDots ≤ (s.hPar h 0x15).toNat → Answers (.scanDot h v i) s fun t => HeadGoes h .inService .none s t))
  ∧ (∀ (s : State) (h : Fin 4) (plane : Nat → Bool),
      (∀ lane i : Nat, s.lanes h ≤ lane → s.laneLevel h plane lane i = false)
      ∧ ∀ hd : Nat, hd < s.laneDots h * s.lanes h → ∃ lane i : Nat, lane < s.lanes h ∧ i < s.laneDots h
          ∧ s.laneLevel h plane lane i = (plane hd && !s.masked h hd))
  ∧ ∀ (s : State) (h : Fin 4) (r : Run), s.paper.run[h] = some r → s.mayPrint h r = true → r.held = false →
      let j := s.job r.job
      let hot := s.vEff h < 1000 ∨ s.tooHot h (s.planLine h r) (s.dotPower h) (s.baseTime h) = true
      let burnt (t : State) := ∃ q : Run, t.paper.run[h] = some q ∧ q.job = r.job ∧ q.line = r.line + 1
        ∧ q.burnt = r.burnt + 1 ∧ q.paused = false ∧ (t.paper.energy[h]).tBase = s.baseTime h
        ∧ t.island = s.island ∧ t.fuse = s.fuse
      let pauses (t : State) := t.paper.run[h] = some { r with paused := true }
        ∧ (t.paper.axis[s.paperAxis h]).standing = true ∧ (t.paper.energy[h]).pauses = (s.paper.energy[h]).pauses + 1
        ∧ (t.paper.energy[h]).tBase = s.baseTime h ∧ t.paper.head = s.paper.head ∧ t.island = s.island
      let bad (b : Bool) (v : BitVec 12) : Bool := b && s.badSupplyMv h (s.supplyMv h v.toNat)
      let goesOut (t : State) := t.paper.head[h].state = .out ∧ t.paper.head[h].cause = .supply ∧ t.paper.run[h] = none
      (∀ (o : Int) (b : Bool) (v i : BitVec 12), r.paused = false → r.origin = some o →
        s.linePos h o r.line ≤ s.paper.axis[s.paperAxis h].pos.toInt →
        (s.linesNeeded h r ≤ r.fetched.length → r.line + 1 < j.lines → ¬hot → bad b v = false →
          b = true ∨ s.paper.head[h].badSupply < 2 → Answers (.lineStart h b v i) s burnt)
        ∧ (s.linesNeeded h r ≤ r.fetched.length → ¬hot → bad b v = true → 1 ≤ s.paper.head[h].badSupply →
            Answers (.lineStart h b v i) s goesOut)
        ∧ (s.linesNeeded h r ≤ r.fetched.length → hot → Answers (.lineStart h b v i) s pauses)
        ∧ (r.fetched.length < s.linesNeeded h r → r.late = none → exec (.lineStart h b v i) s
            = .next (((s.onRun h fun _ => some { r with late := some s.now }).onAxis (s.paperAxis h) fun x => { x with
                standing := true }).raiseHold h r .late)))
      ∧ (∀ (b : Bool) (v i : BitVec 12), r.paused = true →
          (r.line + 1 < j.lines → ¬hot → bad b v = false → b = true ∨ s.paper.head[h].badSupply < 2 →
            Answers (.pauseCheck h b v i) s burnt)
          ∧ (¬hot → bad b v = true → 1 ≤ s.paper.head[h].badSupply → Answers (.pauseCheck h b v i) s goesOut)
          ∧ (hot → Answers (.pauseCheck h b v i) s pauses))
      ∧ (s.fetching r = true → r.fetchNext < j.lines → r.fetchNext ≤ r.line + 1 + s.ahead h →
          s.lineReady h r r.fetchNext = true → s.arbServes (fetcherOf h) = true →
          let r1 : Run := { r with
            fetchNext := r.fetchNext + 1, fetched := r.fetched ++ [s.rasterLine h r r.fetchNext] }
          (r.late = none → exec (.lineFetchDone h) s = .next (s.onRun h fun _ => some r1))
          ∧ (∀ since : Nat, r.late = some since → s.linesNeeded h r ≤ r1.fetched.length → exec (.lineFetchDone h) s
              = .next (((s.onRun h fun _ => some { r1 with late := none }).onAxis (s.paperAxis h) fun x => { x with
                  standing := false }).raiseResume h r since)))
      ∧ (s.arbServes (fetcherOf h) = false → exec (.lineFetchDone h) s = .next s)

/-- The thermal model of a fitted head steps each segment's node with the energy of the strobes past, and the derating
follows the model within its bounds, by the slew limit while it slews; the loop is held at a bound while a segment
would go beyond it, and as long as one stays at it. -/
def Obligations.EnergyModelSteps : Prop :=
  ∀ (s : State) (h : Fin 4), s.fitted h = true → s.pwr.islandsRun = true →
    let e := s.paper.energy[h]
    (∀ n : Nat, Answers (.modelTick h n) s fun t =>
      (∀ j : Fin 64, j.val < s.segments h → (t.paper.energy[h]).node[j]
        = nodeOf (nodeStep (s.ePar h 0x10) (s.ePar h 0x11) (s.ePar h 0x12) (slotEnergy (e.slots.take n) j.val)
            e.node[j].toInt e.tSub.toInt
            (if hj : j.val - 1 < 64 then e.node[j.val - 1].toInt else 0)
            (if hj : min (j.val + 1) (s.segments h - 1) < 64 then e.node[min (j.val + 1) (s.segments h - 1)].toInt else 0)))
      ∧ (t.paper.energy[h]).slots = e.slots.drop (min n e.slots.length)
      ∧ Reports { s with paper := { s.paper with energy := t.paper.energy } } t
      ∧ ∀ k : Fin 4, k ≠ h → t.paper.energy[k] = s.paper.energy[k])
    ∧ Answers (.deratingUpdate h) s fun t =>
        let b := s.derateBounds h
        (∀ j : Fin 64, j.val < s.segments h → ((t.paper.energy[h]).d[j] : Nat)
          = if s.frozen h.val then (limitTo e.d[j] b.1 b.2.1).toNat
            else if e.slewing then (limitTo (slewTo e.d[j] (s.dRaw h j) 16) b.1 b.2.1).toNat
            else (limitTo (s.dRaw h j) b.1 b.2.1).toNat)
        ∧ (s.frozen h.val = false →
            t.bus.clampedLo.getLsbD h.val = ((s.segmentsUsed h).any fun j => decide (s.derateStep h j < b.1)
              || (s.bus.clampedLo.getLsbD h.val && decide (limitTo (s.derateStep h j) b.1 b.2.1 = b.1)))
            ∧ t.bus.clampedHi.getLsbD h.val = ((s.segmentsUsed h).any fun j => decide (b.2.1 < s.derateStep h j)
              || (s.bus.clampedHi.getLsbD h.val && decide (limitTo (s.derateStep h j) b.1 b.2.1 = b.2.1))))
        ∧ (∀ j : Fin 64, s.segments h ≤ j.val → (t.paper.energy[h]).d[j] = e.d[j])
        ∧ (∀ k : Fin 4, k ≠ h → t.paper.energy[k] = s.paper.energy[k])
        ∧ t.paper.head = s.paper.head ∧ t.paper.axis = s.paper.axis ∧ t.vi = s.vi ∧ t.pwr = s.pwr

/-! ### Motion and the cutter (10_motion) -/

/-- axis.ctrl on a stepper axis that no job uses: ENABLE takes an OFF axis that passes its checks to IDLE with its
position as the new reverse reference, and is refused with the cause of the failed check; cleared, it takes the axis
OFF; HALT stops it hard into FAULT, CLEAR ends a FAULT whose cause is gone, CLEAR_UNCERTAIN and REV_REF do what they
say. A refused ENABLE and a CLEAR that changes nothing are told as transitions too. -/
def Obligations.AxisControl : Prop :=
  ∀ (s u : State) (w : Fin 11) (a : Fin 4) (v x : Par) (r : ParRow), ¬(a = 3 ∧ u.cutterMode = true) →
    (∀ h : Fin 4, u.paper.run[h] = none) → bits x 5 27 = 0 →
    let base := wrote w (axisCtrlAt a) 0 u
    let y := u.paper.axis[a]
    (Takes s w (axisCtrlAt a) (withBit v 0) r u x → bits x 0 5 = 1 → y.state = .off →
      (u.enableCheck a = none → Answers (.axisEnable w a v) s fun t =>
        AxisAlone a base t ∧ t.paper.axis[a].state = .idle ∧ t.paper.axis[a].enable = true
          ∧ t.paper.axis[a].pos = y.pos ∧ t.paper.axis[a].revHigh = y.pos ∧ t.paper.axis[a].uncertain = y.uncertain)
      ∧ (∀ c : BitVec 3, u.enableCheck a = some c → exec (.axisEnable w a v) s = .next (wrote w (axisCtrlAt a) 0
          ((u.onAxis a fun y => { y with enableRefused := true, refuseCause := c }).axisEvent a))))
    ∧ (Takes s w (axisCtrlAt a) (v &&& 0xFFFFFFFE) r u x → bits x 0 5 = 0 → y.state = .idle →
        Answers (.axisDisable w a v) s fun t => AxisAlone a base t ∧ t.paper.axis[a].state = .off
          ∧ t.paper.axis[a].enable = false ∧ t.paper.axis[a].pos = y.pos)
    ∧ (Takes s w (axisCtrlAt a) (withBit v 1) r u x → bits x 0 5 = 3 → y.state = .idle → y.move = none →
        Answers (.halt w a v) s fun t => AxisAlone a base t ∧ t.paper.axis[a].state = .fault
          ∧ t.paper.axis[a].stopCause = 1 ∧ t.paper.axis[a].faults = y.faults + 1 ∧ t.paper.axis[a].pos = y.pos)
    ∧ (Takes s w (axisCtrlAt a) (withBit v 2) r u x → bits x 0 5 = 5 → y.state = .fault → y.flt = false →
        Answers (.clear w a v) s fun t => AxisAlone a base t ∧ t.paper.axis[a].state = .idle
          ∧ t.paper.axis[a].pos = y.pos)
    ∧ (Takes s w (axisCtrlAt a) (withBit v 2) r u x → bits x 0 5 = 5 → y.state = .fault → y.flt = true →
        exec (.clear w a v) s = .next (wrote w (axisCtrlAt a) 0 (u.axisEvent a)))
    ∧ (Takes s w (axisCtrlAt a) (withBit v 3) r u x → bits x 0 5 = 9 → y.state ≠ .off →
        exec (.clearUncertain w a v) s
          = .next (wrote w (axisCtrlAt a) 0 (u.onAxis a fun y => { y with uncertain := false })))
    ∧ (Takes s w (axisCtrlAt a) (withBit v 4) r u x → bits x 0 5 = 17 → y.state ≠ .off → exec (.revRef w a v) s
        = .next (wrote w (axisCtrlAt a) 0 (u.onAxis a fun y => { y with revHigh := y.pos })))

/-- A microstep changes the position by one in the direction of the move, and at the target the move ends and the axis
is IDLE; every update a moving axis takes its next speed; the standstill current, the comparator, outside the blanking
time, and the off time set the choppers. A bridge is never given code 0b11, and in OFF it is disabled with both codes
0; fast decay drives against the polarity of the drive before it. -/
def Obligations.AxesStep : Prop :=
  ∀ (s : State) (a : Fin 4),
    let x := s.paper.axis[a]
    (∀ m : Move, s.mayStep a = true → x.move = some m → m.owner = .service → x.state = .moving →
      let p := if x.neg then x.pos - 1 else x.pos + 1
      Answers (.microstep a) s fun t => AxisAlone a s t ∧ t.paper.axis[a].pos = p
        ∧ t.paper.axis[a].revHigh.toInt = max x.revHigh.toInt p.toInt
        ∧ (p.toInt ≠ m.target → t.paper.axis[a].move = some m ∧ t.paper.axis[a].state = .moving)
        ∧ (p.toInt = m.target → x.queued = none → t.paper.axis[a].move = none ∧ t.paper.axis[a].state = .idle))
    ∧ (∀ m : Move, x.state = .moving → x.move = some m → x.pos.toInt ≠ m.target → x.standing = false →
        (∀ k : Fin 4, k ≠ a → s.paper.axis[k].inMotion = false) → Answers .motionUpdate s fun t =>
          AxisAlone a s t ∧ t.paper.axis[a] = { x with
            speed := (s.updateMove a x m).1
            move := some { m with
              speed := (s.moveNow a m).1, acc := (s.updateMove a x m).2.1, braking := (s.updateMove a x m).2.2 } })
    ∧ (x.state = .idle → s.aPar a 8 / 65536 ≠ 0 → Answers (.standstillReduction a) s fun t =>
        AxisAlone a s t ∧ t.paper.axis[a].reduced = true ∧ t.paper.axis[a].pos = x.pos)
    ∧ (∀ (ph : Bool), s.phaseLive a ph = true →
        let c := if ph then x.chopB else x.chopA
        let sets (d : Chop) : State := s.onAxis a fun y => if ph then { y with chopB := d } else { y with chopA := d }
        (∀ (neg turned : Bool) (since blank : Nat), c = .drive neg since blank turned →
          exec (.chopperTrip a ph) s
            = .next (if s.blanked since blank then s else sets (.offTime neg s.now (s.parG (0x2009 + 0x80 * a.val)))))
        ∧ (∀ (neg : Bool) (since : Nat) (chop : Par), c = .offTime neg since chop → ¬(a = 3 ∧ s.cutterMode = true) →
            exec (.offTimeEnd a ph) s = .next (sets (if s.phaseCode a ph = 0 then .slow
              else .drive (decide (s.phaseCurrent a ph < 0)) s.now (bits chop 16 4) false)))
        ∧ (c = .slow → exec (.chopperTrip a ph) s = .next s ∧ exec (.offTimeEnd a ph) s = .next s))
    ∧ (∀ ph : Bool, s.bridgeCode a ph ≠ 3
        ∧ (¬(a = 3 ∧ s.cutterMode = true) → x.state = .off → s.bridgeEnabled a = false ∧ s.bridgeCode a ph = 0)
        ∧ (∀ (neg : Bool) (since : Nat) (chop : Par), ¬(a = 3 ∧ s.cutterMode = true) → x.state ≠ .off →
            (if ph then x.chopB else x.chopA) = .offTime neg since chop →
            s.bridgeCode a ph = if ((s.now - since : Nat) : Rat) < s.fastTime chop then (if neg then 2 else 1) else 0)
        ∧ (∀ (neg : Bool) (since blank : Nat), ¬(a = 3 ∧ s.cutterMode = true) → x.state ≠ .off →
            (if ph then x.chopB else x.chopA) = .drive neg since blank false →
            s.bridgeCode a ph = if neg then 1 else 2))

/-- In SERVICE an IDLE axis takes a move of the distance written, backwards no further than the reverse floor, unless
it may not go backwards; a queued move starts once the one before it has ended, from where the axis then stands. A
bridge fault stops a stepper axis hard into FAULT with cause 2; an active limit is noted, and in the direction of
motion it stops the axis, hard with its cause or by the ramp, as its input is set. -/
def Obligations.MovesStartAndStop : Prop :=
  ((∀ (s u : State) (w : Fin 11) (a : Fin 4) (v x : Par) (r : ParRow), Takes s w (0x2011 + 0x80 * a.val) v r u x →
     u.paper.axis[a].state = .idle → u.paper.axis[a].queued = none → u.paper.axis[a].move = none →
     (0 ≤ x.toInt → u.blocked a false = none → Answers (.serviceMove w a v) s fun t =>
       AxisAlone a (wrote w (0x2011 + 0x80 * a.val) 0 u) t ∧ t.paper.axis[a].state = .moving
         ∧ (t.paper.axis[a].move.map fun m => (m.target, m.owner))
             = some (u.paper.axis[a].pos.toInt + u.conv a x.toInt, .service)
         ∧ t.paper.axis[a].pos = u.paper.axis[a].pos)
     ∧ (u.conv a x.toInt < 0 → u.reversible a = true → u.blocked a true = none → Answers (.serviceMove w a v) s fun t =>
         AxisAlone a (wrote w (0x2011 + 0x80 * a.val) 0 u) t ∧ t.paper.axis[a].state = .moving
           ∧ (t.paper.axis[a].move.map fun m => (m.target, m.owner)) = some (
               (let p := u.paper.axis[a].pos.toInt
                let q := p + u.conv a x.toInt
                if q < u.revFloor a then min p (u.revFloor a) else q), .service)
           ∧ t.paper.axis[a].pos = u.paper.axis[a].pos)
     ∧ (x.toInt < 0 → u.reversible a = false → Answers (.serviceMove w a v) s fun t =>
         Reports (wrote w (0x2011 + 0x80 * a.val) errInvalid (u.onAxis a fun y => { y with refuseCause := 4 })) t))
   ∧ ∀ (s : State) (a : Fin 4) (m : Move), s.paper.axis[a].queued = some m → s.paper.axis[a].move = none →
       s.paper.axis[a].state = .idle →
       let cur := s.paper.axis[a].pos.toInt
       let end1 := match m.dist with
         | some d => cur + d
         | none => m.target
       cur < end1 → s.blocked a false = none →
       let starts (t : State) : Prop := t.paper.axis[a].state = .moving ∧ t.paper.axis[a].queued = none
         ∧ t.paper.axis[a].move = some { m with target := end1, dist := none, braking := false }
         ∧ t.paper.axis[a].neg = false
       ((∀ h : Fin 4, m.owner ≠ .job h) → Answers (.queuedMoveStart a) s fun t => AxisAlone a s t ∧ starts t)
       ∧ (∀ (h : Fin 4) (r : Run), m.owner = .job h → s.paper.run[h] = some r → Answers (.queuedMoveStart a) s fun t =>
           starts t ∧ t.paper.run[h] = some { r with startPos := cur } ∧ (∀ k : Fin 4, k ≠ a → t.paper.axis[k] = s.paper.axis[k])
             ∧ Reports { s with paper := { s.paper with axis := t.paper.axis, run := t.paper.run } } t))
  ∧ ∀ (s : State) (a : Fin 4), ¬(a = 3 ∧ s.cutterMode = true) → (∀ h : Fin 4, s.paper.run[h] = none) →
      let x := s.paper.axis[a]
      (x.state = .idle ∨ x.state = .moving → (∀ m : Move, x.move = some m → m.owner = .service) →
        Answers (.bridgeFault a true) s fun t => AxisAlone a s t ∧ t.paper.axis[a].state = .fault
          ∧ t.paper.axis[a].stopCause = 2 ∧ t.paper.axis[a].flt = true ∧ t.paper.axis[a].move = none
          ∧ t.paper.axis[a].uncertain = (x.uncertain || !x.atRest))
      ∧ exec (.bridgeFault a false) s = .next (s.onAxis a fun x => { x with flt := false })
      ∧ (x.inMotion = false → ∀ b : Bool, exec (.limitActive a 0 b) s = .next (s.onAxis a fun x => { x with lim0 := b }))
      ∧ (x.inMotion = false → ∀ b : Bool, exec (.limitActive a 1 b) s = .next (s.onAxis a fun x => { x with lim1 := b }))
      ∧ (∀ m : Move, x.state = .moving → x.move = some m → m.owner = .service → x.neg = false →
          s.aPar a 0xA / 256 % 4 ≠ 0 →
          (s.limitHard a 1 = true → Answers (.limitActive a 1 true) s fun t => AxisAlone a s t
            ∧ t.paper.axis[a].state = .idle ∧ t.paper.axis[a].stopCause = 4 ∧ t.paper.axis[a].lim1 = true
            ∧ t.paper.axis[a].move = none)
          ∧ (s.limitHard a 1 = false → x.atRest = false → Answers (.limitActive a 1 true) s fun t => AxisAlone a s t
              ∧ t.paper.axis[a].state = .stopping ∧ t.paper.axis[a].lim1 = true ∧ t.paper.axis[a].move = some m))

/-- A cut starts where it is wanted and the cutter may turn; the home input takes a full cut from leaving home to
braking; a partial cut returns when its time is over, a cut that finds no home faults and returns, and a return that
finds none jams; the end of braking counts the cut and answers what waits. The bridge is driven while the cutter cuts,
against that while it returns, and decays slowly in every other state. -/
def Obligations.TheCutterCuts : Prop :=
  ∀ s : State, s.cutterMode = true →
    let c := s.paper.cutter
    let driven (st : CutState) (u : State) : State := u.onAxis 3 fun x => { x with
      chopA := cutterChop s.now (chopBlank (s.aPar 3 9)) x.chopA st }
    (∀ h : Fin 4, s.cutWanted h = true → s.cutMay h = true → s.paper.run[h] = none → exec (.cutStart h) s
      = .next (driven .cutting (s.onCutter fun c => { c with
          state := .cutting, left := false, isPartial := false, fault := false, since := s.now, head := some h
          waits := true })))
    ∧ (∀ (h : Fin 4) (r : Run), s.cutWanted h = true → s.cutMay h = true → s.paper.run[h] = some r → r.phase = .cut →
        (s.job r.job).kind = 3 → Answers (.cutStart h) s fun t => t.paper.cutter.state = .cutting
          ∧ t.paper.cutter.isPartial = (s.job r.job).partialCut ∧ t.paper.cutter.head = some h ∧ t.paper.cutter.waits = true
          ∧ t.paper.run = s.paper.run ∧ t.paper.head = s.paper.head ∧ t.island = s.island)
    ∧ (c.state = .cutting → exec (.homeSwitch false) s = .next (s.onCutter fun c => { c with home := false, left := true }))
    ∧ (c.state = .cutting → c.left = true → c.isPartial = false → exec (.homeSwitch true) s
        = .next (driven .braking (s.onCutter fun c => { c with home := true, state := .braking, since := s.now })))
    ∧ (c.state = .returning → exec (.homeSwitch true) s
        = .next (driven .braking (s.onCutter fun c => { c with home := true, state := .braking, since := s.now })))
    ∧ (c.state = .cutting → c.isPartial = true → c.left = true →
        let st : CutState := if c.home then .braking else .returning
        exec .cutPartialTimeout s = .next (driven st (s.onCutter fun d => { d with state := st, since := s.now })))
    ∧ (c.state = .cutting → c.home = false → Answers .cutTimeout s fun t =>
        Reports (driven .returning (s.onCutter fun d => { d with state := .returning, fault := true, since := s.now })) t)
    ∧ (c.state = .returning → c.head = none → Answers .cutTimeout s fun t =>
        Reports (driven .jammed (s.onCutter fun d => { d with
          state := .jammed, since := s.now, head := none, waits := false, left := false })) t)
    ∧ (c.state = .braking → c.head = none → exec .brakeEnd s = .next (driven .home (s.onCutter fun d => { d with
        state := .home, since := s.now, head := none, waits := false, left := false })))
    ∧ (∀ h : Fin 4, c.state = .braking → c.head = some h → c.fault = false → c.waits = true → s.paper.run[h] = none →
        Answers .brakeEnd s fun t => t.paper.cutter.state = .home ∧ t.paper.cutter.count = c.count + 1
          ∧ t.loam.head[h].purgeCut = (s.loam.head[h].purgeCut || s.loam.head[h].purging)
          ∧ t.paper.axis[s.paperAxis h].revHigh = s.paper.axis[s.paperAxis h].pos
          ∧ t.paper.media[h].cutLine = none ∧ t.paper.head = s.paper.head ∧ t.bus = s.bus)

/-! ### Media and outputs (11_media_outputs) -/

/-- The emitter of the active sensor of a fitted head is driven with its current, and no other one. A sample on the
side already known adds to its mean, one without forward motion starts anew; a label start that does not come is
predicted once; a learn in SERVICE seeks from where the paper stands, and a dropped cut is forgotten. Paper running
low is noted with the place, and is the end of paper at once where no reserve is set, or once the reserve has been
fed; paper inserted and a cover opened leave the position uncertain and the media to be learned again; the cover
closed is told. With nothing on the path, no job fails. -/
def Obligations.MediaPaperAndCover : Prop :=
  (∀ (s : State) (h : Fin 4),
     let m := s.paper.media[h]
     let a := s.paperAxis h
     (∀ code : BitVec 12, s.headPresent h = true → s.mediaType h ≠ 0 → s.pwr.islandsRun = true →
       let u := s.convMade 1 2 h.val
       (s.paper.axis[a].inMotion = false → exec (.mediaSample h code) s = .next (u.onMedia h fun m => { m with run := none }))
       ∧ (s.paper.axis[a].inMotion = true → s.paper.axis[a].atRest = false → s.paper.axis[a].neg = false →
           s.sampleSide h code.toNat = some true → m.side = some true → exec (.mediaSample h code) s
             = .next (u.onMedia h fun m => { m with
                 run := none, gapSum := m.gapSum + code.toNat, gapCount := m.gapCount + 1 }))
       ∧ (s.paper.axis[a].inMotion = true → s.paper.axis[a].atRest = false → s.paper.axis[a].neg = false →
           s.sampleSide h code.toNat = some false → m.side = some false → exec (.mediaSample h code) s
             = .next (u.onMedia h fun m => { m with
                 run := none, labSum := m.labSum + code.toNat, labCount := m.labCount + 1 })))
     ∧ (s.emitter h false = 0 ∨ s.emitter h true = 0)
     ∧ (∀ mark : Bool, (s.fitted h = false → s.emitter h mark = 0)
         ∧ (s.pwr.islandsRun = true → s.fitted h = true → s.mediaType h = (if mark then 2 else 1) →
             s.emitter h mark = bits (s.parG (0x2800 + 0x40 * h.val)) (if mark then 16 else 8) 5))
     ∧ (∀ (p : Int) (l : List Int), m.learned = true → m.starts = p :: l →
         p + s.conv a (m.pitch + s.mPar h 9 : Nat) ≤ s.paperPos h → Answers (.labelStartMissed h) s fun t =>
           Reports (s.onMedia h fun m => { m with
             starts := ((p + s.conv a (m.pitch : Nat)) :: m.starts).take 8
             predicted := if m.predicted = 0 then 1 else 0, learned := m.predicted = 0 }) t)
     ∧ (∀ (k : SeekKind) (p : Int), m.seek = some (k, p) →
         (s.conv a (s.mPar h 7 : Nat) ≤ s.paperPos h - p → k = .tof → s.paper.run[h] = none →
           Answers (.seekMaxReached h) s fun t => Reports (s.onMedia h fun m => { m with seek := none }) t)
         ∧ (s.paperPos h - p < s.conv a (s.mPar h 7 : Nat) → exec (.seekMaxReached h) s = .next s))
     ∧ ∀ (u : State) (w : Fin 11) (v x : Par) (r : ParRow),
         (Takes s w (0x2817 + 0x40 * h.val) (withBit v 0) r u x → bit x 0 = true → bit x 1 = false →
           u.paper.media[h].learned = false → u.paper.axis[u.paperAxis h].state = .idle →
           u.paper.axis[u.paperAxis h].queued = none → u.blocked (u.paperAxis h) false = none →
           u.paper.axis[u.paperAxis h].pos.toInt < farTarget → Answers (.learn w h v) s fun t =>
             t.paper.media[h] = { u.paper.media[h] with learning := true, seek := some (.learn, u.paperPos h) }
             ∧ (t.paper.axis[u.paperAxis h].move.map fun m => (m.target, m.owner)) = some (farTarget, .learn h)
             ∧ t.paper.axis[u.paperAxis h].state = .moving ∧ t.paper.head = u.paper.head)
         ∧ (Takes s w (0x2817 + 0x40 * h.val) (withBit v 1) r u x → bit x 0 = false → bit x 1 = true →
             exec (.dropCut w h v) s = .next (wrote w (0x2817 + 0x40 * h.val) 0
               (u.onMedia h fun m => { m with cutLine := none, cutWait := false }))))
  ∧ ∀ (s : State) (h : Fin 4), s.headPresent h = true → s.paper.run[h] = none →
      let m := s.paper.media[h]
      let a := s.paperAxis h
      let forgets (t : State) : Prop := t.paper.axis[a].uncertain = true ∧ t.paper.media[h].learned = false
        ∧ t.paper.media[h].starts = [] ∧ t.paper.media[h].cutLine = none
        ∧ (∀ k : Fin 4, k ≠ h → t.paper.media[k] = s.paper.media[k])
        ∧ Reports { s with paper := { s.paper with media := t.paper.media, axis := t.paper.axis } } t
      (m.paperLow = false → s.mPar h 8 ≠ 0 → Answers (.paperLow h) s fun t =>
        Reports (s.onMedia h fun m => { m with peLow := true, paperLow := true, lowPos := s.paperPos h }) t)
      ∧ (m.paperLow = false → s.mPar h 8 = 0 → Answers (.paperLow h) s fun t =>
          Reports (s.onMedia h fun m => { m with
            peLow := true, paperLow := true, lowPos := s.paperPos h, paperEnd := true }) t)
      ∧ (m.paperLow = true → m.peLow = true → m.paperEnd = false →
          s.conv a (s.mPar h 8 : Nat) ≤ s.paperPos h - m.lowPos → Answers (.paperEnd h) s fun t =>
            Reports (s.onMedia h fun m => { m with paperEnd := true }) t)
      ∧ (m.paperLow = true → Answers (.paperClear h) s fun t => forgets t ∧ t.paper.media[h].paperLow = false
          ∧ t.paper.media[h].paperEnd = false ∧ t.paper.media[h].peLow = false)
      ∧ (m.coverOpen = false → Answers (.coverOpen h) s fun t => forgets t ∧ t.paper.media[h].coverOpen = true
          ∧ t.paper.media[h].covLow = true)
      ∧ (m.coverOpen = true → Answers (.coverClose h) s fun t =>
          Reports (s.onMedia h fun m => { m with covLow := false, coverOpen := false }) t)

/-- lamp.cmd reaches the channels of its bits that the tenant may use: ON lets an OFF channel wait with its duty, OFF
switches any channel off that is not TRIPPED, DUTY sets the commanded duty, CLEAR ends a trip; one that names a
channel the tenant may not use is refused whole. The oldest waiting channel is admitted within the budget while no
channel is TRIPPED, and its inrush ends ON; a limit trip blanks the period, an overload and a short trip the channel,
an open load is flagged; and each PWM period sets every channel's duty anew. -/
def Obligations.LampChannels : Prop :=
  (∀ (s u : State) (w : Fin 11) (v x : Par) (r : ParRow) (y : Fin 8), r.banked = true → u.portVi w = some y →
     let may := bits x 0 8 &&& bits (u.vi[y].contract[2]) 0 8 = bits x 0 8
     let done (t : State) := t = wrote w 0x29C0 0 ({ u with paper := { u.paper with
       lamp := t.paper.lamp, lampOrder := t.paper.lampOrder } }.onVi y fun q => { q with lampCmd := x })
     (Takes s w 0x29C0 (lampWord v 1) r u x → bits x 8 2 = 1 → may → Answers (.lampOn w v) s fun t => done t
       ∧ ∀ c : Fin 8, t.paper.lamp[c].command = (if bit x c.val then some (bits x 16 9) else u.paper.lamp[c].command)
         ∧ t.paper.lamp[c].state = if bit x c.val ∧ u.paper.lamp[c].state = .off then .waiting else u.paper.lamp[c].state)
     ∧ (Takes s w 0x29C0 (lampWord v 0) r u x → bits x 8 2 = 0 → may → Answers (.lampOff w v) s fun t => done t
         ∧ ∀ c : Fin 8, t.paper.lamp[c].state
             = if bit x c.val ∧ u.paper.lamp[c].state ≠ .tripped then .off else u.paper.lamp[c].state)
     ∧ (Takes s w 0x29C0 (lampWord v 2) r u x → bits x 8 2 = 2 → may → Answers (.lampDuty w v) s fun t => done t
         ∧ ∀ c : Fin 8, t.paper.lamp[c]
             = if bit x c.val then { u.paper.lamp[c] with command := some (bits x 16 9) } else u.paper.lamp[c])
     ∧ (Takes s w 0x29C0 (lampWord v 3) r u x → bits x 8 2 = 3 → may → Answers (.lampClear w v) s fun t => done t
         ∧ ∀ c : Fin 8, t.paper.lamp[c].state
             = if bit x c.val ∧ u.paper.lamp[c].state = .tripped then .off else u.paper.lamp[c].state)
     ∧ (Takes s w 0x29C0 (lampWord v 1) r u x → ¬may → Answers (.lampOn w v) s fun t =>
         Reports (wrote w 0x29C0 errNoAccess u) t))
  ∧ ∀ (s : State) (c : Fin 8),
      let l := s.paper.lamp[c]
      (s.oldestWaiting = some c → (∀ d : Fin 8, s.paper.lamp[d].state ≠ .tripped) →
        s.budgetUsed + s.lPar c 2 ≤ s.parN 0x2980 → s.parN 0x2980 ≠ 0 → exec .lampAdmit s
          = .next (s.onLamp c fun l => { l with state := .inrush, period := 0, duty := s.inrushDuty c 0 }))
      ∧ (l.state = .inrush → s.inrushPeriods c ≤ l.period → exec (.inrushComplete c) s
          = .next (s.onLamp c fun l => { l with state := .on, duty := s.onDuty c, period := 0 }))
      ∧ (l.driven = true → exec (.limitTrip c) s = .next (s.onLamp c fun l => { l with blanked := true }))
      ∧ (l.state = .on → Answers (.overload c) s fun t => Reports (s.onLamp c fun l => { l with
          state := .tripped, overload := true, duty := 0, trips := l.trips + 1, period := 0 }) t)
      ∧ (l.driven = true → Answers (.shortTrip c) s fun t => Reports (s.onLamp c fun l => { l with
          state := .tripped, overload := false, duty := 0, trips := l.trips + 1, period := 0 }) t)
      ∧ (l.state = .on → l.duty ≠ 0 → l.iMeas < s.lPar c 7 → l.isOpen = false → Answers (.lampOpen c) s fun t =>
          Reports (s.onLamp c fun l => { l with isOpen := true }) t)
      ∧ (∀ code : BitVec 12, l.driven = true → exec (.lampCurrentSample c code) s
          = .next ((s.convMade 0 3 c.val).onLamp c fun l => { l with
          iMeas := s.lampCurrent c code.toNat, isOpen := l.isOpen && !(s.lPar c 7 < s.lampCurrent c code.toNat) }))
      ∧ Answers .pwmPeriod s fun t => t = { s with paper := { s.paper with lamp := t.paper.lamp } }
          ∧ t.paper.lamp[c].state = l.state ∧ t.paper.lamp[c].limiting = l.blanked ∧ t.paper.lamp[c].blanked = false
          ∧ (l.state = .on → t.paper.lamp[c].duty = s.onDuty c)
          ∧ (l.state = .inrush → t.paper.lamp[c].period = l.period + 1
              ∧ t.paper.lamp[c].duty = s.inrushDuty c (min (l.period + 1) (s.inrushPeriods c)))
          ∧ (l.driven = false → t.paper.lamp[c].duty = 0)

/-! ### Analog and thermal (12_analog_thermal) -/

/-- A converter begins next, of the conversions due on it, that of the lowest priority, of those the one due longest,
of those the one of the lowest number: the entry in progress of its sequencer is one of them. A trigger starts a pass
with the limits taken then, and one while a pass runs is counted; GO does so for a converter triggered by the host;
ABORT in the delay ends the pass at once and clears ENABLE; after the delay the conversions are summed, entry by
entry. -/
def Obligations.ConvertersRunPasses : Prop :=
  ∀ (s : State) (x : Fin 2),
    let k := s.analog.conv[x]
    let starts (u : State) (k : Converter) : Converter := { k with
      running := true, delaying := true, aborting := false, entry := 0, sum := 0, done := 0, late := false
      passes := k.passes + 1, limits := Vector.ofFn fun (e : Fin 16) => u.adcPar x (0x20 + e.val) }
    (∀ d : Due, s.nextConversion x = some d →
      d ∈ s.dueOn x ∧ ∀ e ∈ s.dueOn x, d.prio < e.prio ∨ (d.prio = e.prio ∧ (d.since < e.since
        ∨ (d.since = e.since ∧ d.number ≤ e.number))))
    ∧ (s.nextConversion x = none → s.dueOn x = [])
    ∧ (∀ d : Due, d ∈ s.dueOn x ↔ d ∈ k.due ∨ (k.running = true ∧ k.delaying = false
        ∧ d = { prio := 6, since := s.now, number := bits (s.adcPar x (0x10 + k.entry.val)) 0 7 }))
    ∧ (s.pwr.islandsRun = true → s.adcEn x = true → s.adcSource x = true →
      (k.running = false → exec (.sequencerTrigger x) s = .next (s.onConv x (starts s)))
      ∧ (k.running = true → Answers (.sequencerTrigger x) s fun t => Reports (s.onConv x fun k => { k with
          overruns := k.overruns + 1, overrunAt := (t.analog.conv[x]).overrunAt }) t))
    ∧ (∀ (w : Fin 11) (v q : Par) (r : ParRow) (u : State), Takes s w (0x3003 + 0x80 * x.val) (withBit v 0) r u q →
        bit q 0 = true → bit q 1 = false → u.adcEn x = true → bits (u.adcPar x 0) 2 2 = 0 →
        (u.analog.conv[x]).running = false → exec (.go w x v) s
          = .next (wrote w (0x3003 + 0x80 * x.val) 0 (u.onConv x (starts u))))
    ∧ (∀ (w : Fin 11) (v q : Par) (r : ParRow) (u : State), Takes s w (0x3003 + 0x80 * x.val) (withBit v 1) r u q →
        bit q 0 = false → bit q 1 = true → (u.analog.conv[x]).running = true → (u.analog.conv[x]).delaying = true →
        exec (.abort w x v) s = .next (wrote w (0x3003 + 0x80 * x.val) 0 ((u.setPar (0x3000 + 0x80 * x.val) none
          (u.adcPar x 0 &&& 0xFFFFFFFE)).onConv x fun k => { k with running := false, delaying := false })))
    ∧ (k.running = true → k.delaying = true → exec (.passDelayEnd x) s
        = .next (s.onConv x fun k => { k with delaying := false, powered := true }))
    ∧ (∀ (code : BitVec 12) (late : Bool), k.running = true → k.delaying = false → k.aborting = false →
        let cfg := s.adcPar x (0x10 + k.entry.val)
        let n := (s.adcCode (bits cfg 0 7) code).toNat
        (k.done + 1 < 2 ^ bits cfg 20 4 → exec (.conversionDone x code late) s = .next (s.onConv x fun k => { k with
          sum := k.sum + n, done := k.done + 1, late := k.late || late }))
        ∧ (2 ^ bits cfg 20 4 ≤ k.done + 1 → k.entry.val < bits (s.adcPar x 0) 12 4 →
            Answers (.conversionDone x code late) s fun t =>
              bits (t.analog.conv[x]).result[k.entry] 0 16 = sat ((k.sum + n) >>> bits cfg 24 4) 65535
              ∧ (t.analog.conv[x]).entry = k.entry + 1 ∧ (t.analog.conv[x]).sum = 0 ∧ (t.analog.conv[x]).done = 0
              ∧ (t.analog.conv[x]).running = true
              ∧ Reports (s.onConv x fun _ => t.analog.conv[x]) t))

/-- A plausibility pair whose codes differ by more than its bound fails, with an event as it begins to; the die
temperature follows a plausible code, and the third implausible one in a row is a diode fault; a supply's monitor keeps
its reading; a thermal trip is recorded and begins a thermal power-down. -/
def Obligations.MonitorsOfTheDie : Prop :=
  ∀ s : State,
    (∀ (p : Fin 4) (a b : BitVec 12), s.pwr.islandsRun = true → bit (s.parG (0x3140 + 4 * p.val)) 31 = true →
      let u := (s.convMade 0 7 p.val).convMade 1 7 p.val
      exec (.plausibilityCheck p false a b) s
          = .next (u.onAnalog fun x => { x with plaus := vmod x.plaus p fun q => { q with miss := q.miss + 1 } })
      ∧ Answers (.plausibilityCheck p true a b) s fun t =>
          let ca := s.adcCode (bits (s.parG (0x3140 + 4 * p.val)) 0 7) a
          let cb := s.adcCode (bits (s.parG (0x3140 + 4 * p.val)) 0 7) b
          (t.analog.plaus[p]).codeA = ca ∧ (t.analog.plaus[p]).codeB = cb
          ∧ (t.analog.plaus[p]).fail
              = decide (s.parN (0x3141 + 4 * p.val) < (ca.toNat - cb.toNat) + (cb.toNat - ca.toNat))
          ∧ (t.analog.plaus[p]).miss = (s.analog.plaus[p]).miss
          ∧ Reports (u.onAnalog fun x => { x with plaus := t.analog.plaus }) t)
    ∧ (∀ code : BitVec 12, s.anRuns = true → 82 < code.toNat → code.toNat < 4013 → s.analog.diodeFault = false →
        Answers (.dieTempUpdate code) s fun t =>
          t.analog.temp = s.fuse.dieTemp code.toNat ∧ t.analog.valid = true ∧ t.analog.badRun = 0
          ∧ t.analog.diodeFault = false ∧ t.paper = s.paper ∧ t.island = s.island ∧ t.vi = s.vi)
    ∧ (∀ code : BitVec 12, s.anRuns = true → code.toNat ≤ 82 → s.analog.badRun = 2 → Answers (.dieTempUpdate code) s fun t =>
        t.analog.diodeFault = true ∧ t.analog.valid = false ∧ t.analog.level = 2 ∧ t.analog.flashOk = false
          ∧ t.analog.temp = s.analog.temp ∧ t.paper = s.paper ∧ t.island = s.island)
    ∧ (∀ (k : Fin 8) (code : BitVec 12), s.anRuns = true → Answers (.supplyMonitorSample k code) s fun t =>
        (t.mgmt.sup[k]).mV = BitVec.ofNat 16 (supplyMv k code.toNat)
          ∧ (∀ n : Fin 8, n ≠ k → t.mgmt.sup[n] = s.mgmt.sup[n])
          ∧ Reports { (s.convMade 1 5 (0x21 + k.val)) with
              mgmt := { s.mgmt with sup := t.mgmt.sup, supInvalid := t.mgmt.supInvalid } } t
          ∧ (k ≠ 7 → t.mgmt.supInvalid = s.mgmt.supInvalid))
    ∧ (s.pwr.mode = .run ∨ s.pwr.mode = .reduced → s.pwr.pd = none → Answers .thermalTrip s fun t =>
        t.ao.thermalRecord = some { time := s.ao.time, mode := s.pwr.mode.code, level := BitVec.ofNat 2 s.analog.level.val
                                    temp := s.analog.temp16, valid := s.analog.valid }
        ∧ t = (s.onAo fun a => { a with thermalRecord := t.ao.thermalRecord }).onPwr fun p => { p with
            target := some .retain
            pd := some { reason := .thermal, stage := 0, collapsed := false, stage6Only := false } })

/-! ### The Kaolin island and weighing (13_kaolin_island, 14_weighing) -/

/-- The island takes the oldest command of its mailbox while it is out of its self-test and decides nothing else:
ZERO, TARE, TARE_CLEAR and READ_WEIGHT await the next result, as does an issue that Loam asks for; the status is
answered at once. What the island refuses at once: an unknown code; an issue, a duplicate or a PRINTED that a tenant
sends. The tenant is answered with the code, with data the spec leaves open, and the refusal is counted. -/
def Obligations.LegalCommandsAreAnswered : Prop :=
  (∀ (s : State) (c : LegCommand) (m : List LegCommand), s.island.mailbox = c :: m →
     (s.island.state = .operational ∨ s.island.state = .inhibited) → s.island.deciding = none →
     s.island.issuing = none → s.island.printing = none →
     let awaited := s.onIsland fun i => { i with mailbox := m, deciding := some c }
     (c.code = 1 → exec .zero s = .next awaited)
     ∧ (c.code = 2 → exec .tare s = .next awaited)
     ∧ (c.code = 3 → exec .tareClear s = .next awaited)
     ∧ (c.code = 4 → bit c.arg 0 = false → bit c.arg 1 = false → exec .readWeight s = .next awaited)
     ∧ (c.code = 4 → bit c.arg 0 = true → bit c.arg 1 = false → c.source.device = true →
         exec .readWeightIssue s = .next awaited)
     ∧ (∀ v : Fin 8, c.code = 6 → c.source = .tenant v → c.orphan = false → Answers .status s fun t =>
         (t.island.response.map fun r => (r.cmd, r.rsp, r.d[(1 : Fin 4)].toNat))
             = some (c, rspOk, s.island.audit.toNat % 65536)
           ∧ t = s.onIsland fun i => { i with
               mailbox := m, showId := i.showId || bit c.arg 0, response := t.island.response }))
  ∧ ∀ (s : State) (c : LegCommand) (m : List LegCommand) (v : Fin 8), s.island.mailbox = c :: m →
      (s.island.state = .operational ∨ s.island.state = .inhibited) → s.island.deciding = none →
      s.island.issuing = none → s.island.printing = none → c.source = .tenant v → c.orphan = false →
      let refuses (rsp : Byte) (t : State) : Prop := (t.island.response.map fun r => (r.cmd, r.rsp)) = some (c, rsp)
        ∧ t.island.refused = s.island.refused + 1
        ∧ t = { s with fresh := t.fresh, island := { s.island with
            mailbox := m, refused := t.island.refused, response := t.island.response } }
      (c.code = 0 ∨ 6 < c.code.toNat → Answers .unknownCommand s (refuses rspUnknown))
      ∧ (c.code = 4 → bit c.arg 0 = true → bit c.arg 1 = false → Answers .readWeightIssue s (refuses rspSource))
      ∧ (c.code = 4 → bit c.arg 1 = true → Answers .readWeightDup s (refuses rspSource))
      ∧ (c.code = 5 → Answers .printed s (refuses rspSource))

/-- Records: a duplicate is counted in the open record it names; PRINTED waits for its commit, or is held while flash
may not be written; a commit of an issue puts the record into the next slot as the newest, where an open one lapses,
and a commit of PRINTED marks its record. -/
def Obligations.RecordsAreKept : Prop :=
  (∀ (s : State) (c : LegCommand) (m : List LegCommand), s.island.mailbox = c :: m → s.island.state = .operational →
    s.island.deciding = none → s.island.issuing = none → s.island.printing = none → c.source.device = true →
    let u := s.onIsland fun i => { i with mailbox := m }
    (∀ (k : Nat) (r : Record), c.code = 4 → bit c.arg 1 = true → u.issueGate = none →
      (s.island.newestFirst.find? fun e => e.2.isOpen && e.2.seq.toNat % 2 ^ 24 = bits c.arg 8 24) = some (k, r) →
      Answers .readWeightDup s fun t => sparseFind k t.island.records = some { r with dups := satInc r.dups }
        ∧ t.island.mailbox = m ∧ t.island.newest = s.island.newest ∧ t.island.audit = s.island.audit)
    ∧ (∀ (k : Nat) (r : Record), c.code = 5 → s.islandPowerFail = false →
        (s.island.newestFirst.find? fun e => e.2.seq = c.arg) = some (k, r) → r.printed = false →
        (s.islandFlashOk = true → exec .printed s
          = .next (s.onIsland fun i => { i with mailbox := m, printing := some (c, c.arg) }))
        ∧ (s.islandFlashOk = false → c.orphan = true → s.island.heldPrinted.contains c.arg = false → exec .printed s
            = .next (s.onIsland fun i => { i with mailbox := m, heldPrinted := i.heldPrinted ++ [c.arg] }))))
  ∧ (∀ (s : State) (c : LegCommand) (r : Record), s.island.issuing = some (c, r) → Answers .issuedCommit s fun t =>
      t.island.newest = s.island.newest + 1 ∧ sparseFind (s.island.newest + 1).val t.island.records = some r
        ∧ t.island.issuing = none ∧ t.island.audit = s.island.audit ∧ t.island.tare = s.island.tare
        ∧ t.island.lapsed = (match sparseFind (s.island.newest + 1).val s.island.records with
            | some o => if o.isOpen then satInc s.island.lapsed else s.island.lapsed
            | none => s.island.lapsed))
  ∧ (∀ (s : State) (c : LegCommand) (q : BitVec 32), s.island.printing = some (c, q) → Answers .printedCommit s fun t =>
      t.island.records = (s.island.markPrinted q).records ∧ t.island.printing = none
        ∧ t.island.newest = s.island.newest ∧ t.island.audit = s.island.audit)

/-- The protective interface: a response reaches the tenant that waits for it; a command without an answer for too long
is answered UNAVAILABLE and its answer is no longer wanted; the cut path fails the job whose PRINTED finds no answer;
DUP_HI arms the duplicate of the role holder. -/
def Obligations.ProtectiveInterface : Prop :=
  (∀ (s : State) (r : LegResponse) (v : Fin 8), s.island.response = some r → r.cmd.source = .tenant v →
    r.cmd.orphan = false → Answers .legalRsp s fun t =>
      t.vi[v].legRsp = some (r.rsp, r.cmd.tag) ∧ t.vi[v].legData = r.d ∧ t.vi[v].legPending = none
      ∧ Reports ((s.onIsland fun i => { i with response := none }).onVi v fun y => { y with
          legData := r.d, legPending := none, legRsp := some (r.rsp, r.cmd.tag) }) t)
  ∧ (∀ (s : State) (v : Fin 8) (tag : BitVec 4), s.legalHolder = some v → s.vi[v].legPending = some tag →
      Answers (.legalCmdTimeout 0) s fun t => t.vi[v].legPending = none ∧ t.vi[v].legRsp = some (rspUnavailable, tag)
        ∧ t.legal.timeouts = s.legal.timeouts + 1 ∧ t.island.records = s.island.records ∧ t.island.tare = s.island.tare
        ∧ (∀ q ∈ t.island.mailbox, q.source = .tenant v → q.orphan = true) ∧ t.paper = s.paper ∧ t.loam = s.loam)
  ∧ (∀ (s : State) (src : Fin 9) (h : Fin 4) (j : JobRef), src.val = h.val + 1 → s.loam.head[h].reserved = some j →
      Answers (.legalCmdTimeout src) s fun t => t.legal.timeouts = s.legal.timeouts + 1
        ∧ t.loam.head[h].reserved = none ∧ t.island.records = s.island.records)
  ∧ (∀ (s : State) (src : Fin 9) (h : Fin 4) (r : Run), src.val = h.val + 5 → s.paper.run[h] = some r →
      r.phase = .printed → r.resend = false → Answers (.legalCmdTimeout src) s fun t =>
        (∀ q ∈ t.island.mailbox, q.source = .cut h → q.orphan = true)
        ∧ t = { s with island := t.island, legal := { s.legal with timeouts := s.legal.timeouts + 1 } })
  ∧ (∀ (s : State) (h : Fin 4) (r : Run), s.paper.run[h] = some r → r.phase = .printed →
      Answers (.printedTimeout h) s fun t => t.paper.run[h] = none ∧ t.paper.head[h].field = none
        ∧ t.island.records = s.island.records ∧ t.ao.time = s.ao.time)
  ∧ ∀ (s : State) (v : Fin 8) (x : Word), s.winServes v = true → s.legalHolder = some v →
      Answers (.dupArm v x) s fun t => t.vi[v].dupHandle.val = x.toNat / 256 % 16 ∧ t.vi[v].dupArmed = x.getLsbD 15
        ∧ t.vi[v].dupSeq.toNat = s.vi[v].dupSeq.toNat % 65536 + 65536 * (x.toNat % 256)
        ∧ t = s.onVi v fun _ => t.vi[v]

/-- The island powers up into its self-test, which it leaves INHIBITED with what it found latched and the parameters
in force; a reset leaves it INACTIVE with what its memory keeps; a clock fault and an opened seal lose the zero and
inhibit it, and the seal closed again begins a self-test where nothing is latched. The epochs of the images are
compared once the island is OPERATIONAL, and a difference is told. -/
def Obligations.IslandStates : Prop :=
  (∀ s : State, s.islandPresent = true →
     (s.island.state = .inactive → Answers .islandPowerUp s fun t =>
       Reports (s.onIsland fun i => { i with powered := true, noiseFail := false, causes := 0, state := .selfTest }) t)
     ∧ (∀ (nonce : Par) (key : BitVec 256) (p : Vector Par 32), s.island.state = .selfTest → s.island.nextImage = none →
         s.island.running ≠ none → s.island.params = some p → s.island.key ≠ none →
         Answers (.selfTestDone true true true true true true nonce key) s fun t =>
           t.island.state = .inhibited ∧ t.island.latched = 0 ∧ t.island.bootNonce = nonce ∧ t.island.live = p
             ∧ t.island.key = s.island.key ∧ t.island.records = s.island.records ∧ t.island.audit = s.island.audit
             ∧ Reports { s with island := t.island } t)
     ∧ (∀ (nonce : Par) (key : BitVec 256) (ok : Bool), s.island.state = .selfTest → s.island.nextImage = none →
         Answers (.selfTestDone ok true false true true true nonce key) s fun t =>
           t.island.state = .inhibited ∧ t.island.latched.getLsbD 3 = true ∧ (ok = false → t.island.latched.getLsbD 1 = true)
             ∧ t.island.audit = s.island.audit ∧ Reports { s with island := t.island } t)
     ∧ (s.island.state ≠ .inactive → Answers .islandReset s fun t =>
         t.island.state = .inactive ∧ t.island.records = s.island.records ∧ t.island.audit = s.island.audit
           ∧ t.island.params = s.island.params ∧ t.island.image = s.island.image ∧ t.island.key = s.island.key
           ∧ t.island.mailbox = [] ∧ t.island.tare = 0 ∧ t.island.latched = 0 ∧ Reports { s with island := t.island } t)
     ∧ (s.island.state = .operational → Answers .islandClockFault s fun t =>
         Reports (s.onIsland fun i => { i.loseZero with latched := i.latched ||| 0x40, state := .inhibited }) t)
     ∧ (s.island.state = .operational → s.island.sealOpen = false → Answers .sealOpen s fun t =>
         Reports (s.onIsland fun i => { i.loseZero with sealOpen := true, state := .inhibited }) t)
     ∧ (s.island.state = .inactive → s.island.sealOpen = false →
         exec .sealOpen s = .next (s.onIsland fun i => { i with sealOpen := true }))
     ∧ (s.island.state = .inhibited → s.island.sealOpen = true → s.island.latched = 0 → s.island.causes &&& 0x0900 = 0 →
         Answers .sealClose s fun t => Reports (s.onIsland fun i => { i with
           sealOpen := false, noiseFail := false, causes := 0, state := .selfTest }) t))
  ∧ ∀ (s : State) (m : MainImage) (l : LegalImage), s.mainImage = some m → s.island.running = some l →
      s.islandPresent = true → s.pwr.pgK = true → s.island.state = .operational → s.pwr.islandsRun = true →
      s.pwr.mode ≠ .wake → Answers .epochCheck s fun t =>
        t.legal.epochStat = (if epochsDiffer m l then 2 else 1) ∧ t.legal.epochOwed = false
          ∧ Reports (s.onLegal fun x => { x with epochStat := t.legal.epochStat, epochOwed := false }) t

/-- UK commands while the island is powered: what it is, its audit counter, a parameter read; a parameter and a legal
image are taken with the seal open, flash writable and the value or the image fit, and a changed parameter is audited;
with the seal closed they are refused; a malformed frame is answered 07. The display shows its frame, and the shown
identity ends. -/
def Obligations.UkCommands : Prop :=
  (∀ s : State, s.ukServes = true →
    let sends (x : String) (t : State) : Prop := t = s.onIsland fun i => { i with ukTx := x }
    Answers .ukA s (sends ("AUD " ++ hexText 8 s.island.audit.toNat))
    ∧ (∀ m : LegalImage, s.island.running = some m → Answers .ukI s (sends ("ID " ++ hexText 8 s.island.serial.toNat
        ++ " " ++ hexText 8 m.version.toNat ++ " " ++ hexText 8 m.ident.toNat ++ " " ++ hexText 4 m.epoch.toNat)))
    ∧ (∀ (n : Word) (x : Par), n.toNat < 0x5000 → s.island.index false n.toNat = some x →
        Answers (.ukR n) s (sends ("= " ++ hexText 8 x.toNat)))
    ∧ (∀ n : Word, n.toNat < 0x5000 → s.island.index false n.toNat = none → Answers (.ukR n) s (sends "! 02"))
    ∧ Answers .ukMalformedFrame s (sends "! 07")
    ∧ (s.island.sealOpen = false → ∀ (n : Word) (v : Par) (d : List Byte),
        Answers (.ukW n v) s (sends "! 01") ∧ Answers (.ukU d) s (sends "! 01"))
    ∧ (s.island.sealOpen = true → s.islandFlashOk = true → s.islandPowerFail = false →
        (∀ (k : Fin 32) (v : Par) (p : Vector Par 32), k.val < 28 → s.island.params = some p →
          legalParamOk (fun n => if h : n < 32 then p[n] else 0) k.val v = true → p[k] ≠ v →
          s.island.audit ≠ BitVec.allOnes 32 → Answers (.ukW (BitVec.ofNat 16 (0x4200 + k.val)) v) s fun t =>
            t.island.params = some (p.set k v) ∧ t.island.audit = s.island.audit + 1
              ∧ t.island.ukTx = "= " ++ hexText 8 v.toNat ∧ t.island.live = s.island.live
              ∧ Reports { s with island := t.island } t)
        ∧ (∀ d : List Byte, s.island.audit ≠ BitVec.allOnes 32 →
            let older := (kuwellLegal d).version.toNat < (s.island.running.map fun x => x.version.toNat).getD 0
            exec (.ukU d) s = .next (s.onIsland fun i => if kuwellLegalOk d = false then { i with ukTx := "! 05" }
              else if older then { i with ukTx := "! 06" }
              else { i with
                image := i.image.set (otherArea i.active) (some (kuwellLegal d)), nextImage := some (otherArea i.active)
                ukTx := "= OK" }))))
  ∧ (∀ s : State, s.island.state = .selfTest ∨ s.island.state = .inhibited →
      exec .displayFrame s = .next (s.onIsland fun i => { i with ukTx := i.frame, shownAt := some s.now }))
  ∧ ∀ s : State, exec .showIdEnd s = .next (s.onIsland fun i => { i with showId := false })

/-- A weighing result gives each cell's ratio, and the gross weight splits into what is shown and the zero; a measured
correction is held at its bounds, and a slice beyond them is marked; the island's temperature is kept. -/
def Obligations.WeighingResults : Prop :=
  ∀ s : State, (s.island.state = .operational ∨ s.island.state = .inhibited) →
    (∀ (sig : Vector (BitVec 24) 4) (sns drv : BitVec 24) (vdda : Int) (z r : List (Fin 5 × Rat)),
      s.island.deciding = none → Answers (.weighingResult sig sns drv vdda z r) s fun t =>
        (∀ n : Fin 4, t.island.r[n] = ratioR sig[n].toInt sns.toInt)
          ∧ t.island.g64 + t.island.z64 = t.island.gross ∧ t.island.results = s.island.results + 1
          ∧ t.island.records = s.island.records ∧ t.island.audit = s.island.audit
          ∧ Reports { s with island := t.island, legal := t.legal } t)
    ∧ (∀ (n : Fin 5) (o g x : Int), Answers (.sliceRotation n o g x) s fun t =>
        let p := s.island.lp 0x15
        let y := (limitTo o (-(bits p 0 8 : Int)) (bits p 0 8), limitTo g (-(bits p 8 8 : Int)) (bits p 8 8),
          limitTo x (-(bits p 16 7 : Int)) (bits p 16 7))
        t.island.corr[n] = y ∧ (y ≠ (o, g, x) → t.island.marked.getLsbD n.val = true)
          ∧ (y = (o, g, x) → t.island.marked = s.island.marked)
          ∧ t.island.records = s.island.records ∧ Reports { s with island := t.island } t)
    ∧ ∀ x : Int, exec (.islandTemp x) s = .next (s.onIsland fun i => { i with temp := x })

/-! ### Grit (15_grit) -/

/-- A complete entropy input is released, and instantiates or reseeds the instance of its turn, or is discarded; a
request fills the buffer of its instance, and a window draws its words from there, the low half first. -/
def Obligations.GritGenerates : Prop :=
  ∀ s : State,
    (∀ (e : List Bool × Nat) (l : List (List Bool × Nat)), s.grit.complete = e :: l → s.grit.released = none →
      exec .entropyInputRelease s = .next (s.onGrit fun g => { g with complete := l, released := some e }))
    ∧ (∀ (l : List Bool) (n : Nat) (i : Fin 10), s.grit.released = some (l, n) → i.val = n % 10 →
        let d := s.grit.inst[i]
        (d.ready = false → s.instServed i = true → exec .reseedSlot s = .next ((s.onGrit fun g => { g with
            released := none, applied := g.applied + 1
            inst := vmod g.inst i (Drbg.instantiate (bitsToBytes l) (bytesBE s.ao.instCount.toNat 8)
              (bytesBE i.val 2 ++ bytesBE s.ao.time.toNat 6)) }).onAo fun a => { a with instCount := a.instCount + 1 }))
        ∧ (d.ready = true → 1024 ≤ d.c → exec .reseedSlot s = .next (s.onGrit fun g => { g with
            released := none, applied := g.applied + 1, inst := vmod g.inst i (Drbg.reseed (bitsToBytes l)) }))
        ∧ (d.ready = true → d.c < 1024 → exec .reseedSlot s = .next (s.onGrit fun g => { g with
            released := none, discarded := g.discarded + 1 })))
    ∧ (∀ i : Fin 10, (s.grit.inst[i]).ready = true → (s.grit.inst[i]).c < 65536 → s.grit.blocked = false →
        s.grit.waiting i ≤ 4 → Answers (.generateRequest i) s fun t =>
          let p := (s.grit.inst[i]).generate
          t.grit.inst[i] = p.2 ∧ (∀ k : Fin 10, k ≠ i → t.grit.inst[k] = s.grit.inst[k])
          ∧ Reports (s.onGrit fun g => ({ g with inst := g.inst.set i p.2 } : Grit).deliver i p.1) t)
    ∧ (∀ (w : Fin 9) (x : Par) (l : List Par), s.randServes w = true → w ≠ 0 → (s.grit.rand[w]).words = x :: l →
        exec (.randLoRead w) s = .next ((s.onGrit fun g => { g with rand := vmod g.rand w fun _ =>
          { words := l, latch := BitVec.setWidth 16 (x >>> 16), valid := true } }).drive (BitVec.setWidth 16 x)))
    ∧ (∀ (x : Par) (l : List Par), s.randServes 0 = true → (s.grit.rand[(0 : Fin 9)]).words = x :: l →
        exec (.randLoRead 0) s = .next (((s.onGrit fun g => { g with rand := vmod g.rand 0 fun _ =>
          { words := l, latch := BitVec.setWidth 16 (x >>> 16), valid := true } }).onGrit Grit.rawMove).drive
            (BitVec.setWidth 16 x)))
    ∧ (∀ w : Fin 9, s.randServes w = true → (s.grit.rand[w]).words = [] → exec (.randLoRead w) s
        = .next ((s.onGrit fun g => { g with rand := vmod g.rand w fun r => { r with latch := 0, valid := false } }).drive
            0))
    ∧ ∀ w : Fin 9, s.randServes w = true → exec (.randHiRead w) s = .next ((s.drive (s.grit.rand[w]).latch).onGrit
        fun g => { g with rand := vmod g.rand w fun r => { r with latch := 0 } })

/-- A source whose test window fails is FAILED, and the other one takes over; alone, or on its standby, it leaves the
active source as it is; restored it stands by. Each firing of a source is tested for repetition and taken. grit.ctrl
and grit.raw_cfg: RAW blocks the output with every buffer emptied, SWITCH exchanges the sources, and a new selection
of raw bits discards those on their way. -/
def Obligations.GritSources : Prop :=
  (∀ (s : State) (x : Fin 2), s.pwr.mgRunning = true →
     let fails (ra rb : Nat) (l : List Bool) : Bool :=
       aliveFails ra (s.fuse.ring[if x = 0 then (0 : Fin 4) else 2]) || aliveFails rb (s.fuse.ring[if x = 0 then (1 : Fin 4) else 3])
         || (l.length = 1024 && lockFails l)
     (∀ (ra rb : Nat) (l : List Bool), fails ra rb l = false → (s.grit.source[x]).role = .active →
       exec (.healthTest x ra rb l) s = .next (s.onGrit fun g => { g with
         osc := fld (sat ra 65535) 0 ||| fld (sat rb 65535) 16 }))
     ∧ (∀ (ra rb : Nat) (l : List Bool), fails ra rb l = true → (s.grit.source[x]).role = .active →
         (s.grit.source[otherSource x]).role = .standby → Answers (.healthTest x ra rb l) s fun t =>
           (t.grit.source[x]).role = .failed ∧ (t.grit.source[otherSource x]).role = .active
             ∧ t.grit.switches = s.grit.switches + 1 ∧ t.grit.gather = [] ∧ t.grit.complete = []
             ∧ t.grit.inst = s.grit.inst ∧ Reports { s with grit := t.grit } t)
     ∧ (∀ (ra rb : Nat) (l : List Bool), fails ra rb l = true → (s.grit.source[x]).role = .standby →
         Answers (.healthTest x ra rb l) s fun t => (t.grit.source[x]).role = .failed
           ∧ t.grit.source[otherSource x] = s.grit.source[otherSource x] ∧ t.grit.switches = s.grit.switches
           ∧ Reports { s with grit := t.grit } t)
     ∧ ((s.grit.source[x]).role = .failed → (s.grit.source[otherSource x]).role ≠ .failed →
         Answers (.gritRestored x) s fun t => (t.grit.source[x]).role = .standby
           ∧ t.grit.source[otherSource x] = s.grit.source[otherSource x] ∧ Reports { s with grit := t.grit } t)
     ∧ (∀ b : Bool, ((s.grit.source[x]).repeatTest b).2 = false → exec (.latchFiring x b) s
         = .next ((s.onSource x fun q => (q.repeatTest b).1).onGrit fun g => g.takeBit x b))
     ∧ (∀ b : Bool, ((s.grit.source[x]).repeatTest b).2 = true → (s.grit.source[x]).role = .standby → s.grit.raw = false →
         Answers (.latchFiring x b) s fun t => (t.grit.source[x]).role = .failed
           ∧ t.grit.failRepeat = satInc s.grit.failRepeat ∧ Reports { s with grit := t.grit } t))
  ∧ ∀ (s u : State) (w : Fin 11) (v x : Par) (r : ParRow),
      (Takes s w 0x3401 (withBit v 0) r u x → bit x 0 = true → bit x 1 = false → u.grit.blocked = false →
        Answers (.raw w v) s fun t => t.grit.raw = true ∧ t.grit.rawFifo = [] ∧ t.grit.rawBits = []
          ∧ (∀ k : Fin 9, (t.grit.rand[k]).words = []) ∧ t.grit.devWords = [] ∧ t.grit.inst = u.grit.inst
          ∧ Reports (wrote w 0x3401 0 { u with grit := t.grit }) t)
      ∧ (Takes s w 0x3401 (withBit v 1) r u x → bit x 0 = false → bit x 1 = true → u.grit.raw = false →
          (u.grit.source[(0 : Fin 2)]).role = .active → Answers (.switch w v) s fun t =>
            (t.grit.source[(1 : Fin 2)]).role = .active ∧ (t.grit.source[(0 : Fin 2)]).role = .standby
            ∧ t.grit.switches = u.grit.switches + 1 ∧ t.grit.gather = []
            ∧ Reports (wrote w 0x3401 0 { u with grit := t.grit }) t)
      ∧ (Takes s w 0x3402 v r u x → exec (.rawCfgWrite w v) s = .next (wrote w 0x3402 0 (u.onGrit fun g => { g with
          rawCfg := BitVec.setWidth 2 x, rawBits := [], rawFifo := []
          rand := vmod g.rand 0 fun r => { r with words := [] } })))

/-! ### Serial ports (16_serial) -/

/-- The owner of a port writes and reads its characters, sends a break and flushes its FIFOs; an idle port sends at
once, and a full one counts what it loses. A window that is not served reads a port as empty, and as 0 in HOLD. -/
def Obligations.SerialRegisters : Prop :=
  (∀ (s : State) (v : Fin 8) (p : Fin 3), s.pwr.mgRunning = true → s.winServes v = false → p ≠ 0 →
    exec (.serDataRead (viWin v) p) s = .next (s.drive (if s.pwr.mode = .hold then 0 else 0xF000)))
  ∧ ∀ (s : State) (v : Fin 8) (p : Fin 3), s.serOwns v p = true → p ≠ 0 →
    let q := s.ser.port[p]
    let w := viWin v
    (∀ x : Word, q.tx.length < 64 → q.sending ≠ none → exec (.serDataWrite w p x) s
      = .next (s.onSer p fun q => { q with tx := q.tx ++ [BitVec.setWidth 8 x] }))
    ∧ (∀ x : Word, q.tx = [] → q.sending = none → q.breakReq = none → s.serRuns = true → bit (s.serCfg p) 16 = true →
        exec (.serDataWrite w p x) s = .next (s.onSer p fun q => { q with
          sending := some (false, (BitVec.setWidth 8 x : Byte).toNat % (if bit (s.serCfg p) 17 then 128 else 256))
          txCfg := s.serCfg p }))
    ∧ (∀ x : Word, 64 ≤ q.tx.length → Answers (.serDataWrite w p x) s fun t =>
        Reports (s.onSer p fun q => { q with errTxLost := satInc q.errTxLost }) t)
    ∧ (∀ (e : Word) (l : List Word), q.rx = e :: l → exec (.serDataRead w p) s
        = .next ((s.onSer p fun q => { q with rx := l, rxArmed := true }).drive e))
    ∧ (q.rx = [] → exec (.serDataRead w p) s = .next ((s.onSer p fun q => { q with rxArmed := true }).drive 0xF000))
    ∧ ∀ x : Word, x.getLsbD 12 = decide (p = 2) → q.sending ≠ none →
        (x.getLsbD 14 = false → x.getLsbD 15 = false → exec (.sendBreak w x) s
          = .next (s.onSer p fun q => { q with breakReq := some (x.toNat % 4096) }))
        ∧ (x.getLsbD 13 = false → x.getLsbD 15 = false →
            exec (.flushRx w x) s = .next (s.onSer p fun q => { q with rx := [] }))
        ∧ (x.getLsbD 13 = false → x.getLsbD 14 = false →
            exec (.flushTx w x) s = .next (s.onSer p fun q => { q with tx := [] }))

/-- What arrives at a port that receives is put behind what waits, a character or a break; a character sent makes room
for the next; the receive timeout is told once; a trim measurement sets every divider; a change of owner hands a port
over empty. -/
def Obligations.SerialPortsRun : Prop :=
  ∀ (s : State) (p : Fin 3), s.serRuns = true → p ≠ 0 →
    let q := s.ser.port[p]
    let cfg := s.serCfg p
    (∀ (c : Byte) (par : Bool), bit cfg 16 = true → bits cfg 18 2 = 0 → q.rx.length < 63 → bits cfg 24 7 = 0 →
      exec (.characterReceived p c par true) s = .next (s.onSer p fun q => { q with
        rx := q.rx ++ [BitVec.ofNat 16 (c.toNat % (if bit cfg 17 then 128 else 256))] }))
    ∧ (∀ n : Nat, bit cfg 16 = true → frameLength cfg + 1 ≤ n → q.rx.length < 63 → Answers (.breakRx p n) s fun t =>
        (t.ser.port[p]).rx = q.rx ++ [BitVec.ofNat 16 (0x3000 + sat n 4095)]
          ∧ Reports (s.onSer p fun _ => t.ser.port[p]) t)
    ∧ (q.sending ≠ none → q.nextOwner = none → q.breakReq = none → q.tx = [] → exec (.characterSent p) s
        = .next (s.onSer p fun q => { q with sending := none }))
    ∧ (∀ (b : Byte) (l : List Byte), q.sending ≠ none → q.nextOwner = none → q.breakReq = none → q.tx = b :: l →
        bit cfg 16 = true → s.pwr.mode ≠ .hold → exec (.characterSent p) s = .next (s.onSer p fun q => { q with
          tx := l, sending := some (false, b.toNat % (if bit cfg 17 then 128 else 256)), txCfg := cfg }))
    ∧ (q.rx ≠ [] → q.rxArmed = true → bits cfg 24 7 ≠ 0 → Answers (.serRxTimeout p) s fun t =>
        Reports (s.onSer p fun q => { q with rxArmed := false }) t)
    ∧ (∀ f : Word, s.trims = true → Answers (.trimMeasure f) s fun t => t.ser.fMeas = f ∧ t.ser.trimming = true
        ∧ (∀ k : Fin 3, (t.ser.port[k]).divT = BitVec.ofNat 16 (trimDivider (s.serCfg k) f)
            ∧ (t.ser.port[k]).rx = (s.ser.port[k]).rx ∧ (t.ser.port[k]).tx = (s.ser.port[k]).tx)
        ∧ Reports { s with ser := t.ser } t)
    ∧ ∀ (w : Fin 11) (v x : Par) (r : ParRow) (u : State), Takes s w 0x3500 v r u x →
        (∀ k : Fin 3, (u.ser.port[k]).sending = none) → Answers (.ownerChange w v) s fun t =>
          (∀ k : Fin 2, t.ser.owner[k] = BitVec.ofNat 4 (bits x (4 * k.val) 4))
          ∧ (∀ k : Fin 2, u.ser.owner[k] ≠ BitVec.ofNat 4 (bits x (4 * k.val) 4) →
              (t.ser.port[k.succ]).rx = [] ∧ (t.ser.port[k.succ]).tx = [])
          ∧ t = wrote w 0x3500 0 { u with ser := t.ser, par := t.par }

/-! ### The Ryine link (17_ryine) -/

/-- A frame is queued behind the others with the next SEQ, where there is room and it supersedes none. The frame of
the lowest type is transmitted, a SYNC with the device time; what ends its transmission is counted; a frame that lost
its slot goes back to the front of the queue unless it is superseded, and one with an error is tried again as often as
the parameter says. -/
def Obligations.FramesAreTransmitted : Prop :=
  (∀ (s : State) (t : BitVec 4) (dst : BitVec 5) (p : List Byte), s.link.room = true → ryineSupersedes t = false →
     s.queueFrame t dst p = s.onLink fun l => { l with
       nextSeq := l.nextSeq + 1
       queue := l.queue ++ [{ type := t, dst := dst, payload := p, src := BitVec.ofNat 4 l.nid.val, seq := l.nextSeq
                              attempts := 0 }] })
  ∧ (∀ (s : State) (x : Byte) (f : RyFrame) (l : List RyFrame), s.link.live = true → s.link.sending = none →
      s.pwr.stageBegun = false → lowestType s.link.queue = some (f, l) →
      (f.type ≠ 0 → exec (.frameTransmit x) s
        = .next (s.onLink fun k => { k with queue := l, sending := some f }).topData)
      ∧ (f.type = 0 → Answers (.frameTransmit x) s fun t =>
          (t.link.sending.map fun g => (g.type, g.payload)) = some (f.type, bytesBE s.ao.time.toNat 6 ++ [x])
            ∧ t.paper = s.paper ∧ t.vi = s.vi ∧ t.island = s.island))
    ∧ ∀ (s : State) (f : RyFrame), s.link.sending = some f →
        let same (t : State) : Prop := t.link.sending = none ∧ t.paper = s.paper ∧ t.vi = s.vi ∧ t.island = s.island
          ∧ t.pwr = s.pwr
        Answers (.transmitEnd 0) s (fun t => same t ∧ t.link.framesSent = s.link.framesSent + 1
          ∧ t.link.tecCount = s.link.tecCount - 1)
        ∧ (ryineSupersedes f.type = false → Answers (.transmitEnd 1) s fun t => same t
            ∧ t.link.arbLoss = s.link.arbLoss + 1 ∧ t.link.queue.head? = some f)
        ∧ (ryineSupersedes f.type = true → Answers (.transmitEnd 2) s fun t => same t
            ∧ t.link.lateLoss = s.link.lateLoss + 1 ∧ t.link.superseded = s.link.superseded + 1)
        ∧ (f.attempts + 1 < s.parN 0x360C → Answers (.transmitEnd 3) s fun t => same t
            ∧ t.link.tecCount = s.link.tecCount + 8 ∧ t.link.errBit = satInc s.link.errBit
            ∧ t.link.queue.head? = some { f with attempts := f.attempts + 1 })
        ∧ (s.parN 0x360C ≤ f.attempts + 1 → Answers (.transmitEnd 6) s fun t => same t
            ∧ t.link.ackErr = satInc s.link.ackErr ∧ t.link.exhausted = s.link.exhausted + 1
            ∧ t.link.tecCount = s.link.tecCount)

/-- The station sends its time as master and its capacity; an error it sees is counted; off the bus it recovers where it
may; ryine.ctrl and ryine.evt_tx ask for a recovery and for an event frame. -/
def Obligations.LinkRuns : Prop :=
  (∀ (s : State) (k : Fin 3), s.link.live = true → Answers (.receiveError k) s fun t =>
    t.link.recCount = sat (s.link.recCount + 1) 511 ∧ (k = 1 → t.link.errCrc = satInc s.link.errCrc)
      ∧ Reports { s with link := t.link } t)
  ∧ (∀ s : State, s.link.live = true → s.timeRole = 1 →
      exec .syncPeriod s = .next (s.queueFrame 0 31 (bytesBE 0 7)))
  ∧ (∀ s : State, s.link.live = true → Answers .capPeriod s fun t =>
      (∀ h : Fin 4, t.link.ownCap[h] = s.ownAdvert h) ∧ t = { s with link := t.link })
  ∧ (∀ s : State, s.link.state = .busOff → s.autoRecover = true ∨ s.link.recovering = true →
      Answers .busOffRecovery s fun t => t.link.state = .active ∧ t.link.tecCount = 0 ∧ t.link.recCount = 0
        ∧ t.link.recovering = false ∧ Reports { s with link := t.link } t)
  ∧ (∀ (s u : State) (w : Fin 11) (v x : Par) (r : ParRow),
      (Takes s w 0x3613 (withBit v 0) r u x → bit x 0 = true → u.link.state = .busOff → exec (.recover w v) s
        = .next (wrote w 0x3613 0 (u.onLink fun l => { l with recovering := true })))
      ∧ (Takes s w 0x3612 v r u x → exec (.evtTx w v) s = .next (wrote w 0x3612 0 (u.queueFrame 6
          (BitVec.ofNat 5 (bits x 20 5)) (bytesBE (1048576 * bits x 16 4 + bits x 0 16) 3)))))
  ∧ (∀ s : State, exec .syncLoss s = .next (s.onLink fun l => { l with synced := false, syncRun := 0 }))
  ∧ (∀ s : State, (0 < s.ao.slewLeft → exec .timeSlew s
        = .next (s.onAo fun a => { a with time := a.time + 1, slewLeft := a.slewLeft - 1 }))
      ∧ (s.ao.slewLeft < 0 → s.ao.slewHold = false → exec .timeSlew s
        = .next (s.onAo fun a => { a with slewHold := true, slewLeft := a.slewLeft + 1 })))

/-- A frame addressed to the station from a peer it knows is taken once: a reserved one is only counted, CAP gives the
peer's capacity, EVT an event, SYNC the time of the master. A frame with the station's own number is a conflict, and
takes the link off. A peer not heard for too long is gone. -/
def Obligations.FramesAreTaken : Prop :=
  ∀ (s : State) (src : Fin 16) (seq : BitVec 4) (dst : BitVec 5), s.link.live = true → s.link.addressed dst = true →
    (src = s.link.nid → Answers (.reservedFrame src seq dst) s fun t => t.link.conflict = true ∧ t.link.state = .off
      ∧ t.link.sending = none ∧ Reports { s with link := t.link } t)
    ∧ (src ≠ s.link.nid → (s.link.peer[src]).lastSeq = some seq → exec (.reservedFrame src seq dst) s = .next s)
    ∧ (src ≠ s.link.nid → (s.link.peer[src]).lastSeq ≠ some seq →
        let taken (t : State) : Prop := t.link.framesTaken = s.link.framesTaken + 1 ∧ (t.link.peer[src]).present = true
          ∧ (t.link.peer[src]).seenAt = some s.now ∧ (t.link.peer[src]).lastSeq = some seq
          ∧ (∀ n : Fin 16, n ≠ src → t.link.peer[n] = s.link.peer[n])
        Answers (.reservedFrame src seq dst) s (fun t => taken t ∧ Reports { s with link := t.link } t)
        ∧ (∀ p : List Byte, p.length = 18 → Answers (.cap src seq dst p) s fun t => taken t
            ∧ (∀ h : Fin 4, (t.link.peer[src]).cap[h] = BitVec.ofNat 32 (natBE ((p.drop (4 * h.val)).take 4)))
            ∧ some (t.link.peer[src]).flags = p[16]? ∧ some (t.link.peer[src]).slotsFree = p[17]?
            ∧ (t.link.peer[src]).capAt = some s.now ∧ Reports { s with link := t.link } t)
        ∧ (∀ p : List Byte, p.length = 3 → Answers (.evt src seq dst p) s fun t => taken t
            ∧ Reports { s with link := t.link } t)
        ∧ (∀ (p : List Byte) (age : Nat), p.length = 7 → s.timeRole ≠ 2 → Answers (.sync src seq dst p age) s fun t =>
            taken t ∧ (t.link.peer[src]).syncAt = some s.now ∧ t.ao.time = s.ao.time
              ∧ Reports { s with link := t.link } t)
        ∧ (∀ (p : List Byte) (age : Nat), p.length = 7 → s.timeRole = 2 →
            (∀ n : Fin 16, n ≠ src → (s.link.peer[n]).syncAt = none) → Answers (.sync src seq dst p age) s fun t =>
              let off := s.syncOff p age
              taken t ∧ t.ao.timeValid = true ∧ t.ao.timeSource = 2 ∧ t.link.master = src
              ∧ (256000 ≤ off.natAbs → t.ao.slewLeft = 0 ∧ t.link.syncRun = 0
                  ∧ t.ao.time = BitVec.ofInt 48 ((s.ao.time.toNat : Int) + offMicros off))
              ∧ (off.natAbs < 256000 → t.ao.slewLeft = offMicros off ∧ t.ao.time = s.ao.time
                  ∧ t.link.syncRun = s.link.syncRun + 1)))
    ∧ ((s.link.peer[src]).present = true → (s.remoteJobs.all fun e => e.2.peer ≠ src) = true →
        Answers (.peerTimeout src) s fun t => (t.link.peer[src]).present = false
          ∧ (∀ n : Fin 16, n ≠ src → t.link.peer[n] = s.link.peer[n]) ∧ t.paper = s.paper ∧ t.silt = s.silt
          ∧ t.island = s.island)

/-- A peer answers for a job offered to it: accepted, it is told; refused or abandoned, the job is READY here again;
started, it is noted; done or failed there, it ends here; revoked or too late, it ends CANCELLED. An offer without an
answer takes the job back, a revocation without one ends it. -/
def Obligations.MigrationResults : Prop :=
  (∀ (s u : State) (src : Fin 16) (seq : BitVec 4) (dst : BitVec 5) (id amount : Word) (d : Byte) (time : Par)
      (j : JobRef) (m : Migration), s.takeRyine src seq dst = (true, u) → u.migrated src id = some (j, m) →
      let frame (t : State) : Prop := t.paper = s.paper ∧ t.island = s.island ∧ t.pwr = s.pwr ∧ t.fuse = s.fuse
      let ends (i : Instr) (st : JobState) (n : Nat) : Prop := (u.job j).autofree = false →
        Answers i s fun t => (t.job j).state = st ∧ (t.job j).remote = none ∧ bits (t.job j).word[7] 16 8 = n ∧ frame t
      (m.accepted = false → Answers (.accept src seq dst id d time amount) s fun t =>
        ((t.job j).remote.map fun k => (k.migId, k.peer, k.accepted)) = some (m.migId, m.peer, true) ∧ frame t)
      ∧ (m.revoking = false →
          Answers (.refuse src seq dst id d time amount) s (fun t =>
            (t.job j).state = .ready ∧ (t.job j).remote = none ∧ frame t)
          ∧ Answers (.abandoned src seq dst id d time amount) s (fun t =>
            (t.job j).state = .ready ∧ (t.job j).remote = none ∧ frame t)
          ∧ ends (.done src seq dst id d time amount) .done 0
          ∧ ends (.failed src seq dst id d time amount) .failed 0xA)
      ∧ Answers (.started src seq dst id d time amount) s (fun t =>
          ((t.job j).remote.map fun k => (k.migId, k.started)) = some (m.migId, true) ∧ frame t)
      ∧ (m.revoking = true → ends (.revoked src seq dst id d time amount) .cancelled 2
          ∧ ends (.tooLate src seq dst id d time amount) .cancelled 3
          ∧ ends (.refuse src seq dst id d time amount) .cancelled 2))
  ∧ (∀ (s : State) (j : JobRef) (m : Migration), (s.remoteJobs.find? fun e => !e.2.accepted) = some (j, m) →
      Answers .offerTimeout s fun t => (t.job j).state = .ready ∧ (t.job j).remote = none ∧ t.paper = s.paper
        ∧ t.island = s.island ∧ t.bus = s.bus)
  ∧ ∀ (s : State) (id : Word) (j : JobRef) (m : Migration),
      (s.remoteJobs.find? fun e => e.2.migId = id && e.2.revoking) = some (j, m) → (s.job j).autofree = false →
      Answers (.revokeTimeout id) s fun t => (t.job j).state = .cancelled ∧ bits (t.job j).word[7] 16 8 = 3
        ∧ (id, m.peer, j) ∈ t.link.orphans ∧ t.paper = s.paper ∧ t.island = s.island

/-- What peers ask of the station: an offer is refused with its reason or takes a guest slot, the blocks of an accepted
one are gathered in order, a revoked one gives its slot back or is told too late, and a transfer that does not go on
is abandoned. -/
def Obligations.GuestsArrive : Prop :=
  (∀ (s u : State) (src : Fin 16) (seq : BitVec 4) (dst : BitVec 5) (p : List Byte), s.takeRyine src seq dst = (true, u) →
    let at4 (i : Nat) : Par := BitVec.ofNat 32 (natBE ((p.drop i).take 4))
    let id := BitVec.ofNat 16 (natBE (p.take 2))
    let judged := u.judgeOffer ((p[2]?).getD 0).toNat #v[at4 3, at4 7, at4 11, at4 15] (at4 19).toNat
    (∀ d : Nat, p.length = 25 → judged = .inl d →
      exec (.migOffer src seq dst p) s = .next (u.sendResult src id 2 d 0 0))
    ∧ (∀ (v : Fin 8) (g : Fin 4) (l : List Nat) (q : State), p.length = 25 → judged = .inr (v, g, l, q) →
        Answers (.migOffer src seq dst p) s fun t =>
          (t.link.guest[g].map fun x => (x.node, x.migId, x.vi, x.size, x.reserved)) = some (src, id, v, (at4 19).toNat, l)
            ∧ (t.link.guest[g].map fun x => (x.data, x.nextFrame, x.handle)) = some ([], 0, none)
            ∧ (t.link.peer[src]).acceptedAt = some u.now ∧ t = { q with link := t.link })
    ∧ (∀ (g : Fin 4) (x : GuestSlot), 4 ≤ p.length → u.guestOf src id = some (g, x) → x.handle = none →
        natBE ((p.drop 2).take 2) = x.nextFrame % 65536 → (x.data ++ p.drop 4).length < x.size →
        exec (.migData src seq dst p) s = .next (u.onLink fun l => { l with
          guest := l.guest.set g (some { x with data := x.data ++ p.drop 4, nextFrame := x.nextFrame + 1 }) }))
    ∧ (p.length = 2 →
        let rid := BitVec.ofNat 16 (natBE p)
        (u.guestOf src rid = none → exec (.revoke src seq dst p) s = .next (u.sendResult src rid 6 0 0 0))
        ∧ (∀ (g : Fin 4) (x : GuestSlot), u.guestOf src rid = some (g, x) → x.handle = none →
            exec (.revoke src seq dst p) s = .next ((u.freeGuest g).sendResult src rid 6 0 0 0))
        ∧ (∀ (g : Fin 4) (x : GuestSlot) (i : Handle), u.guestOf src rid = some (g, x) → x.handle = some i →
            (u.job ⟨x.vi, i⟩).state ≠ .ready →
            exec (.revoke src seq dst p) s = .next (u.sendResult src rid 7 0 0 0))))
  ∧ ∀ (s : State) (g : Fin 4) (x : GuestSlot), s.link.guest[g] = some x → x.handle = none →
      Answers (.transferTimeout g) s fun t => t.link.guest[g] = none ∧ t.paper = s.paper ∧ t.vi = s.vi
        ∧ t.loam = s.loam ∧ t.island = s.island

/-! ### The management core (18_management) -/

/-- Completion writes the data words, MW_RSP and MB_DONE, or the R line. MW_BUF reads and writes the halfword at its
pointer, the byte at the lower address in D[15:8], and moves it on; a write while BUSY is ignored. Lines of U0 fill and
return its buffer, or are turned away. -/
def Obligations.MailboxTransfers : Prop :=
  ∀ s : State, s.pwr.mgRunning = true →
    (∀ a : MbAnswer, s.mgmt.answer = some a →
      (a.cmd.source = .window10 →
        let tag : BitVec 4 := BitVec.setWidth 4 a.cmd.tag
        Answers .mbDone s fun t => t.mgmt.rd = a.rd ∧ t.mgmt.rspWord
            = BitVec.ofNat 16 (a.rsp.toNat + 256 * tag.toNat + 0x8000) ∧ t.mgmt.command = none ∧ t.mgmt.answer = none
          ∧ t.bus = (s.raise0 0xC5 (BitVec.setWidth 8 tag) t.mgmt.rspWord).bus
          ∧ Reports { s with mgmt := { s.mgmt with
              rd := t.mgmt.rd, rsp := t.mgmt.rsp, command := none, answer := none } } t)
      ∧ (a.cmd.source = .u0 → exec .mbDone s = .next { s with mgmt := { s.mgmt with
          answer := none, u0Tx := s.mgmt.u0Tx ++ asciiBytes a.line ++ [0x0D] } }))
    ∧ exec .mwBufRead s = .next { s with
        bus := { s.bus with
          d := memRead s.mgmt.buf (2 * s.mgmt.bufPtr.toNat) ++ memRead s.mgmt.buf (2 * s.mgmt.bufPtr.toNat + 1) }
        mgmt := { s.mgmt with bufPtr := s.mgmt.bufPtr + 1 } }
    ∧ (∀ v : Word, (s.mgmt.command.isSome = true → exec (.mwBufWrite v) s = .next s)
      ∧ (s.mgmt.command = none → Answers (.mwBufWrite v) s fun t =>
          memRead t.mgmt.buf (2 * s.mgmt.bufPtr.toNat) = BitVec.extractLsb' 8 8 v
            ∧ memRead t.mgmt.buf (2 * s.mgmt.bufPtr.toNat + 1) = BitVec.setWidth 8 v
            ∧ (∀ i : Nat, i < 2 * s.mgmt.bufPtr.toNat ∨ 2 * s.mgmt.bufPtr.toNat + 2 ≤ i →
                memRead t.mgmt.buf i = memRead s.mgmt.buf i)
            ∧ t = { s with mgmt := { s.mgmt with buf := t.mgmt.buf, bufPtr := s.mgmt.bufPtr + 1 } }))
    ∧ (∀ (off : Nat) (data : List Byte),
      (off + data.length ≤ 4096 → Answers (.u0B off data) s fun t => memReadN t.mgmt.u0Buf off data.length = data
          ∧ (∀ i : Nat, i < off ∨ off + data.length ≤ i → memRead t.mgmt.u0Buf i = memRead s.mgmt.u0Buf i)
          ∧ t = { s with mgmt := { s.mgmt with
              u0Buf := t.mgmt.u0Buf, u0Tx := s.mgmt.u0Tx ++ asciiBytes "= 00" ++ [0x0D] } })
      ∧ (4096 < off + data.length → exec (.u0B off data) s = .next (s.u0Send "! 03")))
    ∧ (∀ off len : Nat,
      (off + len ≤ 4096 → exec (.u0G off len) s = .next (s.u0Send
        ("D " ++ hexText 4 off ++ " " ++ hexText 4 len) (memReadN s.mgmt.u0Buf off len)))
      ∧ (4096 < off + len → exec (.u0G off len) s = .next (s.u0Send "! 03")))
    ∧ exec .u0UnmatchedLine s = .next (s.u0Send "! 06")

/-- INFO returns its sixteen words in the buffer, and LOG_READ the records asked for; a code outside the table is
unknown; from stage 1 of a power-down all but INFO are answered NOT_NOW. A command from U0 while the engine is engaged
is answered BUSY at once, and what the engine serves goes on. -/
def Obligations.EngineReturnsInformation : Prop :=
  (∀ (s : State) (line : Option MLine) (q : MbCommand), EngineTakes s line q →
    let filled (t : State) (l : List Par) : Prop :=
      memReadN (t.mbBuffer q.source) 0 (4 * l.length) = l.flatMap (fun w => bytesBE w.toNat 4)
        ∧ t = { s with
            mgmt := { s.mgmt with answer := t.mgmt.answer, buf := t.mgmt.buf, u0Buf := t.mgmt.u0Buf }, fresh := t.fresh }
    (q.code = 1 → Answers (.info line) s fun t => Answered q mbOk t ∧ filled t s.infoBlock)
    ∧ (s.pwr.stageBegun = true → ∀ e ∈ [(Instr.logRead line, (2 : Byte)), (.updBegin line true, 3),
        (.updChunk line true, 4), (.updEnd line true, 5), (.updAbort line, 6), (.rbCommit line, 7), (.confirm line, 8)],
        q.code = e.2 → Answers e.1 s (OnlyAnswered q mbNotNow s))
    ∧ (s.pwr.stageBegun = false →
      (q.code = 0 ∨ 8 < q.code.toNat → Answers (.mbUnknown line) s (OnlyAnswered q mbUnknown s))
      ∧ (q.code = 2 → let n := q.arg[2].toNat
          (s.pwr.mode.logRead = false → Answers (.logRead line) s (OnlyAnswered q mbNotNow s))
          ∧ (s.pwr.mode.logRead = true → n = 0 ∨ 128 < n → Answers (.logRead line) s (OnlyAnswered q mbBadArg s))
          ∧ (s.pwr.mode.logRead = true → 1 ≤ n → n ≤ 128 → Answers (.logRead line) s fun t =>
              let l := (s.logFrom (q.arg32 0)).take n
              Answered q mbOk t ∧ filled t (l.flatMap fun e => e.1.words e.2)
                ∧ (t.mgmt.answer.map fun a => a.rd[2].toNat) = some l.length))))
  ∧ ∀ (s : State) (l : MLine), s.pwr.mgRunning = true → s.mgmt.engaged = true → l.code = 1 →
      Answers (.info (some l)) s fun t => t.mgmt.answer = s.mgmt.answer ∧ t.mgmt.command = s.mgmt.command
        ∧ t.mgmt.buf = s.mgmt.buf ∧ t.mgmt.u0Buf = s.mgmt.u0Buf
        ∧ ∃ rd : Vector Word 4, t.mgmt.u0Tx = s.mgmt.u0Tx ++ asciiBytes
            (MbAnswer.line ⟨⟨.u0, l.code, l.tag, l.arg⟩, mbBusy, rd⟩) ++ [0x0D]

/-- CONFIRM and TRIAL_CONFIRM clear TRIAL and its count and raise IMAGE_CONFIRMED, and change nothing without a TRIAL
image; RB_COMMIT raises the counter to the sv of the running image and ROLLBACK_RAISED; records are committed oldest
first, and the 4,096 most recent of them stay held. -/
def Obligations.BootRecordAndLogMoveOn : Prop :=
  (∀ s : State,
    let confirmed (t : State) : Prop := t.mgmt.trial = false ∧ t.mgmt.trialBoots = 0 ∧ t.ao.trialHeld = 0
      ∧ t.bus = (s.raise0 0xC7 (byteOf s.preferredArea.val) (((s.mgmt.image[s.preferredArea]).map fun i =>
          BitVec.setWidth 16 i.version).getD 0)).bus
      ∧ Reports { s with
          ao := { s.ao with trialHeld := 0 }
          mgmt := { s.mgmt with trial := false, trialBoots := 0, confirmHeld := false, answer := t.mgmt.answer }
          fresh := t.fresh } t
    (s.pwr.mode.running = true → s.runsTrial = true → s.analog.flashOk = true →
      Answers .trialConfirm s fun t => t.mgmt.answer = s.mgmt.answer ∧ confirmed t)
    ∧ ∀ (line : Option MLine) (q : MbCommand), EngineTakes s line q → s.pwr.stageBegun = false →
      (q.code = 8 → s.pwr.mode.running = true ∨ s.pwr.mode = .service → s.analog.flashOk = true →
        (s.runsTrial = true → Answers (.confirm line) s fun t => Answered q mbOk t ∧ confirmed t)
        ∧ (s.runsTrial = false → Answers (.confirm line) s (OnlyAnswered q mbOk s)))
      ∧ (q.code = 7 → ∀ i : MainImage, s.mainImage = some i →
        (s.runsTrial = true ∨ s.analog.flashOk = false → Answers (.rbCommit line) s (OnlyAnswered q mbNotNow s))
        ∧ (s.pwr.mode = .service → s.runsTrial = false → s.analog.flashOk = true →
          (i.sv ≤ s.mgmt.rollback → Answers (.rbCommit line) s (OnlyAnswered q mbBadArg s))
          ∧ (s.mgmt.rollback < i.sv → i.sv ≤ 64 → Answers (.rbCommit line) s fun t => Answered q mbOk t
              ∧ t.mgmt.rollback = i.sv ∧ t.bus = (s.raise0 0xC6 (byteOf i.sv) (BitVec.ofNat 16 i.sv)).bus
              ∧ Reports { s with
                  mgmt := { s.mgmt with rollback := t.mgmt.rollback, answer := t.mgmt.answer }, fresh := t.fresh } t))))
  ∧ ∀ (s : State) (r : LogRecord) (l : List LogRecord), s.pwr.mgRunning = true → s.mgmt.running.isSome = true →
      s.analog.flashOk = true → s.pwr.pd = none → s.pwr.mode ≠ .hold → s.ao.thermalRecord = none → s.ao.ring = r :: l →
      Answers .logCommit s fun t => t.ao.ring = l
        ∧ (∃ k : Nat, t.mgmt.log = (s.mgmt.log ++ [r]).drop k ∧ (k = 0 ∨ 4096 ≤ t.mgmt.log.length))
        ∧ t = { s with
            ao := { s.ao with ring := t.ao.ring }
            mgmt := { s.mgmt with
              log := t.mgmt.log, sectorFill := (s.mgmt.sectorFill + 1) % 128, eraseOwed := false } }

/-- UPD_BEGIN opens a session of its source in UPDATE over the area that does not run; UPD_CHUNK takes the bytes that
come next and refuses others with ORDER or BAD_ARG; UPD_END of a container that passes its checks puts the target area
first, in TRIAL; a failed epoch check keeps the session; UPD_ABORT and 60 s without a command end it FAILED with both
areas as they are. -/
def Obligations.UpdateSessions : Prop :=
  (∀ (s : State) (line : Option MLine) (q : MbCommand), EngineTakes s line q → s.pwr.stageBegun = false →
    let rest (t : State) : Prop := t.mgmt.rollback = s.mgmt.rollback ∧ t.fuse = s.fuse ∧ t.paper = s.paper
      ∧ t.silt = s.silt ∧ t.link = s.link ∧ t.island = s.island ∧ t.mgmt.running = s.mgmt.running
    let target := otherArea (s.mgmt.running.getD s.preferredArea)
    let area (t : State) (m : Option MainImage) : Prop := t.mgmt.image[target] = m
      ∧ t.mgmt.image[otherArea target] = s.mgmt.image[otherArea target]
    (q.code = 3 → s.mgmt.session = none → s.pwr.mode = .service → 257 ≤ q.arg32 0 → q.arg32 0 ≤ 1048576 →
      s.analog.flashOk = true → Answers (.updBegin line true) s fun t => Answered q mbOk t
        ∧ t.mgmt.session = some { source := q.source, length := q.arg32 0, received := [] }
        ∧ t.mgmt.update = .receiving ∧ t.pwr.mode = .update ∧ area t none ∧ t.mgmt.preferred = s.mgmt.preferred ∧ rest t)
    ∧ (∀ x : Session, s.mgmt.session = some x → x.source = q.source →
      let n := q.arg[0].toNat
      let data := memReadN (s.mbBuffer q.source) 0 n
      let kept (r : Byte) (y : Session) (t : State) : Prop := Answered q r t ∧ t.mgmt.session = some y
        ∧ t.mgmt.updateRsp = r ∧ t.mgmt.update = s.mgmt.update ∧ t.mgmt.preferred = s.mgmt.preferred ∧ t.pwr = s.pwr
        ∧ rest t
      let ended (t : State) : Prop := t.mgmt.session = none ∧ t.mgmt.update = .failed ∧ t.mgmt.image = s.mgmt.image
        ∧ t.mgmt.preferred = s.mgmt.preferred ∧ t.mgmt.trial = s.mgmt.trial
        ∧ (s.pwr.mode = .update → t.pwr.mode = .service) ∧ rest t
      (q.code = 4 → 1 ≤ n → n ≤ 4096 →
        (q.arg32 1 ≠ x.received.length → ∀ b : Bool, Answers (.updChunk line b) s (kept mbOrder x))
        ∧ (q.arg32 1 = x.received.length →
          (x.length < x.received.length + n → ∀ b : Bool, Answers (.updChunk line b) s (kept mbBadArg x))
          ∧ (x.received.length + n ≤ x.length → (x.received = [] → kuwellFormat data = true
              ∧ kuwellLength data = x.length ∧ kuwellKind data = 1) → Answers (.updChunk line true) s fun t =>
                kept mbOk { x with received := x.received ++ data } t
                  ∧ t.mgmt.updateBytes = BitVec.ofNat 32 (x.received.length + n))))
      ∧ (q.code = 5 →
        let m := kuwellMain x.received
        (x.received.length < x.length → ∀ b : Bool, Answers (.updEnd line b) s (kept mbBadArg x))
        ∧ (x.length ≤ x.received.length → s.pwr.mode ≠ .hold → Answers (.updEnd line true) s fun t =>
            let code := kuwellCheck x.received s.mgmt.rollback
            let st := Config.stepping.toNat % 65536
            let lost := t.mgmt.session = none ∧ t.mgmt.update = .failed ∧ area t none
              ∧ t.mgmt.preferred = s.mgmt.preferred ∧ (s.pwr.mode = .update → t.pwr.mode = .service)
            rest t
            ∧ (if code ≠ 0 then Answered q code t ∧ lost
              else if st < m.stepLo.toNat ∨ m.stepHi.toNat < st then Answered q mbStepping t ∧ lost
              else if s.updEpoch m = some true ∧ (q.arg[0]).getLsbD 0 = false then
                Answered q mbEpoch t ∧ t.mgmt.session = some x ∧ t.mgmt.update = .epochHeld
                  ∧ t.mgmt.image = s.mgmt.image ∧ t.mgmt.preferred = s.mgmt.preferred ∧ t.pwr = s.pwr
              else Answered q mbOk t ∧ t.mgmt.session = none ∧ area t (some m) ∧ t.mgmt.preferred = target
                ∧ t.mgmt.trial = true ∧ t.mgmt.trialBoots = 0 ∧ t.ao.trialHeld = 0
                ∧ (s.pwr.mode = .update → t.pwr.mode = .service) ∧ t.mgmt.update = .done)))
      ∧ (q.code = 6 → Answers (.updAbort line) s fun t => Answered q mbOk t ∧ ended t)))
  ∧ ∀ s : State, (s.mgmt.session = none → exec .sessionTimeout s = .next s)
      ∧ (s.mgmt.session.isSome = true → Answers .sessionTimeout s fun t => t.mgmt.session = none
          ∧ t.mgmt.update = .failed ∧ t.mgmt.image = s.mgmt.image ∧ t.mgmt.preferred = s.mgmt.preferred
          ∧ (s.pwr.mode = .update → t.pwr.mode = .service) ∧ t.paper = s.paper ∧ t.silt = s.silt
          ∧ t.link = s.link ∧ t.island = s.island)

end
end

