-- ==== Sys2Proof/Laws/State.lean ====
section
/-! SUPPORT. One lemma per field for each update of a part of the state, and the laws of one element of a vector
changed, so that no proof unfolds an update. -/

namespace Sys2Proof.Machine

/-- Reading back the element that was changed. -/
@[simp] theorem vmod_self {α : Type} {n : Nat} (v : Vector α n) (i : Fin n) (f : α → α) : (vmod v i f)[i] = f v[i] := by
  simp [vmod]

/-- Every other element is as before. -/
theorem vmod_other {α : Type} {n : Nat} (v : Vector α n) (i j : Fin n) (f : α → α) (h : i ≠ j) :
    (vmod v i f)[j] = v[j] := by
  have : i.val ≠ j.val := fun e => h (Fin.ext e)
  simp [vmod, this]

/-- The changed element, by its number. -/
@[simp] theorem vmod_val {α : Type} {n : Nat} (v : Vector α n) (i : Fin n) (f : α → α) :
    (vmod v i f)[i.val] = f v[i.val] := by
  simp [vmod]

/-- Two changes of one element are one. -/
@[simp] theorem vmod_vmod {α : Type} {n : Nat} (v : Vector α n) (i : Fin n) (f g : α → α) :
    vmod (vmod v i f) i g = vmod v i fun y => g (f y) := by
  simp [vmod]

/-! ### onAo -/

@[simp] theorem State.onAo_part (s : State) (f : Ao → Ao) :
    (s.onAo f).part = s.part := rfl
@[simp] theorem State.onAo_fuse (s : State) (f : Ao → Ao) :
    (s.onAo f).fuse = s.fuse := rfl
@[simp] theorem State.onAo_now (s : State) (f : Ao → Ao) :
    (s.onAo f).now = s.now := rfl
@[simp] theorem State.onAo_fresh (s : State) (f : Ao → Ao) :
    (s.onAo f).fresh = s.fresh := rfl
@[simp] theorem State.onAo_ao (s : State) (f : Ao → Ao) :
    (s.onAo f).ao = f s.ao := rfl
@[simp] theorem State.onAo_pwr (s : State) (f : Ao → Ao) :
    (s.onAo f).pwr = s.pwr := rfl
@[simp] theorem State.onAo_bus (s : State) (f : Ao → Ao) :
    (s.onAo f).bus = s.bus := rfl
@[simp] theorem State.onAo_vi (s : State) (f : Ao → Ao) :
    (s.onAo f).vi = s.vi := rfl
@[simp] theorem State.onAo_par (s : State) (f : Ao → Ao) :
    (s.onAo f).par = s.par := rfl
@[simp] theorem State.onAo_loam (s : State) (f : Ao → Ao) :
    (s.onAo f).loam = s.loam := rfl
@[simp] theorem State.onAo_silt (s : State) (f : Ao → Ao) :
    (s.onAo f).silt = s.silt := rfl
@[simp] theorem State.onAo_marl (s : State) (f : Ao → Ao) :
    (s.onAo f).marl = s.marl := rfl
@[simp] theorem State.onAo_paper (s : State) (f : Ao → Ao) :
    (s.onAo f).paper = s.paper := rfl
@[simp] theorem State.onAo_analog (s : State) (f : Ao → Ao) :
    (s.onAo f).analog = s.analog := rfl
@[simp] theorem State.onAo_island (s : State) (f : Ao → Ao) :
    (s.onAo f).island = s.island := rfl
@[simp] theorem State.onAo_legal (s : State) (f : Ao → Ao) :
    (s.onAo f).legal = s.legal := rfl
@[simp] theorem State.onAo_grit (s : State) (f : Ao → Ao) :
    (s.onAo f).grit = s.grit := rfl
@[simp] theorem State.onAo_ser (s : State) (f : Ao → Ao) :
    (s.onAo f).ser = s.ser := rfl
@[simp] theorem State.onAo_link (s : State) (f : Ao → Ao) :
    (s.onAo f).link = s.link := rfl
@[simp] theorem State.onAo_mgmt (s : State) (f : Ao → Ao) :
    (s.onAo f).mgmt = s.mgmt := rfl
@[simp] theorem State.onAo_pending (s : State) (f : Ao → Ao) :
    (s.onAo f).pending = s.pending := rfl

/-! ### onPwr -/

@[simp] theorem State.onPwr_part (s : State) (f : Pwr → Pwr) :
    (s.onPwr f).part = s.part := rfl
@[simp] theorem State.onPwr_fuse (s : State) (f : Pwr → Pwr) :
    (s.onPwr f).fuse = s.fuse := rfl
@[simp] theorem State.onPwr_now (s : State) (f : Pwr → Pwr) :
    (s.onPwr f).now = s.now := rfl
@[simp] theorem State.onPwr_fresh (s : State) (f : Pwr → Pwr) :
    (s.onPwr f).fresh = s.fresh := rfl
@[simp] theorem State.onPwr_ao (s : State) (f : Pwr → Pwr) :
    (s.onPwr f).ao = s.ao := rfl
@[simp] theorem State.onPwr_pwr (s : State) (f : Pwr → Pwr) :
    (s.onPwr f).pwr = f s.pwr := rfl
@[simp] theorem State.onPwr_bus (s : State) (f : Pwr → Pwr) :
    (s.onPwr f).bus = s.bus := rfl
@[simp] theorem State.onPwr_vi (s : State) (f : Pwr → Pwr) :
    (s.onPwr f).vi = s.vi := rfl
@[simp] theorem State.onPwr_par (s : State) (f : Pwr → Pwr) :
    (s.onPwr f).par = s.par := rfl
@[simp] theorem State.onPwr_loam (s : State) (f : Pwr → Pwr) :
    (s.onPwr f).loam = s.loam := rfl
@[simp] theorem State.onPwr_silt (s : State) (f : Pwr → Pwr) :
    (s.onPwr f).silt = s.silt := rfl
@[simp] theorem State.onPwr_marl (s : State) (f : Pwr → Pwr) :
    (s.onPwr f).marl = s.marl := rfl
@[simp] theorem State.onPwr_paper (s : State) (f : Pwr → Pwr) :
    (s.onPwr f).paper = s.paper := rfl
@[simp] theorem State.onPwr_analog (s : State) (f : Pwr → Pwr) :
    (s.onPwr f).analog = s.analog := rfl
@[simp] theorem State.onPwr_island (s : State) (f : Pwr → Pwr) :
    (s.onPwr f).island = s.island := rfl
@[simp] theorem State.onPwr_legal (s : State) (f : Pwr → Pwr) :
    (s.onPwr f).legal = s.legal := rfl
@[simp] theorem State.onPwr_grit (s : State) (f : Pwr → Pwr) :
    (s.onPwr f).grit = s.grit := rfl
@[simp] theorem State.onPwr_ser (s : State) (f : Pwr → Pwr) :
    (s.onPwr f).ser = s.ser := rfl
@[simp] theorem State.onPwr_link (s : State) (f : Pwr → Pwr) :
    (s.onPwr f).link = s.link := rfl
@[simp] theorem State.onPwr_mgmt (s : State) (f : Pwr → Pwr) :
    (s.onPwr f).mgmt = s.mgmt := rfl
@[simp] theorem State.onPwr_pending (s : State) (f : Pwr → Pwr) :
    (s.onPwr f).pending = s.pending := rfl

/-! ### onBus -/

@[simp] theorem State.onBus_part (s : State) (f : Bus → Bus) :
    (s.onBus f).part = s.part := rfl
@[simp] theorem State.onBus_fuse (s : State) (f : Bus → Bus) :
    (s.onBus f).fuse = s.fuse := rfl
@[simp] theorem State.onBus_now (s : State) (f : Bus → Bus) :
    (s.onBus f).now = s.now := rfl
@[simp] theorem State.onBus_fresh (s : State) (f : Bus → Bus) :
    (s.onBus f).fresh = s.fresh := rfl
@[simp] theorem State.onBus_ao (s : State) (f : Bus → Bus) :
    (s.onBus f).ao = s.ao := rfl
@[simp] theorem State.onBus_pwr (s : State) (f : Bus → Bus) :
    (s.onBus f).pwr = s.pwr := rfl
@[simp] theorem State.onBus_bus (s : State) (f : Bus → Bus) :
    (s.onBus f).bus = f s.bus := rfl
@[simp] theorem State.onBus_vi (s : State) (f : Bus → Bus) :
    (s.onBus f).vi = s.vi := rfl
@[simp] theorem State.onBus_par (s : State) (f : Bus → Bus) :
    (s.onBus f).par = s.par := rfl
@[simp] theorem State.onBus_loam (s : State) (f : Bus → Bus) :
    (s.onBus f).loam = s.loam := rfl
@[simp] theorem State.onBus_silt (s : State) (f : Bus → Bus) :
    (s.onBus f).silt = s.silt := rfl
@[simp] theorem State.onBus_marl (s : State) (f : Bus → Bus) :
    (s.onBus f).marl = s.marl := rfl
@[simp] theorem State.onBus_paper (s : State) (f : Bus → Bus) :
    (s.onBus f).paper = s.paper := rfl
@[simp] theorem State.onBus_analog (s : State) (f : Bus → Bus) :
    (s.onBus f).analog = s.analog := rfl
@[simp] theorem State.onBus_island (s : State) (f : Bus → Bus) :
    (s.onBus f).island = s.island := rfl
@[simp] theorem State.onBus_legal (s : State) (f : Bus → Bus) :
    (s.onBus f).legal = s.legal := rfl
@[simp] theorem State.onBus_grit (s : State) (f : Bus → Bus) :
    (s.onBus f).grit = s.grit := rfl
@[simp] theorem State.onBus_ser (s : State) (f : Bus → Bus) :
    (s.onBus f).ser = s.ser := rfl
@[simp] theorem State.onBus_link (s : State) (f : Bus → Bus) :
    (s.onBus f).link = s.link := rfl
@[simp] theorem State.onBus_mgmt (s : State) (f : Bus → Bus) :
    (s.onBus f).mgmt = s.mgmt := rfl
@[simp] theorem State.onBus_pending (s : State) (f : Bus → Bus) :
    (s.onBus f).pending = s.pending := rfl

/-! ### onVi -/

@[simp] theorem State.onVi_part (s : State) (v : Fin 8) (f : Vi → Vi) :
    (s.onVi v f).part = s.part := rfl
@[simp] theorem State.onVi_fuse (s : State) (v : Fin 8) (f : Vi → Vi) :
    (s.onVi v f).fuse = s.fuse := rfl
@[simp] theorem State.onVi_now (s : State) (v : Fin 8) (f : Vi → Vi) :
    (s.onVi v f).now = s.now := rfl
@[simp] theorem State.onVi_fresh (s : State) (v : Fin 8) (f : Vi → Vi) :
    (s.onVi v f).fresh = s.fresh := rfl
@[simp] theorem State.onVi_ao (s : State) (v : Fin 8) (f : Vi → Vi) :
    (s.onVi v f).ao = s.ao := rfl
@[simp] theorem State.onVi_pwr (s : State) (v : Fin 8) (f : Vi → Vi) :
    (s.onVi v f).pwr = s.pwr := rfl
@[simp] theorem State.onVi_bus (s : State) (v : Fin 8) (f : Vi → Vi) :
    (s.onVi v f).bus = s.bus := rfl
@[simp] theorem State.onVi_vi (s : State) (v : Fin 8) (f : Vi → Vi) :
    (s.onVi v f).vi = vmod s.vi v f := rfl
@[simp] theorem State.onVi_par (s : State) (v : Fin 8) (f : Vi → Vi) :
    (s.onVi v f).par = s.par := rfl
@[simp] theorem State.onVi_loam (s : State) (v : Fin 8) (f : Vi → Vi) :
    (s.onVi v f).loam = s.loam := rfl
@[simp] theorem State.onVi_silt (s : State) (v : Fin 8) (f : Vi → Vi) :
    (s.onVi v f).silt = s.silt := rfl
@[simp] theorem State.onVi_marl (s : State) (v : Fin 8) (f : Vi → Vi) :
    (s.onVi v f).marl = s.marl := rfl
@[simp] theorem State.onVi_paper (s : State) (v : Fin 8) (f : Vi → Vi) :
    (s.onVi v f).paper = s.paper := rfl
@[simp] theorem State.onVi_analog (s : State) (v : Fin 8) (f : Vi → Vi) :
    (s.onVi v f).analog = s.analog := rfl
@[simp] theorem State.onVi_island (s : State) (v : Fin 8) (f : Vi → Vi) :
    (s.onVi v f).island = s.island := rfl
@[simp] theorem State.onVi_legal (s : State) (v : Fin 8) (f : Vi → Vi) :
    (s.onVi v f).legal = s.legal := rfl
@[simp] theorem State.onVi_grit (s : State) (v : Fin 8) (f : Vi → Vi) :
    (s.onVi v f).grit = s.grit := rfl
@[simp] theorem State.onVi_ser (s : State) (v : Fin 8) (f : Vi → Vi) :
    (s.onVi v f).ser = s.ser := rfl
@[simp] theorem State.onVi_link (s : State) (v : Fin 8) (f : Vi → Vi) :
    (s.onVi v f).link = s.link := rfl
@[simp] theorem State.onVi_mgmt (s : State) (v : Fin 8) (f : Vi → Vi) :
    (s.onVi v f).mgmt = s.mgmt := rfl
@[simp] theorem State.onVi_pending (s : State) (v : Fin 8) (f : Vi → Vi) :
    (s.onVi v f).pending = s.pending := rfl

/-! ### onPort -/

@[simp] theorem State.onPort_part (s : State) (w : Fin 11) (f : ParPort → ParPort) :
    (s.onPort w f).part = s.part := rfl
@[simp] theorem State.onPort_fuse (s : State) (w : Fin 11) (f : ParPort → ParPort) :
    (s.onPort w f).fuse = s.fuse := rfl
@[simp] theorem State.onPort_now (s : State) (w : Fin 11) (f : ParPort → ParPort) :
    (s.onPort w f).now = s.now := rfl
@[simp] theorem State.onPort_fresh (s : State) (w : Fin 11) (f : ParPort → ParPort) :
    (s.onPort w f).fresh = s.fresh := rfl
@[simp] theorem State.onPort_ao (s : State) (w : Fin 11) (f : ParPort → ParPort) :
    (s.onPort w f).ao = s.ao := rfl
@[simp] theorem State.onPort_pwr (s : State) (w : Fin 11) (f : ParPort → ParPort) :
    (s.onPort w f).pwr = s.pwr := rfl
@[simp] theorem State.onPort_bus (s : State) (w : Fin 11) (f : ParPort → ParPort) :
    (s.onPort w f).bus = { s.bus with port := vmod s.bus.port w f } := rfl
@[simp] theorem State.onPort_vi (s : State) (w : Fin 11) (f : ParPort → ParPort) :
    (s.onPort w f).vi = s.vi := rfl
@[simp] theorem State.onPort_par (s : State) (w : Fin 11) (f : ParPort → ParPort) :
    (s.onPort w f).par = s.par := rfl
@[simp] theorem State.onPort_loam (s : State) (w : Fin 11) (f : ParPort → ParPort) :
    (s.onPort w f).loam = s.loam := rfl
@[simp] theorem State.onPort_silt (s : State) (w : Fin 11) (f : ParPort → ParPort) :
    (s.onPort w f).silt = s.silt := rfl
@[simp] theorem State.onPort_marl (s : State) (w : Fin 11) (f : ParPort → ParPort) :
    (s.onPort w f).marl = s.marl := rfl
@[simp] theorem State.onPort_paper (s : State) (w : Fin 11) (f : ParPort → ParPort) :
    (s.onPort w f).paper = s.paper := rfl
@[simp] theorem State.onPort_analog (s : State) (w : Fin 11) (f : ParPort → ParPort) :
    (s.onPort w f).analog = s.analog := rfl
@[simp] theorem State.onPort_island (s : State) (w : Fin 11) (f : ParPort → ParPort) :
    (s.onPort w f).island = s.island := rfl
@[simp] theorem State.onPort_legal (s : State) (w : Fin 11) (f : ParPort → ParPort) :
    (s.onPort w f).legal = s.legal := rfl
@[simp] theorem State.onPort_grit (s : State) (w : Fin 11) (f : ParPort → ParPort) :
    (s.onPort w f).grit = s.grit := rfl
@[simp] theorem State.onPort_ser (s : State) (w : Fin 11) (f : ParPort → ParPort) :
    (s.onPort w f).ser = s.ser := rfl
@[simp] theorem State.onPort_link (s : State) (w : Fin 11) (f : ParPort → ParPort) :
    (s.onPort w f).link = s.link := rfl
@[simp] theorem State.onPort_mgmt (s : State) (w : Fin 11) (f : ParPort → ParPort) :
    (s.onPort w f).mgmt = s.mgmt := rfl
@[simp] theorem State.onPort_pending (s : State) (w : Fin 11) (f : ParPort → ParPort) :
    (s.onPort w f).pending = s.pending := rfl

/-! ### onEvq -/

@[simp] theorem State.onEvq_part (s : State) (w : Fin 9) (f : EventPort → EventPort) :
    (s.onEvq w f).part = s.part := rfl
@[simp] theorem State.onEvq_fuse (s : State) (w : Fin 9) (f : EventPort → EventPort) :
    (s.onEvq w f).fuse = s.fuse := rfl
@[simp] theorem State.onEvq_now (s : State) (w : Fin 9) (f : EventPort → EventPort) :
    (s.onEvq w f).now = s.now := rfl
@[simp] theorem State.onEvq_fresh (s : State) (w : Fin 9) (f : EventPort → EventPort) :
    (s.onEvq w f).fresh = s.fresh := rfl
@[simp] theorem State.onEvq_ao (s : State) (w : Fin 9) (f : EventPort → EventPort) :
    (s.onEvq w f).ao = s.ao := rfl
@[simp] theorem State.onEvq_pwr (s : State) (w : Fin 9) (f : EventPort → EventPort) :
    (s.onEvq w f).pwr = s.pwr := rfl
@[simp] theorem State.onEvq_bus (s : State) (w : Fin 9) (f : EventPort → EventPort) :
    (s.onEvq w f).bus = { s.bus with evq := vmod s.bus.evq w f } := rfl
@[simp] theorem State.onEvq_vi (s : State) (w : Fin 9) (f : EventPort → EventPort) :
    (s.onEvq w f).vi = s.vi := rfl
@[simp] theorem State.onEvq_par (s : State) (w : Fin 9) (f : EventPort → EventPort) :
    (s.onEvq w f).par = s.par := rfl
@[simp] theorem State.onEvq_loam (s : State) (w : Fin 9) (f : EventPort → EventPort) :
    (s.onEvq w f).loam = s.loam := rfl
@[simp] theorem State.onEvq_silt (s : State) (w : Fin 9) (f : EventPort → EventPort) :
    (s.onEvq w f).silt = s.silt := rfl
@[simp] theorem State.onEvq_marl (s : State) (w : Fin 9) (f : EventPort → EventPort) :
    (s.onEvq w f).marl = s.marl := rfl
@[simp] theorem State.onEvq_paper (s : State) (w : Fin 9) (f : EventPort → EventPort) :
    (s.onEvq w f).paper = s.paper := rfl
@[simp] theorem State.onEvq_analog (s : State) (w : Fin 9) (f : EventPort → EventPort) :
    (s.onEvq w f).analog = s.analog := rfl
@[simp] theorem State.onEvq_island (s : State) (w : Fin 9) (f : EventPort → EventPort) :
    (s.onEvq w f).island = s.island := rfl
@[simp] theorem State.onEvq_legal (s : State) (w : Fin 9) (f : EventPort → EventPort) :
    (s.onEvq w f).legal = s.legal := rfl
@[simp] theorem State.onEvq_grit (s : State) (w : Fin 9) (f : EventPort → EventPort) :
    (s.onEvq w f).grit = s.grit := rfl
@[simp] theorem State.onEvq_ser (s : State) (w : Fin 9) (f : EventPort → EventPort) :
    (s.onEvq w f).ser = s.ser := rfl
@[simp] theorem State.onEvq_link (s : State) (w : Fin 9) (f : EventPort → EventPort) :
    (s.onEvq w f).link = s.link := rfl
@[simp] theorem State.onEvq_mgmt (s : State) (w : Fin 9) (f : EventPort → EventPort) :
    (s.onEvq w f).mgmt = s.mgmt := rfl
@[simp] theorem State.onEvq_pending (s : State) (w : Fin 9) (f : EventPort → EventPort) :
    (s.onEvq w f).pending = s.pending := rfl

/-! ### onData -/

@[simp] theorem State.onData_part (s : State) (v : Fin 8) (f : DataPort → DataPort) :
    (s.onData v f).part = s.part := rfl
@[simp] theorem State.onData_fuse (s : State) (v : Fin 8) (f : DataPort → DataPort) :
    (s.onData v f).fuse = s.fuse := rfl
@[simp] theorem State.onData_now (s : State) (v : Fin 8) (f : DataPort → DataPort) :
    (s.onData v f).now = s.now := rfl
@[simp] theorem State.onData_fresh (s : State) (v : Fin 8) (f : DataPort → DataPort) :
    (s.onData v f).fresh = s.fresh := rfl
@[simp] theorem State.onData_ao (s : State) (v : Fin 8) (f : DataPort → DataPort) :
    (s.onData v f).ao = s.ao := rfl
@[simp] theorem State.onData_pwr (s : State) (v : Fin 8) (f : DataPort → DataPort) :
    (s.onData v f).pwr = s.pwr := rfl
@[simp] theorem State.onData_bus (s : State) (v : Fin 8) (f : DataPort → DataPort) :
    (s.onData v f).bus = s.bus := rfl
@[simp] theorem State.onData_vi (s : State) (v : Fin 8) (f : DataPort → DataPort) :
    (s.onData v f).vi = vmod s.vi v fun y => { y with data := f y.data } := rfl
@[simp] theorem State.onData_par (s : State) (v : Fin 8) (f : DataPort → DataPort) :
    (s.onData v f).par = s.par := rfl
@[simp] theorem State.onData_loam (s : State) (v : Fin 8) (f : DataPort → DataPort) :
    (s.onData v f).loam = s.loam := rfl
@[simp] theorem State.onData_silt (s : State) (v : Fin 8) (f : DataPort → DataPort) :
    (s.onData v f).silt = s.silt := rfl
@[simp] theorem State.onData_marl (s : State) (v : Fin 8) (f : DataPort → DataPort) :
    (s.onData v f).marl = s.marl := rfl
@[simp] theorem State.onData_paper (s : State) (v : Fin 8) (f : DataPort → DataPort) :
    (s.onData v f).paper = s.paper := rfl
@[simp] theorem State.onData_analog (s : State) (v : Fin 8) (f : DataPort → DataPort) :
    (s.onData v f).analog = s.analog := rfl
@[simp] theorem State.onData_island (s : State) (v : Fin 8) (f : DataPort → DataPort) :
    (s.onData v f).island = s.island := rfl
@[simp] theorem State.onData_legal (s : State) (v : Fin 8) (f : DataPort → DataPort) :
    (s.onData v f).legal = s.legal := rfl
@[simp] theorem State.onData_grit (s : State) (v : Fin 8) (f : DataPort → DataPort) :
    (s.onData v f).grit = s.grit := rfl
@[simp] theorem State.onData_ser (s : State) (v : Fin 8) (f : DataPort → DataPort) :
    (s.onData v f).ser = s.ser := rfl
@[simp] theorem State.onData_link (s : State) (v : Fin 8) (f : DataPort → DataPort) :
    (s.onData v f).link = s.link := rfl
@[simp] theorem State.onData_mgmt (s : State) (v : Fin 8) (f : DataPort → DataPort) :
    (s.onData v f).mgmt = s.mgmt := rfl
@[simp] theorem State.onData_pending (s : State) (v : Fin 8) (f : DataPort → DataPort) :
    (s.onData v f).pending = s.pending := rfl

/-! ### onLoam -/

@[simp] theorem State.onLoam_part (s : State) (f : Loam → Loam) :
    (s.onLoam f).part = s.part := rfl
@[simp] theorem State.onLoam_fuse (s : State) (f : Loam → Loam) :
    (s.onLoam f).fuse = s.fuse := rfl
@[simp] theorem State.onLoam_now (s : State) (f : Loam → Loam) :
    (s.onLoam f).now = s.now := rfl
@[simp] theorem State.onLoam_fresh (s : State) (f : Loam → Loam) :
    (s.onLoam f).fresh = s.fresh := rfl
@[simp] theorem State.onLoam_ao (s : State) (f : Loam → Loam) :
    (s.onLoam f).ao = s.ao := rfl
@[simp] theorem State.onLoam_pwr (s : State) (f : Loam → Loam) :
    (s.onLoam f).pwr = s.pwr := rfl
@[simp] theorem State.onLoam_bus (s : State) (f : Loam → Loam) :
    (s.onLoam f).bus = s.bus := rfl
@[simp] theorem State.onLoam_vi (s : State) (f : Loam → Loam) :
    (s.onLoam f).vi = s.vi := rfl
@[simp] theorem State.onLoam_par (s : State) (f : Loam → Loam) :
    (s.onLoam f).par = s.par := rfl
@[simp] theorem State.onLoam_loam (s : State) (f : Loam → Loam) :
    (s.onLoam f).loam = f s.loam := rfl
@[simp] theorem State.onLoam_silt (s : State) (f : Loam → Loam) :
    (s.onLoam f).silt = s.silt := rfl
@[simp] theorem State.onLoam_marl (s : State) (f : Loam → Loam) :
    (s.onLoam f).marl = s.marl := rfl
@[simp] theorem State.onLoam_paper (s : State) (f : Loam → Loam) :
    (s.onLoam f).paper = s.paper := rfl
@[simp] theorem State.onLoam_analog (s : State) (f : Loam → Loam) :
    (s.onLoam f).analog = s.analog := rfl
@[simp] theorem State.onLoam_island (s : State) (f : Loam → Loam) :
    (s.onLoam f).island = s.island := rfl
@[simp] theorem State.onLoam_legal (s : State) (f : Loam → Loam) :
    (s.onLoam f).legal = s.legal := rfl
@[simp] theorem State.onLoam_grit (s : State) (f : Loam → Loam) :
    (s.onLoam f).grit = s.grit := rfl
@[simp] theorem State.onLoam_ser (s : State) (f : Loam → Loam) :
    (s.onLoam f).ser = s.ser := rfl
@[simp] theorem State.onLoam_link (s : State) (f : Loam → Loam) :
    (s.onLoam f).link = s.link := rfl
@[simp] theorem State.onLoam_mgmt (s : State) (f : Loam → Loam) :
    (s.onLoam f).mgmt = s.mgmt := rfl
@[simp] theorem State.onLoam_pending (s : State) (f : Loam → Loam) :
    (s.onLoam f).pending = s.pending := rfl

/-! ### onJob -/

@[simp] theorem State.onJob_part (s : State) (j : JobRef) (f : Job → Job) :
    (s.onJob j f).part = s.part := rfl
@[simp] theorem State.onJob_fuse (s : State) (j : JobRef) (f : Job → Job) :
    (s.onJob j f).fuse = s.fuse := rfl
@[simp] theorem State.onJob_now (s : State) (j : JobRef) (f : Job → Job) :
    (s.onJob j f).now = s.now := rfl
@[simp] theorem State.onJob_fresh (s : State) (j : JobRef) (f : Job → Job) :
    (s.onJob j f).fresh = s.fresh := rfl
@[simp] theorem State.onJob_ao (s : State) (j : JobRef) (f : Job → Job) :
    (s.onJob j f).ao = s.ao := rfl
@[simp] theorem State.onJob_pwr (s : State) (j : JobRef) (f : Job → Job) :
    (s.onJob j f).pwr = s.pwr := rfl
@[simp] theorem State.onJob_bus (s : State) (j : JobRef) (f : Job → Job) :
    (s.onJob j f).bus = s.bus := rfl
@[simp] theorem State.onJob_vi (s : State) (j : JobRef) (f : Job → Job) :
    (s.onJob j f).vi = s.vi := rfl
@[simp] theorem State.onJob_par (s : State) (j : JobRef) (f : Job → Job) :
    (s.onJob j f).par = s.par := rfl
@[simp] theorem State.onJob_loam (s : State) (j : JobRef) (f : Job → Job) :
    (s.onJob j f).loam = { s.loam with jobs := vmod s.loam.jobs j.vi fun r => vmod r j.handle f } := rfl
@[simp] theorem State.onJob_silt (s : State) (j : JobRef) (f : Job → Job) :
    (s.onJob j f).silt = s.silt := rfl
@[simp] theorem State.onJob_marl (s : State) (j : JobRef) (f : Job → Job) :
    (s.onJob j f).marl = s.marl := rfl
@[simp] theorem State.onJob_paper (s : State) (j : JobRef) (f : Job → Job) :
    (s.onJob j f).paper = s.paper := rfl
@[simp] theorem State.onJob_analog (s : State) (j : JobRef) (f : Job → Job) :
    (s.onJob j f).analog = s.analog := rfl
@[simp] theorem State.onJob_island (s : State) (j : JobRef) (f : Job → Job) :
    (s.onJob j f).island = s.island := rfl
@[simp] theorem State.onJob_legal (s : State) (j : JobRef) (f : Job → Job) :
    (s.onJob j f).legal = s.legal := rfl
@[simp] theorem State.onJob_grit (s : State) (j : JobRef) (f : Job → Job) :
    (s.onJob j f).grit = s.grit := rfl
@[simp] theorem State.onJob_ser (s : State) (j : JobRef) (f : Job → Job) :
    (s.onJob j f).ser = s.ser := rfl
@[simp] theorem State.onJob_link (s : State) (j : JobRef) (f : Job → Job) :
    (s.onJob j f).link = s.link := rfl
@[simp] theorem State.onJob_mgmt (s : State) (j : JobRef) (f : Job → Job) :
    (s.onJob j f).mgmt = s.mgmt := rfl
@[simp] theorem State.onJob_pending (s : State) (j : JobRef) (f : Job → Job) :
    (s.onJob j f).pending = s.pending := rfl

/-! ### onLoamHead -/

@[simp] theorem State.onLoamHead_part (s : State) (h : Fin 4) (f : LoamHead → LoamHead) :
    (s.onLoamHead h f).part = s.part := rfl
@[simp] theorem State.onLoamHead_fuse (s : State) (h : Fin 4) (f : LoamHead → LoamHead) :
    (s.onLoamHead h f).fuse = s.fuse := rfl
@[simp] theorem State.onLoamHead_now (s : State) (h : Fin 4) (f : LoamHead → LoamHead) :
    (s.onLoamHead h f).now = s.now := rfl
@[simp] theorem State.onLoamHead_fresh (s : State) (h : Fin 4) (f : LoamHead → LoamHead) :
    (s.onLoamHead h f).fresh = s.fresh := rfl
@[simp] theorem State.onLoamHead_ao (s : State) (h : Fin 4) (f : LoamHead → LoamHead) :
    (s.onLoamHead h f).ao = s.ao := rfl
@[simp] theorem State.onLoamHead_pwr (s : State) (h : Fin 4) (f : LoamHead → LoamHead) :
    (s.onLoamHead h f).pwr = s.pwr := rfl
@[simp] theorem State.onLoamHead_bus (s : State) (h : Fin 4) (f : LoamHead → LoamHead) :
    (s.onLoamHead h f).bus = s.bus := rfl
@[simp] theorem State.onLoamHead_vi (s : State) (h : Fin 4) (f : LoamHead → LoamHead) :
    (s.onLoamHead h f).vi = s.vi := rfl
@[simp] theorem State.onLoamHead_par (s : State) (h : Fin 4) (f : LoamHead → LoamHead) :
    (s.onLoamHead h f).par = s.par := rfl
@[simp] theorem State.onLoamHead_loam (s : State) (h : Fin 4) (f : LoamHead → LoamHead) :
    (s.onLoamHead h f).loam = { s.loam with head := vmod s.loam.head h f } := rfl
@[simp] theorem State.onLoamHead_silt (s : State) (h : Fin 4) (f : LoamHead → LoamHead) :
    (s.onLoamHead h f).silt = s.silt := rfl
@[simp] theorem State.onLoamHead_marl (s : State) (h : Fin 4) (f : LoamHead → LoamHead) :
    (s.onLoamHead h f).marl = s.marl := rfl
@[simp] theorem State.onLoamHead_paper (s : State) (h : Fin 4) (f : LoamHead → LoamHead) :
    (s.onLoamHead h f).paper = s.paper := rfl
@[simp] theorem State.onLoamHead_analog (s : State) (h : Fin 4) (f : LoamHead → LoamHead) :
    (s.onLoamHead h f).analog = s.analog := rfl
@[simp] theorem State.onLoamHead_island (s : State) (h : Fin 4) (f : LoamHead → LoamHead) :
    (s.onLoamHead h f).island = s.island := rfl
@[simp] theorem State.onLoamHead_legal (s : State) (h : Fin 4) (f : LoamHead → LoamHead) :
    (s.onLoamHead h f).legal = s.legal := rfl
@[simp] theorem State.onLoamHead_grit (s : State) (h : Fin 4) (f : LoamHead → LoamHead) :
    (s.onLoamHead h f).grit = s.grit := rfl
@[simp] theorem State.onLoamHead_ser (s : State) (h : Fin 4) (f : LoamHead → LoamHead) :
    (s.onLoamHead h f).ser = s.ser := rfl
@[simp] theorem State.onLoamHead_link (s : State) (h : Fin 4) (f : LoamHead → LoamHead) :
    (s.onLoamHead h f).link = s.link := rfl
@[simp] theorem State.onLoamHead_mgmt (s : State) (h : Fin 4) (f : LoamHead → LoamHead) :
    (s.onLoamHead h f).mgmt = s.mgmt := rfl
@[simp] theorem State.onLoamHead_pending (s : State) (h : Fin 4) (f : LoamHead → LoamHead) :
    (s.onLoamHead h f).pending = s.pending := rfl

/-! ### onSilt -/

@[simp] theorem State.onSilt_part (s : State) (f : Silt → Silt) :
    (s.onSilt f).part = s.part := rfl
@[simp] theorem State.onSilt_fuse (s : State) (f : Silt → Silt) :
    (s.onSilt f).fuse = s.fuse := rfl
@[simp] theorem State.onSilt_now (s : State) (f : Silt → Silt) :
    (s.onSilt f).now = s.now := rfl
@[simp] theorem State.onSilt_fresh (s : State) (f : Silt → Silt) :
    (s.onSilt f).fresh = s.fresh := rfl
@[simp] theorem State.onSilt_ao (s : State) (f : Silt → Silt) :
    (s.onSilt f).ao = s.ao := rfl
@[simp] theorem State.onSilt_pwr (s : State) (f : Silt → Silt) :
    (s.onSilt f).pwr = s.pwr := rfl
@[simp] theorem State.onSilt_bus (s : State) (f : Silt → Silt) :
    (s.onSilt f).bus = s.bus := rfl
@[simp] theorem State.onSilt_vi (s : State) (f : Silt → Silt) :
    (s.onSilt f).vi = s.vi := rfl
@[simp] theorem State.onSilt_par (s : State) (f : Silt → Silt) :
    (s.onSilt f).par = s.par := rfl
@[simp] theorem State.onSilt_loam (s : State) (f : Silt → Silt) :
    (s.onSilt f).loam = s.loam := rfl
@[simp] theorem State.onSilt_silt (s : State) (f : Silt → Silt) :
    (s.onSilt f).silt = f s.silt := rfl
@[simp] theorem State.onSilt_marl (s : State) (f : Silt → Silt) :
    (s.onSilt f).marl = s.marl := rfl
@[simp] theorem State.onSilt_paper (s : State) (f : Silt → Silt) :
    (s.onSilt f).paper = s.paper := rfl
@[simp] theorem State.onSilt_analog (s : State) (f : Silt → Silt) :
    (s.onSilt f).analog = s.analog := rfl
@[simp] theorem State.onSilt_island (s : State) (f : Silt → Silt) :
    (s.onSilt f).island = s.island := rfl
@[simp] theorem State.onSilt_legal (s : State) (f : Silt → Silt) :
    (s.onSilt f).legal = s.legal := rfl
@[simp] theorem State.onSilt_grit (s : State) (f : Silt → Silt) :
    (s.onSilt f).grit = s.grit := rfl
@[simp] theorem State.onSilt_ser (s : State) (f : Silt → Silt) :
    (s.onSilt f).ser = s.ser := rfl
@[simp] theorem State.onSilt_link (s : State) (f : Silt → Silt) :
    (s.onSilt f).link = s.link := rfl
@[simp] theorem State.onSilt_mgmt (s : State) (f : Silt → Silt) :
    (s.onSilt f).mgmt = s.mgmt := rfl
@[simp] theorem State.onSilt_pending (s : State) (f : Silt → Silt) :
    (s.onSilt f).pending = s.pending := rfl

/-! ### onMarl -/

@[simp] theorem State.onMarl_part (s : State) (f : Marl → Marl) :
    (s.onMarl f).part = s.part := rfl
@[simp] theorem State.onMarl_fuse (s : State) (f : Marl → Marl) :
    (s.onMarl f).fuse = s.fuse := rfl
@[simp] theorem State.onMarl_now (s : State) (f : Marl → Marl) :
    (s.onMarl f).now = s.now := rfl
@[simp] theorem State.onMarl_fresh (s : State) (f : Marl → Marl) :
    (s.onMarl f).fresh = s.fresh := rfl
@[simp] theorem State.onMarl_ao (s : State) (f : Marl → Marl) :
    (s.onMarl f).ao = s.ao := rfl
@[simp] theorem State.onMarl_pwr (s : State) (f : Marl → Marl) :
    (s.onMarl f).pwr = s.pwr := rfl
@[simp] theorem State.onMarl_bus (s : State) (f : Marl → Marl) :
    (s.onMarl f).bus = s.bus := rfl
@[simp] theorem State.onMarl_vi (s : State) (f : Marl → Marl) :
    (s.onMarl f).vi = s.vi := rfl
@[simp] theorem State.onMarl_par (s : State) (f : Marl → Marl) :
    (s.onMarl f).par = s.par := rfl
@[simp] theorem State.onMarl_loam (s : State) (f : Marl → Marl) :
    (s.onMarl f).loam = s.loam := rfl
@[simp] theorem State.onMarl_silt (s : State) (f : Marl → Marl) :
    (s.onMarl f).silt = s.silt := rfl
@[simp] theorem State.onMarl_marl (s : State) (f : Marl → Marl) :
    (s.onMarl f).marl = f s.marl := rfl
@[simp] theorem State.onMarl_paper (s : State) (f : Marl → Marl) :
    (s.onMarl f).paper = s.paper := rfl
@[simp] theorem State.onMarl_analog (s : State) (f : Marl → Marl) :
    (s.onMarl f).analog = s.analog := rfl
@[simp] theorem State.onMarl_island (s : State) (f : Marl → Marl) :
    (s.onMarl f).island = s.island := rfl
@[simp] theorem State.onMarl_legal (s : State) (f : Marl → Marl) :
    (s.onMarl f).legal = s.legal := rfl
@[simp] theorem State.onMarl_grit (s : State) (f : Marl → Marl) :
    (s.onMarl f).grit = s.grit := rfl
@[simp] theorem State.onMarl_ser (s : State) (f : Marl → Marl) :
    (s.onMarl f).ser = s.ser := rfl
@[simp] theorem State.onMarl_link (s : State) (f : Marl → Marl) :
    (s.onMarl f).link = s.link := rfl
@[simp] theorem State.onMarl_mgmt (s : State) (f : Marl → Marl) :
    (s.onMarl f).mgmt = s.mgmt := rfl
@[simp] theorem State.onMarl_pending (s : State) (f : Marl → Marl) :
    (s.onMarl f).pending = s.pending := rfl

/-! ### onPaper -/

@[simp] theorem State.onPaper_part (s : State) (f : Paper → Paper) :
    (s.onPaper f).part = s.part := rfl
@[simp] theorem State.onPaper_fuse (s : State) (f : Paper → Paper) :
    (s.onPaper f).fuse = s.fuse := rfl
@[simp] theorem State.onPaper_now (s : State) (f : Paper → Paper) :
    (s.onPaper f).now = s.now := rfl
@[simp] theorem State.onPaper_fresh (s : State) (f : Paper → Paper) :
    (s.onPaper f).fresh = s.fresh := rfl
@[simp] theorem State.onPaper_ao (s : State) (f : Paper → Paper) :
    (s.onPaper f).ao = s.ao := rfl
@[simp] theorem State.onPaper_pwr (s : State) (f : Paper → Paper) :
    (s.onPaper f).pwr = s.pwr := rfl
@[simp] theorem State.onPaper_bus (s : State) (f : Paper → Paper) :
    (s.onPaper f).bus = s.bus := rfl
@[simp] theorem State.onPaper_vi (s : State) (f : Paper → Paper) :
    (s.onPaper f).vi = s.vi := rfl
@[simp] theorem State.onPaper_par (s : State) (f : Paper → Paper) :
    (s.onPaper f).par = s.par := rfl
@[simp] theorem State.onPaper_loam (s : State) (f : Paper → Paper) :
    (s.onPaper f).loam = s.loam := rfl
@[simp] theorem State.onPaper_silt (s : State) (f : Paper → Paper) :
    (s.onPaper f).silt = s.silt := rfl
@[simp] theorem State.onPaper_marl (s : State) (f : Paper → Paper) :
    (s.onPaper f).marl = s.marl := rfl
@[simp] theorem State.onPaper_paper (s : State) (f : Paper → Paper) :
    (s.onPaper f).paper = f s.paper := rfl
@[simp] theorem State.onPaper_analog (s : State) (f : Paper → Paper) :
    (s.onPaper f).analog = s.analog := rfl
@[simp] theorem State.onPaper_island (s : State) (f : Paper → Paper) :
    (s.onPaper f).island = s.island := rfl
@[simp] theorem State.onPaper_legal (s : State) (f : Paper → Paper) :
    (s.onPaper f).legal = s.legal := rfl
@[simp] theorem State.onPaper_grit (s : State) (f : Paper → Paper) :
    (s.onPaper f).grit = s.grit := rfl
@[simp] theorem State.onPaper_ser (s : State) (f : Paper → Paper) :
    (s.onPaper f).ser = s.ser := rfl
@[simp] theorem State.onPaper_link (s : State) (f : Paper → Paper) :
    (s.onPaper f).link = s.link := rfl
@[simp] theorem State.onPaper_mgmt (s : State) (f : Paper → Paper) :
    (s.onPaper f).mgmt = s.mgmt := rfl
@[simp] theorem State.onPaper_pending (s : State) (f : Paper → Paper) :
    (s.onPaper f).pending = s.pending := rfl

/-! ### onHead -/

@[simp] theorem State.onHead_part (s : State) (h : Fin 4) (f : Head → Head) :
    (s.onHead h f).part = s.part := rfl
@[simp] theorem State.onHead_fuse (s : State) (h : Fin 4) (f : Head → Head) :
    (s.onHead h f).fuse = s.fuse := rfl
@[simp] theorem State.onHead_now (s : State) (h : Fin 4) (f : Head → Head) :
    (s.onHead h f).now = s.now := rfl
@[simp] theorem State.onHead_fresh (s : State) (h : Fin 4) (f : Head → Head) :
    (s.onHead h f).fresh = s.fresh := rfl
@[simp] theorem State.onHead_ao (s : State) (h : Fin 4) (f : Head → Head) :
    (s.onHead h f).ao = s.ao := rfl
@[simp] theorem State.onHead_pwr (s : State) (h : Fin 4) (f : Head → Head) :
    (s.onHead h f).pwr = s.pwr := rfl
@[simp] theorem State.onHead_bus (s : State) (h : Fin 4) (f : Head → Head) :
    (s.onHead h f).bus = s.bus := rfl
@[simp] theorem State.onHead_vi (s : State) (h : Fin 4) (f : Head → Head) :
    (s.onHead h f).vi = s.vi := rfl
@[simp] theorem State.onHead_par (s : State) (h : Fin 4) (f : Head → Head) :
    (s.onHead h f).par = s.par := rfl
@[simp] theorem State.onHead_loam (s : State) (h : Fin 4) (f : Head → Head) :
    (s.onHead h f).loam = s.loam := rfl
@[simp] theorem State.onHead_silt (s : State) (h : Fin 4) (f : Head → Head) :
    (s.onHead h f).silt = s.silt := rfl
@[simp] theorem State.onHead_marl (s : State) (h : Fin 4) (f : Head → Head) :
    (s.onHead h f).marl = s.marl := rfl
@[simp] theorem State.onHead_paper (s : State) (h : Fin 4) (f : Head → Head) :
    (s.onHead h f).paper = { s.paper with head := vmod s.paper.head h f } := rfl
@[simp] theorem State.onHead_analog (s : State) (h : Fin 4) (f : Head → Head) :
    (s.onHead h f).analog = s.analog := rfl
@[simp] theorem State.onHead_island (s : State) (h : Fin 4) (f : Head → Head) :
    (s.onHead h f).island = s.island := rfl
@[simp] theorem State.onHead_legal (s : State) (h : Fin 4) (f : Head → Head) :
    (s.onHead h f).legal = s.legal := rfl
@[simp] theorem State.onHead_grit (s : State) (h : Fin 4) (f : Head → Head) :
    (s.onHead h f).grit = s.grit := rfl
@[simp] theorem State.onHead_ser (s : State) (h : Fin 4) (f : Head → Head) :
    (s.onHead h f).ser = s.ser := rfl
@[simp] theorem State.onHead_link (s : State) (h : Fin 4) (f : Head → Head) :
    (s.onHead h f).link = s.link := rfl
@[simp] theorem State.onHead_mgmt (s : State) (h : Fin 4) (f : Head → Head) :
    (s.onHead h f).mgmt = s.mgmt := rfl
@[simp] theorem State.onHead_pending (s : State) (h : Fin 4) (f : Head → Head) :
    (s.onHead h f).pending = s.pending := rfl

/-! ### onEnergy -/

@[simp] theorem State.onEnergy_part (s : State) (h : Fin 4) (f : Energy → Energy) :
    (s.onEnergy h f).part = s.part := rfl
@[simp] theorem State.onEnergy_fuse (s : State) (h : Fin 4) (f : Energy → Energy) :
    (s.onEnergy h f).fuse = s.fuse := rfl
@[simp] theorem State.onEnergy_now (s : State) (h : Fin 4) (f : Energy → Energy) :
    (s.onEnergy h f).now = s.now := rfl
@[simp] theorem State.onEnergy_fresh (s : State) (h : Fin 4) (f : Energy → Energy) :
    (s.onEnergy h f).fresh = s.fresh := rfl
@[simp] theorem State.onEnergy_ao (s : State) (h : Fin 4) (f : Energy → Energy) :
    (s.onEnergy h f).ao = s.ao := rfl
@[simp] theorem State.onEnergy_pwr (s : State) (h : Fin 4) (f : Energy → Energy) :
    (s.onEnergy h f).pwr = s.pwr := rfl
@[simp] theorem State.onEnergy_bus (s : State) (h : Fin 4) (f : Energy → Energy) :
    (s.onEnergy h f).bus = s.bus := rfl
@[simp] theorem State.onEnergy_vi (s : State) (h : Fin 4) (f : Energy → Energy) :
    (s.onEnergy h f).vi = s.vi := rfl
@[simp] theorem State.onEnergy_par (s : State) (h : Fin 4) (f : Energy → Energy) :
    (s.onEnergy h f).par = s.par := rfl
@[simp] theorem State.onEnergy_loam (s : State) (h : Fin 4) (f : Energy → Energy) :
    (s.onEnergy h f).loam = s.loam := rfl
@[simp] theorem State.onEnergy_silt (s : State) (h : Fin 4) (f : Energy → Energy) :
    (s.onEnergy h f).silt = s.silt := rfl
@[simp] theorem State.onEnergy_marl (s : State) (h : Fin 4) (f : Energy → Energy) :
    (s.onEnergy h f).marl = s.marl := rfl
@[simp] theorem State.onEnergy_paper (s : State) (h : Fin 4) (f : Energy → Energy) :
    (s.onEnergy h f).paper = { s.paper with energy := vmod s.paper.energy h f } := rfl
@[simp] theorem State.onEnergy_analog (s : State) (h : Fin 4) (f : Energy → Energy) :
    (s.onEnergy h f).analog = s.analog := rfl
@[simp] theorem State.onEnergy_island (s : State) (h : Fin 4) (f : Energy → Energy) :
    (s.onEnergy h f).island = s.island := rfl
@[simp] theorem State.onEnergy_legal (s : State) (h : Fin 4) (f : Energy → Energy) :
    (s.onEnergy h f).legal = s.legal := rfl
@[simp] theorem State.onEnergy_grit (s : State) (h : Fin 4) (f : Energy → Energy) :
    (s.onEnergy h f).grit = s.grit := rfl
@[simp] theorem State.onEnergy_ser (s : State) (h : Fin 4) (f : Energy → Energy) :
    (s.onEnergy h f).ser = s.ser := rfl
@[simp] theorem State.onEnergy_link (s : State) (h : Fin 4) (f : Energy → Energy) :
    (s.onEnergy h f).link = s.link := rfl
@[simp] theorem State.onEnergy_mgmt (s : State) (h : Fin 4) (f : Energy → Energy) :
    (s.onEnergy h f).mgmt = s.mgmt := rfl
@[simp] theorem State.onEnergy_pending (s : State) (h : Fin 4) (f : Energy → Energy) :
    (s.onEnergy h f).pending = s.pending := rfl

/-! ### onRun -/

@[simp] theorem State.onRun_part (s : State) (h : Fin 4) (f : Option Run → Option Run) :
    (s.onRun h f).part = s.part := rfl
@[simp] theorem State.onRun_fuse (s : State) (h : Fin 4) (f : Option Run → Option Run) :
    (s.onRun h f).fuse = s.fuse := rfl
@[simp] theorem State.onRun_now (s : State) (h : Fin 4) (f : Option Run → Option Run) :
    (s.onRun h f).now = s.now := rfl
@[simp] theorem State.onRun_fresh (s : State) (h : Fin 4) (f : Option Run → Option Run) :
    (s.onRun h f).fresh = s.fresh := rfl
@[simp] theorem State.onRun_ao (s : State) (h : Fin 4) (f : Option Run → Option Run) :
    (s.onRun h f).ao = s.ao := rfl
@[simp] theorem State.onRun_pwr (s : State) (h : Fin 4) (f : Option Run → Option Run) :
    (s.onRun h f).pwr = s.pwr := rfl
@[simp] theorem State.onRun_bus (s : State) (h : Fin 4) (f : Option Run → Option Run) :
    (s.onRun h f).bus = s.bus := rfl
@[simp] theorem State.onRun_vi (s : State) (h : Fin 4) (f : Option Run → Option Run) :
    (s.onRun h f).vi = s.vi := rfl
@[simp] theorem State.onRun_par (s : State) (h : Fin 4) (f : Option Run → Option Run) :
    (s.onRun h f).par = s.par := rfl
@[simp] theorem State.onRun_loam (s : State) (h : Fin 4) (f : Option Run → Option Run) :
    (s.onRun h f).loam = s.loam := rfl
@[simp] theorem State.onRun_silt (s : State) (h : Fin 4) (f : Option Run → Option Run) :
    (s.onRun h f).silt = s.silt := rfl
@[simp] theorem State.onRun_marl (s : State) (h : Fin 4) (f : Option Run → Option Run) :
    (s.onRun h f).marl = s.marl := rfl
@[simp] theorem State.onRun_paper (s : State) (h : Fin 4) (f : Option Run → Option Run) :
    (s.onRun h f).paper = { s.paper with run := vmod s.paper.run h f } := rfl
@[simp] theorem State.onRun_analog (s : State) (h : Fin 4) (f : Option Run → Option Run) :
    (s.onRun h f).analog = s.analog := rfl
@[simp] theorem State.onRun_island (s : State) (h : Fin 4) (f : Option Run → Option Run) :
    (s.onRun h f).island = s.island := rfl
@[simp] theorem State.onRun_legal (s : State) (h : Fin 4) (f : Option Run → Option Run) :
    (s.onRun h f).legal = s.legal := rfl
@[simp] theorem State.onRun_grit (s : State) (h : Fin 4) (f : Option Run → Option Run) :
    (s.onRun h f).grit = s.grit := rfl
@[simp] theorem State.onRun_ser (s : State) (h : Fin 4) (f : Option Run → Option Run) :
    (s.onRun h f).ser = s.ser := rfl
@[simp] theorem State.onRun_link (s : State) (h : Fin 4) (f : Option Run → Option Run) :
    (s.onRun h f).link = s.link := rfl
@[simp] theorem State.onRun_mgmt (s : State) (h : Fin 4) (f : Option Run → Option Run) :
    (s.onRun h f).mgmt = s.mgmt := rfl
@[simp] theorem State.onRun_pending (s : State) (h : Fin 4) (f : Option Run → Option Run) :
    (s.onRun h f).pending = s.pending := rfl

/-! ### onAxis -/

@[simp] theorem State.onAxis_part (s : State) (a : Fin 4) (f : Axis → Axis) :
    (s.onAxis a f).part = s.part := rfl
@[simp] theorem State.onAxis_fuse (s : State) (a : Fin 4) (f : Axis → Axis) :
    (s.onAxis a f).fuse = s.fuse := rfl
@[simp] theorem State.onAxis_now (s : State) (a : Fin 4) (f : Axis → Axis) :
    (s.onAxis a f).now = s.now := rfl
@[simp] theorem State.onAxis_fresh (s : State) (a : Fin 4) (f : Axis → Axis) :
    (s.onAxis a f).fresh = s.fresh := rfl
@[simp] theorem State.onAxis_ao (s : State) (a : Fin 4) (f : Axis → Axis) :
    (s.onAxis a f).ao = s.ao := rfl
@[simp] theorem State.onAxis_pwr (s : State) (a : Fin 4) (f : Axis → Axis) :
    (s.onAxis a f).pwr = s.pwr := rfl
@[simp] theorem State.onAxis_bus (s : State) (a : Fin 4) (f : Axis → Axis) :
    (s.onAxis a f).bus = s.bus := rfl
@[simp] theorem State.onAxis_vi (s : State) (a : Fin 4) (f : Axis → Axis) :
    (s.onAxis a f).vi = s.vi := rfl
@[simp] theorem State.onAxis_par (s : State) (a : Fin 4) (f : Axis → Axis) :
    (s.onAxis a f).par = s.par := rfl
@[simp] theorem State.onAxis_loam (s : State) (a : Fin 4) (f : Axis → Axis) :
    (s.onAxis a f).loam = s.loam := rfl
@[simp] theorem State.onAxis_silt (s : State) (a : Fin 4) (f : Axis → Axis) :
    (s.onAxis a f).silt = s.silt := rfl
@[simp] theorem State.onAxis_marl (s : State) (a : Fin 4) (f : Axis → Axis) :
    (s.onAxis a f).marl = s.marl := rfl
@[simp] theorem State.onAxis_paper (s : State) (a : Fin 4) (f : Axis → Axis) :
    (s.onAxis a f).paper = { s.paper with axis := vmod s.paper.axis a f } := rfl
@[simp] theorem State.onAxis_analog (s : State) (a : Fin 4) (f : Axis → Axis) :
    (s.onAxis a f).analog = s.analog := rfl
@[simp] theorem State.onAxis_island (s : State) (a : Fin 4) (f : Axis → Axis) :
    (s.onAxis a f).island = s.island := rfl
@[simp] theorem State.onAxis_legal (s : State) (a : Fin 4) (f : Axis → Axis) :
    (s.onAxis a f).legal = s.legal := rfl
@[simp] theorem State.onAxis_grit (s : State) (a : Fin 4) (f : Axis → Axis) :
    (s.onAxis a f).grit = s.grit := rfl
@[simp] theorem State.onAxis_ser (s : State) (a : Fin 4) (f : Axis → Axis) :
    (s.onAxis a f).ser = s.ser := rfl
@[simp] theorem State.onAxis_link (s : State) (a : Fin 4) (f : Axis → Axis) :
    (s.onAxis a f).link = s.link := rfl
@[simp] theorem State.onAxis_mgmt (s : State) (a : Fin 4) (f : Axis → Axis) :
    (s.onAxis a f).mgmt = s.mgmt := rfl
@[simp] theorem State.onAxis_pending (s : State) (a : Fin 4) (f : Axis → Axis) :
    (s.onAxis a f).pending = s.pending := rfl

/-! ### onCutter -/

@[simp] theorem State.onCutter_part (s : State) (f : Cutter → Cutter) :
    (s.onCutter f).part = s.part := rfl
@[simp] theorem State.onCutter_fuse (s : State) (f : Cutter → Cutter) :
    (s.onCutter f).fuse = s.fuse := rfl
@[simp] theorem State.onCutter_now (s : State) (f : Cutter → Cutter) :
    (s.onCutter f).now = s.now := rfl
@[simp] theorem State.onCutter_fresh (s : State) (f : Cutter → Cutter) :
    (s.onCutter f).fresh = s.fresh := rfl
@[simp] theorem State.onCutter_ao (s : State) (f : Cutter → Cutter) :
    (s.onCutter f).ao = s.ao := rfl
@[simp] theorem State.onCutter_pwr (s : State) (f : Cutter → Cutter) :
    (s.onCutter f).pwr = s.pwr := rfl
@[simp] theorem State.onCutter_bus (s : State) (f : Cutter → Cutter) :
    (s.onCutter f).bus = s.bus := rfl
@[simp] theorem State.onCutter_vi (s : State) (f : Cutter → Cutter) :
    (s.onCutter f).vi = s.vi := rfl
@[simp] theorem State.onCutter_par (s : State) (f : Cutter → Cutter) :
    (s.onCutter f).par = s.par := rfl
@[simp] theorem State.onCutter_loam (s : State) (f : Cutter → Cutter) :
    (s.onCutter f).loam = s.loam := rfl
@[simp] theorem State.onCutter_silt (s : State) (f : Cutter → Cutter) :
    (s.onCutter f).silt = s.silt := rfl
@[simp] theorem State.onCutter_marl (s : State) (f : Cutter → Cutter) :
    (s.onCutter f).marl = s.marl := rfl
@[simp] theorem State.onCutter_paper (s : State) (f : Cutter → Cutter) :
    (s.onCutter f).paper = { s.paper with cutter := f s.paper.cutter } := rfl
@[simp] theorem State.onCutter_analog (s : State) (f : Cutter → Cutter) :
    (s.onCutter f).analog = s.analog := rfl
@[simp] theorem State.onCutter_island (s : State) (f : Cutter → Cutter) :
    (s.onCutter f).island = s.island := rfl
@[simp] theorem State.onCutter_legal (s : State) (f : Cutter → Cutter) :
    (s.onCutter f).legal = s.legal := rfl
@[simp] theorem State.onCutter_grit (s : State) (f : Cutter → Cutter) :
    (s.onCutter f).grit = s.grit := rfl
@[simp] theorem State.onCutter_ser (s : State) (f : Cutter → Cutter) :
    (s.onCutter f).ser = s.ser := rfl
@[simp] theorem State.onCutter_link (s : State) (f : Cutter → Cutter) :
    (s.onCutter f).link = s.link := rfl
@[simp] theorem State.onCutter_mgmt (s : State) (f : Cutter → Cutter) :
    (s.onCutter f).mgmt = s.mgmt := rfl
@[simp] theorem State.onCutter_pending (s : State) (f : Cutter → Cutter) :
    (s.onCutter f).pending = s.pending := rfl

/-! ### onMedia -/

@[simp] theorem State.onMedia_part (s : State) (h : Fin 4) (f : Media → Media) :
    (s.onMedia h f).part = s.part := rfl
@[simp] theorem State.onMedia_fuse (s : State) (h : Fin 4) (f : Media → Media) :
    (s.onMedia h f).fuse = s.fuse := rfl
@[simp] theorem State.onMedia_now (s : State) (h : Fin 4) (f : Media → Media) :
    (s.onMedia h f).now = s.now := rfl
@[simp] theorem State.onMedia_fresh (s : State) (h : Fin 4) (f : Media → Media) :
    (s.onMedia h f).fresh = s.fresh := rfl
@[simp] theorem State.onMedia_ao (s : State) (h : Fin 4) (f : Media → Media) :
    (s.onMedia h f).ao = s.ao := rfl
@[simp] theorem State.onMedia_pwr (s : State) (h : Fin 4) (f : Media → Media) :
    (s.onMedia h f).pwr = s.pwr := rfl
@[simp] theorem State.onMedia_bus (s : State) (h : Fin 4) (f : Media → Media) :
    (s.onMedia h f).bus = s.bus := rfl
@[simp] theorem State.onMedia_vi (s : State) (h : Fin 4) (f : Media → Media) :
    (s.onMedia h f).vi = s.vi := rfl
@[simp] theorem State.onMedia_par (s : State) (h : Fin 4) (f : Media → Media) :
    (s.onMedia h f).par = s.par := rfl
@[simp] theorem State.onMedia_loam (s : State) (h : Fin 4) (f : Media → Media) :
    (s.onMedia h f).loam = s.loam := rfl
@[simp] theorem State.onMedia_silt (s : State) (h : Fin 4) (f : Media → Media) :
    (s.onMedia h f).silt = s.silt := rfl
@[simp] theorem State.onMedia_marl (s : State) (h : Fin 4) (f : Media → Media) :
    (s.onMedia h f).marl = s.marl := rfl
@[simp] theorem State.onMedia_paper (s : State) (h : Fin 4) (f : Media → Media) :
    (s.onMedia h f).paper = { s.paper with media := vmod s.paper.media h f } := rfl
@[simp] theorem State.onMedia_analog (s : State) (h : Fin 4) (f : Media → Media) :
    (s.onMedia h f).analog = s.analog := rfl
@[simp] theorem State.onMedia_island (s : State) (h : Fin 4) (f : Media → Media) :
    (s.onMedia h f).island = s.island := rfl
@[simp] theorem State.onMedia_legal (s : State) (h : Fin 4) (f : Media → Media) :
    (s.onMedia h f).legal = s.legal := rfl
@[simp] theorem State.onMedia_grit (s : State) (h : Fin 4) (f : Media → Media) :
    (s.onMedia h f).grit = s.grit := rfl
@[simp] theorem State.onMedia_ser (s : State) (h : Fin 4) (f : Media → Media) :
    (s.onMedia h f).ser = s.ser := rfl
@[simp] theorem State.onMedia_link (s : State) (h : Fin 4) (f : Media → Media) :
    (s.onMedia h f).link = s.link := rfl
@[simp] theorem State.onMedia_mgmt (s : State) (h : Fin 4) (f : Media → Media) :
    (s.onMedia h f).mgmt = s.mgmt := rfl
@[simp] theorem State.onMedia_pending (s : State) (h : Fin 4) (f : Media → Media) :
    (s.onMedia h f).pending = s.pending := rfl

/-! ### onLamp -/

@[simp] theorem State.onLamp_part (s : State) (l : Fin 8) (f : Lamp → Lamp) :
    (s.onLamp l f).part = s.part := rfl
@[simp] theorem State.onLamp_fuse (s : State) (l : Fin 8) (f : Lamp → Lamp) :
    (s.onLamp l f).fuse = s.fuse := rfl
@[simp] theorem State.onLamp_now (s : State) (l : Fin 8) (f : Lamp → Lamp) :
    (s.onLamp l f).now = s.now := rfl
@[simp] theorem State.onLamp_fresh (s : State) (l : Fin 8) (f : Lamp → Lamp) :
    (s.onLamp l f).fresh = s.fresh := rfl
@[simp] theorem State.onLamp_ao (s : State) (l : Fin 8) (f : Lamp → Lamp) :
    (s.onLamp l f).ao = s.ao := rfl
@[simp] theorem State.onLamp_pwr (s : State) (l : Fin 8) (f : Lamp → Lamp) :
    (s.onLamp l f).pwr = s.pwr := rfl
@[simp] theorem State.onLamp_bus (s : State) (l : Fin 8) (f : Lamp → Lamp) :
    (s.onLamp l f).bus = s.bus := rfl
@[simp] theorem State.onLamp_vi (s : State) (l : Fin 8) (f : Lamp → Lamp) :
    (s.onLamp l f).vi = s.vi := rfl
@[simp] theorem State.onLamp_par (s : State) (l : Fin 8) (f : Lamp → Lamp) :
    (s.onLamp l f).par = s.par := rfl
@[simp] theorem State.onLamp_loam (s : State) (l : Fin 8) (f : Lamp → Lamp) :
    (s.onLamp l f).loam = s.loam := rfl
@[simp] theorem State.onLamp_silt (s : State) (l : Fin 8) (f : Lamp → Lamp) :
    (s.onLamp l f).silt = s.silt := rfl
@[simp] theorem State.onLamp_marl (s : State) (l : Fin 8) (f : Lamp → Lamp) :
    (s.onLamp l f).marl = s.marl := rfl
@[simp] theorem State.onLamp_paper (s : State) (l : Fin 8) (f : Lamp → Lamp) :
    (s.onLamp l f).paper = { s.paper with lamp := vmod s.paper.lamp l f } := rfl
@[simp] theorem State.onLamp_analog (s : State) (l : Fin 8) (f : Lamp → Lamp) :
    (s.onLamp l f).analog = s.analog := rfl
@[simp] theorem State.onLamp_island (s : State) (l : Fin 8) (f : Lamp → Lamp) :
    (s.onLamp l f).island = s.island := rfl
@[simp] theorem State.onLamp_legal (s : State) (l : Fin 8) (f : Lamp → Lamp) :
    (s.onLamp l f).legal = s.legal := rfl
@[simp] theorem State.onLamp_grit (s : State) (l : Fin 8) (f : Lamp → Lamp) :
    (s.onLamp l f).grit = s.grit := rfl
@[simp] theorem State.onLamp_ser (s : State) (l : Fin 8) (f : Lamp → Lamp) :
    (s.onLamp l f).ser = s.ser := rfl
@[simp] theorem State.onLamp_link (s : State) (l : Fin 8) (f : Lamp → Lamp) :
    (s.onLamp l f).link = s.link := rfl
@[simp] theorem State.onLamp_mgmt (s : State) (l : Fin 8) (f : Lamp → Lamp) :
    (s.onLamp l f).mgmt = s.mgmt := rfl
@[simp] theorem State.onLamp_pending (s : State) (l : Fin 8) (f : Lamp → Lamp) :
    (s.onLamp l f).pending = s.pending := rfl

/-! ### onAnalog -/

@[simp] theorem State.onAnalog_part (s : State) (f : Analog → Analog) :
    (s.onAnalog f).part = s.part := rfl
@[simp] theorem State.onAnalog_fuse (s : State) (f : Analog → Analog) :
    (s.onAnalog f).fuse = s.fuse := rfl
@[simp] theorem State.onAnalog_now (s : State) (f : Analog → Analog) :
    (s.onAnalog f).now = s.now := rfl
@[simp] theorem State.onAnalog_fresh (s : State) (f : Analog → Analog) :
    (s.onAnalog f).fresh = s.fresh := rfl
@[simp] theorem State.onAnalog_ao (s : State) (f : Analog → Analog) :
    (s.onAnalog f).ao = s.ao := rfl
@[simp] theorem State.onAnalog_pwr (s : State) (f : Analog → Analog) :
    (s.onAnalog f).pwr = s.pwr := rfl
@[simp] theorem State.onAnalog_bus (s : State) (f : Analog → Analog) :
    (s.onAnalog f).bus = s.bus := rfl
@[simp] theorem State.onAnalog_vi (s : State) (f : Analog → Analog) :
    (s.onAnalog f).vi = s.vi := rfl
@[simp] theorem State.onAnalog_par (s : State) (f : Analog → Analog) :
    (s.onAnalog f).par = s.par := rfl
@[simp] theorem State.onAnalog_loam (s : State) (f : Analog → Analog) :
    (s.onAnalog f).loam = s.loam := rfl
@[simp] theorem State.onAnalog_silt (s : State) (f : Analog → Analog) :
    (s.onAnalog f).silt = s.silt := rfl
@[simp] theorem State.onAnalog_marl (s : State) (f : Analog → Analog) :
    (s.onAnalog f).marl = s.marl := rfl
@[simp] theorem State.onAnalog_paper (s : State) (f : Analog → Analog) :
    (s.onAnalog f).paper = s.paper := rfl
@[simp] theorem State.onAnalog_analog (s : State) (f : Analog → Analog) :
    (s.onAnalog f).analog = f s.analog := rfl
@[simp] theorem State.onAnalog_island (s : State) (f : Analog → Analog) :
    (s.onAnalog f).island = s.island := rfl
@[simp] theorem State.onAnalog_legal (s : State) (f : Analog → Analog) :
    (s.onAnalog f).legal = s.legal := rfl
@[simp] theorem State.onAnalog_grit (s : State) (f : Analog → Analog) :
    (s.onAnalog f).grit = s.grit := rfl
@[simp] theorem State.onAnalog_ser (s : State) (f : Analog → Analog) :
    (s.onAnalog f).ser = s.ser := rfl
@[simp] theorem State.onAnalog_link (s : State) (f : Analog → Analog) :
    (s.onAnalog f).link = s.link := rfl
@[simp] theorem State.onAnalog_mgmt (s : State) (f : Analog → Analog) :
    (s.onAnalog f).mgmt = s.mgmt := rfl
@[simp] theorem State.onAnalog_pending (s : State) (f : Analog → Analog) :
    (s.onAnalog f).pending = s.pending := rfl

/-! ### onConv -/

@[simp] theorem State.onConv_part (s : State) (y : Fin 2) (f : Converter → Converter) :
    (s.onConv y f).part = s.part := rfl
@[simp] theorem State.onConv_fuse (s : State) (y : Fin 2) (f : Converter → Converter) :
    (s.onConv y f).fuse = s.fuse := rfl
@[simp] theorem State.onConv_now (s : State) (y : Fin 2) (f : Converter → Converter) :
    (s.onConv y f).now = s.now := rfl
@[simp] theorem State.onConv_fresh (s : State) (y : Fin 2) (f : Converter → Converter) :
    (s.onConv y f).fresh = s.fresh := rfl
@[simp] theorem State.onConv_ao (s : State) (y : Fin 2) (f : Converter → Converter) :
    (s.onConv y f).ao = s.ao := rfl
@[simp] theorem State.onConv_pwr (s : State) (y : Fin 2) (f : Converter → Converter) :
    (s.onConv y f).pwr = s.pwr := rfl
@[simp] theorem State.onConv_bus (s : State) (y : Fin 2) (f : Converter → Converter) :
    (s.onConv y f).bus = s.bus := rfl
@[simp] theorem State.onConv_vi (s : State) (y : Fin 2) (f : Converter → Converter) :
    (s.onConv y f).vi = s.vi := rfl
@[simp] theorem State.onConv_par (s : State) (y : Fin 2) (f : Converter → Converter) :
    (s.onConv y f).par = s.par := rfl
@[simp] theorem State.onConv_loam (s : State) (y : Fin 2) (f : Converter → Converter) :
    (s.onConv y f).loam = s.loam := rfl
@[simp] theorem State.onConv_silt (s : State) (y : Fin 2) (f : Converter → Converter) :
    (s.onConv y f).silt = s.silt := rfl
@[simp] theorem State.onConv_marl (s : State) (y : Fin 2) (f : Converter → Converter) :
    (s.onConv y f).marl = s.marl := rfl
@[simp] theorem State.onConv_paper (s : State) (y : Fin 2) (f : Converter → Converter) :
    (s.onConv y f).paper = s.paper := rfl
@[simp] theorem State.onConv_analog (s : State) (y : Fin 2) (f : Converter → Converter) :
    (s.onConv y f).analog = { s.analog with conv := vmod s.analog.conv y f } := rfl
@[simp] theorem State.onConv_island (s : State) (y : Fin 2) (f : Converter → Converter) :
    (s.onConv y f).island = s.island := rfl
@[simp] theorem State.onConv_legal (s : State) (y : Fin 2) (f : Converter → Converter) :
    (s.onConv y f).legal = s.legal := rfl
@[simp] theorem State.onConv_grit (s : State) (y : Fin 2) (f : Converter → Converter) :
    (s.onConv y f).grit = s.grit := rfl
@[simp] theorem State.onConv_ser (s : State) (y : Fin 2) (f : Converter → Converter) :
    (s.onConv y f).ser = s.ser := rfl
@[simp] theorem State.onConv_link (s : State) (y : Fin 2) (f : Converter → Converter) :
    (s.onConv y f).link = s.link := rfl
@[simp] theorem State.onConv_mgmt (s : State) (y : Fin 2) (f : Converter → Converter) :
    (s.onConv y f).mgmt = s.mgmt := rfl
@[simp] theorem State.onConv_pending (s : State) (y : Fin 2) (f : Converter → Converter) :
    (s.onConv y f).pending = s.pending := rfl

/-! ### onIsland -/

@[simp] theorem State.onIsland_part (s : State) (f : Island → Island) :
    (s.onIsland f).part = s.part := rfl
@[simp] theorem State.onIsland_fuse (s : State) (f : Island → Island) :
    (s.onIsland f).fuse = s.fuse := rfl
@[simp] theorem State.onIsland_now (s : State) (f : Island → Island) :
    (s.onIsland f).now = s.now := rfl
@[simp] theorem State.onIsland_fresh (s : State) (f : Island → Island) :
    (s.onIsland f).fresh = s.fresh := rfl
@[simp] theorem State.onIsland_ao (s : State) (f : Island → Island) :
    (s.onIsland f).ao = s.ao := rfl
@[simp] theorem State.onIsland_pwr (s : State) (f : Island → Island) :
    (s.onIsland f).pwr = s.pwr := rfl
@[simp] theorem State.onIsland_bus (s : State) (f : Island → Island) :
    (s.onIsland f).bus = s.bus := rfl
@[simp] theorem State.onIsland_vi (s : State) (f : Island → Island) :
    (s.onIsland f).vi = s.vi := rfl
@[simp] theorem State.onIsland_par (s : State) (f : Island → Island) :
    (s.onIsland f).par = s.par := rfl
@[simp] theorem State.onIsland_loam (s : State) (f : Island → Island) :
    (s.onIsland f).loam = s.loam := rfl
@[simp] theorem State.onIsland_silt (s : State) (f : Island → Island) :
    (s.onIsland f).silt = s.silt := rfl
@[simp] theorem State.onIsland_marl (s : State) (f : Island → Island) :
    (s.onIsland f).marl = s.marl := rfl
@[simp] theorem State.onIsland_paper (s : State) (f : Island → Island) :
    (s.onIsland f).paper = s.paper := rfl
@[simp] theorem State.onIsland_analog (s : State) (f : Island → Island) :
    (s.onIsland f).analog = s.analog := rfl
@[simp] theorem State.onIsland_island (s : State) (f : Island → Island) :
    (s.onIsland f).island = f s.island := rfl
@[simp] theorem State.onIsland_legal (s : State) (f : Island → Island) :
    (s.onIsland f).legal = s.legal := rfl
@[simp] theorem State.onIsland_grit (s : State) (f : Island → Island) :
    (s.onIsland f).grit = s.grit := rfl
@[simp] theorem State.onIsland_ser (s : State) (f : Island → Island) :
    (s.onIsland f).ser = s.ser := rfl
@[simp] theorem State.onIsland_link (s : State) (f : Island → Island) :
    (s.onIsland f).link = s.link := rfl
@[simp] theorem State.onIsland_mgmt (s : State) (f : Island → Island) :
    (s.onIsland f).mgmt = s.mgmt := rfl
@[simp] theorem State.onIsland_pending (s : State) (f : Island → Island) :
    (s.onIsland f).pending = s.pending := rfl

/-! ### onLegal -/

@[simp] theorem State.onLegal_part (s : State) (f : Legal → Legal) :
    (s.onLegal f).part = s.part := rfl
@[simp] theorem State.onLegal_fuse (s : State) (f : Legal → Legal) :
    (s.onLegal f).fuse = s.fuse := rfl
@[simp] theorem State.onLegal_now (s : State) (f : Legal → Legal) :
    (s.onLegal f).now = s.now := rfl
@[simp] theorem State.onLegal_fresh (s : State) (f : Legal → Legal) :
    (s.onLegal f).fresh = s.fresh := rfl
@[simp] theorem State.onLegal_ao (s : State) (f : Legal → Legal) :
    (s.onLegal f).ao = s.ao := rfl
@[simp] theorem State.onLegal_pwr (s : State) (f : Legal → Legal) :
    (s.onLegal f).pwr = s.pwr := rfl
@[simp] theorem State.onLegal_bus (s : State) (f : Legal → Legal) :
    (s.onLegal f).bus = s.bus := rfl
@[simp] theorem State.onLegal_vi (s : State) (f : Legal → Legal) :
    (s.onLegal f).vi = s.vi := rfl
@[simp] theorem State.onLegal_par (s : State) (f : Legal → Legal) :
    (s.onLegal f).par = s.par := rfl
@[simp] theorem State.onLegal_loam (s : State) (f : Legal → Legal) :
    (s.onLegal f).loam = s.loam := rfl
@[simp] theorem State.onLegal_silt (s : State) (f : Legal → Legal) :
    (s.onLegal f).silt = s.silt := rfl
@[simp] theorem State.onLegal_marl (s : State) (f : Legal → Legal) :
    (s.onLegal f).marl = s.marl := rfl
@[simp] theorem State.onLegal_paper (s : State) (f : Legal → Legal) :
    (s.onLegal f).paper = s.paper := rfl
@[simp] theorem State.onLegal_analog (s : State) (f : Legal → Legal) :
    (s.onLegal f).analog = s.analog := rfl
@[simp] theorem State.onLegal_island (s : State) (f : Legal → Legal) :
    (s.onLegal f).island = s.island := rfl
@[simp] theorem State.onLegal_legal (s : State) (f : Legal → Legal) :
    (s.onLegal f).legal = f s.legal := rfl
@[simp] theorem State.onLegal_grit (s : State) (f : Legal → Legal) :
    (s.onLegal f).grit = s.grit := rfl
@[simp] theorem State.onLegal_ser (s : State) (f : Legal → Legal) :
    (s.onLegal f).ser = s.ser := rfl
@[simp] theorem State.onLegal_link (s : State) (f : Legal → Legal) :
    (s.onLegal f).link = s.link := rfl
@[simp] theorem State.onLegal_mgmt (s : State) (f : Legal → Legal) :
    (s.onLegal f).mgmt = s.mgmt := rfl
@[simp] theorem State.onLegal_pending (s : State) (f : Legal → Legal) :
    (s.onLegal f).pending = s.pending := rfl

/-! ### onGrit -/

@[simp] theorem State.onGrit_part (s : State) (f : Grit → Grit) :
    (s.onGrit f).part = s.part := rfl
@[simp] theorem State.onGrit_fuse (s : State) (f : Grit → Grit) :
    (s.onGrit f).fuse = s.fuse := rfl
@[simp] theorem State.onGrit_now (s : State) (f : Grit → Grit) :
    (s.onGrit f).now = s.now := rfl
@[simp] theorem State.onGrit_fresh (s : State) (f : Grit → Grit) :
    (s.onGrit f).fresh = s.fresh := rfl
@[simp] theorem State.onGrit_ao (s : State) (f : Grit → Grit) :
    (s.onGrit f).ao = s.ao := rfl
@[simp] theorem State.onGrit_pwr (s : State) (f : Grit → Grit) :
    (s.onGrit f).pwr = s.pwr := rfl
@[simp] theorem State.onGrit_bus (s : State) (f : Grit → Grit) :
    (s.onGrit f).bus = s.bus := rfl
@[simp] theorem State.onGrit_vi (s : State) (f : Grit → Grit) :
    (s.onGrit f).vi = s.vi := rfl
@[simp] theorem State.onGrit_par (s : State) (f : Grit → Grit) :
    (s.onGrit f).par = s.par := rfl
@[simp] theorem State.onGrit_loam (s : State) (f : Grit → Grit) :
    (s.onGrit f).loam = s.loam := rfl
@[simp] theorem State.onGrit_silt (s : State) (f : Grit → Grit) :
    (s.onGrit f).silt = s.silt := rfl
@[simp] theorem State.onGrit_marl (s : State) (f : Grit → Grit) :
    (s.onGrit f).marl = s.marl := rfl
@[simp] theorem State.onGrit_paper (s : State) (f : Grit → Grit) :
    (s.onGrit f).paper = s.paper := rfl
@[simp] theorem State.onGrit_analog (s : State) (f : Grit → Grit) :
    (s.onGrit f).analog = s.analog := rfl
@[simp] theorem State.onGrit_island (s : State) (f : Grit → Grit) :
    (s.onGrit f).island = s.island := rfl
@[simp] theorem State.onGrit_legal (s : State) (f : Grit → Grit) :
    (s.onGrit f).legal = s.legal := rfl
@[simp] theorem State.onGrit_grit (s : State) (f : Grit → Grit) :
    (s.onGrit f).grit = f s.grit := rfl
@[simp] theorem State.onGrit_ser (s : State) (f : Grit → Grit) :
    (s.onGrit f).ser = s.ser := rfl
@[simp] theorem State.onGrit_link (s : State) (f : Grit → Grit) :
    (s.onGrit f).link = s.link := rfl
@[simp] theorem State.onGrit_mgmt (s : State) (f : Grit → Grit) :
    (s.onGrit f).mgmt = s.mgmt := rfl
@[simp] theorem State.onGrit_pending (s : State) (f : Grit → Grit) :
    (s.onGrit f).pending = s.pending := rfl

/-! ### onSerial -/

@[simp] theorem State.onSerial_part (s : State) (f : SerialBlock → SerialBlock) :
    (s.onSerial f).part = s.part := rfl
@[simp] theorem State.onSerial_fuse (s : State) (f : SerialBlock → SerialBlock) :
    (s.onSerial f).fuse = s.fuse := rfl
@[simp] theorem State.onSerial_now (s : State) (f : SerialBlock → SerialBlock) :
    (s.onSerial f).now = s.now := rfl
@[simp] theorem State.onSerial_fresh (s : State) (f : SerialBlock → SerialBlock) :
    (s.onSerial f).fresh = s.fresh := rfl
@[simp] theorem State.onSerial_ao (s : State) (f : SerialBlock → SerialBlock) :
    (s.onSerial f).ao = s.ao := rfl
@[simp] theorem State.onSerial_pwr (s : State) (f : SerialBlock → SerialBlock) :
    (s.onSerial f).pwr = s.pwr := rfl
@[simp] theorem State.onSerial_bus (s : State) (f : SerialBlock → SerialBlock) :
    (s.onSerial f).bus = s.bus := rfl
@[simp] theorem State.onSerial_vi (s : State) (f : SerialBlock → SerialBlock) :
    (s.onSerial f).vi = s.vi := rfl
@[simp] theorem State.onSerial_par (s : State) (f : SerialBlock → SerialBlock) :
    (s.onSerial f).par = s.par := rfl
@[simp] theorem State.onSerial_loam (s : State) (f : SerialBlock → SerialBlock) :
    (s.onSerial f).loam = s.loam := rfl
@[simp] theorem State.onSerial_silt (s : State) (f : SerialBlock → SerialBlock) :
    (s.onSerial f).silt = s.silt := rfl
@[simp] theorem State.onSerial_marl (s : State) (f : SerialBlock → SerialBlock) :
    (s.onSerial f).marl = s.marl := rfl
@[simp] theorem State.onSerial_paper (s : State) (f : SerialBlock → SerialBlock) :
    (s.onSerial f).paper = s.paper := rfl
@[simp] theorem State.onSerial_analog (s : State) (f : SerialBlock → SerialBlock) :
    (s.onSerial f).analog = s.analog := rfl
@[simp] theorem State.onSerial_island (s : State) (f : SerialBlock → SerialBlock) :
    (s.onSerial f).island = s.island := rfl
@[simp] theorem State.onSerial_legal (s : State) (f : SerialBlock → SerialBlock) :
    (s.onSerial f).legal = s.legal := rfl
@[simp] theorem State.onSerial_grit (s : State) (f : SerialBlock → SerialBlock) :
    (s.onSerial f).grit = s.grit := rfl
@[simp] theorem State.onSerial_ser (s : State) (f : SerialBlock → SerialBlock) :
    (s.onSerial f).ser = f s.ser := rfl
@[simp] theorem State.onSerial_link (s : State) (f : SerialBlock → SerialBlock) :
    (s.onSerial f).link = s.link := rfl
@[simp] theorem State.onSerial_mgmt (s : State) (f : SerialBlock → SerialBlock) :
    (s.onSerial f).mgmt = s.mgmt := rfl
@[simp] theorem State.onSerial_pending (s : State) (f : SerialBlock → SerialBlock) :
    (s.onSerial f).pending = s.pending := rfl

/-! ### onSer -/

@[simp] theorem State.onSer_part (s : State) (p : Fin 3) (f : Serial → Serial) :
    (s.onSer p f).part = s.part := rfl
@[simp] theorem State.onSer_fuse (s : State) (p : Fin 3) (f : Serial → Serial) :
    (s.onSer p f).fuse = s.fuse := rfl
@[simp] theorem State.onSer_now (s : State) (p : Fin 3) (f : Serial → Serial) :
    (s.onSer p f).now = s.now := rfl
@[simp] theorem State.onSer_fresh (s : State) (p : Fin 3) (f : Serial → Serial) :
    (s.onSer p f).fresh = s.fresh := rfl
@[simp] theorem State.onSer_ao (s : State) (p : Fin 3) (f : Serial → Serial) :
    (s.onSer p f).ao = s.ao := rfl
@[simp] theorem State.onSer_pwr (s : State) (p : Fin 3) (f : Serial → Serial) :
    (s.onSer p f).pwr = s.pwr := rfl
@[simp] theorem State.onSer_bus (s : State) (p : Fin 3) (f : Serial → Serial) :
    (s.onSer p f).bus = s.bus := rfl
@[simp] theorem State.onSer_vi (s : State) (p : Fin 3) (f : Serial → Serial) :
    (s.onSer p f).vi = s.vi := rfl
@[simp] theorem State.onSer_par (s : State) (p : Fin 3) (f : Serial → Serial) :
    (s.onSer p f).par = s.par := rfl
@[simp] theorem State.onSer_loam (s : State) (p : Fin 3) (f : Serial → Serial) :
    (s.onSer p f).loam = s.loam := rfl
@[simp] theorem State.onSer_silt (s : State) (p : Fin 3) (f : Serial → Serial) :
    (s.onSer p f).silt = s.silt := rfl
@[simp] theorem State.onSer_marl (s : State) (p : Fin 3) (f : Serial → Serial) :
    (s.onSer p f).marl = s.marl := rfl
@[simp] theorem State.onSer_paper (s : State) (p : Fin 3) (f : Serial → Serial) :
    (s.onSer p f).paper = s.paper := rfl
@[simp] theorem State.onSer_analog (s : State) (p : Fin 3) (f : Serial → Serial) :
    (s.onSer p f).analog = s.analog := rfl
@[simp] theorem State.onSer_island (s : State) (p : Fin 3) (f : Serial → Serial) :
    (s.onSer p f).island = s.island := rfl
@[simp] theorem State.onSer_legal (s : State) (p : Fin 3) (f : Serial → Serial) :
    (s.onSer p f).legal = s.legal := rfl
@[simp] theorem State.onSer_grit (s : State) (p : Fin 3) (f : Serial → Serial) :
    (s.onSer p f).grit = s.grit := rfl
@[simp] theorem State.onSer_ser (s : State) (p : Fin 3) (f : Serial → Serial) :
    (s.onSer p f).ser = { s.ser with port := vmod s.ser.port p f } := rfl
@[simp] theorem State.onSer_link (s : State) (p : Fin 3) (f : Serial → Serial) :
    (s.onSer p f).link = s.link := rfl
@[simp] theorem State.onSer_mgmt (s : State) (p : Fin 3) (f : Serial → Serial) :
    (s.onSer p f).mgmt = s.mgmt := rfl
@[simp] theorem State.onSer_pending (s : State) (p : Fin 3) (f : Serial → Serial) :
    (s.onSer p f).pending = s.pending := rfl

/-! ### onLink -/

@[simp] theorem State.onLink_part (s : State) (f : Link → Link) :
    (s.onLink f).part = s.part := rfl
@[simp] theorem State.onLink_fuse (s : State) (f : Link → Link) :
    (s.onLink f).fuse = s.fuse := rfl
@[simp] theorem State.onLink_now (s : State) (f : Link → Link) :
    (s.onLink f).now = s.now := rfl
@[simp] theorem State.onLink_fresh (s : State) (f : Link → Link) :
    (s.onLink f).fresh = s.fresh := rfl
@[simp] theorem State.onLink_ao (s : State) (f : Link → Link) :
    (s.onLink f).ao = s.ao := rfl
@[simp] theorem State.onLink_pwr (s : State) (f : Link → Link) :
    (s.onLink f).pwr = s.pwr := rfl
@[simp] theorem State.onLink_bus (s : State) (f : Link → Link) :
    (s.onLink f).bus = s.bus := rfl
@[simp] theorem State.onLink_vi (s : State) (f : Link → Link) :
    (s.onLink f).vi = s.vi := rfl
@[simp] theorem State.onLink_par (s : State) (f : Link → Link) :
    (s.onLink f).par = s.par := rfl
@[simp] theorem State.onLink_loam (s : State) (f : Link → Link) :
    (s.onLink f).loam = s.loam := rfl
@[simp] theorem State.onLink_silt (s : State) (f : Link → Link) :
    (s.onLink f).silt = s.silt := rfl
@[simp] theorem State.onLink_marl (s : State) (f : Link → Link) :
    (s.onLink f).marl = s.marl := rfl
@[simp] theorem State.onLink_paper (s : State) (f : Link → Link) :
    (s.onLink f).paper = s.paper := rfl
@[simp] theorem State.onLink_analog (s : State) (f : Link → Link) :
    (s.onLink f).analog = s.analog := rfl
@[simp] theorem State.onLink_island (s : State) (f : Link → Link) :
    (s.onLink f).island = s.island := rfl
@[simp] theorem State.onLink_legal (s : State) (f : Link → Link) :
    (s.onLink f).legal = s.legal := rfl
@[simp] theorem State.onLink_grit (s : State) (f : Link → Link) :
    (s.onLink f).grit = s.grit := rfl
@[simp] theorem State.onLink_ser (s : State) (f : Link → Link) :
    (s.onLink f).ser = s.ser := rfl
@[simp] theorem State.onLink_link (s : State) (f : Link → Link) :
    (s.onLink f).link = f s.link := rfl
@[simp] theorem State.onLink_mgmt (s : State) (f : Link → Link) :
    (s.onLink f).mgmt = s.mgmt := rfl
@[simp] theorem State.onLink_pending (s : State) (f : Link → Link) :
    (s.onLink f).pending = s.pending := rfl

/-! ### onMgmt -/

@[simp] theorem State.onMgmt_part (s : State) (f : Mgmt → Mgmt) :
    (s.onMgmt f).part = s.part := rfl
@[simp] theorem State.onMgmt_fuse (s : State) (f : Mgmt → Mgmt) :
    (s.onMgmt f).fuse = s.fuse := rfl
@[simp] theorem State.onMgmt_now (s : State) (f : Mgmt → Mgmt) :
    (s.onMgmt f).now = s.now := rfl
@[simp] theorem State.onMgmt_fresh (s : State) (f : Mgmt → Mgmt) :
    (s.onMgmt f).fresh = s.fresh := rfl
@[simp] theorem State.onMgmt_ao (s : State) (f : Mgmt → Mgmt) :
    (s.onMgmt f).ao = s.ao := rfl
@[simp] theorem State.onMgmt_pwr (s : State) (f : Mgmt → Mgmt) :
    (s.onMgmt f).pwr = s.pwr := rfl
@[simp] theorem State.onMgmt_bus (s : State) (f : Mgmt → Mgmt) :
    (s.onMgmt f).bus = s.bus := rfl
@[simp] theorem State.onMgmt_vi (s : State) (f : Mgmt → Mgmt) :
    (s.onMgmt f).vi = s.vi := rfl
@[simp] theorem State.onMgmt_par (s : State) (f : Mgmt → Mgmt) :
    (s.onMgmt f).par = s.par := rfl
@[simp] theorem State.onMgmt_loam (s : State) (f : Mgmt → Mgmt) :
    (s.onMgmt f).loam = s.loam := rfl
@[simp] theorem State.onMgmt_silt (s : State) (f : Mgmt → Mgmt) :
    (s.onMgmt f).silt = s.silt := rfl
@[simp] theorem State.onMgmt_marl (s : State) (f : Mgmt → Mgmt) :
    (s.onMgmt f).marl = s.marl := rfl
@[simp] theorem State.onMgmt_paper (s : State) (f : Mgmt → Mgmt) :
    (s.onMgmt f).paper = s.paper := rfl
@[simp] theorem State.onMgmt_analog (s : State) (f : Mgmt → Mgmt) :
    (s.onMgmt f).analog = s.analog := rfl
@[simp] theorem State.onMgmt_island (s : State) (f : Mgmt → Mgmt) :
    (s.onMgmt f).island = s.island := rfl
@[simp] theorem State.onMgmt_legal (s : State) (f : Mgmt → Mgmt) :
    (s.onMgmt f).legal = s.legal := rfl
@[simp] theorem State.onMgmt_grit (s : State) (f : Mgmt → Mgmt) :
    (s.onMgmt f).grit = s.grit := rfl
@[simp] theorem State.onMgmt_ser (s : State) (f : Mgmt → Mgmt) :
    (s.onMgmt f).ser = s.ser := rfl
@[simp] theorem State.onMgmt_link (s : State) (f : Mgmt → Mgmt) :
    (s.onMgmt f).link = s.link := rfl
@[simp] theorem State.onMgmt_mgmt (s : State) (f : Mgmt → Mgmt) :
    (s.onMgmt f).mgmt = f s.mgmt := rfl
@[simp] theorem State.onMgmt_pending (s : State) (f : Mgmt → Mgmt) :
    (s.onMgmt f).pending = s.pending := rfl

end Sys2Proof.Machine
end

