-- ==== Sys2Proof/Laws/Reports.lean ====
section
/-! SUPPORT. What raising an event or creating a log record can do: queues, the retention ring and the count of lost
records change, and nothing else. -/

namespace Sys2Proof

open Machine

theorem Reports.refl (s : State) : Reports s s := rfl

theorem Reports.trans {s t u : State} (h : Reports s t) (k : Reports t u) : Reports s u := by
  unfold Reports at *
  rw [h] at k
  exact k

theorem Reports.part {s t : State} (h : Reports s t) : t.part = s.part := by rw [h]
theorem Reports.fuse {s t : State} (h : Reports s t) : t.fuse = s.fuse := by rw [h]
theorem Reports.now {s t : State} (h : Reports s t) : t.now = s.now := by rw [h]
theorem Reports.fresh {s t : State} (h : Reports s t) : t.fresh = s.fresh := by rw [h]
theorem Reports.pwr {s t : State} (h : Reports s t) : t.pwr = s.pwr := by rw [h]
theorem Reports.vi {s t : State} (h : Reports s t) : t.vi = s.vi := by rw [h]
theorem Reports.par {s t : State} (h : Reports s t) : t.par = s.par := by rw [h]
theorem Reports.loam {s t : State} (h : Reports s t) : t.loam = s.loam := by rw [h]
theorem Reports.silt {s t : State} (h : Reports s t) : t.silt = s.silt := by rw [h]
theorem Reports.marl {s t : State} (h : Reports s t) : t.marl = s.marl := by rw [h]
theorem Reports.paper {s t : State} (h : Reports s t) : t.paper = s.paper := by rw [h]
theorem Reports.analog {s t : State} (h : Reports s t) : t.analog = s.analog := by rw [h]
theorem Reports.island {s t : State} (h : Reports s t) : t.island = s.island := by rw [h]
theorem Reports.legal {s t : State} (h : Reports s t) : t.legal = s.legal := by rw [h]
theorem Reports.grit {s t : State} (h : Reports s t) : t.grit = s.grit := by rw [h]
theorem Reports.ser {s t : State} (h : Reports s t) : t.ser = s.ser := by rw [h]
theorem Reports.link {s t : State} (h : Reports s t) : t.link = s.link := by rw [h]
theorem Reports.pending {s t : State} (h : Reports s t) : t.pending = s.pending := by rw [h]

theorem reports_foldl {α : Type} {g : State → α → State} (hg : ∀ u y, Reports u (g u y)) (l : List α) (s : State) :
    Reports s (l.foldl g s) := by
  induction l generalizing s with
  | nil => exact Reports.refl s
  | cons a t ih => exact (hg s a).trans (ih _)

theorem Machine.State.onEvq_reports (s : State) (w : Fin 9) (f : EventPort → EventPort) : Reports s (s.onEvq w f) := rfl

theorem Machine.State.logRecord_reports (s : State) (code aux : Byte) (payload : Word) (w4 w5 : Par) :
    Reports s (s.logRecord code aux payload w4 w5) := by
  unfold State.logRecord
  split
  · rfl
  · split <;> rfl

theorem Machine.State.raiseVi_reports (s : State) (v : Fin 8) (code aux : Byte) (payload : Word) :
    Reports s (s.raiseVi v code aux payload) := by
  unfold State.raiseVi
  split <;> rfl

theorem Machine.State.raiseVis_reports (s : State) (p : State → Fin 8 → Bool) (code aux : Byte) (payload : Word) :
    Reports s (s.raiseVis p code aux payload) := by
  unfold State.raiseVis
  refine reports_foldl ?_ _ s
  intro u v
  split
  · exact State.raiseVi_reports u v code aux payload
  · rfl

theorem Machine.State.raise0_reports (s : State) (code aux : Byte) (payload : Word) : Reports s (s.raise0 code aux payload) := by
  unfold State.raise0
  split
  · rfl
  · dsimp only
    split
    · exact (Machine.State.onEvq_reports s 0 _).trans (State.logRecord_reports _ _ _ _ _ _)
    · exact Machine.State.onEvq_reports s 0 _

theorem Machine.State.raiseBoth_reports (s : State) (p : State → Fin 8 → Bool) (code aux : Byte) (payload : Word) :
    Reports s (s.raiseBoth p code aux payload) :=
  (State.raise0_reports s code aux payload).trans (State.raiseVis_reports _ _ _ _ _)

theorem Machine.State.raiseWin_reports (s : State) (w : Fin 11) (code aux : Byte) (payload : Word) :
    Reports s (s.raiseWin w code aux payload) := by
  unfold State.raiseWin
  split
  · exact State.raise0_reports s code aux payload
  · split
    · exact State.raiseVi_reports s _ code aux payload
    · rfl

/-! ### The parts that no report changes -/

@[simp] theorem Machine.State.logRecord_part (s : State) (code aux : Byte) (payload : Word) (w4 w5 : Par) :
    (s.logRecord code aux payload w4 w5).part = s.part := (Machine.State.logRecord_reports s code aux payload w4 w5).part
@[simp] theorem Machine.State.logRecord_fuse (s : State) (code aux : Byte) (payload : Word) (w4 w5 : Par) :
    (s.logRecord code aux payload w4 w5).fuse = s.fuse := (Machine.State.logRecord_reports s code aux payload w4 w5).fuse
@[simp] theorem Machine.State.logRecord_now (s : State) (code aux : Byte) (payload : Word) (w4 w5 : Par) :
    (s.logRecord code aux payload w4 w5).now = s.now := (Machine.State.logRecord_reports s code aux payload w4 w5).now
@[simp] theorem Machine.State.logRecord_fresh (s : State) (code aux : Byte) (payload : Word) (w4 w5 : Par) :
    (s.logRecord code aux payload w4 w5).fresh = s.fresh := (Machine.State.logRecord_reports s code aux payload w4 w5).fresh
@[simp] theorem Machine.State.logRecord_pwr (s : State) (code aux : Byte) (payload : Word) (w4 w5 : Par) :
    (s.logRecord code aux payload w4 w5).pwr = s.pwr := (Machine.State.logRecord_reports s code aux payload w4 w5).pwr
@[simp] theorem Machine.State.logRecord_vi (s : State) (code aux : Byte) (payload : Word) (w4 w5 : Par) :
    (s.logRecord code aux payload w4 w5).vi = s.vi := (Machine.State.logRecord_reports s code aux payload w4 w5).vi
@[simp] theorem Machine.State.logRecord_par (s : State) (code aux : Byte) (payload : Word) (w4 w5 : Par) :
    (s.logRecord code aux payload w4 w5).par = s.par := (Machine.State.logRecord_reports s code aux payload w4 w5).par
@[simp] theorem Machine.State.logRecord_loam (s : State) (code aux : Byte) (payload : Word) (w4 w5 : Par) :
    (s.logRecord code aux payload w4 w5).loam = s.loam := (Machine.State.logRecord_reports s code aux payload w4 w5).loam
@[simp] theorem Machine.State.logRecord_silt (s : State) (code aux : Byte) (payload : Word) (w4 w5 : Par) :
    (s.logRecord code aux payload w4 w5).silt = s.silt := (Machine.State.logRecord_reports s code aux payload w4 w5).silt
@[simp] theorem Machine.State.logRecord_marl (s : State) (code aux : Byte) (payload : Word) (w4 w5 : Par) :
    (s.logRecord code aux payload w4 w5).marl = s.marl := (Machine.State.logRecord_reports s code aux payload w4 w5).marl
@[simp] theorem Machine.State.logRecord_paper (s : State) (code aux : Byte) (payload : Word) (w4 w5 : Par) :
    (s.logRecord code aux payload w4 w5).paper = s.paper := (Machine.State.logRecord_reports s code aux payload w4 w5).paper
@[simp] theorem Machine.State.logRecord_analog (s : State) (code aux : Byte) (payload : Word) (w4 w5 : Par) :
    (s.logRecord code aux payload w4 w5).analog = s.analog := (Machine.State.logRecord_reports s code aux payload w4 w5).analog
@[simp] theorem Machine.State.logRecord_island (s : State) (code aux : Byte) (payload : Word) (w4 w5 : Par) :
    (s.logRecord code aux payload w4 w5).island = s.island := (Machine.State.logRecord_reports s code aux payload w4 w5).island
@[simp] theorem Machine.State.logRecord_legal (s : State) (code aux : Byte) (payload : Word) (w4 w5 : Par) :
    (s.logRecord code aux payload w4 w5).legal = s.legal := (Machine.State.logRecord_reports s code aux payload w4 w5).legal
@[simp] theorem Machine.State.logRecord_grit (s : State) (code aux : Byte) (payload : Word) (w4 w5 : Par) :
    (s.logRecord code aux payload w4 w5).grit = s.grit := (Machine.State.logRecord_reports s code aux payload w4 w5).grit
@[simp] theorem Machine.State.logRecord_ser (s : State) (code aux : Byte) (payload : Word) (w4 w5 : Par) :
    (s.logRecord code aux payload w4 w5).ser = s.ser := (Machine.State.logRecord_reports s code aux payload w4 w5).ser
@[simp] theorem Machine.State.logRecord_link (s : State) (code aux : Byte) (payload : Word) (w4 w5 : Par) :
    (s.logRecord code aux payload w4 w5).link = s.link := (Machine.State.logRecord_reports s code aux payload w4 w5).link
@[simp] theorem Machine.State.logRecord_pending (s : State) (code aux : Byte) (payload : Word) (w4 w5 : Par) :
    (s.logRecord code aux payload w4 w5).pending = s.pending := (Machine.State.logRecord_reports s code aux payload w4 w5).pending
@[simp] theorem Machine.State.raiseVi_part (s : State) (v : Fin 8) (code aux : Byte) (payload : Word) :
    (s.raiseVi v code aux payload).part = s.part := (Machine.State.raiseVi_reports s v code aux payload).part
@[simp] theorem Machine.State.raiseVi_fuse (s : State) (v : Fin 8) (code aux : Byte) (payload : Word) :
    (s.raiseVi v code aux payload).fuse = s.fuse := (Machine.State.raiseVi_reports s v code aux payload).fuse
@[simp] theorem Machine.State.raiseVi_now (s : State) (v : Fin 8) (code aux : Byte) (payload : Word) :
    (s.raiseVi v code aux payload).now = s.now := (Machine.State.raiseVi_reports s v code aux payload).now
@[simp] theorem Machine.State.raiseVi_fresh (s : State) (v : Fin 8) (code aux : Byte) (payload : Word) :
    (s.raiseVi v code aux payload).fresh = s.fresh := (Machine.State.raiseVi_reports s v code aux payload).fresh
@[simp] theorem Machine.State.raiseVi_pwr (s : State) (v : Fin 8) (code aux : Byte) (payload : Word) :
    (s.raiseVi v code aux payload).pwr = s.pwr := (Machine.State.raiseVi_reports s v code aux payload).pwr
@[simp] theorem Machine.State.raiseVi_vi (s : State) (v : Fin 8) (code aux : Byte) (payload : Word) :
    (s.raiseVi v code aux payload).vi = s.vi := (Machine.State.raiseVi_reports s v code aux payload).vi
@[simp] theorem Machine.State.raiseVi_par (s : State) (v : Fin 8) (code aux : Byte) (payload : Word) :
    (s.raiseVi v code aux payload).par = s.par := (Machine.State.raiseVi_reports s v code aux payload).par
@[simp] theorem Machine.State.raiseVi_loam (s : State) (v : Fin 8) (code aux : Byte) (payload : Word) :
    (s.raiseVi v code aux payload).loam = s.loam := (Machine.State.raiseVi_reports s v code aux payload).loam
@[simp] theorem Machine.State.raiseVi_silt (s : State) (v : Fin 8) (code aux : Byte) (payload : Word) :
    (s.raiseVi v code aux payload).silt = s.silt := (Machine.State.raiseVi_reports s v code aux payload).silt
@[simp] theorem Machine.State.raiseVi_marl (s : State) (v : Fin 8) (code aux : Byte) (payload : Word) :
    (s.raiseVi v code aux payload).marl = s.marl := (Machine.State.raiseVi_reports s v code aux payload).marl
@[simp] theorem Machine.State.raiseVi_paper (s : State) (v : Fin 8) (code aux : Byte) (payload : Word) :
    (s.raiseVi v code aux payload).paper = s.paper := (Machine.State.raiseVi_reports s v code aux payload).paper
@[simp] theorem Machine.State.raiseVi_analog (s : State) (v : Fin 8) (code aux : Byte) (payload : Word) :
    (s.raiseVi v code aux payload).analog = s.analog := (Machine.State.raiseVi_reports s v code aux payload).analog
@[simp] theorem Machine.State.raiseVi_island (s : State) (v : Fin 8) (code aux : Byte) (payload : Word) :
    (s.raiseVi v code aux payload).island = s.island := (Machine.State.raiseVi_reports s v code aux payload).island
@[simp] theorem Machine.State.raiseVi_legal (s : State) (v : Fin 8) (code aux : Byte) (payload : Word) :
    (s.raiseVi v code aux payload).legal = s.legal := (Machine.State.raiseVi_reports s v code aux payload).legal
@[simp] theorem Machine.State.raiseVi_grit (s : State) (v : Fin 8) (code aux : Byte) (payload : Word) :
    (s.raiseVi v code aux payload).grit = s.grit := (Machine.State.raiseVi_reports s v code aux payload).grit
@[simp] theorem Machine.State.raiseVi_ser (s : State) (v : Fin 8) (code aux : Byte) (payload : Word) :
    (s.raiseVi v code aux payload).ser = s.ser := (Machine.State.raiseVi_reports s v code aux payload).ser
@[simp] theorem Machine.State.raiseVi_link (s : State) (v : Fin 8) (code aux : Byte) (payload : Word) :
    (s.raiseVi v code aux payload).link = s.link := (Machine.State.raiseVi_reports s v code aux payload).link
@[simp] theorem Machine.State.raiseVi_pending (s : State) (v : Fin 8) (code aux : Byte) (payload : Word) :
    (s.raiseVi v code aux payload).pending = s.pending := (Machine.State.raiseVi_reports s v code aux payload).pending
@[simp] theorem Machine.State.raiseVis_part (s : State) (p : State → Fin 8 → Bool) (code aux : Byte) (payload : Word) :
    (s.raiseVis p code aux payload).part = s.part := (Machine.State.raiseVis_reports s p code aux payload).part
@[simp] theorem Machine.State.raiseVis_fuse (s : State) (p : State → Fin 8 → Bool) (code aux : Byte) (payload : Word) :
    (s.raiseVis p code aux payload).fuse = s.fuse := (Machine.State.raiseVis_reports s p code aux payload).fuse
@[simp] theorem Machine.State.raiseVis_now (s : State) (p : State → Fin 8 → Bool) (code aux : Byte) (payload : Word) :
    (s.raiseVis p code aux payload).now = s.now := (Machine.State.raiseVis_reports s p code aux payload).now
@[simp] theorem Machine.State.raiseVis_fresh (s : State) (p : State → Fin 8 → Bool) (code aux : Byte) (payload : Word) :
    (s.raiseVis p code aux payload).fresh = s.fresh := (Machine.State.raiseVis_reports s p code aux payload).fresh
@[simp] theorem Machine.State.raiseVis_pwr (s : State) (p : State → Fin 8 → Bool) (code aux : Byte) (payload : Word) :
    (s.raiseVis p code aux payload).pwr = s.pwr := (Machine.State.raiseVis_reports s p code aux payload).pwr
@[simp] theorem Machine.State.raiseVis_vi (s : State) (p : State → Fin 8 → Bool) (code aux : Byte) (payload : Word) :
    (s.raiseVis p code aux payload).vi = s.vi := (Machine.State.raiseVis_reports s p code aux payload).vi
@[simp] theorem Machine.State.raiseVis_par (s : State) (p : State → Fin 8 → Bool) (code aux : Byte) (payload : Word) :
    (s.raiseVis p code aux payload).par = s.par := (Machine.State.raiseVis_reports s p code aux payload).par
@[simp] theorem Machine.State.raiseVis_loam (s : State) (p : State → Fin 8 → Bool) (code aux : Byte) (payload : Word) :
    (s.raiseVis p code aux payload).loam = s.loam := (Machine.State.raiseVis_reports s p code aux payload).loam
@[simp] theorem Machine.State.raiseVis_silt (s : State) (p : State → Fin 8 → Bool) (code aux : Byte) (payload : Word) :
    (s.raiseVis p code aux payload).silt = s.silt := (Machine.State.raiseVis_reports s p code aux payload).silt
@[simp] theorem Machine.State.raiseVis_marl (s : State) (p : State → Fin 8 → Bool) (code aux : Byte) (payload : Word) :
    (s.raiseVis p code aux payload).marl = s.marl := (Machine.State.raiseVis_reports s p code aux payload).marl
@[simp] theorem Machine.State.raiseVis_paper (s : State) (p : State → Fin 8 → Bool) (code aux : Byte) (payload : Word) :
    (s.raiseVis p code aux payload).paper = s.paper := (Machine.State.raiseVis_reports s p code aux payload).paper
@[simp] theorem Machine.State.raiseVis_analog (s : State) (p : State → Fin 8 → Bool) (code aux : Byte) (payload : Word) :
    (s.raiseVis p code aux payload).analog = s.analog := (Machine.State.raiseVis_reports s p code aux payload).analog
@[simp] theorem Machine.State.raiseVis_island (s : State) (p : State → Fin 8 → Bool) (code aux : Byte) (payload : Word) :
    (s.raiseVis p code aux payload).island = s.island := (Machine.State.raiseVis_reports s p code aux payload).island
@[simp] theorem Machine.State.raiseVis_legal (s : State) (p : State → Fin 8 → Bool) (code aux : Byte) (payload : Word) :
    (s.raiseVis p code aux payload).legal = s.legal := (Machine.State.raiseVis_reports s p code aux payload).legal
@[simp] theorem Machine.State.raiseVis_grit (s : State) (p : State → Fin 8 → Bool) (code aux : Byte) (payload : Word) :
    (s.raiseVis p code aux payload).grit = s.grit := (Machine.State.raiseVis_reports s p code aux payload).grit
@[simp] theorem Machine.State.raiseVis_ser (s : State) (p : State → Fin 8 → Bool) (code aux : Byte) (payload : Word) :
    (s.raiseVis p code aux payload).ser = s.ser := (Machine.State.raiseVis_reports s p code aux payload).ser
@[simp] theorem Machine.State.raiseVis_link (s : State) (p : State → Fin 8 → Bool) (code aux : Byte) (payload : Word) :
    (s.raiseVis p code aux payload).link = s.link := (Machine.State.raiseVis_reports s p code aux payload).link
@[simp] theorem Machine.State.raiseVis_pending (s : State) (p : State → Fin 8 → Bool) (code aux : Byte) (payload : Word) :
    (s.raiseVis p code aux payload).pending = s.pending := (Machine.State.raiseVis_reports s p code aux payload).pending
@[simp] theorem Machine.State.raise0_part (s : State) (code aux : Byte) (payload : Word) :
    (s.raise0 code aux payload).part = s.part := (Machine.State.raise0_reports s code aux payload).part
@[simp] theorem Machine.State.raise0_fuse (s : State) (code aux : Byte) (payload : Word) :
    (s.raise0 code aux payload).fuse = s.fuse := (Machine.State.raise0_reports s code aux payload).fuse
@[simp] theorem Machine.State.raise0_now (s : State) (code aux : Byte) (payload : Word) :
    (s.raise0 code aux payload).now = s.now := (Machine.State.raise0_reports s code aux payload).now
@[simp] theorem Machine.State.raise0_fresh (s : State) (code aux : Byte) (payload : Word) :
    (s.raise0 code aux payload).fresh = s.fresh := (Machine.State.raise0_reports s code aux payload).fresh
@[simp] theorem Machine.State.raise0_pwr (s : State) (code aux : Byte) (payload : Word) :
    (s.raise0 code aux payload).pwr = s.pwr := (Machine.State.raise0_reports s code aux payload).pwr
@[simp] theorem Machine.State.raise0_vi (s : State) (code aux : Byte) (payload : Word) :
    (s.raise0 code aux payload).vi = s.vi := (Machine.State.raise0_reports s code aux payload).vi
@[simp] theorem Machine.State.raise0_par (s : State) (code aux : Byte) (payload : Word) :
    (s.raise0 code aux payload).par = s.par := (Machine.State.raise0_reports s code aux payload).par
@[simp] theorem Machine.State.raise0_loam (s : State) (code aux : Byte) (payload : Word) :
    (s.raise0 code aux payload).loam = s.loam := (Machine.State.raise0_reports s code aux payload).loam
@[simp] theorem Machine.State.raise0_silt (s : State) (code aux : Byte) (payload : Word) :
    (s.raise0 code aux payload).silt = s.silt := (Machine.State.raise0_reports s code aux payload).silt
@[simp] theorem Machine.State.raise0_marl (s : State) (code aux : Byte) (payload : Word) :
    (s.raise0 code aux payload).marl = s.marl := (Machine.State.raise0_reports s code aux payload).marl
@[simp] theorem Machine.State.raise0_paper (s : State) (code aux : Byte) (payload : Word) :
    (s.raise0 code aux payload).paper = s.paper := (Machine.State.raise0_reports s code aux payload).paper
@[simp] theorem Machine.State.raise0_analog (s : State) (code aux : Byte) (payload : Word) :
    (s.raise0 code aux payload).analog = s.analog := (Machine.State.raise0_reports s code aux payload).analog
@[simp] theorem Machine.State.raise0_island (s : State) (code aux : Byte) (payload : Word) :
    (s.raise0 code aux payload).island = s.island := (Machine.State.raise0_reports s code aux payload).island
@[simp] theorem Machine.State.raise0_legal (s : State) (code aux : Byte) (payload : Word) :
    (s.raise0 code aux payload).legal = s.legal := (Machine.State.raise0_reports s code aux payload).legal
@[simp] theorem Machine.State.raise0_grit (s : State) (code aux : Byte) (payload : Word) :
    (s.raise0 code aux payload).grit = s.grit := (Machine.State.raise0_reports s code aux payload).grit
@[simp] theorem Machine.State.raise0_ser (s : State) (code aux : Byte) (payload : Word) :
    (s.raise0 code aux payload).ser = s.ser := (Machine.State.raise0_reports s code aux payload).ser
@[simp] theorem Machine.State.raise0_link (s : State) (code aux : Byte) (payload : Word) :
    (s.raise0 code aux payload).link = s.link := (Machine.State.raise0_reports s code aux payload).link
@[simp] theorem Machine.State.raise0_pending (s : State) (code aux : Byte) (payload : Word) :
    (s.raise0 code aux payload).pending = s.pending := (Machine.State.raise0_reports s code aux payload).pending
@[simp] theorem Machine.State.raiseBoth_part (s : State) (p : State → Fin 8 → Bool) (code aux : Byte) (payload : Word) :
    (s.raiseBoth p code aux payload).part = s.part := (Machine.State.raiseBoth_reports s p code aux payload).part
@[simp] theorem Machine.State.raiseBoth_fuse (s : State) (p : State → Fin 8 → Bool) (code aux : Byte) (payload : Word) :
    (s.raiseBoth p code aux payload).fuse = s.fuse := (Machine.State.raiseBoth_reports s p code aux payload).fuse
@[simp] theorem Machine.State.raiseBoth_now (s : State) (p : State → Fin 8 → Bool) (code aux : Byte) (payload : Word) :
    (s.raiseBoth p code aux payload).now = s.now := (Machine.State.raiseBoth_reports s p code aux payload).now
@[simp] theorem Machine.State.raiseBoth_fresh (s : State) (p : State → Fin 8 → Bool) (code aux : Byte) (payload : Word) :
    (s.raiseBoth p code aux payload).fresh = s.fresh := (Machine.State.raiseBoth_reports s p code aux payload).fresh
@[simp] theorem Machine.State.raiseBoth_pwr (s : State) (p : State → Fin 8 → Bool) (code aux : Byte) (payload : Word) :
    (s.raiseBoth p code aux payload).pwr = s.pwr := (Machine.State.raiseBoth_reports s p code aux payload).pwr
@[simp] theorem Machine.State.raiseBoth_vi (s : State) (p : State → Fin 8 → Bool) (code aux : Byte) (payload : Word) :
    (s.raiseBoth p code aux payload).vi = s.vi := (Machine.State.raiseBoth_reports s p code aux payload).vi
@[simp] theorem Machine.State.raiseBoth_par (s : State) (p : State → Fin 8 → Bool) (code aux : Byte) (payload : Word) :
    (s.raiseBoth p code aux payload).par = s.par := (Machine.State.raiseBoth_reports s p code aux payload).par
@[simp] theorem Machine.State.raiseBoth_loam (s : State) (p : State → Fin 8 → Bool) (code aux : Byte) (payload : Word) :
    (s.raiseBoth p code aux payload).loam = s.loam := (Machine.State.raiseBoth_reports s p code aux payload).loam
@[simp] theorem Machine.State.raiseBoth_silt (s : State) (p : State → Fin 8 → Bool) (code aux : Byte) (payload : Word) :
    (s.raiseBoth p code aux payload).silt = s.silt := (Machine.State.raiseBoth_reports s p code aux payload).silt
@[simp] theorem Machine.State.raiseBoth_marl (s : State) (p : State → Fin 8 → Bool) (code aux : Byte) (payload : Word) :
    (s.raiseBoth p code aux payload).marl = s.marl := (Machine.State.raiseBoth_reports s p code aux payload).marl
@[simp] theorem Machine.State.raiseBoth_paper (s : State) (p : State → Fin 8 → Bool) (code aux : Byte) (payload : Word) :
    (s.raiseBoth p code aux payload).paper = s.paper := (Machine.State.raiseBoth_reports s p code aux payload).paper
@[simp] theorem Machine.State.raiseBoth_analog (s : State) (p : State → Fin 8 → Bool) (code aux : Byte) (payload : Word) :
    (s.raiseBoth p code aux payload).analog = s.analog := (Machine.State.raiseBoth_reports s p code aux payload).analog
@[simp] theorem Machine.State.raiseBoth_island (s : State) (p : State → Fin 8 → Bool) (code aux : Byte) (payload : Word) :
    (s.raiseBoth p code aux payload).island = s.island := (Machine.State.raiseBoth_reports s p code aux payload).island
@[simp] theorem Machine.State.raiseBoth_legal (s : State) (p : State → Fin 8 → Bool) (code aux : Byte) (payload : Word) :
    (s.raiseBoth p code aux payload).legal = s.legal := (Machine.State.raiseBoth_reports s p code aux payload).legal
@[simp] theorem Machine.State.raiseBoth_grit (s : State) (p : State → Fin 8 → Bool) (code aux : Byte) (payload : Word) :
    (s.raiseBoth p code aux payload).grit = s.grit := (Machine.State.raiseBoth_reports s p code aux payload).grit
@[simp] theorem Machine.State.raiseBoth_ser (s : State) (p : State → Fin 8 → Bool) (code aux : Byte) (payload : Word) :
    (s.raiseBoth p code aux payload).ser = s.ser := (Machine.State.raiseBoth_reports s p code aux payload).ser
@[simp] theorem Machine.State.raiseBoth_link (s : State) (p : State → Fin 8 → Bool) (code aux : Byte) (payload : Word) :
    (s.raiseBoth p code aux payload).link = s.link := (Machine.State.raiseBoth_reports s p code aux payload).link
@[simp] theorem Machine.State.raiseBoth_pending (s : State) (p : State → Fin 8 → Bool) (code aux : Byte) (payload : Word) :
    (s.raiseBoth p code aux payload).pending = s.pending := (Machine.State.raiseBoth_reports s p code aux payload).pending
@[simp] theorem Machine.State.raiseWin_part (s : State) (w : Fin 11) (code aux : Byte) (payload : Word) :
    (s.raiseWin w code aux payload).part = s.part := (Machine.State.raiseWin_reports s w code aux payload).part
@[simp] theorem Machine.State.raiseWin_fuse (s : State) (w : Fin 11) (code aux : Byte) (payload : Word) :
    (s.raiseWin w code aux payload).fuse = s.fuse := (Machine.State.raiseWin_reports s w code aux payload).fuse
@[simp] theorem Machine.State.raiseWin_now (s : State) (w : Fin 11) (code aux : Byte) (payload : Word) :
    (s.raiseWin w code aux payload).now = s.now := (Machine.State.raiseWin_reports s w code aux payload).now
@[simp] theorem Machine.State.raiseWin_fresh (s : State) (w : Fin 11) (code aux : Byte) (payload : Word) :
    (s.raiseWin w code aux payload).fresh = s.fresh := (Machine.State.raiseWin_reports s w code aux payload).fresh
@[simp] theorem Machine.State.raiseWin_pwr (s : State) (w : Fin 11) (code aux : Byte) (payload : Word) :
    (s.raiseWin w code aux payload).pwr = s.pwr := (Machine.State.raiseWin_reports s w code aux payload).pwr
@[simp] theorem Machine.State.raiseWin_vi (s : State) (w : Fin 11) (code aux : Byte) (payload : Word) :
    (s.raiseWin w code aux payload).vi = s.vi := (Machine.State.raiseWin_reports s w code aux payload).vi
@[simp] theorem Machine.State.raiseWin_par (s : State) (w : Fin 11) (code aux : Byte) (payload : Word) :
    (s.raiseWin w code aux payload).par = s.par := (Machine.State.raiseWin_reports s w code aux payload).par
@[simp] theorem Machine.State.raiseWin_loam (s : State) (w : Fin 11) (code aux : Byte) (payload : Word) :
    (s.raiseWin w code aux payload).loam = s.loam := (Machine.State.raiseWin_reports s w code aux payload).loam
@[simp] theorem Machine.State.raiseWin_silt (s : State) (w : Fin 11) (code aux : Byte) (payload : Word) :
    (s.raiseWin w code aux payload).silt = s.silt := (Machine.State.raiseWin_reports s w code aux payload).silt
@[simp] theorem Machine.State.raiseWin_marl (s : State) (w : Fin 11) (code aux : Byte) (payload : Word) :
    (s.raiseWin w code aux payload).marl = s.marl := (Machine.State.raiseWin_reports s w code aux payload).marl
@[simp] theorem Machine.State.raiseWin_paper (s : State) (w : Fin 11) (code aux : Byte) (payload : Word) :
    (s.raiseWin w code aux payload).paper = s.paper := (Machine.State.raiseWin_reports s w code aux payload).paper
@[simp] theorem Machine.State.raiseWin_analog (s : State) (w : Fin 11) (code aux : Byte) (payload : Word) :
    (s.raiseWin w code aux payload).analog = s.analog := (Machine.State.raiseWin_reports s w code aux payload).analog
@[simp] theorem Machine.State.raiseWin_island (s : State) (w : Fin 11) (code aux : Byte) (payload : Word) :
    (s.raiseWin w code aux payload).island = s.island := (Machine.State.raiseWin_reports s w code aux payload).island
@[simp] theorem Machine.State.raiseWin_legal (s : State) (w : Fin 11) (code aux : Byte) (payload : Word) :
    (s.raiseWin w code aux payload).legal = s.legal := (Machine.State.raiseWin_reports s w code aux payload).legal
@[simp] theorem Machine.State.raiseWin_grit (s : State) (w : Fin 11) (code aux : Byte) (payload : Word) :
    (s.raiseWin w code aux payload).grit = s.grit := (Machine.State.raiseWin_reports s w code aux payload).grit
@[simp] theorem Machine.State.raiseWin_ser (s : State) (w : Fin 11) (code aux : Byte) (payload : Word) :
    (s.raiseWin w code aux payload).ser = s.ser := (Machine.State.raiseWin_reports s w code aux payload).ser
@[simp] theorem Machine.State.raiseWin_link (s : State) (w : Fin 11) (code aux : Byte) (payload : Word) :
    (s.raiseWin w code aux payload).link = s.link := (Machine.State.raiseWin_reports s w code aux payload).link
@[simp] theorem Machine.State.raiseWin_pending (s : State) (w : Fin 11) (code aux : Byte) (payload : Word) :
    (s.raiseWin w code aux payload).pending = s.pending := (Machine.State.raiseWin_reports s w code aux payload).pending

/-- A change of mode or losses: RUN and REDUCED settle, and the rest is a report. -/
theorem Machine.State.changeMode_reports (s : State) (f : Pwr → Pwr) :
    Reports { s with pwr := (f s.pwr).settle } (s.changeMode f) := by
  unfold Machine.State.changeMode
  dsimp only
  split
  · rfl
  · exact Machine.State.raiseBoth_reports _ _ _ _ _

@[simp] theorem Machine.State.changeMode_pwr (s : State) (f : Pwr → Pwr) : (s.changeMode f).pwr = (f s.pwr).settle :=
  (Machine.State.changeMode_reports s f).pwr
@[simp] theorem Machine.State.changeMode_part (s : State) (f : Pwr → Pwr) : (s.changeMode f).part = s.part :=
  (Machine.State.changeMode_reports s f).part
@[simp] theorem Machine.State.changeMode_fuse (s : State) (f : Pwr → Pwr) : (s.changeMode f).fuse = s.fuse :=
  (Machine.State.changeMode_reports s f).fuse
@[simp] theorem Machine.State.changeMode_now (s : State) (f : Pwr → Pwr) : (s.changeMode f).now = s.now :=
  (Machine.State.changeMode_reports s f).now
@[simp] theorem Machine.State.changeMode_fresh (s : State) (f : Pwr → Pwr) : (s.changeMode f).fresh = s.fresh :=
  (Machine.State.changeMode_reports s f).fresh
@[simp] theorem Machine.State.changeMode_vi (s : State) (f : Pwr → Pwr) : (s.changeMode f).vi = s.vi :=
  (Machine.State.changeMode_reports s f).vi
@[simp] theorem Machine.State.changeMode_par (s : State) (f : Pwr → Pwr) : (s.changeMode f).par = s.par :=
  (Machine.State.changeMode_reports s f).par
@[simp] theorem Machine.State.changeMode_loam (s : State) (f : Pwr → Pwr) : (s.changeMode f).loam = s.loam :=
  (Machine.State.changeMode_reports s f).loam
@[simp] theorem Machine.State.changeMode_silt (s : State) (f : Pwr → Pwr) : (s.changeMode f).silt = s.silt :=
  (Machine.State.changeMode_reports s f).silt
@[simp] theorem Machine.State.changeMode_marl (s : State) (f : Pwr → Pwr) : (s.changeMode f).marl = s.marl :=
  (Machine.State.changeMode_reports s f).marl
@[simp] theorem Machine.State.changeMode_paper (s : State) (f : Pwr → Pwr) : (s.changeMode f).paper = s.paper :=
  (Machine.State.changeMode_reports s f).paper
@[simp] theorem Machine.State.changeMode_analog (s : State) (f : Pwr → Pwr) : (s.changeMode f).analog = s.analog :=
  (Machine.State.changeMode_reports s f).analog
@[simp] theorem Machine.State.changeMode_island (s : State) (f : Pwr → Pwr) : (s.changeMode f).island = s.island :=
  (Machine.State.changeMode_reports s f).island
@[simp] theorem Machine.State.changeMode_legal (s : State) (f : Pwr → Pwr) : (s.changeMode f).legal = s.legal :=
  (Machine.State.changeMode_reports s f).legal
@[simp] theorem Machine.State.changeMode_grit (s : State) (f : Pwr → Pwr) : (s.changeMode f).grit = s.grit :=
  (Machine.State.changeMode_reports s f).grit
@[simp] theorem Machine.State.changeMode_ser (s : State) (f : Pwr → Pwr) : (s.changeMode f).ser = s.ser :=
  (Machine.State.changeMode_reports s f).ser
@[simp] theorem Machine.State.changeMode_link (s : State) (f : Pwr → Pwr) : (s.changeMode f).link = s.link :=
  (Machine.State.changeMode_reports s f).link
@[simp] theorem Machine.State.changeMode_pending (s : State) (f : Pwr → Pwr) : (s.changeMode f).pending = s.pending :=
  (Machine.State.changeMode_reports s f).pending

end Sys2Proof
end

