-- ==== Sys2Proof/Laws/Access.lean ====
section
/-! SUPPORT. What a parameter write can do: refused, it gives its code and nothing else; admitted, the effect of its
item; and a write with a command of its own. -/

namespace Sys2Proof

open Machine

/-- The checks of 19_parameter_map R1046 that refuse a write before its item is looked at. -/
theorem applyCommit_refused (s : State) (w : Fin 11) (idx : Nat) (v : Par) (h : s.parCheck w idx true ≠ errOk) :
    s.applyCommit w idx v = (s, s.parCheck w idx true) := by
  unfold State.applyCommit
  simp [h]

/-- An admitted write has the effect of its item. -/
theorem Admitted.commit {s : State} {w : Fin 11} {idx : Nat} {v : Par} {r : ParRow} (h : Admitted s w idx v r) :
    s.applyCommit w idx v = s.itemWrite w idx (if r.banked then s.portVi w else none) (v &&& r.mask) := by
  unfold State.applyCommit
  simp only [h.checked, ne_eq, not_true_eq_false, if_false, h.row, h.now, h.fits, h.valid]
  simp

theorem State.onPort_onPort (s : State) (w : Fin 11) (f g : ParPort → ParPort) :
    (s.onPort w f).onPort w g = s.onPort w (fun p => g (f p)) := by
  simp [State.onPort, State.onBus, vmod]

/-- What a write with a command of its own does, when its item answers `e` without an error. -/
theorem Takes.own {s u t : State} {w : Fin 11} {idx : Nat} {v x : Par} {r : ParRow} {e : BitVec 4}
    (h : Takes s w idx v r u x) (k : u.itemWrite w idx (if r.banked then u.portVi w else none) x = (t, e))
    (he : ¬ (1 ≤ e.toNat ∧ e.toNat ≤ 7)) : s.ownCommit w idx v = wrote w idx e t := by
  have hx := h.admitted.commit
  rw [← h.value, k] at hx
  unfold State.ownCommit
  simp only [h.served, ← h.after, hx, Bool.not_true, Bool.false_eq_true, if_false]
  unfold State.completeOp
  have hn : ¬ (1 ≤ e.toNat ∧ e.toNat ≤ 7 ∧ (t.parErrOn w = true)) := fun q => he ⟨q.1, q.2.1⟩
  simp only [hn, if_false, State.onPort_onPort]
  rfl

end Sys2Proof
end

