-- ==== Sys2Proof/Laws/Memory.lean ====
section
/-! SUPPORT. The laws of sparse tables and memories: a write keeps the canonical form, is read back, and leaves every
other address alone. -/

namespace Sys2Proof.Machine

/-- Every key of a table is above a bound. -/
def keysAbove {α : Type} (k : Nat) (t : List (Nat × α)) : Prop := ∀ e ∈ t, k < e.1

theorem sparseSorted_cons {α : Type} (j : Nat) (b : α) (t : List (Nat × α)) :
    sparseSorted ((j, b) :: t) = true ↔ keysAbove j t ∧ sparseSorted t = true := by
  induction t generalizing j b with
  | nil => simp [sparseSorted, keysAbove]
  | cons e t ih =>
    obtain ⟨k, d⟩ := e
    constructor
    · intro h
      simp only [sparseSorted, Bool.and_eq_true, decide_eq_true_eq] at h
      refine ⟨?_, h.2⟩
      intro e he
      rcases List.mem_cons.1 he with rfl | he
      · exact h.1
      · exact Nat.lt_trans h.1 (((ih k d).1 h.2).1 e he)
    · rintro ⟨h, hs⟩
      simp only [sparseSorted, Bool.and_eq_true, decide_eq_true_eq]
      exact ⟨h (k, d) (List.mem_cons_self ..), hs⟩

theorem sparsePut_mem {α : Type} (k : Nat) (a : α) (t : List (Nat × α)) (e : Nat × α) (h : e ∈ sparsePut k a t) :
    e = (k, a) ∨ e ∈ t := by
  induction t with
  | nil => exact Or.inl (List.mem_singleton.1 h)
  | cons x t ih =>
    obtain ⟨j, b⟩ := x
    unfold sparsePut at h
    split at h
    · exact List.mem_cons.1 h
    · split at h
      · rcases List.mem_cons.1 h with h | h
        · exact Or.inl h
        · exact Or.inr (List.mem_cons_of_mem _ h)
      · rcases List.mem_cons.1 h with h | h
        · exact Or.inr (h ▸ List.mem_cons_self ..)
        · exact (ih h).imp id (List.mem_cons_of_mem _)

theorem sparsePut_sorted {α : Type} (k : Nat) (a : α) (t : List (Nat × α)) (h : sparseSorted t = true) :
    sparseSorted (sparsePut k a t) = true := by
  induction t with
  | nil => rfl
  | cons x t ih =>
    obtain ⟨j, b⟩ := x
    have hs := (sparseSorted_cons j b t).1 h
    unfold sparsePut
    split
    · next hk =>
      refine (sparseSorted_cons k a _).2 ⟨?_, h⟩
      intro e he
      rcases List.mem_cons.1 he with rfl | he
      · exact hk
      · exact Nat.lt_trans hk (hs.1 e he)
    · split
      · next hk => subst hk; exact (sparseSorted_cons k a t).2 hs
      · next h1 h2 =>
        refine (sparseSorted_cons j b _).2 ⟨?_, ih hs.2⟩
        intro e he
        rcases sparsePut_mem k a t e he with rfl | he
        · show j < k; omega
        · exact hs.1 e he

theorem sparseDel_sorted {α : Type} (k : Nat) (t : List (Nat × α)) (h : sparseSorted t = true) :
    sparseSorted (sparseDel k t) = true := by
  induction t with
  | nil => rfl
  | cons x t ih =>
    obtain ⟨j, b⟩ := x
    have hs := (sparseSorted_cons j b t).1 h
    by_cases e : j = k
    · simpa [sparseDel, e] using ih hs.2
    · have : sparseDel k ((j, b) :: t) = (j, b) :: sparseDel k t := by simp [sparseDel, e]
      rw [this]
      exact (sparseSorted_cons j b _).2 ⟨fun d hd => hs.1 d (List.mem_of_mem_filter hd), ih hs.2⟩

/-- A write of one byte keeps the canonical form. -/
theorem memWrite_wf (m : Memory) (a : Nat) (b : Byte) (h : Memory.wf m = true) : Memory.wf (memWrite m a b) = true := by
  unfold Memory.wf at *
  simp only [Bool.and_eq_true, List.all_eq_true] at *
  unfold memWrite
  split
  · exact ⟨sparseDel_sorted a m h.1, fun e he => h.2 e (List.mem_of_mem_filter he)⟩
  · next hb =>
    refine ⟨sparsePut_sorted a b m h.1, fun e he => ?_⟩
    rcases sparsePut_mem a b m e he with rfl | he
    · simpa using hb
    · exact h.2 e he

/-- A write of several bytes keeps the canonical form. -/
theorem memWriteN_wf (m : Memory) (a : Nat) (l : List Byte) (h : Memory.wf m = true) :
    Memory.wf (memWriteN m a l) = true := by
  induction l generalizing m a with
  | nil => exact h
  | cons b t ih => exact ih _ _ (memWrite_wf m a b h)

theorem sparseFind_put_self {α : Type} (k : Nat) (a : α) (t : List (Nat × α)) :
    sparseFind k (sparsePut k a t) = some a := by
  induction t with
  | nil => simp [sparsePut, sparseFind]
  | cons x t ih =>
    obtain ⟨j, b⟩ := x
    unfold sparsePut
    split
    · simp [sparseFind]
    · split
      · simp [sparseFind]
      · next h => simp [sparseFind, ih, Ne.symm h]

theorem sparseFind_put_other {α : Type} (k i : Nat) (a : α) (t : List (Nat × α)) (h : i ≠ k) :
    sparseFind i (sparsePut k a t) = sparseFind i t := by
  induction t with
  | nil => simp [sparsePut, sparseFind, Ne.symm h]
  | cons x t ih =>
    obtain ⟨j, b⟩ := x
    unfold sparsePut
    split
    · simp [sparseFind, Ne.symm h]
    · split
      · next e => subst e; simp [sparseFind, Ne.symm h]
      · simp [sparseFind, ih]

theorem sparseFind_del_self {α : Type} (k : Nat) (t : List (Nat × α)) : sparseFind k (sparseDel k t) = none := by
  induction t with
  | nil => rfl
  | cons x t ih =>
    obtain ⟨j, b⟩ := x
    by_cases e : j = k
    · simpa [sparseDel, e] using ih
    · have : sparseDel k ((j, b) :: t) = (j, b) :: sparseDel k t := by simp [sparseDel, e]
      rw [this]
      simp [sparseFind, e, ih]

theorem sparseFind_del_other {α : Type} (k i : Nat) (t : List (Nat × α)) (h : i ≠ k) :
    sparseFind i (sparseDel k t) = sparseFind i t := by
  induction t with
  | nil => rfl
  | cons x t ih =>
    obtain ⟨j, b⟩ := x
    by_cases e : j = k
    · subst e
      have : sparseDel j ((j, b) :: t) = sparseDel j t := by simp [sparseDel]
      rw [this, ih]
      simp [sparseFind, Ne.symm h]
    · have : sparseDel k ((j, b) :: t) = (j, b) :: sparseDel k t := by simp [sparseDel, e]
      rw [this]
      simp [sparseFind, ih]

/-- The byte written is read back. -/
@[simp] theorem memRead_write_self (m : Memory) (a : Nat) (b : Byte) : memRead (memWrite m a b) a = b := by
  unfold memRead memWrite
  split
  · next h => rw [sparseFind_del_self]; exact h.symm
  · rw [sparseFind_put_self]; rfl

/-- Every other byte reads as before. -/
theorem memRead_write_other (m : Memory) (a i : Nat) (b : Byte) (h : i ≠ a) :
    memRead (memWrite m a b) i = memRead m i := by
  unfold memRead memWrite
  split
  · rw [sparseFind_del_other _ _ _ h]
  · rw [sparseFind_put_other _ _ _ _ h]

/-- A write of several bytes leaves every address outside them alone. -/
theorem memRead_writeN_other (m : Memory) (a i : Nat) (l : List Byte) (h : i < a ∨ a + l.length ≤ i) :
    memRead (memWriteN m a l) i = memRead m i := by
  induction l generalizing m a with
  | nil => rfl
  | cons b t ih =>
    simp only [List.length_cons] at h
    have : i ≠ a := by omega
    show memRead (memWriteN (memWrite m a b) (a + 1) t) i = memRead m i
    rw [ih _ _ (by omega), memRead_write_other _ _ _ _ this]

end Sys2Proof.Machine
end

