-- ==== Sys2Proof/Laws/Kept.lean ====
section
/-! SUPPORT. `Kept` of Safety under the updates of one part of a state, under branches, folds and answers. -/

namespace Sys2Proof.Machine

variable {kp : Part} {kf : Fuses} {kn km : Nat} {kq : List Instr}

theorem Kept.ite {c : Prop} [Decidable c] {a b : State}
    (ha : Kept kp kf kn km kq a) (hb : Kept kp kf kn km kq b) : Kept kp kf kn km kq (if c then a else b) := by
  split <;> assumption

theorem foldl_kept {α : Type} {g : State → α → State} {l : List α} {s : State}
    (hg : ∀ u y, Kept kp kf kn km kq u → Kept kp kf kn km kq (g u y)) (hs : Kept kp kf kn km kq s) :
    Kept kp kf kn km kq (l.foldl g s) := by
  induction l generalizing s with
  | nil => exact hs
  | cons a t ih => exact ih (hg s a hs)

theorem State.draw_kept (s : State) (hk : Kept kp kf kn km kq s) : Kept kp kf kn km kq s.draw.2 := ⟨hk.1, hk.2, hk.3, hk.4, hk.5, hk.6⟩

theorem State.onAo_kept (s : State) (f : Ao → Ao) (h : (f s.ao).ring = s.ao.ring) (hk : Kept kp kf kn km kq s) :
    Kept kp kf kn km kq (s.onAo f) := ⟨hk.1, hk.2, hk.3, hk.4, by have := hk.5; unfold RingBounded at *; simpa [h], hk.6⟩

theorem State.onBus_kept (s : State) (f : Bus → Bus) (h : (f s.bus).evq = s.bus.evq) (hk : Kept kp kf kn km kq s) :
    Kept kp kf kn km kq (s.onBus f) := ⟨hk.1, hk.2, hk.3, by have := hk.4; unfold QueuesBounded at *; simpa [h], hk.5, hk.6⟩

theorem State.onIsland_kept (s : State) (f : Island → Island) (h : (f s.island).audit = s.island.audit) (hk : Kept kp kf kn km kq s) :
    Kept kp kf kn km kq (s.onIsland f) := ⟨hk.1, by have := hk.2; simpa [h], hk.3, hk.4, hk.5, hk.6⟩

theorem State.onMgmt_kept (s : State) (f : Mgmt → Mgmt) (h : (f s.mgmt).rollback = s.mgmt.rollback)
    (h2 : (f s.mgmt).buf = s.mgmt.buf) (h3 : (f s.mgmt).u0Buf = s.mgmt.u0Buf) (hk : Kept kp kf kn km kq s) :
    Kept kp kf kn km kq (s.onMgmt f) := ⟨by have := hk.1; unfold FusedAs at *; simpa [h], hk.2, hk.3, hk.4, hk.5, by have := hk.6; unfold MemoriesWf at *; simpa [h2, h3]⟩

theorem State.onEvq_kept (s : State) (w : Fin 9) (f : EventPort → EventPort) (h : s.bus.evq[w].queue.length ≤ 64 → (f s.bus.evq[w]).queue.length ≤ 64) (hk : Kept kp kf kn km kq s) :
    Kept kp kf kn km kq (s.onEvq w f) := by
  refine ⟨hk.1, hk.2, hk.3, ?_, hk.5, hk.6⟩
  intro v
  have hq := hk.4
  simp only [State.onEvq_bus]
  by_cases e : w = v
  · subst e; rw [vmod_self]; exact h (hq w)
  · rw [vmod_other _ _ _ _ e]; exact hq v

theorem State.onPwr_kept (s : State) (f : Pwr → Pwr) (hk : Kept kp kf kn km kq s) : Kept kp kf kn km kq (s.onPwr f) := ⟨hk.1, hk.2, hk.3, hk.4, hk.5, hk.6⟩

theorem State.onVi_kept (s : State) (v : Fin 8) (f : Vi → Vi) (hk : Kept kp kf kn km kq s) : Kept kp kf kn km kq (s.onVi v f) := ⟨hk.1, hk.2, hk.3, hk.4, hk.5, hk.6⟩

theorem State.onPort_kept (s : State) (w : Fin 11) (f : ParPort → ParPort) (hk : Kept kp kf kn km kq s) : Kept kp kf kn km kq (s.onPort w f) := ⟨hk.1, hk.2, hk.3, hk.4, hk.5, hk.6⟩

theorem State.onData_kept (s : State) (v : Fin 8) (f : DataPort → DataPort) (hk : Kept kp kf kn km kq s) : Kept kp kf kn km kq (s.onData v f) := ⟨hk.1, hk.2, hk.3, hk.4, hk.5, hk.6⟩

theorem State.onLoam_kept (s : State) (f : Loam → Loam) (hk : Kept kp kf kn km kq s) : Kept kp kf kn km kq (s.onLoam f) := ⟨hk.1, hk.2, hk.3, hk.4, hk.5, hk.6⟩

theorem State.onJob_kept (s : State) (j : JobRef) (f : Job → Job) (hk : Kept kp kf kn km kq s) : Kept kp kf kn km kq (s.onJob j f) := ⟨hk.1, hk.2, hk.3, hk.4, hk.5, hk.6⟩

theorem State.onLoamHead_kept (s : State) (h : Fin 4) (f : LoamHead → LoamHead) (hk : Kept kp kf kn km kq s) : Kept kp kf kn km kq (s.onLoamHead h f) := ⟨hk.1, hk.2, hk.3, hk.4, hk.5, hk.6⟩

theorem State.onSilt_kept (s : State) (f : Silt → Silt) (h : (f s.silt).sram = s.silt.sram) (h2 : (f s.silt).dram = s.silt.dram) (hk : Kept kp kf kn km kq s) :
    Kept kp kf kn km kq (s.onSilt f) := ⟨hk.1, hk.2, hk.3, hk.4, hk.5, by have := hk.6; unfold MemoriesWf at *; simpa [h, h2]⟩

theorem State.onSilt_mem_kept (s : State) (f : Silt → Silt) (h : Memory.wf s.silt.sram = true → Memory.wf (f s.silt).sram = true)
    (h2 : Memory.wf s.silt.dram = true → Memory.wf (f s.silt).dram = true) (hk : Kept kp kf kn km kq s) :
    Kept kp kf kn km kq (s.onSilt f) := by
  refine ⟨hk.1, hk.2, hk.3, hk.4, hk.5, ?_⟩
  have := hk.6
  unfold MemoriesWf at *
  exact ⟨h this.1, h2 this.2.1, this.2.2⟩

theorem sparseSorted_filter {α : Type} (p : Nat × α → Bool) (t : List (Nat × α)) (h : sparseSorted t = true) :
    sparseSorted (t.filter p) = true := by
  induction t with
  | nil => rfl
  | cons x t ih =>
    obtain ⟨j, b⟩ := x
    rw [sparseSorted_cons] at h
    rw [List.filter_cons]
    split
    · rw [sparseSorted_cons]
      exact ⟨fun e he => h.1 e (List.mem_of_mem_filter he), ih h.2⟩
    · exact ih h.2

theorem Memory.wf_filter (m : Memory) (p : Nat × Byte → Bool) (h : Memory.wf m = true) : Memory.wf (m.filter p) = true := by
  unfold Memory.wf at *
  simp only [Bool.and_eq_true, List.all_eq_true] at *
  exact ⟨sparseSorted_filter p m h.1, fun e he => h.2 e (List.mem_of_mem_filter he)⟩

theorem State.onMarl_kept (s : State) (f : Marl → Marl) (hk : Kept kp kf kn km kq s) : Kept kp kf kn km kq (s.onMarl f) := ⟨hk.1, hk.2, hk.3, hk.4, hk.5, hk.6⟩

theorem State.onPaper_kept (s : State) (f : Paper → Paper) (hk : Kept kp kf kn km kq s) : Kept kp kf kn km kq (s.onPaper f) := ⟨hk.1, hk.2, hk.3, hk.4, hk.5, hk.6⟩

theorem State.onHead_kept (s : State) (h : Fin 4) (f : Head → Head) (hk : Kept kp kf kn km kq s) : Kept kp kf kn km kq (s.onHead h f) := ⟨hk.1, hk.2, hk.3, hk.4, hk.5, hk.6⟩

theorem State.onEnergy_kept (s : State) (h : Fin 4) (f : Energy → Energy) (hk : Kept kp kf kn km kq s) : Kept kp kf kn km kq (s.onEnergy h f) := ⟨hk.1, hk.2, hk.3, hk.4, hk.5, hk.6⟩

theorem State.onRun_kept (s : State) (h : Fin 4) (f : Option Run → Option Run) (hk : Kept kp kf kn km kq s) : Kept kp kf kn km kq (s.onRun h f) := ⟨hk.1, hk.2, hk.3, hk.4, hk.5, hk.6⟩

theorem State.onAxis_kept (s : State) (a : Fin 4) (f : Axis → Axis) (hk : Kept kp kf kn km kq s) : Kept kp kf kn km kq (s.onAxis a f) := ⟨hk.1, hk.2, hk.3, hk.4, hk.5, hk.6⟩

theorem State.onCutter_kept (s : State) (f : Cutter → Cutter) (hk : Kept kp kf kn km kq s) : Kept kp kf kn km kq (s.onCutter f) := ⟨hk.1, hk.2, hk.3, hk.4, hk.5, hk.6⟩

theorem State.onMedia_kept (s : State) (h : Fin 4) (f : Media → Media) (hk : Kept kp kf kn km kq s) : Kept kp kf kn km kq (s.onMedia h f) := ⟨hk.1, hk.2, hk.3, hk.4, hk.5, hk.6⟩

theorem State.onLamp_kept (s : State) (l : Fin 8) (f : Lamp → Lamp) (hk : Kept kp kf kn km kq s) : Kept kp kf kn km kq (s.onLamp l f) := ⟨hk.1, hk.2, hk.3, hk.4, hk.5, hk.6⟩

theorem State.onAnalog_kept (s : State) (f : Analog → Analog) (hk : Kept kp kf kn km kq s) : Kept kp kf kn km kq (s.onAnalog f) := ⟨hk.1, hk.2, hk.3, hk.4, hk.5, hk.6⟩

theorem State.onConv_kept (s : State) (y : Fin 2) (f : Converter → Converter) (hk : Kept kp kf kn km kq s) : Kept kp kf kn km kq (s.onConv y f) := ⟨hk.1, hk.2, hk.3, hk.4, hk.5, hk.6⟩

theorem State.onLegal_kept (s : State) (f : Legal → Legal) (hk : Kept kp kf kn km kq s) : Kept kp kf kn km kq (s.onLegal f) := ⟨hk.1, hk.2, hk.3, hk.4, hk.5, hk.6⟩

theorem State.onGrit_kept (s : State) (f : Grit → Grit) (hk : Kept kp kf kn km kq s) : Kept kp kf kn km kq (s.onGrit f) := ⟨hk.1, hk.2, hk.3, hk.4, hk.5, hk.6⟩

theorem State.onSerial_kept (s : State) (f : SerialBlock → SerialBlock) (hk : Kept kp kf kn km kq s) : Kept kp kf kn km kq (s.onSerial f) := ⟨hk.1, hk.2, hk.3, hk.4, hk.5, hk.6⟩

theorem State.onSer_kept (s : State) (p : Fin 3) (f : Serial → Serial) (hk : Kept kp kf kn km kq s) : Kept kp kf kn km kq (s.onSer p f) := ⟨hk.1, hk.2, hk.3, hk.4, hk.5, hk.6⟩

theorem State.onLink_kept (s : State) (f : Link → Link) (hk : Kept kp kf kn km kq s) : Kept kp kf kn km kq (s.onLink f) := ⟨hk.1, hk.2, hk.3, hk.4, hk.5, hk.6⟩

def KeptO (kp : Part) (kf : Fuses) (kn km : Nat) (kq : List Instr) (o : Option State) : Prop := ∀ t, o = some t → Kept kp kf kn km kq t

def KeptP {α : Type} (kp : Part) (kf : Fuses) (kn km : Nat) (kq : List Instr) (o : Option (α × State)) : Prop := ∀ t, o = some t → Kept kp kf kn km kq t.2

def KeptA (kp : Part) (kf : Fuses) (kn km : Nat) (kq : List Instr) (o : Answer) : Prop := ∀ t, o = .next t → Kept kp kf kn km kq t

theorem KeptO.some {t : State} (h : Kept kp kf kn km kq t) : KeptO kp kf kn km kq (.some t) := by intro u e; injection e with e; subst e; exact h

theorem KeptO.none : KeptO kp kf kn km kq .none := by intro u e; cases e

theorem KeptP.some {α : Type} {a : α} {t : State} (h : Kept kp kf kn km kq t) : KeptP kp kf kn km kq (.some (a, t)) := by intro u e; injection e with e; subst e; exact h

theorem KeptP.none {α : Type} : KeptP (α := α) kp kf kn km kq .none := by intro u e; cases e

theorem KeptA.next {t : State} (h : Kept kp kf kn km kq t) : KeptA kp kf kn km kq (.next t) := by intro u e; injection e with e; subst e; exact h

theorem KeptO.ite {c : Prop} [Decidable c] {a b : Option State}
    (ha : KeptO kp kf kn km kq a) (hb : KeptO kp kf kn km kq b) : KeptO kp kf kn km kq (if c then a else b) := by
  split <;> assumption

theorem KeptO.bind {o : Option State} {g : State → Option State} (h : KeptO kp kf kn km kq o)
    (hg : ∀ u, Kept kp kf kn km kq u → KeptO kp kf kn km kq (g u)) : KeptO kp kf kn km kq (o.bind g) := by
  intro t e
  cases o with
  | none => cases e
  | some u => exact hg u (h u rfl) t e

theorem KeptO.map {o : Option State} {g : State → State} (h : KeptO kp kf kn km kq o)
    (hg : ∀ u, Kept kp kf kn km kq u → Kept kp kf kn km kq (g u)) : KeptO kp kf kn km kq (o.map g) := by
  intro t e
  cases o with
  | none => cases e
  | some u => injection e with e; subst e; exact hg u (h u rfl)

theorem Kept.elim {α : Type} {o : Option α} {s : State} {f : α → State} (hs : Kept kp kf kn km kq s)
    (hf : ∀ y, Kept kp kf kn km kq (f y)) : Kept kp kf kn km kq (o.elim s f) := by
  cases o with
  | none => exact hs
  | some u => exact hf u

theorem Kept.getD {o : Option State} {s : State} (h : KeptO kp kf kn km kq o) (hs : Kept kp kf kn km kq s) :
    Kept kp kf kn km kq (o.getD s) := by
  cases o with
  | none => exact hs
  | some u => exact h u rfl

theorem KeptP.ite {α : Type} {c : Prop} [Decidable c] {a b : Option (α × State)}
    (ha : KeptP kp kf kn km kq a) (hb : KeptP kp kf kn km kq b) : KeptP kp kf kn km kq (if c then a else b) := by
  split <;> assumption

theorem KeptA.ite {c : Prop} [Decidable c] {a b : Answer}
    (ha : KeptA kp kf kn km kq a) (hb : KeptA kp kf kn km kq b) : KeptA kp kf kn km kq (if c then a else b) := by
  split <;> assumption

theorem EventPort.push_bounded (p : EventPort) (e : Event) (h : p.queue.length ≤ 64) : (p.push e).queue.length ≤ 64 := by
  unfold EventPort.push
  dsimp only
  split
  · simp; omega
  · split
    · simp; omega
    · simp only
      cases hq : p.queue.getLast? with
      | none => exact h
      | some l => simp; omega

theorem Kept.copy {s t : State} (hk : Kept kp kf kn km kq s) (h1 : t.part = s.part) (h2 : t.fuse = s.fuse)
    (h3 : t.mgmt.rollback = s.mgmt.rollback) (h4 : t.island.audit = s.island.audit) (h5 : t.pending = s.pending)
    (h6 : t.bus.evq = s.bus.evq) (h7 : t.ao.ring = s.ao.ring) (h8 : (t.mgmt.buf, t.mgmt.u0Buf, t.silt.sram, t.silt.dram) = (s.mgmt.buf, s.mgmt.u0Buf, s.silt.sram, s.silt.dram)) :
    Kept kp kf kn km kq t := by
  injection h8 with h8 h9
  injection h9 with h9 h10
  injection h10 with h10 h11
  refine ⟨?_, ?_, ?_, ?_, ?_, ?_⟩
  · have := hk.1; unfold FusedAs at *; simpa [h1, h2, h3]
  · have := hk.2; simpa [h4]
  · rw [h5]; exact hk.3
  · have := hk.4; unfold QueuesBounded at *; simpa [h6]
  · have := hk.5; unfold RingBounded at *; simpa [h7]
  · have := hk.6; unfold MemoriesWf at *; simpa [h8, h9, h10, h11]

end Sys2Proof.Machine
end

