-- ==== Sys2Proof/Laws/KeptOps.lean ====
section
/-! SUPPORT. One lemma for each operation on a state, of the operations that the families share:
it keeps what no command undoes (`Kept` of Safety): fuses, rollback, audit, the waiting queue, bounds and
canonical forms. -/

namespace Sys2Proof.Machine

variable {kp : Part} {kf : Fuses} {kn km : Nat} {kq : List Instr}

/-! ### Ops -/

theorem State.convDue_kept (s : State) (x : Fin 2) (prio : Nat) (number : Nat)
    (hk : Kept kp kf kn km kq s) : Kept kp kf kn km kq (State.convDue s x prio number) := by
  unfold State.convDue
  repeat' first
    | with_reducible assumption
    | with_reducible intro _
    | (with_reducible refine Kept.ite ?_ ?_)
    | (with_reducible refine State.onConv_kept _ _ _ ?_)

theorem State.convMade_kept (s : State) (x : Fin 2) (prio : Nat) (number : Nat)
    (hk : Kept kp kf kn km kq s) : Kept kp kf kn km kq (State.convMade s x prio number) := by
  unfold State.convMade
  repeat' first
    | with_reducible assumption
    | with_reducible intro _
    | (with_reducible refine Kept.ite ?_ ?_)
    | (with_reducible refine State.onConv_kept _ _ _ ?_)

theorem State.setPar_kept (s : State) (idx : Nat) (vi : Option (Fin 8)) (x : Par)
    (hk : Kept kp kf kn km kq s) : Kept kp kf kn km kq (State.setPar s idx vi x) := by
  exact ⟨hk.1, hk.2, hk.3, hk.4, hk.5, hk.6⟩

theorem State.raiseVi_kept (s : State) (v : Fin 8) (code : Byte) (aux : Byte) (payload : Word)
    (hk : Kept kp kf kn km kq s) : Kept kp kf kn km kq (State.raiseVi s v code aux payload) := by
  unfold State.raiseVi
  repeat' first
    | with_reducible assumption
    | (with_reducible refine Kept.ite ?_ ?_)
    | (with_reducible refine State.onEvq_kept _ _ _ (fun h => EventPort.push_bounded _ _ h) ?_)

theorem State.raiseVis_kept (s : State) (t : State → Fin 8 → Bool) (code : Byte) (aux : Byte) (payload : Word)
    (hk : Kept kp kf kn km kq s) : Kept kp kf kn km kq (State.raiseVis s t code aux payload) := by
  unfold State.raiseVis
  repeat' first
    | with_reducible assumption
    | with_reducible intro _
    | (with_reducible refine Kept.ite ?_ ?_)
    | (with_reducible refine foldl_kept ?_ ?_)
    | (with_reducible refine State.raiseVi_kept _ _ _ _ _ ?_)

theorem State.logRecord_kept (s : State) (code aux : Byte) (payload : Word) (w4 w5 : Par)
    (hk : Kept kp kf kn km kq s) : Kept kp kf kn km kq (State.logRecord s code aux payload w4 w5) := by
  unfold State.logRecord
  split
  · refine ⟨hk.1, hk.2, hk.3, hk.4, ?_, hk.6⟩
    unfold RingBounded; simp; omega
  · split
    · refine State.onEvq_kept _ _ _ (fun h => EventPort.push_bounded _ _ h) ?_
      refine State.onMgmt_kept _ _ rfl rfl rfl ?_
      refine ⟨hk.1, hk.2, hk.3, hk.4, ?_, hk.6⟩
      unfold RingBounded; simp; omega
    · refine State.onMgmt_kept _ _ rfl rfl rfl ?_
      refine ⟨hk.1, hk.2, hk.3, hk.4, ?_, hk.6⟩
      have := hk.5
      unfold RingBounded at *
      simp only [State.onAo_ao]
      cases hq : s.ao.ring.getLast? with
      | none => simpa [hq] using this
      | some l => simp; omega

theorem State.raise0_kept (s : State) (code : Byte) (aux : Byte) (payload : Word)
    (hk : Kept kp kf kn km kq s) : Kept kp kf kn km kq (State.raise0 s code aux payload) := by
  unfold State.raise0
  repeat' first
    | with_reducible assumption
    | (with_reducible refine Kept.ite ?_ ?_)
    | (with_reducible refine State.logRecord_kept _ _ _ _ _ _ ?_)
    | (with_reducible refine State.onEvq_kept _ _ _ (fun h => EventPort.push_bounded _ _ h) ?_)

theorem State.raiseWin_kept (s : State) (w : Fin 11) (code : Byte) (aux : Byte) (payload : Word)
    (hk : Kept kp kf kn km kq s) : Kept kp kf kn km kq (State.raiseWin s w code aux payload) := by
  unfold State.raiseWin
  repeat' first
    | with_reducible assumption
    | (with_reducible refine Kept.ite ?_ ?_)
    | (with_reducible refine State.raiseVi_kept _ _ _ _ _ ?_)
    | (with_reducible refine State.raise0_kept _ _ _ _ ?_)
    | split

theorem State.raiseBoth_kept (s : State) (t : State → Fin 8 → Bool) (code : Byte) (aux : Byte) (payload : Word)
    (hk : Kept kp kf kn km kq s) : Kept kp kf kn km kq (State.raiseBoth s t code aux payload) := by
  unfold State.raiseBoth
  repeat' first
    | with_reducible assumption
    | (with_reducible refine State.raiseVis_kept _ _ _ _ _ ?_)
    | (with_reducible refine State.raise0_kept _ _ _ _ ?_)

theorem State.changeMode_kept (s : State) (f : Pwr → Pwr)
    (hk : Kept kp kf kn km kq s) : Kept kp kf kn km kq (State.changeMode s f) := by
  have h : Kept kp kf kn km kq { s with pwr := (f s.pwr).settle } := ⟨hk.1, hk.2, hk.3, hk.4, hk.5, hk.6⟩
  unfold State.changeMode
  exact Kept.ite h (State.raiseBoth_kept _ _ _ _ _ h)

theorem State.deviceReset_kept (s : State)
    (hk : Kept kp kf kn km kq s) : Kept kp kf kn km kq (State.deviceReset s) := by
  refine ⟨hk.1, hk.2, hk.3, ?_, hk.5, rfl, rfl, hk.6.2.2⟩
  intro w
  show ((Vector.replicate 9 ({} : EventPort))[w]).queue.length ≤ 64
  simp

/-! ### ParamCheck -/

theorem State.completeOp_kept (s : State) (w : Fin 11) (idx : Nat) (err : BitVec 4)
    (hk : Kept kp kf kn km kq s) : Kept kp kf kn km kq (State.completeOp s w idx err) := by
  unfold State.completeOp
  extract_lets s1
  have hk_s1 : Kept kp kf kn km kq s1 := by
    dsimp only [s1]
    repeat' first
      | with_reducible assumption
      | (with_reducible refine State.onPort_kept _ _ _ ?_)
  try clear_value s1
  repeat' first
    | with_reducible assumption
    | (with_reducible refine Kept.ite ?_ ?_)
    | (with_reducible refine State.raiseWin_kept _ _ _ _ _ ?_)

/-! ### Operands -/

theorem State.queueFrame_kept (s : State) (t : BitVec 4) (dst : BitVec 5) (payload : List Byte)
    (hk : Kept kp kf kn km kq s) : Kept kp kf kn km kq (State.queueFrame s t dst payload) := by
  unfold State.queueFrame
  extract_lets old s1
  try clear_value old
  have hk_s1 : Kept kp kf kn km kq s1 := by
    dsimp only [s1]
    repeat' first
      | with_reducible assumption
      | (with_reducible refine State.onLink_kept _ _ ?_)
  try clear_value s1
  repeat' first
    | with_reducible assumption
    | (with_reducible refine Kept.ite ?_ ?_)
    | (with_reducible refine State.onLink_kept _ _ ?_)

theorem State.sendResult_kept (s : State) (node : Fin 16) (migId : Word) (code : Nat) (detail : Nat) (headTime : Nat) (amount : Nat)
    (hk : Kept kp kf kn km kq s) : Kept kp kf kn km kq (State.sendResult s node migId code detail headTime amount) := by
  unfold State.sendResult
  repeat' first
    | with_reducible assumption
    | (with_reducible refine State.queueFrame_kept _ _ _ _ ?_)

/-! ### SiltOps -/

theorem State.freeFrame_kept (s : State) (f : Nat)
    (hk : Kept kp kf kn km kq s) : Kept kp kf kn km kq (State.freeFrame s f) := by
  exact State.onSilt_mem_kept _ _ (fun h => Memory.wf_filter _ _ h) id hk

theorem State.putFrame_kept (s : State) (f : Nat) (x : Frame)
    (hk : Kept kp kf kn km kq s) : Kept kp kf kn km kq (State.putFrame s f x) := by
  unfold State.putFrame
  repeat' first
    | with_reducible assumption
    | with_reducible intro _
    | (with_reducible refine State.onSilt_mem_kept _ _ ?_ ?_ ?_)

theorem clockVisit_kept (s : State) (v : Fin 8) (l : List Nat) (hk : Kept kp kf kn km kq s) : Kept kp kf kn km kq (clockVisit s v l).2 := by
  induction l generalizing s with
  | nil => exact hk
  | cons f t ih =>
    unfold clockVisit
    split
    · exact ih s hk
    · have h1 := State.onVi_kept s v (fun y => { y with hand := f }) hk
      dsimp only
      split
      · exact ih _ (State.putFrame_kept _ _ _ h1)
      · exact h1

theorem clockVisit_kept_of (s : State) (v : Fin 8) (l : List Nat) {a : Option Nat} {t : State} (he : clockVisit s v l = (a, t)) (hk : Kept kp kf kn km kq s) : Kept kp kf kn km kq t := by
  have h := clockVisit_kept s v l hk
  rw [he] at h
  exact h

theorem State.replaceOwn_kept (s : State) (v : Fin 8)
    (hk : Kept kp kf kn km kq s) : Kept kp kf kn km kq (State.replaceOwn s v).2 := by
  unfold State.replaceOwn
  repeat' first
    | with_reducible assumption
    | (with_reducible refine State.freeFrame_kept _ _ ?_)
    | (with_reducible refine clockVisit_kept_of _ _ _ (by assumption) ?_)
    | dsimp only [id]
    | split

theorem State.replaceOwn_kept_of (s : State) (v : Fin 8) {at_ : Option Nat } {t : State}
    (he : State.replaceOwn s v = (at_, t)) (hk : Kept kp kf kn km kq s) : Kept kp kf kn km kq t := by
  have h := State.replaceOwn_kept s v hk
  rw [he] at h
  exact h

theorem State.takeFrame_kept (s : State) (v : Fin 8) (prefetch : Bool)
    (hk : Kept kp kf kn km kq s) : Kept kp kf kn km kq (State.takeFrame s v prefetch).2 := by
  unfold State.takeFrame
  repeat' first
    | with_reducible assumption
    | (with_reducible refine State.replaceOwn_kept_of _ _ (by assumption) ?_)
    | (with_reducible refine State.replaceOwn_kept _ _ ?_)
    | split

theorem State.takeFrame_kept_of (s : State) (v : Fin 8) (prefetch : Bool) {at_ : Option Nat } {t : State}
    (he : State.takeFrame s v prefetch = (at_, t)) (hk : Kept kp kf kn km kq s) : Kept kp kf kn km kq t := by
  have h := State.takeFrame_kept s v prefetch hk
  rw [he] at h
  exact h

theorem State.pinPage_kept (s : State) (v : Fin 8) (p : Nat) (who : Fin 5)
    (hk : Kept kp kf kn km kq s) : Kept kp kf kn km kq (State.pinPage s v p who) := by
  unfold State.pinPage
  repeat' first
    | with_reducible assumption
    | (with_reducible refine State.putFrame_kept _ _ _ ?_)
    | split

theorem State.unpinFrame_kept (s : State) (f : Nat) (who : Fin 5)
    (hk : Kept kp kf kn km kq s) : Kept kp kf kn km kq (State.unpinFrame s f who) := by
  unfold State.unpinFrame
  repeat' first
    | with_reducible assumption
    | (with_reducible refine Kept.ite ?_ ?_)
    | (with_reducible refine State.freeFrame_kept _ _ ?_)
    | (with_reducible refine State.putFrame_kept _ _ _ ?_)
    | dsimp only [id]
    | split

theorem State.unpinWhere_kept (s : State) (v : Fin 8) (who : Fin 5) (t : Nat → Bool)
    (hk : Kept kp kf kn km kq s) : Kept kp kf kn km kq (State.unpinWhere s v who t) := by
  unfold State.unpinWhere
  repeat' first
    | with_reducible assumption
    | with_reducible intro _
    | (with_reducible refine Kept.ite ?_ ?_)
    | (with_reducible refine foldl_kept ?_ ?_)
    | (with_reducible refine State.unpinFrame_kept _ _ _ ?_)
    | split

theorem State.writeChunk_kept (s : State) (external : Bool) (c : Nat) (l : List Byte)
    (hk : Kept kp kf kn km kq s) : Kept kp kf kn km kq (State.writeChunk s external c l) := by
  unfold State.writeChunk
  refine State.onSilt_mem_kept _ _ ?_ ?_ hk
  · intro h
    split
    · exact h
    · exact memWriteN_wf _ _ _ h
  · intro h
    split
    · exact memWriteN_wf _ _ _ h
    · exact h

theorem writeChain_kept (s : State) (e : Bool) (m : List Nat) (l : List Byte) (hk : Kept kp kf kn km kq s) : Kept kp kf kn km kq (writeChain s e m l) := by
  induction m generalizing s l with
  | nil => exact hk
  | cons f t ih => exact ih _ _ (State.writeChunk_kept _ _ _ _ hk)

theorem State.freeChunk_kept (s : State) (external : Bool) (c : Nat)
    (hk : Kept kp kf kn km kq s) : Kept kp kf kn km kq (State.freeChunk s external c) := by
  unfold State.freeChunk
  split
  · exact State.onSilt_mem_kept _ _ id (fun h => Memory.wf_filter _ _ h) hk
  · repeat' first
      | assumption
      | refine State.freeFrame_kept _ _ ?_
      | refine Kept.ite ?_ ?_
      | refine State.putFrame_kept _ _ _ ?_
      | split

theorem State.freeChunks_kept (s : State) (external : Bool) (l : List Nat)
    (hk : Kept kp kf kn km kq s) : Kept kp kf kn km kq (State.freeChunks s external l) := by
  unfold State.freeChunks
  repeat' first
    | with_reducible assumption
    | with_reducible intro _
    | (with_reducible refine foldl_kept ?_ ?_)
    | (with_reducible refine State.freeChunk_kept _ _ _ ?_)

theorem State.reserveChunk_kept (s : State) (v : Fin 8)
    (hk : Kept kp kf kn km kq s) : KeptP kp kf kn km kq (State.reserveChunk s v) := by
  unfold State.reserveChunk
  repeat' first
    | with_reducible assumption
    | with_reducible intro _
    | (with_reducible refine State.putFrame_kept _ _ _ ?_)
    | (with_reducible refine State.takeFrame_kept_of _ _ _ (by assumption) ?_)
    | (with_reducible refine State.onSilt_mem_kept _ _ ?_ ?_ ?_)
    | (with_reducible refine KeptP.ite ?_ ?_)
    | (with_reducible refine KeptP.some ?_)
    | with_reducible exact KeptP.none
    | split

theorem State.reserveChunk_kept_of (s : State) (v : Fin 8) {at_ : Nat } {t : State}
    (he : State.reserveChunk s v = some (at_, t)) (hk : Kept kp kf kn km kq s) : Kept kp kf kn km kq t := State.reserveChunk_kept s v hk _ he

theorem State.reserveChunks_kept (s : State) (v : Fin 8) (n : Nat) (hk : Kept kp kf kn km kq s) : KeptP kp kf kn km kq (s.reserveChunks v n) := by
  induction n generalizing s with
  | zero => exact KeptP.some hk
  | succ n ih =>
    unfold State.reserveChunks
    split
    · next f s1 h =>
      have h1 := ih s1 (State.reserveChunk_kept_of _ _ h hk)
      split
      · next l s2 h2 => exact KeptP.some (h1 _ h2)
      · exact KeptP.none
    · exact KeptP.none

theorem State.reserveChunks_kept_of (s : State) (v : Fin 8) (n : Nat) {l : List Nat} {t : State} (he : s.reserveChunks v n = some (l, t)) (hk : Kept kp kf kn km kq s) : Kept kp kf kn km kq t :=
  State.reserveChunks_kept s v n hk _ he

theorem State.dropPages_kept (s : State) (v : Fin 8) (b : Nat)
    (hk : Kept kp kf kn km kq s) : Kept kp kf kn km kq (State.dropPages s v b) := by
  unfold State.dropPages
  repeat' first
    | with_reducible assumption
    | with_reducible intro _
    | (with_reducible refine Kept.ite ?_ ?_)
    | (with_reducible refine foldl_kept ?_ ?_)
    | (with_reducible refine State.freeFrame_kept _ _ ?_)
    | (with_reducible refine State.putFrame_kept _ _ _ ?_)
    | dsimp only [id]
    | split

theorem State.dropBand_kept (s : State) (v : Fin 8) (b : Nat)
    (hk : Kept kp kf kn km kq s) : Kept kp kf kn km kq (State.dropBand s v b) := by
  unfold State.dropBand
  extract_lets s1
  have hk_s1 : Kept kp kf kn km kq s1 := by
    dsimp only [s1]
    repeat' first
      | with_reducible assumption
      | (with_reducible refine State.dropPages_kept _ _ _ ?_)
  try clear_value s1
  repeat' first
    | with_reducible assumption
    | with_reducible intro _
    | (with_reducible refine State.freeChunks_kept _ _ _ ?_)
    | (with_reducible refine State.onSilt_mem_kept _ _ ?_ ?_ ?_)
    | split

theorem State.dropBands_kept (s : State) (v : Fin 8) (b n : Nat) (hk : Kept kp kf kn km kq s) : Kept kp kf kn km kq (s.dropBands v b n) := by
  induction n generalizing s b with
  | zero => exact hk
  | succ n ih => exact ih _ _ (State.dropBand_kept _ _ _ hk)

theorem State.placeBand_kept (s : State) (v : Fin 8) (b : Nat) (external : Bool) (chunks : List Nat)
    (hk : Kept kp kf kn km kq s) : Kept kp kf kn km kq (State.placeBand s v b external chunks) := by
  unfold State.placeBand
  repeat' first
    | with_reducible assumption
    | with_reducible intro _
    | (with_reducible refine State.dropBand_kept _ _ _ ?_)
    | (with_reducible refine State.onSilt_mem_kept _ _ ?_ ?_ ?_)

/-! ### Jobs -/

theorem State.accrue_kept (s : State)
    (hk : Kept kp kf kn km kq s) : Kept kp kf kn km kq (State.accrue s) := by
  unfold State.accrue
  extract_lets dt cap s1
  try clear_value dt
  try clear_value cap
  have hk_s1 : Kept kp kf kn km kq s1 := by
    dsimp only [s1]
    repeat' first
      | with_reducible assumption
      | with_reducible intro _
      | (with_reducible refine Kept.ite ?_ ?_)
      | (with_reducible refine foldl_kept ?_ ?_)
      | (with_reducible refine State.onVi_kept _ _ _ ?_)
  try clear_value s1
  repeat' first
    | with_reducible assumption
    | (with_reducible refine State.onLoam_kept _ _ ?_)

theorem State.charge_kept (s : State) (v : Fin 8) (h : Fin 4) (t : Nat) (surplus : Bool)
    (hk : Kept kp kf kn km kq s) : Kept kp kf kn km kq (State.charge s v h t surplus) := by
  unfold State.charge
  repeat' first
    | with_reducible assumption
    | (with_reducible refine State.onVi_kept _ _ _ ?_)
    | (with_reducible refine State.accrue_kept _ ?_)

theorem State.joinChain_kept (s : State) (j : JobRef) (order : Nat)
    (hk : Kept kp kf kn km kq s) : Kept kp kf kn km kq (State.joinChain s j order) := by
  unfold State.joinChain
  extract_lets x
  try clear_value x
  repeat' first
    | with_reducible assumption
    | with_reducible intro _
    | (with_reducible refine Kept.ite ?_ ?_)
    | (with_reducible refine State.onVi_kept _ _ _ ?_)
    | (with_reducible refine State.onJob_kept _ _ _ ?_)

theorem State.breakChain_kept (s : State) (j : JobRef)
    (hk : Kept kp kf kn km kq s) : Kept kp kf kn km kq (State.breakChain s j) := by
  unfold State.breakChain
  extract_lets x
  try clear_value x
  repeat' first
    | with_reducible assumption
    | with_reducible intro _
    | (with_reducible refine Kept.ite ?_ ?_)
    | (with_reducible refine foldl_kept ?_ ?_)
    | (with_reducible refine State.onVi_kept _ _ _ ?_)
    | (with_reducible refine State.onJob_kept _ _ _ ?_)
    | rfl
    | split

theorem State.chainOver_kept (s : State) (h : Fin 4)
    (hk : Kept kp kf kn km kq s) : Kept kp kf kn km kq (State.chainOver s h) := by
  unfold State.chainOver
  repeat' first
    | with_reducible assumption
    | with_reducible intro _
    | (with_reducible refine Kept.ite ?_ ?_)
    | (with_reducible refine State.onLoamHead_kept _ _ _ ?_)
    | rfl
    | split

theorem State.endGuest_kept (s : State) (j : JobRef) (ok : Bool) (result : Nat) (headTime : Nat) (amount : Nat)
    (hk : Kept kp kf kn km kq s) : Kept kp kf kn km kq (State.endGuest s j ok result headTime amount) := by
  unfold State.endGuest
  repeat' first
    | with_reducible assumption
    | (with_reducible refine State.onLink_kept _ _ ?_)
    | (with_reducible refine State.sendResult_kept _ _ _ _ _ _ _ ?_)
    | (with_reducible refine State.dropBands_kept _ _ _ _ ?_)
    | dsimp only [id]
    | split

theorem State.queueSpace_kept (s : State) (v : Fin 8)
    (hk : Kept kp kf kn km kq s) : Kept kp kf kn km kq (State.queueSpace s v) := by
  unfold State.queueSpace
  repeat' first
    | with_reducible assumption
    | (with_reducible refine Kept.ite ?_ ?_)
    | (with_reducible refine State.onVi_kept _ _ _ ?_)
    | (with_reducible refine State.raiseVi_kept _ _ _ _ _ ?_)
    | split

theorem State.finishOne_kept (s : State) (j : JobRef) (st : JobState) (result : Nat) (amount : Nat)
    (hk : Kept kp kf kn km kq s) : Kept kp kf kn km kq (State.finishOne s j st result amount) := by
  unfold State.finishOne
  extract_lets a x s1 s2
  try clear_value a
  try clear_value x
  have hk_s1 : Kept kp kf kn km kq s1 := by
    dsimp only [s1]
    repeat' first
      | with_reducible assumption
      | (with_reducible refine State.onVi_kept _ _ _ ?_)
      | (with_reducible refine State.onJob_kept _ _ _ ?_)
  try clear_value s1
  have hk_s2 : Kept kp kf kn km kq s2 := by
    dsimp only [s2]
    repeat' first
      | with_reducible assumption
      | (with_reducible refine State.raiseVi_kept _ _ _ _ _ ?_)
  try clear_value s2
  repeat' first
    | with_reducible assumption
    | (with_reducible refine Kept.ite ?_ ?_)
    | (with_reducible refine State.onJob_kept _ _ _ ?_)

theorem State.fencesDone_kept (s : State) (v : Fin 8)
    (hk : Kept kp kf kn km kq s) : Kept kp kf kn km kq (State.fencesDone s v) := by
  unfold State.fencesDone
  repeat' first
    | with_reducible assumption
    | with_reducible intro _
    | (with_reducible refine Kept.ite ?_ ?_)
    | (with_reducible refine foldl_kept ?_ ?_)
    | (with_reducible refine State.queueSpace_kept _ _ ?_)
    | (with_reducible refine State.finishOne_kept _ _ _ _ _ ?_)

theorem State.endJob_kept (s : State) (j : JobRef) (st : JobState) (result : Nat) (amount : Nat)
    (hk : Kept kp kf kn km kq s) : Kept kp kf kn km kq (State.endJob s j st result amount) := by
  unfold State.endJob
  extract_lets x started t later s1 s2 s3 s4 s5
  try clear_value x
  try clear_value started
  try clear_value t
  try clear_value later
  have hk_s1 : Kept kp kf kn km kq s1 := by
    dsimp only [s1]
    repeat' first
      | with_reducible assumption
      | with_reducible intro _
      | (with_reducible refine Kept.ite ?_ ?_)
      | (with_reducible refine foldl_kept ?_ ?_)
      | (with_reducible refine State.charge_kept _ _ _ _ _ ?_)
  try clear_value s1
  have hk_s2 : Kept kp kf kn km kq s2 := by
    dsimp only [s2]
    repeat' first
      | with_reducible assumption
      | with_reducible intro _
      | (with_reducible refine Kept.ite ?_ ?_)
      | (with_reducible refine foldl_kept ?_ ?_)
      | (with_reducible refine State.charge_kept _ _ _ _ _ ?_)
      | (with_reducible refine State.endGuest_kept _ _ _ _ _ _ ?_)
  try clear_value s2
  have hk_s3 : Kept kp kf kn km kq s3 := by
    dsimp only [s3]
    repeat' first
      | with_reducible assumption
      | with_reducible intro _
      | (with_reducible refine Kept.ite ?_ ?_)
      | (with_reducible refine foldl_kept ?_ ?_)
      | (with_reducible refine State.charge_kept _ _ _ _ _ ?_)
      | (with_reducible refine State.endGuest_kept _ _ _ _ _ _ ?_)
      | (with_reducible refine State.finishOne_kept _ _ _ _ _ ?_)
      | (with_reducible refine State.breakChain_kept _ _ ?_)
  try clear_value s3
  have hk_s4 : Kept kp kf kn km kq s4 := by
    dsimp only [s4]
    repeat' first
      | with_reducible assumption
      | with_reducible intro _
      | (with_reducible refine Kept.ite ?_ ?_)
      | (with_reducible refine foldl_kept ?_ ?_)
      | (with_reducible refine State.charge_kept _ _ _ _ _ ?_)
      | (with_reducible refine State.endGuest_kept _ _ _ _ _ _ ?_)
      | (with_reducible refine State.finishOne_kept _ _ _ _ _ ?_)
      | (with_reducible refine State.breakChain_kept _ _ ?_)
      | (with_reducible refine State.onLoamHead_kept _ _ _ ?_)
  try clear_value s4
  have hk_s5 : Kept kp kf kn km kq s5 := by
    dsimp only [s5]
    repeat' first
      | with_reducible assumption
      | with_reducible intro _
      | (with_reducible refine Kept.ite ?_ ?_)
      | (with_reducible refine foldl_kept ?_ ?_)
      | (with_reducible refine State.charge_kept _ _ _ _ _ ?_)
      | (with_reducible refine State.endGuest_kept _ _ _ _ _ _ ?_)
      | (with_reducible refine State.finishOne_kept _ _ _ _ _ ?_)
  try clear_value s5
  repeat' first
    | with_reducible assumption
    | with_reducible intro _
    | (with_reducible refine Kept.ite ?_ ?_)
    | (with_reducible refine foldl_kept ?_ ?_)
    | (with_reducible refine State.charge_kept _ _ _ _ _ ?_)
    | (with_reducible refine State.endGuest_kept _ _ _ _ _ _ ?_)
    | (with_reducible refine State.finishOne_kept _ _ _ _ _ ?_)
    | (with_reducible refine State.breakChain_kept _ _ ?_)
    | (with_reducible refine State.onLoamHead_kept _ _ _ ?_)
    | (with_reducible refine State.queueSpace_kept _ _ ?_)
    | (with_reducible refine State.fencesDone_kept _ _ ?_)
    | (with_reducible refine State.chainOver_kept _ _ ?_)

theorem State.activate_kept (s : State) (j : JobRef)
    (hk : Kept kp kf kn km kq s) : Kept kp kf kn km kq (State.activate s j) := by
  unfold State.activate
  repeat' first
    | with_reducible assumption
    | (with_reducible refine Kept.ite ?_ ?_)
    | (with_reducible refine State.onJob_kept _ _ _ ?_)
    | (with_reducible refine State.raiseVi_kept _ _ _ _ _ ?_)

theorem State.dispatchJob_kept (s : State) (j : JobRef) (surplus : Bool)
    (hk : Kept kp kf kn km kq s) : Kept kp kf kn km kq (State.dispatchJob s j surplus) := by
  unfold State.dispatchJob
  extract_lets x s1 s2
  try clear_value x
  have hk_s1 : Kept kp kf kn km kq s1 := by
    dsimp only [s1]
    repeat' first
      | with_reducible assumption
      | (with_reducible refine State.onJob_kept _ _ _ ?_)
  try clear_value s1
  have hk_s2 : Kept kp kf kn km kq s2 := by
    dsimp only [s2]
    repeat' first
      | with_reducible assumption
      | (with_reducible refine State.onLoamHead_kept _ _ _ ?_)
  try clear_value s2
  repeat' first
    | with_reducible assumption
    | (with_reducible refine State.sendResult_kept _ _ _ _ _ _ _ ?_)
    | split

theorem State.returnJob_kept (s : State) (j : JobRef)
    (hk : Kept kp kf kn km kq s) : Kept kp kf kn km kq (State.returnJob s j) := by
  unfold State.returnJob
  repeat' first
    | with_reducible assumption
    | (with_reducible refine State.onJob_kept _ _ _ ?_)

/-! ### Power -/

theorem State.discardHeld_kept (s : State)
    (hk : Kept kp kf kn km kq s) : Kept kp kf kn km kq (State.discardHeld s) := by
  refine ⟨hk.1, hk.2, hk.3, hk.4, ?_, hk.6⟩
  have := hk.5
  unfold RingBounded at *
  exact Nat.le_trans (List.length_filter_le _ _) this

theorem State.enterWake_kept (s : State) (source : BitVec 4)
    (hk : Kept kp kf kn km kq s) : Kept kp kf kn km kq (State.enterWake s source) := by
  have h := State.discardHeld_kept _ (State.deviceReset_kept s hk)
  exact ⟨h.1, h.2, h.3, h.4, h.5, h.6⟩

theorem State.beginWake_kept (s : State) (source : BitVec 4)
    (hk : Kept kp kf kn km kq s) : Kept kp kf kn km kq (State.beginWake s source) := by
  unfold State.beginWake
  repeat' first
    | with_reducible assumption
    | (with_reducible refine State.onPwr_kept _ _ ?_)
    | (with_reducible refine State.enterWake_kept _ _ ?_)

theorem State.wakeBy_kept (s : State) (source : BitVec 4)
    (hk : Kept kp kf kn km kq s) : Kept kp kf kn km kq (State.wakeBy s source) := by
  unfold State.wakeBy
  repeat' first
    | with_reducible assumption
    | with_reducible rfl
    | (with_reducible refine Kept.ite ?_ ?_)
    | (with_reducible refine State.beginWake_kept _ _ ?_)
    | (with_reducible refine State.onAo_kept _ _ ?_ ?_)

theorem State.beginPd_kept (s : State) (reason : PdReason) (stage6Only : Bool)
    (hk : Kept kp kf kn km kq s) : Kept kp kf kn km kq (State.beginPd s reason stage6Only) := by
  unfold State.beginPd
  repeat' first
    | with_reducible assumption
    | (with_reducible refine Kept.ite ?_ ?_)
    | (with_reducible refine State.onPwr_kept _ _ ?_)
    | split

theorem State.revertBoot_kept (s : State)
    (hk : Kept kp kf kn km kq s) : Kept kp kf kn km kq (State.revertBoot s) := by
  unfold State.revertBoot
  repeat' first
    | with_reducible assumption
    | with_reducible rfl
    | (with_reducible refine Kept.ite ?_ ?_)
    | (with_reducible refine State.onAo_kept _ _ ?_ ?_)
    | (with_reducible refine State.onMgmt_kept _ _ ?_ ?_ ?_ ?_)

theorem State.countTrial_kept (s : State)
    (hk : Kept kp kf kn km kq s) : Kept kp kf kn km kq (State.countTrial s) := by
  unfold State.countTrial
  repeat' first
    | with_reducible assumption
    | with_reducible rfl
    | (with_reducible refine Kept.ite ?_ ?_)
    | (with_reducible refine State.onAo_kept _ _ ?_ ?_)
    | (with_reducible refine State.onMgmt_kept _ _ ?_ ?_ ?_ ?_)

theorem State.bootSlot_kept (s : State) (a : Fin 2) (b : Bool)
    (hk : Kept kp kf kn km kq s) : Kept kp kf kn km kq (State.bootSlot s a b) := by
  unfold State.bootSlot
  extract_lets s1 s2 s3
  have hk_s1 : Kept kp kf kn km kq s1 := by
    dsimp only [s1]
    repeat' first
      | with_reducible assumption
      | (with_reducible refine Kept.ite ?_ ?_)
      | (with_reducible refine State.countTrial_kept _ ?_)
  try clear_value s1
  have hk_s2 : Kept kp kf kn km kq s2 := by
    dsimp only [s2]
    repeat' first
      | with_reducible assumption
      | with_reducible rfl
      | (with_reducible refine State.onMgmt_kept _ _ ?_ ?_ ?_ ?_)
  try clear_value s2
  have hk_s3 : Kept kp kf kn km kq s3 := by
    dsimp only [s3]
    repeat' first
      | with_reducible assumption
      | (with_reducible refine Kept.ite ?_ ?_)
      | (with_reducible refine State.revertBoot_kept _ ?_)
  try clear_value s3
  repeat' first
    | with_reducible assumption
    | (with_reducible refine State.onPwr_kept _ _ ?_)

theorem State.memoryFailed_kept (s : State)
    (hk : Kept kp kf kn km kq s) : Kept kp kf kn km kq (State.memoryFailed s) := by
  unfold State.memoryFailed
  repeat' first
    | with_reducible assumption
    | with_reducible intro _
    | (with_reducible refine State.changeMode_kept _ _ ?_)
    | (with_reducible refine State.onSilt_mem_kept _ _ ?_ ?_ ?_)

theorem State.refuseMode_kept (s : State) (v : Word)
    (hk : Kept kp kf kn km kq s) : Kept kp kf kn km kq (State.refuseMode s v) := by
  unfold State.refuseMode
  repeat' first
    | with_reducible assumption
    | (with_reducible refine State.onPwr_kept _ _ ?_)
    | (with_reducible refine State.raise0_kept _ _ _ _ ?_)

theorem State.acceptMode_kept (s : State)
    (hk : Kept kp kf kn km kq s) : Kept kp kf kn km kq (State.acceptMode s) := by
  unfold State.acceptMode
  repeat' first
    | with_reducible assumption
    | (with_reducible refine State.onPwr_kept _ _ ?_)

theorem State.gritBlockEvent_kept (s : State) (cause : Nat)
    (hk : Kept kp kf kn km kq s) : Kept kp kf kn km kq (State.gritBlockEvent s cause) := by
  unfold State.gritBlockEvent
  repeat' first
    | with_reducible assumption
    | (with_reducible refine State.raiseBoth_kept _ _ _ _ _ ?_)

theorem State.endRaw_kept (s : State)
    (hk : Kept kp kf kn km kq s) : Kept kp kf kn km kq (State.endRaw s) := by
  unfold State.endRaw
  repeat' first
    | with_reducible assumption
    | (with_reducible refine Kept.ite ?_ ?_)
    | (with_reducible refine State.onGrit_kept _ _ ?_)
    | (with_reducible refine State.gritBlockEvent_kept _ _ ?_)

theorem State.requestRun_kept (s : State) (v : Word)
    (hk : Kept kp kf kn km kq s) : Kept kp kf kn km kq (State.requestRun s v) := by
  unfold State.requestRun
  repeat' first
    | with_reducible assumption
    | with_reducible intro _
    | (with_reducible refine Kept.ite ?_ ?_)
    | (with_reducible refine State.acceptMode_kept _ ?_)
    | (with_reducible refine State.refuseMode_kept _ _ ?_)
    | (with_reducible refine State.changeMode_kept _ _ ?_)
    | (with_reducible refine State.endRaw_kept _ ?_)
    | (with_reducible refine State.onPwr_kept _ _ ?_)
    | rfl
    | split

theorem State.requestService_kept (s : State) (v : Word)
    (hk : Kept kp kf kn km kq s) : Kept kp kf kn km kq (State.requestService s v) := by
  unfold State.requestService
  repeat' first
    | with_reducible assumption
    | with_reducible intro _
    | (with_reducible refine Kept.ite ?_ ?_)
    | (with_reducible refine State.acceptMode_kept _ ?_)
    | (with_reducible refine State.refuseMode_kept _ _ ?_)
    | (with_reducible refine State.onPwr_kept _ _ ?_)
    | rfl
    | split

theorem State.requestRetain_kept (s : State) (v : Word)
    (hk : Kept kp kf kn km kq s) : Kept kp kf kn km kq (State.requestRetain s v) := by
  unfold State.requestRetain
  repeat' first
    | with_reducible assumption
    | with_reducible intro _
    | (with_reducible refine Kept.ite ?_ ?_)
    | (with_reducible refine State.beginPd_kept _ _ _ ?_)
    | (with_reducible refine State.onPwr_kept _ _ ?_)
    | (with_reducible refine State.endRaw_kept _ ?_)
    | (with_reducible refine State.acceptMode_kept _ ?_)
    | (with_reducible refine State.refuseMode_kept _ _ ?_)
    | rfl
    | split

theorem State.modeRequest_kept (s : State) (v : Word)
    (hk : Kept kp kf kn km kq s) : Kept kp kf kn km kq (State.modeRequest s v) := by
  unfold State.modeRequest
  repeat' first
    | with_reducible assumption
    | with_reducible intro _
    | (with_reducible refine Kept.ite ?_ ?_)
    | (with_reducible refine State.requestRetain_kept _ _ ?_)
    | (with_reducible refine State.requestRun_kept _ _ ?_)
    | (with_reducible refine State.requestService_kept _ _ ?_)
    | (with_reducible refine State.refuseMode_kept _ _ ?_)
    | rfl
    | split

/-! ### PaperOps -/

theorem State.raiseBound_kept (s : State) (loop : Nat) (upper : Bool) (tenant : Option (Fin 8))
    (hk : Kept kp kf kn km kq s) : Kept kp kf kn km kq (State.raiseBound s loop upper tenant) := by
  unfold State.raiseBound
  repeat' first
    | with_reducible assumption
    | (with_reducible refine State.raiseVi_kept _ _ _ _ _ ?_)
    | (with_reducible refine State.raise0_kept _ _ _ _ ?_)
    | split

theorem State.loopHeld_kept (s : State) (loop : Nat) (lo : Bool) (hi : Bool) (newLo : Bool) (newHi : Bool) (tLo : Option (Fin 8)) (tHi : Option (Fin 8))
    (hk : Kept kp kf kn km kq s) : Kept kp kf kn km kq (State.loopHeld s loop lo hi newLo newHi tLo tHi) := by
  unfold State.loopHeld
  extract_lets b s1 s2
  try clear_value b
  have hk_s1 : Kept kp kf kn km kq s1 := by
    dsimp only [s1]
    repeat' first
      | with_reducible assumption
      | with_reducible intro _
      | (with_reducible refine Kept.ite ?_ ?_)
      | (with_reducible refine State.onBus_kept _ _ ?_ ?_)
      | (with_reducible refine State.raiseBound_kept _ _ _ _ ?_)
  try clear_value s1
  have hk_s2 : Kept kp kf kn km kq s2 := by
    dsimp only [s2]
    repeat' first
      | with_reducible assumption
      | with_reducible intro _
      | (with_reducible refine Kept.ite ?_ ?_)
      | (with_reducible refine State.onBus_kept _ _ ?_ ?_)
      | (with_reducible refine State.raiseBound_kept _ _ _ _ ?_)
  try clear_value s2
  repeat' first
    | with_reducible assumption
    | with_reducible intro _
    | (with_reducible refine Kept.ite ?_ ?_)
    | (with_reducible refine State.onBus_kept _ _ ?_ ?_)
    | (with_reducible refine State.raiseBound_kept _ _ _ _ ?_)
    | rfl

theorem State.loopUpdated_kept (s : State) (loop : Nat) (lo : Int) (hi : Int) (steps : List (Int × Int)) (tLo : Option (Fin 8)) (tHi : Option (Fin 8))
    (hk : Kept kp kf kn km kq s) : Kept kp kf kn km kq (State.loopUpdated s loop lo hi steps tLo tHi) := by
  unfold State.loopUpdated
  extract_lets wasLo wasHi
  try clear_value wasLo
  try clear_value wasHi
  repeat' first
    | with_reducible assumption
    | with_reducible intro _
    | (with_reducible refine Kept.ite ?_ ?_)
    | (with_reducible refine State.loopHeld_kept _ _ _ _ _ _ _ _ ?_)

theorem State.loopHeldFrozen_kept (s : State) (loop : Nat) (lo : Int) (hi : Int) (held : List Int) (tLo : Option (Fin 8)) (tHi : Option (Fin 8))
    (hk : Kept kp kf kn km kq s) : Kept kp kf kn km kq (State.loopHeldFrozen s loop lo hi held tLo tHi) := by
  unfold State.loopHeldFrozen
  extract_lets wasLo wasHi
  try clear_value wasLo
  try clear_value wasHi
  repeat' first
    | with_reducible assumption
    | with_reducible intro _
    | (with_reducible refine Kept.ite ?_ ?_)
    | (with_reducible refine State.loopHeld_kept _ _ _ _ _ _ _ _ ?_)

theorem State.loopFree_kept (s : State) (loop : Nat)
    (hk : Kept kp kf kn km kq s) : Kept kp kf kn km kq (State.loopFree s loop) := by
  unfold State.loopFree
  repeat' first
    | with_reducible assumption
    | with_reducible intro _
    | (with_reducible refine Kept.ite ?_ ?_)
    | (with_reducible refine State.loopHeld_kept _ _ _ _ _ _ _ _ ?_)

theorem State.raiseClamp_kept (s : State) (w : Fin 11) (ceiling : Nat) (head : Nat) (lamp : Nat)
    (hk : Kept kp kf kn km kq s) : Kept kp kf kn km kq (State.raiseClamp s w ceiling head lamp) := by
  unfold State.raiseClamp
  repeat' first
    | with_reducible assumption
    | with_reducible rfl
    | (with_reducible refine State.raiseWin_kept _ _ _ _ _ ?_)
    | (with_reducible refine State.onBus_kept _ _ ?_ ?_)

theorem State.headEvent_kept (s : State) (h : Fin 4)
    (hk : Kept kp kf kn km kq s) : Kept kp kf kn km kq (State.headEvent s h) := by
  unfold State.headEvent
  repeat' first
    | with_reducible assumption
    | (with_reducible refine State.raiseBoth_kept _ _ _ _ _ ?_)

theorem State.settleHeadOut_kept (s : State)
    (hk : Kept kp kf kn km kq s) : Kept kp kf kn km kq (State.settleHeadOut s) := by
  unfold State.settleHeadOut
  repeat' first
    | with_reducible assumption
    | (with_reducible refine State.changeMode_kept _ _ ?_)

theorem State.endStrobes_kept (s : State) (h : Fin 4) (t : Rat) (atOnce : Bool)
    (hk : Kept kp kf kn km kq s) : Kept kp kf kn km kq (State.endStrobes s h t atOnce) := by
  unfold State.endStrobes
  extract_lets gone given s1
  try clear_value gone
  have hk_s1 : Kept kp kf kn km kq s1 := by
    dsimp only [s1]
    repeat' first
      | with_reducible assumption
      | with_reducible intro _
      | (with_reducible refine Kept.ite ?_ ?_)
      | (with_reducible refine State.onHead_kept _ _ _ ?_)
  try clear_value s1
  repeat' first
    | with_reducible assumption
    | with_reducible intro _
    | (with_reducible refine Kept.ite ?_ ?_)
    | (with_reducible refine State.onHead_kept _ _ _ ?_)
    | (with_reducible refine State.onEnergy_kept _ _ _ ?_)

theorem State.setHead_kept (s : State) (h : Fin 4) (st : HeadState) (cause : OutCause)
    (hk : Kept kp kf kn km kq s) : Kept kp kf kn km kq (State.setHead s h st cause) := by
  unfold State.setHead
  repeat' first
    | with_reducible assumption
    | (with_reducible refine Kept.ite ?_ ?_)
    | (with_reducible refine State.onHead_kept _ _ _ ?_)
    | (with_reducible refine State.onEnergy_kept _ _ _ ?_)
    | (with_reducible refine State.headEvent_kept _ _ ?_)
    | (with_reducible refine State.settleHeadOut_kept _ ?_)

theorem State.axisEvent_kept (s : State) (a : Fin 4)
    (hk : Kept kp kf kn km kq s) : Kept kp kf kn km kq (State.axisEvent s a) := by
  unfold State.axisEvent
  repeat' first
    | with_reducible assumption
    | (with_reducible refine State.raise0_kept _ _ _ _ ?_)

theorem State.setAxis_kept (s : State) (a : Fin 4) (st : AxisState)
    (hk : Kept kp kf kn km kq s) : Kept kp kf kn km kq (State.setAxis s a st) := by
  unfold State.setAxis
  repeat' first
    | with_reducible assumption
    | (with_reducible refine Kept.ite ?_ ?_)
    | (with_reducible refine State.onAxis_kept _ _ _ ?_)
    | (with_reducible refine State.axisEvent_kept _ _ ?_)

theorem State.rampStop_kept (s : State) (a : Fin 4)
    (hk : Kept kp kf kn km kq s) : Kept kp kf kn km kq (State.rampStop s a) := by
  unfold State.rampStop
  extract_lets x s1
  try clear_value x
  have hk_s1 : Kept kp kf kn km kq s1 := by
    dsimp only [s1]
    repeat' first
      | with_reducible assumption
      | (with_reducible refine State.onAxis_kept _ _ _ ?_)
  try clear_value s1
  repeat' first
    | with_reducible assumption
    | (with_reducible refine Kept.ite ?_ ?_)
    | (with_reducible refine State.onAxis_kept _ _ _ ?_)
    | (with_reducible refine State.setAxis_kept _ _ _ ?_)
    | split

theorem State.hardStop_kept (s : State) (a : Fin 4) (cause : BitVec 3)
    (hk : Kept kp kf kn km kq s) : Kept kp kf kn km kq (State.hardStop s a cause) := by
  unfold State.hardStop
  repeat' first
    | with_reducible assumption
    | (with_reducible refine State.onAxis_kept _ _ _ ?_)

theorem State.settleDisable_kept (s : State) (h : Fin 4)
    (hk : Kept kp kf kn km kq s) : Kept kp kf kn km kq (State.settleDisable s h) := by
  unfold State.settleDisable
  repeat' first
    | with_reducible assumption
    | (with_reducible refine Kept.ite ?_ ?_)
    | (with_reducible refine State.setHead_kept _ _ _ _ ?_)

theorem State.endRun_kept (s : State) (h : Fin 4) (st : JobState) (result : Nat) (amount : Nat)
    (hk : Kept kp kf kn km kq s) : Kept kp kf kn km kq (State.endRun s h st result amount) := by
  unfold State.endRun
  repeat' first
    | with_reducible assumption
    | with_reducible intro _
    | (with_reducible refine State.onHead_kept _ _ _ ?_)
    | (with_reducible refine State.onRun_kept _ _ _ ?_)
    | (with_reducible refine State.onCutter_kept _ _ ?_)
    | (with_reducible refine State.unpinWhere_kept _ _ _ _ ?_)
    | (with_reducible refine State.endJob_kept _ _ _ _ _ ?_)
    | (with_reducible refine State.settleDisable_kept _ _ ?_)
    | (with_reducible refine State.onSilt_mem_kept _ _ ?_ ?_ ?_)
    | dsimp only [id]
    | split

theorem State.stopMoves_kept (s : State) (h : Fin 4) (r : Run)
    (hk : Kept kp kf kn km kq s) : Kept kp kf kn km kq (State.stopMoves s h r) := by
  unfold State.stopMoves
  repeat' first
    | with_reducible assumption
    | (with_reducible refine Kept.ite ?_ ?_)
    | (with_reducible refine State.onAxis_kept _ _ _ ?_)
    | (with_reducible refine State.rampStop_kept _ _ ?_)

theorem State.withdrawPrinted_kept (s : State) (h : Fin 4)
    (hk : Kept kp kf kn km kq s) : Kept kp kf kn km kq (State.withdrawPrinted s h) := by
  unfold State.withdrawPrinted
  repeat' first
    | with_reducible assumption
    | with_reducible intro _
    | (with_reducible refine Kept.ite ?_ ?_)
    | (with_reducible refine State.onIsland_kept _ _ ?_ ?_)
    | rfl
    | split

theorem State.stopJobAt_kept (s : State) (h : Fin 4) (t : Rat) (st : JobState) (result : Nat)
    (hk : Kept kp kf kn km kq s) : Kept kp kf kn km kq (State.stopJobAt s h t st result) := by
  unfold State.stopJobAt
  repeat' first
    | with_reducible assumption
    | with_reducible intro _
    | (with_reducible refine Kept.ite ?_ ?_)
    | (with_reducible refine State.endStrobes_kept _ _ _ _ ?_)
    | (with_reducible refine State.withdrawPrinted_kept _ _ ?_)
    | (with_reducible refine State.raiseVi_kept _ _ _ _ _ ?_)
    | (with_reducible refine State.onMedia_kept _ _ _ ?_)
    | (with_reducible refine State.stopMoves_kept _ _ _ ?_)
    | (with_reducible refine State.onLoamHead_kept _ _ _ ?_)
    | (with_reducible refine State.endRun_kept _ _ _ _ _ ?_)
    | rfl
    | split

theorem State.stopJob_kept (s : State) (h : Fin 4) (st : JobState) (result : Nat)
    (hk : Kept kp kf kn km kq s) : Kept kp kf kn km kq (State.stopJob s h st result) := by
  unfold State.stopJob
  repeat' first
    | with_reducible assumption
    | with_reducible intro _
    | (with_reducible refine Kept.ite ?_ ?_)
    | (with_reducible refine State.stopJobAt_kept _ _ _ _ _ ?_)

theorem State.headOutAt_kept (s : State) (h : Fin 4) (t : Rat) (cause : OutCause)
    (hk : Kept kp kf kn km kq s) : Kept kp kf kn km kq (State.headOutAt s h t cause) := by
  unfold State.headOutAt
  repeat' first
    | with_reducible assumption
    | with_reducible intro _
    | (with_reducible refine Kept.ite ?_ ?_)
    | (with_reducible refine State.stopJobAt_kept _ _ _ _ _ ?_)
    | (with_reducible refine State.endStrobes_kept _ _ _ _ ?_)
    | (with_reducible refine State.setHead_kept _ _ _ _ ?_)

theorem State.headOutOf_kept (s : State) (h : Fin 4) (cause : OutCause)
    (hk : Kept kp kf kn km kq s) : Kept kp kf kn km kq (State.headOutOf s h cause) := by
  unfold State.headOutOf
  repeat' first
    | with_reducible assumption
    | with_reducible intro _
    | (with_reducible refine Kept.ite ?_ ?_)
    | (with_reducible refine State.headOutAt_kept _ _ _ _ ?_)

theorem State.failAxisJobs_kept (s : State) (a : Fin 4)
    (hk : Kept kp kf kn km kq s) : Kept kp kf kn km kq (State.failAxisJobs s a) := by
  unfold State.failAxisJobs
  repeat' first
    | with_reducible assumption
    | with_reducible intro _
    | (with_reducible refine Kept.ite ?_ ?_)
    | (with_reducible refine foldl_kept ?_ ?_)
    | (with_reducible refine State.stopJob_kept _ _ _ _ ?_)
    | split

theorem State.failOwner_kept (s : State) (o : MoveOwner)
    (hk : Kept kp kf kn km kq s) : Kept kp kf kn km kq (State.failOwner s o) := by
  unfold State.failOwner
  repeat' first
    | with_reducible assumption
    | (with_reducible refine State.onMedia_kept _ _ _ ?_)
    | (with_reducible refine State.onLoamHead_kept _ _ _ ?_)
    | (with_reducible refine State.stopJob_kept _ _ _ _ ?_)
    | split

theorem State.limitEvent_kept (s : State) (a : Fin 4) (input : Fin 2) (hard : Bool) (vi : Option (Fin 8))
    (hk : Kept kp kf kn km kq s) : Kept kp kf kn km kq (State.limitEvent s a input hard vi) := by
  unfold State.limitEvent
  extract_lets aux pos s1
  try clear_value aux
  try clear_value pos
  have hk_s1 : Kept kp kf kn km kq s1 := by
    dsimp only [s1]
    repeat' first
      | with_reducible assumption
      | (with_reducible refine State.raise0_kept _ _ _ _ ?_)
  try clear_value s1
  repeat' first
    | with_reducible assumption
    | (with_reducible refine State.raiseVi_kept _ _ _ _ _ ?_)
    | split

theorem State.loadDacs_kept (s : State) (a : Fin 4)
    (hk : Kept kp kf kn km kq s) : Kept kp kf kn km kq (State.loadDacs s a) := by
  unfold State.loadDacs
  extract_lets load
  repeat' first
    | with_reducible assumption
    | with_reducible intro _
    | (with_reducible refine Kept.ite ?_ ?_)
    | (with_reducible refine State.onAxis_kept _ _ _ ?_)

theorem State.startMove_kept (s : State) (a : Fin 4) (move : Move)
    (hk : Kept kp kf kn km kq s) : Kept kp kf kn km kq (State.startMove s a move) := by
  unfold State.startMove
  extract_lets cur m neg vi
  try clear_value cur
  try clear_value m
  try clear_value neg
  try clear_value vi
  repeat' first
    | with_reducible assumption
    | with_reducible intro _
    | (with_reducible refine Kept.ite ?_ ?_)
    | (with_reducible refine State.failOwner_kept _ _ ?_)
    | (with_reducible refine State.setAxis_kept _ _ _ ?_)
    | (with_reducible refine State.limitEvent_kept _ _ _ _ _ ?_)
    | (with_reducible refine State.raiseVi_kept _ _ _ _ _ ?_)
    | (with_reducible refine State.onAxis_kept _ _ _ ?_)
    | (with_reducible refine State.loadDacs_kept _ _ ?_)
    | rfl
    | split

theorem State.requestMove_kept (s : State) (a : Fin 4) (m : Move)
    (hk : Kept kp kf kn km kq s) : Kept kp kf kn km kq (State.requestMove s a m) := by
  unfold State.requestMove
  repeat' first
    | with_reducible assumption
    | (with_reducible refine Kept.ite ?_ ?_)
    | (with_reducible refine State.onAxis_kept _ _ _ ?_)
    | (with_reducible refine State.failOwner_kept _ _ ?_)
    | (with_reducible refine State.startMove_kept _ _ _ ?_)
    | dsimp only [id]
    | split

theorem State.feedTo_kept (s : State) (h : Fin 4) (a : Fin 4) (target : Int) (o : MoveOwner)
    (hk : Kept kp kf kn km kq s) : Kept kp kf kn km kq (State.feedTo s h a target o) := by
  unfold State.feedTo
  repeat' first
    | with_reducible assumption
    | (with_reducible refine State.requestMove_kept _ _ _ ?_)

theorem State.setPhase_kept (s : State) (h : Fin 4) (p : Phase)
    (hk : Kept kp kf kn km kq s) : Kept kp kf kn km kq (State.setPhase s h p) := by
  unfold State.setPhase
  repeat' first
    | with_reducible assumption
    | (with_reducible refine State.onRun_kept _ _ _ ?_)

theorem State.continueTof_kept (s : State) (h : Fin 4)
    (hk : Kept kp kf kn km kq s) : Kept kp kf kn km kq (State.continueTof s h) := by
  unfold State.continueTof
  repeat' first
    | with_reducible assumption
    | (with_reducible refine Kept.ite ?_ ?_)
    | (with_reducible refine State.onMedia_kept _ _ _ ?_)
    | (with_reducible refine State.feedTo_kept _ _ _ _ _ ?_)
    | (with_reducible refine State.setPhase_kept _ _ _ ?_)
    | dsimp only [id]
    | split

theorem State.beginTof_kept (s : State) (h : Fin 4)
    (hk : Kept kp kf kn km kq s) : Kept kp kf kn km kq (State.beginTof s h) := by
  unfold State.beginTof
  repeat' first
    | with_reducible assumption
    | (with_reducible refine Kept.ite ?_ ?_)
    | (with_reducible refine State.onMedia_kept _ _ _ ?_)
    | (with_reducible refine State.continueTof_kept _ _ ?_)

theorem State.beginTail_kept (s : State) (h : Fin 4)
    (hk : Kept kp kf kn km kq s) : Kept kp kf kn km kq (State.beginTail s h) := by
  unfold State.beginTail
  repeat' first
    | with_reducible assumption
    | (with_reducible refine Kept.ite ?_ ?_)
    | (with_reducible refine State.onRun_kept _ _ _ ?_)
    | (with_reducible refine State.onMedia_kept _ _ _ ?_)
    | (with_reducible refine State.feedTo_kept _ _ _ _ _ ?_)
    | (with_reducible refine State.setPhase_kept _ _ _ ?_)
    | dsimp only [id]
    | split

theorem State.doneRun_kept (s : State) (h : Fin 4)
    (hk : Kept kp kf kn km kq s) : Kept kp kf kn km kq (State.doneRun s h) := by
  unfold State.doneRun
  repeat' first
    | with_reducible assumption
    | (with_reducible refine State.endRun_kept _ _ _ _ _ ?_)
    | dsimp only [id]
    | split

theorem State.requestOn_kept (s : State) (c : Fin 8) (duty : Nat)
    (hk : Kept kp kf kn km kq s) : Kept kp kf kn km kq (State.requestOn s c duty) := by
  unfold State.requestOn
  extract_lets s1
  have hk_s1 : Kept kp kf kn km kq s1 := by
    dsimp only [s1]
    repeat' first
      | with_reducible assumption
      | (with_reducible refine State.onLamp_kept _ _ _ ?_)
  try clear_value s1
  repeat' first
    | with_reducible assumption
    | (with_reducible refine State.onPaper_kept _ _ ?_)
    | (with_reducible refine State.onLamp_kept _ _ _ ?_)
    | split

theorem State.beginPresent_kept (s : State) (h : Fin 4)
    (hk : Kept kp kf kn km kq s) : Kept kp kf kn km kq (State.beginPresent s h) := by
  unfold State.beginPresent
  repeat' first
    | with_reducible assumption
    | with_reducible intro _
    | (with_reducible refine Kept.ite ?_ ?_)
    | (with_reducible refine Kept.getD ?_ ?_)
    | (with_reducible refine State.requestOn_kept _ _ _ ?_)
    | (with_reducible refine State.onRun_kept _ _ _ ?_)
    | (with_reducible refine State.requestMove_kept _ _ _ ?_)
    | rfl
    | split

theorem State.afterCut_kept (s : State) (h : Fin 4)
    (hk : Kept kp kf kn km kq s) : Kept kp kf kn km kq (State.afterCut s h) := by
  unfold State.afterCut
  repeat' first
    | with_reducible assumption
    | (with_reducible refine Kept.ite ?_ ?_)
    | (with_reducible refine State.doneRun_kept _ _ ?_)
    | (with_reducible refine State.beginPresent_kept _ _ ?_)
    | split

theorem State.moveReached_kept (s : State) (o : MoveOwner)
    (hk : Kept kp kf kn km kq s) : Kept kp kf kn km kq (State.moveReached s o) := by
  unfold State.moveReached
  repeat' first
    | with_reducible assumption
    | (with_reducible refine State.onMedia_kept _ _ _ ?_)
    | (with_reducible refine State.setPhase_kept _ _ _ ?_)
    | (with_reducible refine State.continueTof_kept _ _ ?_)
    | (with_reducible refine State.doneRun_kept _ _ ?_)
    | split

theorem State.finishMove_kept (s : State) (a : Fin 4)
    (hk : Kept kp kf kn km kq s) : Kept kp kf kn km kq (State.finishMove s a) := by
  unfold State.finishMove
  repeat' first
    | with_reducible assumption
    | (with_reducible refine Kept.ite ?_ ?_)
    | (with_reducible refine State.onAxis_kept _ _ _ ?_)
    | (with_reducible refine State.setAxis_kept _ _ _ ?_)
    | (with_reducible refine State.moveReached_kept _ _ ?_)
    | dsimp only [id]
    | split

theorem State.senseAborts_kept (s : State)
    (hk : Kept kp kf kn km kq s) : Kept kp kf kn km kq (State.senseAborts s) := by
  unfold State.senseAborts
  repeat' first
    | with_reducible assumption
    | (with_reducible refine State.onAnalog_kept _ _ ?_)

/-! ### LegalOps -/

theorem State.sendLegal_kept (s : State) (c : LegCommand)
    (hk : Kept kp kf kn km kq s) : Kept kp kf kn km kq (State.sendLegal s c).1 := by
  unfold State.sendLegal
  repeat' first
    | with_reducible assumption
    | with_reducible rfl
    | (with_reducible refine State.onLegal_kept _ _ ?_)
    | (with_reducible refine State.onIsland_kept _ _ ?_ ?_)
    | split

theorem State.sendPrinted_kept (s : State) (h : Fin 4)
    (hk : Kept kp kf kn km kq s) : Kept kp kf kn km kq (State.sendPrinted s h) := by
  unfold State.sendPrinted
  repeat' first
    | with_reducible assumption
    | (with_reducible refine State.onRun_kept _ _ _ ?_)
    | (with_reducible refine State.sendLegal_kept _ _ ?_)
    | dsimp only [id]
    | split

theorem State.resendPrinted_kept (s : State)
    (hk : Kept kp kf kn km kq s) : Kept kp kf kn km kq (State.resendPrinted s) := by
  unfold State.resendPrinted
  repeat' first
    | with_reducible assumption
    | with_reducible intro _
    | (with_reducible refine Kept.ite ?_ ?_)
    | (with_reducible refine foldl_kept ?_ ?_)
    | (with_reducible refine State.sendPrinted_kept _ _ ?_)
    | split

theorem State.cutMade_kept (s : State) (h : Fin 4)
    (hk : Kept kp kf kn km kq s) : Kept kp kf kn km kq (State.cutMade s h) := by
  unfold State.cutMade
  repeat' first
    | with_reducible assumption
    | (with_reducible refine Kept.ite ?_ ?_)
    | (with_reducible refine State.onRun_kept _ _ _ ?_)
    | (with_reducible refine State.afterCut_kept _ _ ?_)
    | (with_reducible refine State.sendPrinted_kept _ _ ?_)
    | split

end Sys2Proof.Machine
end

