-- ==== Sys2Proof/Laws/KeptPaper.lean ====
section
/-! SUPPORT. One lemma for each operation on a state, of fetching, printing, heads, axes, media and lamps:
it keeps what no command undoes (`Kept` of Safety): fuses, rollback, audit, the waiting queue, bounds and
canonical forms. -/

namespace Sys2Proof.Machine

variable {kp : Part} {kf : Fuses} {kn km : Nat} {kq : List Instr}

/-! ### Fetch -/

theorem State.raiseFault_kept (s : State) (v : Fin 8) (p : Nat) (cls : FaultClass)
    (hk : Kept kp kf kn km kq s) : Kept kp kf kn km kq (State.raiseFault s v p cls) := by
  unfold State.raiseFault
  repeat' first
    | with_reducible assumption
    | with_reducible intro _
    | (with_reducible refine State.onVi_kept _ _ _ ?_)
    | (with_reducible refine State.onSilt_mem_kept _ _ ?_ ?_ ?_)

theorem State.raiseHold_kept (s : State) (h : Fin 4) (r : Run) (c : HoldCause)
    (hk : Kept kp kf kn km kq s) : Kept kp kf kn km kq (State.raiseHold s h r c) := by
  unfold State.raiseHold
  repeat' first
    | with_reducible assumption
    | with_reducible intro _
    | (with_reducible refine Kept.ite ?_ ?_)
    | (with_reducible refine State.onSilt_kept _ _ ?_ ?_ ?_)
    | (with_reducible refine State.onSilt_mem_kept _ _ ?_ ?_ ?_)
    | (with_reducible refine State.raiseVi_kept _ _ _ _ _ ?_)
    | rfl

theorem State.raiseResume_kept (s : State) (h : Fin 4) (r : Run) (since : Nat)
    (hk : Kept kp kf kn km kq s) : Kept kp kf kn km kq (State.raiseResume s h r since) := by
  unfold State.raiseResume
  repeat' first
    | with_reducible assumption
    | with_reducible intro _
    | (with_reducible refine Kept.ite ?_ ?_)
    | (with_reducible refine State.raiseVi_kept _ _ _ _ _ ?_)

theorem State.startHold_kept (s : State) (h : Fin 4) (r : Run) (c : HoldCause) (page : Nat) (line : Nat)
    (hk : Kept kp kf kn km kq s) : Kept kp kf kn km kq (State.startHold s h r c page line) := by
  unfold State.startHold
  extract_lets s1
  have hk_s1 : Kept kp kf kn km kq s1 := by
    dsimp only [s1]
    repeat' first
      | with_reducible assumption
      | with_reducible intro _
      | (with_reducible refine Kept.ite ?_ ?_)
      | (with_reducible refine State.raiseHold_kept _ _ _ _ ?_)
      | (with_reducible refine State.onRun_kept _ _ _ ?_)
  try clear_value s1
  repeat' first
    | with_reducible assumption
    | with_reducible intro _
    | (with_reducible refine Kept.ite ?_ ?_)
    | (with_reducible refine State.raiseHold_kept _ _ _ _ ?_)
    | (with_reducible refine State.onRun_kept _ _ _ ?_)
    | (with_reducible refine State.onAxis_kept _ _ _ ?_)
    | rfl
    | split

theorem State.endHold_kept (s : State) (h : Fin 4) (r : Run) (x : Hold)
    (hk : Kept kp kf kn km kq s) : Kept kp kf kn km kq (State.endHold s h r x) := by
  unfold State.endHold
  repeat' first
    | with_reducible assumption
    | with_reducible intro _
    | (with_reducible refine Kept.ite ?_ ?_)
    | (with_reducible refine State.raiseResume_kept _ _ _ _ ?_)
    | (with_reducible refine State.onAxis_kept _ _ _ ?_)
    | (with_reducible refine State.onRun_kept _ _ _ ?_)

theorem State.startLate_kept (s : State) (h : Fin 4) (r : Run)
    (hk : Kept kp kf kn km kq s) : Kept kp kf kn km kq (State.startLate s h r) := by
  unfold State.startLate
  repeat' first
    | with_reducible assumption
    | with_reducible intro _
    | (with_reducible refine Kept.ite ?_ ?_)
    | (with_reducible refine State.raiseHold_kept _ _ _ _ ?_)
    | (with_reducible refine State.onAxis_kept _ _ _ ?_)
    | (with_reducible refine State.onRun_kept _ _ _ ?_)

theorem State.endLate_kept (s : State) (h : Fin 4) (r : Run) (since : Nat)
    (hk : Kept kp kf kn km kq s) : Kept kp kf kn km kq (State.endLate s h r since) := by
  unfold State.endLate
  repeat' first
    | with_reducible assumption
    | with_reducible intro _
    | (with_reducible refine Kept.ite ?_ ?_)
    | (with_reducible refine State.raiseResume_kept _ _ _ _ ?_)
    | (with_reducible refine State.onAxis_kept _ _ _ ?_)
    | (with_reducible refine State.onRun_kept _ _ _ ?_)

theorem State.startExternal_kept (s : State) (h : Fin 4) (r : Run)
    (hk : Kept kp kf kn km kq s) : Kept kp kf kn km kq (State.startExternal s h r) := by
  unfold State.startExternal
  repeat' first
    | with_reducible assumption
    | with_reducible intro _
    | (with_reducible refine Kept.ite ?_ ?_)
    | (with_reducible refine State.raiseHold_kept _ _ _ _ ?_)
    | (with_reducible refine State.onRun_kept _ _ _ ?_)

theorem State.endExternal_kept (s : State) (h : Fin 4) (r : Run) (since : Nat)
    (hk : Kept kp kf kn km kq s) : Kept kp kf kn km kq (State.endExternal s h r since) := by
  unfold State.endExternal
  repeat' first
    | with_reducible assumption
    | with_reducible intro _
    | (with_reducible refine Kept.ite ?_ ?_)
    | (with_reducible refine State.raiseResume_kept _ _ _ _ ?_)
    | (with_reducible refine State.onRun_kept _ _ _ ?_)

theorem State.settleHold_kept (s : State) (h : Fin 4)
    (hk : Kept kp kf kn km kq s) : Kept kp kf kn km kq (State.settleHold s h) := by
  unfold State.settleHold
  repeat' first
    | with_reducible assumption
    | with_reducible intro _
    | (with_reducible refine Kept.ite ?_ ?_)
    | (with_reducible refine State.startHold_kept _ _ _ _ _ _ ?_)
    | (with_reducible refine State.endHold_kept _ _ _ _ ?_)
    | (with_reducible refine State.onRun_kept _ _ _ ?_)
    | (with_reducible refine State.onAxis_kept _ _ _ ?_)
    | rfl
    | split

theorem State.pinWindow_kept (s : State) (h : Fin 4) (r : Run)
    (hk : Kept kp kf kn km kq s) : Kept kp kf kn km kq (State.pinWindow s h r) := by
  unfold State.pinWindow
  extract_lets v j w period s1
  try clear_value v
  try clear_value j
  try clear_value w
  try clear_value period
  have hk_s1 : Kept kp kf kn km kq s1 := by
    dsimp only [s1]
    repeat' first
      | with_reducible assumption
      | with_reducible intro _
      | (with_reducible refine Kept.ite ?_ ?_)
      | (with_reducible refine foldl_kept ?_ ?_)
      | (with_reducible refine State.onRun_kept _ _ _ ?_)
      | (with_reducible refine State.unpinWhere_kept _ _ _ _ ?_)
  try clear_value s1
  repeat' first
    | with_reducible assumption
    | with_reducible intro _
    | (with_reducible refine Kept.ite ?_ ?_)
    | (with_reducible refine foldl_kept ?_ ?_)
    | (with_reducible refine State.onRun_kept _ _ _ ?_)
    | (with_reducible refine State.unpinWhere_kept _ _ _ _ ?_)
    | (with_reducible refine State.pinPage_kept _ _ _ _ ?_)
    | (with_reducible refine State.raiseFault_kept _ _ _ _ ?_)

theorem State.prefetch_kept (s : State) (h : Fin 4) (r : Run)
    (hk : Kept kp kf kn km kq s) : Kept kp kf kn km kq (State.prefetch s h r) := by
  unfold State.prefetch
  repeat' first
    | with_reducible assumption
    | with_reducible intro _
    | (with_reducible refine Kept.ite ?_ ?_)
    | (with_reducible refine foldl_kept ?_ ?_)
    | (with_reducible refine State.raiseFault_kept _ _ _ _ ?_)
    | dsimp only [id]
    | split

theorem State.refreshHead_kept (s : State) (h : Fin 4)
    (hk : Kept kp kf kn km kq s) : Kept kp kf kn km kq (State.refreshHead s h) := by
  unfold State.refreshHead
  repeat' first
    | with_reducible assumption
    | (with_reducible refine Kept.ite ?_ ?_)
    | (with_reducible refine State.settleHold_kept _ _ ?_)
    | (with_reducible refine State.pinWindow_kept _ _ _ ?_)
    | (with_reducible refine State.prefetch_kept _ _ _ ?_)
    | split

theorem State.refreshHeads_kept (s : State)
    (hk : Kept kp kf kn km kq s) : Kept kp kf kn km kq (State.refreshHeads s) := by
  unfold State.refreshHeads
  repeat' first
    | with_reducible assumption
    | with_reducible intro _
    | (with_reducible refine foldl_kept ?_ ?_)
    | (with_reducible refine State.refreshHead_kept _ _ ?_)

/-! ### Energy -/

theorem State.settleEnvelope_kept (s : State) (h : Fin 4)
    (hk : Kept kp kf kn km kq s) : Kept kp kf kn km kq (State.settleEnvelope s h) := by
  unfold State.settleEnvelope
  repeat' first
    | with_reducible assumption
    | with_reducible intro _
    | (with_reducible refine Kept.ite ?_ ?_)
    | (with_reducible refine foldl_kept ?_ ?_)
    | (with_reducible refine State.raise0_kept _ _ _ _ ?_)
    | (with_reducible refine State.onEnergy_kept _ _ _ ?_)

theorem State.takeThermistor_kept (s : State) (h : Fin 4) (code : BitVec 12)
    (hk : Kept kp kf kn km kq s) : Kept kp kf kn km kq (State.takeThermistor s h code) := by
  unfold State.takeThermistor
  extract_lets t
  try clear_value t
  repeat' first
    | with_reducible assumption
    | with_reducible intro _
    | (with_reducible refine Kept.ite ?_ ?_)
    | (with_reducible refine State.settleEnvelope_kept _ _ ?_)
    | (with_reducible refine State.onEnergy_kept _ _ _ ?_)
    | (with_reducible refine State.onHead_kept _ _ _ ?_)

theorem State.judgeSupply_kept (s : State) (h : Fin 4) (mv : Nat)
    (hk : Kept kp kf kn km kq s) : Kept kp kf kn km kq (State.judgeSupply s h mv) := by
  unfold State.judgeSupply
  extract_lets s1
  have hk_s1 : Kept kp kf kn km kq s1 := by
    dsimp only [s1]
    repeat' first
      | with_reducible assumption
      | with_reducible intro _
      | (with_reducible refine Kept.ite ?_ ?_)
      | (with_reducible refine State.settleEnvelope_kept _ _ ?_)
      | (with_reducible refine State.onHead_kept _ _ _ ?_)
  try clear_value s1
  repeat' first
    | with_reducible assumption
    | with_reducible intro _
    | (with_reducible refine Kept.ite ?_ ?_)
    | (with_reducible refine State.settleEnvelope_kept _ _ ?_)
    | (with_reducible refine State.onHead_kept _ _ _ ?_)
    | (with_reducible refine State.headOutOf_kept _ _ _ ?_)

/-! ### Print -/

theorem State.capAdd_kept (s : State) (h : Fin 4) (lines : Nat) (lineTime : Rat) (pauseTime : Rat)
    (hk : Kept kp kf kn km kq s) : Kept kp kf kn km kq (State.capAdd s h lines lineTime pauseTime) := by
  unfold State.capAdd
  repeat' first
    | with_reducible assumption
    | (with_reducible refine State.onLoamHead_kept _ _ _ ?_)

theorem State.pauseLine_kept (s : State) (h : Fin 4) (r : Run) (period : Rat)
    (hk : Kept kp kf kn km kq s) : Kept kp kf kn km kq (State.pauseLine s h r period) := by
  unfold State.pauseLine
  extract_lets e s1 s2
  try clear_value e
  have hk_s1 : Kept kp kf kn km kq s1 := by
    dsimp only [s1]
    repeat' first
      | with_reducible assumption
      | (with_reducible refine State.onEnergy_kept _ _ _ ?_)
      | (with_reducible refine State.capAdd_kept _ _ _ _ _ ?_)
  try clear_value s1
  have hk_s2 : Kept kp kf kn km kq s2 := by
    dsimp only [s2]
    repeat' first
      | with_reducible assumption
      | (with_reducible refine State.onRun_kept _ _ _ ?_)
      | (with_reducible refine State.onAxis_kept _ _ _ ?_)
  try clear_value s2
  repeat' first
    | with_reducible assumption
    | (with_reducible refine Kept.ite ?_ ?_)
    | (with_reducible refine State.raiseVi_kept _ _ _ _ _ ?_)
    | (with_reducible refine State.raise0_kept _ _ _ _ ?_)

theorem State.senseLine_kept (s : State) (h : Fin 4) (sensed : Bool) (v : BitVec 12) (i : BitVec 12) (ns : Nat)
    (hk : Kept kp kf kn km kq s) : Kept kp kf kn km kq (State.senseLine s h sensed v i ns) := by
  unfold State.senseLine
  repeat' first
    | with_reducible assumption
    | (with_reducible refine Kept.ite ?_ ?_)
    | (with_reducible refine State.onHead_kept _ _ _ ?_)
    | (with_reducible refine State.onEnergy_kept _ _ _ ?_)
    | (with_reducible refine State.onAnalog_kept _ _ ?_)
    | (with_reducible refine State.senseAborts_kept _ ?_)

theorem State.burnLine_kept (s : State) (h : Fin 4) (r : Run) (p : LinePlan) (period : Rat) (sensed : Bool) (v : BitVec 12) (i : BitVec 12)
    (hk : Kept kp kf kn km kq s) : Kept kp kf kn km kq (State.burnLine s h r p period sensed v i) := by
  unfold State.burnLine
  extract_lets tsp p1 ns cuts crossed s1 p2 strobes ds s2 s3 s4 s5
  try clear_value tsp
  try clear_value p1
  try clear_value ns
  try clear_value cuts
  try clear_value crossed
  have hk_s1 : Kept kp kf kn km kq s1 := by
    dsimp only [s1]
    repeat' first
      | with_reducible assumption
      | with_reducible intro _
      | (with_reducible refine Kept.ite ?_ ?_)
      | (with_reducible refine State.draw_kept _ ?_)
      | (with_reducible refine State.senseLine_kept _ _ _ _ _ _ ?_)
  try clear_value s1
  try clear_value p2
  try clear_value strobes
  try clear_value ds
  have hk_s2 : Kept kp kf kn km kq s2 := by
    dsimp only [s2]
    repeat' first
      | with_reducible assumption
      | with_reducible intro _
      | (with_reducible refine Kept.ite ?_ ?_)
      | (with_reducible refine State.draw_kept _ ?_)
      | (with_reducible refine State.senseLine_kept _ _ _ _ _ _ ?_)
      | (with_reducible refine State.onEnergy_kept _ _ _ ?_)
  try clear_value s2
  have hk_s3 : Kept kp kf kn km kq s3 := by
    dsimp only [s3]
    repeat' first
      | with_reducible assumption
      | with_reducible intro _
      | (with_reducible refine Kept.ite ?_ ?_)
      | (with_reducible refine State.draw_kept _ ?_)
      | (with_reducible refine State.senseLine_kept _ _ _ _ _ _ ?_)
      | (with_reducible refine State.onEnergy_kept _ _ _ ?_)
      | (with_reducible refine State.onHead_kept _ _ _ ?_)
  try clear_value s3
  have hk_s4 : Kept kp kf kn km kq s4 := by
    dsimp only [s4]
    repeat' first
      | with_reducible assumption
      | with_reducible intro _
      | (with_reducible refine Kept.ite ?_ ?_)
      | (with_reducible refine State.draw_kept _ ?_)
      | (with_reducible refine State.senseLine_kept _ _ _ _ _ _ ?_)
      | (with_reducible refine State.onEnergy_kept _ _ _ ?_)
      | (with_reducible refine State.onHead_kept _ _ _ ?_)
      | (with_reducible refine State.onRun_kept _ _ _ ?_)
      | (with_reducible refine State.capAdd_kept _ _ _ _ _ ?_)
  try clear_value s4
  have hk_s5 : Kept kp kf kn km kq s5 := by
    dsimp only [s5]
    repeat' first
      | with_reducible assumption
      | with_reducible intro _
      | (with_reducible refine Kept.ite ?_ ?_)
      | (with_reducible refine State.draw_kept _ ?_)
      | (with_reducible refine State.senseLine_kept _ _ _ _ _ _ ?_)
      | (with_reducible refine State.onEnergy_kept _ _ _ ?_)
      | (with_reducible refine State.onHead_kept _ _ _ ?_)
      | (with_reducible refine State.onRun_kept _ _ _ ?_)
      | (with_reducible refine State.capAdd_kept _ _ _ _ _ ?_)
      | (with_reducible refine State.activate_kept _ _ ?_)
      | (with_reducible refine State.settleEnvelope_kept _ _ ?_)
      | (with_reducible refine State.onAxis_kept _ _ _ ?_)
  try clear_value s5
  repeat' first
    | with_reducible assumption
    | with_reducible intro _
    | (with_reducible refine Kept.ite ?_ ?_)
    | (with_reducible refine State.draw_kept _ ?_)
    | (with_reducible refine State.senseLine_kept _ _ _ _ _ _ ?_)
    | (with_reducible refine State.onEnergy_kept _ _ _ ?_)
    | (with_reducible refine State.onHead_kept _ _ _ ?_)
    | (with_reducible refine State.onRun_kept _ _ _ ?_)
    | (with_reducible refine State.capAdd_kept _ _ _ _ _ ?_)
    | (with_reducible refine State.activate_kept _ _ ?_)
    | (with_reducible refine State.settleEnvelope_kept _ _ ?_)
    | (with_reducible refine State.onAxis_kept _ _ _ ?_)
    | (with_reducible refine State.headOutAt_kept _ _ _ _ ?_)

theorem State.afterLines_kept (s : State) (h : Fin 4) (r : Run)
    (hk : Kept kp kf kn km kq s) : Kept kp kf kn km kq (State.afterLines s h r) := by
  unfold State.afterLines
  repeat' first
    | with_reducible assumption
    | (with_reducible refine Kept.ite ?_ ?_)
    | (with_reducible refine State.onMedia_kept _ _ _ ?_)
    | (with_reducible refine State.beginTail_kept _ _ ?_)
    | (with_reducible refine State.doneRun_kept _ _ ?_)
    | split

theorem State.grantLine_kept (s : State) (h : Fin 4) (r : Run) (sensed : Bool) (v : BitVec 12) (i : BitVec 12)
    (hk : Kept kp kf kn km kq s) : Kept kp kf kn km kq (State.grantLine s h r sensed v i) := by
  unfold State.grantLine
  extract_lets j period p s
  try clear_value j
  try clear_value period
  try clear_value p
  have hk_s : Kept kp kf kn km kq s := by
    dsimp only [s]
    repeat' first
      | with_reducible assumption
      | with_reducible intro _
      | (with_reducible refine Kept.ite ?_ ?_)
      | (with_reducible refine State.onEnergy_kept _ _ _ ?_)
  try clear_value s
  repeat' first
    | with_reducible assumption
    | with_reducible intro _
    | (with_reducible refine Kept.ite ?_ ?_)
    | (with_reducible refine State.onEnergy_kept _ _ _ ?_)
    | (with_reducible refine State.pauseLine_kept _ _ _ _ ?_)
    | (with_reducible refine State.burnLine_kept _ _ _ _ _ _ _ _ ?_)
    | (with_reducible refine State.afterLines_kept _ _ _ ?_)
    | (with_reducible refine State.refreshHead_kept _ _ ?_)
    | rfl
    | split

theorem State.startPrint_kept (s : State) (h : Fin 4) (r : Run)
    (hk : Kept kp kf kn km kq s) : Kept kp kf kn km kq (State.startPrint s h r) := by
  unfold State.startPrint
  extract_lets j a o s1 s2
  try clear_value j
  try clear_value a
  try clear_value o
  have hk_s1 : Kept kp kf kn km kq s1 := by
    dsimp only [s1]
    repeat' first
      | with_reducible assumption
      | (with_reducible refine State.onRun_kept _ _ _ ?_)
  try clear_value s1
  have hk_s2 : Kept kp kf kn km kq s2 := by
    dsimp only [s2]
    repeat' first
      | with_reducible assumption
      | (with_reducible refine State.onEnergy_kept _ _ _ ?_)
  try clear_value s2
  repeat' first
    | with_reducible assumption
    | (with_reducible refine State.startMove_kept _ _ _ ?_)

/-! ### Head -/

theorem State.enableHead_kept (s : State) (h : Fin 4)
    (hk : Kept kp kf kn km kq s) : Kept kp kf kn km kq (State.enableHead s h) := by
  unfold State.enableHead
  repeat' first
    | with_reducible assumption
    | (with_reducible refine Kept.ite ?_ ?_)
    | (with_reducible refine State.onHead_kept _ _ _ ?_)
    | (with_reducible refine State.setHead_kept _ _ _ _ ?_)
    | dsimp only [id]
    | split

theorem State.disableHead_kept (s : State) (h : Fin 4)
    (hk : Kept kp kf kn km kq s) : Kept kp kf kn km kq (State.disableHead s h) := by
  unfold State.disableHead
  repeat' first
    | with_reducible assumption
    | (with_reducible refine State.onHead_kept _ _ _ ?_)
    | (with_reducible refine State.setHead_kept _ _ _ _ ?_)
    | (with_reducible refine State.settleDisable_kept _ _ ?_)
    | split

theorem State.scanComplete_kept (s : State) (h : Fin 4)
    (hk : Kept kp kf kn km kq s) : Kept kp kf kn km kq (State.scanComplete s h) := by
  unfold State.scanComplete
  extract_lets s1 s2
  have hk_s1 : Kept kp kf kn km kq s1 := by
    dsimp only [s1]
    repeat' first
      | with_reducible assumption
      | (with_reducible refine State.onHead_kept _ _ _ ?_)
      | (with_reducible refine State.onEnergy_kept _ _ _ ?_)
  try clear_value s1
  have hk_s2 : Kept kp kf kn km kq s2 := by
    dsimp only [s2]
    repeat' first
      | with_reducible assumption
      | (with_reducible refine State.raise0_kept _ _ _ _ ?_)
  try clear_value s2
  repeat' first
    | with_reducible assumption
    | (with_reducible refine Kept.ite ?_ ?_)
    | (with_reducible refine State.setHead_kept _ _ _ _ ?_)
    | (with_reducible refine State.headOutOf_kept _ _ _ ?_)

theorem State.scanOn_kept (s : State) (h : Fin 4) (d : Nat)
    (hk : Kept kp kf kn km kq s) : Kept kp kf kn km kq (State.scanOn s h d) := by
  unfold State.scanOn
  repeat' first
    | with_reducible assumption
    | with_reducible intro _
    | (with_reducible refine Kept.ite ?_ ?_)
    | (with_reducible refine State.onHead_kept _ _ _ ?_)
    | (with_reducible refine State.scanComplete_kept _ _ ?_)
    | rfl
    | split

theorem State.handOver_kept (s : State) (h : Fin 4)
    (hk : Kept kp kf kn km kq s) : Kept kp kf kn km kq (State.handOver s h) := by
  unfold State.handOver
  repeat' first
    | with_reducible assumption
    | (with_reducible refine State.onHead_kept _ _ _ ?_)

theorem State.writeHeadCfg_kept (s : State) (h : Fin 4) (v : Par)
    (hk : Kept kp kf kn km kq s) : Kept kp kf kn km kq (State.writeHeadCfg s h v) := by
  unfold State.writeHeadCfg
  extract_lets s1
  have hk_s1 : Kept kp kf kn km kq s1 := by
    dsimp only [s1]
    repeat' first
      | with_reducible assumption
      | (with_reducible refine State.setPar_kept _ _ _ _ ?_)
  try clear_value s1
  repeat' first
    | with_reducible assumption
    | (with_reducible refine Kept.ite ?_ ?_)
    | (with_reducible refine State.onEnergy_kept _ _ _ ?_)
    | (with_reducible refine State.setHead_kept _ _ _ _ ?_)
    | split

theorem State.writeHeadCtrl_kept (s : State) (h : Fin 4) (v : Par)
    (hk : Kept kp kf kn km kq s) : Kept kp kf kn km kq (State.writeHeadCtrl s h v) := by
  unfold State.writeHeadCtrl
  extract_lets s1 s2
  have hk_s1 : Kept kp kf kn km kq s1 := by
    dsimp only [s1]
    repeat' first
      | with_reducible assumption
      | (with_reducible refine Kept.ite ?_ ?_)
      | (with_reducible refine State.enableHead_kept _ _ ?_)
      | (with_reducible refine State.disableHead_kept _ _ ?_)
  try clear_value s1
  have hk_s2 : Kept kp kf kn km kq s2 := by
    dsimp only [s2]
    repeat' first
      | with_reducible assumption
      | (with_reducible refine Kept.ite ?_ ?_)
      | (with_reducible refine State.onHead_kept _ _ _ ?_)
  try clear_value s2
  repeat' first
    | with_reducible assumption
    | (with_reducible refine Kept.ite ?_ ?_)
    | (with_reducible refine State.onHead_kept _ _ _ ?_)

theorem State.writeTenantBound_kept (s : State) (w : Fin 11) (h : Fin 4) (upper : Bool) (v : Fin 8) (x : Par)
    (hk : Kept kp kf kn km kq s) : Kept kp kf kn km kq (State.writeTenantBound s w h upper v x).1 := by
  unfold State.writeTenantBound
  repeat' first
    | with_reducible assumption
    | (with_reducible refine State.setPar_kept _ _ _ _ ?_)
    | (with_reducible refine State.raiseWin_kept _ _ _ _ _ ?_)
    | dsimp only [id]
    | split

theorem State.headItemWrite_kept (s : State) (w : Fin 11) (h : Fin 4) (off : Nat) (v : Par) (vi : Option (Fin 8))
    (hk : Kept kp kf kn km kq s) : Kept kp kf kn km kq (State.headItemWrite s w h off v vi).1 := by
  unfold State.headItemWrite
  extract_lets idx
  try clear_value idx
  repeat' first
    | with_reducible assumption
    | with_reducible intro _
    | (with_reducible refine State.writeHeadCfg_kept _ _ _ ?_)
    | (with_reducible refine State.settleEnvelope_kept _ _ ?_)
    | (with_reducible refine State.setPar_kept _ _ _ _ ?_)
    | (with_reducible refine State.raiseClamp_kept _ _ _ _ _ ?_)
    | (with_reducible refine State.writeHeadCtrl_kept _ _ _ ?_)
    | (with_reducible refine State.onHead_kept _ _ _ ?_)
    | (with_reducible refine State.writeTenantBound_kept _ _ _ _ _ _ ?_)
    | rfl
    | split

/-! ### Motion -/

theorem State.hardStopTo_kept (s : State) (a : Fin 4) (cause : BitVec 3) (st : AxisState)
    (hk : Kept kp kf kn km kq s) : Kept kp kf kn km kq (State.hardStopTo s a cause st) := by
  unfold State.hardStopTo
  extract_lets m s1 s2
  try clear_value m
  have hk_s1 : Kept kp kf kn km kq s1 := by
    dsimp only [s1]
    repeat' first
      | with_reducible assumption
      | (with_reducible refine State.setAxis_kept _ _ _ ?_)
      | (with_reducible refine State.hardStop_kept _ _ _ ?_)
  try clear_value s1
  have hk_s2 : Kept kp kf kn km kq s2 := by
    dsimp only [s2]
    repeat' first
      | with_reducible assumption
      | (with_reducible refine State.failOwner_kept _ _ ?_)
      | split
  try clear_value s2
  repeat' first
    | with_reducible assumption
    | (with_reducible refine State.failAxisJobs_kept _ _ ?_)

theorem State.setCutter_kept (s : State) (st : CutState)
    (hk : Kept kp kf kn km kq s) : Kept kp kf kn km kq (State.setCutter s st) := by
  unfold State.setCutter
  repeat' first
    | with_reducible assumption
    | with_reducible intro _
    | (with_reducible refine Kept.ite ?_ ?_)
    | (with_reducible refine State.onAxis_kept _ _ _ ?_)
    | (with_reducible refine State.onCutter_kept _ _ ?_)

theorem State.cutterReturn_kept (s : State)
    (hk : Kept kp kf kn km kq s) : Kept kp kf kn km kq (State.cutterReturn s) := by
  unfold State.cutterReturn
  repeat' first
    | with_reducible assumption
    | (with_reducible refine State.setCutter_kept _ _ ?_)

theorem State.cutterEvent_kept (s : State) (since : Nat)
    (hk : Kept kp kf kn km kq s) : Kept kp kf kn km kq (State.cutterEvent s since) := by
  unfold State.cutterEvent
  extract_lets aux t s1
  try clear_value aux
  try clear_value t
  have hk_s1 : Kept kp kf kn km kq s1 := by
    dsimp only [s1]
    repeat' first
      | with_reducible assumption
      | (with_reducible refine State.raise0_kept _ _ _ _ ?_)
  try clear_value s1
  repeat' first
    | with_reducible assumption
    | (with_reducible refine Kept.ite ?_ ?_)
    | (with_reducible refine State.raiseVi_kept _ _ _ _ _ ?_)
    | split

theorem State.cutterDropJob_kept (s : State)
    (hk : Kept kp kf kn km kq s) : Kept kp kf kn km kq (State.cutterDropJob s) := by
  unfold State.cutterDropJob
  extract_lets s1
  have hk_s1 : Kept kp kf kn km kq s1 := by
    dsimp only [s1]
    repeat' first
      | with_reducible assumption
      | (with_reducible refine Kept.ite ?_ ?_)
      | (with_reducible refine State.stopJob_kept _ _ _ _ ?_)
      | split
  try clear_value s1
  repeat' first
    | with_reducible assumption
    | (with_reducible refine State.onCutter_kept _ _ ?_)

theorem State.cutterJam_kept (s : State)
    (hk : Kept kp kf kn km kq s) : Kept kp kf kn km kq (State.cutterJam s) := by
  unfold State.cutterJam
  repeat' first
    | with_reducible assumption
    | (with_reducible refine State.setCutter_kept _ _ ?_)
    | (with_reducible refine State.cutterEvent_kept _ _ ?_)
    | (with_reducible refine State.cutterDropJob_kept _ ?_)

theorem State.enableAxis_kept (s : State) (a : Fin 4)
    (hk : Kept kp kf kn km kq s) : Kept kp kf kn km kq (State.enableAxis s a) := by
  unfold State.enableAxis
  extract_lets isOff
  try clear_value isOff
  repeat' first
    | with_reducible assumption
    | with_reducible intro _
    | (with_reducible refine Kept.ite ?_ ?_)
    | (with_reducible refine State.onAxis_kept _ _ _ ?_)
    | (with_reducible refine State.axisEvent_kept _ _ ?_)
    | (with_reducible refine State.setCutter_kept _ _ ?_)
    | (with_reducible refine State.setAxis_kept _ _ _ ?_)
    | (with_reducible refine State.loadDacs_kept _ _ ?_)
    | rfl
    | split

theorem State.axisOff_kept (s : State) (a : Fin 4) (cause : BitVec 3)
    (hk : Kept kp kf kn km kq s) : Kept kp kf kn km kq (State.axisOff s a cause) := by
  unfold State.axisOff
  repeat' first
    | with_reducible assumption
    | (with_reducible refine Kept.ite ?_ ?_)
    | (with_reducible refine State.onAxis_kept _ _ _ ?_)
    | (with_reducible refine State.setAxis_kept _ _ _ ?_)
    | (with_reducible refine State.hardStopTo_kept _ _ _ _ ?_)
    | (with_reducible refine State.setCutter_kept _ _ ?_)
    | (with_reducible refine State.cutterDropJob_kept _ ?_)

theorem State.haltAxis_kept (s : State) (a : Fin 4)
    (hk : Kept kp kf kn km kq s) : Kept kp kf kn km kq (State.haltAxis s a) := by
  unfold State.haltAxis
  repeat' first
    | with_reducible assumption
    | (with_reducible refine Kept.ite ?_ ?_)
    | (with_reducible refine State.hardStopTo_kept _ _ _ _ ?_)
    | split

theorem State.clearAxis_kept (s : State) (a : Fin 4)
    (hk : Kept kp kf kn km kq s) : Kept kp kf kn km kq (State.clearAxis s a) := by
  unfold State.clearAxis
  repeat' first
    | with_reducible assumption
    | with_reducible intro _
    | (with_reducible refine Kept.ite ?_ ?_)
    | (with_reducible refine State.axisEvent_kept _ _ ?_)
    | (with_reducible refine State.setCutter_kept _ _ ?_)
    | (with_reducible refine State.setAxis_kept _ _ _ ?_)
    | (with_reducible refine State.loadDacs_kept _ _ ?_)

theorem State.revReference_kept (s : State) (a : Fin 4)
    (hk : Kept kp kf kn km kq s) : Kept kp kf kn km kq (State.revReference s a) := by
  unfold State.revReference
  repeat' first
    | with_reducible assumption
    | (with_reducible refine State.onAxis_kept _ _ _ ?_)

theorem State.resumeRun_kept (s : State) (h : Fin 4)
    (hk : Kept kp kf kn km kq s) : Kept kp kf kn km kq (State.resumeRun s h) := by
  unfold State.resumeRun
  repeat' first
    | with_reducible assumption
    | with_reducible intro _
    | (with_reducible refine Kept.ite ?_ ?_)
    | (with_reducible refine Kept.getD ?_ ?_)
    | (with_reducible refine State.onRun_kept _ _ _ ?_)
    | (with_reducible refine State.endLate_kept _ _ _ _ ?_)
    | (with_reducible refine State.endExternal_kept _ _ _ _ ?_)
    | (with_reducible refine State.afterLines_kept _ _ _ ?_)
    | (with_reducible refine State.refreshHead_kept _ _ ?_)
    | rfl
    | split

theorem State.rampEnded_kept (s : State) (a : Fin 4)
    (hk : Kept kp kf kn km kq s) : Kept kp kf kn km kq (State.rampEnded s a) := by
  unfold State.rampEnded
  extract_lets x s1
  try clear_value x
  have hk_s1 : Kept kp kf kn km kq s1 := by
    dsimp only [s1]
    repeat' first
      | with_reducible assumption
      | with_reducible intro _
      | (with_reducible refine Kept.ite ?_ ?_)
      | (with_reducible refine State.setAxis_kept _ _ _ ?_)
      | (with_reducible refine State.onAxis_kept _ _ _ ?_)
  try clear_value s1
  repeat' first
    | with_reducible assumption
    | with_reducible intro _
    | (with_reducible refine Kept.ite ?_ ?_)
    | (with_reducible refine State.setAxis_kept _ _ _ ?_)
    | (with_reducible refine State.onAxis_kept _ _ _ ?_)
    | (with_reducible refine State.startMove_kept _ _ _ ?_)
    | (with_reducible refine State.resumeRun_kept _ _ ?_)
    | rfl
    | split

theorem State.updateAxis_kept (s : State) (a : Fin 4)
    (hk : Kept kp kf kn km kq s) : Kept kp kf kn km kq (State.updateAxis s a) := by
  unfold State.updateAxis
  repeat' first
    | with_reducible assumption
    | (with_reducible refine Kept.ite ?_ ?_)
    | (with_reducible refine State.onAxis_kept _ _ _ ?_)
    | (with_reducible refine State.finishMove_kept _ _ ?_)
    | (with_reducible refine State.rampEnded_kept _ _ ?_)
    | dsimp only [id]
    | split

theorem State.activateMover_kept (s : State) (o : MoveOwner)
    (hk : Kept kp kf kn km kq s) : Kept kp kf kn km kq (State.activateMover s o) := by
  unfold State.activateMover
  repeat' first
    | with_reducible assumption
    | (with_reducible refine Kept.ite ?_ ?_)
    | (with_reducible refine State.activate_kept _ _ ?_)
    | split

theorem State.startsHere_kept (s : State) (a : Fin 4) (o : MoveOwner)
    (hk : Kept kp kf kn km kq s) : Kept kp kf kn km kq (State.startsHere s a o) := by
  unfold State.startsHere
  repeat' first
    | with_reducible assumption
    | with_reducible intro _
    | (with_reducible refine Kept.ite ?_ ?_)
    | (with_reducible refine State.onRun_kept _ _ _ ?_)
    | rfl
    | split

theorem State.startQueued_kept (s : State) (a : Fin 4) (m : Move)
    (hk : Kept kp kf kn km kq s) : Kept kp kf kn km kq (State.startQueued s a m) := by
  unfold State.startQueued
  extract_lets passed
  try clear_value passed
  repeat' first
    | with_reducible assumption
    | with_reducible intro _
    | (with_reducible refine Kept.ite ?_ ?_)
    | (with_reducible refine State.beginTof_kept _ _ ?_)
    | (with_reducible refine State.setAxis_kept _ _ _ ?_)
    | (with_reducible refine State.startMove_kept _ _ _ ?_)
    | (with_reducible refine State.startsHere_kept _ _ _ ?_)
    | rfl
    | split

theorem State.serviceMove_kept (s : State) (a : Fin 4) (v : Par)
    (hk : Kept kp kf kn km kq s) : Kept kp kf kn km kq (State.serviceMove s a v).1 := by
  unfold State.serviceMove
  repeat' first
    | with_reducible assumption
    | (with_reducible refine State.onAxis_kept _ _ _ ?_)
    | (with_reducible refine State.requestMove_kept _ _ _ ?_)
    | dsimp only [id]
    | split

theorem State.writeAxisCtrl_kept (s : State) (a : Fin 4) (v : Par)
    (hk : Kept kp kf kn km kq s) : Kept kp kf kn km kq (State.writeAxisCtrl s a v) := by
  unfold State.writeAxisCtrl
  extract_lets s1 s2 s3 s4
  have hk_s1 : Kept kp kf kn km kq s1 := by
    dsimp only [s1]
    repeat' first
      | with_reducible assumption
      | (with_reducible refine Kept.ite ?_ ?_)
      | (with_reducible refine State.enableAxis_kept _ _ ?_)
      | (with_reducible refine State.axisOff_kept _ _ _ ?_)
  try clear_value s1
  have hk_s2 : Kept kp kf kn km kq s2 := by
    dsimp only [s2]
    repeat' first
      | with_reducible assumption
      | (with_reducible refine Kept.ite ?_ ?_)
      | (with_reducible refine State.haltAxis_kept _ _ ?_)
  try clear_value s2
  have hk_s3 : Kept kp kf kn km kq s3 := by
    dsimp only [s3]
    repeat' first
      | with_reducible assumption
      | (with_reducible refine Kept.ite ?_ ?_)
      | (with_reducible refine State.clearAxis_kept _ _ ?_)
  try clear_value s3
  have hk_s4 : Kept kp kf kn km kq s4 := by
    dsimp only [s4]
    repeat' first
      | with_reducible assumption
      | (with_reducible refine Kept.ite ?_ ?_)
      | (with_reducible refine State.onAxis_kept _ _ _ ?_)
  try clear_value s4
  repeat' first
    | with_reducible assumption
    | (with_reducible refine Kept.ite ?_ ?_)
    | (with_reducible refine State.revReference_kept _ _ ?_)

theorem State.axisItemWrite_kept (s : State) (a : Fin 4) (off : Nat) (v : Par)
    (hk : Kept kp kf kn km kq s) : Kept kp kf kn km kq (State.axisItemWrite s a off v).1 := by
  unfold State.axisItemWrite
  extract_lets idx
  try clear_value idx
  repeat' first
    | with_reducible assumption
    | with_reducible intro _
    | (with_reducible refine State.writeAxisCtrl_kept _ _ _ ?_)
    | (with_reducible refine State.serviceMove_kept _ _ _ ?_)
    | (with_reducible refine State.setPar_kept _ _ _ _ ?_)
    | (with_reducible refine State.loadDacs_kept _ _ ?_)
    | rfl
    | split

/-! ### Media -/

theorem State.mediaEvent_kept (s : State) (h : Fin 4) (code : Byte) (aux : Nat) (payload : Int)
    (hk : Kept kp kf kn km kq s) : Kept kp kf kn km kq (State.mediaEvent s h code aux payload) := by
  unfold State.mediaEvent
  repeat' first
    | with_reducible assumption
    | (with_reducible refine State.raiseBoth_kept _ _ _ _ _ ?_)

theorem State.mediaState_kept (s : State) (h : Fin 4)
    (hk : Kept kp kf kn km kq s) : Kept kp kf kn km kq (State.mediaState s h) := by
  unfold State.mediaState
  repeat' first
    | with_reducible assumption
    | (with_reducible refine State.raiseBoth_kept _ _ _ _ _ ?_)

theorem State.mediaForget_kept (s : State) (h : Fin 4)
    (hk : Kept kp kf kn km kq s) : Kept kp kf kn km kq (State.mediaForget s h) := by
  unfold State.mediaForget
  repeat' first
    | with_reducible assumption
    | (with_reducible refine State.onMedia_kept _ _ _ ?_)

theorem State.retarget_kept (s : State) (a : Fin 4) (t : Int)
    (hk : Kept kp kf kn km kq s) : Kept kp kf kn km kq (State.retarget s a t) := by
  unfold State.retarget
  repeat' first
    | with_reducible assumption
    | (with_reducible refine State.onAxis_kept _ _ _ ?_)

theorem State.putThreshold_kept (s : State) (h : Fin 4) (mark : Bool) (x : Int) (slew : Bool)
    (hk : Kept kp kf kn km kq s) : Kept kp kf kn km kq (State.putThreshold s h mark x slew) := by
  unfold State.putThreshold
  repeat' first
    | with_reducible assumption
    | (with_reducible refine State.onMedia_kept _ _ _ ?_)

theorem State.thresholdUpdate_kept (s : State) (h : Fin 4) (lab : Rat) (gap : Rat)
    (hk : Kept kp kf kn km kq s) : Kept kp kf kn km kq (State.thresholdUpdate s h lab gap) := by
  unfold State.thresholdUpdate
  extract_lets mark m lo hi cur slewing s1 diff
  try clear_value mark
  try clear_value m
  try clear_value lo
  try clear_value hi
  try clear_value cur
  try clear_value slewing
  have hk_s1 : Kept kp kf kn km kq s1 := by
    dsimp only [s1]
    repeat' first
      | with_reducible assumption
      | with_reducible intro _
      | (with_reducible refine Kept.ite ?_ ?_)
      | (with_reducible refine State.onMedia_kept _ _ _ ?_)
  try clear_value s1
  try clear_value diff
  repeat' first
    | with_reducible assumption
    | with_reducible intro _
    | (with_reducible refine Kept.ite ?_ ?_)
    | (with_reducible refine State.onMedia_kept _ _ _ ?_)
    | (with_reducible refine State.loopHeldFrozen_kept _ _ _ _ _ _ _ ?_)
    | (with_reducible refine State.putThreshold_kept _ _ _ _ _ ?_)
    | (with_reducible refine State.raise0_kept _ _ _ _ ?_)
    | (with_reducible refine State.loopUpdated_kept _ _ _ _ _ _ _ ?_)

theorem State.learnPitch_kept (s : State) (h : Fin 4)
    (hk : Kept kp kf kn km kq s) : Kept kp kf kn km kq (State.learnPitch s h) := by
  unfold State.learnPitch
  repeat' first
    | with_reducible assumption
    | (with_reducible refine Kept.ite ?_ ?_)
    | (with_reducible refine State.onMedia_kept _ _ _ ?_)
    | (with_reducible refine State.mediaEvent_kept _ _ _ _ _ ?_)

theorem State.learnStop_kept (s : State) (h : Fin 4)
    (hk : Kept kp kf kn km kq s) : Kept kp kf kn km kq (State.learnStop s h) := by
  unfold State.learnStop
  repeat' first
    | with_reducible assumption
    | (with_reducible refine Kept.ite ?_ ?_)
    | (with_reducible refine State.onMedia_kept _ _ _ ?_)
    | (with_reducible refine State.retarget_kept _ _ _ ?_)
    | dsimp only [id]
    | split

theorem State.leadingEdge_kept (s : State) (h : Fin 4) (p : Int)
    (hk : Kept kp kf kn km kq s) : Kept kp kf kn km kq (State.leadingEdge s h p) := by
  unfold State.leadingEdge
  extract_lets a c s1 s2
  try clear_value a
  try clear_value c
  have hk_s1 : Kept kp kf kn km kq s1 := by
    dsimp only [s1]
    repeat' first
      | with_reducible assumption
      | (with_reducible refine State.onMedia_kept _ _ _ ?_)
  try clear_value s1
  have hk_s2 : Kept kp kf kn km kq s2 := by
    dsimp only [s2]
    repeat' first
      | with_reducible assumption
      | (with_reducible refine Kept.ite ?_ ?_)
      | (with_reducible refine State.onMedia_kept _ _ _ ?_)
  try clear_value s2
  repeat' first
    | with_reducible assumption
    | (with_reducible refine State.onRun_kept _ _ _ ?_)
    | (with_reducible refine State.onMedia_kept _ _ _ ?_)
    | (with_reducible refine State.retarget_kept _ _ _ ?_)
    | split

theorem State.trailingEdge_kept (s : State) (h : Fin 4) (p : Int) (lab : Option Rat) (gap : Option Rat)
    (hk : Kept kp kf kn km kq s) : Kept kp kf kn km kq (State.trailingEdge s h p lab gap) := by
  unfold State.trailingEdge
  extract_lets a m s1 s2 s3 s4
  try clear_value a
  try clear_value m
  have hk_s1 : Kept kp kf kn km kq s1 := by
    dsimp only [s1]
    repeat' first
      | with_reducible assumption
      | (with_reducible refine State.onMedia_kept _ _ _ ?_)
  try clear_value s1
  have hk_s2 : Kept kp kf kn km kq s2 := by
    dsimp only [s2]
    repeat' first
      | with_reducible assumption
      | (with_reducible refine State.thresholdUpdate_kept _ _ _ _ ?_)
      | split
  try clear_value s2
  have hk_s3 : Kept kp kf kn km kq s3 := by
    dsimp only [s3]
    repeat' first
      | with_reducible assumption
      | (with_reducible refine State.learnPitch_kept _ _ ?_)
  try clear_value s3
  have hk_s4 : Kept kp kf kn km kq s4 := by
    dsimp only [s4]
    repeat' first
      | with_reducible assumption
      | (with_reducible refine State.learnStop_kept _ _ ?_)
  try clear_value s4
  repeat' first
    | with_reducible assumption
    | (with_reducible refine State.onAxis_kept _ _ _ ?_)
    | (with_reducible refine State.onMedia_kept _ _ _ ?_)
    | (with_reducible refine State.retarget_kept _ _ _ ?_)
    | split

theorem State.sideSample_kept (s : State) (h : Fin 4) (side : Bool) (code : Nat)
    (hk : Kept kp kf kn km kq s) : Kept kp kf kn km kq (State.sideSample s h side code) := by
  unfold State.sideSample
  repeat' first
    | with_reducible assumption
    | (with_reducible refine Kept.ite ?_ ?_)
    | (with_reducible refine State.onMedia_kept _ _ _ ?_)
    | (with_reducible refine State.leadingEdge_kept _ _ _ ?_)
    | (with_reducible refine State.trailingEdge_kept _ _ _ _ _ ?_)
    | dsimp only [id]
    | split

theorem State.paperEnds_kept (s : State) (h : Fin 4)
    (hk : Kept kp kf kn km kq s) : Kept kp kf kn km kq (State.paperEnds s h) := by
  unfold State.paperEnds
  repeat' first
    | with_reducible assumption
    | (with_reducible refine State.onMedia_kept _ _ _ ?_)
    | (with_reducible refine State.stopJob_kept _ _ _ _ ?_)
    | (with_reducible refine State.mediaState_kept _ _ ?_)

theorem State.startLearn_kept (s : State) (h : Fin 4)
    (hk : Kept kp kf kn km kq s) : Kept kp kf kn km kq (State.startLearn s h) := by
  unfold State.startLearn
  extract_lets a s1
  try clear_value a
  have hk_s1 : Kept kp kf kn km kq s1 := by
    dsimp only [s1]
    repeat' first
      | with_reducible assumption
      | (with_reducible refine State.onMedia_kept _ _ _ ?_)
  try clear_value s1
  repeat' first
    | with_reducible assumption
    | (with_reducible refine State.onMedia_kept _ _ _ ?_)
    | (with_reducible refine State.feedTo_kept _ _ _ _ _ ?_)
    | split

theorem State.writeMediaCtrl_kept (s : State) (h : Fin 4) (v : Par)
    (hk : Kept kp kf kn km kq s) : Kept kp kf kn km kq (State.writeMediaCtrl s h v) := by
  unfold State.writeMediaCtrl
  extract_lets s1
  have hk_s1 : Kept kp kf kn km kq s1 := by
    dsimp only [s1]
    repeat' first
      | with_reducible assumption
      | (with_reducible refine Kept.ite ?_ ?_)
      | (with_reducible refine State.startLearn_kept _ _ ?_)
  try clear_value s1
  repeat' first
    | with_reducible assumption
    | (with_reducible refine Kept.ite ?_ ?_)
    | (with_reducible refine State.onMedia_kept _ _ _ ?_)

theorem State.freeIdleLoops_kept (s : State) (h : Fin 4)
    (hk : Kept kp kf kn km kq s) : Kept kp kf kn km kq (State.freeIdleLoops s h) := by
  unfold State.freeIdleLoops
  extract_lets s1
  have hk_s1 : Kept kp kf kn km kq s1 := by
    dsimp only [s1]
    repeat' first
      | with_reducible assumption
      | with_reducible intro _
      | (with_reducible refine Kept.ite ?_ ?_)
      | (with_reducible refine State.loopFree_kept _ _ ?_)
  try clear_value s1
  repeat' first
    | with_reducible assumption
    | with_reducible intro _
    | (with_reducible refine Kept.ite ?_ ?_)
    | (with_reducible refine State.loopFree_kept _ _ ?_)

theorem State.mediaItemWrite_kept (s : State) (h : Fin 4) (off : Nat) (v : Par)
    (hk : Kept kp kf kn km kq s) : Kept kp kf kn km kq (State.mediaItemWrite s h off v).1 := by
  unfold State.mediaItemWrite
  extract_lets idx
  try clear_value idx
  repeat' first
    | with_reducible assumption
    | with_reducible intro _
    | (with_reducible refine State.freeIdleLoops_kept _ _ ?_)
    | (with_reducible refine State.mediaForget_kept _ _ ?_)
    | (with_reducible refine State.setPar_kept _ _ _ _ ?_)
    | (with_reducible refine State.writeMediaCtrl_kept _ _ _ ?_)
    | rfl
    | split

/-! ### Lamp -/

theorem State.lampOff_kept (s : State) (c : Fin 8)
    (hk : Kept kp kf kn km kq s) : Kept kp kf kn km kq (State.lampOff s c) := by
  unfold State.lampOff
  repeat' first
    | with_reducible assumption
    | (with_reducible refine State.onLamp_kept _ _ _ ?_)

theorem State.lampEvent_kept (s : State) (c : Fin 8) (code : Byte) (aux : Byte) (payload : Word)
    (hk : Kept kp kf kn km kq s) : Kept kp kf kn km kq (State.lampEvent s c code aux payload) := by
  unfold State.lampEvent
  repeat' first
    | with_reducible assumption
    | (with_reducible refine State.raiseBoth_kept _ _ _ _ _ ?_)

theorem State.lampTrip_kept (s : State) (c : Fin 8) (heavy : Bool)
    (hk : Kept kp kf kn km kq s) : Kept kp kf kn km kq (State.lampTrip s c heavy) := by
  unfold State.lampTrip
  extract_lets s1
  have hk_s1 : Kept kp kf kn km kq s1 := by
    dsimp only [s1]
    repeat' first
      | with_reducible assumption
      | (with_reducible refine State.onLamp_kept _ _ _ ?_)
  try clear_value s1
  repeat' first
    | with_reducible assumption
    | (with_reducible refine State.lampEvent_kept _ _ _ _ _ ?_)

theorem State.lampOp_kept (s : State) (op : Nat) (duty : Nat) (c : Fin 8)
    (hk : Kept kp kf kn km kq s) : Kept kp kf kn km kq (State.lampOp s op duty c) := by
  unfold State.lampOp
  repeat' first
    | with_reducible assumption
    | (with_reducible refine Kept.ite ?_ ?_)
    | (with_reducible refine State.onLamp_kept _ _ _ ?_)
    | (with_reducible refine State.requestOn_kept _ _ _ ?_)
    | (with_reducible refine State.lampOff_kept _ _ ?_)
    | split

theorem State.writeLampCmd_kept (s : State) (v : Fin 8) (x : Par)
    (hk : Kept kp kf kn km kq s) : Kept kp kf kn km kq (State.writeLampCmd s v x).1 := by
  unfold State.writeLampCmd
  repeat' first
    | with_reducible assumption
    | with_reducible intro _
    | (with_reducible refine Kept.ite ?_ ?_)
    | (with_reducible refine foldl_kept ?_ ?_)
    | (with_reducible refine State.onVi_kept _ _ _ ?_)
    | (with_reducible refine State.lampOp_kept _ _ _ _ ?_)
    | split

theorem State.lampItemWrite_kept (s : State) (w : Fin 11) (c : Fin 8) (off : Nat) (v : Par)
    (hk : Kept kp kf kn km kq s) : Kept kp kf kn km kq (State.lampItemWrite s w c off v).1 := by
  unfold State.lampItemWrite
  repeat' first
    | with_reducible assumption
    | (with_reducible refine State.setPar_kept _ _ _ _ ?_)
    | (with_reducible refine State.raiseClamp_kept _ _ _ _ _ ?_)
    | dsimp only [id]
    | split

end Sys2Proof.Machine
end

