-- ==== Sys2Proof/Laws/KeptRaster.lean ====
section
/-! SUPPORT. One lemma for each operation on a state, of jobs, the link, migration, Marl and Silt:
it keeps what no command undoes (`Kept` of Safety): fuses, rollback, audit, the waiting queue, bounds and
canonical forms. -/

namespace Sys2Proof.Machine

variable {kp : Part} {kf : Fuses} {kn km : Nat} {kq : List Instr}

/-! ### Loam -/

theorem State.drive_kept (s : State) (x : Word)
    (hk : Kept kp kf kn km kq s) : Kept kp kf kn km kq (State.drive s x) := by
  unfold State.drive
  repeat' first
    | with_reducible assumption
    | with_reducible rfl
    | (with_reducible refine State.onBus_kept _ _ ?_ ?_)

theorem State.endHeld_kept (s : State) (v : Fin 8)
    (hk : Kept kp kf kn km kq s) : Kept kp kf kn km kq (State.endHeld s v) := by
  unfold State.endHeld
  extract_lets s1
  have hk_s1 : Kept kp kf kn km kq s1 := by
    dsimp only [s1]
    repeat' first
      | with_reducible assumption
      | with_reducible intro _
      | (with_reducible refine Kept.ite ?_ ?_)
      | (with_reducible refine State.drive_kept _ _ ?_)
  try clear_value s1
  repeat' first
    | with_reducible assumption
    | with_reducible intro _
    | (with_reducible refine Kept.ite ?_ ?_)
    | (with_reducible refine State.drive_kept _ _ ?_)
    | (with_reducible refine State.onData_kept _ _ _ ?_)

theorem State.refreshEligible_kept (s : State)
    (hk : Kept kp kf kn km kq s) : Kept kp kf kn km kq (State.refreshEligible s) := by
  unfold State.refreshEligible
  extract_lets s0
  have hk_s0 : Kept kp kf kn km kq s0 := by
    dsimp only [s0]
    repeat' first
      | with_reducible assumption
      | (with_reducible refine State.accrue_kept _ ?_)
  try clear_value s0
  repeat' first
    | with_reducible assumption
    | with_reducible intro _
    | (with_reducible refine foldl_kept ?_ ?_)
    | (with_reducible refine State.onJob_kept _ _ _ ?_)
    | dsimp only [id]
    | split

theorem State.joinBacklog_kept (s : State) (v : Fin 8) (h : Fin 4)
    (hk : Kept kp kf kn km kq s) : Kept kp kf kn km kq (State.joinBacklog s v h) := by
  unfold State.joinBacklog
  repeat' first
    | with_reducible assumption
    | (with_reducible refine Kept.ite ?_ ?_)
    | (with_reducible refine State.onVi_kept _ _ _ ?_)
    | dsimp only [id]
    | split

theorem State.acceptJob_kept (s : State) (v : Fin 8) (i : Handle)
    (hk : Kept kp kf kn km kq s) : Kept kp kf kn km kq (State.acceptJob s v i) := by
  unfold State.acceptJob
  extract_lets j s0 s1 s2
  try clear_value j
  have hk_s0 : Kept kp kf kn km kq s0 := by
    dsimp only [s0]
    repeat' first
      | with_reducible assumption
      | with_reducible intro _
      | (with_reducible refine Kept.ite ?_ ?_)
      | (with_reducible refine State.joinBacklog_kept _ _ _ ?_)
  try clear_value s0
  have hk_s1 : Kept kp kf kn km kq s1 := by
    dsimp only [s1]
    repeat' first
      | with_reducible assumption
      | with_reducible intro _
      | (with_reducible refine Kept.ite ?_ ?_)
      | (with_reducible refine State.joinBacklog_kept _ _ _ ?_)
      | (with_reducible refine State.onLoam_kept _ _ ?_)
      | (with_reducible refine State.onJob_kept _ _ _ ?_)
  try clear_value s1
  have hk_s2 : Kept kp kf kn km kq s2 := by
    dsimp only [s2]
    repeat' first
      | with_reducible assumption
      | with_reducible intro _
      | (with_reducible refine Kept.ite ?_ ?_)
      | (with_reducible refine State.joinBacklog_kept _ _ _ ?_)
      | (with_reducible refine State.onLoam_kept _ _ ?_)
      | (with_reducible refine State.onJob_kept _ _ _ ?_)
      | (with_reducible refine State.onVi_kept _ _ _ ?_)
      | (with_reducible refine State.joinChain_kept _ _ _ ?_)
  try clear_value s2
  repeat' first
    | with_reducible assumption
    | with_reducible intro _
    | (with_reducible refine Kept.ite ?_ ?_)
    | (with_reducible refine State.joinBacklog_kept _ _ _ ?_)
    | (with_reducible refine State.onLoam_kept _ _ ?_)
    | (with_reducible refine State.onJob_kept _ _ _ ?_)
    | (with_reducible refine State.onVi_kept _ _ _ ?_)
    | (with_reducible refine State.joinChain_kept _ _ _ ?_)
    | (with_reducible refine State.endJob_kept _ _ _ _ _ ?_)
    | (with_reducible refine State.fencesDone_kept _ _ ?_)
    | (with_reducible refine State.refreshEligible_kept _ ?_)

theorem State.submitJob_kept (s : State) (v : Fin 8) (x : Word)
    (hk : Kept kp kf kn km kq s) : Kept kp kf kn km kq (State.submitJob s v x) := by
  unfold State.submitJob
  repeat' first
    | with_reducible assumption
    | (with_reducible refine Kept.ite ?_ ?_)
    | (with_reducible refine State.onVi_kept _ _ _ ?_)
    | (with_reducible refine State.acceptJob_kept _ _ _ ?_)

theorem State.startJob_kept (s : State) (j : JobRef) (surplus : Bool) (record : Option (BitVec 32))
    (hk : Kept kp kf kn km kq s) : Kept kp kf kn km kq (State.startJob s j surplus record) := by
  unfold State.startJob
  extract_lets x h s1 a ax
  try clear_value x
  try clear_value h
  have hk_s1 : Kept kp kf kn km kq s1 := by
    dsimp only [s1]
    repeat' first
      | with_reducible assumption
      | with_reducible intro _
      | (with_reducible refine Kept.ite ?_ ?_)
      | (with_reducible refine State.handOver_kept _ _ ?_)
      | (with_reducible refine State.dispatchJob_kept _ _ _ ?_)
  try clear_value s1
  try clear_value a
  try clear_value ax
  repeat' first
    | with_reducible assumption
    | with_reducible intro _
    | (with_reducible refine Kept.ite ?_ ?_)
    | (with_reducible refine State.handOver_kept _ _ ?_)
    | (with_reducible refine State.dispatchJob_kept _ _ _ ?_)
    | (with_reducible refine State.onRun_kept _ _ _ ?_)
    | (with_reducible refine State.beginTof_kept _ _ ?_)
    | (with_reducible refine State.refreshHead_kept _ _ ?_)
    | (with_reducible refine State.requestMove_kept _ _ _ ?_)

theorem State.issueAnswer_kept (s : State) (j : JobRef) (rsp : Byte) (surplus : Bool)
    (hk : Kept kp kf kn km kq s) : Kept kp kf kn km kq (State.issueAnswer s j rsp surplus) := by
  unfold State.issueAnswer
  repeat' first
    | with_reducible assumption
    | (with_reducible refine Kept.ite ?_ ?_)
    | (with_reducible refine State.onJob_kept _ _ _ ?_)
    | (with_reducible refine State.onHead_kept _ _ _ ?_)
    | (with_reducible refine State.endJob_kept _ _ _ _ _ ?_)
    | (with_reducible refine State.startJob_kept _ _ _ _ ?_)

theorem State.sendIssue_kept (s : State) (j : JobRef)
    (hk : Kept kp kf kn km kq s) : Kept kp kf kn km kq (State.sendIssue s j).1 := by
  unfold State.sendIssue
  repeat' first
    | with_reducible assumption
    | (with_reducible refine State.onLegal_kept _ _ ?_)
    | (with_reducible refine State.sendLegal_kept _ _ ?_)
    | split

theorem State.issueJob_kept (s : State) (j : JobRef) (surplus : Bool)
    (hk : Kept kp kf kn km kq s) : Kept kp kf kn km kq (State.issueJob s j surplus) := by
  unfold State.issueJob
  repeat' first
    | with_reducible assumption
    | (with_reducible refine State.onJob_kept _ _ _ ?_)
    | (with_reducible refine State.onLoamHead_kept _ _ _ ?_)
    | (with_reducible refine State.issueAnswer_kept _ _ _ _ ?_)
    | (with_reducible refine State.sendIssue_kept _ _ ?_)
    | dsimp only [id]
    | split

theorem State.startPurge_kept (s : State) (h : Fin 4) (p : Purge)
    (hk : Kept kp kf kn km kq s) : Kept kp kf kn km kq (State.startPurge s h p) := by
  unfold State.startPurge
  extract_lets a cur s1
  try clear_value a
  try clear_value cur
  have hk_s1 : Kept kp kf kn km kq s1 := by
    dsimp only [s1]
    repeat' first
      | with_reducible assumption
      | (with_reducible refine State.onLoamHead_kept _ _ _ ?_)
  try clear_value s1
  repeat' first
    | with_reducible assumption
    | (with_reducible refine Kept.ite ?_ ?_)
    | (with_reducible refine State.feedTo_kept _ _ _ _ _ ?_)

theorem State.capLoop_kept (s : State) (h : Fin 4)
    (hk : Kept kp kf kn km kq s) : Kept kp kf kn km kq (State.capLoop s h) := by
  unfold State.capLoop
  extract_lets k cur lo hi
  try clear_value k
  try clear_value cur
  try clear_value lo
  try clear_value hi
  repeat' first
    | with_reducible assumption
    | with_reducible intro _
    | (with_reducible refine Kept.ite ?_ ?_)
    | (with_reducible refine State.loopFree_kept _ _ ?_)
    | (with_reducible refine State.onLoamHead_kept _ _ _ ?_)
    | (with_reducible refine State.loopHeldFrozen_kept _ _ _ _ _ _ _ ?_)
    | (with_reducible refine State.loopUpdated_kept _ _ _ _ _ _ _ ?_)

theorem State.capNotify_kept (s : State) (h : Fin 4)
    (hk : Kept kp kf kn km kq s) : Kept kp kf kn km kq (State.capNotify s h) := by
  unfold State.capNotify
  repeat' first
    | with_reducible assumption
    | (with_reducible refine Kept.ite ?_ ?_)
    | (with_reducible refine State.onLoamHead_kept _ _ _ ?_)
    | (with_reducible refine State.raiseBoth_kept _ _ _ _ _ ?_)

theorem State.jobItemWrite_kept (s : State) (v : Fin 8) (off : Nat) (x : Par)
    (hk : Kept kp kf kn km kq s) : Kept kp kf kn km kq (State.jobItemWrite s v off x) := by
  unfold State.jobItemWrite
  repeat' first
    | with_reducible assumption
    | (with_reducible refine Kept.ite ?_ ?_)
    | (with_reducible refine State.onJob_kept _ _ _ ?_)

/-! ### Link -/

theorem State.setLink_kept (s : State) (st : LinkState) (cause : Nat)
    (hk : Kept kp kf kn km kq s) : Kept kp kf kn km kq (State.setLink s st cause) := by
  unfold State.setLink
  repeat' first
    | with_reducible assumption
    | (with_reducible refine Kept.ite ?_ ?_)
    | (with_reducible refine State.onLink_kept _ _ ?_)
    | (with_reducible refine State.raise0_kept _ _ _ _ ?_)

theorem State.settleLink_kept (s : State)
    (hk : Kept kp kf kn km kq s) : Kept kp kf kn km kq (State.settleLink s) := by
  unfold State.settleLink
  repeat' first
    | with_reducible assumption
    | (with_reducible refine Kept.ite ?_ ?_)
    | (with_reducible refine State.setLink_kept _ _ _ ?_)

theorem State.writeRyCtrl_kept (s : State) (v : Par)
    (hk : Kept kp kf kn km kq s) : Kept kp kf kn km kq (State.writeRyCtrl s v) := by
  unfold State.writeRyCtrl
  repeat' first
    | with_reducible assumption
    | (with_reducible refine Kept.ite ?_ ?_)
    | (with_reducible refine State.onLink_kept _ _ ?_)

theorem State.jobBack_kept (s : State) (j : JobRef)
    (hk : Kept kp kf kn km kq s) : Kept kp kf kn km kq (State.jobBack s j) := by
  unfold State.jobBack
  repeat' first
    | with_reducible assumption
    | (with_reducible refine State.onJob_kept _ _ _ ?_)
    | (with_reducible refine State.returnJob_kept _ _ ?_)
    | (with_reducible refine State.joinBacklog_kept _ _ _ ?_)

theorem State.chargeE_kept (s : State) (j : JobRef)
    (hk : Kept kp kf kn km kq s) : Kept kp kf kn km kq (State.chargeE s j) := by
  unfold State.chargeE
  repeat' first
    | with_reducible assumption
    | (with_reducible refine State.charge_kept _ _ _ _ _ ?_)

theorem State.peerGone_kept (s : State) (j : JobRef) (m : Migration)
    (hk : Kept kp kf kn km kq s) : Kept kp kf kn km kq (State.peerGone s j m) := by
  unfold State.peerGone
  repeat' first
    | with_reducible assumption
    | (with_reducible refine Kept.ite ?_ ?_)
    | (with_reducible refine State.endJob_kept _ _ _ _ _ ?_)
    | (with_reducible refine State.jobBack_kept _ _ ?_)
    | (with_reducible refine State.chargeE_kept _ _ ?_)

theorem State.losePeer_kept (s : State) (n : Fin 16)
    (hk : Kept kp kf kn km kq s) : Kept kp kf kn km kq (State.losePeer s n) := by
  unfold State.losePeer
  repeat' first
    | with_reducible assumption
    | with_reducible intro _
    | (with_reducible refine Kept.ite ?_ ?_)
    | (with_reducible refine foldl_kept ?_ ?_)
    | (with_reducible refine State.onLink_kept _ _ ?_)
    | (with_reducible refine State.raise0_kept _ _ _ _ ?_)
    | (with_reducible refine State.peerGone_kept _ _ _ ?_)

theorem State.linkFallback_kept (s : State)
    (hk : Kept kp kf kn km kq s) : Kept kp kf kn km kq (State.linkFallback s) := by
  unfold State.linkFallback
  repeat' first
    | with_reducible assumption
    | with_reducible intro _
    | (with_reducible refine foldl_kept ?_ ?_)
    | (with_reducible refine State.refreshEligible_kept _ ?_)
    | (with_reducible refine State.setLink_kept _ _ _ ?_)
    | (with_reducible refine State.losePeer_kept _ _ ?_)

theorem State.takeRyine_kept (s : State) (src : Fin 16) (seq : BitVec 4) (dst : BitVec 5)
    (hk : Kept kp kf kn km kq s) : Kept kp kf kn km kq (State.takeRyine s src seq dst).2 := by
  unfold State.takeRyine
  repeat' first
    | with_reducible assumption
    | (with_reducible refine Kept.ite ?_ ?_)
    | (with_reducible refine State.onLink_kept _ _ ?_)
    | (with_reducible refine State.raise0_kept _ _ _ _ ?_)
    | (with_reducible refine State.setLink_kept _ _ _ ?_)
    | (with_reducible refine State.settleLink_kept _ ?_)
    | dsimp only [id]
    | split

theorem State.applySync_kept (s : State) (src : Fin 16) (off : Int)
    (hk : Kept kp kf kn km kq s) : Kept kp kf kn km kq (State.applySync s src off) := by
  unfold State.applySync
  extract_lets us s1
  try clear_value us
  have hk_s1 : Kept kp kf kn km kq s1 := by
    dsimp only [s1]
    repeat' first
      | with_reducible assumption
      | with_reducible rfl
      | (with_reducible refine State.onLink_kept _ _ ?_)
      | (with_reducible refine State.onAo_kept _ _ ?_ ?_)
  try clear_value s1
  repeat' first
    | with_reducible assumption
    | with_reducible rfl
    | (with_reducible refine Kept.ite ?_ ?_)
    | (with_reducible refine State.onLink_kept _ _ ?_)
    | (with_reducible refine State.raise0_kept _ _ _ _ ?_)
    | (with_reducible refine State.onAo_kept _ _ ?_ ?_)

theorem State.writeEvtTx_kept (s : State) (v : Par)
    (hk : Kept kp kf kn km kq s) : Kept kp kf kn km kq (State.writeEvtTx s v) := by
  unfold State.writeEvtTx
  repeat' first
    | with_reducible assumption
    | (with_reducible refine State.queueFrame_kept _ _ _ _ ?_)

theorem State.topData_kept (s : State)
    (hk : Kept kp kf kn km kq s) : Kept kp kf kn km kq (State.topData s) := by
  unfold State.topData
  repeat' first
    | with_reducible assumption
    | (with_reducible refine Kept.ite ?_ ?_)
    | (with_reducible refine State.onJob_kept _ _ _ ?_)
    | (with_reducible refine State.queueFrame_kept _ _ _ _ ?_)
    | dsimp only [id]
    | split

theorem State.retryFrame_kept (s : State) (f : RyFrame)
    (hk : Kept kp kf kn km kq s) : Kept kp kf kn km kq (State.retryFrame s f) := by
  unfold State.retryFrame
  repeat' first
    | with_reducible assumption
    | (with_reducible refine Kept.ite ?_ ?_)
    | (with_reducible refine State.onLink_kept _ _ ?_)
    | (with_reducible refine State.raise0_kept _ _ _ _ ?_)

theorem State.lostFrame_kept (s : State) (f : RyFrame)
    (hk : Kept kp kf kn km kq s) : Kept kp kf kn km kq (State.lostFrame s f) := by
  unfold State.lostFrame
  repeat' first
    | with_reducible assumption
    | (with_reducible refine State.onLink_kept _ _ ?_)

theorem State.ryItemWrite_kept (s : State) (off : Nat) (v : Par)
    (hk : Kept kp kf kn km kq s) : Kept kp kf kn km kq (State.ryItemWrite s off v) := by
  unfold State.ryItemWrite
  repeat' first
    | with_reducible assumption
    | (with_reducible refine Kept.ite ?_ ?_)
    | (with_reducible refine State.onLink_kept _ _ ?_)
    | (with_reducible refine State.setPar_kept _ _ _ _ ?_)
    | (with_reducible refine State.setLink_kept _ _ _ ?_)
    | (with_reducible refine State.writeRyCtrl_kept _ _ ?_)
    | (with_reducible refine State.writeEvtTx_kept _ _ ?_)

/-! ### Migration -/

theorem State.sendRevoke_kept (s : State) (m : Migration)
    (hk : Kept kp kf kn km kq s) : Kept kp kf kn km kq (State.sendRevoke s m) := by
  unfold State.sendRevoke
  repeat' first
    | with_reducible assumption
    | (with_reducible refine State.queueFrame_kept _ _ _ _ ?_)

theorem State.orphan_kept (s : State) (j : JobRef) (m : Migration)
    (hk : Kept kp kf kn km kq s) : Kept kp kf kn km kq (State.orphan s j m) := by
  unfold State.orphan
  repeat' first
    | with_reducible assumption
    | (with_reducible refine State.onLink_kept _ _ ?_)

theorem State.reportOrphan_kept (s : State) (src : Fin 16) (migId : Word)
    (hk : Kept kp kf kn km kq s) : Kept kp kf kn km kq (State.reportOrphan s src migId) := by
  unfold State.reportOrphan
  repeat' first
    | with_reducible assumption
    | (with_reducible refine State.onLink_kept _ _ ?_)
    | (with_reducible refine State.raise0_kept _ _ _ _ ?_)
    | split

theorem State.cancelAfter_kept (s : State) (j : JobRef) (m : Migration)
    (hk : Kept kp kf kn km kq s) : Kept kp kf kn km kq (State.cancelAfter s j m) := by
  unfold State.cancelAfter
  repeat' first
    | with_reducible assumption
    | (with_reducible refine State.endJob_kept _ _ _ _ _ ?_)
    | (with_reducible refine State.chargeE_kept _ _ ?_)
    | (with_reducible refine State.orphan_kept _ _ _ ?_)

theorem State.cancelRemote_kept (s : State) (j : JobRef) (m : Migration)
    (hk : Kept kp kf kn km kq s) : Kept kp kf kn km kq (State.cancelRemote s j m) := by
  unfold State.cancelRemote
  extract_lets s1
  have hk_s1 : Kept kp kf kn km kq s1 := by
    dsimp only [s1]
    repeat' first
      | with_reducible assumption
      | (with_reducible refine State.sendRevoke_kept _ _ ?_)
  try clear_value s1
  repeat' first
    | with_reducible assumption
    | (with_reducible refine Kept.ite ?_ ?_)
    | (with_reducible refine State.onJob_kept _ _ _ ?_)
    | (with_reducible refine State.endJob_kept _ _ _ _ _ ?_)
    | (with_reducible refine State.cancelAfter_kept _ _ _ ?_)

theorem State.dropReservation_kept (s : State) (j : JobRef)
    (hk : Kept kp kf kn km kq s) : Kept kp kf kn km kq (State.dropReservation s j) := by
  unfold State.dropReservation
  repeat' first
    | with_reducible assumption
    | with_reducible rfl
    | with_reducible intro _
    | (with_reducible refine Kept.ite ?_ ?_)
    | (with_reducible refine foldl_kept ?_ ?_)
    | (with_reducible refine State.onLoamHead_kept _ _ _ ?_)
    | (with_reducible refine State.onIsland_kept _ _ ?_ ?_)

theorem State.cancelJob_kept (s : State) (j : JobRef)
    (hk : Kept kp kf kn km kq s) : Kept kp kf kn km kq (State.cancelJob s j) := by
  unfold State.cancelJob
  repeat' first
    | with_reducible assumption
    | (with_reducible refine State.onJob_kept _ _ _ ?_)
    | (with_reducible refine State.endJob_kept _ _ _ _ _ ?_)
    | (with_reducible refine State.stopJob_kept _ _ _ _ ?_)
    | (with_reducible refine State.cancelRemote_kept _ _ _ ?_)
    | (with_reducible refine State.dropReservation_kept _ _ ?_)
    | dsimp only [id]
    | split

theorem State.releaseJob_kept (s : State) (j : JobRef)
    (hk : Kept kp kf kn km kq s) : Kept kp kf kn km kq (State.releaseJob s j) := by
  unfold State.releaseJob
  repeat' first
    | with_reducible assumption
    | (with_reducible refine State.onJob_kept _ _ _ ?_)
    | split

theorem State.writeCancel_kept (s : State) (v : Fin 8) (x : Word)
    (hk : Kept kp kf kn km kq s) : Kept kp kf kn km kq (State.writeCancel s v x) := by
  unfold State.writeCancel
  repeat' first
    | with_reducible assumption
    | with_reducible intro _
    | (with_reducible refine Kept.ite ?_ ?_)
    | (with_reducible refine foldl_kept ?_ ?_)
    | (with_reducible refine State.refreshEligible_kept _ ?_)
    | (with_reducible refine State.cancelJob_kept _ _ ?_)
    | (with_reducible refine State.releaseJob_kept _ _ ?_)
    | split

theorem State.trackMargins_kept (s : State)
    (hk : Kept kp kf kn km kq s) : Kept kp kf kn km kq (State.trackMargins s) := by
  unfold State.trackMargins
  repeat' first
    | with_reducible assumption
    | with_reducible intro _
    | (with_reducible refine foldl_kept ?_ ?_)
    | (with_reducible refine State.onJob_kept _ _ _ ?_)
    | dsimp only [id]
    | split

theorem State.offer_kept (s : State) (j : JobRef) (n : Fin 16) (k : Fin 4)
    (hk : Kept kp kf kn km kq s) : Kept kp kf kn km kq (State.offer s j n k) := by
  unfold State.offer
  repeat' first
    | with_reducible assumption
    | (with_reducible refine State.onJob_kept _ _ _ ?_)
    | (with_reducible refine State.onLink_kept _ _ ?_)
    | (with_reducible refine State.queueFrame_kept _ _ _ _ ?_)

theorem State.takeResult_kept (s : State) (src : Fin 16) (seq : BitVec 4) (dst : BitVec 5) (migId : Word) (f : State → JobRef → Migration → State) (g : State → State)
    (hk_f : ∀ hf_0 hf_1 hf_2, Kept kp kf kn km kq hf_0 → Kept kp kf kn km kq (f hf_0 hf_1 hf_2))
    (hk_g : ∀ hg_0, Kept kp kf kn km kq hg_0 → Kept kp kf kn km kq (g hg_0))
    (hk : Kept kp kf kn km kq s) : Kept kp kf kn km kq (State.takeResult s src seq dst migId f g) := by
  unfold State.takeResult
  repeat' first
    | with_reducible assumption
    | (with_reducible refine Kept.ite ?_ ?_)
    | (with_reducible refine hk_f _ _ _ ?_)
    | (with_reducible refine hk_g _ ?_)
    | (with_reducible refine State.refreshEligible_kept _ ?_)
    | (with_reducible refine State.takeRyine_kept _ _ _ _ ?_)
    | split

theorem State.notHeld_kept (s : State) (j : JobRef) (m : Migration)
    (hk : Kept kp kf kn km kq s) : Kept kp kf kn km kq (State.notHeld s j m) := by
  unfold State.notHeld
  repeat' first
    | with_reducible assumption
    | (with_reducible refine Kept.ite ?_ ?_)
    | (with_reducible refine State.raiseVi_kept _ _ _ _ _ ?_)
    | (with_reducible refine State.endJob_kept _ _ _ _ _ ?_)
    | (with_reducible refine State.jobBack_kept _ _ ?_)

theorem State.peerReport_kept (s : State) (j : JobRef) (m : Migration) (st : JobState) (result : Nat) (headTime : Nat) (amount : Nat)
    (hk : Kept kp kf kn km kq s) : Kept kp kf kn km kq (State.peerReport s j m st result headTime amount) := by
  unfold State.peerReport
  repeat' first
    | with_reducible assumption
    | (with_reducible refine Kept.ite ?_ ?_)
    | (with_reducible refine State.charge_kept _ _ _ _ _ ?_)
    | (with_reducible refine State.endJob_kept _ _ _ _ _ ?_)
    | (with_reducible refine State.reportOrphan_kept _ _ _ ?_)
    | (with_reducible refine State.cancelAfter_kept _ _ _ ?_)

theorem State.judgeOffer_kept_of (s : State) (k : Nat) (w : Vector Par 4) (size : Nat) {y : Fin 8 × Fin 4 × List Nat × State} (he : s.judgeOffer k w size = .inr y) (hk : Kept kp kf kn km kq s) : Kept kp kf kn km kq y.2.2.2 := by
  unfold State.judgeOffer at he
  dsimp only at he
  repeat' split at he
  all_goals first
    | (cases he; done)
    | (cases he; exact State.reserveChunks_kept_of _ _ _ (by assumption) hk)

theorem State.freeGuest_kept (s : State) (g : Fin 4)
    (hk : Kept kp kf kn km kq s) : Kept kp kf kn km kq (State.freeGuest s g) := by
  unfold State.freeGuest
  repeat' first
    | with_reducible assumption
    | (with_reducible refine State.onLink_kept _ _ ?_)
    | (with_reducible refine State.freeChunks_kept _ _ _ ?_)
    | (with_reducible refine State.dropBands_kept _ _ _ _ ?_)
    | split

theorem State.storeBlock_kept (s : State) (v : Fin 8) (band : Nat) (external : Bool) (chunks : List Nat) (l : List Byte)
    (hk : Kept kp kf kn km kq s) : Kept kp kf kn km kq (State.storeBlock s v band external chunks l).2 := by
  unfold State.storeBlock
  repeat' first
    | with_reducible assumption
    | (with_reducible refine writeChain_kept _ _ _ _ ?_)
    | (with_reducible refine State.placeBand_kept _ _ _ _ _ ?_)

theorem State.storeBlocks_kept (s : State) (v : Fin 8) (band : Nat) (e : Bool) (m : List Nat) (n : Nat) (l : List Byte) (hk : Kept kp kf kn km kq s) : Kept kp kf kn km kq (s.storeBlocks v band e m n l).2 := by
  induction n generalizing s band m l with
  | zero => exact hk
  | succ n ih =>
    unfold State.storeBlocks
    exact ih _ _ _ _ (State.storeBlock_kept _ _ _ _ _ _ hk)

theorem State.guestReady_kept (s : State) (g : Fin 4) (x : GuestSlot)
    (hk : Kept kp kf kn km kq s) : Kept kp kf kn km kq (State.guestReady s g x) := by
  unfold State.guestReady
  extract_lets w p r s1
  have h1 : Kept kp kf kn km kq s1 :=
    State.onLink_kept _ _ (State.freeChunks_kept _ _ _ (State.storeBlocks_kept _ _ _ _ _ _ _ hk))
  clear_value s1
  have h2 := State.sendResult_kept _ x.node x.migId 8 0 0 0 (State.freeGuest_kept _ g h1)
  split
  · refine Kept.ite ?_ h2
    exact State.acceptJob_kept _ _ _ (State.onLink_kept _ _ (State.onJob_kept _ _ _ h1))
  · exact h2

theorem State.revokeAll_kept (s : State) (v : Fin 8)
    (hk : Kept kp kf kn km kq s) : Kept kp kf kn km kq (State.revokeAll s v) := by
  unfold State.revokeAll
  repeat' first
    | with_reducible assumption
    | with_reducible intro _
    | (with_reducible refine foldl_kept ?_ ?_)
    | (with_reducible refine State.onJob_kept _ _ _ ?_)
    | (with_reducible refine State.sendRevoke_kept _ _ ?_)
    | (with_reducible refine State.orphan_kept _ _ _ ?_)

/-! ### Marl -/

theorem State.onIngest_kept (s : State) (v : Fin 8) (f : Ingest → Ingest)
    (hk : Kept kp kf kn km kq s) : Kept kp kf kn km kq (State.onIngest s v f) := by
  unfold State.onIngest
  repeat' first
    | with_reducible assumption
    | (with_reducible refine State.onMarl_kept _ _ ?_)

theorem State.setBuffer_kept (s : State) (i : Fin 8) (b : Option IngestBuffer)
    (hk : Kept kp kf kn km kq s) : Kept kp kf kn km kq (State.setBuffer s i b) := by
  unfold State.setBuffer
  repeat' first
    | with_reducible assumption
    | (with_reducible refine State.onMarl_kept _ _ ?_)

theorem State.dropWaiting_kept (s : State) (v : Fin 8) (band : Nat)
    (hk : Kept kp kf kn km kq s) : Kept kp kf kn km kq (State.dropWaiting s v band) := by
  unfold State.dropWaiting
  repeat' first
    | with_reducible assumption
    | with_reducible intro _
    | (with_reducible refine Kept.ite ?_ ?_)
    | (with_reducible refine foldl_kept ?_ ?_)
    | (with_reducible refine State.setBuffer_kept _ _ _ ?_)
    | split

theorem State.closeBand_kept (s : State) (v : Fin 8)
    (hk : Kept kp kf kn km kq s) : Kept kp kf kn km kq (State.closeBand s v) := by
  unfold State.closeBand
  repeat' first
    | with_reducible assumption
    | (with_reducible refine State.onMarl_kept _ _ ?_)
    | (with_reducible refine State.setBuffer_kept _ _ _ ?_)
    | (with_reducible refine State.dropWaiting_kept _ _ _ ?_)
    | dsimp only [id]
    | split

theorem State.putByte_kept (s : State) (v : Fin 8) (x : Byte)
    (hk : Kept kp kf kn km kq s) : KeptO kp kf kn km kq (State.putByte s v x) := by
  unfold State.putByte
  repeat' first
    | with_reducible assumption
    | (with_reducible refine Kept.ite ?_ ?_)
    | (with_reducible refine State.onIngest_kept _ _ _ ?_)
    | (with_reducible refine State.setBuffer_kept _ _ _ ?_)
    | (with_reducible refine State.closeBand_kept _ _ ?_)
    | (with_reducible refine KeptO.some ?_)
    | (with_reducible refine KeptO.ite ?_ ?_)
    | with_reducible exact KeptO.none
    | dsimp only [id]
    | split

theorem State.putQueued_kept (s : State) (v : Fin 8) (l : List Byte)
    (hk : Kept kp kf kn km kq s) : Kept kp kf kn km kq (State.putQueued s v l) := by
  induction l generalizing s with
  | nil => exact State.onIngest_kept _ _ _ hk
  | cons x t ih =>
    unfold State.putQueued
    split
    · next u h => exact ih _ (State.putByte_kept _ _ _ hk _ h)
    · exact State.onIngest_kept _ _ _ hk

theorem State.putBytes_kept (s : State) (v : Fin 8) (l : List Byte)
    (hk : Kept kp kf kn km kq s) : Kept kp kf kn km kq (State.putBytes s v l) := State.putQueued_kept _ _ _ hk

theorem State.yield_kept (s : State) (v : Fin 8) (l : List Byte)
    (hk : Kept kp kf kn km kq s) : KeptO kp kf kn km kq (State.yield s v l) := by
  unfold State.yield
  repeat' first
    | with_reducible assumption
    | with_reducible intro _
    | (with_reducible refine Kept.ite ?_ ?_)
    | (with_reducible refine KeptO.some ?_)
    | (with_reducible refine KeptO.ite ?_ ?_)
    | with_reducible exact KeptO.none
    | (with_reducible refine KeptO.map ?_ ?_)
    | (with_reducible refine State.putBytes_kept _ _ _ ?_)

theorem State.countSpeckle_kept (s : State) (v : Fin 8) (n : Nat)
    (hk : Kept kp kf kn km kq s) : Kept kp kf kn km kq (State.countSpeckle s v n) := by
  unfold State.countSpeckle
  repeat' first
    | with_reducible assumption
    | (with_reducible refine State.onVi_kept _ _ _ ?_)

theorem State.speckleByte_kept (s : State) (v : Fin 8) (x : Byte)
    (hk : Kept kp kf kn km kq s) : KeptO kp kf kn km kq (State.speckleByte s v x) := by
  unfold State.speckleByte
  extract_lets g b
  try clear_value g
  try clear_value b
  repeat' first
    | with_reducible assumption
    | with_reducible intro _
    | (with_reducible refine Kept.ite ?_ ?_)
    | (with_reducible refine KeptO.some ?_)
    | (with_reducible refine KeptO.ite ?_ ?_)
    | with_reducible exact KeptO.none
    | (with_reducible refine KeptO.map ?_ ?_)
    | (with_reducible refine State.onIngest_kept _ _ _ ?_)
    | (with_reducible refine State.countSpeckle_kept _ _ _ ?_)
    | (with_reducible refine State.yield_kept _ _ _ ?_)

theorem State.ditherByte_kept (s : State) (v : Fin 8) (x : Byte)
    (hk : Kept kp kf kn km kq s) : KeptO kp kf kn km kq (State.ditherByte s v x) := by
  unfold State.ditherByte
  repeat' first
    | with_reducible assumption
    | with_reducible intro _
    | (with_reducible refine Kept.ite ?_ ?_)
    | (with_reducible refine KeptO.some ?_)
    | (with_reducible refine KeptO.ite ?_ ?_)
    | with_reducible exact KeptO.none
    | (with_reducible refine KeptO.map ?_ ?_)
    | (with_reducible refine State.onIngest_kept _ _ _ ?_)
    | (with_reducible refine State.yield_kept _ _ _ ?_)

theorem State.ingestByte_kept (s : State) (v : Fin 8) (x : Byte)
    (hk : Kept kp kf kn km kq s) : KeptO kp kf kn km kq (State.ingestByte s v x) := by
  unfold State.ingestByte
  repeat' first
    | with_reducible assumption
    | with_reducible intro _
    | (with_reducible refine Kept.ite ?_ ?_)
    | (with_reducible refine KeptO.some ?_)
    | (with_reducible refine KeptO.ite ?_ ?_)
    | with_reducible exact KeptO.none
    | (with_reducible refine KeptO.map ?_ ?_)
    | (with_reducible refine State.speckleByte_kept _ _ _ ?_)
    | (with_reducible refine State.ditherByte_kept _ _ _ ?_)
    | (with_reducible refine State.yield_kept _ _ _ ?_)
    | rfl
    | split

theorem State.speckleFlush_kept (s : State) (v : Fin 8)
    (hk : Kept kp kf kn km kq s) : Kept kp kf kn km kq (State.speckleFlush s v) := by
  unfold State.speckleFlush
  repeat' first
    | with_reducible assumption
    | with_reducible intro _
    | (with_reducible refine Kept.ite ?_ ?_)
    | (with_reducible refine State.countSpeckle_kept _ _ _ ?_)
    | (with_reducible refine State.putBytes_kept _ _ _ ?_)
    | (with_reducible refine State.onIngest_kept _ _ _ ?_)

theorem State.gatherRest_kept (s : State) (v : Fin 8)
    (hk : Kept kp kf kn km kq s) : Kept kp kf kn km kq (State.gatherRest s v) := by
  unfold State.gatherRest
  extract_lets g
  try clear_value g
  repeat' first
    | with_reducible assumption
    | with_reducible intro _
    | (with_reducible refine Kept.ite ?_ ?_)
    | (with_reducible refine State.speckleFlush_kept _ _ ?_)
    | (with_reducible refine State.onIngest_kept _ _ _ ?_)
    | (with_reducible refine State.putBytes_kept _ _ _ ?_)

theorem State.handBand_kept (s : State) (v : Fin 8)
    (hk : Kept kp kf kn km kq s) : Kept kp kf kn km kq (State.handBand s v) := by
  unfold State.handBand
  extract_lets s1
  have hk_s1 : Kept kp kf kn km kq s1 := by
    dsimp only [s1]
    repeat' first
      | with_reducible assumption
      | with_reducible intro _
      | (with_reducible refine Kept.ite ?_ ?_)
      | (with_reducible refine State.onIngest_kept _ _ _ ?_)
  try clear_value s1
  repeat' first
    | with_reducible assumption
    | with_reducible intro _
    | (with_reducible refine Kept.ite ?_ ?_)
    | (with_reducible refine State.onIngest_kept _ _ _ ?_)
    | (with_reducible refine State.closeBand_kept _ _ ?_)
    | (with_reducible refine State.setBuffer_kept _ _ _ ?_)
    | rfl
    | split

theorem State.flushBand_kept (s : State) (v : Fin 8)
    (hk : Kept kp kf kn km kq s) : Kept kp kf kn km kq (State.flushBand s v).2 := by
  have h := State.gatherRest_kept s v hk
  unfold State.flushBand
  dsimp only
  split
  · exact State.handBand_kept _ _ h
  · exact h

theorem State.drainLoop_kept (s : State) (v : Fin 8) (n : Nat) (hk : Kept kp kf kn km kq s) : Kept kp kf kn km kq (s.drainLoop v n) := by
  induction n generalizing s with
  | zero => exact hk
  | succ n ih =>
    unfold State.drainLoop
    dsimp only
    split
    · exact hk
    · split
      · have h := State.flushBand_kept s v hk
        split
        · exact ih _ (State.onData_kept _ _ _ h)
        · exact h
      · split
        · exact hk
        · split
          · next h => exact ih _ (State.onData_kept _ _ _ (State.putBytes_kept _ _ _ (KeptO.bind (State.ingestByte_kept _ _ _ hk) (fun u hu => State.ingestByte_kept _ _ _ hu) _ h)))
          · exact hk

theorem State.drain_kept (s : State) (v : Fin 8)
    (hk : Kept kp kf kn km kq s) : Kept kp kf kn km kq (State.drain s v) := by
  unfold State.drain
  extract_lets d
  try clear_value d
  repeat' first
    | with_reducible assumption
    | with_reducible intro _
    | (with_reducible refine Kept.ite ?_ ?_)
    | (with_reducible refine State.drainLoop_kept _ _ _ ?_)
    | (with_reducible refine State.putBytes_kept _ _ _ ?_)

theorem State.drainAll_kept (s : State)
    (hk : Kept kp kf kn km kq s) : Kept kp kf kn km kq (State.drainAll s) := by
  unfold State.drainAll
  repeat' first
    | with_reducible assumption
    | with_reducible intro _
    | (with_reducible refine foldl_kept ?_ ?_)
    | (with_reducible refine State.drain_kept _ _ ?_)

theorem State.stopStream_kept (s : State) (v : Fin 8)
    (hk : Kept kp kf kn km kq s) : Kept kp kf kn km kq (State.stopStream s v) := by
  unfold State.stopStream
  extract_lets d s1
  try clear_value d
  have hk_s1 : Kept kp kf kn km kq s1 := by
    dsimp only [s1]
    repeat' first
      | with_reducible assumption
      | (with_reducible refine State.onData_kept _ _ _ ?_)
  try clear_value s1
  repeat' first
    | with_reducible assumption
    | (with_reducible refine Kept.ite ?_ ?_)
    | (with_reducible refine State.unpinWhere_kept _ _ _ _ ?_)
    | (with_reducible refine State.drain_kept _ _ ?_)

theorem State.acceptHalf_kept (s : State) (v : Fin 8) (x : Word)
    (hk : Kept kp kf kn km kq s) : Kept kp kf kn km kq (State.acceptHalf s v x) := by
  unfold State.acceptHalf
  repeat' first
    | with_reducible assumption
    | (with_reducible refine Kept.ite ?_ ?_)
    | (with_reducible refine State.onData_kept _ _ _ ?_)
    | (with_reducible refine State.drain_kept _ _ ?_)
    | (with_reducible refine State.stopStream_kept _ _ ?_)

theorem State.popHalf_kept (s : State) (v : Fin 8)
    (hk : Kept kp kf kn km kq s) : Kept kp kf kn km kq (State.popHalf s v) := by
  unfold State.popHalf
  repeat' first
    | with_reducible assumption
    | (with_reducible refine State.onData_kept _ _ _ ?_)
    | (with_reducible refine State.drive_kept _ _ ?_)
    | split

theorem State.dataLost_kept (s : State) (v : Fin 8) (aux : Byte)
    (hk : Kept kp kf kn km kq s) : Kept kp kf kn km kq (State.dataLost s v aux) := by
  unfold State.dataLost
  repeat' first
    | with_reducible assumption
    | (with_reducible refine Kept.ite ?_ ?_)
    | (with_reducible refine State.raiseVi_kept _ _ _ _ _ ?_)

theorem State.leavePage_kept (s : State) (v : Fin 8)
    (hk : Kept kp kf kn km kq s) : Kept kp kf kn km kq (State.leavePage s v) := by
  unfold State.leavePage
  repeat' first
    | with_reducible assumption
    | (with_reducible refine State.onData_kept _ _ _ ?_)
    | (with_reducible refine State.unpinWhere_kept _ _ _ _ ?_)
    | split

theorem State.fetchHalves_kept (s : State) (v : Fin 8)
    (hk : Kept kp kf kn km kq s) : Kept kp kf kn km kq (State.fetchHalves s v) := by
  unfold State.fetchHalves
  extract_lets d n l s1 s2
  try clear_value d
  try clear_value n
  try clear_value l
  have hk_s1 : Kept kp kf kn km kq s1 := by
    dsimp only [s1]
    repeat' first
      | with_reducible assumption
      | (with_reducible refine State.onData_kept _ _ _ ?_)
  try clear_value s1
  have hk_s2 : Kept kp kf kn km kq s2 := by
    dsimp only [s2]
    repeat' first
      | with_reducible assumption
      | (with_reducible refine Kept.ite ?_ ?_)
      | (with_reducible refine State.leavePage_kept _ _ ?_)
  try clear_value s2
  repeat' first
    | with_reducible assumption
    | (with_reducible refine Kept.ite ?_ ?_)
    | (with_reducible refine State.popHalf_kept _ _ ?_)

theorem State.marlAccrue_kept (s : State)
    (hk : Kept kp kf kn km kq s) : Kept kp kf kn km kq (State.marlAccrue s) := by
  unfold State.marlAccrue
  extract_lets clocks s1
  try clear_value clocks
  have hk_s1 : Kept kp kf kn km kq s1 := by
    dsimp only [s1]
    repeat' first
      | with_reducible assumption
      | with_reducible intro _
      | (with_reducible refine foldl_kept ?_ ?_)
      | (with_reducible refine State.onVi_kept _ _ _ ?_)
  try clear_value s1
  repeat' first
    | with_reducible assumption
    | (with_reducible refine State.onMarl_kept _ _ ?_)

theorem State.storeFull_kept (s : State) (i : Fin 8) (b : IngestBuffer) (quota : Bool)
    (hk : Kept kp kf kn km kq s) : Kept kp kf kn km kq (State.storeFull s i b quota) := by
  unfold State.storeFull
  repeat' first
    | with_reducible assumption
    | (with_reducible refine Kept.ite ?_ ?_)
    | (with_reducible refine State.raiseVi_kept _ _ _ _ _ ?_)
    | (with_reducible refine State.setBuffer_kept _ _ _ ?_)

theorem State.marlStart_kept (s : State) (w : Nat) (n : Nat) (l : List (Fin 8)) (hk : Kept kp kf kn km kq s) : Kept kp kf kn km kq (s.marlStart w n l) := by
  induction n generalizing s l with
  | zero => exact hk
  | succ n ih =>
    unfold State.marlStart
    dsimp only
    split
    · exact hk
    · split
      · exact hk
      · split
        · exact ih _ _ (State.storeFull_kept _ _ _ _ hk)
        · split
          · exact ih _ _ (State.storeFull_kept _ _ _ _ hk)
          · next h => exact State.onMarl_kept _ _ (State.onVi_kept _ _ _ (State.reserveChunks_kept_of _ _ _ h hk))

theorem State.placeBlock_kept (s : State) (q : Coding) (b : IngestBuffer) (block : List Byte)
    (hk : Kept kp kf kn km kq s) : Kept kp kf kn km kq (State.placeBlock s q b block) := by
  unfold State.placeBlock
  extract_lets n s1 s2
  try clear_value n
  have hk_s1 : Kept kp kf kn km kq s1 := by
    dsimp only [s1]
    repeat' first
      | with_reducible assumption
      | with_reducible intro _
      | (with_reducible refine Kept.ite ?_ ?_)
      | (with_reducible refine State.placeBand_kept _ _ _ _ _ ?_)
      | (with_reducible refine writeChain_kept _ _ _ _ ?_)
  try clear_value s1
  have hk_s2 : Kept kp kf kn km kq s2 := by
    dsimp only [s2]
    repeat' first
      | with_reducible assumption
      | with_reducible intro _
      | (with_reducible refine Kept.ite ?_ ?_)
      | (with_reducible refine State.placeBand_kept _ _ _ _ _ ?_)
      | (with_reducible refine writeChain_kept _ _ _ _ ?_)
      | (with_reducible refine State.onMarl_kept _ _ ?_)
      | (with_reducible refine State.freeChunks_kept _ _ _ ?_)
  try clear_value s2
  repeat' first
    | with_reducible assumption
    | with_reducible intro _
    | (with_reducible refine Kept.ite ?_ ?_)
    | (with_reducible refine State.placeBand_kept _ _ _ _ _ ?_)
    | (with_reducible refine writeChain_kept _ _ _ _ ?_)
    | (with_reducible refine State.onMarl_kept _ _ ?_)
    | (with_reducible refine State.freeChunks_kept _ _ _ ?_)
    | (with_reducible refine State.onVi_kept _ _ _ ?_)

theorem State.judgeBlock_kept (s : State) (b : IngestBuffer) (block : List Byte)
    (hk : Kept kp kf kn km kq s) : Kept kp kf kn km kq (State.judgeBlock s b block) := by
  unfold State.judgeBlock
  repeat' first
    | with_reducible assumption
    | with_reducible intro _
    | (with_reducible refine Kept.ite ?_ ?_)
    | (with_reducible refine State.raise0_kept _ _ _ _ ?_)
    | (with_reducible refine State.raiseVi_kept _ _ _ _ _ ?_)
    | (with_reducible refine State.onMarl_kept _ _ ?_)

theorem State.discardBlock_kept (s : State) (v : Fin 8) (band : Nat)
    (hk : Kept kp kf kn km kq s) : Kept kp kf kn km kq (State.discardBlock s v band) := by
  unfold State.discardBlock
  extract_lets s1
  have hk_s1 : Kept kp kf kn km kq s1 := by
    dsimp only [s1]
    repeat' first
      | with_reducible assumption
      | (with_reducible refine State.dropWaiting_kept _ _ _ ?_)
  try clear_value s1
  repeat' first
    | with_reducible assumption
    | (with_reducible refine Kept.ite ?_ ?_)
    | (with_reducible refine State.setBuffer_kept _ _ _ ?_)
    | split

theorem State.discardMarl_kept (s : State) (v : Fin 8)
    (hk : Kept kp kf kn km kq s) : Kept kp kf kn km kq (State.discardMarl s v) := by
  unfold State.discardMarl
  extract_lets s1
  have hk_s1 : Kept kp kf kn km kq s1 := by
    dsimp only [s1]
    repeat' first
      | with_reducible assumption
      | with_reducible intro _
      | (with_reducible refine Kept.ite ?_ ?_)
      | (with_reducible refine foldl_kept ?_ ?_)
      | (with_reducible refine State.setBuffer_kept _ _ _ ?_)
      | split
  try clear_value s1
  repeat' first
    | with_reducible assumption
    | (with_reducible refine State.onIngest_kept _ _ _ ?_)

/-! ### Silt -/

theorem State.pruneFaults_kept (s : State)
    (hk : Kept kp kf kn km kq s) : Kept kp kf kn km kq (State.pruneFaults s) := by
  unfold State.pruneFaults
  repeat' first
    | with_reducible assumption
    | with_reducible intro _
    | (with_reducible refine State.onSilt_mem_kept _ _ ?_ ?_ ?_)

theorem State.enterPage_kept (s : State) (v : Fin 8) (p f : Nat) (l : List Byte)
    (hk : Kept kp kf kn km kq s) : Kept kp kf kn km kq (State.enterPage s v p f l) := by
  exact State.onSilt_mem_kept _ _ (fun h => memWriteN_wf _ _ _ h) id (State.putFrame_kept _ _ _ hk)

theorem State.faultsOver_kept (s : State) (v : Fin 8) (p : Nat)
    (hk : Kept kp kf kn km kq s) : Kept kp kf kn km kq (State.faultsOver s v p) := by
  unfold State.faultsOver
  repeat' first
    | with_reducible assumption
    | with_reducible intro _
    | (with_reducible refine State.onVi_kept _ _ _ ?_)
    | (with_reducible refine State.onSilt_mem_kept _ _ ?_ ?_ ?_)

theorem State.keepPage_kept (s : State) (d : Decode) (l : List Byte)
    (hk : Kept kp kf kn km kq s) : Kept kp kf kn km kq (State.keepPage s d l) := by
  unfold State.keepPage
  repeat' first
    | with_reducible assumption
    | (with_reducible refine Kept.ite ?_ ?_)
    | (with_reducible refine State.takeFrame_kept _ _ _ ?_)
    | (with_reducible refine State.enterPage_kept _ _ _ _ _ ?_)
    | (with_reducible refine State.faultsOver_kept _ _ _ ?_)
    | dsimp only [id]
    | split

theorem State.raiseDecodeFail_kept (s : State) (v : Fin 8) (band : Nat) (check : Nat)
    (hk : Kept kp kf kn km kq s) : Kept kp kf kn km kq (State.raiseDecodeFail s v band check) := by
  unfold State.raiseDecodeFail
  extract_lets aux
  try clear_value aux
  repeat' first
    | with_reducible assumption
    | with_reducible intro _
    | (with_reducible refine Kept.ite ?_ ?_)
    | (with_reducible refine State.raise0_kept _ _ _ _ ?_)
    | (with_reducible refine State.raiseVi_kept _ _ _ _ _ ?_)
    | (with_reducible refine State.onMarl_kept _ _ ?_)

theorem State.decodeFails_kept (s : State) (v : Fin 8) (band : Nat) (check : Nat)
    (hk : Kept kp kf kn km kq s) : Kept kp kf kn km kq (State.decodeFails s v band check) := by
  unfold State.decodeFails
  repeat' first
    | with_reducible assumption
    | with_reducible intro _
    | (with_reducible refine Kept.ite ?_ ?_)
    | (with_reducible refine State.onSilt_kept _ _ ?_ ?_ ?_)
    | (with_reducible refine State.onSilt_mem_kept _ _ ?_ ?_ ?_)
    | (with_reducible refine State.raiseDecodeFail_kept _ _ _ _ ?_)
    | rfl

theorem State.endDecode_kept (s : State)
    (hk : Kept kp kf kn km kq s) : Kept kp kf kn km kq (State.endDecode s) := by
  unfold State.endDecode
  repeat' first
    | with_reducible assumption
    | with_reducible intro _
    | (with_reducible refine Kept.ite ?_ ?_)
    | (with_reducible refine State.onSilt_kept _ _ ?_ ?_ ?_)
    | (with_reducible refine State.onSilt_mem_kept _ _ ?_ ?_ ?_)
    | rfl

theorem State.finishFreed_kept (s : State) (d : Decode) (l : List Byte)
    (hk : Kept kp kf kn km kq s) : Kept kp kf kn km kq (State.finishFreed s d l) := by
  unfold State.finishFreed
  repeat' first
    | with_reducible assumption
    | with_reducible intro _
    | (with_reducible refine Kept.ite ?_ ?_)
    | (with_reducible refine State.raiseDecodeFail_kept _ _ _ _ ?_)
    | (with_reducible refine State.endDecode_kept _ ?_)
    | rfl
    | split

theorem State.finishPage_kept (s : State) (d : Decode)
    (hk : Kept kp kf kn km kq s) : Kept kp kf kn km kq (State.finishPage s d) := by
  unfold State.finishPage
  repeat' first
    | with_reducible assumption
    | with_reducible intro _
    | (with_reducible refine Kept.ite ?_ ?_)
    | (with_reducible refine State.onSilt_kept _ _ ?_ ?_ ?_)
    | (with_reducible refine State.onSilt_mem_kept _ _ ?_ ?_ ?_)
    | (with_reducible refine State.endDecode_kept _ ?_)
    | (with_reducible refine State.refreshHeads_kept _ ?_)
    | (with_reducible refine State.decodeFails_kept _ _ _ _ ?_)
    | (with_reducible refine State.keepPage_kept _ _ _ ?_)
    | rfl
    | split

theorem State.writeDiscard_kept (s : State) (v : Fin 8) (x : Par)
    (hk : Kept kp kf kn km kq s) : Kept kp kf kn km kq (State.writeDiscard s v x).1 := by
  unfold State.writeDiscard
  repeat' first
    | with_reducible assumption
    | with_reducible intro _
    | (with_reducible refine foldl_kept ?_ ?_)
    | (with_reducible refine State.dropBand_kept _ _ _ ?_)
    | (with_reducible refine State.refreshHeads_kept _ ?_)
    | (with_reducible refine State.drainAll_kept _ ?_)
    | (with_reducible refine State.discardBlock_kept _ _ _ ?_)
    | dsimp only [id]
    | split

theorem State.writeArbApply_kept (s : State) (x : Par)
    (hk : Kept kp kf kn km kq s) : Kept kp kf kn km kq (State.writeArbApply s x).1 := by
  unfold State.writeArbApply
  repeat' first
    | with_reducible assumption
    | with_reducible intro _
    | (with_reducible refine State.raise0_kept _ _ _ _ ?_)
    | (with_reducible refine State.onSilt_mem_kept _ _ ?_ ?_ ?_)
    | dsimp only [id]
    | split

theorem State.arbClocks_kept (s : State) (n : Nat)
    (hk : Kept kp kf kn km kq s) : Kept kp kf kn km kq (State.arbClocks s n) := by
  unfold State.arbClocks
  extract_lets a b s1
  try clear_value a
  try clear_value b
  have hk_s1 : Kept kp kf kn km kq s1 := by
    dsimp only [s1]
    repeat' first
      | with_reducible assumption
      | with_reducible intro _
      | (with_reducible refine Kept.ite ?_ ?_)
      | (with_reducible refine State.onSilt_kept _ _ ?_ ?_ ?_)
      | (with_reducible refine State.onSilt_mem_kept _ _ ?_ ?_ ?_)
      | (with_reducible refine State.raise0_kept _ _ _ _ ?_)
      | rfl
  try clear_value s1
  repeat' first
    | with_reducible assumption
    | with_reducible intro _
    | (with_reducible refine Kept.ite ?_ ?_)
    | (with_reducible refine State.onSilt_kept _ _ ?_ ?_ ?_)
    | (with_reducible refine State.onSilt_mem_kept _ _ ?_ ?_ ?_)
    | (with_reducible refine State.raise0_kept _ _ _ _ ?_)

theorem State.arbMicro_kept (s : State)
    (hk : Kept kp kf kn km kq s) : Kept kp kf kn km kq (State.arbMicro s) := by
  unfold State.arbMicro
  repeat' first
    | with_reducible assumption
    | with_reducible intro _
    | (with_reducible refine Kept.ite ?_ ?_)
    | (with_reducible refine State.arbClocks_kept _ _ ?_)

theorem State.memoryLost_kept (s : State)
    (hk : Kept kp kf kn km kq s) : Kept kp kf kn km kq (State.memoryLost s) := by
  unfold State.memoryLost
  extract_lets total s1 s2 s3 s4
  try clear_value total
  have hk_s1 : Kept kp kf kn km kq s1 := by
    dsimp only [s1]
    repeat' first
      | with_reducible assumption
      | with_reducible intro _
      | (with_reducible refine Kept.ite ?_ ?_)
      | (with_reducible refine foldl_kept ?_ ?_)
      | (with_reducible refine State.raiseVi_kept _ _ _ _ _ ?_)
  try clear_value s1
  have hk_s2 : Kept kp kf kn km kq s2 := by
    dsimp only [s2]
    repeat' first
      | with_reducible assumption
      | (with_reducible refine State.raise0_kept _ _ _ _ ?_)
  try clear_value s2
  have hk_s3 : Kept kp kf kn km kq s3 := by
    dsimp only [s3]
    repeat' first
      | with_reducible assumption
      | with_reducible intro _
      | (with_reducible refine Kept.ite ?_ ?_)
      | (with_reducible refine foldl_kept ?_ ?_)
      | (with_reducible refine State.onLink_kept _ _ ?_)
      | (with_reducible refine State.sendResult_kept _ _ _ _ _ _ _ ?_)
      | split
  try clear_value s3
  have hk_s4 : Kept kp kf kn km kq s4 := by
    dsimp only [s4]
    repeat' first
      | with_reducible assumption
      | with_reducible intro _
      | (with_reducible refine State.onSilt_mem_kept _ _ ?_ ?_ ?_)
      | dsimp only [id]
      | (guard_target =~ (_ = _); rfl)
  try clear_value s4
  repeat' first
    | with_reducible assumption
    | (with_reducible refine State.onMarl_kept _ _ ?_)
    | (with_reducible refine State.refreshHeads_kept _ ?_)
    | (with_reducible refine State.pruneFaults_kept _ ?_)

end Sys2Proof.Machine
end

