-- ==== Sys2Proof/Laws/KeptIsland.lean ====
section
/-! SUPPORT. One lemma for each operation on a state, of the island, the legal records and the management core:
it keeps what no command undoes (`Kept` of Safety): fuses, rollback, audit, the waiting queue, bounds and
canonical forms. -/

namespace Sys2Proof.Machine

variable {kp : Part} {kf : Fuses} {kn km : Nat} {kq : List Instr}

/-! ### Island -/

@[simp] theorem Island.setZero_audit (i : Island) (z : Int) : (i.setZero z).audit = i.audit := rfl

@[simp] theorem Island.takeResult_audit (i : Island) (sig : Vector (BitVec 24) 4) (sns drv : BitVec 24) : (i.takeResult sig sns drv).audit = i.audit := rfl

@[simp] theorem Island.countRuns_audit (i : Island) (sns drv : BitVec 24) : (i.countRuns sns drv).audit = i.audit := rfl

@[simp] theorem Island.cellTests_audit (i : Island) (w : Word) : (i.cellTests w).audit = i.audit := by
  unfold Island.cellTests
  dsimp only
  repeat' split
  all_goals rfl

@[simp] theorem Island.loseZero_audit (i : Island) : i.loseZero.audit = i.audit := rfl

@[simp] theorem Island.fresh_audit (i : Island) : i.fresh.audit = i.audit := rfl

@[simp] theorem Island.initialZero_audit (i : Island) : i.initialZero.audit = i.audit := by
  unfold Island.initialZero
  dsimp only
  split <;> rfl

@[simp] theorem Island.track_audit (i : Island) (now : Nat) : (i.track now).audit = i.audit := by
  unfold Island.track
  dsimp only
  repeat' split
  all_goals rfl

@[simp] theorem Island.correct_audit (i : Island) (n : Fin 5) (o g t : Int) : (i.correct n o g t).audit = i.audit := rfl

@[simp] theorem Island.swapSlice_audit (i : Island) (n : Fin 5) : (i.swapSlice n).audit = i.audit := rfl

@[simp] theorem Island.rotate_audit (i : Island) : i.rotate.audit = i.audit := by
  unfold Island.rotate
  repeat' split
  all_goals first
    | rfl

@[simp] theorem Island.markPrinted_audit (i : Island) (q : BitVec 32) : (i.markPrinted q).audit = i.audit := rfl

@[simp] theorem Island.markAll_audit (l : List (BitVec 32)) (i : Island) : (l.foldl Island.markPrinted i).audit = i.audit := by
  induction l generalizing i with
  | nil => rfl
  | cons a t ih => simp [ih]

@[simp] theorem Island.evaluate_audit (i : Island) (sns drv : BitVec 24) (k : Int) (z r : List (Fin 5 × Rat)) (now : Nat) :
    (i.evaluate sns drv k z r now).audit = i.audit := by
  unfold Island.evaluate
  extract_lets i1 w i2 fault c i3 i4 i5
  have h1 : i1.audit = i.audit := rfl
  have h2 : i2.audit = i.audit := by rw [← h1]; exact Island.cellTests_audit _ _
  have h3 : i3.audit = i.audit := by dsimp only [i3]; split <;> exact h2
  have h4 : i4.audit = i.audit := h3
  have h5 : i5.audit = i.audit := by dsimp only [i5]; split <;> simpa using h4
  split
  · simpa using h5
  · simpa using h5

theorem State.islandEvent_kept (s : State) (holder : Bool) (code : Byte) (aux : Byte) (payload : Word)
    (hk : Kept kp kf kn km kq s) : Kept kp kf kn km kq (State.islandEvent s holder code aux payload) := by
  unfold State.islandEvent
  repeat' first
    | with_reducible assumption
    | (with_reducible refine Kept.ite ?_ ?_)
    | (with_reducible refine State.raise0_kept _ _ _ _ ?_)
    | (with_reducible refine State.raiseBoth_kept _ _ _ _ _ ?_)

theorem State.setIsland_kept (s : State) (st : IslandState)
    (hk : Kept kp kf kn km kq s) : Kept kp kf kn km kq (State.setIsland s st) := by
  unfold State.setIsland
  repeat' first
    | with_reducible assumption
    | with_reducible rfl
    | (with_reducible refine Kept.ite ?_ ?_)
    | (with_reducible refine State.onLegal_kept _ _ ?_)
    | (with_reducible refine State.islandEvent_kept _ _ _ _ _ ?_)
    | (with_reducible refine State.onIsland_kept _ _ ?_ ?_)

theorem State.settleIsland_kept (s : State)
    (hk : Kept kp kf kn km kq s) : Kept kp kf kn km kq (State.settleIsland s) := by
  unfold State.settleIsland
  repeat' first
    | with_reducible assumption
    | (with_reducible refine State.setIsland_kept _ _ ?_)
    | dsimp only [id]
    | split

theorem State.inhibitEvent_kept (s : State) (before : Word)
    (hk : Kept kp kf kn km kq s) : Kept kp kf kn km kq (State.inhibitEvent s before) := by
  unfold State.inhibitEvent
  repeat' first
    | with_reducible assumption
    | (with_reducible refine Kept.ite ?_ ?_)
    | (with_reducible refine State.islandEvent_kept _ _ _ _ _ ?_)

theorem State.beginCause_kept (s : State) (f : Island → Island) (hf : (f s.island).audit = s.island.audit)
    (hk : Kept kp kf kn km kq s) : Kept kp kf kn km kq (State.beginCause s f) := by
  unfold State.beginCause
  exact State.settleIsland_kept _ (State.inhibitEvent_kept _ _ (State.onIsland_kept _ _ hf hk))

theorem State.beginSelfTest_kept (s : State)
    (hk : Kept kp kf kn km kq s) : Kept kp kf kn km kq (State.beginSelfTest s) := by
  unfold State.beginSelfTest
  repeat' first
    | with_reducible assumption
    | with_reducible rfl
    | (with_reducible refine State.setIsland_kept _ _ ?_)
    | (with_reducible refine State.onIsland_kept _ _ ?_ ?_)

theorem State.noData_kept (s : State)
    (hk : Kept kp kf kn km kq s) : Kept kp kf kn km kq (State.noData s).2 := by
  unfold State.noData
  repeat' first
    | with_reducible assumption
    | (with_reducible refine State.draw_kept _ ?_)

theorem State.issueDone_kept (s : State) (c : LegCommand) (h : Fin 4) (rsp : Byte) (rec : Option Record)
    (hk : Kept kp kf kn km kq s) : Kept kp kf kn km kq (State.issueDone s c h rsp rec) := by
  unfold State.issueDone
  repeat' first
    | with_reducible assumption
    | (with_reducible refine Kept.ite ?_ ?_)
    | (with_reducible refine State.onJob_kept _ _ _ ?_)
    | (with_reducible refine State.onLoamHead_kept _ _ _ ?_)
    | (with_reducible refine State.onHead_kept _ _ _ ?_)
    | (with_reducible refine State.raiseVi_kept _ _ _ _ _ ?_)
    | (with_reducible refine State.stopJob_kept _ _ _ _ ?_)
    | (with_reducible refine State.startJob_kept _ _ _ _ ?_)
    | (with_reducible refine State.issueAnswer_kept _ _ _ _ ?_)
    | dsimp only [id]
    | split

theorem State.printedDone_kept (s : State) (c : LegCommand) (h : Fin 4) (rsp : Byte)
    (hk : Kept kp kf kn km kq s) : Kept kp kf kn km kq (State.printedDone s c h rsp) := by
  unfold State.printedDone
  repeat' first
    | with_reducible assumption
    | (with_reducible refine Kept.ite ?_ ?_)
    | (with_reducible refine State.onRun_kept _ _ _ ?_)
    | (with_reducible refine State.afterCut_kept _ _ ?_)
    | split

theorem State.answerLegal_kept (s : State) (c : LegCommand) (rsp : Byte) (data : Option (Vector Word 4)) (rec : Option Record)
    (hk : Kept kp kf kn km kq s) : Kept kp kf kn km kq (State.answerLegal s c rsp data rec) := by
  unfold State.answerLegal
  repeat' first
    | with_reducible assumption
    | with_reducible rfl
    | (with_reducible refine Kept.ite ?_ ?_)
    | (with_reducible refine State.noData_kept _ ?_)
    | (with_reducible refine State.issueDone_kept _ _ _ _ _ ?_)
    | (with_reducible refine State.printedDone_kept _ _ _ _ ?_)
    | (with_reducible refine State.onIsland_kept _ _ ?_ ?_)
    | dsimp only [id]
    | split

theorem State.legAnswer_kept (s : State) (v : Fin 8) (rsp : Byte) (tag : BitVec 4)
    (hk : Kept kp kf kn km kq s) : Kept kp kf kn km kq (State.legAnswer s v rsp tag) := by
  unfold State.legAnswer
  repeat' first
    | with_reducible assumption
    | (with_reducible refine State.onVi_kept _ _ _ ?_)
    | (with_reducible refine State.raiseVi_kept _ _ _ _ _ ?_)

theorem State.writeLegCmd_kept (s : State) (v : Fin 8) (x : Word)
    (hk : Kept kp kf kn km kq s) : Kept kp kf kn km kq (State.writeLegCmd s v x) := by
  unfold State.writeLegCmd
  repeat' first
    | with_reducible assumption
    | (with_reducible refine Kept.ite ?_ ?_)
    | (with_reducible refine State.onVi_kept _ _ _ ?_)
    | (with_reducible refine State.onLegal_kept _ _ ?_)
    | (with_reducible refine State.sendLegal_kept _ _ ?_)
    | (with_reducible refine State.legAnswer_kept _ _ _ _ ?_)
    | dsimp only [id]
    | split

theorem State.orphanLegal_kept (s : State) (t : LegSource → Bool)
    (hk : Kept kp kf kn km kq s) : Kept kp kf kn km kq (State.orphanLegal s t) := by
  unfold State.orphanLegal
  repeat' first
    | with_reducible assumption
    | with_reducible rfl
    | (with_reducible refine State.onIsland_kept _ _ ?_ ?_)

theorem State.dropOrphanRsp_kept (s : State)
    (hk : Kept kp kf kn km kq s) : Kept kp kf kn km kq (State.dropOrphanRsp s) := by
  unfold State.dropOrphanRsp
  repeat' first
    | with_reducible assumption
    | with_reducible rfl
    | (with_reducible refine State.onIsland_kept _ _ ?_ ?_)

theorem State.takeLegal_kept (s : State) (t : LegCommand → Bool) (f : LegCommand → State → State)
    (hk_f : ∀ hf_0 hf_1, Kept kp kf kn km kq hf_1 → Kept kp kf kn km kq (f hf_0 hf_1))
    (hk : Kept kp kf kn km kq s) : Kept kp kf kn km kq (State.takeLegal s t f) := by
  unfold State.takeLegal
  repeat' first
    | with_reducible assumption
    | with_reducible rfl
    | (with_reducible refine Kept.ite ?_ ?_)
    | (with_reducible refine hk_f _ _ ?_)
    | (with_reducible refine State.onIsland_kept _ _ ?_ ?_)
    | dsimp only [id]
    | split

theorem awaitResult_kept (c : LegCommand) (s : State)
    (hk : Kept kp kf kn km kq s) : Kept kp kf kn km kq (awaitResult c s) := by
  unfold awaitResult
  repeat' first
    | with_reducible assumption
    | with_reducible rfl
    | (with_reducible refine State.onIsland_kept _ _ ?_ ?_)

theorem refuseLegal_kept (rsp : Byte) (c : LegCommand) (s : State)
    (hk : Kept kp kf kn km kq s) : Kept kp kf kn km kq (refuseLegal rsp c s) := by
  unfold refuseLegal
  repeat' first
    | with_reducible assumption
    | with_reducible rfl
    | (with_reducible refine State.answerLegal_kept _ _ _ _ _ ?_)
    | (with_reducible refine State.onIsland_kept _ _ ?_ ?_)

theorem State.decideZero_kept (s : State) (c : LegCommand)
    (hk : Kept kp kf kn km kq s) : Kept kp kf kn km kq (State.decideZero s c) := by
  unfold State.decideZero
  repeat' first
    | with_reducible assumption
    | (with_reducible refine Kept.ite ?_ ?_)
    | (with_reducible refine State.answerLegal_kept _ _ _ _ _ ?_)
    | (with_reducible refine State.onIsland_kept _ _ ?_ ?_)
    | (guard_target =~ (_ = _); rfl)

theorem State.decideTare_kept (s : State) (c : LegCommand)
    (hk : Kept kp kf kn km kq s) : Kept kp kf kn km kq (State.decideTare s c) := by
  unfold State.decideTare
  repeat' first
    | with_reducible assumption
    | with_reducible rfl
    | (with_reducible refine Kept.ite ?_ ?_)
    | (with_reducible refine State.answerLegal_kept _ _ _ _ _ ?_)
    | (with_reducible refine State.onIsland_kept _ _ ?_ ?_)

theorem State.decideIssue_kept (s : State) (c : LegCommand)
    (hk : Kept kp kf kn km kq s) : Kept kp kf kn km kq (State.decideIssue s c) := by
  unfold State.decideIssue
  repeat' first
    | with_reducible assumption
    | with_reducible rfl
    | (with_reducible refine Kept.ite ?_ ?_)
    | (with_reducible refine State.answerLegal_kept _ _ _ _ _ ?_)
    | (with_reducible refine State.onIsland_kept _ _ ?_ ?_)
    | dsimp only [id]
    | split

theorem State.decideLegal_kept (s : State)
    (hk : Kept kp kf kn km kq s) : Kept kp kf kn km kq (State.decideLegal s) := by
  unfold State.decideLegal
  repeat' first
    | with_reducible assumption
    | with_reducible rfl
    | (with_reducible refine Kept.ite ?_ ?_)
    | (with_reducible refine State.answerLegal_kept _ _ _ _ _ ?_)
    | (with_reducible refine State.decideZero_kept _ _ ?_)
    | (with_reducible refine State.decideTare_kept _ _ ?_)
    | (with_reducible refine State.decideIssue_kept _ _ ?_)
    | (with_reducible refine State.onIsland_kept _ _ ?_ ?_)
    | dsimp only [id]
    | split

theorem State.commitHeld_kept (s : State)
    (hk : Kept kp kf kn km kq s) : Kept kp kf kn km kq (State.commitHeld s) := by
  unfold State.commitHeld
  repeat' first
    | with_reducible assumption
    | (with_reducible refine Kept.ite ?_ ?_)
    | (with_reducible refine State.onIsland_kept _ _ ?_ ?_)
    | dsimp only [id]
    | (guard_target =~ (_ = _); simp)

theorem State.ukSend_kept (s : State) (t : String)
    (hk : Kept kp kf kn km kq s) : Kept kp kf kn km kq (State.ukSend s t) := by
  unfold State.ukSend
  repeat' first
    | with_reducible assumption
    | with_reducible rfl
    | (with_reducible refine State.onIsland_kept _ _ ?_ ?_)

theorem State.showFrame_kept (s : State)
    (hk : Kept kp kf kn km kq s) : Kept kp kf kn km kq (State.showFrame s) := by
  unfold State.showFrame
  repeat' first
    | with_reducible assumption
    | with_reducible rfl
    | (with_reducible refine State.onIsland_kept _ _ ?_ ?_)

theorem State.sealEvent_kept (s : State) (isOpen : Bool)
    (hk : Kept kp kf kn km kq s) : Kept kp kf kn km kq (State.sealEvent s isOpen) := by
  unfold State.sealEvent
  repeat' first
    | with_reducible assumption
    | (with_reducible refine Kept.ite ?_ ?_)
    | (with_reducible refine State.islandEvent_kept _ _ _ _ _ ?_)

theorem State.auditChange_kept (s : State) (index : Word) (kind : Byte) (old new : Par)
    (hk : Kept kp kf kn km kq s) : Kept kp kf kn km kq (State.auditChange s index kind old new) := by
  unfold State.auditChange
  refine State.islandEvent_kept _ _ _ _ _ ⟨hk.1, ?_, hk.3, hk.4, hk.5, hk.6⟩
  have h := hk.2
  simp only [State.onIsland_island]
  unfold satInc
  split
  · exact h
  · next hne =>
    rw [BitVec.toNat_add]
    have hl : s.island.audit.toNat < 2 ^ 32 := s.island.audit.isLt
    have hn : s.island.audit.toNat ≠ 2 ^ 32 - 1 := fun e => hne (BitVec.eq_of_toNat_eq (by simpa using e))
    have : (1 : BitVec 32).toNat = 1 := rfl
    omega

theorem State.activateImage_kept (s : State)
    (hk : Kept kp kf kn km kq s) : Kept kp kf kn km kq (State.activateImage s) := by
  unfold State.activateImage
  repeat' first
    | with_reducible assumption
    | with_reducible rfl
    | (with_reducible refine State.auditChange_kept _ _ _ _ _ ?_)
    | (with_reducible refine State.onIsland_kept _ _ ?_ ?_)
    | dsimp only [id]
    | split

theorem State.logEpochs_kept (s : State) (m : MainImage) (l : Option LegalImage) (result : Nat) (forced : Bool)
    (hk : Kept kp kf kn km kq s) : Kept kp kf kn km kq (State.logEpochs s m l result forced) := by
  unfold State.logEpochs
  repeat' first
    | with_reducible assumption
    | (with_reducible refine State.logRecord_kept _ _ _ _ _ _ ?_)

theorem State.writeDupHi_kept (s : State) (v : Fin 8) (x : Word)
    (hk : Kept kp kf kn km kq s) : Kept kp kf kn km kq (State.writeDupHi s v x) := by
  unfold State.writeDupHi
  repeat' first
    | with_reducible assumption
    | (with_reducible refine Kept.ite ?_ ?_)
    | (with_reducible refine State.onVi_kept _ _ _ ?_)

/-! ### Mgmt -/

theorem State.onMgmtBuf_kept (s : State) (f : Mgmt → Mgmt)
    (h : (f s.mgmt).rollback = s.mgmt.rollback) (h2 : Memory.wf s.mgmt.buf = true → Memory.wf (f s.mgmt).buf = true)
    (h3 : Memory.wf s.mgmt.u0Buf = true → Memory.wf (f s.mgmt).u0Buf = true) (hk : Kept kp kf kn km kq s) :
    Kept kp kf kn km kq (s.onMgmt f) :=
  ⟨by have := hk.1; unfold FusedAs at *; simpa [h], hk.2, hk.3, hk.4, hk.5, ⟨hk.6.1, hk.6.2.1, h2 hk.6.2.2.1, h3 hk.6.2.2.2⟩⟩

@[simp] theorem Mgmt.commitRecord_rollback (m : Mgmt) (r : LogRecord) (e : Bool) : (m.commitRecord r e).rollback = m.rollback := by
  unfold Mgmt.commitRecord
  dsimp only
  repeat' split
  all_goals rfl

@[simp] theorem Mgmt.commitRecord_buf (m : Mgmt) (r : LogRecord) (e : Bool) : (m.commitRecord r e).buf = m.buf := by
  unfold Mgmt.commitRecord
  dsimp only
  repeat' split
  all_goals rfl

@[simp] theorem Mgmt.commitRecord_u0Buf (m : Mgmt) (r : LogRecord) (e : Bool) : (m.commitRecord r e).u0Buf = m.u0Buf := by
  unfold Mgmt.commitRecord
  dsimp only
  repeat' split
  all_goals rfl

theorem State.mbAnswer_kept (s : State) (q : MbCommand) (rsp : Byte) (data : List Nat)
    (hk : Kept kp kf kn km kq s) : Kept kp kf kn km kq (State.mbAnswer s q rsp data) := by
  unfold State.mbAnswer
  repeat' first
    | with_reducible assumption
    | with_reducible rfl
    | (with_reducible refine State.draw_kept _ ?_)
    | (with_reducible refine State.onMgmt_kept _ _ ?_ ?_ ?_ ?_)

theorem State.mbRefuse_kept (s : State) (q : MbCommand) (rsp : Byte)
    (hk : Kept kp kf kn km kq s) : Kept kp kf kn km kq (State.mbRefuse s q rsp) := by
  unfold State.mbRefuse
  repeat' first
    | with_reducible assumption
    | (with_reducible refine State.mbAnswer_kept _ _ _ _ ?_)

theorem State.u0Send_kept (s : State) (t : String) (data : List Byte)
    (hk : Kept kp kf kn km kq s) : Kept kp kf kn km kq (State.u0Send s t data) := by
  unfold State.u0Send
  repeat' first
    | with_reducible assumption
    | with_reducible rfl
    | (with_reducible refine State.onMgmt_kept _ _ ?_ ?_ ?_ ?_)

theorem State.mbDeliver_kept (s : State) (a : MbAnswer)
    (hk : Kept kp kf kn km kq s) : Kept kp kf kn km kq (State.mbDeliver s a) := by
  unfold State.mbDeliver
  repeat' first
    | with_reducible assumption
    | with_reducible rfl
    | (with_reducible refine State.raise0_kept _ _ _ _ ?_)
    | (with_reducible refine State.u0Send_kept _ _ _ ?_)
    | (with_reducible refine State.onMgmt_kept _ _ ?_ ?_ ?_ ?_)
    | dsimp only [id]
    | split

theorem State.mbBusyNow_kept (s : State) (q : MbCommand)
    (hk : Kept kp kf kn km kq s) : Kept kp kf kn km kq (State.mbBusyNow s q) := by
  unfold State.mbBusyNow
  extract_lets a s1
  try clear_value a
  have hk_s1 : Kept kp kf kn km kq s1 := by
    dsimp only [s1]
    repeat' first
      | with_reducible assumption
      | (with_reducible refine State.mbRefuse_kept _ _ _ ?_)
  try clear_value s1
  repeat' first
    | with_reducible assumption
    | with_reducible rfl
    | (with_reducible refine State.mbDeliver_kept _ _ ?_)
    | (with_reducible refine State.onMgmt_kept _ _ ?_ ?_ ?_ ?_)
    | split

theorem State.writeMwCmd_kept (s : State) (v : Word)
    (hk : Kept kp kf kn km kq s) : Kept kp kf kn km kq (State.writeMwCmd s v) := by
  unfold State.writeMwCmd
  repeat' first
    | with_reducible assumption
    | with_reducible rfl
    | (with_reducible refine Kept.ite ?_ ?_)
    | (with_reducible refine State.mbBusyNow_kept _ _ ?_)
    | (with_reducible refine State.onMgmt_kept _ _ ?_ ?_ ?_ ?_)

theorem State.mbServe_kept (s : State) (line : Option MLine) (t : Byte → Bool) (f : MbCommand → State → State)
    (hk_f : ∀ hf_0 hf_1, Kept kp kf kn km kq hf_1 → Kept kp kf kn km kq (f hf_0 hf_1))
    (hk : Kept kp kf kn km kq s) : Kept kp kf kn km kq (State.mbServe s line t f) := by
  unfold State.mbServe
  repeat' first
    | with_reducible assumption
    | (with_reducible refine Kept.ite ?_ ?_)
    | (with_reducible refine hk_f _ _ ?_)
    | (with_reducible refine State.mbBusyNow_kept _ _ ?_)
    | dsimp only [id]
    | split

theorem State.mbOpen_kept (f : MbCommand → State → State) (q : MbCommand) (s : State)
    (hk_f : ∀ hf_0 hf_1, Kept kp kf kn km kq hf_1 → Kept kp kf kn km kq (f hf_0 hf_1))
    (hk : Kept kp kf kn km kq s) : Kept kp kf kn km kq (State.mbOpen f q s) := by
  unfold State.mbOpen
  repeat' first
    | with_reducible assumption
    | (with_reducible refine Kept.ite ?_ ?_)
    | (with_reducible refine hk_f _ _ ?_)
    | (with_reducible refine State.mbRefuse_kept _ _ _ ?_)

theorem State.mbFill_kept (s : State) (src : MbSource) (l : List Par)
    (hk : Kept kp kf kn km kq s) : Kept kp kf kn km kq (State.mbFill s src l) := by
  unfold State.mbFill
  refine State.onMgmtBuf_kept _ _ ?_ ?_ ?_ hk
  · cases src <;> rfl
  · cases src
    · exact memWriteN_wf _ _ _
    · exact id
  · cases src
    · exact id
    · exact memWriteN_wf _ _ _

theorem State.mbLogRead_kept (q : MbCommand) (s : State)
    (hk : Kept kp kf kn km kq s) : Kept kp kf kn km kq (State.mbLogRead q s) := by
  unfold State.mbLogRead
  repeat' first
    | with_reducible assumption
    | (with_reducible refine Kept.ite ?_ ?_)
    | (with_reducible refine State.draw_kept _ ?_)
    | (with_reducible refine State.mbAnswer_kept _ _ _ _ ?_)
    | (with_reducible refine State.mbRefuse_kept _ _ _ ?_)
    | (with_reducible refine State.mbFill_kept _ _ _ ?_)

theorem State.confirmImage_kept (s : State)
    (hk : Kept kp kf kn km kq s) : Kept kp kf kn km kq (State.confirmImage s) := by
  unfold State.confirmImage
  repeat' first
    | with_reducible assumption
    | with_reducible rfl
    | (with_reducible refine State.raise0_kept _ _ _ _ ?_)
    | (with_reducible refine State.onAo_kept _ _ ?_ ?_)
    | (with_reducible refine State.onMgmt_kept _ _ ?_ ?_ ?_ ?_)

theorem State.mbConfirm_kept (q : MbCommand) (s : State)
    (hk : Kept kp kf kn km kq s) : Kept kp kf kn km kq (State.mbConfirm q s) := by
  unfold State.mbConfirm
  repeat' first
    | with_reducible assumption
    | (with_reducible refine Kept.ite ?_ ?_)
    | (with_reducible refine State.mbAnswer_kept _ _ _ _ ?_)
    | (with_reducible refine State.mbRefuse_kept _ _ _ ?_)
    | (with_reducible refine State.confirmImage_kept _ ?_)

theorem State.mbRollback_kept (q : MbCommand) (s : State)
    (hk : Kept kp kf kn km kq s) : Kept kp kf kn km kq (State.mbRollback q s) := by
  unfold State.mbRollback
  have hr := State.mbRefuse_kept (kp := kp) (kf := kf) (kn := kn) (km := km) (kq := kq)
  refine Kept.ite (hr _ _ _ hk) ?_
  split
  · exact hr _ _ _ hk
  · split
    · exact hr _ _ _ hk
    · next i _ hi =>
      refine State.mbAnswer_kept _ _ _ _ (State.raise0_kept _ _ _ _ ⟨?_, hk.2, hk.3, hk.4, hk.5, hk.6⟩)
      obtain ⟨h1, h2, h3, h4⟩ := hk.1
      refine ⟨h1, h2, ?_, ?_⟩ <;> simp only [State.onMgmt_mgmt] <;> unfold sat <;> split <;> omega

theorem State.flashRose_kept (s : State)
    (hk : Kept kp kf kn km kq s) : Kept kp kf kn km kq (State.flashRose s) := by
  unfold State.flashRose
  extract_lets s1
  have hk_s1 : Kept kp kf kn km kq s1 := by
    dsimp only [s1]
    repeat' first
      | with_reducible assumption
      | with_reducible rfl
      | (with_reducible refine Kept.ite ?_ ?_)
      | (with_reducible refine State.onAo_kept _ _ ?_ ?_)
      | (with_reducible refine State.onMgmt_kept _ _ ?_ ?_ ?_ ?_)
  try clear_value s1
  repeat' first
    | with_reducible assumption
    | (with_reducible refine Kept.ite ?_ ?_)
    | (with_reducible refine State.commitHeld_kept _ ?_)
    | (with_reducible refine State.confirmImage_kept _ ?_)

theorem State.setUpdate_kept (s : State) (st : UpdateState)
    (hk : Kept kp kf kn km kq s) : Kept kp kf kn km kq (State.setUpdate s st) := by
  unfold State.setUpdate
  repeat' first
    | with_reducible assumption
    | with_reducible rfl
    | (with_reducible refine Kept.ite ?_ ?_)
    | (with_reducible refine State.raise0_kept _ _ _ _ ?_)
    | (with_reducible refine State.onMgmt_kept _ _ ?_ ?_ ?_ ?_)

theorem State.leaveUpdate_kept (s : State)
    (hk : Kept kp kf kn km kq s) : Kept kp kf kn km kq (State.leaveUpdate s) := by
  unfold State.leaveUpdate
  repeat' first
    | with_reducible assumption
    | (with_reducible refine Kept.ite ?_ ?_)
    | (with_reducible refine State.changeMode_kept _ _ ?_)

theorem State.failSession_kept (s : State)
    (hk : Kept kp kf kn km kq s) : Kept kp kf kn km kq (State.failSession s) := by
  unfold State.failSession
  repeat' first
    | with_reducible assumption
    | with_reducible rfl
    | (with_reducible refine State.setUpdate_kept _ _ ?_)
    | (with_reducible refine State.leaveUpdate_kept _ ?_)
    | (with_reducible refine State.onMgmt_kept _ _ ?_ ?_ ?_ ?_)
    | split

theorem State.invalidateTarget_kept (s : State)
    (hk : Kept kp kf kn km kq s) : Kept kp kf kn km kq (State.invalidateTarget s) := by
  unfold State.invalidateTarget
  repeat' first
    | with_reducible assumption
    | with_reducible rfl
    | (with_reducible refine State.onMgmt_kept _ _ ?_ ?_ ?_ ?_)

theorem State.updAnswer_kept (s : State) (q : MbCommand) (rsp : Byte) (data : List Nat)
    (hk : Kept kp kf kn km kq s) : Kept kp kf kn km kq (State.updAnswer s q rsp data) := by
  unfold State.updAnswer
  repeat' first
    | with_reducible assumption
    | with_reducible rfl
    | (with_reducible refine State.mbAnswer_kept _ _ _ _ ?_)
    | (with_reducible refine State.onMgmt_kept _ _ ?_ ?_ ?_ ?_)

theorem State.flashFell_kept (s : State)
    (hk : Kept kp kf kn km kq s) : Kept kp kf kn km kq (State.flashFell s) := by
  unfold State.flashFell
  repeat' first
    | with_reducible assumption
    | (with_reducible refine State.failSession_kept _ ?_)
    | (with_reducible refine State.invalidateTarget_kept _ ?_)
    | split

theorem State.mbUpdBegin_kept (flash : Bool) (q : MbCommand) (s : State)
    (hk : Kept kp kf kn km kq s) : Kept kp kf kn km kq (State.mbUpdBegin flash q s) := by
  unfold State.mbUpdBegin
  repeat' first
    | with_reducible assumption
    | with_reducible rfl
    | (with_reducible refine Kept.ite ?_ ?_)
    | (with_reducible refine State.changeMode_kept _ _ ?_)
    | (with_reducible refine State.endRaw_kept _ ?_)
    | (with_reducible refine State.mbRefuse_kept _ _ _ ?_)
    | (with_reducible refine State.setUpdate_kept _ _ ?_)
    | (with_reducible refine State.failSession_kept _ ?_)
    | (with_reducible refine State.invalidateTarget_kept _ ?_)
    | (with_reducible refine State.updAnswer_kept _ _ _ _ ?_)
    | (with_reducible refine State.onMgmt_kept _ _ ?_ ?_ ?_ ?_)

theorem State.inSession_kept (f : Session → MbCommand → State → State) (q : MbCommand) (s : State)
    (hk_f : ∀ hf_0 hf_1 hf_2, Kept kp kf kn km kq hf_2 → Kept kp kf kn km kq (f hf_0 hf_1 hf_2))
    (hk : Kept kp kf kn km kq s) : Kept kp kf kn km kq (State.inSession f q s) := by
  unfold State.inSession
  repeat' first
    | with_reducible assumption
    | (with_reducible refine Kept.ite ?_ ?_)
    | (with_reducible refine hk_f _ _ _ ?_)
    | (with_reducible refine State.mbRefuse_kept _ _ _ ?_)
    | split

theorem State.storeImage_kept (s : State) (m : List Byte)
    (hk : Kept kp kf kn km kq s) : Kept kp kf kn km kq (State.storeImage s m) := by
  unfold State.storeImage
  repeat' first
    | with_reducible assumption
    | with_reducible rfl
    | (with_reducible refine State.onMgmt_kept _ _ ?_ ?_ ?_ ?_)

theorem State.mbUpdChunk_kept (flash : Bool) (x : Session) (q : MbCommand) (s : State)
    (hk : Kept kp kf kn km kq s) : Kept kp kf kn km kq (State.mbUpdChunk flash x q s) := by
  unfold State.mbUpdChunk
  repeat' first
    | with_reducible assumption
    | with_reducible rfl
    | (with_reducible refine Kept.ite ?_ ?_)
    | (with_reducible refine State.failSession_kept _ ?_)
    | (with_reducible refine State.updAnswer_kept _ _ _ _ ?_)
    | (with_reducible refine State.storeImage_kept _ _ ?_)
    | (with_reducible refine State.onMgmt_kept _ _ ?_ ?_ ?_ ?_)

theorem State.endFailed_kept (s : State) (q : MbCommand) (rsp : Byte)
    (hk : Kept kp kf kn km kq s) : Kept kp kf kn km kq (State.endFailed s q rsp) := by
  unfold State.endFailed
  repeat' first
    | with_reducible assumption
    | (with_reducible refine State.failSession_kept _ ?_)
    | (with_reducible refine State.invalidateTarget_kept _ ?_)
    | (with_reducible refine State.updAnswer_kept _ _ _ _ ?_)

theorem State.activateMain_kept (s : State) (m : MainImage)
    (hk : Kept kp kf kn km kq s) : Kept kp kf kn km kq (State.activateMain s m) := by
  unfold State.activateMain
  extract_lets a s1
  try clear_value a
  have hk_s1 : Kept kp kf kn km kq s1 := by
    dsimp only [s1]
    repeat' first
      | with_reducible assumption
      | with_reducible rfl
      | (with_reducible refine State.onAo_kept _ _ ?_ ?_)
      | (with_reducible refine State.onMgmt_kept _ _ ?_ ?_ ?_ ?_)
  try clear_value s1
  repeat' first
    | with_reducible assumption
    | (with_reducible refine State.setUpdate_kept _ _ ?_)
    | (with_reducible refine State.leaveUpdate_kept _ ?_)

theorem State.mbUpdEnd_kept (flash : Bool) (x : Session) (q : MbCommand) (s : State)
    (hk : Kept kp kf kn km kq s) : Kept kp kf kn km kq (State.mbUpdEnd flash x q s) := by
  unfold State.mbUpdEnd
  repeat' first
    | with_reducible assumption
    | (with_reducible refine Kept.ite ?_ ?_)
    | (with_reducible refine State.logEpochs_kept _ _ _ _ _ ?_)
    | (with_reducible refine State.setUpdate_kept _ _ ?_)
    | (with_reducible refine State.updAnswer_kept _ _ _ _ ?_)
    | (with_reducible refine State.endFailed_kept _ _ _ ?_)
    | (with_reducible refine State.activateMain_kept _ _ ?_)

theorem State.writeMwBuf_kept (s : State) (v : Word)
    (hk : Kept kp kf kn km kq s) : Kept kp kf kn km kq (State.writeMwBuf s v) := by
  unfold State.writeMwBuf
  exact Kept.ite (State.onMgmtBuf_kept _ _ rfl (memWriteN_wf _ _ _) id hk) hk

theorem State.commitOldest_kept (s : State) (erase : Bool)
    (hk : Kept kp kf kn km kq s) : Kept kp kf kn km kq (State.commitOldest s erase) := by
  unfold State.commitOldest
  split
  · exact hk
  · next r l h =>
    refine Kept.ite hk ?_
    have h1 := State.onMgmt_kept s (fun m => m.commitRecord r erase) (by simp) (by simp) (by simp) hk
    refine ⟨h1.1, h1.2, h1.3, h1.4, ?_, h1.6⟩
    have := hk.5
    unfold RingBounded at *
    rw [h] at this
    exact Nat.le_of_succ_le this

theorem State.commitThermal_kept (s : State)
    (hk : Kept kp kf kn km kq s) : Kept kp kf kn km kq (State.commitThermal s) := by
  unfold State.commitThermal
  repeat' first
    | with_reducible assumption
    | with_reducible rfl
    | (with_reducible refine State.onAnalog_kept _ _ ?_)
    | (with_reducible refine State.raise0_kept _ _ _ _ ?_)
    | (with_reducible refine State.onAo_kept _ _ ?_ ?_)
    | split

end Sys2Proof.Machine
end

