-- ==== Sys2Proof/Laws/KeptHost.lean ====
section
/-! SUPPORT. One lemma for each operation on a state, of the analog block, Grit, the serial ports, the windows and power-down:
it keeps what no command undoes (`Kept` of Safety): fuses, rollback, audit, the waiting queue, bounds and
canonical forms. -/

namespace Sys2Proof.Machine

variable {kp : Part} {kf : Fuses} {kn km : Nat} {kq : List Instr}

/-! ### Analog -/

theorem State.convEvery_kept (s : State) (interval : Nat) (x : Fin 2) (prio : Nat) (number : Nat)
    (hk : Kept kp kf kn km kq s) : Kept kp kf kn km kq (State.convEvery s interval x prio number) := by
  unfold State.convEvery
  repeat' first
    | with_reducible assumption
    | with_reducible intro _
    | (with_reducible refine Kept.ite ?_ ?_)
    | (with_reducible refine State.convDue_kept _ _ _ _ ?_)

theorem State.headDue_kept (s : State) (h : Fin 4)
    (hk : Kept kp kf kn km kq s) : Kept kp kf kn km kq (State.headDue s h) := by
  unfold State.headDue
  extract_lets x s1
  try clear_value x
  have hk_s1 : Kept kp kf kn km kq s1 := by
    dsimp only [s1]
    repeat' first
      | with_reducible assumption
      | with_reducible intro _
      | (with_reducible refine Kept.ite ?_ ?_)
      | (with_reducible refine State.convEvery_kept _ _ _ _ _ ?_)
  try clear_value s1
  repeat' first
    | with_reducible assumption
    | with_reducible intro _
    | (with_reducible refine Kept.ite ?_ ?_)
    | (with_reducible refine State.convEvery_kept _ _ _ _ _ ?_)

theorem State.convMicro_kept (s : State)
    (hk : Kept kp kf kn km kq s) : Kept kp kf kn km kq (State.convMicro s) := by
  unfold State.convMicro
  repeat' first
    | with_reducible assumption
    | with_reducible intro _
    | (with_reducible refine Kept.ite ?_ ?_)
    | (with_reducible refine foldl_kept ?_ ?_)
    | (with_reducible refine State.headDue_kept _ _ ?_)
    | (with_reducible refine State.convEvery_kept _ _ _ _ _ ?_)
    | (with_reducible refine State.convDue_kept _ _ _ _ ?_)

theorem State.adcOff_kept (s : State) (x : Fin 2)
    (hk : Kept kp kf kn km kq s) : Kept kp kf kn km kq (State.adcOff s x) := by
  unfold State.adcOff
  repeat' first
    | with_reducible assumption
    | (with_reducible refine State.setPar_kept _ _ _ _ ?_)

theorem State.adcTrigger_kept (s : State) (x : Fin 2)
    (hk : Kept kp kf kn km kq s) : Kept kp kf kn km kq (State.adcTrigger s x) := by
  unfold State.adcTrigger
  repeat' first
    | with_reducible assumption
    | (with_reducible refine Kept.ite ?_ ?_)
    | (with_reducible refine State.onConv_kept _ _ _ ?_)
    | (with_reducible refine State.raise0_kept _ _ _ _ ?_)

theorem State.adcCtrl_kept (s : State) (x : Fin 2) (v : Par)
    (hk : Kept kp kf kn km kq s) : Kept kp kf kn km kq (State.adcCtrl s x v) := by
  unfold State.adcCtrl
  extract_lets s1
  have hk_s1 : Kept kp kf kn km kq s1 := by
    dsimp only [s1]
    repeat' first
      | with_reducible assumption
      | (with_reducible refine Kept.ite ?_ ?_)
      | (with_reducible refine State.adcTrigger_kept _ _ ?_)
  try clear_value s1
  repeat' first
    | with_reducible assumption
    | (with_reducible refine Kept.ite ?_ ?_)
    | (with_reducible refine State.onConv_kept _ _ _ ?_)
    | (with_reducible refine State.adcOff_kept _ _ ?_)

theorem State.endEntry_kept (s : State) (x : Fin 2)
    (hk : Kept kp kf kn km kq s) : Kept kp kf kn km kq (State.endEntry s x) := by
  unfold State.endEntry
  extract_lets k cfg q word last ends s1 s2
  try clear_value k
  try clear_value cfg
  try clear_value q
  try clear_value word
  try clear_value last
  try clear_value ends
  have hk_s1 : Kept kp kf kn km kq s1 := by
    dsimp only [s1]
    repeat' first
      | with_reducible assumption
      | (with_reducible refine State.onConv_kept _ _ _ ?_)
  try clear_value s1
  have hk_s2 : Kept kp kf kn km kq s2 := by
    dsimp only [s2]
    repeat' first
      | with_reducible assumption
      | (with_reducible refine Kept.ite ?_ ?_)
      | (with_reducible refine State.raise0_kept _ _ _ _ ?_)
  try clear_value s2
  repeat' first
    | with_reducible assumption
    | (with_reducible refine Kept.ite ?_ ?_)
    | (with_reducible refine State.adcOff_kept _ _ ?_)

theorem State.setLevel_kept (s : State) (l : Fin 3)
    (hk : Kept kp kf kn km kq s) : Kept kp kf kn km kq (State.setLevel s l) := by
  unfold State.setLevel
  repeat' first
    | with_reducible assumption
    | (with_reducible refine Kept.ite ?_ ?_)
    | (with_reducible refine State.onAnalog_kept _ _ ?_)
    | (with_reducible refine State.raise0_kept _ _ _ _ ?_)
    | (with_reducible refine State.changeMode_kept _ _ ?_)

theorem State.setFlashOk_kept (s : State) (ok : Bool)
    (hk : Kept kp kf kn km kq s) : Kept kp kf kn km kq (State.setFlashOk s ok) := by
  unfold State.setFlashOk
  repeat' first
    | with_reducible assumption
    | (with_reducible refine Kept.ite ?_ ?_)
    | (with_reducible refine State.onAnalog_kept _ _ ?_)
    | (with_reducible refine State.raise0_kept _ _ _ _ ?_)
    | (with_reducible refine State.flashRose_kept _ ?_)
    | (with_reducible refine State.flashFell_kept _ ?_)

theorem State.supplyEvent_kept (s : State) (k : Fin 8) (before : Bool) (after : Bool) (fault : Bool)
    (hk : Kept kp kf kn km kq s) : Kept kp kf kn km kq (State.supplyEvent s k before after fault) := by
  unfold State.supplyEvent
  repeat' first
    | with_reducible assumption
    | (with_reducible refine Kept.ite ?_ ?_)
    | (with_reducible refine State.raise0_kept _ _ _ _ ?_)

/-! ### Grit -/

theorem State.onSource_kept (s : State) (x : Fin 2) (f : Source → Source)
    (hk : Kept kp kf kn km kq s) : Kept kp kf kn km kq (State.onSource s x f) := by
  unfold State.onSource
  repeat' first
    | with_reducible assumption
    | (with_reducible refine State.onGrit_kept _ _ ?_)

theorem State.gritBlock_kept (s : State) (cause : Nat) (before : Bool)
    (hk : Kept kp kf kn km kq s) : Kept kp kf kn km kq (State.gritBlock s cause before) := by
  unfold State.gritBlock
  repeat' first
    | with_reducible assumption
    | (with_reducible refine Kept.ite ?_ ?_)
    | (with_reducible refine State.onGrit_kept _ _ ?_)
    | (with_reducible refine State.gritBlockEvent_kept _ _ ?_)

theorem State.sourceFails_kept (s : State) (x : Fin 2) (kinds : BitVec 3)
    (hk : Kept kp kf kn km kq s) : Kept kp kf kn km kq (State.sourceFails s x kinds) := by
  unfold State.sourceFails
  repeat' first
    | with_reducible assumption
    | (with_reducible refine Kept.ite ?_ ?_)
    | (with_reducible refine State.onGrit_kept _ _ ?_)
    | (with_reducible refine State.raise0_kept _ _ _ _ ?_)
    | (with_reducible refine State.onSource_kept _ _ _ ?_)
    | (with_reducible refine State.gritBlock_kept _ _ _ ?_)
    | dsimp only [id]
    | split

theorem State.eraseInst_kept (s : State) (v : Fin 8)
    (hk : Kept kp kf kn km kq s) : Kept kp kf kn km kq (State.eraseInst s v) := by
  unfold State.eraseInst
  repeat' first
    | with_reducible assumption
    | (with_reducible refine State.onGrit_kept _ _ ?_)

theorem State.randEmpty_kept (s : State) (w : Fin 9)
    (hk : Kept kp kf kn km kq s) : Kept kp kf kn km kq (State.randEmpty s w) := by
  unfold State.randEmpty
  repeat' first
    | with_reducible assumption
    | (with_reducible refine State.onGrit_kept _ _ ?_)
    | (with_reducible refine State.drive_kept _ _ ?_)

theorem State.startRaw_kept (s : State)
    (hk : Kept kp kf kn km kq s) : Kept kp kf kn km kq (State.startRaw s) := by
  unfold State.startRaw
  repeat' first
    | with_reducible assumption
    | (with_reducible refine Kept.ite ?_ ?_)
    | (with_reducible refine State.onGrit_kept _ _ ?_)
    | (with_reducible refine State.gritBlock_kept _ _ _ ?_)

theorem State.switchSource_kept (s : State)
    (hk : Kept kp kf kn km kq s) : Kept kp kf kn km kq (State.switchSource s) := by
  unfold State.switchSource
  extract_lets x s1
  try clear_value x
  have hk_s1 : Kept kp kf kn km kq s1 := by
    dsimp only [s1]
    repeat' first
      | with_reducible assumption
      | (with_reducible refine State.onSource_kept _ _ _ ?_)
  try clear_value s1
  repeat' first
    | with_reducible assumption
    | (with_reducible refine State.onGrit_kept _ _ ?_)
    | (with_reducible refine State.raise0_kept _ _ _ _ ?_)

theorem State.gritCtrl_kept (s : State) (v : Par)
    (hk : Kept kp kf kn km kq s) : Kept kp kf kn km kq (State.gritCtrl s v) := by
  unfold State.gritCtrl
  extract_lets s1
  have hk_s1 : Kept kp kf kn km kq s1 := by
    dsimp only [s1]
    repeat' first
      | with_reducible assumption
      | (with_reducible refine Kept.ite ?_ ?_)
      | (with_reducible refine State.switchSource_kept _ ?_)
  try clear_value s1
  repeat' first
    | with_reducible assumption
    | (with_reducible refine Kept.ite ?_ ?_)
    | (with_reducible refine State.endRaw_kept _ ?_)
    | (with_reducible refine State.startRaw_kept _ ?_)

theorem State.gritRawCfg_kept (s : State) (v : Par)
    (hk : Kept kp kf kn km kq s) : Kept kp kf kn km kq (State.gritRawCfg s v) := by
  unfold State.gritRawCfg
  repeat' first
    | with_reducible assumption
    | (with_reducible refine State.onGrit_kept _ _ ?_)

/-! ### Serial -/

theorem State.raiseSer_kept (s : State) (p : Fin 3) (code : Byte) (aux : Byte) (payload : Word)
    (hk : Kept kp kf kn km kq s) : Kept kp kf kn km kq (State.raiseSer s p code aux payload) := by
  unfold State.raiseSer
  repeat' first
    | with_reducible assumption
    | (with_reducible refine State.raiseVi_kept _ _ _ _ _ ?_)
    | split

theorem State.reportRate_kept (s : State) (p : Fin 3)
    (hk : Kept kp kf kn km kq s) : Kept kp kf kn km kq (State.reportRate s p) := by
  unfold State.reportRate
  extract_lets cfg q f high s1
  try clear_value cfg
  try clear_value q
  try clear_value f
  try clear_value high
  have hk_s1 : Kept kp kf kn km kq s1 := by
    dsimp only [s1]
    repeat' first
      | with_reducible assumption
      | (with_reducible refine State.onSer_kept _ _ _ ?_)
  try clear_value s1
  repeat' first
    | with_reducible assumption
    | (with_reducible refine Kept.ite ?_ ?_)
    | (with_reducible refine State.raise0_kept _ _ _ _ ?_)
    | (with_reducible refine State.raiseSer_kept _ _ _ _ _ ?_)

theorem State.reportRates_kept (s : State)
    (hk : Kept kp kf kn km kq s) : Kept kp kf kn km kq (State.reportRates s) := by
  unfold State.reportRates
  repeat' first
    | with_reducible assumption
    | with_reducible intro _
    | (with_reducible refine foldl_kept ?_ ?_)
    | (with_reducible refine State.reportRate_kept _ _ ?_)

theorem State.serClock_kept (s : State)
    (hk : Kept kp kf kn km kq s) : Kept kp kf kn km kq (State.serClock s) := by
  unfold State.serClock
  repeat' first
    | with_reducible assumption
    | (with_reducible refine Kept.ite ?_ ?_)
    | (with_reducible refine State.onSerial_kept _ _ ?_)
    | (with_reducible refine State.reportRates_kept _ ?_)

theorem State.serRetrim_kept (s : State) (p : Fin 3)
    (hk : Kept kp kf kn km kq s) : Kept kp kf kn km kq (State.serRetrim s p) := by
  unfold State.serRetrim
  repeat' first
    | with_reducible assumption
    | (with_reducible refine Kept.ite ?_ ?_)
    | (with_reducible refine State.onSer_kept _ _ _ ?_)

theorem State.serNext_kept (s : State) (p : Fin 3)
    (hk : Kept kp kf kn km kq s) : Kept kp kf kn km kq (State.serNext s p) := by
  unfold State.serNext
  repeat' first
    | with_reducible assumption
    | (with_reducible refine Kept.ite ?_ ?_)
    | (with_reducible refine State.onSer_kept _ _ _ ?_)

theorem State.serCount_kept (s : State) (p : Fin 3) (kind : Nat)
    (hk : Kept kp kf kn km kq s) : Kept kp kf kn km kq (State.serCount s p kind) := by
  unfold State.serCount
  extract_lets q first s1
  try clear_value q
  try clear_value first
  have hk_s1 : Kept kp kf kn km kq s1 := by
    dsimp only [s1]
    repeat' first
      | with_reducible assumption
      | (with_reducible refine State.onSer_kept _ _ _ ?_)
  try clear_value s1
  repeat' first
    | with_reducible assumption
    | (with_reducible refine Kept.ite ?_ ?_)
    | (with_reducible refine State.raiseSer_kept _ _ _ _ _ ?_)

theorem State.serWrite_kept (s : State) (v : Fin 8) (p : Fin 3) (x : Word)
    (hk : Kept kp kf kn km kq s) : Kept kp kf kn km kq (State.serWrite s v p x) := by
  unfold State.serWrite
  repeat' first
    | with_reducible assumption
    | (with_reducible refine Kept.ite ?_ ?_)
    | (with_reducible refine State.onSer_kept _ _ _ ?_)
    | (with_reducible refine State.serNext_kept _ _ ?_)
    | (with_reducible refine State.serCount_kept _ _ _ ?_)

theorem State.serCtrl_kept (s : State) (v : Fin 8) (x : Word)
    (hk : Kept kp kf kn km kq s) : Kept kp kf kn km kq (State.serCtrl s v x) := by
  unfold State.serCtrl
  repeat' first
    | with_reducible assumption
    | (with_reducible refine Kept.ite ?_ ?_)
    | (with_reducible refine State.onSer_kept _ _ _ ?_)
    | (with_reducible refine State.serNext_kept _ _ ?_)

theorem State.serCtrlWin_kept (s : State) (w : Fin 9) (x : Word)
    (hk : Kept kp kf kn km kq s) : Kept kp kf kn km kq (State.serCtrlWin s w x) := by
  unfold State.serCtrlWin
  repeat' first
    | with_reducible assumption
    | (with_reducible refine State.serCtrl_kept _ _ _ ?_)
    | split

theorem State.serTakeOver_kept (s : State) (p : Fin 3) (o : BitVec 4)
    (hk : Kept kp kf kn km kq s) : Kept kp kf kn km kq (State.serTakeOver s p o) := by
  unfold State.serTakeOver
  extract_lets idx s1 s2 e
  try clear_value idx
  have hk_s1 : Kept kp kf kn km kq s1 := by
    dsimp only [s1]
    repeat' first
      | with_reducible assumption
      | (with_reducible refine State.setPar_kept _ _ _ _ ?_)
      | split
  try clear_value s1
  have hk_s2 : Kept kp kf kn km kq s2 := by
    dsimp only [s2]
    repeat' first
      | with_reducible assumption
      | (with_reducible refine State.onSerial_kept _ _ ?_)
  try clear_value s2
  try clear_value e
  repeat' first
    | with_reducible assumption
    | (with_reducible refine State.onSer_kept _ _ _ ?_)
    | (with_reducible refine State.serRetrim_kept _ _ ?_)

theorem State.serOwnerWrite_kept (s : State) (v : Par)
    (hk : Kept kp kf kn km kq s) : Kept kp kf kn km kq (State.serOwnerWrite s v) := by
  unfold State.serOwnerWrite
  repeat' first
    | with_reducible assumption
    | with_reducible intro _
    | (with_reducible refine Kept.ite ?_ ?_)
    | (with_reducible refine foldl_kept ?_ ?_)
    | (with_reducible refine State.onSer_kept _ _ _ ?_)
    | (with_reducible refine State.serTakeOver_kept _ _ _ ?_)

theorem State.serViReset_kept (s : State) (v : Fin 8)
    (hk : Kept kp kf kn km kq s) : Kept kp kf kn km kq (State.serViReset s v) := by
  unfold State.serViReset
  repeat' first
    | with_reducible assumption
    | with_reducible intro _
    | (with_reducible refine Kept.ite ?_ ?_)
    | (with_reducible refine foldl_kept ?_ ?_)
    | (with_reducible refine State.onSer_kept _ _ _ ?_)

theorem State.serSilence_kept (s : State)
    (hk : Kept kp kf kn km kq s) : Kept kp kf kn km kq (State.serSilence s) := by
  unfold State.serSilence
  repeat' first
    | with_reducible assumption
    | with_reducible intro _
    | (with_reducible refine Kept.ite ?_ ?_)
    | (with_reducible refine State.onSerial_kept _ _ ?_)

theorem State.serStop_kept (s : State)
    (hk : Kept kp kf kn km kq s) : Kept kp kf kn km kq (State.serStop s) := by
  unfold State.serStop
  repeat' first
    | with_reducible assumption
    | (with_reducible refine State.onSerial_kept _ _ ?_)

theorem State.serLevel_kept (s : State) (p : Fin 3) (before : Nat)
    (hk : Kept kp kf kn km kq s) : Kept kp kf kn km kq (State.serLevel s p before) := by
  unfold State.serLevel
  repeat' first
    | with_reducible assumption
    | (with_reducible refine Kept.ite ?_ ?_)
    | (with_reducible refine State.onSer_kept _ _ _ ?_)
    | (with_reducible refine State.raiseSer_kept _ _ _ _ _ ?_)

theorem State.serArrive_kept (s : State) (p : Fin 3) (e : Word)
    (hk : Kept kp kf kn km kq s) : Kept kp kf kn km kq (State.serArrive s p e) := by
  unfold State.serArrive
  repeat' first
    | with_reducible assumption
    | (with_reducible refine Kept.ite ?_ ?_)
    | (with_reducible refine State.onSer_kept _ _ _ ?_)
    | (with_reducible refine State.raiseSer_kept _ _ _ _ _ ?_)
    | (with_reducible refine State.serCount_kept _ _ _ ?_)
    | (with_reducible refine State.serLevel_kept _ _ _ ?_)

theorem State.serErrClear_kept (s : State) (idx : Nat) (vi : Option (Fin 8))
    (hk : Kept kp kf kn km kq s) : Kept kp kf kn km kq (State.serErrClear s idx vi) := by
  unfold State.serErrClear
  repeat' first
    | with_reducible assumption
    | (with_reducible refine Kept.ite ?_ ?_)
    | (with_reducible refine State.onSer_kept _ _ _ ?_)
    | (with_reducible refine State.setPar_kept _ _ _ _ ?_)
    | dsimp only [id]
    | split

/-! ### Stream -/

theorem State.drawSeed_kept (s : State)
    (hk : Kept kp kf kn km kq s) : KeptP kp kf kn km kq (State.drawSeed s) := by
  unfold State.drawSeed
  repeat' first
    | with_reducible assumption
    | (with_reducible refine State.onGrit_kept _ _ ?_)
    | (with_reducible refine KeptP.ite ?_ ?_)
    | (with_reducible refine KeptP.some ?_)
    | with_reducible exact KeptP.none
    | dsimp only [id]
    | split

theorem State.drawSeed_kept_of (s : State) {at_ : Word } {t : State}
    (he : State.drawSeed s = some (at_, t)) (hk : Kept kp kf kn km kq s) : Kept kp kf kn km kq t := State.drawSeed_kept s hk _ he

theorem State.refuseStart_kept (s : State) (v : Fin 8)
    (hk : Kept kp kf kn km kq s) : Kept kp kf kn km kq (State.refuseStart s v) := by
  unfold State.refuseStart
  repeat' first
    | with_reducible assumption
    | (with_reducible refine State.onData_kept _ _ _ ?_)

theorem State.endEarlier_kept (s : State) (v : Fin 8)
    (hk : Kept kp kf kn km kq s) : Kept kp kf kn km kq (State.endEarlier s v) := by
  unfold State.endEarlier
  extract_lets s1
  have hk_s1 : Kept kp kf kn km kq s1 := by
    dsimp only [s1]
    repeat' first
      | with_reducible assumption
      | (with_reducible refine Kept.ite ?_ ?_)
      | (with_reducible refine Kept.getD ?_ ?_)
      | (with_reducible refine State.flushBand_kept _ _ ?_)
  try clear_value s1
  repeat' first
    | with_reducible assumption
    | (with_reducible refine State.onData_kept _ _ _ ?_)

theorem State.startRead_kept (s : State) (v : Fin 8)
    (hk : Kept kp kf kn km kq s) : Kept kp kf kn km kq (State.startRead s v) := by
  unfold State.startRead
  repeat' first
    | with_reducible assumption
    | (with_reducible refine Kept.ite ?_ ?_)
    | (with_reducible refine State.onData_kept _ _ _ ?_)
    | (with_reducible refine State.refuseStart_kept _ _ ?_)
    | (with_reducible refine State.endEarlier_kept _ _ ?_)

theorem State.runWrite_kept (s : State) (v : Fin 8) (mode : BitVec 2) (bpl : Nat) (lfsr : Word)
    (hk : Kept kp kf kn km kq s) : Kept kp kf kn km kq (State.runWrite s v mode bpl lfsr) := by
  unfold State.runWrite
  repeat' first
    | with_reducible assumption
    | (with_reducible refine State.onData_kept _ _ _ ?_)
    | (with_reducible refine State.onIngest_kept _ _ _ ?_)
    | (with_reducible refine State.endEarlier_kept _ _ ?_)

theorem State.startWrite_kept (s : State) (v : Fin 8)
    (hk : Kept kp kf kn km kq s) : Kept kp kf kn km kq (State.startWrite s v) := by
  unfold State.startWrite
  extract_lets addr mode bpl seed
  refine Kept.ite (State.refuseStart_kept _ _ hk) ?_
  refine Kept.ite ?_ (State.runWrite_kept _ _ _ _ _ hk)
  split
  · exact State.refuseStart_kept _ _ hk
  · next x u h =>
    refine State.onVi_kept _ _ _ (State.runWrite_kept _ _ _ _ _ ?_)
    split at h
    · cases h; exact hk
    · exact State.drawSeed_kept_of _ h hk

theorem State.closeSoon_kept (s : State) (v : Fin 8)
    (hk : Kept kp kf kn km kq s) : Kept kp kf kn km kq (State.closeSoon s v) := by
  unfold State.closeSoon
  repeat' first
    | with_reducible assumption
    | (with_reducible refine State.onData_kept _ _ _ ?_)
    | (with_reducible refine State.drain_kept _ _ ?_)

theorem State.stopHost_kept (s : State) (v : Fin 8)
    (hk : Kept kp kf kn km kq s) : Kept kp kf kn km kq (State.stopHost s v) := by
  unfold State.stopHost
  repeat' first
    | with_reducible assumption
    | (with_reducible refine Kept.ite ?_ ?_)
    | (with_reducible refine State.onData_kept _ _ _ ?_)
    | (with_reducible refine State.leavePage_kept _ _ ?_)
    | (with_reducible refine State.closeSoon_kept _ _ ?_)

theorem State.writeDataCtrl_kept (s : State) (v : Fin 8) (x : Word)
    (hk : Kept kp kf kn km kq s) : Kept kp kf kn km kq (State.writeDataCtrl s v x) := by
  unfold State.writeDataCtrl
  repeat' first
    | with_reducible assumption
    | with_reducible intro _
    | (with_reducible refine Kept.ite ?_ ?_)
    | (with_reducible refine State.onData_kept _ _ _ ?_)
    | (with_reducible refine State.refreshHeads_kept _ ?_)
    | (with_reducible refine State.stopHost_kept _ _ ?_)
    | (with_reducible refine State.closeSoon_kept _ _ ?_)
    | (with_reducible refine State.startRead_kept _ _ ?_)
    | (with_reducible refine State.startWrite_kept _ _ ?_)

theorem State.writeDataAddr_kept (s : State) (v : Fin 8) (high : Bool) (x : Word)
    (hk : Kept kp kf kn km kq s) : Kept kp kf kn km kq (State.writeDataAddr s v high x) := by
  unfold State.writeDataAddr
  repeat' first
    | with_reducible assumption
    | (with_reducible refine State.onData_kept _ _ _ ?_)

/-! ### Tenancy -/

theorem State.contractWrite_kept (s : State) (v : Fin 8) (k : Fin 20) (x : Par)
    (hk : Kept kp kf kn km kq s) : Kept kp kf kn km kq (State.contractWrite s v k x) := by
  unfold State.contractWrite
  repeat' first
    | with_reducible assumption
    | with_reducible intro _
    | (with_reducible refine Kept.ite ?_ ?_)
    | (with_reducible refine State.onVi_kept _ _ _ ?_)
    | (with_reducible refine State.marlAccrue_kept _ ?_)
    | (with_reducible refine State.accrue_kept _ ?_)

theorem State.retire_kept (s : State) (v : Fin 8)
    (hk : Kept kp kf kn km kq s) : Kept kp kf kn km kq (State.retire s v) := by
  unfold State.retire
  repeat' first
    | with_reducible assumption
    | (with_reducible refine State.onVi_kept _ _ _ ?_)
    | split

theorem State.writeEnBit_kept (s : State) (v : Fin 8) (b : Bool)
    (hk : Kept kp kf kn km kq s) : Kept kp kf kn km kq (State.writeEnBit s v b) := by
  unfold State.writeEnBit
  repeat' first
    | with_reducible assumption
    | (with_reducible refine Kept.ite ?_ ?_)
    | (with_reducible refine State.onVi_kept _ _ _ ?_)
    | (with_reducible refine State.retire_kept _ _ ?_)

theorem State.writeViEn_kept (s : State) (x : Word)
    (hk : Kept kp kf kn km kq s) : Kept kp kf kn km kq (State.writeViEn s x) := by
  unfold State.writeViEn
  repeat' first
    | with_reducible assumption
    | with_reducible intro _
    | (with_reducible refine Kept.ite ?_ ?_)
    | (with_reducible refine foldl_kept ?_ ?_)
    | (with_reducible refine State.writeEnBit_kept _ _ _ ?_)

theorem State.handleEnable_kept (s : State) (v : Fin 8)
    (hk : Kept kp kf kn km kq s) : Kept kp kf kn km kq (State.handleEnable s v) := by
  unfold State.handleEnable
  extract_lets r
  try clear_value r
  repeat' first
    | with_reducible assumption
    | with_reducible intro _
    | (with_reducible refine Kept.ite ?_ ?_)
    | (with_reducible refine State.onBus_kept _ _ ?_ ?_)
    | (with_reducible refine State.raise0_kept _ _ _ _ ?_)
    | (with_reducible refine State.onVi_kept _ _ _ ?_)
    | (with_reducible refine State.accrue_kept _ ?_)
    | rfl

theorem State.handleClears_kept (s : State) (v : Fin 8)
    (hk : Kept kp kf kn km kq s) : Kept kp kf kn km kq (State.handleClears s v) := by
  unfold State.handleClears
  repeat' first
    | with_reducible assumption
    | (with_reducible refine State.onVi_kept _ _ _ ?_)
    | (with_reducible refine State.retire_kept _ _ ?_)
    | split

theorem State.requestReset_kept (s : State) (v : Fin 8) (src : ResetSource)
    (hk : Kept kp kf kn km kq s) : Kept kp kf kn km kq (State.requestReset s v src) := by
  unfold State.requestReset
  repeat' first
    | with_reducible assumption
    | (with_reducible refine Kept.ite ?_ ?_)
    | (with_reducible refine State.onVi_kept _ _ _ ?_)

theorem State.writeViReset_kept (s : State) (v : Word)
    (hk : Kept kp kf kn km kq s) : Kept kp kf kn km kq (State.writeViReset s v) := by
  unfold State.writeViReset
  repeat' first
    | with_reducible assumption
    | with_reducible intro _
    | (with_reducible refine Kept.ite ?_ ?_)
    | (with_reducible refine foldl_kept ?_ ?_)
    | (with_reducible refine State.requestReset_kept _ _ _ ?_)

theorem State.stopViRuns_kept (s : State) (v : Fin 8)
    (hk : Kept kp kf kn km kq s) : Kept kp kf kn km kq (State.stopViRuns s v) := by
  unfold State.stopViRuns
  repeat' first
    | with_reducible assumption
    | with_reducible intro _
    | (with_reducible refine Kept.ite ?_ ?_)
    | (with_reducible refine foldl_kept ?_ ?_)
    | (with_reducible refine State.stopJob_kept _ _ _ _ ?_)
    | split

theorem State.dropGuests_kept (s : State) (v : Fin 8)
    (hk : Kept kp kf kn km kq s) : Kept kp kf kn km kq (State.dropGuests s v) := by
  unfold State.dropGuests
  repeat' first
    | with_reducible assumption
    | with_reducible intro _
    | (with_reducible refine Kept.ite ?_ ?_)
    | (with_reducible refine foldl_kept ?_ ?_)
    | (with_reducible refine State.sendResult_kept _ _ _ _ _ _ _ ?_)
    | (with_reducible refine State.freeGuest_kept _ _ ?_)
    | split

theorem State.dropLoam_kept (s : State) (v : Fin 8)
    (hk : Kept kp kf kn km kq s) : Kept kp kf kn km kq (State.dropLoam s v) := by
  unfold State.dropLoam
  extract_lets s1
  have hk_s1 : Kept kp kf kn km kq s1 := by
    dsimp only [s1]
    repeat' first
      | with_reducible assumption
      | with_reducible intro _
      | (with_reducible refine foldl_kept ?_ ?_)
      | (with_reducible refine State.dropReservation_kept _ _ ?_)
  try clear_value s1
  repeat' first
    | with_reducible assumption
    | (with_reducible refine State.onLoam_kept _ _ ?_)

theorem State.keepDecode_kept (s : State) (v : Fin 8)
    (hk : Kept kp kf kn km kq s) : Kept kp kf kn km kq (State.keepDecode s v) := by
  unfold State.keepDecode
  repeat' first
    | with_reducible assumption
    | with_reducible intro _
    | (with_reducible refine Kept.ite ?_ ?_)
    | (with_reducible refine State.onSilt_kept _ _ ?_ ?_ ?_)
    | (with_reducible refine State.onSilt_mem_kept _ _ ?_ ?_ ?_)
    | (with_reducible refine State.endDecode_kept _ ?_)
    | rfl
    | split

theorem State.dropRaster_kept (s : State) (v : Fin 8)
    (hk : Kept kp kf kn km kq s) : Kept kp kf kn km kq (State.dropRaster s v) := by
  unfold State.dropRaster
  extract_lets mine ext s1 s2
  try clear_value ext
  have hk_s1 : Kept kp kf kn km kq s1 := by
    dsimp only [s1]
    repeat' first
      | with_reducible assumption
      | with_reducible intro _
      | (with_reducible refine Kept.ite ?_ ?_)
      | (with_reducible refine State.onSilt_kept _ _ ?_ ?_ ?_)
      | (with_reducible refine State.onSilt_mem_kept _ _ ?_ ?_ ?_)
      | (with_reducible refine State.keepDecode_kept _ _ ?_)
  try clear_value s1
  have hk_s2 : Kept kp kf kn km kq s2 := by
    dsimp only [s2]
    repeat' first
      | with_reducible assumption
      | with_reducible intro _
      | (with_reducible refine Kept.ite ?_ ?_)
      | (with_reducible refine State.onSilt_kept _ _ ?_ ?_ ?_)
      | (with_reducible refine State.onSilt_mem_kept _ _ ?_ ?_ ?_)
      | (with_reducible refine State.keepDecode_kept _ _ ?_)
      | (with_reducible refine State.freeChunks_kept _ _ _ ?_)
      | (with_reducible refine State.onMarl_kept _ _ ?_)
      | rfl
  try clear_value s2
  repeat' first
    | with_reducible assumption
    | with_reducible intro _
    | (with_reducible refine Kept.ite ?_ ?_)
    | (with_reducible refine State.onSilt_kept _ _ ?_ ?_ ?_)
    | (with_reducible refine State.onSilt_mem_kept _ _ ?_ ?_ ?_)
    | (with_reducible refine State.keepDecode_kept _ _ ?_)
    | (with_reducible refine State.freeChunks_kept _ _ _ ?_)
    | (with_reducible refine State.onMarl_kept _ _ ?_)

theorem State.viLampsOff_kept (s : State) (v : Fin 8)
    (hk : Kept kp kf kn km kq s) : Kept kp kf kn km kq (State.viLampsOff s v) := by
  unfold State.viLampsOff
  repeat' first
    | with_reducible assumption
    | with_reducible intro _
    | (with_reducible refine Kept.ite ?_ ?_)
    | (with_reducible refine foldl_kept ?_ ?_)
    | (with_reducible refine State.lampOff_kept _ _ ?_)

theorem State.viParams_kept (s : State) (v : Fin 8)
    (hk : Kept kp kf kn km kq s) : Kept kp kf kn km kq (State.viParams s v) := by
  unfold State.viParams
  refine foldl_kept ?_ ⟨hk.1, hk.2, hk.3, hk.4, hk.5, hk.6⟩
  intro u y hu
  exact State.setPar_kept _ _ _ _ (State.setPar_kept _ _ _ _ hu)

theorem State.viRegisters_kept (s : State) (v : Fin 8)
    (hk : Kept kp kf kn km kq s) : Kept kp kf kn km kq (State.viRegisters s v) := by
  unfold State.viRegisters
  extract_lets s1
  have hk_s1 : Kept kp kf kn km kq s1 := by
    dsimp only [s1]
    repeat' first
      | with_reducible assumption
      | (with_reducible refine State.onVi_kept _ _ _ ?_)
  try clear_value s1
  repeat' first
    | with_reducible assumption
    | (with_reducible refine State.onPort_kept _ _ _ ?_)
    | (with_reducible refine State.onEvq_kept _ _ _ (fun _ => Nat.zero_le _) ?_)

theorem State.dropTenantLegal_kept (s : State) (v : Fin 8)
    (hk : Kept kp kf kn km kq s) : Kept kp kf kn km kq (State.dropTenantLegal s v) := by
  unfold State.dropTenantLegal
  repeat' first
    | with_reducible assumption
    | (with_reducible refine State.onVi_kept _ _ _ ?_)
    | (with_reducible refine State.orphanLegal_kept _ _ ?_)
    | (with_reducible refine State.dropOrphanRsp_kept _ ?_)

theorem State.resetVi_kept (s : State) (v : Fin 8) (src : ResetSource)
    (hk : Kept kp kf kn km kq s) : Kept kp kf kn km kq (State.resetVi s v src) := by
  unfold State.resetVi
  extract_lets s1
  have hk_s1 : Kept kp kf kn km kq s1 := by
    dsimp only [s1]
    repeat' first
      | with_reducible assumption
      | with_reducible intro _
      | (with_reducible refine Kept.ite ?_ ?_)
      | (with_reducible refine State.onVi_kept _ _ _ ?_)
      | (with_reducible refine State.marlAccrue_kept _ ?_)
      | (with_reducible refine State.accrue_kept _ ?_)
  try clear_value s1
  repeat' first
    | with_reducible assumption
    | with_reducible intro _
    | (with_reducible refine Kept.ite ?_ ?_)
    | (with_reducible refine State.onVi_kept _ _ _ ?_)
    | (with_reducible refine State.marlAccrue_kept _ ?_)
    | (with_reducible refine State.accrue_kept _ ?_)
    | (with_reducible refine State.viRegisters_kept _ _ ?_)
    | (with_reducible refine State.endHeld_kept _ _ ?_)
    | (with_reducible refine State.viParams_kept _ _ ?_)
    | (with_reducible refine State.eraseInst_kept _ _ ?_)
    | (with_reducible refine State.serViReset_kept _ _ ?_)
    | (with_reducible refine State.viLampsOff_kept _ _ ?_)
    | (with_reducible refine State.discardMarl_kept _ _ ?_)
    | (with_reducible refine State.dropRaster_kept _ _ ?_)
    | (with_reducible refine State.dropTenantLegal_kept _ _ ?_)
    | (with_reducible refine State.dropLoam_kept _ _ ?_)
    | (with_reducible refine State.dropGuests_kept _ _ ?_)
    | (with_reducible refine State.stopViRuns_kept _ _ ?_)
    | (with_reducible refine State.revokeAll_kept _ _ ?_)

theorem State.freeScrubbed_kept (s : State) (v : Fin 8)
    (hk : Kept kp kf kn km kq s) : Kept kp kf kn km kq (State.freeScrubbed s v) := by
  unfold State.freeScrubbed
  repeat' first
    | with_reducible assumption
    | with_reducible intro _
    | (with_reducible refine foldl_kept ?_ ?_)
    | (with_reducible refine State.freeFrame_kept _ _ ?_)

theorem State.resetOver_kept (s : State) (v : Fin 8)
    (hk : Kept kp kf kn km kq s) : Kept kp kf kn km kq (State.resetOver s v) := by
  unfold State.resetOver
  extract_lets y gone src pay s1 s2
  try clear_value y
  try clear_value gone
  try clear_value src
  try clear_value pay
  have hk_s1 : Kept kp kf kn km kq s1 := by
    dsimp only [s1]
    repeat' first
      | with_reducible assumption
      | (with_reducible refine State.onVi_kept _ _ _ ?_)
      | (with_reducible refine State.freeScrubbed_kept _ _ ?_)
  try clear_value s1
  have hk_s2 : Kept kp kf kn km kq s2 := by
    dsimp only [s2]
    repeat' first
      | with_reducible assumption
      | (with_reducible refine State.raiseVi_kept _ _ _ _ _ ?_)
      | (with_reducible refine State.raise0_kept _ _ _ _ ?_)
  try clear_value s2
  repeat' first
    | with_reducible assumption
    | (with_reducible refine Kept.ite ?_ ?_)
    | (with_reducible refine State.raise0_kept _ _ _ _ ?_)

theorem State.failLegalJobs_kept (s : State) (v : Fin 8)
    (hk : Kept kp kf kn km kq s) : Kept kp kf kn km kq (State.failLegalJobs s v) := by
  unfold State.failLegalJobs
  repeat' first
    | with_reducible assumption
    | with_reducible intro _
    | (with_reducible refine Kept.ite ?_ ?_)
    | (with_reducible refine foldl_kept ?_ ?_)
    | (with_reducible refine State.endJob_kept _ _ _ _ _ ?_)
    | (with_reducible refine State.dropReservation_kept _ _ ?_)

theorem State.raiseOpt_kept (s : State) (v : Option (Fin 8)) (code : Byte) (aux : Byte) (payload : Word)
    (hk : Kept kp kf kn km kq s) : Kept kp kf kn km kq (State.raiseOpt s v code aux payload) := by
  unfold State.raiseOpt
  repeat' first
    | with_reducible assumption
    | with_reducible intro _
    | (with_reducible refine Kept.elim ?_ ?_)
    | (with_reducible refine State.raiseVi_kept _ _ _ _ _ ?_)

theorem State.loseRole_kept (s : State) (v : Fin 8)
    (hk : Kept kp kf kn km kq s) : Kept kp kf kn km kq (State.loseRole s v) := by
  unfold State.loseRole
  repeat' first
    | with_reducible assumption
    | (with_reducible refine State.onVi_kept _ _ _ ?_)
    | (with_reducible refine State.dropTenantLegal_kept _ _ ?_)
    | (with_reducible refine State.failLegalJobs_kept _ _ ?_)

theorem State.moveRole_kept (s : State) (x : BitVec 4)
    (hk : Kept kp kf kn km kq s) : Kept kp kf kn km kq (State.moveRole s x) := by
  unfold State.moveRole
  repeat' first
    | with_reducible assumption
    | with_reducible rfl
    | with_reducible intro _
    | (with_reducible refine Kept.ite ?_ ?_)
    | (with_reducible refine Kept.elim ?_ ?_)
    | (with_reducible refine State.raise0_kept _ _ _ _ ?_)
    | (with_reducible refine State.refreshEligible_kept _ ?_)
    | (with_reducible refine State.raiseOpt_kept _ _ _ _ _ ?_)
    | (with_reducible refine State.loseRole_kept _ _ ?_)
    | (with_reducible refine State.onBus_kept _ _ ?_ ?_)

/-! ### ParamWrite -/

theorem State.hostTime_kept (s : State) (lo : Par)
    (hk : Kept kp kf kn km kq s) : Kept kp kf kn km kq (State.hostTime s lo) := by
  unfold State.hostTime
  repeat' first
    | with_reducible assumption
    | with_reducible rfl
    | (with_reducible refine State.raise0_kept _ _ _ _ ?_)
    | (with_reducible refine State.onAo_kept _ _ ?_ ?_)
    | (with_reducible refine State.onBus_kept _ _ ?_ ?_)

theorem State.writeFreeze_kept (s : State) (v : Word)
    (hk : Kept kp kf kn km kq s) : Kept kp kf kn km kq (State.writeFreeze s v) := by
  unfold State.writeFreeze
  extract_lets x off s1
  try clear_value x
  try clear_value off
  have hk_s1 : Kept kp kf kn km kq s1 := by
    dsimp only [s1]
    repeat' first
      | with_reducible assumption
      | with_reducible rfl
      | (with_reducible refine State.onBus_kept _ _ ?_ ?_)
  try clear_value s1
  repeat' first
    | with_reducible assumption
    | with_reducible intro _
    | (with_reducible refine foldl_kept ?_ ?_)
    | (with_reducible refine State.onEnergy_kept _ _ _ ?_)
    | (with_reducible refine State.onMedia_kept _ _ _ ?_)

theorem State.pwrItemWrite_kept (s : State) (idx : Nat) (v : Par)
    (hk : Kept kp kf kn km kq s) : Kept kp kf kn km kq (State.pwrItemWrite s idx v) := by
  unfold State.pwrItemWrite
  repeat' first
    | with_reducible assumption
    | with_reducible rfl
    | (with_reducible refine State.onPwr_kept _ _ ?_)
    | (with_reducible refine State.setPar_kept _ _ _ _ ?_)
    | (with_reducible refine State.onAo_kept _ _ ?_ ?_)
    | split

theorem State.serviceItemWrite_kept (s : State) (idx : Nat) (vi : Option (Fin 8)) (v : Par)
    (hk : Kept kp kf kn km kq s) : Kept kp kf kn km kq (State.serviceItemWrite s idx vi v) := by
  unfold State.serviceItemWrite
  repeat' first
    | with_reducible assumption
    | (with_reducible refine State.setPar_kept _ _ _ _ ?_)
    | (with_reducible refine State.gritCtrl_kept _ _ ?_)
    | (with_reducible refine State.gritRawCfg_kept _ _ ?_)
    | (with_reducible refine State.serClock_kept _ ?_)
    | (with_reducible refine State.serRetrim_kept _ _ ?_)
    | (with_reducible refine State.serNext_kept _ _ ?_)
    | (with_reducible refine State.serOwnerWrite_kept _ _ ?_)
    | split

theorem State.lowItemWrite_kept (s : State) (idx : Nat) (vi : Option (Fin 8)) (v : Par)
    (hk : Kept kp kf kn km kq s) : Kept kp kf kn km kq (State.lowItemWrite s idx vi v).1 := by
  unfold State.lowItemWrite
  repeat' first
    | with_reducible assumption
    | with_reducible rfl
    | (with_reducible refine State.onVi_kept _ _ _ ?_)
    | (with_reducible refine State.setPar_kept _ _ _ _ ?_)
    | (with_reducible refine State.jobItemWrite_kept _ _ _ _ ?_)
    | (with_reducible refine State.writeDiscard_kept _ _ _ ?_)
    | (with_reducible refine State.writeArbApply_kept _ _ ?_)
    | (with_reducible refine State.contractWrite_kept _ _ _ _ ?_)
    | (with_reducible refine State.hostTime_kept _ _ ?_)
    | (with_reducible refine State.writeFreeze_kept _ _ ?_)
    | (with_reducible refine State.onBus_kept _ _ ?_ ?_)
    | split

theorem State.itemWrite_kept (s : State) (w : Fin 11) (idx : Nat) (vi : Option (Fin 8)) (v : Par)
    (hk : Kept kp kf kn km kq s) : Kept kp kf kn km kq (State.itemWrite s w idx vi v).1 := by
  unfold State.itemWrite
  repeat' first
    | with_reducible assumption
    | (with_reducible refine State.setPar_kept _ _ _ _ ?_)
    | (with_reducible refine State.headItemWrite_kept _ _ _ _ _ _ ?_)
    | (with_reducible refine State.axisItemWrite_kept _ _ _ _ ?_)
    | (with_reducible refine State.mediaItemWrite_kept _ _ _ _ ?_)
    | (with_reducible refine State.writeLampCmd_kept _ _ _ ?_)
    | (with_reducible refine State.lampItemWrite_kept _ _ _ _ _ ?_)
    | (with_reducible refine State.ryItemWrite_kept _ _ _ ?_)
    | (with_reducible refine State.adcCtrl_kept _ _ _ ?_)
    | (with_reducible refine State.pwrItemWrite_kept _ _ _ ?_)
    | (with_reducible refine State.serviceItemWrite_kept _ _ _ _ ?_)
    | (with_reducible refine State.lowItemWrite_kept _ _ _ _ ?_)
    | split

theorem State.applyCommit_kept (s : State) (w : Fin 11) (idx : Nat) (v : Par)
    (hk : Kept kp kf kn km kq s) : Kept kp kf kn km kq (State.applyCommit s w idx v).1 := by
  unfold State.applyCommit
  repeat' first
    | with_reducible assumption
    | (with_reducible refine State.itemWrite_kept _ _ _ _ _ ?_)
    | dsimp only [id]
    | split

/-! ### ParamRead -/

theorem State.clearItem_kept (s : State) (idx : Nat) (vi : Option (Fin 8))
    (hk : Kept kp kf kn km kq s) : Kept kp kf kn km kq (State.clearItem s idx vi) := by
  unfold State.clearItem
  repeat' first
    | with_reducible assumption
    | with_reducible rfl
    | with_reducible intro _
    | (with_reducible refine State.onVi_kept _ _ _ ?_)
    | (with_reducible refine State.onMarl_kept _ _ ?_)
    | (with_reducible refine State.onAnalog_kept _ _ ?_)
    | (with_reducible refine State.onGrit_kept _ _ ?_)
    | (with_reducible refine State.onLink_kept _ _ ?_)
    | (with_reducible refine State.serErrClear_kept _ _ _ ?_)
    | (with_reducible refine State.onBus_kept _ _ ?_ ?_)
    | (with_reducible refine State.onMgmt_kept _ _ ?_ ?_ ?_ ?_)
    | (with_reducible refine State.onSilt_mem_kept _ _ ?_ ?_ ?_)
    | dsimp only [id]
    | split

theorem State.fetch_kept (s : State) (w : Fin 11) (idx : Nat)
    (hk : Kept kp kf kn km kq s) : Kept kp kf kn km kq (State.fetch s w idx).2.1 := by
  unfold State.fetch
  repeat' first
    | with_reducible assumption
    | (with_reducible refine Kept.ite ?_ ?_)
    | (with_reducible refine State.onPort_kept _ _ _ ?_)
    | (with_reducible refine State.clearItem_kept _ _ _ ?_)
    | dsimp only [id]
    | split

/-! ### Access -/

theorem State.raiseBusError_kept (s : State)
    (hk : Kept kp kf kn km kq s) : Kept kp kf kn km kq (State.raiseBusError s) := by
  unfold State.raiseBusError
  repeat' first
    | with_reducible assumption
    | (with_reducible refine State.raise0_kept _ _ _ _ ?_)

theorem State.countAccess_kept (s : State) (w : Nat) (off : BitVec 6) (write : Bool) (kind : Nat)
    (hk : Kept kp kf kn km kq s) : Kept kp kf kn km kq (State.countAccess s w off write kind) := by
  unfold State.countAccess
  repeat' first
    | with_reducible assumption
    | with_reducible rfl
    | (with_reducible refine Kept.ite ?_ ?_)
    | (with_reducible refine State.raiseBusError_kept _ ?_)
    | (with_reducible refine State.onBus_kept _ _ ?_ ?_)

theorem State.finishPosted_kept (s : State) (w : Fin 11)
    (hk : Kept kp kf kn km kq s) : Kept kp kf kn km kq (State.finishPosted s w) := by
  unfold State.finishPosted
  repeat' first
    | with_reducible assumption
    | (with_reducible refine State.onPort_kept _ _ _ ?_)
    | (with_reducible refine State.completeOp_kept _ _ _ _ ?_)
    | (with_reducible refine State.applyCommit_kept _ _ _ _ ?_)
    | dsimp only [id]
    | split

theorem State.fetchCurrent_kept (s : State) (w : Fin 11)
    (hk : Kept kp kf kn km kq s) : Kept kp kf kn km kq (State.fetchCurrent s w).2 := by
  unfold State.fetchCurrent
  repeat' first
    | with_reducible assumption
    | (with_reducible refine State.onPort_kept _ _ _ ?_)
    | (with_reducible refine State.completeOp_kept _ _ _ _ ?_)
    | (with_reducible refine State.fetch_kept _ _ _ ?_)

theorem State.ownCommit_kept (s : State) (w : Fin 11) (idx : Nat) (v : Par)
    (hk : Kept kp kf kn km kq s) : Kept kp kf kn km kq (State.ownCommit s w idx v) := by
  unfold State.ownCommit
  repeat' first
    | with_reducible assumption
    | (with_reducible refine Kept.ite ?_ ?_)
    | (with_reducible refine State.onPort_kept _ _ _ ?_)
    | (with_reducible refine State.completeOp_kept _ _ _ _ ?_)
    | (with_reducible refine State.applyCommit_kept _ _ _ _ ?_)
    | (with_reducible refine State.finishPosted_kept _ _ ?_)

theorem State.writeLock_kept (s : State) (v : Word)
    (hk : Kept kp kf kn km kq s) : Kept kp kf kn km kq (State.writeLock s v) := by
  unfold State.writeLock
  repeat' first
    | with_reducible assumption
    | with_reducible rfl
    | (with_reducible refine Kept.ite ?_ ?_)
    | (with_reducible refine State.countAccess_kept _ _ _ _ _ ?_)
    | (with_reducible refine State.finishPosted_kept _ _ ?_)
    | (with_reducible refine State.onBus_kept _ _ ?_ ?_)

theorem State.writeReset_kept (s : State) (vi : Fin 8) (v : Word)
    (hk : Kept kp kf kn km kq s) : Kept kp kf kn km kq (State.writeReset s vi v) := by
  unfold State.writeReset
  repeat' first
    | with_reducible assumption
    | (with_reducible refine Kept.ite ?_ ?_)
    | (with_reducible refine State.requestReset_kept _ _ _ ?_)
    | (with_reducible refine State.countAccess_kept _ _ _ _ _ ?_)
    | (with_reducible refine State.finishPosted_kept _ _ ?_)

theorem State.writeSubmit_kept (s : State) (vi : Fin 8) (v : Word)
    (hk : Kept kp kf kn km kq s) : Kept kp kf kn km kq (State.writeSubmit s vi v) := by
  unfold State.writeSubmit
  repeat' first
    | with_reducible assumption
    | (with_reducible refine Kept.ite ?_ ?_)
    | (with_reducible refine State.refreshEligible_kept _ ?_)
    | (with_reducible refine State.submitJob_kept _ _ _ ?_)
    | (with_reducible refine State.finishPosted_kept _ _ ?_)

theorem State.lockedWrite_kept (s : State) (off : BitVec 6) (lock : Nat) (f : State → State)
    (hk_f : ∀ hf_0, Kept kp kf kn km kq hf_0 → Kept kp kf kn km kq (f hf_0))
    (hk : Kept kp kf kn km kq s) : Kept kp kf kn km kq (State.lockedWrite s off lock f) := by
  unfold State.lockedWrite
  repeat' first
    | with_reducible assumption
    | (with_reducible refine Kept.ite ?_ ?_)
    | (with_reducible refine hk_f _ ?_)
    | (with_reducible refine State.countAccess_kept _ _ _ _ _ ?_)

theorem State.writeRole_kept (s : State) (v : Word)
    (hk : Kept kp kf kn km kq s) : Kept kp kf kn km kq (State.writeRole s v) := by
  unfold State.writeRole
  repeat' first
    | with_reducible assumption
    | with_reducible intro _
    | (with_reducible refine State.moveRole_kept _ _ ?_)
    | (with_reducible refine State.lockedWrite_kept _ _ _ _ ?_ ?_)

theorem State.writeParCtrl_kept (s : State) (w : Fin 11) (v : Word)
    (hk : Kept kp kf kn km kq s) : Kept kp kf kn km kq (State.writeParCtrl s w v) := by
  unfold State.writeParCtrl
  repeat' first
    | with_reducible assumption
    | (with_reducible refine State.onPort_kept _ _ _ ?_)

theorem State.writeCommon_kept (s : State) (w : Fin 9) (o : Nat) (v : Word)
    (hk : Kept kp kf kn km kq s) : Kept kp kf kn km kq (State.writeCommon s w o v) := by
  unfold State.writeCommon
  repeat' first
    | with_reducible assumption
    | (with_reducible refine State.onEvq_kept _ _ _ (fun h => h) ?_)
    | split

theorem State.writeRoute_kept (s : State) (k : Fin 4) (off : BitVec 6) (v : Word)
    (hk : Kept kp kf kn km kq s) : Kept kp kf kn km kq (State.writeRoute s k off v) := by
  unfold State.writeRoute
  repeat' first
    | with_reducible assumption
    | with_reducible rfl
    | with_reducible intro _
    | (with_reducible refine State.lockedWrite_kept _ _ _ _ ?_ ?_)
    | (with_reducible refine State.onBus_kept _ _ ?_ ?_)

theorem State.writeHv_kept (s : State) (off : BitVec 6) (v : Word)
    (hk : Kept kp kf kn km kq s) : Kept kp kf kn km kq (State.writeHv s off v) := by
  unfold State.writeHv
  repeat' first
    | with_reducible assumption
    | with_reducible rfl
    | with_reducible intro _
    | (with_reducible refine State.modeRequest_kept _ _ ?_)
    | (with_reducible refine State.writeViEn_kept _ _ ?_)
    | (with_reducible refine State.writeViReset_kept _ _ ?_)
    | (with_reducible refine State.writeLock_kept _ _ ?_)
    | (with_reducible refine State.lockedWrite_kept _ _ _ _ ?_ ?_)
    | (with_reducible refine State.writeRole_kept _ _ ?_)
    | (with_reducible refine State.writeCommon_kept _ _ _ _ ?_)
    | (with_reducible refine State.writeRoute_kept _ _ _ _ ?_)
    | (with_reducible refine State.onBus_kept _ _ ?_ ?_)
    | split

theorem State.writePort_kept (s : State) (vi : Fin 8) (v : Word)
    (hk : Kept kp kf kn km kq s) : Kept kp kf kn km kq (State.writePort s vi v) := by
  unfold State.writePort
  repeat' first
    | with_reducible assumption
    | (with_reducible refine Kept.ite ?_ ?_)
    | (with_reducible refine State.onData_kept _ _ _ ?_)
    | (with_reducible refine State.acceptHalf_kept _ _ _ ?_)

theorem State.writeVw_kept (s : State) (vi : Fin 8) (o : Nat) (v : Word)
    (hk : Kept kp kf kn km kq s) : Kept kp kf kn km kq (State.writeVw s vi o v) := by
  unfold State.writeVw
  repeat' first
    | with_reducible assumption
    | (with_reducible refine Kept.ite ?_ ?_)
    | (with_reducible refine State.onVi_kept _ _ _ ?_)
    | (with_reducible refine State.writeCancel_kept _ _ _ ?_)
    | (with_reducible refine State.writeLegCmd_kept _ _ _ ?_)
    | (with_reducible refine State.writeDupHi_kept _ _ _ ?_)
    | (with_reducible refine State.serWrite_kept _ _ _ _ ?_)
    | (with_reducible refine State.serCtrl_kept _ _ _ ?_)
    | (with_reducible refine State.writeDataCtrl_kept _ _ _ ?_)
    | (with_reducible refine State.writeDataAddr_kept _ _ _ _ ?_)
    | (with_reducible refine State.writeReset_kept _ _ _ ?_)
    | (with_reducible refine State.writeSubmit_kept _ _ _ ?_)
    | (with_reducible refine State.writeCommon_kept _ _ _ _ ?_)
    | (with_reducible refine State.writePort_kept _ _ _ ?_)
    | split

theorem State.writeMw_kept (s : State) (o : Nat) (v : Word)
    (hk : Kept kp kf kn km kq s) : Kept kp kf kn km kq (State.writeMw s o v) := by
  unfold State.writeMw
  repeat' first
    | with_reducible assumption
    | with_reducible rfl
    | (with_reducible refine Kept.ite ?_ ?_)
    | (with_reducible refine State.writeMwCmd_kept _ _ ?_)
    | (with_reducible refine State.writeMwBuf_kept _ _ ?_)
    | (with_reducible refine State.onMgmt_kept _ _ ?_ ?_ ?_ ?_)
    | split

theorem State.writePar_kept (s : State) (w : Fin 11) (o : Nat) (v : Word)
    (hk : Kept kp kf kn km kq s) : Kept kp kf kn km kq (State.writePar s w o v) := by
  unfold State.writePar
  repeat' first
    | with_reducible assumption
    | (with_reducible refine State.onPort_kept _ _ _ ?_)
    | (with_reducible refine State.finishPosted_kept _ _ ?_)
    | (with_reducible refine State.writeParCtrl_kept _ _ _ ?_)
    | dsimp only [id]
    | split

/-! ### PowerDown -/

theorem State.safePins_kept (s : State)
    (hk : Kept kp kf kn km kq s) : Kept kp kf kn km kq (State.safePins s) := by
  unfold State.safePins
  repeat' first
    | with_reducible assumption
    | with_reducible intro _
    | (with_reducible refine Kept.ite ?_ ?_)
    | (with_reducible refine State.onLink_kept _ _ ?_)
    | (with_reducible refine State.serSilence_kept _ ?_)
    | (with_reducible refine State.onPaper_kept _ _ ?_)

theorem State.recordWake_kept (s : State)
    (hk : Kept kp kf kn km kq s) : Kept kp kf kn km kq (State.recordWake s) := by
  unfold State.recordWake
  repeat' first
    | with_reducible assumption
    | (with_reducible refine Kept.ite ?_ ?_)
    | (with_reducible refine State.onPwr_kept _ _ ?_)
    | (with_reducible refine State.logRecord_kept _ _ _ _ _ _ ?_)

theorem State.dropHeld_kept (s : State)
    (hk : Kept kp kf kn km kq s) : Kept kp kf kn km kq (State.dropHeld s) := by
  unfold State.dropHeld
  extract_lets s1
  have hk_s1 : Kept kp kf kn km kq s1 := by
    dsimp only [s1]
    repeat' first
      | with_reducible assumption
      | with_reducible intro _
      | (with_reducible refine Kept.ite ?_ ?_)
      | (with_reducible refine foldl_kept ?_ ?_)
      | (with_reducible refine State.onBus_kept _ _ ?_ ?_)
      | (with_reducible refine State.endHeld_kept _ _ ?_)
      | rfl
  try clear_value s1
  repeat' first
    | with_reducible assumption
    | with_reducible intro _
    | (with_reducible refine Kept.ite ?_ ?_)
    | (with_reducible refine foldl_kept ?_ ?_)
    | (with_reducible refine State.onBus_kept _ _ ?_ ?_)
    | (with_reducible refine State.endHeld_kept _ _ ?_)

theorem State.enterHold_kept (s : State) (cause : Byte) (detail : Byte)
    (hk : Kept kp kf kn km kq s) : Kept kp kf kn km kq (State.enterHold s cause detail) := by
  unfold State.enterHold
  repeat' first
    | with_reducible assumption
    | with_reducible rfl
    | (with_reducible refine Kept.ite ?_ ?_)
    | (with_reducible refine State.logRecord_kept _ _ _ _ _ _ ?_)
    | (with_reducible refine State.changeMode_kept _ _ ?_)
    | (with_reducible refine State.setUpdate_kept _ _ ?_)
    | (with_reducible refine State.safePins_kept _ ?_)
    | (with_reducible refine State.recordWake_kept _ ?_)
    | (with_reducible refine State.dropHeld_kept _ ?_)
    | (with_reducible refine State.onAo_kept _ _ ?_ ?_)
    | (with_reducible refine State.onMgmt_kept _ _ ?_ ?_ ?_ ?_)
    | dsimp only [id]
    | split

theorem State.powerGoodFailed_kept (s : State) (core : Bool)
    (hk : Kept kp kf kn km kq s) : Kept kp kf kn km kq (State.powerGoodFailed s core) := by
  unfold State.powerGoodFailed
  repeat' first
    | with_reducible assumption
    | with_reducible rfl
    | (with_reducible refine Kept.ite ?_ ?_)
    | (with_reducible refine State.onPwr_kept _ _ ?_)
    | (with_reducible refine State.enterHold_kept _ _ _ ?_)
    | (with_reducible refine State.onAo_kept _ _ ?_ ?_)

theorem State.slotAChecked_kept (s : State)
    (hk : Kept kp kf kn km kq s) : Kept kp kf kn km kq (State.slotAChecked s) := by
  unfold State.slotAChecked
  repeat' first
    | with_reducible assumption
    | (with_reducible refine Kept.ite ?_ ?_)
    | (with_reducible refine State.onPwr_kept _ _ ?_)
    | (with_reducible refine State.raise0_kept _ _ _ _ ?_)
    | (with_reducible refine State.revertBoot_kept _ ?_)
    | (with_reducible refine State.bootSlot_kept _ _ _ ?_)

theorem State.slotBChecked_kept (s : State)
    (hk : Kept kp kf kn km kq s) : Kept kp kf kn km kq (State.slotBChecked s) := by
  unfold State.slotBChecked
  repeat' first
    | with_reducible assumption
    | (with_reducible refine Kept.ite ?_ ?_)
    | (with_reducible refine State.raise0_kept _ _ _ _ ?_)
    | (with_reducible refine State.bootSlot_kept _ _ _ ?_)
    | (with_reducible refine State.enterHold_kept _ _ _ ?_)

theorem State.collapse_kept (s : State)
    (hk : Kept kp kf kn km kq s) : Kept kp kf kn km kq (State.collapse s) := by
  unfold State.collapse
  repeat' first
    | with_reducible assumption
    | with_reducible rfl
    | (with_reducible refine Kept.ite ?_ ?_)
    | (with_reducible refine State.onPwr_kept _ _ ?_)
    | (with_reducible refine State.deviceReset_kept _ ?_)
    | (with_reducible refine State.onAo_kept _ _ ?_ ?_)
    | dsimp only [id]
    | split

theorem State.markStage_kept (s : State) (d : PowerDown) (n : Nat)
    (hk : Kept kp kf kn km kq s) : Kept kp kf kn km kq (State.markStage s d n) := by
  refine ⟨hk.1, hk.2, hk.3, hk.4, ?_, hk.6⟩
  have := hk.5
  unfold RingBounded State.markStage at *
  dsimp only
  split <;> exact this

theorem State.stage_kept (s : State) (n : Nat) (work : State → State)
    (hk_work : ∀ hwork_0, Kept kp kf kn km kq hwork_0 → Kept kp kf kn km kq (work hwork_0))
    (hk : Kept kp kf kn km kq s) : Kept kp kf kn km kq (State.stage s n work) := by
  unfold State.stage
  repeat' first
    | with_reducible assumption
    | (with_reducible refine Kept.ite ?_ ?_)
    | (with_reducible refine hk_work _ ?_)
    | (with_reducible refine State.markStage_kept _ _ _ ?_)
    | split

theorem State.closeCauses_kept (s : State)
    (hk : Kept kp kf kn km kq s) : Kept kp kf kn km kq (State.closeCauses s) := by
  unfold State.closeCauses
  repeat' first
    | with_reducible assumption
    | with_reducible intro _
    | (with_reducible refine Kept.ite ?_ ?_)
    | (with_reducible refine State.onPwr_kept _ _ ?_)

theorem State.stopHeads_kept (s : State) (atOnce : Bool)
    (hk : Kept kp kf kn km kq s) : Kept kp kf kn km kq (State.stopHeads s atOnce) := by
  unfold State.stopHeads
  repeat' first
    | with_reducible assumption
    | with_reducible intro _
    | (with_reducible refine Kept.ite ?_ ?_)
    | (with_reducible refine foldl_kept ?_ ?_)
    | (with_reducible refine State.onPaper_kept _ _ ?_)
    | (with_reducible refine State.endStrobes_kept _ _ _ _ ?_)

theorem State.stopAxis_kept (s : State) (a : Fin 4)
    (hk : Kept kp kf kn km kq s) : Kept kp kf kn km kq (State.stopAxis s a) := by
  unfold State.stopAxis
  repeat' first
    | with_reducible assumption
    | (with_reducible refine State.axisOff_kept _ _ _ ?_)

theorem State.commitMany_kept (s : State) (n : Nat) (hk : Kept kp kf kn km kq s) : Kept kp kf kn km kq (s.commitMany n) := by
  induction n generalizing s with
  | zero => exact hk
  | succ n ih => exact ih _ (State.commitOldest_kept _ _ hk)

theorem State.commitCut_kept (s : State)
    (hk : Kept kp kf kn km kq s) : Kept kp kf kn km kq (State.commitCut s) := by
  have h0 := State.draw_kept s hk
  have h1 := State.commitOldest_kept _ false h0
  unfold State.commitCut
  dsimp only
  split
  · exact ⟨h1.1, h1.2, h1.3, h1.4, hk.5, h1.6⟩
  · exact h0

theorem State.enterRetain_kept (s : State) (d : PowerDown)
    (hk : Kept kp kf kn km kq s) : Kept kp kf kn km kq (State.enterRetain s d) := by
  unfold State.enterRetain
  extract_lets was thermal s1 s2 s3
  have h1 : Kept kp kf kn km kq s1 := Kept.ite hk (State.onAo_kept _ _ rfl hk)
  have h2 : Kept kp kf kn km kq s2 := State.deviceReset_kept _ h1
  clear_value s1 s2
  have h3 : Kept kp kf kn km kq s3 := State.onAo_kept _ _ rfl (State.onPwr_kept _ _ h2)
  clear_value s3
  refine Kept.ite h3 ?_
  split
  · exact State.beginWake_kept _ _ h3
  · exact h3

theorem State.dropEnable_kept (s : State) (k : Fin 4)
    (hk : Kept kp kf kn km kq s) : Kept kp kf kn km kq (State.dropEnable s k) := by
  unfold State.dropEnable
  extract_lets s1
  have hk_s1 : Kept kp kf kn km kq s1 := by
    dsimp only [s1]
    repeat' first
      | with_reducible assumption
      | (with_reducible refine State.onPwr_kept _ _ ?_)
  try clear_value s1
  repeat' first
    | with_reducible assumption
    | with_reducible rfl
    | (with_reducible refine Kept.ite ?_ ?_)
    | (with_reducible refine State.onAo_kept _ _ ?_ ?_)

theorem State.wakeByReset_kept (s : State)
    (hk : Kept kp kf kn km kq s) : Kept kp kf kn km kq (State.wakeByReset s) := by
  unfold State.wakeByReset
  repeat' first
    | with_reducible assumption
    | with_reducible intro _
    | (with_reducible refine Kept.ite ?_ ?_)
    | (with_reducible refine State.onAo_kept _ _ ?_ ?_)
    | (with_reducible refine State.onPwr_kept _ _ ?_)
    | (with_reducible refine State.enterWake_kept _ _ ?_)
    | (with_reducible refine State.beginWake_kept _ _ ?_)
    | rfl

theorem State.holdExternal_kept (s : State) (h : Fin 4)
    (hk : Kept kp kf kn km kq s) : Kept kp kf kn km kq (State.holdExternal s h) := by
  unfold State.holdExternal
  repeat' first
    | with_reducible assumption
    | with_reducible intro _
    | (with_reducible refine Kept.ite ?_ ?_)
    | (with_reducible refine State.startExternal_kept _ _ _ ?_)
    | (with_reducible refine State.endStrobes_kept _ _ _ _ ?_)
    | rfl
    | split

theorem State.clockStop_kept (s : State) (a : Fin 4)
    (hk : Kept kp kf kn km kq s) : Kept kp kf kn km kq (State.clockStop s a) := by
  unfold State.clockStop
  repeat' first
    | with_reducible assumption
    | (with_reducible refine Kept.ite ?_ ?_)
    | (with_reducible refine State.onAxis_kept _ _ _ ?_)
    | (with_reducible refine State.setAxis_kept _ _ _ ?_)

theorem State.resumeStanding_kept (s : State) (h : Fin 4)
    (hk : Kept kp kf kn km kq s) : Kept kp kf kn km kq (State.resumeStanding s h) := by
  unfold State.resumeStanding
  extract_lets x
  try clear_value x
  repeat' first
    | with_reducible assumption
    | with_reducible intro _
    | (with_reducible refine Kept.ite ?_ ?_)
    | (with_reducible refine State.endExternal_kept _ _ _ _ ?_)
    | rfl
    | split

theorem State.referenceFailed_kept (s : State)
    (hk : Kept kp kf kn km kq s) : Kept kp kf kn km kq (State.referenceFailed s) := by
  unfold State.referenceFailed
  extract_lets s1 s2 s3 s4
  have hk_s1 : Kept kp kf kn km kq s1 := by
    dsimp only [s1]
    repeat' first
      | with_reducible assumption
      | with_reducible intro _
      | (with_reducible refine foldl_kept ?_ ?_)
      | (with_reducible refine State.holdExternal_kept _ _ ?_)
  try clear_value s1
  have hk_s2 : Kept kp kf kn km kq s2 := by
    dsimp only [s2]
    repeat' first
      | with_reducible assumption
      | with_reducible intro _
      | (with_reducible refine foldl_kept ?_ ?_)
      | (with_reducible refine State.clockStop_kept _ _ ?_)
  try clear_value s2
  have hk_s3 : Kept kp kf kn km kq s3 := by
    dsimp only [s3]
    repeat' first
      | with_reducible assumption
      | (with_reducible refine State.onLink_kept _ _ ?_)
      | (with_reducible refine State.linkFallback_kept _ ?_)
  try clear_value s3
  have hk_s4 : Kept kp kf kn km kq s4 := by
    dsimp only [s4]
    repeat' first
      | with_reducible assumption
      | (with_reducible refine State.changeMode_kept _ _ ?_)
  try clear_value s4
  repeat' first
    | with_reducible assumption
    | with_reducible intro _
    | (with_reducible refine foldl_kept ?_ ?_)
    | (with_reducible refine State.serClock_kept _ ?_)
    | (with_reducible refine State.resumeStanding_kept _ _ ?_)

/-! ### Idle -/

theorem State.mainMicro_kept (s : State)
    (hk : Kept kp kf kn km kq s) : Kept kp kf kn km kq (State.mainMicro s) := by
  unfold State.mainMicro
  repeat' first
    | with_reducible assumption
    | with_reducible intro _
    | (with_reducible refine Kept.ite ?_ ?_)
    | (with_reducible refine State.refreshEligible_kept _ ?_)
    | (with_reducible refine State.marlAccrue_kept _ ?_)
    | (with_reducible refine State.trackMargins_kept _ ?_)
    | (with_reducible refine State.refreshHeads_kept _ ?_)
    | (with_reducible refine State.resendPrinted_kept _ ?_)
    | (with_reducible refine State.arbMicro_kept _ ?_)

theorem State.idle_kept (s : State)
    (hk : Kept kp kf kn km kq s) : Kept kp kf kn km kq (State.idle s) := by
  have h : Kept kp kf kn km kq { s with now := s.now + 1, ao := s.ao.micro } := by
    refine ⟨hk.1, hk.2, hk.3, hk.4, ?_, hk.6⟩
    have := hk.5
    unfold RingBounded Ao.micro at *
    dsimp only
    repeat' split
    all_goals exact this
  exact State.mainMicro_kept _ (State.convMicro_kept _ h)

end Sys2Proof.Machine
end

