-- ==== Sys2Proof/WellFormed.lean ====
section
/-! DEFINITION. Which commands are well formed: operands that the bus, a link frame or a line of U0 can carry. The
meanings are total and need none of it; statements about what arrives from outside may assume it. -/

namespace Sys2Proof

/-- A destination of a link frame: a node, or broadcast (17_ryine, "Frames": 16 to 30 are form errors). -/
def wfDst (d : BitVec 5) : Bool := d.toNat ≤ 15 || d = 31

/-- The payload of a frame has a length of its type (17_ryine, the table of TYPEs). -/
def wfPayload (lo hi : Nat) (p : List Byte) : Bool := lo ≤ p.length && p.length ≤ hi

/-- A number that a line of U0 carries in four hexadecimal digits (18_management, "The mailbox and U0"). -/
def wfHex4 (n : Nat) : Bool := n < 65536

/-- The command is well formed. -/
def Instr.wellFormed (i : Instr) : Bool :=
  match i with
  | .stage4 commits => commits ≤ 64
  | .breakRx _ length => length ≤ 4095
  | .sync _ _ dst payload _ => wfDst dst && wfPayload 7 7 payload
  | .cap _ _ dst payload => wfDst dst && wfPayload 18 18 payload
  | .evt _ _ dst payload => wfDst dst && wfPayload 3 3 payload
  | .migOffer _ _ dst payload => wfDst dst && wfPayload 25 25 payload
  | .migData _ _ dst payload => wfDst dst && wfPayload 4 64 payload
  | .revoke _ _ dst payload => wfDst dst && wfPayload 2 2 payload
  | .reservedFrame _ _ dst => wfDst dst
  | .accept _ _ dst _ _ _ _ => wfDst dst
  | .refuse _ _ dst _ _ _ _ => wfDst dst
  | .abandoned _ _ dst _ _ _ _ => wfDst dst
  | .started _ _ dst _ _ _ _ => wfDst dst
  | .done _ _ dst _ _ _ _ => wfDst dst
  | .failed _ _ dst _ _ _ _ => wfDst dst
  | .revoked _ _ dst _ _ _ _ => wfDst dst
  | .tooLate _ _ dst _ _ _ _ => wfDst dst
  | .u0B off data => wfHex4 off && wfHex4 data.length
  | .u0G off len => wfHex4 off && wfHex4 len
  | _ => true

end Sys2Proof
end

