-- ==== Sys2Proof/Tests/Slice0.lean ====
section
/-! SUPPORT. Tests: what WellFormed refuses, single steps on small states, and for every statement with hypotheses
the states and operands that meet them. -/

namespace Sys2Proof.Tests

open Sys2Proof Sys2Proof.Machine

set_option maxRecDepth 20000

/-! ### Small states -/

/-- A running device, with its supplies up and every lock that wake waits for. -/
def live : State := { State.reset with
  now := 5000000
  pwr := { State.reset.pwr with
    mode := .run, mgRunning := true, pgIo := true, pgCore := true, pgMem := true, pgK := true, mainLock := true
    phase := .none, en := 0xF }
  mgmt := { State.reset.mgmt with running := some 0 }
  ao := { State.reset.ao with xtal := true, time := 5000 }
  link := { State.reset.link with state := .active, nid := 3 }
  analog := { State.reset.analog with flashOk := true, valid := true, temp := 50 }
  island := { State.reset.island with
    state := .operational, powered := true, params := some (Vector.replicate 32 0), key := some 5 } }

/-! Changes to one part of a state. -/

def pw (f : Pwr → Pwr) (s : State) : State := s.onPwr f
def ao (f : Ao → Ao) (s : State) : State := s.onAo f
def mg (f : Mgmt → Mgmt) (s : State) : State := s.onMgmt f
def bus (f : Bus → Bus) (s : State) : State := s.onBus f
def an (f : Analog → Analog) (s : State) : State := s.onAnalog f
def il (f : Island → Island) (s : State) : State := s.onIsland f
def lk (f : Link → Link) (s : State) : State := s.onLink f
def gr (f : Grit → Grit) (s : State) : State := s.onGrit f
def vi (v : Fin 8) (f : Vi → Vi) (s : State) : State := s.onVi v f
def dat (v : Fin 8) (f : DataPort → DataPort) (s : State) : State := s.onData v f
def job (v : Fin 8) (i : Handle) (f : Job → Job) (s : State) : State := s.onJob ⟨v, i⟩ f
def lh (h : Fin 4) (f : LoamHead → LoamHead) (s : State) : State := s.onLoamHead h f
def head (f : Head → Head) (s : State) : State := s.onHead 0 f
def axis (a : Fin 4) (f : Axis → Axis) (s : State) : State := s.onAxis a f
def media (f : Media → Media) (s : State) : State := s.onMedia 0 f
def lamp (l : Fin 8) (f : Lamp → Lamp) (s : State) : State := s.onLamp l f
def run (r : Option Run) (s : State) : State := s.onRun 0 fun _ => r
def conv (f : Converter → Converter) (s : State) : State := s.onConv 0 f
def ser (p : Fin 3) (f : Serial → Serial) (s : State) : State := s.onSer p f
def port (w : Fin 11) (f : ParPort → ParPort) (s : State) : State := s.onPort w f
def evq (w : Fin 9) (f : EventPort → EventPort) (s : State) : State := s.onEvq w f
def silt (f : Silt → Silt) (s : State) : State := s.onSilt f
def cutter (f : Cutter → Cutter) (s : State) : State := s.onCutter f
def par (i : Nat) (x : Par) (s : State) : State := { s with par := sparsePut i x s.par }
def wake (p : WakePhase) (s : State) : State := pw (fun x => { x with mode := .wake, phase := p }) s
def mode (m : Mode) (s : State) : State := pw (fun x => { x with mode := m }) s
def down (r : PdReason) (k : Nat) (s : State) : State := pw (fun p => { p with
  target := some .retain, pd := some { reason := r, stage := k, collapsed := false, stage6Only := false } }) s
def cmd (code : Byte) (a0 a1 a2 a3 : Word) (s : State) : State := mg (fun m => { m with
  command := some { source := .window10, code := code, tag := 7, arg := #v[a0, a1, a2, a3] } }) s
def leg (l : List LegCommand) (s : State) : State := il (fun i => { i with mailbox := l }) s

/-- VI 0 enabled with a contract for head 0. -/
def served : State := vi 0 (fun v => { v with
  state := .enabled, enBit := true
  contract := #v[3, 1, 0xFF, 0, 4, 64, 128, 64, 512, 0, 0, 0, 1024, 0, 0, 0, 1, 0, 0, 0] }) live

/-- Head 0 fitted and IN_SERVICE with 64 dots, its axis IDLE. -/
def fitted : State := axis 0 (fun a => { a with
    state := .idle, enable := true, chopB := .drive false 0 0 false, uncertain := false })
  (head (fun h => { h with
    state := .inService, enable := true, present := true, pen := true, powerChecked := true, vMeas := 24000
    tCode := 2048, rAvg := 11481 }) (par 0x1000 0x00400001 (par 0x1100 0x80 (par 0x1107 256 served))))

/-- A PRINT job of eight lines. -/
def print : Job := { state := .ready, word := #v[1, 0, 0x00080008, 800, 0, 0, 0, 0] }

/-- Band 0 of VI 0 is stored, and its page 0 held. -/
def banded : State := silt (fun x => { x with
  bands := [(0, { chunks := [0], external := false, lost := false })]
  frames := [(0, { owner := 0, use := .store 1, ref := false, pins := 0 }),
    (1, { owner := 0, use := .page 0, ref := false, pins := 1 })] }) fitted

/-- Its job waits for head 0. -/
def ready : State := job 0 0 (fun _ => print) banded

/-- The run of that job, in its lines. -/
def theRun : Run :=
  { job := ⟨0, 0⟩, phase := .print, line := 2, fetchNext := 4, fetched := [List.replicate 512 false, []], hold := none
    paused := false, origin := some 0, startPos := 0, cutLine := none, record := none, cutAt := 0, resend := false
    burnt := 2 }

def theMove (o : MoveOwner) : Move := { target := 5000, speed := 100, acc := 1000, owner := o, lineLocked := false }

/-- The job runs on head 0. -/
def printing : State := run (some theRun) (lh 0 (fun l => { l with running := some ⟨0, 0⟩ })
  (job 0 0 (fun j => { j with state := .active }) (axis 0 (fun a => { a with
    state := .moving, move := some (theMove (.job 0)), speed := 50, pos := 5000000 }) ready)))

/-- Axis 0 in a service move. -/
def moving : State := axis 0 (fun a => { a with
  state := .moving, move := some (theMove .service), speed := 50, pos := 7, revHigh := 9 }) fitted

/-- The cutter at home, axis 3 being its motor and head 0 having it. -/
def cutting (st : CutState) (s : State) : State :=
  cutter (fun c => { c with state := st, home := true }) (par 0x2180 2 (par 0x2200 0x20 s))

/-- A mark sensor on head 0. -/
def sensing : State := par 0x2807 100 (par 0x2800 1 (par 0x2809 10 fitted))

/-- Lamps in every state. -/
def lit : State := lamp 0 (fun l => { l with state := .on, duty := 128 }) (lamp 1 (fun l => { l with state := .inrush })
  (lamp 2 (fun l => { l with state := .waiting, order := 1 }) (par 0x2980 1000 served)))

def record : Record :=
  { seq := 5, net := 5, tare := 0, preset := false, word3 := 0, time := 9, check := 3, printed := false, dups := 2 }

/-- VI 0 holds the legal role, and two records are kept. -/
def weighs : State := bus (fun b => { b with legalRole := 1 })
  (il (fun i => { i with records := [(0, record), (1, { record with seq := 6 })], newest := 1 }) served)

def request (src : LegSource) (code : BitVec 4) (arg : Par) (orphan : Bool := false) : LegCommand :=
  { source := src, code := code, tag := 3, arg := arg, orphan := orphan }

/-- VI 0 owns both tenant ports, which are on. -/
def serial : State :=
  { par 0x13580 0x00010000 (par 0x13581 0x00010000 served) with ser := { live.ser with owner := #v[1, 1] } }

def frame (t : BitVec 4) : RyFrame := { type := t, dst := 31, payload := [1], src := 3, seq := 1, attempts := 2 }

/-- A peer, station 5, that suits the ready job better. -/
def peered : State :=
  let s := job 0 0 (fun j => { j with marginSince := some 0 }) (par 0x3600 0x11 { ready with now := 1000000000 })
  lk (fun l => { l with peer := vmod l.peer 5 fun p => { p with
    present := true, seenAt := some s.now, capAt := some s.now, flags := 2
    cap := vmod p.cap 1 fun _ => BitVec.ofNat 32 ((s.classWord 0 ||| 64) * 65536 + 60000) } }) s

def migration : Migration :=
  { migId := 0, peer := 5, peerHead := 1, accepted := false, started := false, revoking := false, acceptOrder := 0
    buf := [], nextBand := 0, endBand := 1, nextFrame := 0, sent := false }

/-- The job is offered to that peer. -/
def offered (f : Migration → Migration) : State :=
  job 0 0 (fun j => { j with state := .dispatched, remote := some (f migration) }) peered

def guestSlot : GuestSlot :=
  { node := 5, migId := 9, vi := 0, head := 0, word := #v[1, 0, 0, 0], size := 100, data := [1, 2, 3], nextFrame := 1
    reserved := [5], external := false, handle := none }

def guest (g : GuestSlot) : State := lk (fun l => { l with guest := l.guest.set 1 (some g) }) peered

def session (l : List Byte) (s : State) : State := mode .update (mg (fun m => { m with
  session := some { source := .window10, length := 600, received := l }, update := .receiving }) s)

/-! ### States and operands that meet the hypotheses of the statements -/

theorem witness_StepServesTheFront :
    ∃ (i : Instr) (l : List Instr) (s : State), s.pending = i :: l :=
  ⟨_, _, { live with pending := [.pllLock] }, rfl⟩

theorem witness_AlwaysOnIsland_WakeSourcesWake :
    (∃ (s : State), s.pwr.mode = .retain ∧ s.pwr.pd = none ∧ s.ao.guard = false ∧ s.ao.thermalShut = false ∧
      s.ao.wakeEn[(0 : Fin 4)] = true)
    ∧ (∃ (s : State), s.pwr.mode = .retain ∧ s.pwr.pd = none ∧ s.ao.guard = false ∧ s.ao.thermalShut = false ∧
      s.ao.wakeEn[(1 : Fin 4)] = true ∧ s.ao.alarm ≠ 0 ∧ s.ao.retainTime.toNat < s.ao.alarm.toNat ∧ s.ao.alarm.toNat ≤
      s.ao.time.toNat)
    ∧ (∃ (s : State), s.pwr.mode = .retain ∧ s.pwr.pd = none ∧ s.ao.guard = false ∧ s.ao.thermalShut = false ∧
      s.ao.wakeEn[(2 : Fin 4)] = true)
    ∧ (∃ (s : State), s.pwr.mode = .retain ∧ s.pwr.pd = none ∧ s.ao.guard = false ∧ s.ao.thermalShut = false ∧
      s.ao.wakeEn[(3 : Fin 4)] = true ∧ s.ao.pdStage ≠ 0 ∧ s.ao.pdReason = .powerFail)
    ∧ (∃ (s : State), s.pwr.mode = .retain ∧ s.pwr.pd = none ∧ s.ao.guard = false ∧ s.ao.thermalShut = true ∧
      s.ao.thermalCooled = true)
    ∧ (∃ (s : State), s.pwr.mode = .retain ∧ s.pwr.pd = none ∧ s.ao.guard = false ∧ s.ao.thermalShut = true ∧
      s.ao.thermalCooled = true ∧ s.ao.thermalRestart ≠ 0)
    ∧ (∃ (s : State), s.pwr.mode = .retain ∧ s.pwr.pd = none ∧ s.ao.guard = false ∧ s.pwr.rstHeld = true) :=
  ⟨⟨ao (fun a => { a with wakeEn := 15, alarm := 100, retainTime := 50 }) (pw (fun p =>
    { p with mode := .retain, en := 0, mgRunning := false }) live), by decide, by decide, by decide, by decide,
    by decide⟩,
   ⟨ao (fun a => { a with wakeEn := 15, alarm := 100, retainTime := 50 }) (pw (fun p =>
    { p with mode := .retain, en := 0, mgRunning := false }) live), by decide, by decide, by decide, by decide,
    by decide, by decide, by decide, by decide⟩,
   ⟨ao (fun a => { a with wakeEn := 15, alarm := 100, retainTime := 50 }) (pw (fun p =>
    { p with mode := .retain, en := 0, mgRunning := false }) live), by decide, by decide, by decide, by decide,
    by decide⟩,
   ⟨ao (fun a => { a with wakeEn := 15, pdStage := 7 }) (pw (fun p =>
    { p with mode := .retain, en := 0, mgRunning := false }) live), by decide, by decide, by decide, by decide,
    by decide, by decide, by decide⟩,
   ⟨ao (fun a => { a with thermalShut := true, thermalCooled := true }) (ao (fun a =>
    { a with wakeEn := 15, alarm := 100, retainTime := 50 }) (pw (fun p =>
    { p with mode := .retain, en := 0, mgRunning := false }) live)), by decide, by decide, by decide, by decide,
    by decide⟩,
   ⟨ao (fun a => { a with thermalShut := true, thermalCooled := true }) (ao (fun a =>
    { a with wakeEn := 15, alarm := 100, retainTime := 50 }) (pw (fun p =>
    { p with mode := .retain, en := 0, mgRunning := false }) live)), by decide, by decide, by decide, by decide,
    by decide, by decide⟩,
   ⟨pw (fun p => { p with rstHeld := true }) (ao (fun a => { a with wakeEn := 15, alarm := 100, retainTime := 50 })
    (pw (fun p => { p with mode := .retain, en := 0, mgRunning := false }) live)), by decide, by decide, by decide,
    by decide⟩⟩

theorem witness_AlwaysOnIsland :
    (∃ (s : State), s.pwr.mode = .off)
    ∧ (∃ (s : State), s.ao.powered = true)
    ∧ (∃ (s : State), s.ao.thermalShut = true)
    ∧ (∃ (s : State), s.ao.powered = true ∧ s.ao.glitches ≠ 0xFF)
    ∧ (∃ (s : State) (n : BitVec 4), s.ao.wakeLatched = some n ∧ s.pwr.mode = .retain ∧ s.pwr.pd = none) :=
  ⟨⟨mode .off State.reset, by decide⟩,
   ⟨live, by decide⟩,
   ⟨ao (fun a => { a with thermalShut := true }) (mode .retain live), by decide⟩,
   ⟨live, by decide, by decide⟩,
   ⟨ao (fun a => { a with wakeLatched := some 3, guard := true }) (mode .retain live), _, rfl, by decide, by decide⟩⟩

theorem witness_WakeSequence :
    (∀ p ∈ [WakePhase.waitIo, .dropIo, .dropCore, .waitCore, .coreUp, .waitLock, .clocked, .waitMem, .training],
      (wake p State.reset).pwr.mode = .wake ∧ (wake p State.reset).pwr.pd = none ∧ (wake p State.reset).pwr.phase = p
        ∧ (wake p State.reset).pwr.rstHeld = false)
    ∧ (∃ (s : State), s.pwr.mode = .wake ∧ s.pwr.pd = none ∧ s.pwr.phase = .waitIo ∧ s.pwr.ioAttempts < 3)
    ∧ (∃ (s : State), s.pwr.mode = .wake ∧ s.pwr.pd = none ∧ s.pwr.phase = .waitCore ∧ s.pwr.coreAttempts < 3)
    ∧ (∃ (s : State), s.pwr.mode = .wake ∧ s.pwr.pd = none ∧ s.pwr.phase = .waitIo ∧ 3 ≤ s.pwr.ioAttempts)
    ∧ (∃ (s : State), s.pwr.mode = .wake ∧ s.pwr.pd = none ∧ s.pwr.phase = .waitCore ∧ 3 ≤ s.pwr.coreAttempts)
    ∧ (∃ (s : State), s.pwr.mode = .wake ∧ s.pwr.pd ≠ none) :=
  ⟨by decide,
   ⟨wake .waitIo State.reset, by decide, by decide, by decide, by decide⟩,
   ⟨wake .waitCore State.reset, by decide, by decide, by decide, by decide⟩,
   ⟨pw (fun p => { p with ioAttempts := 3 }) (wake .waitIo State.reset), by decide, by decide, by decide, by decide⟩,
   ⟨pw (fun p => { p with coreAttempts := 3 }) (wake .waitCore State.reset), by decide, by decide, by decide, by decide⟩,
   ⟨down .powerFail 0 (wake .waitLock State.reset), by decide, by decide⟩⟩

theorem witness_WakeSequence_BootAndRun :
    (∃ (s : State), s.pwr.mode = .wake ∧ s.pwr.pd = none ∧ s.pwr.mgRunning = true ∧ s.pwr.phase = .checkA ∧ s.inTrial =
      false ∧ s.slotCheck s.preferredArea = 0 ∧ s.mgmt.memCfgFlash.getLsbD 0 = false)
    ∧ (∃ (s : State), s.pwr.mode = .wake ∧ s.pwr.pd = none ∧ s.pwr.mgRunning = true ∧ s.pwr.phase = .checkA ∧
      s.slotCheck s.preferredArea ≠ 0)
    ∧ (∃ (s : State), s.pwr.mode = .wake ∧ s.pwr.pd = none ∧ s.pwr.phase = .ready ∧ s.ao.ring.length < 61) :=
  ⟨⟨wake .checkA live, by decide, by decide, by decide, by decide, by decide, by decide, by decide⟩,
   ⟨mg (fun m => { m with image := #v[none, none] }) (wake .checkA live), by decide, by decide, by decide, by decide,
    by decide⟩,
   ⟨wake .ready live, by decide, by decide, by decide, by decide⟩⟩

theorem witness_SuppliesAndMonitorsFail_SuppliesFail :
    (∃ (s : State), s.pwr.mode.running = true ∧ s.pwr.pd = none)
    ∧ (∃ (s : State), s.pwr.mode.running = true ∧ s.pwr.pd = none ∧ s.pwr.en.getLsbD 0 = true ∧ s.pwr.pgIo = true)
    ∧ (∃ (s : State), s.pwr.mode.running = true ∧ s.pwr.pd = none ∧ s.pwr.en.getLsbD 1 = true ∧ s.pwr.pgCore = true)
    ∧ (∃ (s : State), s.pwr.mode.running = true ∧ s.pwr.pd = none ∧ s.pwr.en.getLsbD 2 = true ∧ s.pwr.pgMem = true)
    ∧ (∃ (s : State), s.pwr.mode.running = true ∧ s.pwr.pd = none ∧ s.part ≠ .tl4816n ∧ ∃ (level : Bool), level ≠
      s.pwr.pgK) :=
  ⟨⟨live, by decide, by decide⟩,
   ⟨live, by decide, by decide, by decide, by decide⟩,
   ⟨live, by decide, by decide, by decide, by decide⟩,
   ⟨live, by decide, by decide, by decide, by decide⟩,
   ⟨live, by decide, by decide, by decide, false, by decide⟩⟩

theorem witness_PowerDownStages :
    (∃ (s : State) (d : PowerDown), s.pwr.pd = some d ∧ d.collapsed = false ∧ d.stage6Only = false ∧ s.pwr.islandsRun
      = true ∧ d.stage = 0)
    ∧ (∃ (s : State) (d : PowerDown), s.pwr.pd = some d ∧ d.collapsed = false ∧ d.stage6Only = false ∧
      s.pwr.islandsRun = true ∧ d.stage = 1)
    ∧ (∃ (s : State) (d : PowerDown), s.pwr.pd = some d ∧ d.collapsed = false ∧ d.stage6Only = false ∧
      s.pwr.islandsRun = true ∧ d.stage = 2)
    ∧ (∃ (s : State) (d : PowerDown), s.pwr.pd = some d ∧ d.collapsed = false ∧ d.stage6Only = false ∧
      s.pwr.islandsRun = true ∧ d.stage = 3)
    ∧ (∃ (s : State) (d : PowerDown), s.pwr.pd = some d ∧ d.collapsed = false ∧ d.stage6Only = false ∧
      s.pwr.islandsRun = true ∧ d.stage = 4 ∧ s.ao.ring.length < 63)
    ∧ (∃ (s : State) (d : PowerDown), s.pwr.pd = some d ∧ d.collapsed = false ∧ d.stage6Only = false ∧
      s.pwr.islandsRun = true ∧ d.stage = 5) :=
  ⟨⟨down .powerFail 0 live, _, rfl, by decide, by decide, by decide, by decide⟩,
   ⟨down .powerFail 1 live, _, rfl, by decide, by decide, by decide, by decide⟩,
   ⟨down .powerFail 2 live, _, rfl, by decide, by decide, by decide, by decide⟩,
   ⟨down .powerFail 3 live, _, rfl, by decide, by decide, by decide, by decide⟩,
   ⟨down .powerFail 4 live, _, rfl, by decide, by decide, by decide, by decide, by decide⟩,
   ⟨down .powerFail 5 live, _, rfl, by decide, by decide, by decide, by decide⟩⟩

theorem witness_PowerDownStages_EnablesDropInOrder :
    (∃ (s : State) (d : PowerDown), s.pwr.pd = some d ∧ d.stage = 6 ∧ d.collapsed = false ∧ s.pwr.en = 0xF)
    ∧ (∃ (s : State) (d : PowerDown), s.pwr.pd = some d ∧ d.stage = 6 ∧ d.collapsed = false ∧ s.pwr.en = 0xB)
    ∧ (∃ (s : State) (d : PowerDown), s.pwr.pd = some d ∧ d.stage = 6 ∧ d.collapsed = false ∧ s.pwr.en = 0x9 ∧
      d.reason = .powerFail)
    ∧ (∃ (s : State) (d : PowerDown), s.pwr.pd = some d ∧ d.stage = 6 ∧ d.collapsed = false ∧ s.pwr.en = 0x1) :=
  ⟨⟨pw (fun p => { p with en := 0xF }) (down .powerFail 6 live), _, rfl, by decide, by decide, by decide⟩,
   ⟨pw (fun p => { p with en := 0xB }) (down .powerFail 6 live), _, rfl, by decide, by decide, by decide⟩,
   ⟨pw (fun p => { p with en := 9 }) (down .powerFail 6 live), _, rfl, by decide, by decide, by decide, by decide⟩,
   ⟨pw (fun p => { p with en := 1 }) (down .powerFail 6 live), _, rfl, by decide, by decide, by decide⟩⟩

theorem witness_ResetAndModeRequests :
    (∃ (s : State), s.pwr.mode.running = true ∧ s.pwr.pd = none)
    ∧ (∃ (s : State), s.modeReqServed = true ∧ s.pwr.pd ≠ none ∧ s.pwr.mode.running = true)
    ∧ (∃ (s : State), s.modeReqServed = true ∧ s.pwr.pd = none ∧ s.pwr.mode.running = true ∧ s.pwr.target = none)
    ∧ (∃ (s : State), s.modeReqServed = true ∧ s.pwr.pd = none ∧ s.pwr.mode.running = true ∧ s.pwr.target = some
      .service)
    ∧ (∃ (s : State), s.modeReqServed = true ∧ s.pwr.pd = none ∧ s.pwr.mode = .service ∧ s.pwr.target = none)
    ∧ (∃ (s : State), s.modeReqServed = true ∧ s.pwr.pd = none ∧ ∃ (v : Word), v.toNat % 8 ≠ 1 ∧ v.toNat % 8 ≠ 3 ∧
      v.toNat % 8 ≠ 5)
    ∧ (∃ (s : State), s.modeReqServed = true ∧ s.pwr.pd = none ∧ s.pwr.mode.running = true ∧ s.pwr.target = some
      .service ∧ s.jobsRunning = false)
    ∧ (∃ (s : State), s.modeReqServed = true ∧ s.pwr.pd = none ∧ s.pwr.memCfgPending = true ∧ s.analog.flashOk = true) :=
  ⟨⟨live, by decide, by decide⟩,
   ⟨down .powerFail 1 live, by decide, by decide, by decide⟩,
   ⟨live, by decide, by decide, by decide, by decide⟩,
   ⟨pw (fun p => { p with target := some .service, memCfgPending := true }) live, by decide, by decide, by decide,
    by decide⟩,
   ⟨mode .service live, by decide, by decide, by decide, by decide⟩,
   ⟨live, by decide, by decide, 0x0000#16, by decide, by decide, by decide⟩,
   ⟨pw (fun p => { p with target := some .service, memCfgPending := true }) live, by decide, by decide, by decide,
    by decide, by decide⟩,
   ⟨pw (fun p => { p with target := some .service, memCfgPending := true }) live, by decide, by decide, by decide,
    by decide⟩⟩

theorem witness_SuppliesAndMonitorsFail_MonitorsOfTheCore :
    (∃ (s : State), s.pwr.islandsRun = true ∧ s.pwr.mainLock = true)
    ∧ (∃ (s : State), s.pwr.mgRunning = true ∧ s.pwr.pd = none ∧ s.pwr.mode.running = true)
    ∧ (∃ (s : State), s.pwr.mode = .wake) :=
  ⟨⟨live, by decide, by decide⟩,
   ⟨live, by decide, by decide, by decide⟩,
   ⟨State.reset, by decide⟩⟩

theorem witness_ParameterRegisters_ParameterRegistersTakeWrites :
    (∃ (s : State) (w : Fin 11), s.pwr.mgRunning = true ∧ (w = 9 → s.part ≠ .tl4816n ∧ s.hvServes = true) ∧
      (s.bus.port[w]).posted = none)
    ∧ (∃ (s : State) (w : Fin 11), s.pwr.mgRunning = true ∧ (w = 9 → s.part ≠ .tl4816n ∧ s.hvServes = true)) :=
  ⟨⟨live, 0, by decide, by decide, by decide⟩,
   ⟨live, 0, by decide, by decide⟩⟩

theorem witness_ParameterRegisters_ParameterRegistersRead :
    (∃ (s : State) (w : Fin 11), s.regServed w 0x12 = true ∧ ((s.finishPosted w).bus.port[w]).index = 0 ∧
      (s.finishPosted w).parCheck w 0 false = errOk)
    ∧ (∃ (s : State) (w : Fin 11), s.regServed w 0x12 = true ∧ (s.finishPosted w).parCheck w ((s.finishPosted
      w).bus.port[w]).index.toNat false ≠ errOk)
    ∧ (∃ (s : State) (w : Fin 11), s.regServed w 0x12 = true ∧ ∃ (x : Par), ((s.finishPosted w).bus.port[w]).snapshot
      = some x) :=
  ⟨⟨live, 0, by decide, by decide, by decide⟩,
   ⟨port 0 (fun p => { p with index := 0x7777 }) live, 0, by decide, by decide⟩,
   ⟨port 0 (fun p => { p with snapshot := some 5 }) live, 0, by decide, _, rfl⟩⟩

theorem witness_PostedWritesComplete :
    (∃ (s : State) (w : Fin 11) (op : PostedOp), (s.bus.port[w]).posted = some op ∧ ∃ (e : BitVec 4), (e = (s.onPort w
      fun p => { p with posted := (none : Option PostedOp), viSel := op.viSel }).parCheck w op.index.toNat true) ∧ e ≠
      errOk)
    ∧ (∃ (s : State) (w : Fin 11) (op : PostedOp), (s.bus.port[w]).posted = some op ∧ ∃ (r : ParRow), op.index =
      0x3814 ∧ (Admitted (s.onPort w fun p => { p with posted := (none : Option PostedOp), viSel := op.viSel }) w
      0x3814 op.value r)) :=
  ⟨⟨port 0 (fun p => { p with posted := some ⟨0x7777, 1, 0⟩ }) live, 0, _, rfl, 0x1#4, by decide, by decide⟩,
   ⟨port 0 (fun p => { p with posted := some ⟨0x3814, 5, 0⟩ }) live, 0, _, rfl, _, by decide, ⟨by decide, rfl,
    by decide, by decide, by decide⟩⟩⟩

theorem witness_RegisterWritesAndBusErrors_RegisterWrites :
    (∃ (s : State), s.pwr.mgRunning = true ∧ ∃ (v : Fin 8), s.winServes v = true ∧ s.pwr.mode ≠ .hold)
    ∧ (∃ (s : State), s.pwr.mgRunning = true ∧ s.hvServes = true ∧ s.pwr.mode ≠ .hold ∧ s.bus.lock.getLsbD 1 = false)
    ∧ (∃ (s : State), s.pwr.mgRunning = true ∧ s.hvServes = true ∧ s.pwr.mode ≠ .hold ∧ s.bus.lock.getLsbD 1 = true)
    ∧ (∃ (s : State), s.pwr.mgRunning = true)
    ∧ (∃ (s : State), s.pwr.mgRunning = true ∧ ∃ (w : Fin 11) (off : BitVec 6), definedOffset w (byteOff off) = false)
    ∧ (∃ (s : State), s.pwr.mgRunning = true ∧ ∃ (v : Fin 8), s.vi[v].state ≠ .enabled) :=
  ⟨⟨served, by decide, 0, by decide, by decide⟩,
   ⟨served, by decide, by decide, by decide, by decide⟩,
   ⟨bus (fun b => { b with lock := 2 }) live, by decide, by decide, by decide, by decide⟩,
   ⟨served, by decide⟩,
   ⟨served, by decide, 0, 0x03#6, by decide⟩,
   ⟨served, by decide, 1, by decide⟩⟩

theorem witness_RegisterWritesAndBusErrors_BusErrors :
    (∃ (s : State) (kind : BitVec 3), s.pwr.mgRunning = true ∧ s.pwr.mode ≠ .hold ∧ kind ≠ 0 ∧ kind ≠ 7)
    ∧ (∃ (s : State), s.bus.errRecent = true ∧ s.bus.errMore = true)
    ∧ (∃ (s : State), s.bus.errMore = false)
    ∧ (∃ (s : State), s.hvServes = true) :=
  ⟨⟨live, 0x1#3, by decide, by decide, by decide, by decide⟩,
   ⟨bus (fun b => { b with errRecent := true, errMore := true }) live, by decide, by decide⟩,
   ⟨live, by decide⟩,
   ⟨live, by decide⟩⟩

theorem witness_LocksAndDeviceTime :
    (∃ (s : State) (v : Word), s.hvServes = true ∧ v.toNat / 256 = 0xA5)
    ∧ (∃ (s : State) (v : Word), s.hvServes = true ∧ v.toNat / 256 ≠ 0xA5)
    ∧ (∃ (s : State) (w : Fin 9), s.regServed (w.castLE (by omega)) 0x30 = true)
    ∧ (∃ (s u : State) (v x : Par) (r : ParRow), Takes s 0 0x13 v r u x) :=
  ⟨⟨live, 0xa501#16, by decide, by decide⟩,
   ⟨live, 0x0005#16, by decide, by decide⟩,
   ⟨live, 0, by decide⟩,
   ⟨live, _, 0x00000005#32, 0x00000005#32, _, ⟨by decide, rfl, ⟨by decide, rfl, by decide, by decide, by decide⟩,
    by decide⟩⟩⟩

theorem witness_DataStreamsStartAndStop :
    (∃ (s : State) (v : Fin 8) (ctrl : Word), s.winServes v = true ∧ (s.vi[v].data).en = false ∧
      (s.vi[v].data).closing = [] ∧ ctrl.getLsbD 1 = true ∧ (s.vi[v].data).addr % 2 = 0)
    ∧ (∃ (s : State) (v : Fin 8) (ctrl : Word), s.winServes v = true ∧ (s.vi[v].data).en = false ∧
      (s.vi[v].data).closing = [] ∧ ctrl.getLsbD 1 = false ∧ (s.vi[v].data).at % 16384 = 0 ∧ (s.vi[v].data).at <
      s.writeLimit v ∧ BitVec.setWidth 2 (s.parB v 0xD00) = 0)
    ∧ (∃ (s : State) (v : Fin 8) (ctrl : Word), s.winServes v = true ∧ (s.vi[v].data).en = false ∧ ctrl.getLsbD 1 =
      true ∧ (s.vi[v].data).addr % 2 = 1)
    ∧ (∃ (s : State) (v : Fin 8), s.winServes v = true ∧ (s.vi[v].data).en = true ∧ (s.vi[v].data).dir = true ∧
      (s.vi[v].data).pinned = none)
    ∧ (∃ (s : State) (v : Fin 8), s.winServes v = true ∧ (s.vi[v].data).en = true ∧ (s.vi[v].data).dir = false)
    ∧ (∃ (s : State) (v : Fin 8) (ctrl : Word), s.winServes v = true ∧ (s.vi[v].data).en = true ∧ (s.vi[v].data).dir =
      false ∧ ((s.vi[v].data).clearBits (ctrl ||| 4)).changes (ctrl ||| 4) = false ∧ ctrl.getLsbD 0 = true) :=
  ⟨⟨served, 0, 0x0002#16, by decide, by decide, by decide, by decide, by decide⟩,
   ⟨served, 0, 0x0000#16, by decide, by decide, by decide, by decide, by decide, by decide, by decide⟩,
   ⟨dat 0 (fun d => { d with addr := 3 }) served, 0, 0x0002#16, by decide, by decide, by decide, by decide⟩,
   ⟨dat 0 (fun d => { d with en := true, dir := true, fifo := [1] }) served, 0, by decide, by decide, by decide,
    by decide⟩,
   ⟨dat 0 (fun d => { d with en := true, fifo := [1] }) served, 0, by decide, by decide, by decide⟩,
   ⟨dat 0 (fun d => { d with en := true, fifo := [1] }) served, 0, 0x0001#16, by decide, by decide, by decide,
    by decide, by decide⟩⟩

theorem witness_DataPortAccesses :
    (∃ (s : State) (v : Fin 8), s.winServes v = true ∧ (s.vi[v].data).en = true ∧ (s.vi[v].data).dir = false ∧
      (s.vi[v].data).fifo.length < 256 ∧ s.writeAt v < s.writeLimit v)
    ∧ (∃ (s : State) (v : Fin 8), s.winServes v = true ∧ (s.vi[v].data).en = true ∧ (s.vi[v].data).dir = false ∧ 256 ≤
      (s.vi[v].data).fifo.length)
    ∧ (∃ (s : State) (v : Fin 8), s.winServes v = false ∧ s.pwr.mgRunning = true)
    ∧ (∃ (s : State) (v : Fin 8) (x : Word) (l : List Word), s.winServes v = true ∧ (s.vi[v].data).dir = true ∧
      (s.vi[v].data).fifo = x :: l ∧ (s.vi[v].data).closing = [])
    ∧ (∃ (s : State) (v : Fin 8), s.winServes v = true ∧ (s.vi[v].data).en = true ∧ (s.vi[v].data).dir = true ∧
      (s.vi[v].data).fifo = [])
    ∧ (∃ (s : State) (v : Fin 8), (s.drain v).vi[v].data.heldWrite = none)
    ∧ (∃ (s : State) (v : Fin 8) (x : Word), (s.drain v).vi[v].data.heldWrite = some x ∧ (s.drain
      v).vi[v].data.fifo.length < 256 ∧ (s.drain v).writeAt v < (s.drain v).writeLimit v)
    ∧ (∃ (s : State) (v : Fin 8), (s.vi[v].data).heldWrite ≠ none)
    ∧ (∃ (s : State) (v : Fin 8), (s.vi[v].data).heldWrite = none ∧ (s.vi[v].data).heldRead = true) :=
  ⟨⟨dat 0 (fun d => { d with en := true }) served, 0, by decide, by decide, by decide, by decide, by decide⟩,
   ⟨dat 0 (fun d => { d with en := true, fifo := List.replicate 256 0 }) served, 0, by decide, by decide, by decide,
    by decide⟩,
   ⟨served, 1, by decide, by decide⟩,
   ⟨dat 0 (fun d => { d with en := true, dir := true, fifo := [7] }) served, 0, _, _, by decide, by decide, rfl,
    by decide⟩,
   ⟨dat 0 (fun d => { d with en := true, dir := true }) served, 0, by decide, by decide, by decide, by decide⟩,
   ⟨dat 0 (fun d => { d with en := true }) served, 0, by decide⟩,
   ⟨dat 0 (fun d => { d with en := true, heldWrite := some 7, fifo := List.replicate 20 1 }) served, 0, _, rfl,
    by decide, by decide⟩,
   ⟨dat 0 (fun d => { d with en := true, heldWrite := some 7, fifo := List.replicate 20 1 }) served, 0, by decide⟩,
   ⟨dat 0 (fun d => { d with en := true, dir := true, heldRead := true }) served, 0, by decide, by decide⟩⟩

theorem witness_ReadStreamsFill :
    (∃ (s : State) (v : Fin 8), (s.vi[v].data).en = true ∧ (s.vi[v].data).dir = true ∧ (s.vi[v].data).fifo.length <
      256 ∧ (s.vi[v].data).fetch < 0x4000000 ∧ (s.vi[v].data).pinned = some ((s.vi[v].data).fetch / 4096) ∧
      (s.vi[v].data).heldRead = false ∧ 2 * (256 - (s.vi[v].data).fifo.length) < 4096 - (s.vi[v].data).fetch % 4096)
    ∧ (∃ (s : State) (v : Fin 8), (s.vi[v].data).en = true ∧ (s.vi[v].data).dir = true ∧ (s.vi[v].data).fifo.length <
      256 ∧ (s.vi[v].data).fetch < 0x4000000 ∧ (s.vi[v].data).pinned = none ∧ s.frameOfPage v ((s.vi[v].data).fetch /
      4096) = none ∧ s.bandLost v (((s.vi[v].data).fetch / 4096) / 4) = false ∧ s.band v (((s.vi[v].data).fetch /
      4096) / 4) ≠ none ∧ s.silt.faults = []) :=
  ⟨⟨dat 0 (fun d => { d with en := true, dir := true, pinned := some 0 }) banded, 0, by decide, by decide, by decide,
    by decide, by decide, by decide, by decide⟩,
   ⟨dat 0 (fun d => { d with en := true, dir := true, fetch := 4096 }) banded, 0, by decide, by decide, by decide,
    by decide, by decide, by decide, by decide, by decide, by decide⟩⟩

theorem witness_EventsQueueAndOverflow :
    (∃ (p : EventPort), p.queue.length < 63)
    ∧ (∃ (p : EventPort), p.queue.length = 63)
    ∧ (∃ (p : EventPort) (l : List Event) (o : Event), 64 ≤ p.queue.length ∧ p.queue = l ++ [o]) :=
  ⟨⟨{ queue := [], pend := 0x0000#16, mask := 0x0000#16, data := 0x0000#16, parErrEvt := false, dataErrEvt := false, capHead := 0 },
    by decide⟩,
   ⟨{ queue := [{ code := 0x01#8, aux := 0x02#8, payload := 0x0003#16 }, { code := 0x01#8, aux := 0x02#8, payload := 0x0003#16 }, { code := 0x01#8, aux := 0x02#8, payload := 0x0003#16 }, { code := 0x01#8, aux := 0x02#8, payload := 0x0003#16 }, { code := 0x01#8, aux := 0x02#8, payload := 0x0003#16 }, { code := 0x01#8, aux := 0x02#8, payload := 0x0003#16 }, { code := 0x01#8, aux := 0x02#8, payload := 0x0003#16 }, { code := 0x01#8, aux := 0x02#8, payload := 0x0003#16 }, { code := 0x01#8, aux := 0x02#8, payload := 0x0003#16 }, { code := 0x01#8, aux := 0x02#8, payload := 0x0003#16 }, { code := 0x01#8, aux := 0x02#8, payload := 0x0003#16 }, { code := 0x01#8, aux := 0x02#8, payload := 0x0003#16 }, { code := 0x01#8, aux := 0x02#8, payload := 0x0003#16 }, { code := 0x01#8, aux := 0x02#8, payload := 0x0003#16 }, { code := 0x01#8, aux := 0x02#8, payload := 0x0003#16 }, { code := 0x01#8, aux := 0x02#8, payload := 0x0003#16 }, { code := 0x01#8, aux := 0x02#8, payload := 0x0003#16 }, { code := 0x01#8, aux := 0x02#8, payload := 0x0003#16 }, { code := 0x01#8, aux := 0x02#8, payload := 0x0003#16 }, { code := 0x01#8, aux := 0x02#8, payload := 0x0003#16 }, { code := 0x01#8, aux := 0x02#8, payload := 0x0003#16 }, { code := 0x01#8, aux := 0x02#8, payload := 0x0003#16 }, { code := 0x01#8, aux := 0x02#8, payload := 0x0003#16 }, { code := 0x01#8, aux := 0x02#8, payload := 0x0003#16 }, { code := 0x01#8, aux := 0x02#8, payload := 0x0003#16 }, { code := 0x01#8, aux := 0x02#8, payload := 0x0003#16 }, { code := 0x01#8, aux := 0x02#8, payload := 0x0003#16 }, { code := 0x01#8, aux := 0x02#8, payload := 0x0003#16 }, { code := 0x01#8, aux := 0x02#8, payload := 0x0003#16 }, { code := 0x01#8, aux := 0x02#8, payload := 0x0003#16 }, { code := 0x01#8, aux := 0x02#8, payload := 0x0003#16 }, { code := 0x01#8, aux := 0x02#8, payload := 0x0003#16 }, { code := 0x01#8, aux := 0x02#8, payload := 0x0003#16 }, { code := 0x01#8, aux := 0x02#8, payload := 0x0003#16 }, { code := 0x01#8, aux := 0x02#8, payload := 0x0003#16 }, { code := 0x01#8, aux := 0x02#8, payload := 0x0003#16 }, { code := 0x01#8, aux := 0x02#8, payload := 0x0003#16 }, { code := 0x01#8, aux := 0x02#8, payload := 0x0003#16 }, { code := 0x01#8, aux := 0x02#8, payload := 0x0003#16 }, { code := 0x01#8, aux := 0x02#8, payload := 0x0003#16 }, { code := 0x01#8, aux := 0x02#8, payload := 0x0003#16 }, { code := 0x01#8, aux := 0x02#8, payload := 0x0003#16 }, { code := 0x01#8, aux := 0x02#8, payload := 0x0003#16 }, { code := 0x01#8, aux := 0x02#8, payload := 0x0003#16 }, { code := 0x01#8, aux := 0x02#8, payload := 0x0003#16 }, { code := 0x01#8, aux := 0x02#8, payload := 0x0003#16 }, { code := 0x01#8, aux := 0x02#8, payload := 0x0003#16 }, { code := 0x01#8, aux := 0x02#8, payload := 0x0003#16 }, { code := 0x01#8, aux := 0x02#8, payload := 0x0003#16 }, { code := 0x01#8, aux := 0x02#8, payload := 0x0003#16 }, { code := 0x01#8, aux := 0x02#8, payload := 0x0003#16 }, { code := 0x01#8, aux := 0x02#8, payload := 0x0003#16 }, { code := 0x01#8, aux := 0x02#8, payload := 0x0003#16 }, { code := 0x01#8, aux := 0x02#8, payload := 0x0003#16 }, { code := 0x01#8, aux := 0x02#8, payload := 0x0003#16 }, { code := 0x01#8, aux := 0x02#8, payload := 0x0003#16 }, { code := 0x01#8, aux := 0x02#8, payload := 0x0003#16 }, { code := 0x01#8, aux := 0x02#8, payload := 0x0003#16 }, { code := 0x01#8, aux := 0x02#8, payload := 0x0003#16 }, { code := 0x01#8, aux := 0x02#8, payload := 0x0003#16 }, { code := 0x01#8, aux := 0x02#8, payload := 0x0003#16 }, { code := 0x01#8, aux := 0x02#8, payload := 0x0003#16 }, { code := 0x01#8, aux := 0x02#8, payload := 0x0003#16 }], pend := 0x0000#16, mask := 0x0000#16, data := 0x0000#16, parErrEvt := false, dataErrEvt := false, capHead := 0 },
    by decide⟩,
   ⟨{ queue := [{ code := 0x01#8, aux := 0x02#8, payload := 0x0003#16 }, { code := 0x01#8, aux := 0x02#8, payload := 0x0003#16 }, { code := 0x01#8, aux := 0x02#8, payload := 0x0003#16 }, { code := 0x01#8, aux := 0x02#8, payload := 0x0003#16 }, { code := 0x01#8, aux := 0x02#8, payload := 0x0003#16 }, { code := 0x01#8, aux := 0x02#8, payload := 0x0003#16 }, { code := 0x01#8, aux := 0x02#8, payload := 0x0003#16 }, { code := 0x01#8, aux := 0x02#8, payload := 0x0003#16 }, { code := 0x01#8, aux := 0x02#8, payload := 0x0003#16 }, { code := 0x01#8, aux := 0x02#8, payload := 0x0003#16 }, { code := 0x01#8, aux := 0x02#8, payload := 0x0003#16 }, { code := 0x01#8, aux := 0x02#8, payload := 0x0003#16 }, { code := 0x01#8, aux := 0x02#8, payload := 0x0003#16 }, { code := 0x01#8, aux := 0x02#8, payload := 0x0003#16 }, { code := 0x01#8, aux := 0x02#8, payload := 0x0003#16 }, { code := 0x01#8, aux := 0x02#8, payload := 0x0003#16 }, { code := 0x01#8, aux := 0x02#8, payload := 0x0003#16 }, { code := 0x01#8, aux := 0x02#8, payload := 0x0003#16 }, { code := 0x01#8, aux := 0x02#8, payload := 0x0003#16 }, { code := 0x01#8, aux := 0x02#8, payload := 0x0003#16 }, { code := 0x01#8, aux := 0x02#8, payload := 0x0003#16 }, { code := 0x01#8, aux := 0x02#8, payload := 0x0003#16 }, { code := 0x01#8, aux := 0x02#8, payload := 0x0003#16 }, { code := 0x01#8, aux := 0x02#8, payload := 0x0003#16 }, { code := 0x01#8, aux := 0x02#8, payload := 0x0003#16 }, { code := 0x01#8, aux := 0x02#8, payload := 0x0003#16 }, { code := 0x01#8, aux := 0x02#8, payload := 0x0003#16 }, { code := 0x01#8, aux := 0x02#8, payload := 0x0003#16 }, { code := 0x01#8, aux := 0x02#8, payload := 0x0003#16 }, { code := 0x01#8, aux := 0x02#8, payload := 0x0003#16 }, { code := 0x01#8, aux := 0x02#8, payload := 0x0003#16 }, { code := 0x01#8, aux := 0x02#8, payload := 0x0003#16 }, { code := 0x01#8, aux := 0x02#8, payload := 0x0003#16 }, { code := 0x01#8, aux := 0x02#8, payload := 0x0003#16 }, { code := 0x01#8, aux := 0x02#8, payload := 0x0003#16 }, { code := 0x01#8, aux := 0x02#8, payload := 0x0003#16 }, { code := 0x01#8, aux := 0x02#8, payload := 0x0003#16 }, { code := 0x01#8, aux := 0x02#8, payload := 0x0003#16 }, { code := 0x01#8, aux := 0x02#8, payload := 0x0003#16 }, { code := 0x01#8, aux := 0x02#8, payload := 0x0003#16 }, { code := 0x01#8, aux := 0x02#8, payload := 0x0003#16 }, { code := 0x01#8, aux := 0x02#8, payload := 0x0003#16 }, { code := 0x01#8, aux := 0x02#8, payload := 0x0003#16 }, { code := 0x01#8, aux := 0x02#8, payload := 0x0003#16 }, { code := 0x01#8, aux := 0x02#8, payload := 0x0003#16 }, { code := 0x01#8, aux := 0x02#8, payload := 0x0003#16 }, { code := 0x01#8, aux := 0x02#8, payload := 0x0003#16 }, { code := 0x01#8, aux := 0x02#8, payload := 0x0003#16 }, { code := 0x01#8, aux := 0x02#8, payload := 0x0003#16 }, { code := 0x01#8, aux := 0x02#8, payload := 0x0003#16 }, { code := 0x01#8, aux := 0x02#8, payload := 0x0003#16 }, { code := 0x01#8, aux := 0x02#8, payload := 0x0003#16 }, { code := 0x01#8, aux := 0x02#8, payload := 0x0003#16 }, { code := 0x01#8, aux := 0x02#8, payload := 0x0003#16 }, { code := 0x01#8, aux := 0x02#8, payload := 0x0003#16 }, { code := 0x01#8, aux := 0x02#8, payload := 0x0003#16 }, { code := 0x01#8, aux := 0x02#8, payload := 0x0003#16 }, { code := 0x01#8, aux := 0x02#8, payload := 0x0003#16 }, { code := 0x01#8, aux := 0x02#8, payload := 0x0003#16 }, { code := 0x01#8, aux := 0x02#8, payload := 0x0003#16 }, { code := 0x01#8, aux := 0x02#8, payload := 0x0003#16 }, { code := 0x01#8, aux := 0x02#8, payload := 0x0003#16 }, { code := 0x01#8, aux := 0x02#8, payload := 0x0003#16 }, { code := 0x01#8, aux := 0x02#8, payload := 0x0003#16 }], pend := 0x0000#16, mask := 0x0000#16, data := 0x0000#16, parErrEvt := false, dataErrEvt := false, capHead := 0 },
    [{ code := 0x01#8, aux := 0x02#8, payload := 0x0003#16 }, { code := 0x01#8, aux := 0x02#8, payload := 0x0003#16 },
    { code := 0x01#8, aux := 0x02#8, payload := 0x0003#16 }, { code := 0x01#8, aux := 0x02#8, payload := 0x0003#16 },
    { code := 0x01#8, aux := 0x02#8, payload := 0x0003#16 }, { code := 0x01#8, aux := 0x02#8, payload := 0x0003#16 },
    { code := 0x01#8, aux := 0x02#8, payload := 0x0003#16 }, { code := 0x01#8, aux := 0x02#8, payload := 0x0003#16 },
    { code := 0x01#8, aux := 0x02#8, payload := 0x0003#16 }, { code := 0x01#8, aux := 0x02#8, payload := 0x0003#16 },
    { code := 0x01#8, aux := 0x02#8, payload := 0x0003#16 }, { code := 0x01#8, aux := 0x02#8, payload := 0x0003#16 },
    { code := 0x01#8, aux := 0x02#8, payload := 0x0003#16 }, { code := 0x01#8, aux := 0x02#8, payload := 0x0003#16 },
    { code := 0x01#8, aux := 0x02#8, payload := 0x0003#16 }, { code := 0x01#8, aux := 0x02#8, payload := 0x0003#16 },
    { code := 0x01#8, aux := 0x02#8, payload := 0x0003#16 }, { code := 0x01#8, aux := 0x02#8, payload := 0x0003#16 },
    { code := 0x01#8, aux := 0x02#8, payload := 0x0003#16 }, { code := 0x01#8, aux := 0x02#8, payload := 0x0003#16 },
    { code := 0x01#8, aux := 0x02#8, payload := 0x0003#16 }, { code := 0x01#8, aux := 0x02#8, payload := 0x0003#16 },
    { code := 0x01#8, aux := 0x02#8, payload := 0x0003#16 }, { code := 0x01#8, aux := 0x02#8, payload := 0x0003#16 },
    { code := 0x01#8, aux := 0x02#8, payload := 0x0003#16 }, { code := 0x01#8, aux := 0x02#8, payload := 0x0003#16 },
    { code := 0x01#8, aux := 0x02#8, payload := 0x0003#16 }, { code := 0x01#8, aux := 0x02#8, payload := 0x0003#16 },
    { code := 0x01#8, aux := 0x02#8, payload := 0x0003#16 }, { code := 0x01#8, aux := 0x02#8, payload := 0x0003#16 },
    { code := 0x01#8, aux := 0x02#8, payload := 0x0003#16 }, { code := 0x01#8, aux := 0x02#8, payload := 0x0003#16 },
    { code := 0x01#8, aux := 0x02#8, payload := 0x0003#16 }, { code := 0x01#8, aux := 0x02#8, payload := 0x0003#16 },
    { code := 0x01#8, aux := 0x02#8, payload := 0x0003#16 }, { code := 0x01#8, aux := 0x02#8, payload := 0x0003#16 },
    { code := 0x01#8, aux := 0x02#8, payload := 0x0003#16 }, { code := 0x01#8, aux := 0x02#8, payload := 0x0003#16 },
    { code := 0x01#8, aux := 0x02#8, payload := 0x0003#16 }, { code := 0x01#8, aux := 0x02#8, payload := 0x0003#16 },
    { code := 0x01#8, aux := 0x02#8, payload := 0x0003#16 }, { code := 0x01#8, aux := 0x02#8, payload := 0x0003#16 },
    { code := 0x01#8, aux := 0x02#8, payload := 0x0003#16 }, { code := 0x01#8, aux := 0x02#8, payload := 0x0003#16 },
    { code := 0x01#8, aux := 0x02#8, payload := 0x0003#16 }, { code := 0x01#8, aux := 0x02#8, payload := 0x0003#16 },
    { code := 0x01#8, aux := 0x02#8, payload := 0x0003#16 }, { code := 0x01#8, aux := 0x02#8, payload := 0x0003#16 },
    { code := 0x01#8, aux := 0x02#8, payload := 0x0003#16 }, { code := 0x01#8, aux := 0x02#8, payload := 0x0003#16 },
    { code := 0x01#8, aux := 0x02#8, payload := 0x0003#16 }, { code := 0x01#8, aux := 0x02#8, payload := 0x0003#16 },
    { code := 0x01#8, aux := 0x02#8, payload := 0x0003#16 }, { code := 0x01#8, aux := 0x02#8, payload := 0x0003#16 },
    { code := 0x01#8, aux := 0x02#8, payload := 0x0003#16 }, { code := 0x01#8, aux := 0x02#8, payload := 0x0003#16 },
    { code := 0x01#8, aux := 0x02#8, payload := 0x0003#16 }, { code := 0x01#8, aux := 0x02#8, payload := 0x0003#16 },
    { code := 0x01#8, aux := 0x02#8, payload := 0x0003#16 }, { code := 0x01#8, aux := 0x02#8, payload := 0x0003#16 },
    { code := 0x01#8, aux := 0x02#8, payload := 0x0003#16 }, { code := 0x01#8, aux := 0x02#8, payload := 0x0003#16 },
    { code := 0x01#8, aux := 0x02#8, payload := 0x0003#16 }], { code := 0x01#8, aux := 0x02#8, payload := 0x0003#16 },
    by decide, by decide⟩⟩

theorem witness_EventRegisters :
    (∃ (s : State) (w : Fin 9), s.evqServes w = true ∧ ∃ (e : Event) (l : List Event), (s.bus.evq[w]).queue = e :: l)
    ∧ (∃ (s : State) (w : Fin 9), s.evqServes w = true ∧ (s.bus.evq[w]).queue = [])
    ∧ (∃ (s : State) (w : Fin 9), s.evqServes w = true) :=
  ⟨⟨evq 0 (fun p => { p with queue := [⟨1, 2, 3⟩] }) live, 0, by decide, _, _, rfl⟩,
   ⟨live, 0, by decide, by decide⟩,
   ⟨evq 0 (fun p => { p with queue := [⟨1, 2, 3⟩] }) live, 0, by decide⟩⟩

theorem witness_VisAndTheLegalRole_VisAreEnabledAndRetired :
    (∃ (s : State) (v : Fin 8), s.hvServes = true ∧ s.vi[v].enQueue = [true] ∧ s.enableCheck1 v = 0)
    ∧ (∃ (s : State) (v : Fin 8), s.hvServes = true ∧ s.vi[v].enQueue = [true] ∧ s.enableCheck1 v ≠ 0)
    ∧ (∃ (s : State) (v : Fin 8), s.hvServes = true ∧ s.vi[v].state = .enabled ∧ s.vi[v].enQueue = []) :=
  ⟨⟨vi 0 (fun v => { v with state := .disabled, enQueue := [true] }) served, 0, by decide, by decide, by decide⟩,
   ⟨vi 1 (fun v => { v with enQueue := [true] }) live, 1, by decide, by decide, by decide⟩,
   ⟨served, 0, by decide, by decide, by decide⟩⟩

theorem witness_VisAreReset :
    (∃ (s : State), s.hvServes = true)
    ∧ (∃ (s : State) (v : Fin 8) (x : Word), s.winServes v = true ∧ x.toNat / 256 = 0x5A ∧ x.getLsbD 0 = true ∧
      (s.finishPosted (viPort v)).vi[v].state = .enabled ∧ (s.finishPosted (viPort v)).vi[v].resetReq = none)
    ∧ (∃ (s : State) (v : Fin 8) (src : ResetSource), s.resetsProceed = true ∧ s.vi[v].resetReq = some src ∧
      s.vi[v].state = .enabled ∧ (s.bus.port[viPort v]).posted = none)
    ∧ (∃ (s : State) (v : Fin 8), s.resetsProceed = true ∧ s.vi[v].state = .resetting)
    ∧ (∃ (s : State) (v : Fin 8), s.resetsProceed = true ∧ s.vi[v].state = .retiring ∧ s.vi[v].resetReq = none) :=
  ⟨⟨served, by decide⟩,
   ⟨served, 0, 0x5a01#16, by decide, by decide, by decide, by decide, by decide⟩,
   ⟨vi 0 (fun v => { v with resetReq := some .tenant }) served, 0, _, by decide, rfl, by decide, by decide⟩,
   ⟨vi 0 (fun v => { v with state := .resetting }) served, 0, by decide, by decide⟩,
   ⟨vi 0 (fun v => { v with state := .retiring }) served, 0, by decide, by decide, by decide⟩⟩

theorem witness_VisAndTheLegalRole_LegalRoleMoves :
    (∃ (s : State) (x : Word), s.hvServes = true ∧ s.bus.lock.getLsbD 6 = false ∧ (BitVec.setWidth 4 x : BitVec
      4).toNat ≤ 8 ∧ s.bus.legalRole = 0 ∧ (BitVec.setWidth 4 x : BitVec 4) ≠ 0)
    ∧ (∃ (s : State) (x : Word), s.hvServes = true ∧ s.bus.lock.getLsbD 6 = false ∧ (BitVec.setWidth 4 x : BitVec 4) =
      s.bus.legalRole)
    ∧ (∃ (s : State), s.hvServes = true ∧ s.bus.lock.getLsbD 6 = true) :=
  ⟨⟨live, 0x0003#16, by decide, by decide, by decide, by decide, by decide⟩,
   ⟨live, 0x0000#16, by decide, by decide, by decide⟩,
   ⟨bus (fun b => { b with lock := 0x40 }) live, by decide, by decide⟩⟩

/-- Every descriptor holds a FILLED job. -/
def filledAll : State :=
  { served with loam := { served.loam with jobs := Vector.replicate 8 (Vector.replicate 16 { state := .filled }) } }

theorem witness_TenantsHandleJobs :
    (∃ (s : State) (v : Fin 8) (i : Handle), s.pwr.mgRunning = true ∧ s.pwr.mode ≠ .hold ∧ s.vi[v].state = .enabled ∧
      s.freeHandle v = some i ∧ s.reservedJobs v < s.freeJobs)
    ∧ (∃ (s : State) (v : Fin 8), s.pwr.mgRunning = true ∧ s.pwr.mode ≠ .hold ∧ s.vi[v].state = .enabled ∧ s.freeHandle
      v = none)
    ∧ (∃ (s : State) (v : Fin 8), s.pwr.mgRunning = true ∧ s.pwr.mode ≠ .hold ∧ (s.vi[v].state = .disabled ∨
      s.vi[v].state = .retiring))
    ∧ (∃ (s : State) (v : Fin 8), s.pwr.mgRunning = true ∧ (s.pwr.mode = .hold ∨ s.vi[v].state = .resetting))
    ∧ (∃ (s : State) (v : Fin 8) (x : Word) (i : Handle), s.winServes v = true ∧ i.val = x.toNat % 16 ∧
      (s.finishPosted (viPort v)).winServes v = true ∧ (s.finishPosted (viPort v)).submitCheck v i = 0 ∧
      ((s.finishPosted (viPort v)).loam.jobs[v][i]).isFence = false ∧ (((s.finishPosted (viPort
      v)).loam.jobs[v][i]).isLegal = false ∨ s.part ≠ .tl4816n))
    ∧ (∃ (s : State) (v : Fin 8) (x : Word) (i : Handle), s.winServes v = true ∧ i.val = x.toNat % 16 ∧
      (s.finishPosted (viPort v)).winServes v = true ∧ ∃ (b : Byte), b = (s.finishPosted (viPort v)).submitCheck v i ∧
      b ≠ 0)
    ∧ (∃ (s : State) (v : Fin 8) (x : Word) (i : Handle), s.winServes v = true ∧ i.val = x.toNat % 16 ∧
      ((s.loam.jobs[v][i]).state.terminal = true ∨ (s.loam.jobs[v][i]).state = .filled))
    ∧ (∃ (s : State) (v : Fin 8) (x : Word) (i : Handle), s.winServes v = true ∧ i.val = x.toNat % 16 ∧
      (s.loam.jobs[v][i]).remote = none ∧ (s.loam.jobs[v][i]).state = .filled)
    ∧ (∃ (s : State) (v : Fin 8) (x : Word) (i : Handle), s.winServes v = true ∧ i.val = x.toNat % 16 ∧
      (s.loam.jobs[v][i]).remote = none ∧ (s.loam.jobs[v][i]).state = .ready ∧ (s.loam.jobs[v][i]).autofree = false)
    ∧ (∃ (s : State) (v : Fin 8), s.winServes v = true ∧ (∀ i : Handle, (s.loam.jobs[v][i]).remote = none ∧
      (s.loam.jobs[v][i]).state ∈ [.filled, .free])) :=
  ⟨⟨served, 0, _, by decide, by decide, by decide, rfl, by decide⟩,
   ⟨filledAll, 0, by decide, by decide, by decide, by decide⟩,
   ⟨served, 1, by decide, by decide, by decide⟩,
   ⟨mode .hold served, 0, by decide, by decide⟩,
   ⟨job 0 0 (fun j => { j with state := .filled }) ready, 0, 0x0000#16, 0, by decide, by decide, by decide,
    by decide +kernel, by decide, by decide⟩,
   ⟨served, 0, 0x0000#16, 0, by decide, by decide, by decide, 0x06#8, by decide +kernel, by decide⟩,
   ⟨filledAll, 0, 0x0000#16, 0, by decide, by decide, by decide⟩,
   ⟨filledAll, 0, 0x0000#16, 0, by decide, by decide, by decide, by decide⟩,
   ⟨ready, 0, 0x0000#16, 0, by decide, by decide, by decide, by decide, by decide⟩,
   ⟨served, 0, by decide, by decide⟩⟩

theorem witness_HeadsTakeJobsAndCapacity_HeadsTakeJobs :
    (∃ (s : State) (h : Fin 4), s.refreshEligible.dispatches = true ∧ (s.refreshEligible.loam.head[h]).running = none
      ∧ (s.refreshEligible.loam.head[h]).reserved = none ∧ (s.refreshEligible.loam.head[h]).purging = false ∧
      s.refreshEligible.paper.run[h] = none ∧ s.refreshEligible.selectJob h = none)
    ∧ (∃ (s : State) (h : Fin 4), s.refreshEligible.dispatches = true ∧ (s.refreshEligible.loam.head[h]).running =
      none ∧ (s.refreshEligible.loam.head[h]).reserved = none ∧ (s.refreshEligible.loam.head[h]).purging = false ∧
      s.refreshEligible.paper.run[h] = none ∧ ∃ (j : JobRef) (b : Bool), s.refreshEligible.selectJob h = some (j, b) ∧
      (s.refreshEligible.loam.head[h]).purge = none ∧ s.refreshEligible.misfits (s.refreshEligible.job j) = false ∧
      (s.refreshEligible.job j).isLegal = false ∧ (s.refreshEligible.job j).head = h ∧ (s.refreshEligible.job
      j).prints = true ∧ s.refreshEligible.tofOn h = false)
    ∧ (∃ (s : State) (h : Fin 4), s.refreshEligible.dispatches = true ∧ (s.refreshEligible.loam.head[h]).running =
      none ∧ (s.refreshEligible.loam.head[h]).reserved = none ∧ (s.refreshEligible.loam.head[h]).purging = false ∧
      s.refreshEligible.paper.run[h] = none ∧ ∃ (j : JobRef) (b : Bool), s.refreshEligible.selectJob h = some (j, b) ∧
      (s.refreshEligible.loam.head[h]).purge = none ∧ s.refreshEligible.misfits (s.refreshEligible.job j) = false ∧
      (s.refreshEligible.job j).isLegal = false ∧ (s.refreshEligible.job j).head = h ∧ (s.refreshEligible.job
      j).prints = false ∧ (s.refreshEligible.job j).kind = 3)
    ∧ (∃ (s : State) (h : Fin 4), s.refreshEligible.dispatches = true ∧ (s.refreshEligible.loam.head[h]).running =
      none ∧ (s.refreshEligible.loam.head[h]).reserved = none ∧ (s.refreshEligible.loam.head[h]).purging = false ∧
      s.refreshEligible.paper.run[h] = none ∧ ∃ (j : JobRef) (b : Bool), s.refreshEligible.selectJob h = some (j, b) ∧
      (s.refreshEligible.loam.head[h]).purge = none ∧ s.refreshEligible.misfits (s.refreshEligible.job j) = false ∧
      (s.refreshEligible.job j).isLegal = false ∧ (s.refreshEligible.job j).head = h ∧ (s.refreshEligible.job
      j).kind = 2)
    ∧ (∃ (s : State) (h : Fin 4), s.refreshEligible.dispatches = true ∧ (s.refreshEligible.loam.head[h]).running =
      none ∧ (s.refreshEligible.loam.head[h]).reserved = none ∧ (s.refreshEligible.loam.head[h]).purging = false ∧
      s.refreshEligible.paper.run[h] = none ∧ ∃ (j : JobRef × Bool) (p : Purge), s.refreshEligible.selectJob h = some
      j ∧ (s.refreshEligible.loam.head[h]).purge = some p ∧ p.empty = true ∧
      s.refreshEligible.paper.axis[s.refreshEligible.paperAxis h].state = .idle ∧
      s.refreshEligible.paper.axis[s.refreshEligible.paperAxis h].queued = none)
    ∧ (∃ (s : State) (h : Fin 4) (p : Purge), s.loam.head[h].purge = some p ∧ s.loam.head[h].purging = true ∧
      s.loam.head[h].purgeCut = true ∧ s.paper.axis[s.paperAxis h].move = none ∧ s.paper.axis[s.paperAxis h].atRest =
      true) :=
  ⟨⟨fitted, 0, by decide, by decide, by decide, by decide, by decide, by decide⟩,
   ⟨ready, 0, by decide, by decide, by decide, by decide, by decide, _, _, rfl, by decide, by decide, by decide,
    by decide, by decide, by decide⟩,
   ⟨job 0 0 (fun j => { j with word := #v[3, 0, 0, 0, 0, 0, 0, 0] }) (cutting .home ready), 0, by decide, by decide,
    by decide, by decide, by decide, _, _, rfl, by decide, by decide, by decide, by decide, by decide, by decide⟩,
   ⟨job 0 0 (fun j => { j with word := #v[2, 5, 0, 100, 0, 0, 0, 0] }) ready, 0, by decide, by decide, by decide,
    by decide, by decide, _, _, rfl, by decide, by decide, by decide, by decide, by decide⟩,
   ⟨lh 0 (fun l => { l with purge := some { endAt := 5, length := 3, empty := true } }) ready, 0, by decide,
    by decide, by decide, by decide, by decide, _, _, rfl, rfl, by decide, by decide, by decide⟩,
   ⟨lh 0 (fun l =>
    { l with purge := some { endAt := 5, length := 3, empty := true }, purging := true, purgeCut := true }) fitted, 0,
    _, rfl, by decide, by decide, by decide, by decide⟩⟩

theorem witness_HeadsTakeJobsAndCapacity_CapacityAndOffers :
    (∃ (s : State) (h : Fin 4), s.pwr.islandsRun = true ∧ s.headPresent h = true)
    ∧ (∃ (s : State), s.dispatches = false ∨ s.link.live = false ∨ s.ryEn = false)
    ∧ (∃ (s : State), s.dispatches = true ∧ s.link.live = true ∧ s.ryEn = true ∧ s.trackMargins.offerChoice = none)
    ∧ (∃ (s : State), s.dispatches = true ∧ s.link.live = true ∧ s.ryEn = true ∧ ∃ (j : JobRef) (n : Fin 16) (k : Fin
      4), s.trackMargins.offerChoice = some (j, n, k) ∧ s.trackMargins.remoteJobs.length < 8 ∧
      ((s.trackMargins.remoteJobs.all fun e => e.2.accepted) = true) ∧ s.trackMargins.link.room = true) :=
  ⟨⟨peered, 0, by decide, by decide⟩,
   ⟨State.reset, by decide⟩,
   ⟨par 0x3600 0x11 fitted, by decide, by decide, by decide, by decide +kernel⟩,
   ⟨peered, by decide, by decide, by decide, { vi := 0, handle := 0 }, 5, 1, by decide +kernel, by decide,
    by decide +kernel, by decide⟩⟩

theorem witness_RasterEngines_RasterParameterWrites :
    (∃ (s u : State) (w : Fin 11) (v x : Par) (r : ParRow) (y : Fin 8), Takes s w 0x906 v r u x ∧ r.banked = true ∧
      u.portVi w = some y ∧ bits x 0 12 + (bits x 16 12 + 1) ≤ 4096)
    ∧ (∃ (s u : State) (w : Fin 11) (v x : Par) (r : ParRow) (y : Fin 8), Takes s w 0x906 v r u x ∧ r.banked = true ∧
      u.portVi w = some y ∧ 4096 < bits x 0 12 + (bits x 16 12 + 1))
    ∧ (∃ (s u : State) (w : Fin 11) (v x : Par) (r : ParRow), Takes s w 0x810 (withBit v 0) r u x ∧ bit x 0 = true ∧
      (ownedBy u.slotTable 7 < 4 ∨ (u.slotTable.toList.any fun e => 10 ≤ e.toNat && e.toNat ≤ 14) = true))
    ∧ (∃ (s u : State) (w : Fin 11) (v x : Par) (r : ParRow), Takes s w 0x810 (withBit v 0) r u x ∧ bit x 0 = true ∧
      (¬(ownedBy u.slotTable 7 < 4 ∨ (u.slotTable.toList.any fun e => 10 ≤ e.toNat && e.toNat ≤ 14) = true))) :=
  ⟨⟨served, _, 1, 0x00000001#32, 0x00000001#32, _, _, ⟨by decide, rfl, ⟨by decide, rfl, by decide, by decide,
    by decide⟩, by decide⟩, by decide, rfl, by decide⟩,
   ⟨served, _, 1, 0x00010fff#32, 0x00010fff#32, _, _, ⟨by decide, rfl, ⟨by decide, rfl, by decide, by decide,
    by decide⟩, by decide⟩, by decide, rfl, by decide⟩,
   ⟨par 0x840 12 live, _, 0, 0x00000001#32, 0x00000001#32, _, ⟨by decide, rfl, ⟨by decide, rfl, by decide, by decide,
    by decide⟩, by decide⟩, by decide, by decide⟩,
   ⟨served, _, 0, 0x00000001#32, 0x00000001#32, _, ⟨by decide, rfl, ⟨by decide, rfl, by decide, by decide, by decide⟩,
    by decide⟩, by decide, by decide⟩⟩

/-- No requester owns an entry of the slot table or takes part in the background. -/
def unserved (s : State) : State :=
  par 0x811 0 (silt (fun x => { x with arb := { x.arb with table := Vector.replicate 64 15 } }) s)

/-- The decode in progress of band 0 of VI 0. -/
def decodes (d : Decode → Decode) : State := silt (fun x => { x with decode := some (d {
  vi := 0, band := 0, last := 1, next := 0, chunks := [0], external := false }) }) banded

theorem witness_RasterEngines :
    (∃ (s : State) (p : Vector (BitVec 4) 64 × Vector Nat 10), s.silt.arb.pending = some p)
    ∧ (∃ (s : State) (f : PageFault) (b : Band), s.silt.decode = none ∧ s.pwr.islandsRun = true ∧ s.arbServes 6 = true ∧
      s.pruneFaults.firstFault = some f ∧ s.pruneFaults.band f.vi (f.page / 4) = some b)
    ∧ (∃ (s : State), s.arbServes 6 = false)
    ∧ (∃ (s : State) (d : Decode) (l : List Byte), s.silt.decode = some d ∧ s.arbServes 6 = true ∧ d.freed = some l)
    ∧ (∃ (s : State) (d : Decode) (b : Band), s.silt.decode = some d ∧ s.arbServes 6 = true ∧ d.freed = none ∧ s.band
      d.vi d.band = some b ∧ b.chunks ≠ d.chunks)
    ∧ (∃ (s : State) (d : Decode) (b : Band), s.silt.decode = some d ∧ s.arbServes 6 = true ∧ d.freed = none ∧ s.band
      d.vi d.band = some b ∧ b.chunks = d.chunks ∧ b.external = d.external ∧ b.lost = false)
    ∧ (∃ (s : State) (v : Fin 8) (f : Nat), (∀ u : Fin 8, s.frameMax u < s.heldFrames u ↔ u = v) ∧ (((s.clockOrder
      v).find? fun f => match sparseFind f s.silt.frames with | some x => !x.ref | none => false) = some f)) :=
  ⟨⟨silt (fun x => { x with arb := { x.arb with pending := some (Vector.replicate 64 3, Vector.replicate 10 5) } })
    live, _, rfl⟩,
   ⟨silt (fun x => { x with faults := [{ vi := 0, page := 1, cls := .read, raisedAt := 3 }] }) banded, _, _,
    by decide, by decide, by decide, rfl, rfl⟩,
   ⟨unserved live, by decide⟩,
   ⟨decodes fun d => { d with freed := some [1, 2] }, _, _, rfl, by decide, rfl⟩,
   ⟨decodes fun d => { d with chunks := [7] }, _, _, rfl, by decide, by decide, rfl, by decide⟩,
   ⟨decodes fun d => d, _, _, rfl, by decide, by decide, rfl, by decide, by decide, by decide⟩,
   ⟨vi 0 (fun v => { v with contract := v.contract.set 6 1 }) (silt (fun x =>
    { x with frames := [(1, { owner := 0, use := .page 0, ref := false, pins := 0 }), (2, { owner := 0, use := .page 1, ref := true, pins := 0 })] })
    banded), 0, 1, by decide, by decide⟩⟩

/-- A closed band of VI 0 waits in buffer 0. -/
def closed (discard : Bool) : State := { served with marl := { live.marl with
  buffer := live.marl.buffer.set 0 (some { vi := 0, band := 0, bytes := [1], closed := true, closedOrder := 0
                                           speckle := false, dither := false, storeFull := false, discard := discard }) } }

/-- The compressor codes it. -/
def coding (discard : Bool) : State := (closed discard).onMarl fun m => { m with
  coding := some { buffer := 0, chunks := [1], external := false } }

theorem witness_MarlCodesBlocks :
    (∃ (s : State), s.marl.coding = none ∧ s.compressorRuns = true ∧ s.marlAccrue.marlNext (List.finRange 8) = none)
    ∧ (∃ (s w : State) (v : Fin 8) (b : Bool) (i : Fin 8) (q : IngestBuffer) (l : List Nat), s.marl.coding = none ∧
      s.compressorRuns = true ∧ s.marlAccrue.marlNext (List.finRange 8) = some (v, b) ∧ s.marlAccrue.marl.oldestClosed
      v = some (i, q) ∧ s.marlAccrue.storeUsed v + s.marlAccrue.storeReserved v + 17 ≤ (s.marlAccrue.parB v
      0x902).toNat ∧ s.marlAccrue.reserveChunks v 17 = some (l, w))
    ∧ (∃ (s : State), s.marl.coding ≠ none) ∧ (∃ (s : State), s.compressorRuns = false)
    ∧ (∃ (s : State) (k : Coding) (b : IngestBuffer), s.marl.coding = some k ∧ s.marl.buffer[k.buffer] = some b ∧
      s.compressorRuns = true ∧ b.discard = false)
    ∧ (∃ (s : State) (k : Coding) (b : IngestBuffer), s.marl.coding = some k ∧ s.marl.buffer[k.buffer] = some b ∧
      s.compressorRuns = true ∧ b.discard = true)
    ∧ (∃ (s : State), s.marl.coding = none) :=
  ⟨⟨served, by decide, by decide, by decide +kernel⟩,
   ⟨closed false, _, _, _, _, _, _, by decide, by decide, rfl, rfl, by decide, rfl⟩,
   ⟨coding false, by decide⟩, ⟨State.reset, by decide⟩,
   ⟨coding false, _, _, rfl, rfl, by decide, by decide⟩,
   ⟨coding true, _, _, rfl, rfl, by decide, by decide⟩,
   ⟨served, by decide⟩⟩

theorem witness_HeadParameterWrites :
    (∃ (s u : State) (w : Fin 11) (h : Fin 4) (v x : Par) (r : ParRow), Takes s w (headAt h 0) v r u x ∧
      u.paper.head[h].state = .unfitted ∧ bit x 0 = true)
    ∧ (∃ (s u : State) (w : Fin 11) (h : Fin 4) (v x : Par) (r : ParRow), Takes s w (headAt h 0) v r u x ∧
      u.paper.head[h].state = .out ∧ bit x 0 = false)
    ∧ (∃ (s u : State) (w : Fin 11) (h : Fin 4) (v x : Par) (r : ParRow), Takes s w (headAt h 6) (withBit v 0) r u x ∧
      bit x 0 = true ∧ bit x 1 = false ∧ bit x 2 = false ∧ u.paper.head[h].state = .out ∧ u.paper.head[h].cause ≠
      .notPresent ∧ u.paper.head[h].cause ≠ .hotplug)
    ∧ (∃ (s u : State) (w : Fin 11) (h : Fin 4) (v x : Par) (r : ParRow), Takes s w (headAt h 6) (withBit v 0) r u x ∧
      bit x 0 = true ∧ bit x 1 = false ∧ bit x 2 = false ∧ u.paper.head[h].state = .out ∧ u.paper.head[h].cause =
      .hotplug ∧ u.pwr.mode = .service)
    ∧ (∃ (s u : State) (w : Fin 11) (h : Fin 4) (v x : Par) (r : ParRow), Takes s w (headAt h 6) (withBit v 0) r u x ∧
      bit x 0 = true ∧ bit x 1 = false ∧ bit x 2 = false ∧ u.paper.head[h].state = .out ∧ (u.paper.head[h].cause =
      .notPresent ∨ (u.paper.head[h].cause = .hotplug ∧ u.pwr.mode ≠ .service)))
    ∧ (∃ (s u : State) (w : Fin 11) (h : Fin 4) (v x : Par) (r : ParRow), Takes s w (headAt h 6) (v &&& 0xFFFFFFFE) r
      u x ∧ bit x 1 = false ∧ bit x 2 = false ∧ u.paper.head[h].state = .powering)
    ∧ (∃ (s u : State) (w : Fin 11) (h : Fin 4) (v x : Par) (r : ParRow), Takes s w (headAt h 6) (withBit v 1) r u x ∧
      bit x 0 = true ∧ bit x 1 = true ∧ bit x 2 = false ∧ u.paper.head[h].state = .inService)
    ∧ (∃ (s u : State) (w : Fin 11) (h : Fin 4) (v x : Par) (r : ParRow), Takes s w (headAt h 6) (withBit v 2) r u x ∧
      bit x 0 = true ∧ bit x 1 = false ∧ bit x 2 = true ∧ u.paper.head[h].state = .inService) :=
  ⟨⟨live, _, 0, 0, 0x00400001#32, 0x00400001#32, _, ⟨by decide, rfl, ⟨by decide, rfl, by decide, by decide,
    by decide⟩, by decide⟩, by decide, by decide⟩,
   ⟨head (fun h => { h with state := .out, cause := .manual }) fitted, _, 0, 0, 0x00400000#32, 0x00400000#32, _,
    ⟨by decide, rfl, ⟨by decide, rfl, by decide, by decide, by decide⟩, by decide⟩, by decide, by decide⟩,
   ⟨head (fun h => { h with state := .out, cause := .manual }) fitted, _, 0, 0, 0x00000000#32, 0x00000001#32, _,
    ⟨by decide, rfl, ⟨by decide, rfl, by decide, by decide, by decide⟩, by decide⟩, by decide, by decide, by decide,
    by decide, by decide, by decide⟩,
   ⟨mode .service (head (fun h => { h with state := .out, cause := .hotplug }) fitted), _, 0, 0, 0x00000000#32,
    0x00000001#32, _, ⟨by decide, rfl, ⟨by decide, rfl, by decide, by decide, by decide⟩, by decide⟩, by decide,
    by decide, by decide, by decide, by decide, by decide⟩,
   ⟨head (fun h => { h with state := .out, cause := .notPresent }) fitted, _, 0, 0, 0x00000000#32, 0x00000001#32, _,
    ⟨by decide, rfl, ⟨by decide, rfl, by decide, by decide, by decide⟩, by decide⟩, by decide, by decide, by decide,
    by decide, by decide⟩,
   ⟨head (fun h => { h with state := .powering, cause := .none }) fitted, _, 0, 0, 0x00000000#32, 0x00000000#32, _,
    ⟨by decide, rfl, ⟨by decide, rfl, by decide, by decide, by decide⟩, by decide⟩, by decide, by decide, by decide⟩,
   ⟨fitted, _, 0, 0, 0x00000001#32, 0x00000003#32, _, ⟨by decide, rfl, ⟨by decide, rfl, by decide, by decide,
    by decide⟩, by decide⟩, by decide, by decide, by decide, by decide⟩,
   ⟨fitted, _, 0, 0, 0x00000001#32, 0x00000005#32, _, ⟨by decide, rfl, ⟨by decide, rfl, by decide, by decide,
    by decide⟩, by decide⟩, by decide, by decide, by decide, by decide⟩⟩

theorem witness_HeadsGoOutAndReturn :
    (∃ (s : State) (h : Fin 4), s.paper.run[h] = none ∧ ((s.paper.head[h]).state = .inService ∨
      (s.paper.head[h]).state = .powering))
    ∧ (∃ (s : State) (h : Fin 4), s.paper.run[h] = none ∧ ∃ (code : BitVec 12), s.headPresent h = true ∧
      s.pwr.islandsRun = true ∧ badThermistor code.toNat = true ∧ (s.paper.head[h]).state = .inService ∧ 1 ≤
      (s.paper.head[h]).badTherm)
    ∧ (∃ (s : State) (h : Fin 4), s.paper.run[h] = none ∧ ∃ (code : BitVec 12), s.headPresent h = true ∧
      s.pwr.islandsRun = true ∧ badThermistor code.toNat = true ∧ (s.paper.head[h]).badTherm = 0)
    ∧ (∃ (s : State) (h : Fin 4), s.paper.run[h] = none ∧ ∃ (code : BitVec 12), s.headPresent h = true ∧
      s.pwr.islandsRun = true ∧ badThermistor code.toNat = false)
    ∧ (∃ (s : State) (h : Fin 4), s.paper.run[h] = none ∧ ∃ (code : BitVec 12), (s.paper.head[h]).state = .inService ∧
      s.badSupplyMv h (s.supplyMv h code.toNat) = true ∧ 1 ≤ (s.paper.head[h]).badSupply)
    ∧ (∃ (s : State) (h : Fin 4), s.paper.run[h] = none ∧ ∃ (code : BitVec 12), (s.paper.head[h]).state = .inService ∧
      s.badSupplyMv h (s.supplyMv h code.toNat) = false)
    ∧ (∃ (s : State) (h : Fin 4), s.paper.run[h] = none ∧ s.headPresent h = true ∧ (s.paper.head[h]).state = .out ∧
      (s.paper.head[h]).cause = .notPresent)
    ∧ (∃ (s : State) (h : Fin 4), s.paper.run[h] = none ∧ (s.paper.head[h]).state ≠ .unfitted ∧
      (s.paper.head[h]).cause ≠ .notPresent)
    ∧ (∃ (s : State) (h : Fin 4), s.paper.run[h] = none ∧ (s.paper.head[h]).state = .powering ∧
      (s.paper.head[h]).powerChecked = false ∧ s.pwr.pastStage 2 = true)
    ∧ (∃ (s : State) (h : Fin 4), s.paper.run[h] = none ∧ ∃ (vCode : BitVec 12), (s.paper.head[h]).state = .powering ∧
      (s.paper.head[h]).powerChecked = false ∧ s.pwr.pastStage 2 = false ∧ s.badSupplyMv h (s.supplyMv h vCode.toNat) = true)
    ∧ (∃ (s : State) (h : Fin 4), s.paper.run[h] = none ∧ ∃ (vCode tCode : BitVec 12), (s.paper.head[h]).state =
      .powering ∧ (s.paper.head[h]).powerChecked = false ∧ s.pwr.pastStage 2 = false ∧ s.badSupplyMv h (s.supplyMv h vCode.toNat) = false ∧
      badThermistor tCode.toNat = false)
    ∧ (∃ (s : State) (h : Fin 4), s.paper.run[h] = none ∧ (s.paper.head[h]).state = .out ∧ bit (s.hPar h 0) 10 = true
      ∧ (s.paper.head[h]).retries.toNat < 3 ∧ (s.paper.head[h]).cause = .supply) :=
  ⟨⟨fitted, 0, by decide, by decide⟩,
   ⟨head (fun h => { h with badTherm := 1, badSupply := 1 }) (par 0x100A 0xFFFF0001 fitted), 0, by decide, 0x000#12,
    by decide, by decide, by decide, by decide, by decide⟩,
   ⟨fitted, 0, by decide, 0x000#12, by decide, by decide, by decide, by decide⟩,
   ⟨fitted, 0, by decide, 0x800#12, by decide, by decide, by decide⟩,
   ⟨head (fun h => { h with badTherm := 1, badSupply := 1 }) (par 0x100A 0xFFFF0001 fitted), 0, by decide, 0x000#12,
    by decide, by decide, by decide⟩,
   ⟨fitted, 0, by decide, 0x000#12, by decide, by decide⟩,
   ⟨head (fun h => { h with state := .out, cause := .notPresent }) fitted, 0, by decide, by decide, by decide,
    by decide⟩,
   ⟨fitted, 0, by decide, by decide, by decide⟩,
   ⟨down .powerFail 2 (head (fun h => { h with powerChecked := false, state := .powering }) fitted), 0, by decide,
    by decide, by decide, by decide⟩,
   ⟨head (fun h => { h with powerChecked := false, state := .powering }) (par 0x100A 0xFFFF0001 fitted), 0, by decide,
    0x000#12, by decide, by decide, by decide, by decide⟩,
   ⟨head (fun h => { h with powerChecked := false, state := .powering }) fitted, 0, by decide, 0x000#12, 0x800#12,
    by decide, by decide, by decide, by decide, by decide⟩,
   ⟨head (fun h => { h with state := .out, cause := .supply }) (par 0x1000 0x00400401 fitted), 0, by decide,
    by decide, by decide, by decide, by decide⟩⟩

theorem witness_ScansAndLines_ScansOfHeads :
    (∃ (s : State) (h : Fin 4), (s.paper.head[h]).state = .inService ∧ s.headIdle h = true ∧ (s.paper.head[h]).scanReq
      = true ∧ (s.paper.head[h]).scanDot = none ∧ (s.paper.head[h]).scanning = false ∧ s.paper.axis[s.paperAxis
      h].atRest = true ∧ s.pwr.pastStage 2 = false)
    ∧ (∃ (s : State) (h : Fin 4) (d n : Nat), (s.paper.head[h]).scanning = true ∧ (s.paper.head[h]).scanDot = some d ∧
      s.scans h d = false ∧ s.scanFrom h (d + 1) = some n)
    ∧ (∃ (s : State) (h : Fin 4) (d n : Nat), (s.paper.head[h]).scanning = true ∧ (s.paper.head[h]).scanDot = some d ∧
      (s.paper.head[h]).state = .powering ∧ s.scans h d = true ∧ s.scanFrom h (d + 1) = some n ∧ bit (s.hPar h 0) 9 =
      false)
    ∧ (∃ (s : State) (h : Fin 4), (s.paper.head[h]).scanning = true ∧ (s.paper.head[h]).scanDot = none ∧
      (s.paper.head[h]).state = .inService)
    ∧ (∃ (s : State) (h : Fin 4), (s.paper.head[h]).scanning = true ∧ (s.paper.head[h]).scanDot = none ∧
      (s.paper.head[h]).state = .powering ∧ (s.paper.head[h]).badDots ≤ (s.hPar h 0x15).toNat)
    ∧ (∃ (s : State) (h : Fin 4) (hd : Nat), hd < s.laneDots h * s.lanes h) :=
  ⟨⟨head (fun h => { h with scanReq := true }) fitted, 0, by decide, by decide, by decide, by decide, by decide,
    by decide, by decide⟩,
   ⟨head (fun h => { h with scanning := true, scanReq := true, scanDot := some 3, dots := [(3, ⟨.short, 0⟩)] })
    (par 0x1080 8 fitted), 0, _, _, by decide, rfl, by decide, rfl⟩,
   ⟨head (fun h => { h with state := .powering, scanning := true, scanReq := true, scanDot := some 3, baseline := 5 })
    fitted, 0, _, _, by decide, rfl, by decide, by decide, rfl, by decide⟩,
   ⟨head (fun h => { h with state := .inService, scanning := true, scanReq := true, scanDot := none, baseline := 5 })
    fitted, 0, by decide, by decide, by decide⟩,
   ⟨head (fun h => { h with state := .powering, scanning := true, scanReq := true, scanDot := none, baseline := 5 })
    fitted, 0, by decide, by decide, by decide, by decide⟩,
   ⟨fitted, 0, 63, by decide⟩⟩

/-- The supply of head 0 has read badly once, and reads badly. -/
def weak (s : State) : State := head (fun h => { h with badSupply := 1 }) (par 0x100A 0xFFFF0001 s)

theorem witness_ScansAndLines_LinesAreBurnt :
    (∃ (s : State) (h : Fin 4) (r : Run), s.paper.run[h] = some r ∧ s.mayPrint h r = true ∧ r.held = false ∧ ∃ (o :
      Int), r.paused = false ∧ r.origin = some o ∧ s.linePos h o r.line ≤ s.paper.axis[s.paperAxis h].pos.toInt
      ∧ s.linesNeeded h r ≤ r.fetched.length ∧ r.line + 1 < (s.job r.job).lines ∧ ¬(s.vEff h < 1000 ∨ s.tooHot h
      (s.planLine h r) (s.dotPower h) (s.baseTime h) = true) ∧ ∃ (b : Bool) (v : BitVec 12), (b && s.badSupplyMv
      h (s.supplyMv h v.toNat)) = false ∧ (b = true ∨ s.paper.head[h].badSupply < 2))
    ∧ (∃ (s : State) (h : Fin 4) (r : Run), s.paper.run[h] = some r ∧ s.mayPrint h r = true ∧ r.held = false ∧ ∃ (o :
      Int), r.paused = false ∧ r.origin = some o ∧ s.linePos h o r.line ≤ s.paper.axis[s.paperAxis h].pos.toInt
      ∧ s.linesNeeded h r ≤ r.fetched.length ∧ ¬(s.vEff h < 1000 ∨ s.tooHot h (s.planLine h r) (s.dotPower h)
      (s.baseTime h) = true) ∧ ∃ (b : Bool) (v : BitVec 12), (b && s.badSupplyMv h (s.supplyMv h v.toNat)) =
      true ∧ 1 ≤ s.paper.head[h].badSupply)
    ∧ (∃ (s : State) (h : Fin 4) (r : Run), s.paper.run[h] = some r ∧ s.mayPrint h r = true ∧ r.held = false ∧ ∃ (o :
      Int), r.paused = false ∧ r.origin = some o ∧ s.linePos h o r.line ≤ s.paper.axis[s.paperAxis h].pos.toInt
      ∧ s.linesNeeded h r ≤ r.fetched.length ∧ (s.vEff h < 1000 ∨ s.tooHot h (s.planLine h r) (s.dotPower h)
      (s.baseTime h) = true))
    ∧ (∃ (s : State) (h : Fin 4) (r : Run), s.paper.run[h] = some r ∧ s.mayPrint h r = true ∧ r.held = false ∧ ∃ (o :
      Int), r.paused = false ∧ r.origin = some o ∧ s.linePos h o r.line ≤ s.paper.axis[s.paperAxis h].pos.toInt
      ∧ r.fetched.length < s.linesNeeded h r ∧ r.late = none)
    ∧ (∃ (s : State) (h : Fin 4) (r : Run), s.paper.run[h] = some r ∧ s.mayPrint h r = true ∧ r.held = false ∧
      r.paused = true ∧ r.line + 1 < (s.job r.job).lines ∧ ¬(s.vEff h < 1000 ∨ s.tooHot h (s.planLine h r)
      (s.dotPower h) (s.baseTime h) = true) ∧ ∃ (b : Bool) (v : BitVec 12), (b && s.badSupplyMv h (s.supplyMv h
      v.toNat)) = false ∧ (b = true ∨ s.paper.head[h].badSupply < 2))
    ∧ (∃ (s : State) (h : Fin 4) (r : Run), s.paper.run[h] = some r ∧ s.mayPrint h r = true ∧ r.held = false ∧
      r.paused = true ∧ ¬(s.vEff h < 1000 ∨ s.tooHot h (s.planLine h r) (s.dotPower h) (s.baseTime h) = true) ∧
      ∃ (b : Bool) (v : BitVec 12), (b && s.badSupplyMv h (s.supplyMv h v.toNat)) = true ∧ 1 ≤
      s.paper.head[h].badSupply)
    ∧ (∃ (s : State) (h : Fin 4) (r : Run), s.paper.run[h] = some r ∧ s.mayPrint h r = true ∧ r.held = false ∧
      r.paused = true ∧ (s.vEff h < 1000 ∨ s.tooHot h (s.planLine h r) (s.dotPower h) (s.baseTime h) = true))
    ∧ (∃ (s : State) (h : Fin 4) (r : Run), s.paper.run[h] = some r ∧ s.mayPrint h r = true ∧ r.held = false ∧
      s.fetching r = true ∧ r.fetchNext < (s.job r.job).lines ∧ r.fetchNext ≤ r.line + 1 + s.ahead h ∧
      s.lineReady h r r.fetchNext = true ∧ s.arbServes (fetcherOf h) = true ∧ r.late = none)
    ∧ (∃ (s : State) (h : Fin 4) (r : Run), s.paper.run[h] = some r ∧ s.mayPrint h r = true ∧ r.held = false ∧
      s.fetching r = true ∧ r.fetchNext < (s.job r.job).lines ∧ r.fetchNext ≤ r.line + 1 + s.ahead h ∧
      s.lineReady h r r.fetchNext = true ∧ s.arbServes (fetcherOf h) = true ∧ ∃ n : Nat, r.late = some n ∧
      s.linesNeeded h r ≤ (r.fetched ++ [s.rasterLine h r r.fetchNext]).length)
    ∧ (∃ (s : State) (h : Fin 4) (r : Run), s.paper.run[h] = some r ∧ s.mayPrint h r = true ∧ r.held = false ∧
      s.arbServes (fetcherOf h) = false) :=
  ⟨⟨printing, 0, _, rfl, by decide, by decide, _, by decide, rfl, by decide +kernel, by decide, by decide,
    by decide +kernel, false, 0, by decide, by decide⟩,
   ⟨weak printing, 0, _, rfl, by decide, by decide, _, by decide, rfl, by decide +kernel, by decide,
    by decide +kernel, true, 0, by decide +kernel, by decide⟩,
   ⟨head (fun h => { h with vMeas := 0 }) printing, 0, _, rfl, by decide, by decide, _, by decide, rfl,
    by decide +kernel, by decide, by decide +kernel⟩,
   ⟨run (some { theRun with fetched := [] }) printing, 0, _, rfl, by decide, by decide, _, by decide, rfl,
    by decide +kernel, by decide, by decide⟩,
   ⟨run (some { theRun with paused := true }) printing, 0, _, rfl, by decide, by decide, by decide, by decide,
    by decide +kernel, false, 0, by decide, by decide⟩,
   ⟨run (some { theRun with paused := true }) (weak printing), 0, _, rfl, by decide, by decide, by decide,
    by decide +kernel, true, 0, by decide +kernel, by decide⟩,
   ⟨run (some { theRun with paused := true }) (head (fun h => { h with vMeas := 0 }) printing), 0, _, rfl,
    by decide, by decide, by decide, by decide +kernel⟩,
   ⟨run (some { theRun with fetchNext := 2, fetched := [] }) printing, 0, _, rfl, by decide, by decide, by decide,
    by decide, by decide, by decide +kernel, by decide, by decide⟩,
   ⟨run (some { theRun with fetchNext := 2, fetched := [], late := some 7 }) printing, 0, _, rfl, by decide,
    by decide, by decide, by decide, by decide, by decide +kernel, by decide, _, rfl, by decide +kernel⟩,
   ⟨unserved printing, 0, _, rfl, by decide, by decide, by decide⟩⟩

theorem witness_EnergyModelSteps :
    ∃ (s : State) (h : Fin 4), s.fitted h = true ∧ s.pwr.islandsRun = true ∧ s.frozen h.val = false :=
  ⟨fitted, 0, by decide, by decide, by decide⟩

theorem witness_AxisControl :
    (∃ (s u : State) (w : Fin 11) (a : Fin 4) (v x : Par) (r : ParRow), (¬(a = 3 ∧ u.cutterMode = true)) ∧ (∀ h : Fin
      4, u.paper.run[h] = none) ∧ bits x 5 27 = 0 ∧ Takes s w (axisCtrlAt a) (withBit v 0) r u x ∧ bits x 0 5 = 1 ∧
      (u.paper.axis[a]).state = .off ∧ u.enableCheck a = none)
    ∧ (∃ (s u : State) (w : Fin 11) (a : Fin 4) (v x : Par) (r : ParRow), (¬(a = 3 ∧ u.cutterMode = true)) ∧ (∀ h :
      Fin 4, u.paper.run[h] = none) ∧ bits x 5 27 = 0 ∧ Takes s w (axisCtrlAt a) (withBit v 0) r u x ∧ bits x 0 5 = 1
      ∧ (u.paper.axis[a]).state = .off ∧ ∃ (c : BitVec 3), u.enableCheck a = some c)
    ∧ (∃ (s u : State) (w : Fin 11) (a : Fin 4) (v x : Par) (r : ParRow), (¬(a = 3 ∧ u.cutterMode = true)) ∧ (∀ h :
      Fin 4, u.paper.run[h] = none) ∧ bits x 5 27 = 0 ∧ Takes s w (axisCtrlAt a) (v &&& 0xFFFFFFFE) r u x ∧ bits x 0 5
      = 0 ∧ (u.paper.axis[a]).state = .idle)
    ∧ (∃ (s u : State) (w : Fin 11) (a : Fin 4) (v x : Par) (r : ParRow), (¬(a = 3 ∧ u.cutterMode = true)) ∧ (∀ h :
      Fin 4, u.paper.run[h] = none) ∧ bits x 5 27 = 0 ∧ Takes s w (axisCtrlAt a) (withBit v 1) r u x ∧ bits x 0 5 = 3
      ∧ (u.paper.axis[a]).state = .idle ∧ (u.paper.axis[a]).move = none)
    ∧ (∃ (s u : State) (w : Fin 11) (a : Fin 4) (v x : Par) (r : ParRow), (¬(a = 3 ∧ u.cutterMode = true)) ∧ (∀ h :
      Fin 4, u.paper.run[h] = none) ∧ bits x 5 27 = 0 ∧ Takes s w (axisCtrlAt a) (withBit v 2) r u x ∧ bits x 0 5 = 5
      ∧ (u.paper.axis[a]).state = .fault ∧ (u.paper.axis[a]).flt = false)
    ∧ (∃ (s u : State) (w : Fin 11) (a : Fin 4) (v x : Par) (r : ParRow), (¬(a = 3 ∧ u.cutterMode = true)) ∧ (∀ h : Fin
      4, u.paper.run[h] = none) ∧ bits x 5 27 = 0 ∧ Takes s w (axisCtrlAt a) (withBit v 2) r u x ∧ bits x 0 5 = 5
      ∧ (u.paper.axis[a]).state = .fault ∧ (u.paper.axis[a]).flt = true)
    ∧ (∃ (s u : State) (w : Fin 11) (a : Fin 4) (v x : Par) (r : ParRow), (¬(a = 3 ∧ u.cutterMode = true)) ∧ (∀ h :
      Fin 4, u.paper.run[h] = none) ∧ bits x 5 27 = 0 ∧ Takes s w (axisCtrlAt a) (withBit v 3) r u x ∧ bits x 0 5 = 9
      ∧ (u.paper.axis[a]).state ≠ .off)
    ∧ (∃ (s u : State) (w : Fin 11) (a : Fin 4) (v x : Par) (r : ParRow), (¬(a = 3 ∧ u.cutterMode = true)) ∧ (∀ h :
      Fin 4, u.paper.run[h] = none) ∧ bits x 5 27 = 0 ∧ Takes s w (axisCtrlAt a) (withBit v 4) r u x ∧ bits x 0 5 = 17
      ∧ (u.paper.axis[a]).state ≠ .off) :=
  ⟨⟨axis 0 (fun _ => {}) fitted, _, 0, 0, 0x00000000#32, 0x00000001#32, _, by decide, by decide, by decide,
    ⟨by decide, rfl, ⟨by decide, rfl, by decide, by decide, by decide⟩, by decide⟩, by decide, by decide, by decide⟩,
   ⟨axis 0 (fun a => { a with flt := true, state := .off }) fitted, _, 0, 0, 0x00000000#32, 0x00000001#32, _,
    by decide, by decide, by decide, ⟨by decide, rfl, ⟨by decide, rfl, by decide, by decide, by decide⟩, by decide⟩,
    by decide, by decide, _, rfl⟩,
   ⟨fitted, _, 0, 0, 0x00000000#32, 0x00000000#32, _, by decide, by decide, by decide, ⟨by decide, rfl, ⟨by decide,
    rfl, by decide, by decide, by decide⟩, by decide⟩, by decide, by decide⟩,
   ⟨fitted, _, 0, 0, 0x00000001#32, 0x00000003#32, _, by decide, by decide, by decide, ⟨by decide, rfl, ⟨by decide,
    rfl, by decide, by decide, by decide⟩, by decide⟩, by decide, by decide, by decide⟩,
   ⟨axis 0 (fun a => { a with state := .fault }) fitted, _, 0, 0, 0x00000001#32, 0x00000005#32, _, by decide,
    by decide, by decide, ⟨by decide, rfl, ⟨by decide, rfl, by decide, by decide, by decide⟩, by decide⟩, by decide,
    by decide, by decide⟩,
   ⟨axis 0 (fun a => { a with state := .fault, flt := true }) fitted, _, 0, 0, 0x00000001#32, 0x00000005#32, _,
    by decide, by decide, by decide, ⟨by decide, rfl, ⟨by decide, rfl, by decide, by decide, by decide⟩, by decide⟩,
    by decide, by decide, by decide⟩,
   ⟨fitted, _, 0, 0, 0x00000001#32, 0x00000009#32, _, by decide, by decide, by decide, ⟨by decide, rfl, ⟨by decide,
    rfl, by decide, by decide, by decide⟩, by decide⟩, by decide, by decide⟩,
   ⟨fitted, _, 0, 0, 0x00000001#32, 0x00000011#32, _, by decide, by decide, by decide, ⟨by decide, rfl, ⟨by decide,
    rfl, by decide, by decide, by decide⟩, by decide⟩, by decide, by decide⟩⟩

theorem witness_MovesStartAndStop_MovesStart :
    (∃ (s u : State) (w : Fin 11) (a : Fin 4) (v x : Par) (r : ParRow), Takes s w (0x2011 + 0x80 * a.val) v r u x ∧
      u.paper.axis[a].state = .idle ∧ u.paper.axis[a].queued = none ∧ u.paper.axis[a].move = none ∧ 0 ≤ x.toInt ∧
      u.blocked a false = none)
    ∧ (∃ (s u : State) (w : Fin 11) (a : Fin 4) (v x : Par) (r : ParRow), Takes s w (0x2011 + 0x80 * a.val) v r u x ∧
      u.paper.axis[a].state = .idle ∧ u.paper.axis[a].queued = none ∧ u.paper.axis[a].move = none ∧ x.toInt < 0 ∧
      u.reversible a = false)
    ∧ (∃ (s u : State) (w : Fin 11) (a : Fin 4) (v x : Par) (r : ParRow), Takes s w (0x2011 + 0x80 * a.val) v r u x ∧
      u.paper.axis[a].state = .idle ∧ u.paper.axis[a].queued = none ∧ u.paper.axis[a].move = none ∧ u.conv a x.toInt < 0
      ∧ u.reversible a = true ∧ u.blocked a true = none)
    ∧ (∃ (s : State) (a : Fin 4) (m : Move), s.paper.axis[a].queued = some m ∧ s.paper.axis[a].move = none ∧
      s.paper.axis[a].state = .idle ∧ m.dist = none ∧ s.paper.axis[a].pos.toInt < m.target ∧ s.blocked a false = none ∧
      ∀ h : Fin 4, m.owner ≠ .job h)
    ∧ (∃ (s : State) (a : Fin 4) (m : Move) (d : Int) (h : Fin 4) (r : Run), s.paper.axis[a].queued = some m ∧
      s.paper.axis[a].move = none ∧ s.paper.axis[a].state = .idle ∧ m.dist = some d ∧ s.paper.axis[a].pos.toInt <
      s.paper.axis[a].pos.toInt + d ∧ s.blocked a false = none ∧ m.owner = .job h ∧ s.paper.run[h] = some r) :=
  ⟨⟨mode .service fitted, _, 0, 0, 0x00000005#32, 0x00000005#32, _, ⟨by decide, rfl, ⟨by decide, rfl, by decide,
    by decide, by decide⟩, by decide⟩, by decide, by decide, by decide, by decide, by decide⟩,
   ⟨mode .service fitted, _, 0, 0, 0xffffffff#32, 0xffffffff#32, _, ⟨by decide, rfl, ⟨by decide, rfl, by decide,
    by decide, by decide⟩, by decide⟩, by decide, by decide, by decide, by decide, by decide⟩,
   ⟨mode .service (par 0x2000 8 fitted), _, 0, 0, 0xfffffff0#32, 0xfffffff0#32, _, ⟨by decide, rfl, ⟨by decide, rfl,
    by decide, by decide, by decide⟩, by decide⟩, by decide, by decide, by decide, by decide +kernel, by decide,
    by decide⟩,
   ⟨axis 0 (fun a => { a with queued := some (theMove .service) }) fitted, 0, _, rfl, by decide, by decide, by decide,
    by decide, by decide, by decide⟩,
   ⟨axis 0 (fun a => { a with queued := some { theMove (.job 0) with dist := some 9 } }) (run (some { theRun with
    phase := .motion }) ready), 0, _, 9, 0, _, rfl, by decide, by decide, rfl, by decide, by decide, rfl, rfl⟩⟩

/-- Both choppers of axis 0 are in this state. -/
def chopping (c : Chop) : State := axis 0 (fun a => { a with chopA := c, chopB := c }) fitted

theorem witness_AxesStep :
    (∃ (s : State) (a : Fin 4) (m : Move), s.mayStep a = true ∧ (s.paper.axis[a]).move = some m ∧ m.owner = .service ∧
      (s.paper.axis[a]).state = .moving)
    ∧ (∃ (s : State) (a : Fin 4) (m : Move), (s.paper.axis[a]).state = .moving ∧ (s.paper.axis[a]).move = some m ∧
      (s.paper.axis[a]).pos.toInt ≠ m.target ∧ (s.paper.axis[a]).standing = false ∧ (∀ k : Fin 4, k ≠ a →
      s.paper.axis[k].inMotion = false))
    ∧ (∃ (s : State) (a : Fin 4), (s.paper.axis[a]).state = .idle ∧ s.aPar a 8 / 65536 ≠ 0)
    ∧ (∀ ph : Bool, ∃ (s : State) (a : Fin 4), s.phaseLive a ph = true ∧ ∃ (neg turned : Bool) (since blank : Nat), (if
      ph then (s.paper.axis[a]).chopB else (s.paper.axis[a]).chopA) = .drive neg since blank turned)
    ∧ (∀ ph : Bool, ∃ (s : State) (a : Fin 4), (¬(a = 3 ∧ s.cutterMode = true)) ∧ s.phaseLive a ph = true ∧ ∃ (neg :
      Bool) (since : Nat) (chop : Par), (if ph then (s.paper.axis[a]).chopB else (s.paper.axis[a]).chopA) = .offTime neg
      since chop)
    ∧ (∀ ph : Bool, ∃ (s : State) (a : Fin 4), s.phaseLive a ph = true ∧ (if ph then (s.paper.axis[a]).chopB else
      (s.paper.axis[a]).chopA) = .slow)
    ∧ (∃ (s : State) (a : Fin 4), (¬(a = 3 ∧ s.cutterMode = true)) ∧ (s.paper.axis[a]).state = .off)
    ∧ (∀ ph : Bool, ∃ (s : State) (a : Fin 4), (¬(a = 3 ∧ s.cutterMode = true)) ∧ (s.paper.axis[a]).state ≠ .off ∧ ∃
      (neg : Bool) (since : Nat) (chop : Par), (if ph then (s.paper.axis[a]).chopB else (s.paper.axis[a]).chopA)
      = .offTime neg since chop)
    ∧ (∀ ph : Bool, ∃ (s : State) (a : Fin 4), (¬(a = 3 ∧ s.cutterMode = true)) ∧ (s.paper.axis[a]).state ≠ .off ∧ ∃
      (neg : Bool) (since blank : Nat), (if ph then (s.paper.axis[a]).chopB else (s.paper.axis[a]).chopA)
      = .drive neg since blank false) :=
  ⟨⟨moving, 0, _, by decide, rfl, by decide, by decide⟩,
   ⟨moving, 0, _, by decide, rfl, by decide, by decide, by decide⟩,
   ⟨fitted, 0, by decide, by decide⟩,
   fun ph => ⟨chopping (.drive true 3 5 false), 0, by cases ph <;> decide, true, false, 3, 5, by cases ph <;> rfl⟩,
   fun ph => ⟨chopping (.offTime true 3 5), 0, by decide, by cases ph <;> decide, true, 3, 5, by cases ph <;> rfl⟩,
   fun ph => ⟨chopping .slow, 0, by cases ph <;> decide, by cases ph <;> rfl⟩,
   ⟨live, 0, by decide, by decide⟩,
   fun ph => ⟨chopping (.offTime true 3 5), 0, by decide, by decide, true, 3, 5, by cases ph <;> rfl⟩,
   fun ph => ⟨chopping (.drive true 3 5 false), 0, by decide, by decide, true, 3, 5, by cases ph <;> rfl⟩⟩

theorem witness_MovesStartAndStop_AxesStop :
    (∃ (s : State) (a : Fin 4), (¬(a = 3 ∧ s.cutterMode = true)) ∧ (∀ h : Fin 4, s.paper.run[h] = none) ∧
      ((s.paper.axis[a]).state = .idle ∨ (s.paper.axis[a]).state = .moving) ∧ (∀ m : Move, (s.paper.axis[a]).move =
      some m → m.owner = .service))
    ∧ (∃ (s : State) (a : Fin 4), (¬(a = 3 ∧ s.cutterMode = true)) ∧ (∀ h : Fin 4, s.paper.run[h] = none))
    ∧ (∃ (s : State) (a : Fin 4), (¬(a = 3 ∧ s.cutterMode = true)) ∧ (∀ h : Fin 4, s.paper.run[h] = none) ∧
      (s.paper.axis[a]).inMotion = false)
    ∧ (∃ (s : State) (a : Fin 4), (¬(a = 3 ∧ s.cutterMode = true)) ∧ (∀ h : Fin 4, s.paper.run[h] = none) ∧ ∃ (m :
      Move), (s.paper.axis[a]).state = .moving ∧ (s.paper.axis[a]).move = some m ∧ m.owner = .service ∧
      (s.paper.axis[a]).neg = false ∧ s.aPar a 0xA / 256 % 4 ≠ 0 ∧ s.limitHard a 1 = true)
    ∧ (∃ (s : State) (a : Fin 4), (¬(a = 3 ∧ s.cutterMode = true)) ∧ (∀ h : Fin 4, s.paper.run[h] = none) ∧ ∃ (m :
      Move), (s.paper.axis[a]).state = .moving ∧ (s.paper.axis[a]).move = some m ∧ m.owner = .service ∧
      (s.paper.axis[a]).neg = false ∧ s.aPar a 0xA / 256 % 4 ≠ 0 ∧ s.limitHard a 1 = false ∧ (s.paper.axis[a]).atRest
      = false) :=
  ⟨⟨fitted, 0, by decide, by decide, by decide, (fun m h => nomatch h)⟩,
   ⟨fitted, 0, by decide, by decide⟩,
   ⟨fitted, 0, by decide, by decide, by decide⟩,
   ⟨par 0x200A 0x100 moving, 0, by decide, by decide, _, by decide, rfl, by decide, by decide, by decide, by decide⟩,
   ⟨par 0x200A 0x200 moving, 0, by decide, by decide, _, by decide, rfl, by decide, by decide, by decide, by decide,
    by decide⟩⟩

theorem witness_TheCutterCuts :
    (∃ (s : State), s.cutterMode = true ∧ ∃ (h : Fin 4), s.cutWanted h = true ∧ s.cutMay h = true ∧ s.paper.run[h] =
      none)
    ∧ (∃ (s : State), s.cutterMode = true ∧ ∃ (h : Fin 4) (r : Run), s.cutWanted h = true ∧ s.cutMay h = true ∧
      s.paper.run[h] = some r ∧ r.phase = .cut ∧ (s.job r.job).kind = 3)
    ∧ (∃ (s : State), s.cutterMode = true ∧ s.paper.cutter.state = .cutting)
    ∧ (∃ (s : State), s.cutterMode = true ∧ s.paper.cutter.state = .cutting ∧ s.paper.cutter.left = true ∧
      s.paper.cutter.isPartial = false)
    ∧ (∃ (s : State), s.cutterMode = true ∧ s.paper.cutter.state = .returning)
    ∧ (∃ (s : State), s.cutterMode = true ∧ s.paper.cutter.state = .cutting ∧ s.paper.cutter.isPartial = true ∧
      s.paper.cutter.left = true)
    ∧ (∃ (s : State), s.cutterMode = true ∧ s.paper.cutter.state = .cutting ∧ s.paper.cutter.home = false)
    ∧ (∃ (s : State), s.cutterMode = true ∧ s.paper.cutter.state = .returning ∧ s.paper.cutter.head = none)
    ∧ (∃ (s : State), s.cutterMode = true ∧ s.paper.cutter.state = .braking ∧ s.paper.cutter.head = none)
    ∧ (∃ (s : State), s.cutterMode = true ∧ ∃ (h : Fin 4), s.paper.cutter.state = .braking ∧ s.paper.cutter.head =
      some h ∧ s.paper.cutter.fault = false ∧ s.paper.cutter.waits = true ∧ s.paper.run[h] = none) :=
  ⟨⟨lh 0 (fun l => { l with purge := some { endAt := 5, length := 3, empty := true }, purging := true }) (cutting
    .home fitted), by decide, 0, by decide, by decide, by decide⟩,
   ⟨job 0 0 (fun j => { j with word := #v[3, 0, 0, 0, 0, 0, 0, 0] }) (run (some { theRun with phase := .cut })
    (cutting .home ready)), by decide, 0, _, by decide, by decide, rfl, by decide, by decide⟩,
   ⟨cutter (fun c => { c with left := true, home := false }) (cutting .cutting fitted), by decide, by decide⟩,
   ⟨cutter (fun c => { c with left := true, home := false }) (cutting .cutting fitted), by decide, by decide,
    by decide, by decide⟩,
   ⟨cutting .returning fitted, by decide, by decide⟩,
   ⟨cutter (fun c => { c with left := true, isPartial := true }) (cutting .cutting fitted), by decide, by decide,
    by decide, by decide⟩,
   ⟨cutter (fun c => { c with left := true, home := false }) (cutting .cutting fitted), by decide, by decide,
    by decide⟩,
   ⟨cutting .returning fitted, by decide, by decide, by decide⟩,
   ⟨cutting .braking fitted, by decide, by decide, by decide⟩,
   ⟨cutter (fun c => { c with head := some 0, waits := true }) (cutting .braking fitted), by decide, _, by decide,
    rfl, by decide, by decide, by decide⟩⟩

theorem witness_MediaPaperAndCover_MediaIsSensed :
    (∃ (s : State) (h : Fin 4), s.fitted h = false)
    ∧ (∃ (s : State) (h : Fin 4) (mark : Bool), s.pwr.islandsRun = true ∧ s.fitted h = true ∧ s.mediaType h = (if mark
      then 2 else 1))
    ∧ (∃ (s : State) (h : Fin 4), s.headPresent h = true ∧ s.mediaType h ≠ 0 ∧ s.pwr.islandsRun = true ∧
      s.paper.axis[(s.paperAxis h)].inMotion = false)
    ∧ (∃ (s : State) (h : Fin 4) (code : BitVec 12), s.headPresent h = true ∧ s.mediaType h ≠ 0 ∧ s.pwr.islandsRun =
      true ∧ s.paper.axis[(s.paperAxis h)].inMotion = true ∧ s.paper.axis[(s.paperAxis h)].atRest = false ∧
      s.paper.axis[(s.paperAxis h)].neg = false ∧ s.sampleSide h code.toNat = some true ∧ (s.paper.media[h]).side =
      some true)
    ∧ (∃ (s : State) (h : Fin 4) (code : BitVec 12), s.headPresent h = true ∧ s.mediaType h ≠ 0 ∧ s.pwr.islandsRun =
      true ∧ s.paper.axis[(s.paperAxis h)].inMotion = true ∧ s.paper.axis[(s.paperAxis h)].atRest = false ∧
      s.paper.axis[(s.paperAxis h)].neg = false ∧ s.sampleSide h code.toNat = some false ∧ (s.paper.media[h]).side =
      some false)
    ∧ (∃ (s : State) (h : Fin 4) (p : Int) (l : List Int), (s.paper.media[h]).learned = true ∧
      (s.paper.media[h]).starts = p :: l ∧ p + s.conv (s.paperAxis h) ((s.paper.media[h]).pitch + s.mPar h 9 : Nat) ≤
      s.paperPos h)
    ∧ (∃ (s : State) (h : Fin 4) (k : SeekKind) (p : Int), (s.paper.media[h]).seek = some (k, p) ∧ s.conv (s.paperAxis
      h) (s.mPar h 7 : Nat) ≤ s.paperPos h - p ∧ k = .tof ∧ s.paper.run[h] = none)
    ∧ (∃ (s : State) (h : Fin 4) (k : SeekKind) (p : Int), (s.paper.media[h]).seek = some (k, p) ∧ s.paperPos h - p <
      s.conv (s.paperAxis h) (s.mPar h 7 : Nat))
    ∧ (∃ (s : State) (h : Fin 4) (u : State) (w : Fin 11) (v x : Par) (r : ParRow), Takes s w (0x2817 + 0x40 * h.val)
      (withBit v 0) r u x ∧ bit x 0 = true ∧ bit x 1 = false ∧ u.paper.media[h].learned = false ∧
      u.paper.axis[u.paperAxis h].state = .idle ∧ u.paper.axis[u.paperAxis h].queued = none ∧ u.blocked (u.paperAxis
      h) false = none ∧ u.paper.axis[u.paperAxis h].pos.toInt < farTarget)
    ∧ (∃ (s : State) (h : Fin 4) (u : State) (w : Fin 11) (v x : Par) (r : ParRow), Takes s w (0x2817 + 0x40 * h.val)
      (withBit v 1) r u x ∧ bit x 0 = false ∧ bit x 1 = true) :=
  ⟨⟨live, 0, by decide⟩, ⟨sensing, 0, false, by decide, by decide, by decide⟩,
   ⟨sensing, 0, by decide, by decide, by decide, by decide⟩,
   ⟨media (fun m => { m with side := some true }) (par 0x2800 1 (par 0x2807 100 moving)), 0, 0x000#12, by decide,
    by decide, by decide, by decide, by decide, by decide, by decide, by decide⟩,
   ⟨media (fun m => { m with side := some false }) (par 0x2800 1 (par 0x2807 100 moving)), 0, 0xfff#12, by decide,
    by decide, by decide, by decide, by decide, by decide, by decide, by decide⟩,
   ⟨media (fun m => { m with learned := true, pitch := 5, starts := [-1000000000] }) sensing, 0, _, _, by decide, rfl,
    by decide +kernel⟩,
   ⟨media (fun m => { m with seek := some (.tof, -1000000000) }) sensing, 0, _, _, rfl, by decide +kernel, by decide,
    by decide⟩,
   ⟨media (fun m => { m with seek := some (.tof, 0) }) sensing, 0, _, _, rfl, by decide +kernel⟩,
   ⟨mode .service sensing, 0, _, 0, 0x00000001#32, 0x00000001#32, _, ⟨by decide, rfl, ⟨by decide, rfl, by decide,
    by decide, by decide⟩, by decide⟩, by decide, by decide, by decide, by decide, by decide, by decide, by decide⟩,
   ⟨sensing, 0, _, 0, 0x00000002#32, 0x00000002#32, _, ⟨by decide, rfl, ⟨by decide, rfl, by decide, by decide,
    by decide⟩, by decide⟩, by decide, by decide⟩⟩

theorem witness_MediaPaperAndCover_PaperAndCover :
    (∃ (s : State) (h : Fin 4), s.headPresent h = true ∧ s.paper.run[h] = none ∧ (s.paper.media[h]).paperLow = false ∧
      s.mPar h 8 ≠ 0)
    ∧ (∃ (s : State) (h : Fin 4), s.headPresent h = true ∧ s.paper.run[h] = none ∧ (s.paper.media[h]).paperLow = false
      ∧ s.mPar h 8 = 0)
    ∧ (∃ (s : State) (h : Fin 4), s.headPresent h = true ∧ s.paper.run[h] = none ∧ (s.paper.media[h]).paperLow = true
      ∧ (s.paper.media[h]).peLow = true ∧ (s.paper.media[h]).paperEnd = false ∧ s.conv (s.paperAxis h) (s.mPar h 8 :
      Nat) ≤ s.paperPos h - (s.paper.media[h]).lowPos)
    ∧ (∃ (s : State) (h : Fin 4), s.headPresent h = true ∧ s.paper.run[h] = none ∧ (s.paper.media[h]).paperLow = true)
    ∧ (∃ (s : State) (h : Fin 4), s.headPresent h = true ∧ s.paper.run[h] = none ∧ (s.paper.media[h]).coverOpen =
      false)
    ∧ (∃ (s : State) (h : Fin 4), s.headPresent h = true ∧ s.paper.run[h] = none ∧ (s.paper.media[h]).coverOpen =
      true) :=
  ⟨⟨par 0x2808 500 sensing, 0, by decide, by decide, by decide, by decide⟩,
   ⟨sensing, 0, by decide, by decide, by decide, by decide⟩,
   ⟨media (fun m => { m with paperLow := true, peLow := true, lowPos := -1000000000 }) sensing, 0, by decide,
    by decide, by decide, by decide, by decide, by decide +kernel⟩,
   ⟨media (fun m => { m with paperLow := true, peLow := true, lowPos := -1000000000 }) sensing, 0, by decide,
    by decide, by decide⟩,
   ⟨sensing, 0, by decide, by decide, by decide⟩,
   ⟨media (fun m => { m with coverOpen := true }) sensing, 0, by decide, by decide, by decide⟩⟩

theorem witness_LampChannels_LampCommands :
    (∃ (s u : State) (w : Fin 11) (v x : Par) (r : ParRow) (y : Fin 8), r.banked = true ∧ u.portVi w = some y ∧ Takes
      s w 0x29C0 (lampWord v 1) r u x ∧ bits x 8 2 = 1 ∧ (bits x 0 8 &&& bits (u.vi[y].contract[2]) 0 8 = bits x 0 8))
    ∧ (∃ (s u : State) (w : Fin 11) (v x : Par) (r : ParRow) (y : Fin 8), r.banked = true ∧ u.portVi w = some y ∧
      Takes s w 0x29C0 (lampWord v 0) r u x ∧ bits x 8 2 = 0 ∧ (bits x 0 8 &&& bits (u.vi[y].contract[2]) 0 8 = bits x
      0 8))
    ∧ (∃ (s u : State) (w : Fin 11) (v x : Par) (r : ParRow) (y : Fin 8), r.banked = true ∧ u.portVi w = some y ∧
      Takes s w 0x29C0 (lampWord v 2) r u x ∧ bits x 8 2 = 2 ∧ (bits x 0 8 &&& bits (u.vi[y].contract[2]) 0 8 = bits x
      0 8))
    ∧ (∃ (s u : State) (w : Fin 11) (v x : Par) (r : ParRow) (y : Fin 8), r.banked = true ∧ u.portVi w = some y ∧
      Takes s w 0x29C0 (lampWord v 3) r u x ∧ bits x 8 2 = 3 ∧ (bits x 0 8 &&& bits (u.vi[y].contract[2]) 0 8 = bits x
      0 8))
    ∧ (∃ (s u : State) (w : Fin 11) (v x : Par) (r : ParRow) (y : Fin 8), r.banked = true ∧ u.portVi w = some y ∧
      Takes s w 0x29C0 (lampWord v 1) r u x ∧ (¬(bits x 0 8 &&& bits (u.vi[y].contract[2]) 0 8 = bits x 0 8))) :=
  ⟨⟨lit, _, 1, 0x0000000f#32, 0x0000010f#32, _, _, by decide, rfl, ⟨by decide, rfl, ⟨by decide, rfl, by decide,
    by decide, by decide⟩, by decide⟩, by decide, by decide⟩,
   ⟨lit, _, 1, 0x0000000f#32, 0x0000000f#32, _, _, by decide, rfl, ⟨by decide, rfl, ⟨by decide, rfl, by decide,
    by decide, by decide⟩, by decide⟩, by decide, by decide⟩,
   ⟨lit, _, 1, 0x0000000f#32, 0x0000020f#32, _, _, by decide, rfl, ⟨by decide, rfl, ⟨by decide, rfl, by decide,
    by decide, by decide⟩, by decide⟩, by decide, by decide⟩,
   ⟨lit, _, 1, 0x0000000f#32, 0x0000030f#32, _, _, by decide, rfl, ⟨by decide, rfl, ⟨by decide, rfl, by decide,
    by decide, by decide⟩, by decide⟩, by decide, by decide⟩,
   ⟨vi 0 (fun v => { v with contract := v.contract.set 2 1 }) lit, _, 1, 0x0000000f#32, 0x0000010f#32, _, _,
    by decide, rfl, ⟨by decide, rfl, ⟨by decide, rfl, by decide, by decide, by decide⟩, by decide⟩, by decide⟩⟩

theorem witness_LampChannels_LampChannelsRun :
    (∃ (s : State) (c : Fin 8), s.oldestWaiting = some c ∧ (∀ d : Fin 8, s.paper.lamp[d].state ≠ .tripped) ∧
      s.budgetUsed + s.lPar c 2 ≤ s.parN 0x2980 ∧ s.parN 0x2980 ≠ 0)
    ∧ (∃ (s : State) (c : Fin 8), (s.paper.lamp[c]).state = .inrush ∧ s.inrushPeriods c ≤ (s.paper.lamp[c]).period)
    ∧ (∃ (s : State) (c : Fin 8), (s.paper.lamp[c]).driven = true)
    ∧ (∃ (s : State) (c : Fin 8), (s.paper.lamp[c]).state = .on)
    ∧ (∃ (s : State) (c : Fin 8), (s.paper.lamp[c]).state = .on ∧ (s.paper.lamp[c]).duty ≠ 0 ∧ (s.paper.lamp[c]).iMeas
      < s.lPar c 7 ∧ (s.paper.lamp[c]).isOpen = false) :=
  ⟨⟨lit, _, rfl, by decide, by decide, by decide⟩,
   ⟨lamp 1 (fun l => { l with period := 5000 }) lit, 1, by decide, by decide⟩,
   ⟨lit, 0, by decide⟩,
   ⟨lit, 0, by decide⟩,
   ⟨par 0x2907 50 lit, 0, by decide, by decide, by decide, by decide⟩⟩

theorem witness_ConvertersRunPasses :
    (∃ (s : State) (x : Fin 2) (d : Due), s.nextConversion x = some d)
    ∧ (∃ (s : State) (x : Fin 2), s.nextConversion x = none)
    ∧ (∃ (s : State) (x : Fin 2), s.pwr.islandsRun = true ∧ s.adcEn x = true ∧ s.adcSource x = true ∧
      (s.analog.conv[x]).running = false)
    ∧ (∃ (s : State) (x : Fin 2), s.pwr.islandsRun = true ∧ s.adcEn x = true ∧ s.adcSource x = true ∧
      (s.analog.conv[x]).running = true)
    ∧ (∃ (s : State) (x : Fin 2) (w : Fin 11) (v q : Par) (r : ParRow) (u : State), Takes s w (0x3003 + 0x80 * x.val)
      (withBit v 0) r u q ∧ bit q 0 = true ∧ bit q 1 = false ∧ u.adcEn x = true ∧ bits (u.adcPar x 0) 2 2 = 0 ∧
      (u.analog.conv[x]).running = false)
    ∧ (∃ (s : State) (x : Fin 2) (w : Fin 11) (v q : Par) (r : ParRow) (u : State), Takes s w (0x3003 + 0x80 * x.val)
      (withBit v 1) r u q ∧ bit q 0 = false ∧ bit q 1 = true ∧ (u.analog.conv[x]).running = true ∧
      (u.analog.conv[x]).delaying = true)
    ∧ (∃ (s : State) (x : Fin 2), (s.analog.conv[x]).running = true ∧ (s.analog.conv[x]).delaying = true)
    ∧ (∃ (s : State) (x : Fin 2), (s.analog.conv[x]).running = true ∧ (s.analog.conv[x]).delaying = false ∧
      (s.analog.conv[x]).aborting = false ∧ (s.analog.conv[x]).done + 1 < 2 ^ bits (s.adcPar x (0x10 +
      (s.analog.conv[x]).entry.val)) 20 4)
    ∧ (∃ (s : State) (x : Fin 2), (s.analog.conv[x]).running = true ∧ (s.analog.conv[x]).delaying = false ∧
      (s.analog.conv[x]).aborting = false ∧ 2 ^ bits (s.adcPar x (0x10 + (s.analog.conv[x]).entry.val)) 20 4 ≤
      (s.analog.conv[x]).done + 1 ∧ (s.analog.conv[x]).entry.val < bits (s.adcPar x 0) 12 4) :=
  ⟨⟨conv (fun k => { k with due := [⟨4, 9, 1⟩, ⟨3, 9, 2⟩, ⟨3, 8, 7⟩] }) live, 0, ⟨3, 8, 7⟩, by decide⟩,
   ⟨live, 0, by decide⟩,
   ⟨par 0x3000 5 live, 0, by decide, by decide, by decide, by decide⟩,
   ⟨conv (fun k => { k with running := true, delaying := true }) (par 0x3000 5 live), 0, by decide, by decide,
    by decide, by decide⟩,
   ⟨par 0x3000 1 live, 0, 0, 0x00000001#32, 0x00000001#32, _, _, ⟨by decide, rfl, ⟨by decide, rfl, by decide,
    by decide, by decide⟩, by decide⟩, by decide, by decide, by decide, by decide, by decide⟩,
   ⟨conv (fun k => { k with running := true, delaying := true }) (par 0x3000 5 live), 0, 0, 0x00000002#32,
    0x00000002#32, _, _, ⟨by decide, rfl, ⟨by decide, rfl, by decide, by decide, by decide⟩, by decide⟩, by decide,
    by decide, by decide, by decide⟩,
   ⟨conv (fun k => { k with running := true, delaying := true }) (par 0x3000 5 live), 0, by decide, by decide⟩,
   ⟨conv (fun k => { k with running := true }) (par 0x3010 0x02300005 (par 0x3000 5 live)), 0, by decide, by decide,
    by decide, by decide⟩,
   ⟨conv (fun k => { k with running := true }) (par 0x3000 0x1005 live), 0, by decide, by decide, by decide,
    by decide, by decide⟩⟩

theorem witness_MonitorsOfTheDie :
    (∃ (s : State) (p : Fin 4), s.pwr.islandsRun = true ∧ bit (s.parG (0x3140 + 4 * p.val)) 31 = true)
    ∧ (∃ (s : State) (code : BitVec 12), s.anRuns = true ∧ 82 < code.toNat ∧ code.toNat < 4013 ∧ s.analog.diodeFault =
      false)
    ∧ (∃ (s : State) (code : BitVec 12), s.anRuns = true ∧ code.toNat ≤ 82 ∧ s.analog.badRun = 2)
    ∧ (∃ (s : State), s.anRuns = true)
    ∧ (∃ (s : State), (s.pwr.mode = .run ∨ s.pwr.mode = .reduced) ∧ s.pwr.pd = none) :=
  ⟨⟨par 0x3140 0x80000105 live, 0, by decide, by decide⟩,
   ⟨live, 0x053#12, by decide, by decide, by decide, by decide⟩,
   ⟨an (fun a => { a with badRun := 2 }) live, 0x052#12, by decide, by decide, by decide⟩,
   ⟨live, by decide⟩,
   ⟨live, by decide, by decide⟩⟩

theorem witness_IslandStates :
    (∃ (s : State), s.islandPresent = true ∧ s.island.state = .inactive)
    ∧ (∃ (s : State), s.islandPresent = true ∧ ∃ (p : Vector Par 32), s.island.state = .selfTest ∧ s.island.nextImage
      = none ∧ s.island.running ≠ none ∧ s.island.params = some p ∧ s.island.key ≠ none)
    ∧ (∃ (s : State), s.islandPresent = true ∧ s.island.state = .selfTest ∧ s.island.nextImage = none)
    ∧ (∃ (s : State), s.islandPresent = true ∧ s.island.state ≠ .inactive)
    ∧ (∃ (s : State), s.islandPresent = true ∧ s.island.state = .operational)
    ∧ (∃ (s : State), s.islandPresent = true ∧ s.island.state = .operational ∧ s.island.sealOpen = false)
    ∧ (∃ (s : State), s.islandPresent = true ∧ s.island.state = .inactive ∧ s.island.sealOpen = false)
    ∧ (∃ (s : State), s.islandPresent = true ∧ s.island.state = .inhibited ∧ s.island.sealOpen = true ∧
      s.island.latched = 0 ∧ s.island.causes &&& 0x0900 = 0) :=
  ⟨⟨il (fun i => { i with state := .inactive, sealOpen := false }) weighs, by decide, by decide⟩,
   ⟨il (fun i => { i with state := .selfTest, sealOpen := false }) weighs, by decide, _, by decide, by decide,
    by decide, rfl, by decide⟩,
   ⟨il (fun i => { i with state := .selfTest, sealOpen := false }) weighs, by decide, by decide, by decide⟩,
   ⟨il (fun i => { i with state := .selfTest, sealOpen := false }) weighs, by decide, by decide⟩,
   ⟨il (fun i => { i with state := .operational, sealOpen := false }) weighs, by decide, by decide⟩,
   ⟨il (fun i => { i with state := .operational, sealOpen := false }) weighs, by decide, by decide, by decide⟩,
   ⟨il (fun i => { i with state := .inactive, sealOpen := false }) weighs, by decide, by decide, by decide⟩,
   ⟨il (fun i => { i with state := .inhibited, sealOpen := true }) weighs, by decide, by decide, by decide, by decide,
    by decide⟩⟩

theorem witness_LegalCommandsAreAnswered_LegalCommandsAreTaken :
    (∃ (s : State) (c : LegCommand) (m : List LegCommand), s.island.mailbox = c :: m ∧ (s.island.state = .operational
      ∨ s.island.state = .inhibited) ∧ s.island.deciding = none ∧ s.island.issuing = none ∧ s.island.printing = none ∧
      c.code = 1)
    ∧ (∃ (s : State) (c : LegCommand) (m : List LegCommand), s.island.mailbox = c :: m ∧ (s.island.state =
      .operational ∨ s.island.state = .inhibited) ∧ s.island.deciding = none ∧ s.island.issuing = none ∧
      s.island.printing = none ∧ c.code = 2)
    ∧ (∃ (s : State) (c : LegCommand) (m : List LegCommand), s.island.mailbox = c :: m ∧ (s.island.state =
      .operational ∨ s.island.state = .inhibited) ∧ s.island.deciding = none ∧ s.island.issuing = none ∧
      s.island.printing = none ∧ c.code = 3)
    ∧ (∃ (s : State) (c : LegCommand) (m : List LegCommand), s.island.mailbox = c :: m ∧ (s.island.state =
      .operational ∨ s.island.state = .inhibited) ∧ s.island.deciding = none ∧ s.island.issuing = none ∧
      s.island.printing = none ∧ c.code = 4 ∧ bit c.arg 0 = false ∧ bit c.arg 1 = false)
    ∧ (∃ (s : State) (c : LegCommand) (m : List LegCommand), s.island.mailbox = c :: m ∧ (s.island.state =
      .operational ∨ s.island.state = .inhibited) ∧ s.island.deciding = none ∧ s.island.issuing = none ∧
      s.island.printing = none ∧ c.code = 4 ∧ bit c.arg 0 = true ∧ bit c.arg 1 = false ∧ c.source.device = true)
    ∧ (∃ (s : State) (c : LegCommand) (m : List LegCommand), s.island.mailbox = c :: m ∧ (s.island.state =
      .operational ∨ s.island.state = .inhibited) ∧ s.island.deciding = none ∧ s.island.issuing = none ∧
      s.island.printing = none ∧ ∃ (v : Fin 8), c.code = 6 ∧ c.source = .tenant v ∧ c.orphan = false) :=
  ⟨⟨leg [request (.tenant 0) 1 0] weighs, _, _, rfl, by decide, by decide, by decide, by decide, by decide⟩,
   ⟨leg [request (.tenant 0) 2 0] weighs, _, _, rfl, by decide, by decide, by decide, by decide, by decide⟩,
   ⟨leg [request (.tenant 0) 3 0] weighs, _, _, rfl, by decide, by decide, by decide, by decide, by decide⟩,
   ⟨leg [request (.tenant 0) 4 0] weighs, _, _, rfl, by decide, by decide, by decide, by decide, by decide, by decide,
    by decide⟩,
   ⟨leg [request (.loam 0) 4 1] weighs, _, _, rfl, by decide, by decide, by decide, by decide, by decide, by decide,
    by decide, by decide⟩,
   ⟨leg [request (.tenant 0) 6 0] weighs, _, _, rfl, by decide, by decide, by decide, by decide, 0, by decide,
    by decide, by decide⟩⟩

theorem witness_LegalCommandsAreAnswered_LegalCommandsAreRefused :
    (∃ (s : State) (c : LegCommand) (m : List LegCommand) (v : Fin 8), s.island.mailbox = c :: m ∧ (s.island.state =
      .operational ∨ s.island.state = .inhibited) ∧ s.island.deciding = none ∧ s.island.issuing = none ∧
      s.island.printing = none ∧ c.source = .tenant v ∧ c.orphan = false ∧ (c.code = 0 ∨ 6 < c.code.toNat))
    ∧ (∃ (s : State) (c : LegCommand) (m : List LegCommand) (v : Fin 8), s.island.mailbox = c :: m ∧ (s.island.state =
      .operational ∨ s.island.state = .inhibited) ∧ s.island.deciding = none ∧ s.island.issuing = none ∧
      s.island.printing = none ∧ c.source = .tenant v ∧ c.orphan = false ∧ c.code = 4 ∧ bit c.arg 0 = true ∧ bit c.arg
      1 = false)
    ∧ (∃ (s : State) (c : LegCommand) (m : List LegCommand) (v : Fin 8), s.island.mailbox = c :: m ∧ (s.island.state =
      .operational ∨ s.island.state = .inhibited) ∧ s.island.deciding = none ∧ s.island.issuing = none ∧
      s.island.printing = none ∧ c.source = .tenant v ∧ c.orphan = false ∧ c.code = 4 ∧ bit c.arg 1 = true)
    ∧ (∃ (s : State) (c : LegCommand) (m : List LegCommand) (v : Fin 8), s.island.mailbox = c :: m ∧ (s.island.state =
      .operational ∨ s.island.state = .inhibited) ∧ s.island.deciding = none ∧ s.island.issuing = none ∧
      s.island.printing = none ∧ c.source = .tenant v ∧ c.orphan = false ∧ c.code = 5) :=
  ⟨⟨leg [request (.tenant 0) 0 0] weighs, _, _, 0, rfl, by decide, by decide, by decide, by decide, by decide,
    by decide, by decide⟩,
   ⟨leg [request (.tenant 0) 4 1] weighs, _, _, 0, rfl, by decide, by decide, by decide, by decide, by decide,
    by decide, by decide, by decide, by decide⟩,
   ⟨leg [request (.tenant 0) 4 2] weighs, _, _, 0, rfl, by decide, by decide, by decide, by decide, by decide,
    by decide, by decide, by decide⟩,
   ⟨leg [request (.tenant 0) 5 5] weighs, _, _, 0, rfl, by decide, by decide, by decide, by decide, by decide,
    by decide, by decide⟩⟩

theorem witness_RecordsAreKept :
    (∃ (s : State) (c : LegCommand) (m : List LegCommand), s.island.mailbox = c :: m ∧ s.island.state = .operational ∧
      s.island.deciding = none ∧ s.island.issuing = none ∧ s.island.printing = none ∧ c.source.device = true ∧ ∃ (k :
      Nat) (r : Record), c.code = 4 ∧ bit c.arg 1 = true ∧ ((s.onIsland fun i => { i with mailbox := m }).issueGate =
      none) ∧ ((s.island.newestFirst.find? fun e => e.2.isOpen && e.2.seq.toNat % 2 ^ 24 = bits c.arg 8 24) = some (k,
      r)))
    ∧ (∃ (s : State) (c : LegCommand) (m : List LegCommand), s.island.mailbox = c :: m ∧ s.island.state = .operational
      ∧ s.island.deciding = none ∧ s.island.issuing = none ∧ s.island.printing = none ∧ c.source.device = true ∧ ∃ (k
      : Nat) (r : Record), c.code = 5 ∧ s.islandPowerFail = false ∧ ((s.island.newestFirst.find? fun e => e.2.seq =
      c.arg) = some (k, r)) ∧ r.printed = false ∧ s.islandFlashOk = true)
    ∧ (∃ (s : State) (c : LegCommand) (m : List LegCommand), s.island.mailbox = c :: m ∧ s.island.state = .operational
      ∧ s.island.deciding = none ∧ s.island.issuing = none ∧ s.island.printing = none ∧ c.source.device = true ∧ ∃ (k
      : Nat) (r : Record), c.code = 5 ∧ s.islandPowerFail = false ∧ ((s.island.newestFirst.find? fun e => e.2.seq =
      c.arg) = some (k, r)) ∧ r.printed = false ∧ s.islandFlashOk = false ∧ c.orphan = true ∧
      s.island.heldPrinted.contains c.arg = false)
    ∧ (∃ (s : State) (c : LegCommand) (r : Record), s.island.issuing = some (c, r))
    ∧ (∃ (s : State) (c : LegCommand) (q : BitVec 32), s.island.printing = some (c, q)) :=
  ⟨⟨leg [request (.loam 0) 4 0x502] weighs, _, _, rfl, by decide, by decide, by decide, by decide, by decide, 0,
    { seq := 0x00000005#32, net := 0x00000005#32, tare := 0x00000000#31, preset := false, word3 := 0x00000000#32, time := 0x000000000009#48, check := 0x0000000003#40, printed := false, dups := 0x2#4 },
    by decide, by decide, by decide, by decide⟩,
   ⟨leg [request (.cut 0) 5 5] weighs, _, _, rfl, by decide, by decide, by decide, by decide, by decide, 0,
    { seq := 0x00000005#32, net := 0x00000005#32, tare := 0x00000000#31, preset := false, word3 := 0x00000000#32, time := 0x000000000009#48, check := 0x0000000003#40, printed := false, dups := 0x2#4 },
    by decide, by decide, by decide, by decide, by decide⟩,
   ⟨an (fun a => { a with flashOk := false }) (leg [request (.cut 0) 5 5 true] weighs), _, _, rfl, by decide,
    by decide, by decide, by decide, by decide, 0,
    { seq := 0x00000005#32, net := 0x00000005#32, tare := 0x00000000#31, preset := false, word3 := 0x00000000#32, time := 0x000000000009#48, check := 0x0000000003#40, printed := false, dups := 0x2#4 },
    by decide, by decide, by decide, by decide, by decide, by decide, by decide⟩,
   ⟨il (fun i => { i with issuing := some (request (.loam 0) 4 1, { record with seq := 7 }) }) weighs, _, _, rfl⟩,
   ⟨il (fun i => { i with printing := some (request (.cut 0) 5 5, 5) }) weighs, _, _, rfl⟩⟩

theorem witness_ProtectiveInterface :
    (∃ (s : State) (r : LegResponse) (v : Fin 8), s.island.response = some r ∧ r.cmd.source = .tenant v ∧ r.cmd.orphan
      = false)
    ∧ (∃ (s : State) (v : Fin 8) (tag : BitVec 4), s.legalHolder = some v ∧ s.vi[v].legPending = some tag)
    ∧ (∃ (s : State) (src : Fin 9) (h : Fin 4) (j : JobRef), src.val = h.val + 1 ∧ s.loam.head[h].reserved = some j)
    ∧ (∃ (s : State) (src : Fin 9) (h : Fin 4) (r : Run), src.val = h.val + 5 ∧ s.paper.run[h] = some r ∧ r.phase =
      .printed ∧ r.resend = false)
    ∧ (∃ (s : State) (h : Fin 4) (r : Run), s.paper.run[h] = some r ∧ r.phase = .printed)
    ∧ (∃ (s : State) (v : Fin 8), s.winServes v = true ∧ s.legalHolder = some v) :=
  ⟨⟨il (fun i => { i with response := some ⟨request (.tenant 0) 6 0, 7, #v[1, 2, 3, 4]⟩ }) weighs, _, 0, rfl,
    by decide, by decide⟩,
   ⟨leg [request (.tenant 0) 6 0] (vi 0 (fun v => { v with legPending := some 3 }) weighs), _, _, rfl, rfl⟩,
   ⟨lh 0 (fun l => { l with reserved := some ⟨0, 1⟩ }) weighs, 1, 0, _, by decide, rfl⟩,
   ⟨leg [request (.cut 0) 5 5] (run (some { theRun with phase := .printed, record := some 5 }) weighs), 5, 0, _,
    by decide, rfl, by decide, by decide⟩,
   ⟨leg [request (.cut 0) 5 5] (run (some { theRun with phase := .printed, record := some 5 }) weighs), 0, _, rfl,
    by decide⟩,
   ⟨il (fun i => { i with response := some ⟨request (.tenant 0) 6 0, 7, #v[1, 2, 3, 4]⟩ }) weighs, _, by decide, rfl⟩⟩

theorem witness_IslandStates_EpochsAreChecked :
    ∃ (s : State) (m : MainImage) (l : LegalImage), s.mainImage = some m ∧ s.island.running = some l ∧ s.islandPresent
      = true ∧ s.pwr.pgK = true ∧ s.island.state = .operational ∧ s.pwr.islandsRun = true ∧ s.pwr.mode ≠ .wake :=
  ⟨weighs, _, _, rfl, rfl, by decide, by decide, by decide, by decide, by decide⟩

theorem witness_UkCommands :
    (∃ (s : State), s.ukServes = true)
    ∧ (∃ (s : State), s.ukServes = true ∧ ∃ (m : LegalImage), s.island.running = some m)
    ∧ (∃ (s : State), s.ukServes = true ∧ ∃ (n : Word) (x : Par), n.toNat < 0x5000 ∧ s.island.index false n.toNat =
      some x)
    ∧ (∃ (s : State), s.ukServes = true ∧ ∃ (n : Word), n.toNat < 0x5000 ∧ s.island.index false n.toNat = none)
    ∧ (∃ (s : State), s.ukServes = true ∧ s.island.sealOpen = false)
    ∧ (∃ (s : State), s.ukServes = true ∧ s.island.sealOpen = true ∧ s.islandFlashOk = true ∧ s.islandPowerFail = false
      ∧ ∃ (k : Fin 32) (v : Par) (p : Vector Par 32), k.val < 28 ∧ s.island.params = some p ∧ (legalParamOk (fun n => if h : n < 32 then p[n]
      else 0) k.val v = true) ∧ p[k] ≠ v ∧ s.island.audit ≠ BitVec.allOnes 32)
    ∧ (∃ (s : State), s.ukServes = true ∧ s.island.sealOpen = true ∧ s.islandFlashOk = true ∧ s.islandPowerFail = false
      ∧ s.island.audit ≠ BitVec.allOnes 32)
    ∧ (∃ (s : State), (s.island.state = .selfTest ∨ s.island.state = .inhibited)) :=
  ⟨⟨weighs, by decide⟩,
   ⟨weighs, by decide, _, rfl⟩,
   ⟨weighs, by decide, 0x4000#16, _, by decide, rfl⟩,
   ⟨weighs, by decide, 0x0000#16, by decide, by decide⟩,
   ⟨weighs, by decide, by decide⟩,
   ⟨il (fun i => { i with sealOpen := true }) weighs, by decide, by decide, by decide, by decide, 0, 0x00000064#32, _,
    by decide, rfl, by decide, by decide, by decide⟩,
   ⟨il (fun i => { i with sealOpen := true }) weighs, by decide, by decide, by decide, by decide, by decide⟩,
   ⟨il (fun i => { i with state := .inhibited }) weighs, by decide⟩⟩

theorem witness_WeighingResults :
    (∃ (s : State), (s.island.state = .operational ∨ s.island.state = .inhibited) ∧ s.island.deciding = none)
    ∧ (∃ (s : State), (s.island.state = .operational ∨ s.island.state = .inhibited)) :=
  ⟨⟨weighs, by decide, by decide⟩,
   ⟨weighs, by decide⟩⟩

theorem witness_GritSources :
    (∃ (s : State) (x : Fin 2), s.pwr.mgRunning = true ∧ ∃ (ra rb : Nat) (l : List Bool), ((fun (ra rb : Nat) (l :
      List Bool) => aliveFails ra (s.fuse.ring[if x = 0 then (0 : Fin 4) else 2]) || aliveFails rb (s.fuse.ring[if x =
      0 then (1 : Fin 4) else 3]) || (l.length = 1024 && lockFails l)) ra rb l = false) ∧ (s.grit.source[x]).role =
      .active)
    ∧ (∃ (s : State) (x : Fin 2), s.pwr.mgRunning = true ∧ ∃ (ra rb : Nat) (l : List Bool), ((fun (ra rb : Nat) (l :
      List Bool) => aliveFails ra (s.fuse.ring[if x = 0 then (0 : Fin 4) else 2]) || aliveFails rb (s.fuse.ring[if x =
      0 then (1 : Fin 4) else 3]) || (l.length = 1024 && lockFails l)) ra rb l = true) ∧ (s.grit.source[x]).role =
      .active ∧ (s.grit.source[otherSource x]).role = .standby)
    ∧ (∃ (s : State) (x : Fin 2), s.pwr.mgRunning = true ∧ ∃ (ra rb : Nat) (l : List Bool), ((fun (ra rb : Nat) (l :
      List Bool) => aliveFails ra (s.fuse.ring[if x = 0 then (0 : Fin 4) else 2]) || aliveFails rb (s.fuse.ring[if x =
      0 then (1 : Fin 4) else 3]) || (l.length = 1024 && lockFails l)) ra rb l = true) ∧ (s.grit.source[x]).role =
      .standby)
    ∧ (∃ (s : State) (x : Fin 2), s.pwr.mgRunning = true ∧ (s.grit.source[x]).role = .failed ∧
      (s.grit.source[otherSource x]).role ≠ .failed)
    ∧ (∃ (s : State) (x : Fin 2), s.pwr.mgRunning = true ∧ ∃ (b : Bool), ((s.grit.source[x]).repeatTest b).2 = false)
    ∧ (∃ (s : State) (x : Fin 2), s.pwr.mgRunning = true ∧ ∃ (b : Bool), ((s.grit.source[x]).repeatTest b).2 = true ∧
      (s.grit.source[x]).role = .standby ∧ s.grit.raw = false) :=
  ⟨⟨gr (fun g =>
    { g with source := #v[{ role := .active, run := 80, second := true }, { role := .standby, run := 80 }] }) live, 0,
    by decide, 1000, 1000, [], by decide, by decide⟩,
   ⟨gr (fun g =>
    { g with source := #v[{ role := .active, run := 80, second := true }, { role := .standby, run := 80 }] }) live, 0,
    by decide, 0, 1000, [], by decide, by decide, by decide⟩,
   ⟨gr (fun g =>
    { g with source := #v[{ role := .active, run := 80, second := true }, { role := .standby, run := 80 }] }) live, 1,
    by decide, 0, 1000, [], by decide, by decide⟩,
   ⟨gr (fun g =>
    { g with source := #v[{ role := .failed, run := 80, second := true }, { role := .active, run := 80 }] }) live, 0,
    by decide, by decide, by decide⟩,
   ⟨gr (fun g =>
    { g with source := #v[{ role := .active, run := 80, second := true }, { role := .standby, run := 80 }] }) live, 0,
    by decide, true, by decide⟩,
   ⟨gr (fun g =>
    { g with source := #v[{ role := .active, run := 80, second := true }, { role := .standby, run := 80 }] }) live, 1,
    by decide, false, by decide, by decide, by decide⟩⟩

theorem witness_GritGenerates :
    (∃ (s : State) (e : List Bool × Nat) (l : List (List Bool × Nat)), (s.grit.complete = e :: l) ∧ s.grit.released =
      none)
    ∧ (∃ (s : State) (l : List Bool) (n : Nat) (i : Fin 10), s.grit.released = some (l, n) ∧ i.val = n % 10 ∧
      (s.grit.inst[i]).ready = false ∧ s.instServed i = true)
    ∧ (∃ (s : State) (l : List Bool) (n : Nat) (i : Fin 10), s.grit.released = some (l, n) ∧ i.val = n % 10 ∧
      (s.grit.inst[i]).ready = true ∧ 1024 ≤ (s.grit.inst[i]).c)
    ∧ (∃ (s : State) (l : List Bool) (n : Nat) (i : Fin 10), s.grit.released = some (l, n) ∧ i.val = n % 10 ∧
      (s.grit.inst[i]).ready = true ∧ (s.grit.inst[i]).c < 1024)
    ∧ (∃ (s : State) (i : Fin 10), (s.grit.inst[i]).ready = true ∧ (s.grit.inst[i]).c < 65536 ∧ s.grit.blocked = false
      ∧ s.grit.waiting i ≤ 4)
    ∧ (∃ (s : State) (w : Fin 9) (x : Par) (l : List Par), s.randServes w = true ∧ w ≠ 0 ∧ (s.grit.rand[w]).words = x
      :: l)
    ∧ (∃ (s : State) (x : Par) (l : List Par), s.randServes 0 = true ∧ (s.grit.rand[(0 : Fin 9)]).words = x :: l)
    ∧ (∃ (s : State) (w : Fin 9), s.randServes w = true ∧ (s.grit.rand[w]).words = [])
    ∧ (∃ (s : State) (w : Fin 9), s.randServes w = true) :=
  ⟨⟨gr (fun g => { g with complete := [([true], 3)] }) served, _, _, rfl, by decide⟩,
   ⟨gr (fun g => { g with released := some ([true], 1), inst := Vector.replicate 10 { ready := false, c := 0 } })
    served, _, _, 1, rfl, by decide, by decide, by decide⟩,
   ⟨gr (fun g => { g with released := some ([true], 3), inst := Vector.replicate 10 { ready := true, c := 1024 } })
    served, _, _, 3, rfl, by decide, by decide, by decide⟩,
   ⟨gr (fun g => { g with released := some ([true], 3), inst := Vector.replicate 10 { ready := true, c := 1023 } })
    served, _, _, 3, rfl, by decide, by decide, by decide⟩,
   ⟨gr (fun g => { g with released := some ([true], 3), inst := Vector.replicate 10 { ready := true, c := 1024 } })
    served, 0, by decide, by decide, by decide, by decide⟩,
   ⟨gr (fun g => { g with rand := Vector.replicate 9 { words := [7], latch := 5 } }) served, 1, _, _, by decide,
    by decide, rfl⟩,
   ⟨gr (fun g => { g with rand := Vector.replicate 9 { words := [7], latch := 5 } }) served, _, _, by decide, rfl⟩,
   ⟨gr (fun g => { g with complete := [([true], 3)] }) served, 0, by decide, by decide⟩,
   ⟨gr (fun g => { g with complete := [([true], 3)] }) served, 0, by decide⟩⟩

theorem witness_GritSources_GritParameterWrites :
    (∃ (s u : State) (w : Fin 11) (v x : Par) (r : ParRow), Takes s w 0x3401 (withBit v 0) r u x ∧ bit x 0 = true ∧
      bit x 1 = false ∧ u.grit.blocked = false)
    ∧ (∃ (s u : State) (w : Fin 11) (v x : Par) (r : ParRow), Takes s w 0x3401 (withBit v 1) r u x ∧ bit x 0 = false ∧
      bit x 1 = true ∧ u.grit.raw = false ∧ (u.grit.source[(0 : Fin 2)]).role = .active)
    ∧ (∃ (s u : State) (w : Fin 11) (v x : Par) (r : ParRow), Takes s w 0x3402 v r u x) :=
  ⟨⟨mode .service served, _, 0, 0x00000000#32, 0x00000001#32, _, ⟨by decide, rfl, ⟨by decide, rfl, by decide,
    by decide, by decide⟩, by decide⟩, by decide, by decide, by decide⟩,
   ⟨mode .service served, _, 0, 0x00000000#32, 0x00000002#32, _, ⟨by decide, rfl, ⟨by decide, rfl, by decide,
    by decide, by decide⟩, by decide⟩, by decide, by decide, by decide, by decide⟩,
   ⟨mode .service served, _, 0, 0x00000000#32, 0x00000000#32, _, ⟨by decide, rfl, ⟨by decide, rfl, by decide,
    by decide, by decide⟩, by decide⟩⟩⟩

theorem witness_SerialRegisters :
    (∃ (s : State) (v : Fin 8) (p : Fin 3), s.pwr.mgRunning = true ∧ s.winServes v = false ∧ p ≠ 0)
    ∧ (∃ (s : State) (v : Fin 8) (p : Fin 3), s.serOwns v p = true ∧ p ≠ 0 ∧ (s.ser.port[p]).tx.length < 64 ∧
      (s.ser.port[p]).sending ≠ none)
    ∧ (∃ (s : State) (v : Fin 8) (p : Fin 3), s.serOwns v p = true ∧ p ≠ 0 ∧ (s.ser.port[p]).tx = [] ∧
      (s.ser.port[p]).sending = none ∧ (s.ser.port[p]).breakReq = none ∧ s.serRuns = true ∧ bit (s.serCfg p) 16 =
      true)
    ∧ (∃ (s : State) (v : Fin 8) (p : Fin 3), s.serOwns v p = true ∧ p ≠ 0 ∧ 64 ≤ (s.ser.port[p]).tx.length)
    ∧ (∃ (s : State) (v : Fin 8) (p : Fin 3), s.serOwns v p = true ∧ p ≠ 0 ∧ ∃ (e : Word) (l : List Word),
      (s.ser.port[p]).rx = e :: l)
    ∧ (∃ (s : State) (v : Fin 8) (p : Fin 3), s.serOwns v p = true ∧ p ≠ 0 ∧ (s.ser.port[p]).rx = [])
    ∧ (∃ (s : State) (v : Fin 8) (p : Fin 3), s.serOwns v p = true ∧ p ≠ 0 ∧ ∃ (x : Word), x.getLsbD 12 = decide (p =
      2) ∧ (s.ser.port[p]).sending ≠ none ∧ x.getLsbD 14 = false ∧ x.getLsbD 15 = false)
    ∧ (∃ (s : State) (v : Fin 8) (p : Fin 3), s.serOwns v p = true ∧ p ≠ 0 ∧ ∃ (x : Word), x.getLsbD 12 = decide (p =
      2) ∧ (s.ser.port[p]).sending ≠ none ∧ x.getLsbD 13 = false ∧ x.getLsbD 15 = false)
    ∧ (∃ (s : State) (v : Fin 8) (p : Fin 3), s.serOwns v p = true ∧ p ≠ 0 ∧ ∃ (x : Word), x.getLsbD 12 = decide (p =
      2) ∧ (s.ser.port[p]).sending ≠ none ∧ x.getLsbD 13 = false ∧ x.getLsbD 14 = false) :=
  ⟨⟨serial, 1, 1, by decide, by decide, by decide⟩,
   ⟨ser 1 (fun q => { q with sending := some (false, 3), rx := [5] }) serial, 0, 1, by decide, by decide, by decide,
    by decide⟩,
   ⟨serial, 0, 1, by decide, by decide, by decide, by decide, by decide, by decide, by decide⟩,
   ⟨ser 1 (fun q => { q with tx := List.replicate 64 3, sending := some (false, 3) }) serial, 0, 1, by decide,
    by decide, by decide⟩,
   ⟨ser 1 (fun q => { q with sending := some (false, 3), rx := [5] }) serial, 0, 1, by decide, by decide, _, _, rfl⟩,
   ⟨serial, 0, 1, by decide, by decide, by decide⟩,
   ⟨ser 1 (fun q => { q with sending := some (false, 3), rx := [5] }) serial, 0, 1, by decide, by decide, 0x0041#16,
    by decide, by decide, by decide, by decide⟩,
   ⟨ser 1 (fun q => { q with sending := some (false, 3), rx := [5] }) serial, 0, 1, by decide, by decide, 0x0041#16,
    by decide, by decide, by decide, by decide⟩,
   ⟨ser 1 (fun q => { q with sending := some (false, 3), rx := [5] }) serial, 0, 1, by decide, by decide, 0x0041#16,
    by decide, by decide, by decide, by decide⟩⟩

theorem witness_SerialPortsRun :
    (∃ (s : State) (p : Fin 3), s.serRuns = true ∧ p ≠ 0 ∧ bit (s.serCfg p) 16 = true ∧ bits (s.serCfg p) 18 2 = 0 ∧
      (s.ser.port[p]).rx.length < 63 ∧ bits (s.serCfg p) 24 7 = 0)
    ∧ (∃ (s : State) (p : Fin 3), s.serRuns = true ∧ p ≠ 0 ∧ ∃ (n : Nat), bit (s.serCfg p) 16 = true ∧ frameLength
      (s.serCfg p) + 1 ≤ n ∧ (s.ser.port[p]).rx.length < 63)
    ∧ (∃ (s : State) (p : Fin 3), s.serRuns = true ∧ p ≠ 0 ∧ (s.ser.port[p]).sending ≠ none ∧
      (s.ser.port[p]).nextOwner = none ∧ (s.ser.port[p]).breakReq = none ∧ (s.ser.port[p]).tx = [])
    ∧ (∃ (s : State) (p : Fin 3), s.serRuns = true ∧ p ≠ 0 ∧ ∃ (b : Byte) (l : List Byte), (s.ser.port[p]).sending ≠
      none ∧ (s.ser.port[p]).nextOwner = none ∧ (s.ser.port[p]).breakReq = none ∧ (s.ser.port[p]).tx = b :: l ∧ bit
      (s.serCfg p) 16 = true ∧ s.pwr.mode ≠ .hold)
    ∧ (∃ (s : State) (p : Fin 3), s.serRuns = true ∧ p ≠ 0 ∧ (s.ser.port[p]).rx ≠ [] ∧ (s.ser.port[p]).rxArmed = true
      ∧ bits (s.serCfg p) 24 7 ≠ 0)
    ∧ (∃ (s : State) (p : Fin 3), s.serRuns = true ∧ p ≠ 0 ∧ s.trims = true)
    ∧ (∃ (s : State) (p : Fin 3), s.serRuns = true ∧ p ≠ 0 ∧ ∃ (w : Fin 11) (v x : Par) (r : ParRow) (u : State),
      Takes s w 0x3500 v r u x ∧ (∀ k : Fin 3, (u.ser.port[k]).sending = none)) :=
  ⟨⟨serial, 1, by decide, by decide, by decide, by decide, by decide, by decide⟩,
   ⟨serial, 1, by decide, by decide, 70000, by decide, by decide, by decide⟩,
   ⟨ser 1 (fun q => { q with sending := some (false, 3) }) serial, 1, by decide, by decide, by decide, by decide,
    by decide, by decide⟩,
   ⟨ser 1 (fun q => { q with sending := some (false, 3), tx := [1] }) serial, 1, by decide, by decide, _, _,
    by decide, by decide, by decide, rfl, by decide, by decide⟩,
   ⟨ser 1 (fun q => { q with rx := [5] }) (par 0x13580 0x05010000 serial), 1, by decide, by decide, by decide,
    by decide, by decide⟩,
   ⟨par 0x3503 1 (pw (fun p => { p with clkFallback := true }) serial), 1, by decide, by decide, by decide⟩,
   ⟨serial, 1, by decide, by decide, 0, 0x00000021#32, 0x00000021#32, _, _, ⟨by decide, rfl, ⟨by decide, rfl,
    by decide, by decide, by decide⟩, by decide⟩, by decide⟩⟩

theorem witness_FramesAreTransmitted_FramesQueue :
    ∃ (s : State) (t : BitVec 4), s.link.room = true ∧ ryineSupersedes t = false :=
  ⟨live, 0x2#4, by decide, by decide⟩

theorem witness_FramesAreTransmitted :
    (∃ (s : State) (f : RyFrame) (l : List RyFrame), s.link.live = true ∧ s.link.sending = none ∧ s.pwr.stageBegun =
      false ∧ lowestType s.link.queue = some (f, l) ∧ f.type ≠ 0)
    ∧ (∃ (s : State) (f : RyFrame) (l : List RyFrame), s.link.live = true ∧ s.link.sending = none ∧ s.pwr.stageBegun =
      false ∧ lowestType s.link.queue = some (f, l) ∧ f.type = 0)
    ∧ (∃ (s : State) (f : RyFrame), s.link.sending = some f)
    ∧ (∃ (s : State) (f : RyFrame), s.link.sending = some f ∧ ryineSupersedes f.type = false)
    ∧ (∃ (s : State) (f : RyFrame), s.link.sending = some f ∧ ryineSupersedes f.type = true)
    ∧ (∃ (s : State) (f : RyFrame), s.link.sending = some f ∧ f.attempts + 1 < s.parN 0x360C)
    ∧ (∃ (s : State) (f : RyFrame), s.link.sending = some f ∧ s.parN 0x360C ≤ f.attempts + 1) :=
  ⟨⟨lk (fun l => { l with queue := [frame 2] }) live, _, _, by decide, by decide, by decide, rfl, by decide⟩,
   ⟨lk (fun l => { l with queue := [frame 0] }) live, _, _, by decide, by decide, by decide, rfl, by decide⟩,
   ⟨lk (fun l => { l with sending := some (frame 2) }) live, _, rfl⟩,
   ⟨lk (fun l => { l with sending := some (frame 2) }) live, _, rfl, by decide⟩,
   ⟨lk (fun l => { l with sending := some (frame 0) }) live, _, rfl, by decide⟩,
   ⟨lk (fun l => { l with sending := some (frame 2) }) live, _, rfl, by decide⟩,
   ⟨lk (fun l => { l with sending := some { frame 2 with attempts := 200 } }) live, _, rfl, by decide⟩⟩

theorem witness_LinkRuns :
    (∃ (s : State), s.link.live = true)
    ∧ (∃ (s : State), s.link.live = true ∧ s.timeRole = 1)
    ∧ (∃ (s : State), s.link.state = .busOff ∧ (s.autoRecover = true ∨ s.link.recovering = true))
    ∧ (∃ (s u : State) (w : Fin 11) (v x : Par) (r : ParRow), Takes s w 0x3613 (withBit v 0) r u x ∧ bit x 0 = true ∧
      u.link.state = .busOff)
    ∧ (∃ (s u : State) (w : Fin 11) (v x : Par) (r : ParRow), Takes s w 0x3612 v r u x)
    ∧ (∃ (s : State), 0 < s.ao.slewLeft)
    ∧ (∃ (s : State), s.ao.slewLeft < 0 ∧ s.ao.slewHold = false) :=
  ⟨⟨live, by decide⟩,
   ⟨par 0x3600 0x20 live, by decide, by decide⟩,
   ⟨par 0x3600 8 (lk (fun k => { k with state := .busOff }) live), by decide, by decide⟩,
   ⟨par 0x3600 8 (lk (fun k => { k with state := .busOff }) live), _, 0, 0x00000000#32, 0x00000001#32, _, ⟨by decide,
    rfl, ⟨by decide, rfl, by decide, by decide, by decide⟩, by decide⟩, by decide, by decide⟩,
   ⟨live, _, 0, 0x00000000#32, 0x00000000#32, _, ⟨by decide, rfl, ⟨by decide, rfl, by decide, by decide, by decide⟩,
    by decide⟩⟩,
   ⟨ao (fun a => { a with slewLeft := 5 }) live, by decide⟩,
   ⟨ao (fun a => { a with slewLeft := -5 }) live, by decide, by decide⟩⟩

theorem witness_FramesAreTaken :
    (∃ (s : State) (src : Fin 16) (dst : BitVec 5), s.link.live = true ∧ s.link.addressed dst = true ∧ src =
      s.link.nid)
    ∧ (∃ (s : State) (src : Fin 16) (seq : BitVec 4) (dst : BitVec 5), s.link.live = true ∧ s.link.addressed dst =
      true ∧ src ≠ s.link.nid ∧ (s.link.peer[src]).lastSeq = some seq)
    ∧ (∃ (s : State) (src : Fin 16) (seq : BitVec 4) (dst : BitVec 5), s.link.live = true ∧ s.link.addressed dst =
      true ∧ src ≠ s.link.nid ∧ (s.link.peer[src]).lastSeq ≠ some seq)
    ∧ (∃ (s : State) (src : Fin 16) (seq : BitVec 4) (dst : BitVec 5), s.link.live = true ∧ s.link.addressed dst =
      true ∧ src ≠ s.link.nid ∧ (s.link.peer[src]).lastSeq ≠ some seq ∧ ∃ (p : List Byte), p.length = 18)
    ∧ (∃ (s : State) (src : Fin 16) (seq : BitVec 4) (dst : BitVec 5), s.link.live = true ∧ s.link.addressed dst =
      true ∧ src ≠ s.link.nid ∧ (s.link.peer[src]).lastSeq ≠ some seq ∧ ∃ (p : List Byte), p.length = 3)
    ∧ (∃ (s : State) (src : Fin 16) (seq : BitVec 4) (dst : BitVec 5), s.link.live = true ∧ s.link.addressed dst =
      true ∧ src ≠ s.link.nid ∧ (s.link.peer[src]).lastSeq ≠ some seq ∧ ∃ (p : List Byte), p.length = 7 ∧ s.timeRole ≠
      2)
    ∧ (∃ (s : State) (src : Fin 16) (seq : BitVec 4) (dst : BitVec 5), s.link.live = true ∧ s.link.addressed dst =
      true ∧ src ≠ s.link.nid ∧ (s.link.peer[src]).lastSeq ≠ some seq ∧ ∃ (p : List Byte), p.length = 7 ∧ s.timeRole =
      2 ∧ (∀ n : Fin 16, n ≠ src → (s.link.peer[n]).syncAt = none))
    ∧ (∃ (s : State) (src : Fin 16) (dst : BitVec 5), s.link.live = true ∧ s.link.addressed dst = true ∧
      (s.link.peer[src]).present = true ∧ ((s.remoteJobs.all fun e => e.2.peer ≠ src) = true)) :=
  ⟨⟨peered, 3, 0x1f#5, by decide, by decide, by decide⟩,
   ⟨lk (fun l => { l with peer := vmod l.peer 5 fun p => { p with lastSeq := some 3 } }) peered, 5, _, 0x1f#5,
    by decide, by decide, by decide, rfl⟩,
   ⟨peered, 5, 0x0#4, 0x1f#5, by decide, by decide, by decide, by decide⟩,
   ⟨peered, 5, 0x0#4, 0x1f#5, by decide, by decide, by decide, by decide, [0x07#8, 0x07#8, 0x07#8, 0x07#8, 0x07#8,
    0x07#8, 0x07#8, 0x07#8, 0x07#8, 0x07#8, 0x07#8, 0x07#8, 0x07#8, 0x07#8, 0x07#8, 0x07#8, 0x07#8, 0x07#8],
    by decide⟩,
   ⟨peered, 5, 0x0#4, 0x1f#5, by decide, by decide, by decide, by decide, [0x01#8, 0x02#8, 0x03#8], by decide⟩,
   ⟨peered, 5, 0x0#4, 0x1f#5, by decide, by decide, by decide, by decide, [0x00#8, 0x00#8, 0x00#8, 0x00#8, 0x13#8,
    0x88#8, 0x00#8], by decide, by decide⟩,
   ⟨par 0x3600 0x40 live, 5, 0x0#4, 0x1f#5, by decide, by decide, by decide, by decide, [0x00#8, 0x00#8, 0x00#8,
    0x00#8, 0x13#8, 0x88#8, 0x00#8], by decide, by decide, by decide⟩,
   ⟨peered, 5, 0x1f#5, by decide, by decide, by decide, by decide⟩⟩

theorem witness_MigrationResults :
    (∃ (s u : State) (src : Fin 16) (seq : BitVec 4) (dst : BitVec 5) (id : Word) (j : JobRef) (m : Migration),
      s.takeRyine src seq dst = (true, u) ∧ u.migrated src id = some (j, m) ∧ m.accepted = false)
    ∧ (∃ (s u : State) (src : Fin 16) (seq : BitVec 4) (dst : BitVec 5) (id : Word) (j : JobRef) (m : Migration),
      s.takeRyine src seq dst = (true, u) ∧ u.migrated src id = some (j, m) ∧ m.revoking = false)
    ∧ (∃ (s u : State) (src : Fin 16) (seq : BitVec 4) (dst : BitVec 5) (id : Word) (j : JobRef) (m : Migration),
      s.takeRyine src seq dst = (true, u) ∧ u.migrated src id = some (j, m))
    ∧ (∃ (s u : State) (src : Fin 16) (seq : BitVec 4) (dst : BitVec 5) (id : Word) (j : JobRef) (m : Migration),
      s.takeRyine src seq dst = (true, u) ∧ u.migrated src id = some (j, m) ∧ m.revoking = true)
    ∧ (∃ (s : State) (j : JobRef) (m : Migration), ((s.remoteJobs.find? fun e => !e.2.accepted) = some (j, m)))
    ∧ (∃ (s : State) (id : Word) (j : JobRef) (m : Migration), ((s.remoteJobs.find? fun e => e.2.migId = id &&
      e.2.revoking) = some (j, m)) ∧ (s.job j).autofree = false) :=
  ⟨⟨offered fun m => m, _, 5, 0x0#4, 0x1f#5, 0x0000#16, _, _, rfl, rfl, by decide⟩,
   ⟨offered fun m => m, _, 5, 0x0#4, 0x1f#5, 0x0000#16, _, _, rfl, rfl, by decide⟩,
   ⟨offered fun m => m, _, 5, 0x0#4, 0x1f#5, 0x0000#16, _, _, rfl, rfl⟩,
   ⟨offered fun m => { m with revoking := true }, _, 5, 0x0#4, 0x1f#5, 0x0000#16, _, _, rfl, rfl, by decide⟩,
   ⟨offered fun m => m, _, _, rfl⟩,
   ⟨offered fun m => { m with revoking := true }, 0x0000#16, { vi := 0, handle := 0 },
    { migId := 0x0000#16, peer := 5, peerHead := 1, accepted := false, started := false, revoking := true, acceptOrder := 0, buf := [], nextBand := 0, endBand := 1, nextFrame := 0, sent := false },
    by decide, by decide⟩⟩

theorem witness_GuestsArrive :
    (∃ (s u : State) (src : Fin 16) (seq : BitVec 4) (dst : BitVec 5) (p : List Byte), s.takeRyine src seq dst =
      (true, u) ∧ ∃ (d : Nat), p.length = 25 ∧ ((u.judgeOffer ((p[2]?).getD 0).toNat #v[(fun (i : Nat) => BitVec.ofNat
      32 (natBE ((p.drop i).take 4))) 3, (fun (i : Nat) => BitVec.ofNat 32 (natBE ((p.drop i).take 4))) 7, (fun (i :
      Nat) => BitVec.ofNat 32 (natBE ((p.drop i).take 4))) 11, (fun (i : Nat) => BitVec.ofNat 32 (natBE ((p.drop
      i).take 4))) 15] ((fun (i : Nat) => BitVec.ofNat 32 (natBE ((p.drop i).take 4))) 19).toNat) = .inl d))
    ∧ (∃ (s u : State) (src : Fin 16) (seq : BitVec 4) (dst : BitVec 5) (p : List Byte), s.takeRyine src seq dst =
      (true, u) ∧ ∃ (v : Fin 8) (g : Fin 4) (l : List Nat) (q : State), p.length = 25 ∧ ((u.judgeOffer ((p[2]?).getD
      0).toNat #v[(fun (i : Nat) => BitVec.ofNat 32 (natBE ((p.drop i).take 4))) 3, (fun (i : Nat) => BitVec.ofNat 32
      (natBE ((p.drop i).take 4))) 7, (fun (i : Nat) => BitVec.ofNat 32 (natBE ((p.drop i).take 4))) 11, (fun (i :
      Nat) => BitVec.ofNat 32 (natBE ((p.drop i).take 4))) 15] ((fun (i : Nat) => BitVec.ofNat 32 (natBE ((p.drop
      i).take 4))) 19).toNat) = .inr (v, g, l, q)))
    ∧ (∃ (s u : State) (src : Fin 16) (seq : BitVec 4) (dst : BitVec 5) (p : List Byte), s.takeRyine src seq dst =
      (true, u) ∧ ∃ (g : Fin 4) (x : GuestSlot), 4 ≤ p.length ∧ u.guestOf src (BitVec.ofNat 16 (natBE (p.take 2))) =
      some (g, x) ∧ x.handle = none ∧ natBE ((p.drop 2).take 2) = x.nextFrame % 65536 ∧ (x.data ++ p.drop 4).length <
      x.size)
    ∧ (∃ (s u : State) (src : Fin 16) (seq : BitVec 4) (dst : BitVec 5) (p : List Byte), s.takeRyine src seq dst =
      (true, u) ∧ p.length = 2 ∧ u.guestOf src (BitVec.ofNat 16 (natBE p)) = none)
    ∧ (∃ (s u : State) (src : Fin 16) (seq : BitVec 4) (dst : BitVec 5) (p : List Byte), s.takeRyine src seq dst =
      (true, u) ∧ p.length = 2 ∧ ∃ (g : Fin 4) (x : GuestSlot), u.guestOf src (BitVec.ofNat 16 (natBE p)) = some (g,
      x) ∧ x.handle = none)
    ∧ (∃ (s u : State) (src : Fin 16) (seq : BitVec 4) (dst : BitVec 5) (p : List Byte), s.takeRyine src seq dst =
      (true, u) ∧ p.length = 2 ∧ ∃ (g : Fin 4) (x : GuestSlot) (i : Handle), u.guestOf src (BitVec.ofNat 16 (natBE p))
      = some (g, x) ∧ x.handle = some i ∧ (u.job ⟨x.vi, i⟩).state ≠ .ready)
    ∧ (∃ (s : State) (g : Fin 4) (x : GuestSlot), s.link.guest[g] = some x ∧ x.handle = none) :=
  ⟨⟨live, _, 5, 0x0#4, 0x1f#5, [0x00#8, 0x09#8, 0x00#8, 0x00#8, 0x00#8, 0x01#8, 0x01#8, 0x00#8, 0x00#8, 0x00#8,
    0x00#8, 0x00#8, 0x08#8, 0x00#8, 0x03#8, 0x00#8, 0x00#8, 0x03#8, 0x20#8, 0x00#8, 0x00#8, 0x00#8, 0x64#8, 0x00#8,
    0x00#8], rfl, 1, by decide, by decide⟩,
   ⟨peered, _, 5, 0x0#4, 0x1f#5, [0x00#8, 0x09#8, 0x00#8, 0x00#8, 0x00#8, 0x01#8, 0x01#8, 0x00#8, 0x00#8, 0x00#8,
    0x00#8, 0x00#8, 0x08#8, 0x00#8, 0x03#8, 0x00#8, 0x00#8, 0x03#8, 0x20#8, 0x00#8, 0x00#8, 0x00#8, 0x64#8, 0x00#8,
    0x00#8], rfl, 0, _, _, _, by decide, rfl⟩,
   ⟨guest guestSlot, _, 5, 0x0#4, 0x1f#5, [0x00#8, 0x09#8, 0x00#8, 0x01#8, 0x07#8], rfl, 1,
    { node := 5, migId := 0x0009#16, vi := 0, head := 0, word := #v[0x00000001#32, 0x00000000#32, 0x00000000#32, 0x00000000#32], size := 100, data := [0x01#8, 0x02#8, 0x03#8], nextFrame := 1, reserved := [5], external := false, handle := none },
    by decide, by decide, by decide, by decide, by decide⟩,
   ⟨live, _, 5, 0x0#4, 0x1f#5, [0x00#8, 0x09#8], rfl, by decide, by decide⟩,
   ⟨guest guestSlot, _, 5, 0x0#4, 0x1f#5, [0x00#8, 0x09#8], rfl, by decide, 1,
    { node := 5, migId := 0x0009#16, vi := 0, head := 0, word := #v[0x00000001#32, 0x00000000#32, 0x00000000#32, 0x00000000#32], size := 100, data := [0x01#8, 0x02#8, 0x03#8], nextFrame := 1, reserved := [5], external := false, handle := none },
    by decide, by decide⟩,
   ⟨guest { guestSlot with handle := some 3 }, _, 5, 0x0#4, 0x1f#5, [0x00#8, 0x09#8], rfl, by decide, 1,
    { node := 5, migId := 0x0009#16, vi := 0, head := 0, word := #v[0x00000001#32, 0x00000000#32, 0x00000000#32, 0x00000000#32], size := 100, data := [0x01#8, 0x02#8, 0x03#8], nextFrame := 1, reserved := [5], external := false, handle := some 3 },
    3, by decide, by decide, by decide⟩,
   ⟨guest guestSlot, 1,
    { node := 5, migId := 0x0009#16, vi := 0, head := 0, word := #v[0x00000001#32, 0x00000000#32, 0x00000000#32, 0x00000000#32], size := 100, data := [0x01#8, 0x02#8, 0x03#8], nextFrame := 1, reserved := [5], external := false, handle := none },
    by decide, by decide⟩⟩

theorem witness_MailboxTransfers :
    (∃ (s : State), s.pwr.mgRunning = true ∧ ∃ (a : MbAnswer), s.mgmt.answer = some a ∧ a.cmd.source = .window10)
    ∧ (∃ (s : State), s.pwr.mgRunning = true ∧ ∃ (a : MbAnswer), s.mgmt.answer = some a ∧ a.cmd.source = .u0)
    ∧ (∃ (s : State), s.pwr.mgRunning = true)
    ∧ (∃ (s : State), s.pwr.mgRunning = true ∧ s.mgmt.command.isSome = true)
    ∧ (∃ (s : State), s.pwr.mgRunning = true ∧ s.mgmt.command = none)
    ∧ (∃ (s : State), s.pwr.mgRunning = true ∧ ∃ (off : Nat) (data : List Byte), off + data.length ≤ 4096)
    ∧ (∃ (s : State), s.pwr.mgRunning = true ∧ ∃ (off : Nat) (data : List Byte), 4096 < off + data.length)
    ∧ (∃ (s : State), s.pwr.mgRunning = true ∧ ∃ (off len : Nat), off + len ≤ 4096)
    ∧ (∃ (s : State), s.pwr.mgRunning = true ∧ ∃ (off len : Nat), 4096 < off + len) :=
  ⟨⟨mg (fun m => { m with answer := some ⟨⟨.window10, 1, 7, #v[1, 2, 3, 4]⟩, 0, #v[5, 6, 7, 8]⟩ }) (cmd 1 0 0 0 0
    live), by decide, _, rfl, by decide⟩,
   ⟨mg (fun m => { m with answer := some ⟨⟨.u0, 1, 7, #v[1, 2, 3, 4]⟩, 0, #v[5, 6, 7, 8]⟩ }) live, by decide, _, rfl,
    by decide⟩,
   ⟨live, by decide⟩,
   ⟨mg (fun m => { m with answer := some ⟨⟨.window10, 1, 7, #v[1, 2, 3, 4]⟩, 0, #v[5, 6, 7, 8]⟩ }) (cmd 1 0 0 0 0
    live), by decide, by decide⟩,
   ⟨live, by decide, by decide⟩,
   ⟨live, by decide, 4095, [0x01#8], by decide⟩,
   ⟨live, by decide, 4095, [0x01#8, 0x02#8], by decide⟩,
   ⟨live, by decide, 4095, 1, by decide⟩,
   ⟨live, by decide, 4095, 2, by decide⟩⟩

theorem witness_EngineReturnsInformation :
    (∃ (s : State) (line : Option MLine) (q : MbCommand), EngineTakes s line q ∧ q.code = 1)
    ∧ (∃ (s : State) (line : Option MLine) (q : MbCommand), EngineTakes s line q ∧ s.pwr.stageBegun = true)
    ∧ (∃ (s : State) (line : Option MLine) (q : MbCommand), EngineTakes s line q ∧ s.pwr.stageBegun = false ∧ (q.code
      = 0 ∨ 8 < q.code.toNat))
    ∧ (∃ (s : State) (line : Option MLine) (q : MbCommand), EngineTakes s line q ∧ s.pwr.stageBegun = false ∧ q.code =
      2 ∧ s.pwr.mode.logRead = false)
    ∧ (∃ (s : State) (line : Option MLine) (q : MbCommand), EngineTakes s line q ∧ s.pwr.stageBegun = false ∧ q.code =
      2 ∧ s.pwr.mode.logRead = true ∧ ((q.arg[2].toNat) = 0 ∨ 128 < (q.arg[2].toNat)))
    ∧ (∃ (s : State) (line : Option MLine) (q : MbCommand), EngineTakes s line q ∧ s.pwr.stageBegun = false ∧ q.code =
      2 ∧ s.pwr.mode.logRead = true ∧ 1 ≤ (q.arg[2].toNat) ∧ (q.arg[2].toNat) ≤ 128)
    ∧ (∃ (s : State) (l : MLine), s.pwr.mgRunning = true ∧ s.mgmt.engaged = true ∧ l.code = 1) :=
  ⟨⟨cmd 1 0 0 0 0 live, none, _, ⟨by decide, by decide, fun _ => rfl, fun _ h => nomatch h⟩, by decide⟩,
   ⟨down .powerFail 1 (cmd 2 0 0 0 0 live), none, _, ⟨by decide, by decide, fun _ => rfl, fun _ h => nomatch h⟩,
    by decide⟩,
   ⟨cmd 9 0 0 0 0 live, none, _, ⟨by decide, by decide, fun _ => rfl, fun _ h => nomatch h⟩, by decide, by decide⟩,
   ⟨cmd 2 0 0 1 0 (mode .wake live), none, _, ⟨by decide, by decide, fun _ => rfl, fun _ h => nomatch h⟩, by decide,
    by decide, by decide⟩,
   ⟨cmd 2 0 0 0 0 live, none, _, ⟨by decide, by decide, fun _ => rfl, fun _ h => nomatch h⟩, by decide, by decide,
    by decide, by decide⟩,
   ⟨cmd 2 0 0 128 0 live, none, _, ⟨by decide, by decide, fun _ => rfl, fun _ h => nomatch h⟩, by decide, by decide,
    by decide, by decide, by decide⟩,
   ⟨cmd 1 0 0 0 0 live, { code := 0x01#8, tag := 0x05#8, arg := #v[0x0000#16, 0x0000#16, 0x0002#16, 0x0000#16] },
    by decide, by decide, by decide⟩⟩

theorem witness_BootRecordAndLogMoveOn :
    (∃ (s : State), s.pwr.mode.running = true ∧ s.runsTrial = true ∧ s.analog.flashOk = true)
    ∧ (∃ (s : State) (line : Option MLine) (q : MbCommand), EngineTakes s line q ∧ s.pwr.stageBegun = false ∧ q.code =
      8 ∧ (s.pwr.mode.running = true ∨ s.pwr.mode = .service) ∧ s.analog.flashOk = true ∧ s.runsTrial = true)
    ∧ (∃ (s : State) (line : Option MLine) (q : MbCommand), EngineTakes s line q ∧ s.pwr.stageBegun = false ∧ q.code =
      8 ∧ (s.pwr.mode.running = true ∨ s.pwr.mode = .service) ∧ s.analog.flashOk = true ∧ s.runsTrial = false)
    ∧ (∃ (s : State) (line : Option MLine) (q : MbCommand), EngineTakes s line q ∧ s.pwr.stageBegun = false ∧ q.code =
      7 ∧ ∃ (i : MainImage), s.mainImage = some i ∧ (s.runsTrial = true ∨ s.analog.flashOk = false))
    ∧ (∃ (s : State) (line : Option MLine) (q : MbCommand), EngineTakes s line q ∧ s.pwr.stageBegun = false ∧ q.code =
      7 ∧ ∃ (i : MainImage), s.mainImage = some i ∧ s.pwr.mode = .service ∧ s.runsTrial = false ∧ s.analog.flashOk =
      true ∧ i.sv ≤ s.mgmt.rollback)
    ∧ (∃ (s : State) (line : Option MLine) (q : MbCommand), EngineTakes s line q ∧ s.pwr.stageBegun = false ∧ q.code =
      7 ∧ ∃ (i : MainImage), s.mainImage = some i ∧ s.pwr.mode = .service ∧ s.runsTrial = false ∧ s.analog.flashOk =
      true ∧ s.mgmt.rollback < i.sv ∧ i.sv ≤ 64)
    ∧ (∃ (s : State) (r : LogRecord) (l : List LogRecord), s.pwr.mgRunning = true ∧ s.mgmt.running.isSome = true ∧
      s.analog.flashOk = true ∧ s.pwr.pd = none ∧ s.pwr.mode ≠ .hold ∧ s.ao.thermalRecord = none ∧ s.ao.ring = r :: l) :=
  ⟨⟨mg (fun m => { m with trial := true }) live, by decide, by decide, by decide⟩,
   ⟨mg (fun m => { m with trial := true }) (cmd 8 0 0 0 0 live), none, _, ⟨by decide, by decide, fun _ => rfl, fun _ h
    => nomatch h⟩, by decide, by decide, by decide, by decide, by decide⟩,
   ⟨cmd 8 0 0 0 0 live, none, _, ⟨by decide, by decide, fun _ => rfl, fun _ h => nomatch h⟩, by decide, by decide,
    by decide, by decide, by decide⟩,
   ⟨cmd 7 0 0 0 0 (mg (fun m => { m with trial := true }) live), none, _, ⟨by decide, by decide, fun _ => rfl, fun _ h
    => nomatch h⟩, by decide, by decide, _, rfl, by decide⟩,
   ⟨cmd 7 0 0 0 0 (mode .service live), none, _, ⟨by decide, by decide, fun _ => rfl, fun _ h => nomatch h⟩,
    by decide, by decide, _, rfl, by decide, by decide, by decide, by decide⟩,
   ⟨cmd 7 0 0 0 0 (mode .service (mg (fun m =>
    { m with image := vmod m.image 0 fun x => x.map fun i => { i with sv := 3 } }) live)), none, _, ⟨by decide,
    by decide, fun _ => rfl, fun _ h => nomatch h⟩, by decide, by decide, _, rfl, by decide, by decide, by decide,
    by decide, by decide⟩,
   ⟨ao (fun a => { a with ring := [live.newRecord 1 2 3 0 0] }) live, _, _, by decide, by decide, by decide,
    by decide, by decide, by decide, rfl⟩⟩

theorem witness_UpdateSessions :
    (∃ (s : State) (line : Option MLine) (q : MbCommand), EngineTakes s line q ∧ s.pwr.stageBegun = false ∧ q.code = 3
      ∧ s.mgmt.session = none ∧ s.pwr.mode = .service ∧ 257 ≤ q.arg32 0 ∧ q.arg32 0 ≤ 1048576 ∧ s.analog.flashOk =
      true)
    ∧ (∃ (s : State) (line : Option MLine) (q : MbCommand), EngineTakes s line q ∧ s.pwr.stageBegun = false ∧ ∃ (x :
      Session), s.mgmt.session = some x ∧ x.source = q.source ∧ q.code = 4 ∧ 1 ≤ (q.arg[0].toNat) ∧ (q.arg[0].toNat) ≤
      4096 ∧ q.arg32 1 ≠ x.received.length)
    ∧ (∃ (s : State) (line : Option MLine) (q : MbCommand), EngineTakes s line q ∧ s.pwr.stageBegun = false ∧ ∃ (x :
      Session), s.mgmt.session = some x ∧ x.source = q.source ∧ q.code = 4 ∧ 1 ≤ (q.arg[0].toNat) ∧ (q.arg[0].toNat) ≤
      4096 ∧ q.arg32 1 = x.received.length ∧ x.length < x.received.length + (q.arg[0].toNat))
    ∧ (∃ (s : State) (line : Option MLine) (q : MbCommand), EngineTakes s line q ∧ s.pwr.stageBegun = false ∧ ∃ (x :
      Session), s.mgmt.session = some x ∧ x.source = q.source ∧ q.code = 4 ∧ 1 ≤ (q.arg[0].toNat) ∧ (q.arg[0].toNat) ≤
      4096 ∧ q.arg32 1 = x.received.length ∧ x.received.length + (q.arg[0].toNat) ≤ x.length ∧ (x.received = [] →
      kuwellFormat (memReadN (s.mbBuffer q.source) 0 (q.arg[0].toNat)) = true ∧ kuwellLength (memReadN (s.mbBuffer
      q.source) 0 (q.arg[0].toNat)) = x.length ∧ kuwellKind (memReadN (s.mbBuffer q.source) 0 (q.arg[0].toNat)) = 1))
    ∧ (∃ (s : State) (line : Option MLine) (q : MbCommand), EngineTakes s line q ∧ s.pwr.stageBegun = false ∧ ∃ (x :
      Session), s.mgmt.session = some x ∧ x.source = q.source ∧ q.code = 5 ∧ x.received.length < x.length)
    ∧ (∃ (s : State) (line : Option MLine) (q : MbCommand), EngineTakes s line q ∧ s.pwr.stageBegun = false ∧ ∃ (x :
      Session), s.mgmt.session = some x ∧ x.source = q.source ∧ q.code = 5 ∧ x.length ≤ x.received.length ∧ s.pwr.mode
      ≠ .hold)
    ∧ (∃ (s : State) (line : Option MLine) (q : MbCommand), EngineTakes s line q ∧ s.pwr.stageBegun = false ∧ ∃ (x :
      Session), s.mgmt.session = some x ∧ x.source = q.source ∧ q.code = 6)
    ∧ (∃ (s : State), s.mgmt.session = none)
    ∧ (∃ (s : State), s.mgmt.session.isSome = true) :=
  ⟨⟨cmd 3 257 0 0 0 (mode .service live), none, _, ⟨by decide, by decide, fun _ => rfl, fun _ h => nomatch h⟩,
    by decide, by decide, by decide, by decide, by decide, by decide, by decide⟩,
   ⟨cmd 4 1 5 0 0 (session [1] live), none, _, ⟨by decide, by decide, fun _ => rfl, fun _ h => nomatch h⟩, by decide,
    _, rfl, by decide, by decide, by decide, by decide, by decide⟩,
   ⟨cmd 4 600 1 0 0 (session [1] live), none, _, ⟨by decide, by decide, fun _ => rfl, fun _ h => nomatch h⟩,
    by decide, _, rfl, by decide, by decide, by decide, by decide, by decide, by decide⟩,
   ⟨cmd 4 599 1 0 0 (session [1] live), none, _, ⟨by decide, by decide, fun _ => rfl, fun _ h => nomatch h⟩,
    by decide, _, rfl, by decide, by decide, by decide, by decide, by decide, by decide, by decide⟩,
   ⟨cmd 5 0 0 0 0 (session [1] live), none, _, ⟨by decide, by decide, fun _ => rfl, fun _ h => nomatch h⟩, by decide,
    _, rfl, by decide, by decide, by decide⟩,
   ⟨cmd 5 0 0 0 0 (session (List.replicate 600 0) live), none, _, ⟨by decide, by decide, fun _ => rfl, fun _ h =>
    nomatch h⟩, by decide, _, rfl, by decide, by decide, by decide, by decide⟩,
   ⟨cmd 6 0 0 0 0 (session [1] live), none, _, ⟨by decide, by decide, fun _ => rfl, fun _ h => nomatch h⟩, by decide,
    _, rfl, by decide, by decide⟩,
   ⟨cmd 3 257 0 0 0 (mode .service live), by decide⟩,
   ⟨cmd 4 1 5 0 0 (session [1] live), by decide⟩⟩

/-! ### What the invariants rest on -/

theorem witness_IdleTimePasses : live.pending = [] ∧ live.ao.powered = true ∧ live.ao.slewHold = false
    ∧ State.reset.pending = [] ∧ State.reset.pwr.islandsRun = false ∧ State.reset.anRuns = false := by decide

theorem witness_EveryCommandCompletes_CommandsLeaveTheQueue : ∃ t, exec .wakeNFall live = .next t := ⟨_, rfl⟩

theorem witness_FusesStayAndRollbackNeverFalls :
    FusedAs live.part live.fuse 0 live ∧ ∃ t, step { live with pending := [.updChunk none true] } = .next t :=
  ⟨by unfold FusedAs; decide, _, rfl⟩

theorem witness_AuditNeverDecreases : ∃ t, step { live with pending := [.ukR 5] } = .next t := ⟨_, rfl⟩

theorem witness_QueuesAndRingStayBounded :
    (QueuesBounded live ∧ ∃ t, step { live with pending := [.evqPop 3] } = .next t)
    ∧ (RingBounded live ∧ ∃ t, step { live with pending := [.logCommit] } = .next t) :=
  ⟨⟨by unfold QueuesBounded; decide, _, rfl⟩, by unfold RingBounded; decide, _, rfl⟩

theorem witness_MemoriesStayCanonical :
    MemoriesWf live ∧ ∃ t, step { live with pending := [.mwBufWrite 0x1234] } = .next t :=
  ⟨by unfold MemoriesWf; decide, _, rfl⟩

/-! ### WellFormed refuses -/

/-- A frame to node 17, which is a form error (17_ryine R919). -/
theorem smoke_dst : (Instr.reservedFrame 0 0 17).wellFormed = false := by decide
theorem smoke_dst_replies :
    [Instr.accept 0 0 20 0 0 0 0, .refuse 0 0 20 0 0 0 0, .abandoned 0 0 20 0 0 0 0, .started 0 0 20 0 0 0 0,
     .done 0 0 20 0 0 0 0, .failed 0 0 20 0 0 0 0, .revoked 0 0 20 0 0 0 0, .tooLate 0 0 20 0 0 0 0].all
      (fun i => !i.wellFormed) = true := by decide
theorem smoke_payloads :
    [Instr.sync 0 0 31 [0] 0, .cap 0 0 31 [0], .evt 0 0 31 [0], .migOffer 0 0 1 [0], .migData 0 0 1 [0, 0, 0],
     .revoke 0 0 1 [0]].all (fun i => !i.wellFormed) = true := by decide
theorem smoke_payload_dst :
    [Instr.sync 0 0 16 [0, 0, 0, 0, 0, 0, 0] 0, .evt 0 0 16 [0, 0, 0], .migData 0 0 16 [0, 0, 0, 0],
     .revoke 0 0 16 [0, 0]].all (fun i => !i.wellFormed) = true := by decide
theorem smoke_long_break : (Instr.breakRx 0 4096).wellFormed = false := by decide
theorem smoke_stage4 : (Instr.stage4 65).wellFormed = false := by decide
theorem smoke_hex4 : [Instr.u0B 65536 [], .u0G 0 65536].all (fun i => !i.wellFormed) = true := by decide
theorem smoke_admits :
    [Instr.evt 1 0 31 [0, 0, 0], .revoke 1 0 2 [0, 0], .breakRx 0 4095, .stage4 64, .u0G 65535 65535, .wakeNFall].all
      (fun i => i.wellFormed) = true := by decide

/-! ### Single steps -/

set_option Elab.async false

/-- The state after a command, read through one function of it. -/
def after {α : Type} (i : Instr) (s : State) (f : State → α) : Option α :=
  match step { s with pending := [i] } with
  | .next t => some (f t)
  | _ => none

/-- No word of the table spells a command. -/
theorem test_no_words : decodeTableWord 16 0 = none := rfl
/-- HV_MODE_STAT reads 0x0002 after device reset (02_power_clocks_modes). -/
theorem test_reset_mode_stat : State.reset.pwr.modeStat = 0x0002 := by decide
/-- R119: from WAIT_CORE, a rise of PG_CORE ends the wait. -/
theorem test_pg_core_rise : after .pgCoreRise (wake .waitCore State.reset) (fun t => t.pwr.pgCore) = some true := by
  decide
/-- R245: a report to a full queue sets the overflow and is discarded. -/
theorem test_full_queue : after (.jobAlloc 0) (evq 1 (fun p => { p with queue := List.replicate 64 ⟨1, 2, 3⟩ }) served)
    (fun t => (t.bus.evq[1]).queue.length) = some 64 := by decide

/-! The worked examples of the spec, one number each. -/

/-- A state whose parameters are those listed. -/
def pars (l : List (Nat × Par)) (s : State) : State := l.foldl (fun u e => par e.1 e.2 u) s

/-- 19_parameter_map, the driver: id.part is 0x2816_0038, and descriptor 6 covers heads 2 and 3, absent. -/
theorem test_map : ({ State.reset with part := .tl2816 }.mapWord 12, { State.reset with part := .tl2816 }.mapWord 13,
    Part.tl2816.id) = (0x1FFF1800, 0x0000807A, 0x28160038) := by decide
/-- 04_tenancy, the desk: q = max(1, floor(12 / 4)). -/
theorem test_scrub_share : (max 1 (12 / 4) : Nat) = 3 := by decide

/-- The tag head of 08_head_ports: 640 dots, 4 lanes, 4 groups. -/
def tagHead : State := pars [(0x1000, 0x02800121), (0x1001, 50), (0x1002, 0x0014140A), (0x1003, 100), (0x1004, 4800),
  (0x1101, 2560), (0x1102, 600), (0x1104, 200), (0x1105, 25), (0x1107, 160), (0x1108, 256)] live
/-- 08_head_ports: the rate allowed by the port is 6,188 lines/s, by the spread 4,800; with 1 lane 1,558. -/
theorem test_rate_lim : (tagHead.rateLim 0, (par 0x1004 9999 tagHead).rateLim 0,
    (pars [(0x1000, 0x02800101), (0x1004, 9999)] tagHead).rateLim 0) = (4800, 6188, 1558) := by decide +kernel
/-- 08_head_ports: head.dot_query reads 0x2CD9_00D4 for dot 212, OK at 11,481. -/
theorem test_dot_query : (head (fun h => { h with dotQuery := 212, lastScan := [(212, ⟨.ok, 0x2CD9⟩)], dots := [(212, ⟨.ok, 0x2CD9⟩)] }) tagHead).dotQuery 0 = 0x2CD900D4 := by decide +kernel
/-- 09_energy: t_base reads 13,465. -/
theorem test_t_base : (head (fun h => { h with vMeas := 24000, rAvg := 11520 }) tagHead).baseTime 0 = 13465 := by
  decide +kernel
/-- 09_energy: context 0b11010 of a dot set now and in line y - 1, its left neighbour set there. -/
theorem test_context : context [false, true] [true, true, false] [] 1 = 0b11010 := by decide
/-- 09_energy: word 3, nibble 2 of profile 0 gives 10; 10 x 217/256 x 255/256 gives 8 sub-pulses. -/
theorem test_profile : (State.reset.profileEntry 0 0 26, (10 * 217 * 255 + 32768) / 65536) = (10, 8) := by decide +kernel
/-- 09_energy: segment 6 at 52.0 degrees has D_raw = 217. -/
theorem test_d_raw : ({ tagHead with paper := { tagHead.paper with energy := vmod tagHead.paper.energy 0 fun e =>
    { e with node := e.node.set 6 (52 * 4096) } } } : State).dRaw 0 6 = 217 := by decide +kernel
/-- 10_motion: T(0) = 0, T(128) = 723, T(255) = 1,023. -/
theorem test_sine : (sineReset 0, sineReset 128, sineReset 255) = (0, 723, 1023) := by decide
/-- 10_motion: codes 409 and 289 at 800 mA of 2,000 mA, 153 at standstill. -/
theorem test_dac : let s := pars [(0x2006, 800), (0x2007, 2000), (0x2008, 96)] live
    (s.dacCode 0 1023, s.dacCode 0 723, (axis 0 (fun a => { a with reduced := true }) s).dacCode 0 1023)
      = (409, 289, 153) := by decide +kernel
/-- 07_marl: dots 128, 64 and 200 with the seed 0xACE1 give 0, 0 and 1, and the register becomes 0x5670. -/
theorem test_dither : let g : Ingest := { live.marl.ingest[0] with lfsr := 0xACE1, bpl := 1 }
    let a := ditherDot g 128; let b := ditherDot a.2 64; let d := ditherDot b.2 200
    (a.1, a.2.lfsr, a.2.errRight, b.1, b.2.errRight, d.1, d.2.errRight)
      = (false, 0x5670, 56, false, 52, true, -2) := by decide
/-- 07_marl: six bytes of white are the strings of runs 1, 2 and 3: codes 0, 0x101, 0x102 and END. -/
theorem test_codes : encodeCodes (List.replicate 6 0) = [0, 0x101, 0x102, 0x100] := by decide
/-- 11_media_outputs: at j = 800 of 4,000 the duty is 51/256. -/
theorem test_inrush : (lamp 2 (fun l => { l with command := some 256 }) (par 0x2924 200 live)).inrushDuty 2 800 = 51 := by
  decide
/-- 12_analog_thermal: 16 conversions of 2,250 with shift 2 in pass 31, late, read 0x01F2_2328. -/
theorem test_conversion : after (.conversionDone 0 2250 false)
    (conv (fun k => { k with running := true, sum := 15 * 2250, done := 15, late := true, passes := 31 })
      (pars [(0x3000, 0x2005), (0x3010, 0x0240A104)] live))
    (fun t => (t.analog.conv[0]).result[0]) = some 0x01F22328 := by decide
/-- Four cells whose R - Z is the 613,200 of 14_weighing (its cells add up to 773,200, its R is 763,200). -/
def bench : Island := { live.island with
  live := Vector.ofFn fun (k : Fin 32) =>
    if k = 4 then 0xF else if k = 9 then 160000 else if k = 10 then 64192 else if 5 ≤ k ∧ k ≤ 8 then 32768 else 0
  r := #v[210400, 188900, 176100, 197800] }
/-- 14_weighing: R - Z = 613,200 with S = 64,192 is 150,156, shown as 2,346 e. -/
theorem test_weight : (bench.rz, bench.gross, wholeE bench.gross) = (613200, 150156, 2346) := by decide +kernel
/-- 14_weighing: the field of the record. -/
theorem test_field : ({ seq := 48213, net := 2346, tare := 0, preset := false, word3 := 0x00010112, time := 0
                        check := 0x3A9C41E7B2, printed := false, dups := 0 } : Record).fieldText false
    = ["", "N " ++ "     23.46" ++ " kg ", "", "SEQ" ++ "        48213", "CHK 7AE4 3SXJ"] := by decide +kernel
/-- A window with two words drawn, its instance ready. -/
def drawn : State := gr (fun g => { g with
  source := #v[{ role := .active }, { role := .standby }], raw := false
  rand := vmod g.rand 2 fun r => { r with words := [0x4C1DA7F2, 5] }
  inst := vmod g.inst 2 fun d => { d with ready := true } })
  (vi 1 (fun v => { v with state := .enabled, enBit := true }) live)
/-- 15_grit: the word 0x4C1D_A7F2 leaves its high half latched, and VW_RAND_STAT reads 0x0013. -/
theorem test_rand : after (.randLoRead 2) drawn (fun t => ((t.grit.rand[2]).latch, t.randStat 2))
    = some (0x4C1D, 0x0013) := by decide
/-- 16_serial: div_t = 25 at 45,600 kHz, and ser.rate_err reads 14. -/
theorem test_trim : (trimDivider 26 45600, rateFigure true true 26 25 45600) = (25, 14) := by decide +kernel
/-- 18_management: area 0 running in trial, area 1 preferred and both valid read 0x0000_003C. -/
theorem test_slot_stat : (mg (fun m => { m with
    running := some 0, trial := true, preferred := 1, image := #v[m.image[0], m.image[0]] }) live).slotStat
    = 0x0000003C := by decide

end Sys2Proof.Tests
end

section
/-! SUPPORT. What no command changes: the part, its fuses and the queue of waiting commands. Stated here for every
operation that a parameter write can reach, from the accessors of the state up to the commit itself, in the order in
which the operations are built on one another: each proof splits along the operation's own branches, and the lemmas
before it close them. -/

namespace Sys2Proof.Machine

/-- The part, its fuses and the commands that wait (00_scope R1; 18_management R1032). -/
def State.fixed (s : State) : Part × Fuses × List Instr := (s.part, s.fuse, s.pending)

end Sys2Proof.Machine

namespace Sys2Proof

open Machine

theorem Reports.fixed {s t : State} (h : Reports s t) : t.fixed = s.fixed := by
  rw [h]
  rfl

end Sys2Proof

namespace Sys2Proof.Machine

@[simp] theorem State.fixed_ite (c : Prop) [Decidable c] (s t : State) :
    (if c then s else t).fixed = if c then s.fixed else t.fixed := apply_ite State.fixed c s t

/-- What each turn of a fold keeps, the fold keeps. -/
@[simp] theorem foldl_fixed {α : Type} {g : State → α → State} (hg : ∀ u y, (g u y).fixed = u.fixed) (l : List α)
    (s : State) : (l.foldl g s).fixed = s.fixed := by
  induction l generalizing s with
  | nil => rfl
  | cons a t ih => rw [List.foldl_cons, ih, hg]

/-! ### The parts of the state

`(rfl)` keeps `simp` from closing a goal with one of these by unfolding, where the kernel would evaluate the new
contents of the part. -/

@[simp] theorem State.onBus_fixed (s : State) (f : Bus → Bus) : (s.onBus f).fixed = s.fixed := (rfl)
@[simp] theorem State.onPort_fixed (s : State) (w : Fin 11) (f : ParPort → ParPort) : (s.onPort w f).fixed = s.fixed :=
  (rfl)
@[simp] theorem State.onEvq_fixed (s : State) (w : Fin 9) (f : EventPort → EventPort) : (s.onEvq w f).fixed = s.fixed :=
  (rfl)
@[simp] theorem State.onAo_fixed (s : State) (f : Ao → Ao) : (s.onAo f).fixed = s.fixed := (rfl)
@[simp] theorem State.onMgmt_fixed (s : State) (f : Mgmt → Mgmt) : (s.onMgmt f).fixed = s.fixed := (rfl)
@[simp] theorem State.onPaper_fixed (s : State) (f : Paper → Paper) : (s.onPaper f).fixed = s.fixed := (rfl)
@[simp] theorem State.onMedia_fixed (s : State) (h : Fin 4) (f : Media → Media) : (s.onMedia h f).fixed = s.fixed :=
  (rfl)
@[simp] theorem State.onEnergy_fixed (s : State) (h : Fin 4) (f : Energy → Energy) : (s.onEnergy h f).fixed = s.fixed :=
  (rfl)
@[simp] theorem State.onVi_fixed (s : State) (v : Fin 8) (f : Vi → Vi) : (s.onVi v f).fixed = s.fixed := (rfl)
@[simp] theorem State.onMarl_fixed (s : State) (f : Marl → Marl) : (s.onMarl f).fixed = s.fixed := (rfl)
@[simp] theorem State.onLoam_fixed (s : State) (f : Loam → Loam) : (s.onLoam f).fixed = s.fixed := (rfl)
@[simp] theorem State.onSilt_fixed (s : State) (f : Silt → Silt) : (s.onSilt f).fixed = s.fixed := (rfl)
@[simp] theorem State.onJob_fixed (s : State) (j : JobRef) (f : Job → Job) : (s.onJob j f).fixed = s.fixed := (rfl)
@[simp] theorem State.onRun_fixed (s : State) (h : Fin 4) (f : Option Run → Option Run) :
    (s.onRun h f).fixed = s.fixed := (rfl)
@[simp] theorem State.onAxis_fixed (s : State) (a : Fin 4) (f : Axis → Axis) : (s.onAxis a f).fixed = s.fixed := (rfl)
@[simp] theorem State.onData_fixed (s : State) (v : Fin 8) (f : DataPort → DataPort) : (s.onData v f).fixed = s.fixed :=
  (rfl)
@[simp] theorem State.onHead_fixed (s : State) (h : Fin 4) (f : Head → Head) : (s.onHead h f).fixed = s.fixed := (rfl)
@[simp] theorem State.onCutter_fixed (s : State) (f : Cutter → Cutter) : (s.onCutter f).fixed = s.fixed := (rfl)
@[simp] theorem State.onIsland_fixed (s : State) (f : Island → Island) : (s.onIsland f).fixed = s.fixed := (rfl)
@[simp] theorem State.onLoamHead_fixed (s : State) (h : Fin 4) (f : LoamHead → LoamHead) :
    (s.onLoamHead h f).fixed = s.fixed := (rfl)
@[simp] theorem State.onLink_fixed (s : State) (f : Link → Link) : (s.onLink f).fixed = s.fixed := (rfl)
@[simp] theorem State.onLamp_fixed (s : State) (c : Fin 8) (f : Lamp → Lamp) : (s.onLamp c f).fixed = s.fixed := (rfl)
@[simp] theorem State.onAnalog_fixed (s : State) (f : Analog → Analog) : (s.onAnalog f).fixed = s.fixed := (rfl)
@[simp] theorem State.onConv_fixed (s : State) (x : Fin 2) (f : Converter → Converter) :
    (s.onConv x f).fixed = s.fixed := (rfl)
@[simp] theorem State.onPwr_fixed (s : State) (f : Pwr → Pwr) : (s.onPwr f).fixed = s.fixed := (rfl)
@[simp] theorem State.onGrit_fixed (s : State) (f : Grit → Grit) : (s.onGrit f).fixed = s.fixed := (rfl)
@[simp] theorem State.onSerial_fixed (s : State) (f : SerialBlock → SerialBlock) : (s.onSerial f).fixed = s.fixed :=
  (rfl)
@[simp] theorem State.onSer_fixed (s : State) (p : Fin 3) (f : Serial → Serial) : (s.onSer p f).fixed = s.fixed := (rfl)

/-! ### Reports -/

@[simp] theorem State.logRecord_fixed (s : State) (code aux : Byte) (payload : Word) (w4 w5 : Par) :
    (s.logRecord code aux payload w4 w5).fixed = s.fixed := (State.logRecord_reports s _ _ _ _ _).fixed
@[simp] theorem State.raiseVi_fixed (s : State) (v : Fin 8) (code aux : Byte) (payload : Word) :
    (s.raiseVi v code aux payload).fixed = s.fixed := (State.raiseVi_reports s _ _ _ _).fixed
@[simp] theorem State.raiseVis_fixed (s : State) (t : State → Fin 8 → Bool) (code aux : Byte) (payload : Word) :
    (s.raiseVis t code aux payload).fixed = s.fixed := (State.raiseVis_reports s _ _ _ _).fixed
@[simp] theorem State.raise0_fixed (s : State) (code aux : Byte) (payload : Word) :
    (s.raise0 code aux payload).fixed = s.fixed := (State.raise0_reports s _ _ _).fixed
@[simp] theorem State.raiseBoth_fixed (s : State) (t : State → Fin 8 → Bool) (code aux : Byte) (payload : Word) :
    (s.raiseBoth t code aux payload).fixed = s.fixed := (State.raiseBoth_reports s _ _ _ _).fixed
@[simp] theorem State.raiseWin_fixed (s : State) (w : Fin 11) (code aux : Byte) (payload : Word) :
    (s.raiseWin w code aux payload).fixed = s.fixed := (State.raiseWin_reports s _ _ _ _).fixed
@[simp] theorem State.changeMode_fixed (s : State) (f : Pwr → Pwr) : (s.changeMode f).fixed = s.fixed :=
  (State.changeMode_reports s f).fixed

/-! ### Device time, frozen loops, accounts and the arbiter -/

@[simp] theorem State.hostTime_fixed (s : State) (lo : Par) : (s.hostTime lo).fixed = s.fixed := by
  simp [State.hostTime]

@[simp] theorem State.writeFreeze_fixed (s : State) (v : Word) : (s.writeFreeze v).fixed = s.fixed := by
  simp [State.writeFreeze]

@[simp] theorem State.marlAccrue_fixed (s : State) : s.marlAccrue.fixed = s.fixed := by simp [State.marlAccrue]

@[simp] theorem State.accrue_fixed (s : State) : s.accrue.fixed = s.fixed := by simp [State.accrue]

@[simp] theorem State.contractWrite_fixed (s : State) (v : Fin 8) (k : Fin 20) (x : Par) :
    (s.contractWrite v k x).fixed = s.fixed := by simp [State.contractWrite]

@[simp] theorem State.writeArbApply_fixed (s : State) (x : Par) : (s.writeArbApply x).1.fixed = s.fixed := by
  simp [State.writeArbApply, apply_ite Prod.fst]

/-! ### Values stored -/

@[simp] theorem State.setPar_fixed (s : State) (idx : Nat) (vi : Option (Fin 8)) (x : Par) :
    (s.setPar idx vi x).fixed = s.fixed := (rfl)

@[simp] theorem State.jobItemWrite_fixed (s : State) (v : Fin 8) (off : Nat) (x : Par) :
    (s.jobItemWrite v off x).fixed = s.fixed := by simp [State.jobItemWrite]

/-! ### Frames, chunks and bands -/

@[simp] theorem State.freeFrame_fixed (s : State) (f : Nat) : (s.freeFrame f).fixed = s.fixed := by
  simp [State.freeFrame]

@[simp] theorem State.putFrame_fixed (s : State) (f : Nat) (x : Frame) : (s.putFrame f x).fixed = s.fixed := by
  simp [State.putFrame]

@[simp] theorem State.dropPages_fixed (s : State) (v : Fin 8) (b : Nat) : (s.dropPages v b).fixed = s.fixed := by
  unfold State.dropPages
  refine foldl_fixed (fun u e => ?_) _ _
  split <;> simp

@[simp] theorem State.freeChunk_fixed (s : State) (external : Bool) (c : Nat) :
    (s.freeChunk external c).fixed = s.fixed := by
  unfold State.freeChunk
  (repeat' split) <;> simp

@[simp] theorem State.freeChunks_fixed (s : State) (external : Bool) (l : List Nat) :
    (s.freeChunks external l).fixed = s.fixed := by simp [State.freeChunks]

@[simp] theorem State.dropBand_fixed (s : State) (v : Fin 8) (b : Nat) : (s.dropBand v b).fixed = s.fixed := by
  simp only [State.dropBand]
  split <;> simp

@[simp] theorem State.setBuffer_fixed (s : State) (i : Fin 8) (b : Option IngestBuffer) :
    (s.setBuffer i b).fixed = s.fixed := by simp [State.setBuffer]

@[simp] theorem State.dropWaiting_fixed (s : State) (v : Fin 8) (band : Nat) :
    (s.dropWaiting v band).fixed = s.fixed := by
  unfold State.dropWaiting
  refine foldl_fixed (fun u i => ?_) _ _
  split <;> simp

@[simp] theorem State.discardBlock_fixed (s : State) (v : Fin 8) (band : Nat) :
    (s.discardBlock v band).fixed = s.fixed := by
  simp only [State.discardBlock]
  (repeat' split) <;> simp

/-! ### Holds, page faults and pins -/

@[simp] theorem State.raiseHold_fixed (s : State) (h : Fin 4) (r : Run) (c : HoldCause) :
    (s.raiseHold h r c).fixed = s.fixed := by simp [State.raiseHold]

@[simp] theorem State.startHold_fixed (s : State) (h : Fin 4) (r : Run) (c : HoldCause) (page line : Nat) :
    (s.startHold h r c page line).fixed = s.fixed := by
  unfold State.startHold
  split <;> simp

@[simp] theorem State.raiseResume_fixed (s : State) (h : Fin 4) (r : Run) (since : Nat) :
    (s.raiseResume h r since).fixed = s.fixed := by simp [State.raiseResume]

@[simp] theorem State.endHold_fixed (s : State) (h : Fin 4) (r : Run) (x : Hold) :
    (s.endHold h r x).fixed = s.fixed := by simp [State.endHold]

@[simp] theorem State.settleHold_fixed (s : State) (h : Fin 4) : (s.settleHold h).fixed = s.fixed := by
  unfold State.settleHold
  (repeat' split) <;> simp

@[simp] theorem State.raiseFault_fixed (s : State) (v : Fin 8) (p : Nat) (cls : FaultClass) :
    (s.raiseFault v p cls).fixed = s.fixed := by simp [State.raiseFault]

@[simp] theorem State.prefetch_fixed (s : State) (h : Fin 4) (r : Run) : (s.prefetch h r).fixed = s.fixed := by
  unfold State.prefetch
  dsimp only
  split
  · refine foldl_fixed (fun u k => ?_) _ _
    split
    · rfl
    · split <;> simp
  · rfl

@[simp] theorem State.unpinFrame_fixed (s : State) (f : Nat) (who : Fin 5) : (s.unpinFrame f who).fixed = s.fixed := by
  simp only [State.unpinFrame]
  (repeat' split) <;> simp

@[simp] theorem State.unpinWhere_fixed (s : State) (v : Fin 8) (who : Fin 5) (t : Nat → Bool) :
    (s.unpinWhere v who t).fixed = s.fixed := by
  unfold State.unpinWhere
  refine foldl_fixed (fun u e => ?_) _ _
  split <;> simp

@[simp] theorem State.pinPage_fixed (s : State) (v : Fin 8) (p : Nat) (who : Fin 5) :
    (s.pinPage v p who).fixed = s.fixed := by
  unfold State.pinPage
  split <;> simp

@[simp] theorem State.pinWindow_fixed (s : State) (h : Fin 4) (r : Run) : (s.pinWindow h r).fixed = s.fixed := by
  simp [State.pinWindow]

@[simp] theorem State.refreshHead_fixed (s : State) (h : Fin 4) : (s.refreshHead h).fixed = s.fixed := by
  unfold State.refreshHead
  split <;> simp

@[simp] theorem State.refreshHeads_fixed (s : State) : s.refreshHeads.fixed = s.fixed := by simp [State.refreshHeads]

/-! ### Ingest -/

@[simp] theorem State.countSpeckle_fixed (s : State) (v : Fin 8) (n : Nat) : (s.countSpeckle v n).fixed = s.fixed := by
  simp [State.countSpeckle]

@[simp] theorem State.onIngest_fixed (s : State) (v : Fin 8) (f : Ingest → Ingest) : (s.onIngest v f).fixed = s.fixed :=
  (rfl)

@[simp] theorem State.closeBand_fixed (s : State) (v : Fin 8) : (s.closeBand v).fixed = s.fixed := by
  simp only [State.closeBand]
  split <;> simp

theorem State.putByte_fixed (s : State) (v : Fin 8) (x : Byte) :
    ∀ u, s.putByte v x = some u → u.fixed = s.fixed := by
  unfold State.putByte
  (repeat' split) <;> simp

@[simp] theorem State.putQueued_fixed (s : State) (v : Fin 8) (l : List Byte) : (s.putQueued v l).fixed = s.fixed := by
  induction l generalizing s with
  | nil => rfl
  | cons x t ih =>
    unfold State.putQueued
    split
    next u hu => rw [ih, State.putByte_fixed s v x u hu]
    next => rfl

@[simp] theorem State.putBytes_fixed (s : State) (v : Fin 8) (l : List Byte) : (s.putBytes v l).fixed = s.fixed := by
  simp [State.putBytes]

@[simp] theorem State.speckleFlush_fixed (s : State) (v : Fin 8) : (s.speckleFlush v).fixed = s.fixed := by
  simp [State.speckleFlush]

@[simp] theorem State.gatherRest_fixed (s : State) (v : Fin 8) : (s.gatherRest v).fixed = s.fixed := by
  simp [State.gatherRest]

@[simp] theorem State.handBand_fixed (s : State) (v : Fin 8) : (s.handBand v).fixed = s.fixed := by
  simp only [State.handBand]
  split <;> simp

@[simp] theorem State.flushBand_fixed (s : State) (v : Fin 8) : (s.flushBand v).2.fixed = s.fixed := by
  simp only [State.flushBand]
  split <;> simp

theorem State.yield_fixed (s : State) (v : Fin 8) (l : List Byte) :
    ∀ u, s.yield v l = some u → u.fixed = s.fixed := by
  unfold State.yield
  split <;> simp

theorem State.speckleByte_fixed (s : State) (v : Fin 8) (x : Byte) :
    ∀ u, s.speckleByte v x = some u → u.fixed = s.fixed := by
  intro u hu
  unfold State.speckleByte at hu
  dsimp only at hu
  split at hu
  · rw [← Option.some.inj hu]
    rfl
  · split at hu
    · rw [← Option.some.inj hu]
      rfl
    · obtain ⟨t, ht, rfl⟩ := Option.map_eq_some_iff.mp hu
      exact State.yield_fixed s v _ t ht

theorem State.ditherByte_fixed (s : State) (v : Fin 8) (x : Byte) :
    ∀ u, s.ditherByte v x = some u → u.fixed = s.fixed := by
  intro u hu
  unfold State.ditherByte at hu
  dsimp only at hu
  split at hu
  · rw [← Option.some.inj hu, State.onIngest_fixed]
  · rw [State.yield_fixed _ v _ u hu, State.onIngest_fixed]

theorem State.ingestByte_fixed (s : State) (v : Fin 8) (x : Byte) :
    ∀ u, s.ingestByte v x = some u → u.fixed = s.fixed := by
  intro u hu
  unfold State.ingestByte at hu
  split at hu
  · exact State.speckleByte_fixed s v x u hu
  · exact State.ditherByte_fixed s v x u hu
  · exact State.yield_fixed s v [x] u hu

@[simp] theorem State.drainLoop_fixed (s : State) (v : Fin 8) (n : Nat) : (s.drainLoop v n).fixed = s.fixed := by
  induction n generalizing s with
  | zero => rfl
  | succ n ih =>
    unfold State.drainLoop
    dsimp only
    split
    · rfl
    · split
      · split <;> simp [ih]
      · split
        · rfl
        · split
          next u hu =>
            obtain ⟨a, ha, hb⟩ := Option.bind_eq_some_iff.mp hu
            rw [ih, State.onData_fixed, State.putBytes_fixed, State.ingestByte_fixed a v _ u hb,
              State.ingestByte_fixed s v _ a ha]
          next => rfl

@[simp] theorem State.drain_fixed (s : State) (v : Fin 8) : (s.drain v).fixed = s.fixed := by simp [State.drain]

@[simp] theorem State.drainAll_fixed (s : State) : s.drainAll.fixed = s.fixed := by simp [State.drainAll]

@[simp] theorem State.writeDiscard_fixed (s : State) (v : Fin 8) (x : Par) :
    (s.writeDiscard v x).1.fixed = s.fixed := by
  simp only [State.writeDiscard]
  split <;> simp

/-! ### Heads -/

@[simp] theorem State.settleHeadOut_fixed (s : State) : s.settleHeadOut.fixed = s.fixed := by simp [State.settleHeadOut]

@[simp] theorem State.headEvent_fixed (s : State) (h : Fin 4) : (s.headEvent h).fixed = s.fixed := by
  simp [State.headEvent]

@[simp] theorem State.setHead_fixed (s : State) (h : Fin 4) (st : HeadState) (cause : OutCause) :
    (s.setHead h st cause).fixed = s.fixed := by simp [State.setHead]

@[simp] theorem State.writeHeadCfg_fixed (s : State) (h : Fin 4) (v : Par) : (s.writeHeadCfg h v).fixed = s.fixed := by
  unfold State.writeHeadCfg
  split <;> simp

@[simp] theorem State.settleEnvelope_fixed (s : State) (h : Fin 4) : (s.settleEnvelope h).fixed = s.fixed := by
  simp [State.settleEnvelope]

@[simp] theorem State.raiseClamp_fixed (s : State) (w : Fin 11) (ceiling head lamp : Nat) :
    (s.raiseClamp w ceiling head lamp).fixed = s.fixed := by simp [State.raiseClamp]

@[simp] theorem State.enableHead_fixed (s : State) (h : Fin 4) : (s.enableHead h).fixed = s.fixed := by
  simp only [State.enableHead]
  (repeat' split) <;> simp

@[simp] theorem State.settleDisable_fixed (s : State) (h : Fin 4) : (s.settleDisable h).fixed = s.fixed := by
  simp [State.settleDisable]

@[simp] theorem State.disableHead_fixed (s : State) (h : Fin 4) : (s.disableHead h).fixed = s.fixed := by
  unfold State.disableHead
  split <;> simp

@[simp] theorem State.writeHeadCtrl_fixed (s : State) (h : Fin 4) (v : Par) :
    (s.writeHeadCtrl h v).fixed = s.fixed := by simp [State.writeHeadCtrl]

@[simp] theorem State.writeTenantBound_fixed (s : State) (w : Fin 11) (h : Fin 4) (upper : Bool) (v : Fin 8) (x : Par) :
    (s.writeTenantBound w h upper v x).1.fixed = s.fixed := by simp [State.writeTenantBound, apply_ite Prod.fst]

@[simp] theorem State.headItemWrite_fixed (s : State) (w : Fin 11) (h : Fin 4) (off : Nat) (v : Par)
    (vi : Option (Fin 8)) :
    (s.headItemWrite w h off v vi).1.fixed = s.fixed := by
  unfold State.headItemWrite
  cases vi <;> simp [apply_ite Prod.fst]

/-! ### Axes and the cutter -/

@[simp] theorem State.axisEvent_fixed (s : State) (a : Fin 4) : (s.axisEvent a).fixed = s.fixed := by
  simp [State.axisEvent]

@[simp] theorem State.setCutter_fixed (s : State) (st : CutState) : (s.setCutter st).fixed = s.fixed := by
  simp [State.setCutter]

@[simp] theorem State.setAxis_fixed (s : State) (a : Fin 4) (st : AxisState) : (s.setAxis a st).fixed = s.fixed := by
  simp [State.setAxis]

@[simp] theorem State.loadDacs_fixed (s : State) (a : Fin 4) : (s.loadDacs a).fixed = s.fixed := by
  simp [State.loadDacs]

@[simp] theorem State.enableAxis_fixed (s : State) (a : Fin 4) : (s.enableAxis a).fixed = s.fixed := by
  unfold State.enableAxis
  (repeat' split) <;> simp

@[simp] theorem State.endStrobes_fixed (s : State) (h : Fin 4) (t : Rat) (atOnce : Bool) :
    (s.endStrobes h t atOnce).fixed = s.fixed := by simp [State.endStrobes]

/-! ### Jobs that end -/

@[simp] theorem State.withdrawPrinted_fixed (s : State) (h : Fin 4) : (s.withdrawPrinted h).fixed = s.fixed := by
  unfold State.withdrawPrinted
  split <;> simp

@[simp] theorem State.rampStop_fixed (s : State) (a : Fin 4) : (s.rampStop a).fixed = s.fixed := by
  simp only [State.rampStop]
  split <;> simp

@[simp] theorem State.stopMoves_fixed (s : State) (h : Fin 4) (r : Run) : (s.stopMoves h r).fixed = s.fixed := by
  simp [State.stopMoves]

@[simp] theorem State.charge_fixed (s : State) (v : Fin 8) (h : Fin 4) (t : Nat) (surplus : Bool) :
    (s.charge v h t surplus).fixed = s.fixed := by simp [State.charge]

@[simp] theorem State.queueFrame_fixed (s : State) (t : BitVec 4) (dst : BitVec 5) (payload : List Byte) :
    (s.queueFrame t dst payload).fixed = s.fixed := by simp [State.queueFrame]

@[simp] theorem State.sendResult_fixed (s : State) (node : Fin 16) (migId : Word) (code detail : Nat) (headTime : Nat)
    (amount : Nat) :
    (s.sendResult node migId code detail headTime amount).fixed = s.fixed := by simp [State.sendResult]

@[simp] theorem State.dropBands_fixed (s : State) (v : Fin 8) (b : Nat) (n : Nat) :
    (s.dropBands v b n).fixed = s.fixed := by
  induction n generalizing s b with
  | zero => rfl
  | succ n ih => simp [State.dropBands, ih]

@[simp] theorem State.endGuest_fixed (s : State) (j : JobRef) (ok : Bool) (result headTime amount : Nat) :
    (s.endGuest j ok result headTime amount).fixed = s.fixed := by
  unfold State.endGuest
  split <;> simp

@[simp] theorem State.finishOne_fixed (s : State) (j : JobRef) (st : JobState) (result amount : Nat) :
    (s.finishOne j st result amount).fixed = s.fixed := by simp [State.finishOne]

@[simp] theorem State.breakChain_fixed (s : State) (j : JobRef) : (s.breakChain j).fixed = s.fixed := by
  simp only [State.breakChain]
  split <;> simp

@[simp] theorem State.queueSpace_fixed (s : State) (v : Fin 8) : (s.queueSpace v).fixed = s.fixed := by
  unfold State.queueSpace
  split <;> simp

@[simp] theorem State.fencesDone_fixed (s : State) (v : Fin 8) : (s.fencesDone v).fixed = s.fixed := by
  simp [State.fencesDone]

@[simp] theorem State.chainOver_fixed (s : State) (h : Fin 4) : (s.chainOver h).fixed = s.fixed := by
  unfold State.chainOver
  split <;> simp

@[simp] theorem State.endJob_fixed (s : State) (j : JobRef) (st : JobState) (result amount : Nat) :
    (s.endJob j st result amount).fixed = s.fixed := by simp [State.endJob]

@[simp] theorem State.endRun_fixed (s : State) (h : Fin 4) (st : JobState) (result amount : Nat) :
    (s.endRun h st result amount).fixed = s.fixed := by
  unfold State.endRun
  split <;> simp

@[simp] theorem State.stopJobAt_fixed (s : State) (h : Fin 4) (t : Rat) (st : JobState) (result : Nat) :
    (s.stopJobAt h t st result).fixed = s.fixed := by
  simp only [State.stopJobAt]
  (repeat' split) <;> simp

@[simp] theorem State.stopJob_fixed (s : State) (h : Fin 4) (st : JobState) (result : Nat) :
    (s.stopJob h st result).fixed = s.fixed := by simp [State.stopJob]

@[simp] theorem State.cutterDropJob_fixed (s : State) : s.cutterDropJob.fixed = s.fixed := by
  unfold State.cutterDropJob
  split <;> simp

/-! ### Stops and moves of axes -/

@[simp] theorem State.hardStop_fixed (s : State) (a : Fin 4) (cause : BitVec 3) :
    (s.hardStop a cause).fixed = s.fixed := by simp [State.hardStop]

@[simp] theorem State.failOwner_fixed (s : State) (o : MoveOwner) : (s.failOwner o).fixed = s.fixed := by
  unfold State.failOwner
  split <;> simp

@[simp] theorem State.failAxisJobs_fixed (s : State) (a : Fin 4) : (s.failAxisJobs a).fixed = s.fixed := by
  unfold State.failAxisJobs
  refine foldl_fixed (fun u h => ?_) _ _
  split <;> simp

@[simp] theorem State.hardStopTo_fixed (s : State) (a : Fin 4) (cause : BitVec 3) (st : AxisState) :
    (s.hardStopTo a cause st).fixed = s.fixed := by
  simp only [State.hardStopTo]
  (repeat' split) <;> simp

@[simp] theorem State.axisOff_fixed (s : State) (a : Fin 4) (cause : BitVec 3) :
    (s.axisOff a cause).fixed = s.fixed := by simp [State.axisOff]

@[simp] theorem State.haltAxis_fixed (s : State) (a : Fin 4) : (s.haltAxis a).fixed = s.fixed := by
  unfold State.haltAxis
  (repeat' split) <;> simp

@[simp] theorem State.clearAxis_fixed (s : State) (a : Fin 4) : (s.clearAxis a).fixed = s.fixed := by
  simp [State.clearAxis]

@[simp] theorem State.revReference_fixed (s : State) (a : Fin 4) : (s.revReference a).fixed = s.fixed := by
  simp [State.revReference]

@[simp] theorem State.writeAxisCtrl_fixed (s : State) (a : Fin 4) (v : Par) :
    (s.writeAxisCtrl a v).fixed = s.fixed := by simp [State.writeAxisCtrl]

@[simp] theorem State.limitEvent_fixed (s : State) (a : Fin 4) (input : Fin 2) (hard : Bool) (vi : Option (Fin 8)) :
    (s.limitEvent a input hard vi).fixed = s.fixed := by
  simp only [State.limitEvent]
  split <;> simp

@[simp] theorem State.startMove_fixed (s : State) (a : Fin 4) (move : Move) :
    (s.startMove a move).fixed = s.fixed := by
  simp only [State.startMove]
  (repeat' split) <;> simp

@[simp] theorem State.requestMove_fixed (s : State) (a : Fin 4) (m : Move) : (s.requestMove a m).fixed = s.fixed := by
  simp only [State.requestMove]
  split <;> simp

@[simp] theorem State.serviceMove_fixed (s : State) (a : Fin 4) (v : Par) : (s.serviceMove a v).1.fixed = s.fixed := by
  simp [State.serviceMove, apply_ite Prod.fst]

@[simp] theorem State.axisItemWrite_fixed (s : State) (a : Fin 4) (off : Nat) (v : Par) :
    (s.axisItemWrite a off v).1.fixed = s.fixed := by simp [State.axisItemWrite, apply_ite Prod.fst]

/-! ### Loops, media and lamps -/

@[simp] theorem State.raiseBound_fixed (s : State) (loop : Nat) (upper : Bool) (tenant : Option (Fin 8)) :
    (s.raiseBound loop upper tenant).fixed = s.fixed := by
  unfold State.raiseBound
  split <;> simp

@[simp] theorem State.loopHeld_fixed (s : State) (loop : Nat) (lo hi newLo newHi : Bool) (tLo tHi : Option (Fin 8)) :
    (s.loopHeld loop lo hi newLo newHi tLo tHi).fixed = s.fixed := by simp [State.loopHeld]

@[simp] theorem State.loopFree_fixed (s : State) (loop : Nat) : (s.loopFree loop).fixed = s.fixed := by
  simp [State.loopFree]

@[simp] theorem State.freeIdleLoops_fixed (s : State) (h : Fin 4) : (s.freeIdleLoops h).fixed = s.fixed := by
  simp [State.freeIdleLoops]

@[simp] theorem State.mediaForget_fixed (s : State) (h : Fin 4) : (s.mediaForget h).fixed = s.fixed := by
  simp [State.mediaForget]

@[simp] theorem State.feedTo_fixed (s : State) (h a : Fin 4) (target : Int) (o : MoveOwner) :
    (s.feedTo h a target o).fixed = s.fixed := by simp [State.feedTo]

@[simp] theorem State.startLearn_fixed (s : State) (h : Fin 4) : (s.startLearn h).fixed = s.fixed := by
  unfold State.startLearn
  split <;> simp

@[simp] theorem State.writeMediaCtrl_fixed (s : State) (h : Fin 4) (v : Par) :
    (s.writeMediaCtrl h v).fixed = s.fixed := by simp [State.writeMediaCtrl]

@[simp] theorem State.mediaItemWrite_fixed (s : State) (h : Fin 4) (off : Nat) (v : Par) :
    (s.mediaItemWrite h off v).1.fixed = s.fixed := by simp [State.mediaItemWrite, apply_ite Prod.fst]

@[simp] theorem State.lampItemWrite_fixed (s : State) (w : Fin 11) (c : Fin 8) (off : Nat) (v : Par) :
    (s.lampItemWrite w c off v).1.fixed = s.fixed := by
  unfold State.lampItemWrite
  split <;> simp

@[simp] theorem State.lampOff_fixed (s : State) (c : Fin 8) : (s.lampOff c).fixed = s.fixed := by simp [State.lampOff]

@[simp] theorem State.requestOn_fixed (s : State) (c : Fin 8) (duty : Nat) : (s.requestOn c duty).fixed = s.fixed := by
  unfold State.requestOn
  split <;> simp

@[simp] theorem State.lampOp_fixed (s : State) (op : Nat) (duty : Nat) (c : Fin 8) :
    (s.lampOp op duty c).fixed = s.fixed := by
  unfold State.lampOp
  split <;> simp

@[simp] theorem State.writeLampCmd_fixed (s : State) (v : Fin 8) (x : Par) :
    (s.writeLampCmd v x).1.fixed = s.fixed := by
  unfold State.writeLampCmd
  split <;> simp

/-! ### Converters and power -/

@[simp] theorem State.adcTrigger_fixed (s : State) (x : Fin 2) : (s.adcTrigger x).fixed = s.fixed := by
  simp [State.adcTrigger]

@[simp] theorem State.adcOff_fixed (s : State) (x : Fin 2) : (s.adcOff x).fixed = s.fixed := by simp [State.adcOff]

@[simp] theorem State.adcCtrl_fixed (s : State) (x : Fin 2) (v : Par) : (s.adcCtrl x v).fixed = s.fixed := by
  simp [State.adcCtrl]

@[simp] theorem State.pwrItemWrite_fixed (s : State) (idx : Nat) (v : Par) :
    (s.pwrItemWrite idx v).fixed = s.fixed := by
  unfold State.pwrItemWrite
  split <;> simp

/-! ### Grit -/

@[simp] theorem State.onSource_fixed (s : State) (x : Fin 2) (f : Source → Source) : (s.onSource x f).fixed = s.fixed :=
  (rfl)

@[simp] theorem State.switchSource_fixed (s : State) : s.switchSource.fixed = s.fixed := by simp [State.switchSource]

@[simp] theorem State.gritBlockEvent_fixed (s : State) (cause : Nat) : (s.gritBlockEvent cause).fixed = s.fixed := by
  simp [State.gritBlockEvent]

@[simp] theorem State.gritBlock_fixed (s : State) (cause : Nat) (before : Bool) :
    (s.gritBlock cause before).fixed = s.fixed := by simp [State.gritBlock]

@[simp] theorem State.startRaw_fixed (s : State) : s.startRaw.fixed = s.fixed := by simp [State.startRaw]

@[simp] theorem State.endRaw_fixed (s : State) : s.endRaw.fixed = s.fixed := by
  simp only [State.endRaw]
  (repeat' split) <;> simp

@[simp] theorem State.gritCtrl_fixed (s : State) (v : Par) : (s.gritCtrl v).fixed = s.fixed := by simp [State.gritCtrl]

@[simp] theorem State.gritRawCfg_fixed (s : State) (v : Par) : (s.gritRawCfg v).fixed = s.fixed := by
  simp [State.gritRawCfg]

/-! ### Serial ports -/

@[simp] theorem State.serRetrim_fixed (s : State) (p : Fin 3) : (s.serRetrim p).fixed = s.fixed := by
  simp [State.serRetrim]

@[simp] theorem State.serTakeOver_fixed (s : State) (p : Fin 3) (o : BitVec 4) :
    (s.serTakeOver p o).fixed = s.fixed := by
  unfold State.serTakeOver
  split <;> simp

@[simp] theorem State.serOwnerWrite_fixed (s : State) (v : Par) : (s.serOwnerWrite v).fixed = s.fixed := by
  simp [State.serOwnerWrite]

@[simp] theorem State.serNext_fixed (s : State) (p : Fin 3) : (s.serNext p).fixed = s.fixed := by simp [State.serNext]

@[simp] theorem State.raiseSer_fixed (s : State) (p : Fin 3) (code aux : Byte) (payload : Word) :
    (s.raiseSer p code aux payload).fixed = s.fixed := by
  unfold State.raiseSer
  split <;> simp

@[simp] theorem State.reportRate_fixed (s : State) (p : Fin 3) : (s.reportRate p).fixed = s.fixed := by
  simp [State.reportRate]

@[simp] theorem State.reportRates_fixed (s : State) : s.reportRates.fixed = s.fixed := by simp [State.reportRates]

@[simp] theorem State.serClock_fixed (s : State) : s.serClock.fixed = s.fixed := by simp [State.serClock]

@[simp] theorem State.serviceItemWrite_fixed (s : State) (idx : Nat) (vi : Option (Fin 8)) (v : Par) :
    (s.serviceItemWrite idx vi v).fixed = s.fixed := by
  unfold State.serviceItemWrite
  split <;> simp

/-! ### The link -/

@[simp] theorem State.setLink_fixed (s : State) (st : LinkState) (cause : Nat) :
    (s.setLink st cause).fixed = s.fixed := by simp [State.setLink]

@[simp] theorem State.writeEvtTx_fixed (s : State) (v : Par) : (s.writeEvtTx v).fixed = s.fixed := by
  simp [State.writeEvtTx]

@[simp] theorem State.writeRyCtrl_fixed (s : State) (v : Par) : (s.writeRyCtrl v).fixed = s.fixed := by
  simp [State.writeRyCtrl]

@[simp] theorem State.ryItemWrite_fixed (s : State) (off : Nat) (v : Par) : (s.ryItemWrite off v).fixed = s.fixed := by
  simp [State.ryItemWrite]

/-! ### Parameter writes -/

@[simp] theorem State.lowItemWrite_fixed (s : State) (idx : Nat) (vi : Option (Fin 8)) (v : Par) :
    (s.lowItemWrite idx vi v).1.fixed = s.fixed := by
  unfold State.lowItemWrite
  (repeat' split) <;> simp

@[simp] theorem State.itemWrite_fixed (s : State) (w : Fin 11) (idx : Nat) (vi : Option (Fin 8)) (v : Par) :
    (s.itemWrite w idx vi v).1.fixed = s.fixed := by
  unfold State.itemWrite
  (repeat' split) <;> simp

@[simp] theorem State.applyCommit_fixed (s : State) (w : Fin 11) (idx : Nat) (v : Par) :
    (s.applyCommit w idx v).1.fixed = s.fixed := by
  simp only [State.applyCommit]
  (repeat' split) <;> simp

end Sys2Proof.Machine
end

section
/-! PROOFS. The parameter registers of a window, its locks and device time: statements O15 and O18. -/

namespace Sys2Proof

open Machine

/-! ### What a report leaves -/

theorem Reports.port {s t : State} (h : Reports s t) : t.bus.port = s.bus.port := by rw [h]
theorem Reports.d {s t : State} (h : Reports s t) : t.bus.d = s.bus.d := by rw [h]
theorem Reports.ao_time {s t : State} (h : Reports s t) : t.ao.time = s.ao.time := by rw [h]
theorem Reports.ao_timeValid {s t : State} (h : Reports s t) : t.ao.timeValid = s.ao.timeValid := by rw [h]
theorem Reports.ao_timeSource {s t : State} (h : Reports s t) : t.ao.timeSource = s.ao.timeSource := by rw [h]

/-- States equal but for what is reported stay so when their parameter registers change alike. -/
theorem Reports.onPort {s t : State} (h : Reports s t) (w : Fin 11) (f : ParPort → ParPort) :
    Reports (s.onPort w f) (t.onPort w f) := by
  rw [h]
  rfl

/-- States equal but for what is reported stay so when they drive the same word. -/
theorem Reports.drive {s t : State} (h : Reports s t) (x : Word) : Reports (s.drive x) (t.drive x) := by
  rw [h]
  rfl

namespace Machine

/-! ### The parameter registers of a window -/

@[simp] theorem State.onPort_port (s : State) (w : Fin 11) (f : ParPort → ParPort) :
    ((s.onPort w f).bus.port[w]) = f (s.bus.port[w]) := by
  simp

@[simp] theorem State.drive_port (s : State) (x : Word) : (s.drive x).bus.port = s.bus.port := rfl

/-- A change of the parameter registers of a window is told by their value after it. -/
theorem State.onPort_eq_of_port (s : State) (w : Fin 11) (f : ParPort → ParPort) :
    s.onPort w f = s.onPort w fun _ => (s.onPort w f).bus.port[w] := by
  simp [State.onPort, State.onBus, vmod]

/-- While the management core runs, the parameter registers of a window are served in every mode and for every state
of its VI; those of window 9 need the island and the main islands (R92, R229, R1099). -/
theorem State.regServed_par_iff (s : State) (w : Fin 11) {o : Nat} (hlo : 0x10 ≤ o) (hhi : o ≤ 0x16) :
    s.regServed w o = true ↔ s.pwr.mgRunning = true ∧ (w = 9 → s.part ≠ .tl4816n ∧ s.hvServes = true) := by
  have h9 : w = 9 ↔ w.val = 9 := Fin.ext_iff
  unfold State.regServed
  simp only [hlo, hhi, h9]
  repeat' split
  all_goals simp_all

/-- The write that a write of PAR_DLO posts: its halves joined, for the index and the VI selected (R162). -/
def ParPort.joined (p : ParPort) (v : Word) : PostedOp :=
  ⟨p.index, BitVec.setWidth 32 p.staged <<< 16 ||| BitVec.setWidth 32 v, p.viSel⟩

/-- The parameter registers once a write of PAR_DLO is posted (R163, R172). -/
def ParPort.post (p : ParPort) (v : Word) : ParPort :=
  { p with
    posted := some (p.joined v), index := if p.autoInc then p.index + 1 else p.index, staged := 0, snapshot := none }

theorem ParPort.advance_index (p : ParPort) : p.advance.index = if p.autoInc then p.index + 1 else p.index := by
  unfold ParPort.advance
  split <;> rfl

/-- With nothing staged and no snapshot, AUTOINC moves the index alone. -/
theorem ParPort.advance_cleared (p : ParPort) (op : PostedOp) :
    ({ p with posted := some op, staged := 0, snapshot := none } : ParPort).advance = { p with
      posted := some op, index := if p.autoInc then p.index + 1 else p.index, staged := 0, snapshot := none } := by
  unfold ParPort.advance
  split <;> simp_all

theorem fld_high_half (x : Word) : fld x.toNat 16 = BitVec.setWidth 32 x <<< 16 := by
  apply BitVec.eq_of_toNat_eq
  have hx : x.toNat % 4294967296 = x.toNat := Nat.mod_eq_of_lt (by omega)
  simp [fld, hx]

/-! ### Operations that complete -/

/-- An operation that completes with OK sets its code and reports nothing (R173, R175). -/
theorem State.completeOp_ok (s : State) (w : Fin 11) (idx : Nat) :
    s.completeOp w idx errOk = s.onPort w fun p => { p with err := errOk } := by
  simp [State.completeOp, errOk]

/-- An operation that completes sets its code, and the rest is a report (R173, R175). -/
theorem State.completeOp_reports (s : State) (w : Fin 11) (idx : Nat) (e : BitVec 4) :
    Reports (s.onPort w fun p => { p with err := e }) (s.completeOp w idx e) := by
  unfold State.completeOp
  dsimp only
  split
  · exact State.raiseWin_reports _ _ _ _ _
  · exact Reports.refl _

@[simp] theorem State.completeOp_fixed (s : State) (w : Fin 11) (idx : Nat) (e : BitVec 4) :
    (s.completeOp w idx e).fixed = s.fixed := (s.completeOp_reports w idx e).fixed

theorem State.finishPosted_of_idle {s : State} {w : Fin 11} (h : (s.bus.port[w]).posted = none) :
    s.finishPosted w = s := by
  unfold State.finishPosted
  rw [h]

@[simp] theorem State.finishPosted_fixed (s : State) (w : Fin 11) : (s.finishPosted w).fixed = s.fixed := by
  simp only [State.finishPosted]
  split <;> simp

@[simp] theorem State.finishPosted_part (s : State) (w : Fin 11) : (s.finishPosted w).part = s.part :=
  congrArg Prod.fst (s.finishPosted_fixed w)

/-! ### Fetches -/

/-- A fetch that a check refuses reads 0 and changes nothing (R174). -/
theorem State.fetch_refused (s : State) (w : Fin 11) (idx : Nat) (h : s.parCheck w idx false ≠ errOk) :
    s.fetch w idx = (0, s, s.parCheck w idx false) := by
  simp [State.fetch, h]

/-- A fetch of id.part that passes its checks reads the part's identity and changes nothing (00_scope R1). -/
theorem State.fetch_idPart (s : State) (w : Fin 11) (h : s.parCheck w 0 false = errOk) :
    s.fetch w 0 = (s.part.id, s, errOk) := by
  have hrow : parRow 0 = some { first := 0x0000, acc := .ro, len := 5 } := by decide
  have hhere : s.absentIndex 0 = false := by simp [State.absentIndex, headTwoThree]
  simp [State.fetch, h, hrow, hhere, State.parValue, ParAccess.writeOnly, State.computed, State.sysIndex, clears]

/-- A fetch of the current index that changes nothing itself leaves its code and keeps its value (R164). -/
theorem State.fetchCurrent_of_fetch {s : State} {w : Fin 11} {x : Par} {e : BitVec 4}
    (h : s.fetch w (s.bus.port[w]).index.toNat = (x, s, e)) : s.fetchCurrent w
      = (x, (s.completeOp w (s.bus.port[w]).index.toNat e).onPort w fun p => { p with snapshot := some x }) := by
  unfold State.fetchCurrent
  dsimp only
  rw [h]

/-! ### Writes of the parameter registers -/

section
variable {s : State} {w : Fin 11} (hrun : s.pwr.mgRunning = true)
  (h9 : w = 9 → s.part ≠ .tl4816n ∧ s.hvServes = true)
include hrun h9

theorem exec_parIndexWrite (v : Word) : exec (.parIndexWrite w v) s
    = .next ((s.finishPosted w).onPort w fun p => { p with index := v, staged := 0, snapshot := none }) := by
  have hs := (s.regServed_par_iff w (o := 0x10) (by decide) (by decide)).mpr ⟨hrun, h9⟩
  exact congrArg Host.Outcome.next (if_pos hs)

theorem exec_parDhiWrite (v : Word) : exec (.parDhiWrite w v) s
    = .next ((s.finishPosted w).onPort w fun p => { p with staged := v }) := by
  have hs := (s.regServed_par_iff w (o := 0x14) (by decide) (by decide)).mpr ⟨hrun, h9⟩
  exact congrArg Host.Outcome.next (if_pos hs)

theorem exec_parDloWrite (v : Word) : exec (.parDloWrite w v) s
    = .next ((s.finishPosted w).onPort w fun p => p.post v) := by
  have hs := (s.regServed_par_iff w (o := 0x12) (by decide) (by decide)).mpr ⟨hrun, h9⟩
  refine (congrArg Host.Outcome.next (if_pos hs)).trans ?_
  simp only [ParPort.advance_cleared, ParPort.post, ParPort.joined, fld_high_half]

end

/-! ### Reads of the parameter registers -/

section
variable {s : State} {w : Fin 11} (hs : s.regServed w 0x12 = true)
include hs

theorem exec_parDloRead {x : Par} {t : State} (h : (s.finishPosted w).fetchCurrent w = (x, t)) :
    exec (.parDloRead w) s = .next (t.drive (BitVec.setWidth 16 x)) := by
  refine (congrArg Host.Outcome.next (if_pos hs)).trans ?_
  simp only [h]

/-- A read of PAR_DLO at id.part drives its low half and keeps it as the snapshot. -/
theorem exec_parDloRead_idPart (hi : ((s.finishPosted w).bus.port[w]).index = 0)
    (hok : (s.finishPosted w).parCheck w 0 false = errOk) :
    exec (.parDloRead w) s = .next (((s.finishPosted w).onPort w fun p => { p with
      err := errOk, snapshot := some s.part.id }).drive (BitVec.setWidth 16 s.part.id)) := by
  have hz : ((s.finishPosted w).bus.port[w]).index.toNat = 0 := by rw [hi]; rfl
  have hf := (s.finishPosted w).fetch_idPart w hok
  rw [State.finishPosted_part, ← hz] at hf
  rw [exec_parDloRead hs (State.fetchCurrent_of_fetch hf), State.completeOp_ok, State.onPort_onPort]

/-- A read of PAR_DLO whose fetch is refused drives 0 and keeps 0 with the code; the rest is a report. -/
theorem parDloRead_refused {e : BitVec 4}
    (he : (s.finishPosted w).parCheck w ((s.finishPosted w).bus.port[w]).index.toNat false = e) (hne : e ≠ errOk) :
    Answers (.parDloRead w) s (Reports (((s.finishPosted w).onPort w fun p => { p with
      err := e, snapshot := some 0 }).drive 0)) := by
  have hf := (s.finishPosted w).fetch_refused w _ (he.trans_ne hne)
  rw [he] at hf
  have hr := (((s.finishPosted w).completeOp_reports w ((s.finishPosted w).bus.port[w]).index.toNat e).onPort w
    fun p => { p with snapshot := some 0 }).drive 0
  rw [State.onPort_onPort] at hr
  exact ⟨_, exec_parDloRead hs (State.fetchCurrent_of_fetch hf), hr⟩

/-- A read of PAR_DHI drives the high half of the snapshot and moves the index on with AUTOINC. -/
theorem exec_parDhiRead {x : Par} (hx : ((s.finishPosted w).bus.port[w]).snapshot = some x) :
    exec (.parDhiRead w) s
      = .next (((s.finishPosted w).drive (BitVec.setWidth 16 (x >>> 16))).onPort w ParPort.advance) := by
  have hserved := (s.regServed_par_iff w (o := 0x14) (by decide) (by decide)).mpr
    ((s.regServed_par_iff w (by decide) (by decide)).mp hs)
  refine (congrArg Host.Outcome.next (if_pos hserved)).trans ?_
  simp only [hx]

end

/-! ### The locks and device time -/

theorem State.writeLock_with_key {s : State} {v : Word} (hs : s.hvServes = true) (hkey : v.toNat / 256 = 0xA5) :
    s.writeLock v = (s.finishPosted 0).onBus fun b => { b with lock := b.lock ||| BitVec.setWidth 8 v } := by
  simp [State.writeLock, hs, hkey]

theorem State.writeLock_without_key {s : State} {v : Word} (hs : s.hvServes = true) (hkey : v.toNat / 256 ≠ 0xA5) :
    s.writeLock v = (s.finishPosted 0).countAccess 0 0x23 true 6 := by
  simp [State.writeLock, hs, hkey]

/-- The state once the host has set device time, before the event that tells it (R208, R209). -/
def State.timeTaken (s : State) (lo : Par) : State :=
  (s.onAo fun a => { a with
    time := BitVec.ofNat 48 (s.bus.timeStage.toNat * 2 ^ 32 + lo.toNat), timeValid := true, timeSource := 1
    slewLeft := 0, slewHold := false }).onBus fun b => { b with timeStage := 0 }

theorem State.hostTime_reports (s : State) (lo : Par) : Reports (s.timeTaken lo) (s.hostTime lo) :=
  State.raise0_reports _ _ _ _

/-- The staged upper part and the lower one fit device time. -/
theorem State.timeTaken_time (s : State) (lo : Par) :
    (s.timeTaken lo).ao.time.toNat = s.bus.timeStage.toNat * 2 ^ 32 + lo.toNat := by
  have hfit : s.bus.timeStage.toNat * 2 ^ 32 + lo.toNat < 2 ^ 48 := by omega
  exact (BitVec.toNat_ofNat _ _).trans (Nat.mod_eq_of_lt hfit)

/-- A write of sys.time_set_lo that is taken sets device time; the rest is a report. -/
theorem timeSet_takes {s u : State} {v x : Par} {r : ParRow} (h : Takes s 0 0x13 v r u x) :
    Answers (.timeSet v) s (Reports (wrote 0 0x13 errOk (u.timeTaken x))) := by
  have hw := h.own (t := u.hostTime x) (e := errOk) rfl (by decide)
  exact ⟨_, congrArg Host.Outcome.next hw, (u.hostTime_reports x).onPort 0 _⟩

end Machine

/-- Settles O15: every access first completes the posted operation; from there a write changes the window's parameter
registers alone, and a read is a fetch with its completion. That id.part reads the part of the state before rests on
`finishPosted_fixed`: no parameter write changes the part. -/
theorem parameterRegisters : Obligations.ParameterRegisters := by
  unfold Obligations.ParameterRegisters
  constructor
  · intro s w v hrun h9
    refine ⟨State.finishPosted_of_idle, exec_parIndexWrite hrun h9 v, exec_parDhiWrite hrun h9 v,
      _, exec_parDloWrite hrun h9 v, ?_⟩
    have hp := (s.finishPosted w).onPort_port w fun p => p.post v
    exact ⟨congrArg ParPort.posted hp, congrArg ParPort.index hp, congrArg ParPort.staged hp,
      congrArg ParPort.snapshot hp, State.onPort_eq_of_port _ _ _⟩
  · intro s w hs
    refine ⟨exec_parDloRead_idPart hs, fun hne => ?_, fun x hx => ?_⟩
    · obtain ⟨t, ht, hr⟩ := parDloRead_refused hs rfl hne
      have herr := congrArg (fun q => (q[w]).err) hr.port
      rw [State.drive_port, State.onPort_port] at herr
      exact ⟨t, ht, hr.d, herr, by rwa [herr]⟩
    · refine ⟨_, exec_parDhiRead hs hx, rfl, ?_, State.onPort_eq_of_port _ _ _⟩
      rw [State.onPort_port, ParPort.advance_index, State.drive_port]
      split
      · rfl
      · exact (BitVec.add_zero _).symm

/-- Settles O18: HV_LOCK and VW_TIME_LO by their two branches, sys.time_set_lo as a write with a command of its own
whose item answers OK. -/
theorem locksAndDeviceTime : Obligations.LocksAndDeviceTime := by
  unfold Obligations.LocksAndDeviceTime
  refine ⟨?_, ?_, ?_, ?_⟩
  · intro s v hs hkey
    exact congrArg Host.Outcome.next (State.writeLock_with_key hs hkey)
  · intro s v hs hkey
    exact congrArg Host.Outcome.next (State.writeLock_without_key hs hkey)
  · intro s w hs
    exact congrArg Host.Outcome.next (if_pos hs)
  · intro s u v x r h
    obtain ⟨t, ht, hr⟩ := timeSet_takes h
    refine ⟨t, ht, ?_, hr.ao_timeValid, hr.ao_timeSource, ?_⟩
    · rw [hr.ao_time]
      exact u.timeTaken_time x
    · rw [hr.ao_time]
      exact hr

end Sys2Proof
end

section
/-! PROOFS. The event queues and their registers (04_tenancy, "Events"): statements O22 and O23. -/

namespace Sys2Proof

open Machine

namespace Machine

/-! ### An event arrives at a queue -/

/-- The pending bit of an event's class (R248). -/
def Event.classBit (e : Event) : Word := BitVec.ofNat 16 (2 ^ eventBit e.code)

/-- Below 63 entries the event itself is stored (R245). -/
theorem EventPort.push_of_lt {p : EventPort} (e : Event) (h : p.queue.length < 63) :
    p.push e = { p with queue := p.queue ++ [e], pend := p.pend ||| e.classBit } := by
  simp [EventPort.push, Event.classBit, h]

/-- At 63 entries an EVQ_OVERFLOW takes the event's place (R246). -/
theorem EventPort.push_of_eq {p : EventPort} (e : Event) (h : p.queue.length = 63) :
    p.push e = { p with
      queue := p.queue ++ [⟨0x01, overflowBit e.code, 1⟩], pend := p.pend ||| e.classBit ||| 0x4000 } := by
  simp [EventPort.push, Event.classBit, h]

/-- The newest entry of a full queue once it has counted the loss of an event (R247). -/
def Event.countLoss (o e : Event) : Event :=
  { o with aux := o.aux ||| overflowBit e.code, payload := satInc o.payload }

/-- At 64 entries the newest one counts the event (R247). -/
theorem EventPort.push_of_full {p : EventPort} (e : Event) {l : List Event} {o : Event} (h : 64 ≤ p.queue.length)
    (hq : p.queue = l ++ [o]) :
    p.push e = { p with queue := l ++ [o.countLoss e], pend := p.pend ||| e.classBit } := by
  have hlt : ¬ p.queue.length < 63 := by omega
  have hne : p.queue.length ≠ 63 := by omega
  simp only [EventPort.push, if_neg hlt, if_neg hne]
  simp only [hq, List.getLast?_concat, List.dropLast_concat, Event.classBit, Event.countLoss]

/-- What an arriving event leaves of the registers, whatever the queue holds: it sets its class bit, and OVERFLOW where
it makes the EVQ_OVERFLOW entry (R248, R251). -/
theorem EventPort.push_frame (p : EventPort) (e : Event) :
    p.push e = { p with
      queue := (p.push e).queue
      pend := p.pend ||| e.classBit ||| if p.queue.length = 63 then 0x4000 else 0 } := by
  rcases Nat.lt_trichotomy p.queue.length 63 with hlt | heq | hgt
  · simp [EventPort.push_of_lt e hlt, hlt.ne]
  · simp [EventPort.push_of_eq e heq, heq]
  · obtain ⟨l, o, hq⟩ := p.queue.eq_nil_or_concat'.resolve_left (List.ne_nil_of_length_pos (by omega))
    simp [EventPort.push_of_full e hgt hq, hgt.ne']

theorem EventPort.push_pend (p : EventPort) (e : Event) :
    (p.push e).pend = p.pend ||| e.classBit ||| if p.queue.length = 63 then 0x4000 else 0 := by rw [p.push_frame e]

@[simp] theorem EventPort.push_mask (p : EventPort) (e : Event) : (p.push e).mask = p.mask := by rw [p.push_frame e]
@[simp] theorem EventPort.push_data (p : EventPort) (e : Event) : (p.push e).data = p.data := by rw [p.push_frame e]

/-! ### The event registers of a window -/

/-- A change of the pending bits of a window is told by their value after it. -/
theorem State.onEvq_eq_of_pend (s : State) (w : Fin 9) (f : Word → Word) :
    (s.onEvq w fun p => { p with pend := f p.pend })
      = s.onEvq w fun p => { p with pend := ((s.onEvq w fun p => { p with pend := f p.pend }).bus.evq[w]).pend } := by
  simp [State.onEvq, State.onBus, vmod]

@[simp] theorem State.onEvq_evq (s : State) (w : Fin 9) (f : EventPort → EventPort) :
    ((s.onEvq w f).bus.evq[w]) = f (s.bus.evq[w]) := by
  simp [vmod]

section
variable {s : State} {w : Fin 9} (hs : s.evqServes w = true)
include hs

theorem exec_evqPop_of_cons {e : Event} {l : List Event} (hq : (s.bus.evq[w]).queue = e :: l) :
    exec (.evqPop w) s = .next ((s.onEvq w fun p => { p with queue := l, data := e.payload }).drive e.high) := by
  refine (congrArg Host.Outcome.next (if_neg (by simp [hs]))).trans ?_
  rw [hq]

theorem exec_evqPop_of_nil (hq : (s.bus.evq[w]).queue = []) :
    exec (.evqPop w) s = .next ((s.onEvq w fun p => { p with data := 0 }).drive 0) := by
  refine (congrArg Host.Outcome.next (if_neg (by simp [hs]))).trans ?_
  rw [hq]

theorem exec_irqPendWrite (v : Word) : exec (.irqPendWrite w v) s
    = .next (s.onEvq w fun p => { p with pend := p.pend &&& ~~~(v &&& pendBits) }) :=
  congrArg Host.Outcome.next (if_pos hs)

end

/-- A pending bit stays unless 1 is written to it and it is one of those that a write clears. -/
theorem getLsbD_cleared (x v m : Word) {n : Nat} (hn : n < 16) :
    (x &&& ~~~(v &&& m)).getLsbD n = (x.getLsbD n && !(v.getLsbD n && m.getLsbD n)) := by
  simp [hn]

end Machine

/-- Settles O22: the three lengths of the queue are the three branches of `push`, and `push_frame` holds in each. -/
theorem eventsQueueAndOverflow : Obligations.EventsQueueAndOverflow := by
  unfold Obligations.EventsQueueAndOverflow
  intro p e
  refine ⟨p.push_pend e, fun hlt => ?_, fun heq => ?_, fun l o hfull hq => ?_, p.push_mask e, p.push_data e⟩
  · exact congrArg EventPort.queue (EventPort.push_of_lt e hlt)
  · exact congrArg EventPort.queue (EventPort.push_of_eq e heq)
  · exact congrArg EventPort.queue (EventPort.push_of_full e hfull hq)

/-- Settles O23: a pop by the two forms of the queue, a write of IRQ_PEND bit by bit. -/
theorem eventRegisters : Obligations.EventRegisters := by
  unfold Obligations.EventRegisters
  intro s w hs
  refine ⟨fun e l hq => exec_evqPop_of_cons hs hq, fun hq => exec_evqPop_of_nil hs hq, fun v => ?_⟩
  refine ⟨_, exec_irqPendWrite hs v, fun n hn => ?_, s.onEvq_eq_of_pend w fun x => x &&& ~~~(v &&& pendBits)⟩
  rw [State.onEvq_evq]
  exact getLsbD_cleared _ _ pendBits hn

end Sys2Proof
end

section
/-! PROOFS. Entropy inputs, expanders and the random registers (15_grit): statement O48. -/

namespace Sys2Proof

open Machine

namespace Machine

/-! ### Entropy inputs (R857, R858, R862) -/

theorem exec_entropyInputRelease {s : State} {e : List Bool × Nat} {l : List (List Bool × Nat)}
    (hc : s.grit.complete = e :: l) (hr : s.grit.released = none) :
    exec .entropyInputRelease s = .next (s.onGrit fun g => { g with complete := l, released := some e }) := by
  refine congrArg Host.Outcome.next ?_
  rw [hc, hr]

section
variable {s : State} {l : List Bool} {n : Nat} {i : Fin 10}
variable (hr : s.grit.released = some (l, n)) (hi : i.val = n % 10)
include hr hi

/-- The input instantiates an expander that is not READY and may be (R865, R882). -/
theorem exec_reseedSlot_of_not_ready (hd : (s.grit.inst[i]).ready = false) (hv : s.instServed i = true) :
    exec .reseedSlot s = .next ((s.onGrit fun g => { g with
      released := none, applied := g.applied + 1
      inst := vmod g.inst i (Drbg.instantiate (bitsToBytes l) (bytesBE s.ao.instCount.toNat 8)
        (bytesBE i.val 2 ++ bytesBE s.ao.time.toNat 6)) }).onAo fun a => { a with instCount := a.instCount + 1 }) := by
  obtain rfl : i = ⟨n % 10, Nat.mod_lt n (by decide)⟩ := Fin.ext hi
  refine congrArg Host.Outcome.next ?_
  rw [hr]
  exact if_pos ⟨by simpa using hd, hv⟩

/-- The input reseeds an expander with 1,024 requests since its last one (R862). -/
theorem exec_reseedSlot_of_due (hd : (s.grit.inst[i]).ready = true) (hc : 1024 ≤ (s.grit.inst[i]).c) :
    exec .reseedSlot s = .next (s.onGrit fun g => { g with
      released := none, applied := g.applied + 1, inst := vmod g.inst i (Drbg.reseed (bitsToBytes l)) }) := by
  obtain rfl : i = ⟨n % 10, Nat.mod_lt n (by decide)⟩ := Fin.ext hi
  refine congrArg Host.Outcome.next ?_
  rw [hr]
  exact (if_neg fun h => absurd hd (by simpa using h.1)).trans (if_pos ⟨hd, hc⟩)

/-- The input is discarded where its expander needs none (R862). -/
theorem exec_reseedSlot_of_not_due (hd : (s.grit.inst[i]).ready = true) (hc : (s.grit.inst[i]).c < 1024) :
    exec .reseedSlot s
      = .next (s.onGrit fun g => { g with released := none, discarded := g.discarded + 1 }) := by
  obtain rfl : i = ⟨n % 10, Nat.mod_lt n (by decide)⟩ := Fin.ext hi
  refine congrArg Host.Outcome.next ?_
  rw [hr]
  exact (if_neg fun h => absurd hd (by simpa using h.1)).trans (if_neg fun h => absurd h.2 (by omega))

end

/-! ### Requests (R861, R864, R867) -/

@[simp] theorem Grit.deliver_inst (g : Grit) (i : Fin 10) (l : List Par) : (g.deliver i l).inst = g.inst := by
  unfold Grit.deliver
  split <;> rfl

/-- Instance `i` moves on to `p.2`, and the words `p.1` enter its buffer. -/
def Grit.serve (g : Grit) (i : Fin 10) (p : List Par × Drbg) : Grit :=
  ({ g with inst := g.inst.set i p.2 } : Grit).deliver i p.1

@[simp] theorem Grit.serve_inst_self (g : Grit) (i : Fin 10) (p : List Par × Drbg) : (g.serve i p).inst[i] = p.2 := by
  simp [Grit.serve]

theorem Grit.serve_inst_other (g : Grit) {i k : Fin 10} (p : List Par × Drbg) (hk : k ≠ i) :
    (g.serve i p).inst[k] = g.inst[k] := by
  have hne : i.val ≠ k.val := fun e => hk (Fin.ext e.symm)
  simp [Grit.serve, hne]

/-- A request is served; only the stall of its expander (R864) can be reported with it. -/
theorem exec_generateRequest {s : State} {i : Fin 10} (hd : (s.grit.inst[i]).ready = true)
    (hc : (s.grit.inst[i]).c < 65536) (hb : s.grit.blocked = false) (hw : s.grit.waiting i ≤ 4) :
    Answers (.generateRequest i) s (Reports (s.onGrit fun g => g.serve i (s.grit.inst[i]).generate)) := by
  refine ⟨_, congrArg Host.Outcome.next (if_pos ⟨hd, hc, by simp [hb], hw⟩), ?_⟩
  dsimp only
  generalize (s.grit.inst[i]).generate = p
  split
  · split
    · exact State.raiseVi_reports _ _ _ _ _
    · exact State.raise0_reports _ _ _ _
  · exact Reports.refl _

/-! ### Random registers (R868, R869, R876) -/

/-- Window `w` has drawn word `x` and keeps the words `l`: the high half is latched. -/
def State.drawn (s : State) (w : Fin 9) (x : Par) (l : List Par) : State :=
  s.onGrit fun g => { g with rand := vmod g.rand w fun _ =>
    { words := l, latch := BitVec.setWidth 16 (x >>> 16), valid := true } }

section
variable {s : State} {w : Fin 9} (hs : s.randServes w = true)
include hs

/-- The low half of a word is read; behind window 0 the raw FIFO then moves on (R876). -/
theorem exec_randLoRead_of_cons {x : Par} {l : List Par} (hw : (s.grit.rand[w]).words = x :: l) :
    exec (.randLoRead w) s = .next ((if w = 0 then (s.drawn w x l).onGrit Grit.rawMove
      else s.drawn w x l).drive (BitVec.setWidth 16 x)) := by
  refine (congrArg Host.Outcome.next (if_neg (by simp [hs]))).trans ?_
  rw [hw]
  rfl

theorem exec_randLoRead_of_nil (hw : (s.grit.rand[w]).words = []) :
    exec (.randLoRead w) s = .next (s.randEmpty w) := by
  refine (congrArg Host.Outcome.next (if_neg (by simp [hs]))).trans ?_
  rw [hw]

theorem exec_randHiRead : exec (.randHiRead w) s = .next ((s.drive (s.grit.rand[w]).latch).onGrit fun g =>
    { g with rand := vmod g.rand w fun r => { r with latch := 0 } }) :=
  congrArg Host.Outcome.next (if_neg (by simp [hs]))

end

end Machine

/-- Settles O48: a reseed slot by the state of its expander, a request through `Grit.serve`, and a read of a window by
what its buffer holds. -/
theorem gritGenerates : Obligations.GritGenerates := by
  unfold Obligations.GritGenerates
  intro s
  refine ⟨fun e l hc hr => exec_entropyInputRelease hc hr, fun l n i hr hi => ⟨?_, ?_, ?_⟩, fun i hd hc hb hw => ?_,
    fun w x l hs h0 hw => ?_, fun x l hs hw => ?_, fun w hs hw => exec_randLoRead_of_nil hs hw,
    fun w hs => exec_randHiRead hs⟩
  · exact exec_reseedSlot_of_not_ready hr hi
  · exact exec_reseedSlot_of_due hr hi
  · exact exec_reseedSlot_of_not_due hr hi
  · obtain ⟨t, ht, hrep⟩ := exec_generateRequest hd hc hb hw
    have hg : t.grit = s.grit.serve i _ := hrep.grit
    refine ⟨t, ht, ?_, fun k hk => ?_, hrep⟩
    · rw [hg, Grit.serve_inst_self]
    · rw [hg, Grit.serve_inst_other _ _ hk]
  · rw [exec_randLoRead_of_cons hs hw, if_neg h0]
    rfl
  · rw [exec_randLoRead_of_cons hs hw, if_pos rfl]
    rfl

end Sys2Proof
end

section
/-! PROOFS. The registers of the serial ports in a VI's window (16_serial): statement O50. -/

namespace Sys2Proof

open Machine

namespace Machine

/-! ### A change of one port -/

/-- What a change makes of a port is all that counts. -/
theorem State.onSer_congr {s : State} {p : Fin 3} {f g : Serial → Serial} (h : f s.ser.port[p] = g s.ser.port[p]) :
    s.onSer p f = s.onSer p g := by
  simp only [State.onSer, State.onSerial, vmod, h]

@[simp] theorem State.onSer_id (s : State) (p : Fin 3) : s.onSer p id = s := by
  simp [State.onSer, State.onSerial, vmod]

/-- Two changes of one port are one. -/
theorem State.onSer_onSer (s : State) (p : Fin 3) (f g : Serial → Serial) :
    (s.onSer p f).onSer p g = s.onSer p fun q => g (f q) := by
  simp [State.onSer, State.onSerial]

theorem State.onSer_port (s : State) (p : Fin 3) (f : Serial → Serial) :
    (s.onSer p f).ser.port[p] = f s.ser.port[p] := by
  simp

@[simp] theorem State.onSer_serCfg (s : State) (p k : Fin 3) (f : Serial → Serial) :
    (s.onSer p f).serCfg k = s.serCfg k := rfl

@[simp] theorem State.onSer_serRuns (s : State) (p : Fin 3) (f : Serial → Serial) :
    (s.onSer p f).serRuns = s.serRuns := rfl

/-! ### What a port reports -/

theorem State.raiseSer_reports (s : State) (p : Fin 3) (code aux : Byte) (payload : Word) :
    Reports s (s.raiseSer p code aux payload) := by
  unfold State.raiseSer
  split
  · exact State.raiseVi_reports s _ code aux payload
  · exact Reports.refl s

/-- A transmit write lost is counted (R908); but for the count, only SER_ERROR can be reported (R911). -/
theorem State.serCount_txLost_reports (s : State) (p : Fin 3) :
    Reports (s.onSer p fun q => { q with errTxLost := satInc q.errTxLost }) (s.serCount p 4) := by
  unfold State.serCount
  dsimp only
  split
  · exact State.raiseSer_reports _ _ _ _ _
  · exact Reports.refl _

/-! ### The owner of a port -/

@[simp] theorem viOf_viWin (v : Fin 8) : viOf (viWin v) = some v := by
  simp [viOf, viWin]

theorem State.serOwns_iff {s : State} {v : Fin 8} {p : Fin 3} :
    s.serOwns v p = true ↔ s.winServes v = true ∧ s.ser.ownerOf p = some v := by
  simp [State.serOwns]

theorem Pwr.islandsRun_mgRunning {p : Pwr} (h : p.islandsRun = true) : p.mgRunning = true :=
  (Bool.and_eq_true_iff.mp h).1

theorem Pwr.islandsRun_mode_ne_hold {p : Pwr} (h : p.islandsRun = true) : p.mode ≠ .hold := by
  intro hm
  simp [Pwr.islandsRun, hm] at h

theorem State.serOwns_mgRunning {s : State} {v : Fin 8} {p : Fin 3} (h : s.serOwns v p = true) :
    s.pwr.mgRunning = true :=
  Pwr.islandsRun_mgRunning (Bool.and_eq_true_iff.mp (State.serOwns_iff.mp h).1).1

theorem State.serOwns_mode_ne_hold {s : State} {v : Fin 8} {p : Fin 3} (h : s.serOwns v p = true) :
    s.pwr.mode ≠ .hold :=
  Pwr.islandsRun_mode_ne_hold (Bool.and_eq_true_iff.mp (State.serOwns_iff.mp h).1).1

/-! ### The transmitter goes on (R893, R901) -/

/-- What is in progress is completed first. -/
theorem State.serNext_of_sending {s : State} {p : Fin 3} (h : (s.ser.port[p]).sending ≠ none) : s.serNext p = s := by
  obtain ⟨c, hc⟩ := Option.ne_none_iff_exists'.mp h
  unfold State.serNext
  dsimp only
  split
  · rfl
  · refine (State.onSer_congr ?_).trans (s.onSer_id p)
    simp only [hc, id]

/-- With no break asked for, an idle transmitter takes the oldest character. -/
theorem State.serNext_of_idle {s : State} {p : Fin 3} {b : Byte} {l : List Byte} (hr : s.serRuns = true)
    (hm : s.pwr.mode ≠ .hold) (hen : bit (s.serCfg p) 16 = true) (hs : (s.ser.port[p]).sending = none)
    (hb : (s.ser.port[p]).breakReq = none) (ht : (s.ser.port[p]).tx = b :: l) :
    s.serNext p = s.onSer p fun q => { q with
      tx := l
      sending := some (false, b.toNat % (if bit (s.serCfg p) 17 then 128 else 256))
      txCfg := s.serCfg p } := by
  refine (if_neg (by simp [hr, hm, hen])).trans (State.onSer_congr ?_)
  simp only [hs, hb, ht]

/-! ### The data register (R889, R899, R907) -/

/-- A window that is not served reads a port as empty, and as 0 in HOLD. -/
theorem exec_serDataRead_of_not_served {s : State} {v : Fin 8} {p : Fin 3} (hg : s.pwr.mgRunning = true)
    (hw : s.winServes v = false) (hp : p ≠ 0) :
    exec (.serDataRead (viWin v) p) s = .next (s.drive (if s.pwr.mode = .hold then 0 else 0xF000)) := by
  refine congrArg Host.Outcome.next ?_
  have hp : p.val ≠ 0 := Fin.val_ne_of_ne hp
  simp only [viOf_viWin, hg, hw, hp]
  rfl

section
variable {s : State} {v : Fin 8} {p : Fin 3} (ho : s.serOwns v p = true)
include ho

/-- The owner's read removes and returns the oldest entry, or tells that there is none (R907). -/
theorem exec_serDataRead_of_owns (hp : p ≠ 0) :
    (∀ (e : Word) (l : List Word), (s.ser.port[p]).rx = e :: l → exec (.serDataRead (viWin v) p) s
      = .next ((s.onSer p fun q => { q with rx := l, rxArmed := true }).drive e))
    ∧ ((s.ser.port[p]).rx = [] → exec (.serDataRead (viWin v) p) s
      = .next ((s.onSer p fun q => { q with rxArmed := true }).drive 0xF000)) := by
  obtain ⟨hw, hv⟩ := State.serOwns_iff.mp ho
  have hg := State.serOwns_mgRunning ho
  have hp : p.val ≠ 0 := Fin.val_ne_of_ne hp
  refine ⟨fun e l hq => congrArg Host.Outcome.next ?_, fun hq => congrArg Host.Outcome.next ?_⟩
  all_goals
    simp only [viOf_viWin, hp, hg, hw, hv, hq, Bool.not_true, Bool.false_eq_true, or_self, ne_eq, not_true_eq_false,
      if_false]

/-- With room, a character goes behind those that wait, and the transmitter may go on with it. -/
theorem exec_serDataWrite_of_room {x : Word} (hl : (s.ser.port[p]).tx.length < 64) :
    exec (.serDataWrite (viWin v) p x) s
      = .next ((s.onSer p fun q => { q with tx := q.tx ++ [BitVec.setWidth 8 x] }).serNext p) := by
  refine congrArg Host.Outcome.next ?_
  simp only [viOf_viWin, State.serWrite, ho, hl.not_ge, Bool.not_true, Bool.false_eq_true, if_false]

theorem exec_serDataWrite_of_full {x : Word} (hl : 64 ≤ (s.ser.port[p]).tx.length) :
    exec (.serDataWrite (viWin v) p x) s = .next (s.serCount p 4) := by
  refine congrArg Host.Outcome.next ?_
  simp only [viOf_viWin, State.serWrite, ho, hl, Bool.not_true, Bool.false_eq_true, if_false, if_true]

/-- Behind what is in progress, a character waits. -/
theorem exec_serDataWrite_of_sending {x : Word} (hl : (s.ser.port[p]).tx.length < 64)
    (hs : (s.ser.port[p]).sending ≠ none) :
    exec (.serDataWrite (viWin v) p x) s
      = .next (s.onSer p fun q => { q with tx := q.tx ++ [BitVec.setWidth 8 x] }) := by
  rw [exec_serDataWrite_of_room ho hl, State.serNext_of_sending]
  rwa [State.onSer_port]

/-- An idle port with nothing waiting sends at once: the character passes through the FIFO. -/
theorem exec_serDataWrite_of_idle {x : Word} (ht : (s.ser.port[p]).tx = []) (hs : (s.ser.port[p]).sending = none)
    (hb : (s.ser.port[p]).breakReq = none) (hr : s.serRuns = true) (hen : bit (s.serCfg p) 16 = true) :
    exec (.serDataWrite (viWin v) p x) s = .next (s.onSer p fun q => { q with
      sending := some (false, (BitVec.setWidth 8 x : Byte).toNat % (if bit (s.serCfg p) 17 then 128 else 256))
      txCfg := s.serCfg p }) := by
  rw [exec_serDataWrite_of_room ho (by rw [ht]; decide)]
  refine congrArg Host.Outcome.next (Eq.trans (State.serNext_of_idle (b := BitVec.setWidth 8 x) (l := [])
    (by rwa [State.onSer_serRuns]) (State.serOwns_mode_ne_hold ho) (by rwa [State.onSer_serCfg]) ?_ ?_ ?_) ?_)
  · rwa [State.onSer_port]
  · rwa [State.onSer_port]
  · rw [State.onSer_port, ht, List.nil_append]
  · rw [State.onSer_onSer]
    refine State.onSer_congr ?_
    simp only [State.onSer_serCfg, ht]
    rfl

end

/-! ### The control register (R889, R901) -/

/-- What a write of VW_SER_CTRL makes of its port before the transmitter goes on. -/
def Serial.ctrl (q : Serial) (x : Word) : Serial :=
  { q with
    rx := if x.getLsbD 14 then [] else q.rx
    tx := if x.getLsbD 15 then [] else q.tx
    breakReq := if x.getLsbD 13 then some (x.toNat % 4096) else q.breakReq }

/-- Bit 12 selects U1 or U2. -/
theorem ctrlPort_eq {p : Fin 3} (hp : p ≠ 0) {x : Word} (hx : x.getLsbD 12 = decide (p = 2)) :
    (if x.getLsbD 12 then 2 else 1 : Fin 3) = p := by
  rw [hx]
  clear hx
  revert p
  decide

/-- While something is in progress, a write of VW_SER_CTRL changes the port and starts nothing. -/
theorem State.serCtrl_of_sending {s : State} {v : Fin 8} {p : Fin 3} (ho : s.serOwns v p = true) (hp : p ≠ 0)
    {x : Word} (hx : x.getLsbD 12 = decide (p = 2)) (hs : (s.ser.port[p]).sending ≠ none) :
    s.serCtrl v x = s.onSer p fun q => q.ctrl x := by
  have hn : (s.onSer p fun q => q.ctrl x).serNext p = s.onSer p fun q => q.ctrl x :=
    State.serNext_of_sending (by rwa [State.onSer_port])
  refine Eq.trans ?_ hn
  unfold State.serCtrl
  rw [ctrlPort_eq hp hx]
  exact if_neg (by simp [ho])

theorem Serial.ctrl_sendBreak (q : Serial) {x : Word} (h14 : x.getLsbD 14 = false) (h15 : x.getLsbD 15 = false) :
    q.ctrl (x ||| 0x2000) = { q with breakReq := some (x.toNat % 4096) } := by
  have hlen : (x.toNat ||| 0x2000) % 4096 = x.toNat % 4096 := (Nat.or_mod_two_pow (n := 12)).trans (Nat.or_zero _)
  rw [BitVec.getLsbD_eq_getElem (by decide)] at h14 h15
  simp [Serial.ctrl, h14, h15, hlen]

theorem Serial.ctrl_flushRx (q : Serial) {x : Word} (h13 : x.getLsbD 13 = false) (h15 : x.getLsbD 15 = false) :
    q.ctrl (x ||| 0x4000) = { q with rx := [] } := by
  rw [BitVec.getLsbD_eq_getElem (by decide)] at h13 h15
  simp [Serial.ctrl, h13, h15]

theorem Serial.ctrl_flushTx (q : Serial) {x : Word} (h13 : x.getLsbD 13 = false) (h14 : x.getLsbD 14 = false) :
    q.ctrl (x ||| 0x8000) = { q with tx := [] } := by
  rw [BitVec.getLsbD_eq_getElem (by decide)] at h13 h14
  simp [Serial.ctrl, h13, h14]

/-- A write of VW_SER_CTRL through a window with the bits `m` set, where `m` leaves the selection of the port. -/
theorem State.serCtrlWin_of_sending {s : State} {v : Fin 8} {p : Fin 3} (ho : s.serOwns v p = true) (hp : p ≠ 0)
    {x : Word} (m : Word) (hm : m.getLsbD 12 = false) (hx : x.getLsbD 12 = decide (p = 2))
    (hs : (s.ser.port[p]).sending ≠ none) :
    s.serCtrlWin (viWin v) (x ||| m) = s.onSer p fun q => q.ctrl (x ||| m) := by
  simp only [State.serCtrlWin, viOf_viWin]
  exact State.serCtrl_of_sending ho hp (by rw [BitVec.getLsbD_or, hx, hm, Bool.or_false]) hs

end Machine

/-- Settles O50: the data register by what the FIFO holds and whether the transmitter is idle, the control register
through `Serial.ctrl`. -/
theorem serialRegisters : Obligations.SerialRegisters := by
  unfold Obligations.SerialRegisters
  refine ⟨fun s v p hg hw hp => exec_serDataRead_of_not_served hg hw hp, fun s v p ho hp => ?_⟩
  obtain ⟨hcons, hnil⟩ := exec_serDataRead_of_owns ho hp
  refine ⟨fun x hl hs => exec_serDataWrite_of_sending ho hl hs,
    fun x ht hs hb hr hen => exec_serDataWrite_of_idle ho ht hs hb hr hen,
    fun x hl => ⟨_, exec_serDataWrite_of_full ho hl, s.serCount_txLost_reports p⟩,
    hcons, hnil, fun x hx hs => ⟨fun h14 h15 => ?_, fun h13 h15 => ?_, fun h13 h14 => ?_⟩⟩
  all_goals refine congrArg Host.Outcome.next ((State.serCtrlWin_of_sending ho hp _ (by decide) hx hs).trans ?_)
  · exact State.onSer_congr (Serial.ctrl_sendBreak _ h14 h15)
  · exact State.onSer_congr (Serial.ctrl_flushRx _ h13 h15)
  · exact State.onSer_congr (Serial.ctrl_flushTx _ h13 h14)

end Sys2Proof
end

section
/-! SUPPORT. What lasts: the part, its fuses, the commands that wait and the rollback counter (00_scope R1;
18_management R1032). `fixed` above goes as far as a parameter write reaches and leaves the counter out; here every
operation on a state and every command but RB_COMMIT is followed, in the order of the model's files. Each proof splits
along the operation's own branches, and the lemmas before it close them. -/

namespace Sys2Proof.Machine

/-- What no command but RB_COMMIT changes. -/
def State.lasting (s : State) : (Part × Fuses × List Instr) × Nat := (s.fixed, s.mgmt.rollback)

/-- What lasts of the next state, where a command answers one. -/
def lastingNext : Answer → Option ((Part × Fuses × List Instr) × Nat)
  | .next t => some t.lasting
  | _ => none

@[simp] theorem lastingNext_next (t : State) : lastingNext (.next t) = some t.lasting := (rfl)

end Sys2Proof.Machine

namespace Sys2Proof

open Machine

theorem Reports.lasting {s t : State} (h : Reports s t) : t.lasting = s.lasting := by
  rw [h]
  rfl

end Sys2Proof

namespace Sys2Proof.Machine

@[simp] theorem State.lasting_ite (c : Prop) [Decidable c] (s t : State) :
    (if c then s else t).lasting = if c then s.lasting else t.lasting := apply_ite State.lasting c s t

@[simp] theorem foldl_lasting {α : Type} {g : State → α → State} (hg : ∀ u y, (g u y).lasting = u.lasting) (l : List α)
    (s : State) : (l.foldl g s).lasting = s.lasting := by
  induction l generalizing s with
  | nil => rfl
  | cons a t ih => rw [List.foldl_cons, ih, hg]

/-! ### The parts of the state

`(rfl)` here as for `fixed`: `simp` rewrites with these, and never unfolds the new contents of a part. -/

@[simp] theorem State.onAo_lasting (s : State) (f : Ao → Ao) : (s.onAo f).lasting = s.lasting := (rfl)
@[simp] theorem State.onPwr_lasting (s : State) (f : Pwr → Pwr) : (s.onPwr f).lasting = s.lasting := (rfl)
@[simp] theorem State.onBus_lasting (s : State) (f : Bus → Bus) : (s.onBus f).lasting = s.lasting := (rfl)
@[simp] theorem State.onVi_lasting (s : State) (v : Fin 8) (f : Vi → Vi) : (s.onVi v f).lasting = s.lasting := (rfl)
@[simp] theorem State.onPort_lasting (s : State) (w : Fin 11) (f : ParPort → ParPort) :
    (s.onPort w f).lasting = s.lasting := (rfl)
@[simp] theorem State.onEvq_lasting (s : State) (w : Fin 9) (f : EventPort → EventPort) :
    (s.onEvq w f).lasting = s.lasting := (rfl)
@[simp] theorem State.onData_lasting (s : State) (v : Fin 8) (f : DataPort → DataPort) :
    (s.onData v f).lasting = s.lasting := (rfl)
@[simp] theorem State.onLoam_lasting (s : State) (f : Loam → Loam) : (s.onLoam f).lasting = s.lasting := (rfl)
@[simp] theorem State.onJob_lasting (s : State) (j : JobRef) (f : Job → Job) :
    (s.onJob j f).lasting = s.lasting := (rfl)
@[simp] theorem State.onLoamHead_lasting (s : State) (h : Fin 4) (f : LoamHead → LoamHead) :
    (s.onLoamHead h f).lasting = s.lasting := (rfl)
@[simp] theorem State.onSilt_lasting (s : State) (f : Silt → Silt) : (s.onSilt f).lasting = s.lasting := (rfl)
@[simp] theorem State.onMarl_lasting (s : State) (f : Marl → Marl) : (s.onMarl f).lasting = s.lasting := (rfl)
@[simp] theorem State.onPaper_lasting (s : State) (f : Paper → Paper) : (s.onPaper f).lasting = s.lasting := (rfl)
@[simp] theorem State.onHead_lasting (s : State) (h : Fin 4) (f : Head → Head) :
    (s.onHead h f).lasting = s.lasting := (rfl)
@[simp] theorem State.onEnergy_lasting (s : State) (h : Fin 4) (f : Energy → Energy) :
    (s.onEnergy h f).lasting = s.lasting := (rfl)
@[simp] theorem State.onRun_lasting (s : State) (h : Fin 4) (f : Option Run → Option Run) :
    (s.onRun h f).lasting = s.lasting := (rfl)
@[simp] theorem State.onAxis_lasting (s : State) (a : Fin 4) (f : Axis → Axis) :
    (s.onAxis a f).lasting = s.lasting := (rfl)
@[simp] theorem State.onCutter_lasting (s : State) (f : Cutter → Cutter) : (s.onCutter f).lasting = s.lasting := (rfl)
@[simp] theorem State.onMedia_lasting (s : State) (h : Fin 4) (f : Media → Media) :
    (s.onMedia h f).lasting = s.lasting := (rfl)
@[simp] theorem State.onLamp_lasting (s : State) (c : Fin 8) (f : Lamp → Lamp) :
    (s.onLamp c f).lasting = s.lasting := (rfl)
@[simp] theorem State.onAnalog_lasting (s : State) (f : Analog → Analog) : (s.onAnalog f).lasting = s.lasting := (rfl)
@[simp] theorem State.onConv_lasting (s : State) (x : Fin 2) (f : Converter → Converter) :
    (s.onConv x f).lasting = s.lasting := (rfl)
@[simp] theorem State.onIsland_lasting (s : State) (f : Island → Island) : (s.onIsland f).lasting = s.lasting := (rfl)
@[simp] theorem State.onLegal_lasting (s : State) (f : Legal → Legal) : (s.onLegal f).lasting = s.lasting := (rfl)
@[simp] theorem State.onGrit_lasting (s : State) (f : Grit → Grit) : (s.onGrit f).lasting = s.lasting := (rfl)
@[simp] theorem State.onSerial_lasting (s : State) (f : SerialBlock → SerialBlock) :
    (s.onSerial f).lasting = s.lasting := (rfl)
@[simp] theorem State.onSer_lasting (s : State) (p : Fin 3) (f : Serial → Serial) :
    (s.onSer p f).lasting = s.lasting := (rfl)
@[simp] theorem State.onLink_lasting (s : State) (f : Link → Link) : (s.onLink f).lasting = s.lasting := (rfl)
@[simp] theorem State.onMgmt_lasting (s : State) (f : Mgmt → Mgmt) (h : ∀ m, (f m).rollback = m.rollback) :
    (s.onMgmt f).lasting = s.lasting := by simp [State.lasting, h]
@[simp] theorem State.onSource_lasting (s : State) (x : Fin 2) (f : Source → Source) :
    (s.onSource x f).lasting = s.lasting := (rfl)
@[simp] theorem State.onIngest_lasting (s : State) (v : Fin 8) (f : Ingest → Ingest) :
    (s.onIngest v f).lasting = s.lasting := (rfl)

/-! ### Reports -/

@[simp] theorem State.logRecord_lasting (s : State) (code aux : Byte) (payload : Word) (w4 w5 : Par) :
    (s.logRecord code aux payload w4 w5).lasting = s.lasting := (State.logRecord_reports s _ _ _ _ _).lasting
@[simp] theorem State.raiseVi_lasting (s : State) (v : Fin 8) (code aux : Byte) (payload : Word) :
    (s.raiseVi v code aux payload).lasting = s.lasting := (State.raiseVi_reports s _ _ _ _).lasting
@[simp] theorem State.raiseVis_lasting (s : State) (t : State → Fin 8 → Bool) (code aux : Byte) (payload : Word) :
    (s.raiseVis t code aux payload).lasting = s.lasting := (State.raiseVis_reports s _ _ _ _).lasting
@[simp] theorem State.raise0_lasting (s : State) (code aux : Byte) (payload : Word) :
    (s.raise0 code aux payload).lasting = s.lasting := (State.raise0_reports s _ _ _).lasting
@[simp] theorem State.raiseBoth_lasting (s : State) (t : State → Fin 8 → Bool) (code aux : Byte) (payload : Word) :
    (s.raiseBoth t code aux payload).lasting = s.lasting := (State.raiseBoth_reports s _ _ _ _).lasting
@[simp] theorem State.raiseWin_lasting (s : State) (w : Fin 11) (code aux : Byte) (payload : Word) :
    (s.raiseWin w code aux payload).lasting = s.lasting := (State.raiseWin_reports s _ _ _ _).lasting
@[simp] theorem State.changeMode_lasting (s : State) (f : Pwr → Pwr) :
    (s.changeMode f).lasting = s.lasting := (State.changeMode_reports s _).lasting

/-! ### Shared operations -/

@[simp] theorem State.convDue_lasting (s : State) (x : Fin 2) (prio number : Nat) :
    (s.convDue x prio number).lasting = s.lasting := by simp [State.convDue]

@[simp] theorem State.convMade_lasting (s : State) (x : Fin 2) (prio number : Nat) :
    (s.convMade x prio number).lasting = s.lasting := by simp [State.convMade]

@[simp] theorem State.draw_lasting (s : State) : s.draw.2.lasting = s.lasting := (rfl)

@[simp] theorem State.setPar_lasting (s : State) (idx : Nat) (vi : Option (Fin 8)) (x : Par) :
    (s.setPar idx vi x).lasting = s.lasting := (rfl)

@[simp] theorem State.deviceReset_lasting (s : State) : s.deviceReset.lasting = s.lasting := (rfl)

/-! ### Frames of the link -/

@[simp] theorem State.queueFrame_lasting (s : State) (t : BitVec 4) (dst : BitVec 5) (payload : List Byte) :
    (s.queueFrame t dst payload).lasting = s.lasting := by simp [State.queueFrame]

@[simp] theorem State.sendResult_lasting (s : State) (node : Fin 16) (migId : Word)
    (code detail headTime amount : Nat) :
    (s.sendResult node migId code detail headTime amount).lasting = s.lasting := by simp [State.sendResult]

/-! ### Completion of parameter operations -/

@[simp] theorem State.completeOp_lasting (s : State) (w : Fin 11) (idx : Nat) (err : BitVec 4) :
    (s.completeOp w idx err).lasting = s.lasting := by simp [State.completeOp]

/-! ### Pages, frames, chunks and bands -/

@[simp] theorem State.freeFrame_lasting (s : State) (f : Nat) :
    (s.freeFrame f).lasting = s.lasting := by simp [State.freeFrame]

@[simp] theorem State.putFrame_lasting (s : State) (f : Nat) (x : Frame) :
    (s.putFrame f x).lasting = s.lasting := by simp [State.putFrame]

theorem clockVisit_lasting (s : State) (v : Fin 8) (l : List Nat) : (clockVisit s v l).2.lasting = s.lasting := by
  induction l generalizing s with
  | nil => rfl
  | cons f t ih =>
    unfold clockVisit
    split
    · exact ih s
    · dsimp only
      split
      · simp [ih]
      · simp

theorem State.replaceOwn_lasting (s : State) (v : Fin 8) : (s.replaceOwn v).2.lasting = s.lasting := by
  have h := clockVisit_lasting s v (s.clockOrder v ++ s.clockOrder v)
  simp only [State.replaceOwn]
  split
  next f u hu => simpa [hu] using h
  next u hu => simpa [hu] using h

theorem State.takeFrame_lasting (s : State) (v : Fin 8) (prefetch : Bool) :
    (s.takeFrame v prefetch).2.lasting = s.lasting := by
  have h := s.replaceOwn_lasting v
  simp only [State.takeFrame]
  split
  · rfl
  · split
    · rfl
    · split
      · split
        next f u hu => simpa [hu, u.replaceOwn_lasting v] using h
        next u hu => simpa [hu] using h
      · exact h

@[simp] theorem State.pinPage_lasting (s : State) (v : Fin 8) (p : Nat) (who : Fin 5) :
    (s.pinPage v p who).lasting = s.lasting := by
  unfold State.pinPage
  split <;> simp

@[simp] theorem State.unpinFrame_lasting (s : State) (f : Nat) (who : Fin 5) :
    (s.unpinFrame f who).lasting = s.lasting := by
  simp only [State.unpinFrame]
  (repeat' split) <;> simp

@[simp] theorem State.unpinWhere_lasting (s : State) (v : Fin 8) (who : Fin 5) (t : Nat → Bool) :
    (s.unpinWhere v who t).lasting = s.lasting := by
  unfold State.unpinWhere
  refine foldl_lasting (fun u e => ?_) _ _
  split <;> simp

@[simp] theorem State.writeChunk_lasting (s : State) (external : Bool) (c : Nat) (l : List Byte) :
    (s.writeChunk external c l).lasting = s.lasting := by simp [State.writeChunk]

@[simp] theorem writeChain_lasting (s : State) (external : Bool) (l : List Nat) (l' : List Byte) :
    (writeChain s external l l').lasting = s.lasting := by
  induction l generalizing s l' with
  | nil => rfl
  | cons c t ih => simp [writeChain, ih]

@[simp] theorem State.freeChunk_lasting (s : State) (external : Bool) (c : Nat) :
    (s.freeChunk external c).lasting = s.lasting := by
  unfold State.freeChunk
  (repeat' split) <;> simp

@[simp] theorem State.freeChunks_lasting (s : State) (external : Bool) (l : List Nat) :
    (s.freeChunks external l).lasting = s.lasting := by simp [State.freeChunks]

theorem State.reserveChunk_lasting (s : State) (v : Fin 8) :
    ∀ u, s.reserveChunk v = some u → u.2.lasting = s.lasting := by
  have h := s.takeFrame_lasting v false
  unfold State.reserveChunk
  split
  · dsimp only
    split <;> simp
  · split
    · split <;> simp
    · split
      next f u hu =>
        rw [hu] at h
        simpa using h
      next => simp

theorem State.reserveChunks_lasting (s : State) (v : Fin 8) (n : Nat) :
    ∀ u, s.reserveChunks v n = some u → u.2.lasting = s.lasting := by
  induction n generalizing s with
  | zero => simp [State.reserveChunks]
  | succ n ih =>
    unfold State.reserveChunks
    split
    next c s1 h1 =>
      split
      next l s2 h2 => simp [ih s1 _ h2, s.reserveChunk_lasting v _ h1]
      next => simp
    next => simp

@[simp] theorem State.dropPages_lasting (s : State) (v : Fin 8) (b : Nat) : (s.dropPages v b).lasting = s.lasting := by
  unfold State.dropPages
  refine foldl_lasting (fun u e => ?_) _ _
  split <;> simp

@[simp] theorem State.dropBand_lasting (s : State) (v : Fin 8) (b : Nat) : (s.dropBand v b).lasting = s.lasting := by
  simp only [State.dropBand]
  split <;> simp

@[simp] theorem State.dropBands_lasting (s : State) (v : Fin 8) (b n : Nat) :
    (s.dropBands v b n).lasting = s.lasting := by
  induction n generalizing s b with
  | zero => rfl
  | succ n ih => simp [State.dropBands, ih]

@[simp] theorem State.placeBand_lasting (s : State) (v : Fin 8) (b : Nat) (external : Bool) (chunks : List Nat) :
    (s.placeBand v b external chunks).lasting = s.lasting := by simp [State.placeBand]

/-! ### Accounts and the end of jobs -/

@[simp] theorem State.accrue_lasting (s : State) : s.accrue.lasting = s.lasting := by simp [State.accrue]

@[simp] theorem State.charge_lasting (s : State) (v : Fin 8) (h : Fin 4) (t : Nat) (surplus : Bool) :
    (s.charge v h t surplus).lasting = s.lasting := by simp [State.charge]

@[simp] theorem State.joinChain_lasting (s : State) (j : JobRef) (order : Nat) :
    (s.joinChain j order).lasting = s.lasting := by simp [State.joinChain]

@[simp] theorem State.breakChain_lasting (s : State) (j : JobRef) : (s.breakChain j).lasting = s.lasting := by
  simp only [State.breakChain]
  split <;> simp

@[simp] theorem State.chainOver_lasting (s : State) (h : Fin 4) : (s.chainOver h).lasting = s.lasting := by
  unfold State.chainOver
  split <;> simp

@[simp] theorem State.endGuest_lasting (s : State) (j : JobRef) (ok : Bool) (result headTime amount : Nat) :
    (s.endGuest j ok result headTime amount).lasting = s.lasting := by
  unfold State.endGuest
  split <;> simp

@[simp] theorem State.queueSpace_lasting (s : State) (v : Fin 8) : (s.queueSpace v).lasting = s.lasting := by
  unfold State.queueSpace
  split <;> simp

@[simp] theorem State.finishOne_lasting (s : State) (j : JobRef) (st : JobState) (result amount : Nat) :
    (s.finishOne j st result amount).lasting = s.lasting := by simp [State.finishOne]

@[simp] theorem State.fencesDone_lasting (s : State) (v : Fin 8) :
    (s.fencesDone v).lasting = s.lasting := by simp [State.fencesDone]

@[simp] theorem State.endJob_lasting (s : State) (j : JobRef) (st : JobState) (result amount : Nat) :
    (s.endJob j st result amount).lasting = s.lasting := by simp [State.endJob]

@[simp] theorem State.activate_lasting (s : State) (j : JobRef) :
    (s.activate j).lasting = s.lasting := by simp [State.activate]

@[simp] theorem State.dispatchJob_lasting (s : State) (j : JobRef) (surplus : Bool) :
    (s.dispatchJob j surplus).lasting = s.lasting := by
  simp only [State.dispatchJob]
  split <;> simp

@[simp] theorem State.returnJob_lasting (s : State) (j : JobRef) :
    (s.returnJob j).lasting = s.lasting := by simp [State.returnJob]

/-! ### The paper path -/

@[simp] theorem State.raiseBound_lasting (s : State) (loop : Nat) (upper : Bool) (tenant : Option (Fin 8)) :
    (s.raiseBound loop upper tenant).lasting = s.lasting := by
  unfold State.raiseBound
  split <;> simp

@[simp] theorem State.loopHeld_lasting (s : State) (loop : Nat) (lo hi newLo newHi : Bool) (tLo tHi : Option (Fin 8)) :
    (s.loopHeld loop lo hi newLo newHi tLo tHi).lasting = s.lasting := by simp [State.loopHeld]

@[simp] theorem State.loopUpdated_lasting (s : State) (loop : Nat) (lo hi : Int) (steps : List (Int × Int))
    (tLo tHi : Option (Fin 8)) :
    (s.loopUpdated loop lo hi steps tLo tHi).lasting = s.lasting := by simp [State.loopUpdated]

@[simp] theorem State.loopHeldFrozen_lasting (s : State) (loop : Nat) (lo hi : Int) (held : List Int)
    (tLo tHi : Option (Fin 8)) :
    (s.loopHeldFrozen loop lo hi held tLo tHi).lasting = s.lasting := by simp [State.loopHeldFrozen]

@[simp] theorem State.loopFree_lasting (s : State) (loop : Nat) :
    (s.loopFree loop).lasting = s.lasting := by simp [State.loopFree]

@[simp] theorem State.raiseClamp_lasting (s : State) (w : Fin 11) (ceiling head lamp : Nat) :
    (s.raiseClamp w ceiling head lamp).lasting = s.lasting := by simp [State.raiseClamp]

@[simp] theorem State.headEvent_lasting (s : State) (h : Fin 4) :
    (s.headEvent h).lasting = s.lasting := by simp [State.headEvent]

@[simp] theorem State.settleHeadOut_lasting (s : State) :
    s.settleHeadOut.lasting = s.lasting := by simp [State.settleHeadOut]

@[simp] theorem State.endStrobes_lasting (s : State) (h : Fin 4) (t : Rat) (atOnce : Bool) :
    (s.endStrobes h t atOnce).lasting = s.lasting := by simp [State.endStrobes]

@[simp] theorem State.setHead_lasting (s : State) (h : Fin 4) (st : HeadState) (cause : OutCause) :
    (s.setHead h st cause).lasting = s.lasting := by simp [State.setHead]

@[simp] theorem State.axisEvent_lasting (s : State) (a : Fin 4) :
    (s.axisEvent a).lasting = s.lasting := by simp [State.axisEvent]

@[simp] theorem State.setAxis_lasting (s : State) (a : Fin 4) (st : AxisState) :
    (s.setAxis a st).lasting = s.lasting := by simp [State.setAxis]

@[simp] theorem State.rampStop_lasting (s : State) (a : Fin 4) : (s.rampStop a).lasting = s.lasting := by
  simp only [State.rampStop]
  split <;> simp

@[simp] theorem State.hardStop_lasting (s : State) (a : Fin 4) (cause : BitVec 3) :
    (s.hardStop a cause).lasting = s.lasting := by simp [State.hardStop]

@[simp] theorem State.settleDisable_lasting (s : State) (h : Fin 4) :
    (s.settleDisable h).lasting = s.lasting := by simp [State.settleDisable]

@[simp] theorem State.endRun_lasting (s : State) (h : Fin 4) (st : JobState) (result amount : Nat) :
    (s.endRun h st result amount).lasting = s.lasting := by
  unfold State.endRun
  split <;> simp

@[simp] theorem State.stopMoves_lasting (s : State) (h : Fin 4) (r : Run) :
    (s.stopMoves h r).lasting = s.lasting := by simp [State.stopMoves]

@[simp] theorem State.withdrawPrinted_lasting (s : State) (h : Fin 4) : (s.withdrawPrinted h).lasting = s.lasting := by
  unfold State.withdrawPrinted
  split <;> simp

@[simp] theorem State.stopJobAt_lasting (s : State) (h : Fin 4) (t : Rat) (st : JobState) (result : Nat) :
    (s.stopJobAt h t st result).lasting = s.lasting := by
  simp only [State.stopJobAt]
  (repeat' split) <;> simp

@[simp] theorem State.stopJob_lasting (s : State) (h : Fin 4) (st : JobState) (result : Nat) :
    (s.stopJob h st result).lasting = s.lasting := by simp [State.stopJob]

@[simp] theorem State.headOutAt_lasting (s : State) (h : Fin 4) (t : Rat) (cause : OutCause) :
    (s.headOutAt h t cause).lasting = s.lasting := by simp [State.headOutAt]

@[simp] theorem State.headOutOf_lasting (s : State) (h : Fin 4) (cause : OutCause) :
    (s.headOutOf h cause).lasting = s.lasting := by simp [State.headOutOf]

@[simp] theorem State.failAxisJobs_lasting (s : State) (a : Fin 4) : (s.failAxisJobs a).lasting = s.lasting := by
  unfold State.failAxisJobs
  refine foldl_lasting (fun u e => ?_) _ _
  split <;> simp

@[simp] theorem State.failOwner_lasting (s : State) (o : MoveOwner) : (s.failOwner o).lasting = s.lasting := by
  unfold State.failOwner
  split <;> simp

@[simp] theorem State.limitEvent_lasting (s : State) (a : Fin 4) (input : Fin 2) (hard : Bool) (vi : Option (Fin 8)) :
    (s.limitEvent a input hard vi).lasting = s.lasting := by
  simp only [State.limitEvent]
  split <;> simp

@[simp] theorem State.loadDacs_lasting (s : State) (a : Fin 4) :
    (s.loadDacs a).lasting = s.lasting := by simp [State.loadDacs]

@[simp] theorem State.startMove_lasting (s : State) (a : Fin 4) (move : Move) :
    (s.startMove a move).lasting = s.lasting := by
  simp only [State.startMove]
  (repeat' split) <;> simp

@[simp] theorem State.requestMove_lasting (s : State) (a : Fin 4) (m : Move) :
    (s.requestMove a m).lasting = s.lasting := by
  simp only [State.requestMove]
  split <;> simp

@[simp] theorem State.feedTo_lasting (s : State) (h a : Fin 4) (target : Int) (o : MoveOwner) :
    (s.feedTo h a target o).lasting = s.lasting := by simp [State.feedTo]

@[simp] theorem State.setPhase_lasting (s : State) (h : Fin 4) (p : Phase) :
    (s.setPhase h p).lasting = s.lasting := by simp [State.setPhase]

@[simp] theorem State.continueTof_lasting (s : State) (h : Fin 4) : (s.continueTof h).lasting = s.lasting := by
  simp only [State.continueTof]
  (repeat' split) <;> simp

@[simp] theorem State.beginTof_lasting (s : State) (h : Fin 4) :
    (s.beginTof h).lasting = s.lasting := by simp [State.beginTof]

@[simp] theorem State.beginTail_lasting (s : State) (h : Fin 4) : (s.beginTail h).lasting = s.lasting := by
  simp only [State.beginTail]
  (repeat' split) <;> simp

@[simp] theorem State.doneRun_lasting (s : State) (h : Fin 4) : (s.doneRun h).lasting = s.lasting := by
  unfold State.doneRun
  split <;> simp

@[simp] theorem State.requestOn_lasting (s : State) (c : Fin 8) (duty : Nat) :
    (s.requestOn c duty).lasting = s.lasting := by
  unfold State.requestOn
  split <;> simp

@[simp] theorem State.beginPresent_lasting (s : State) (h : Fin 4) : (s.beginPresent h).lasting = s.lasting := by
  unfold State.beginPresent
  split <;> simp

@[simp] theorem State.afterCut_lasting (s : State) (h : Fin 4) : (s.afterCut h).lasting = s.lasting := by
  unfold State.afterCut
  split <;> simp

@[simp] theorem State.moveReached_lasting (s : State) (o : MoveOwner) : (s.moveReached o).lasting = s.lasting := by
  unfold State.moveReached
  (repeat' split) <;> simp

@[simp] theorem State.finishMove_lasting (s : State) (a : Fin 4) : (s.finishMove a).lasting = s.lasting := by
  unfold State.finishMove
  split <;> simp

@[simp] theorem State.senseAborts_lasting (s : State) : s.senseAborts.lasting = s.lasting := by simp [State.senseAborts]

/-! ### Head fetchers -/

@[simp] theorem State.raiseFault_lasting (s : State) (v : Fin 8) (p : Nat) (cls : FaultClass) :
    (s.raiseFault v p cls).lasting = s.lasting := by simp [State.raiseFault]

@[simp] theorem State.raiseHold_lasting (s : State) (h : Fin 4) (r : Run) (c : HoldCause) :
    (s.raiseHold h r c).lasting = s.lasting := by simp [State.raiseHold]

@[simp] theorem State.raiseResume_lasting (s : State) (h : Fin 4) (r : Run) (since : Nat) :
    (s.raiseResume h r since).lasting = s.lasting := by simp [State.raiseResume]

@[simp] theorem State.startHold_lasting (s : State) (h : Fin 4) (r : Run) (c : HoldCause) (page line : Nat) :
    (s.startHold h r c page line).lasting = s.lasting := by
  unfold State.startHold
  split <;> simp

@[simp] theorem State.endHold_lasting (s : State) (h : Fin 4) (r : Run) (x : Hold) :
    (s.endHold h r x).lasting = s.lasting := by simp [State.endHold]

@[simp] theorem State.startLate_lasting (s : State) (h : Fin 4) (r : Run) :
    (s.startLate h r).lasting = s.lasting := by simp [State.startLate]

@[simp] theorem State.endLate_lasting (s : State) (h : Fin 4) (r : Run) (since : Nat) :
    (s.endLate h r since).lasting = s.lasting := by simp [State.endLate]

@[simp] theorem State.startExternal_lasting (s : State) (h : Fin 4) (r : Run) :
    (s.startExternal h r).lasting = s.lasting := by simp [State.startExternal]

@[simp] theorem State.endExternal_lasting (s : State) (h : Fin 4) (r : Run) (since : Nat) :
    (s.endExternal h r since).lasting = s.lasting := by simp [State.endExternal]

@[simp] theorem State.settleHold_lasting (s : State) (h : Fin 4) : (s.settleHold h).lasting = s.lasting := by
  unfold State.settleHold
  (repeat' split) <;> simp

@[simp] theorem State.pinWindow_lasting (s : State) (h : Fin 4) (r : Run) :
    (s.pinWindow h r).lasting = s.lasting := by simp [State.pinWindow]

@[simp] theorem State.prefetch_lasting (s : State) (h : Fin 4) (r : Run) : (s.prefetch h r).lasting = s.lasting := by
  unfold State.prefetch
  dsimp only
  split
  · refine foldl_lasting (fun u k => ?_) _ _
    split
    · rfl
    · split <;> simp
  · rfl

@[simp] theorem State.refreshHead_lasting (s : State) (h : Fin 4) : (s.refreshHead h).lasting = s.lasting := by
  unfold State.refreshHead
  split <;> simp

@[simp] theorem State.refreshHeads_lasting (s : State) :
    s.refreshHeads.lasting = s.lasting := by simp [State.refreshHeads]

/-! ### Dot energy -/

@[simp] theorem State.settleEnvelope_lasting (s : State) (h : Fin 4) :
    (s.settleEnvelope h).lasting = s.lasting := by simp [State.settleEnvelope]

@[simp] theorem execModelTick_lasting (h : Fin 4) (slots : Nat) (s : State) :
    lastingNext (execModelTick h slots s) = some s.lasting := by simp [execModelTick]

@[simp] theorem execDeratingUpdate_lasting (h : Fin 4) (s : State) :
    lastingNext (execDeratingUpdate h s) = some s.lasting := by simp [execDeratingUpdate]

@[simp] theorem State.takeThermistor_lasting (s : State) (h : Fin 4) (code : BitVec 12) :
    (s.takeThermistor h code).lasting = s.lasting := by simp [State.takeThermistor]

@[simp] theorem execThermistorSample_lasting (h : Fin 4) (code : BitVec 12) (s : State) :
    lastingNext (execThermistorSample h code s) = some s.lasting := by simp [execThermistorSample]

@[simp] theorem State.judgeSupply_lasting (s : State) (h : Fin 4) (mv : Nat) :
    (s.judgeSupply h mv).lasting = s.lasting := by simp [State.judgeSupply]

@[simp] theorem execSupplySample_lasting (h : Fin 4) (code : BitVec 12) (s : State) :
    lastingNext (execSupplySample h code s) = some s.lasting := by simp [execSupplySample]

/-! ### Printing -/

@[simp] theorem State.capAdd_lasting (s : State) (h : Fin 4) (lines : Nat) (lineTime pauseTime : Rat) :
    (s.capAdd h lines lineTime pauseTime).lasting = s.lasting := by simp [State.capAdd]

@[simp] theorem State.pauseLine_lasting (s : State) (h : Fin 4) (r : Run) (period : Rat) :
    (s.pauseLine h r period).lasting = s.lasting := by simp [State.pauseLine]

@[simp] theorem State.senseLine_lasting (s : State) (h : Fin 4) (sensed : Bool) (v i : BitVec 12) (ns : Nat) :
    (s.senseLine h sensed v i ns).lasting = s.lasting := by simp [State.senseLine]

@[simp] theorem State.burnLine_lasting (s : State) (h : Fin 4) (r : Run) (p : LinePlan) (period : Rat)
    (sensed : Bool) (v i : BitVec 12) :
    (s.burnLine h r p period sensed v i).lasting = s.lasting := by
  simp only [State.burnLine]
  (repeat' split) <;> simp

@[simp] theorem State.afterLines_lasting (s : State) (h : Fin 4) (r : Run) :
    (s.afterLines h r).lasting = s.lasting := by
  simp only [State.afterLines]
  (repeat' split) <;> simp

@[simp] theorem State.grantLine_lasting (s : State) (h : Fin 4) (r : Run) (sensed : Bool) (v i : BitVec 12) :
    (s.grantLine h r sensed v i).lasting = s.lasting := by
  simp only [State.grantLine]
  (repeat' split) <;> simp

@[simp] theorem State.startPrint_lasting (s : State) (h : Fin 4) (r : Run) :
    (s.startPrint h r).lasting = s.lasting := by simp [State.startPrint]

@[simp] theorem execLineStart_lasting (h : Fin 4) (sensed : Bool) (vCode iCode : BitVec 12) (s : State) :
    lastingNext (execLineStart h sensed vCode iCode s) = some s.lasting := by
  simp only [execLineStart]
  (repeat' split) <;> simp

@[simp] theorem execPauseCheck_lasting (h : Fin 4) (sensed : Bool) (vCode iCode : BitVec 12) (s : State) :
    lastingNext (execPauseCheck h sensed vCode iCode s) = some s.lasting := by
  unfold execPauseCheck
  split <;> simp

@[simp] theorem execLineFetchDone_lasting (h : Fin 4) (s : State) :
    lastingNext (execLineFetchDone h s) = some s.lasting := by
  simp only [execLineFetchDone]
  (repeat' split) <;> simp

/-! ### Head ports -/

@[simp] theorem State.enableHead_lasting (s : State) (h : Fin 4) : (s.enableHead h).lasting = s.lasting := by
  simp only [State.enableHead]
  (repeat' split) <;> simp

@[simp] theorem State.disableHead_lasting (s : State) (h : Fin 4) : (s.disableHead h).lasting = s.lasting := by
  unfold State.disableHead
  split <;> simp

@[simp] theorem execHotplug_lasting (h : Fin 4) (s : State) :
    lastingNext (execHotplug h s) = some s.lasting := by simp [execHotplug]

@[simp] theorem execPresenceLoss_lasting (h : Fin 4) (s : State) :
    lastingNext (execPresenceLoss h s) = some s.lasting := by
  unfold execPresenceLoss
  split <;> simp

@[simp] theorem execOvercurrentTrip_lasting (h : Fin 4) (s : State) :
    lastingNext (execOvercurrentTrip h s) = some s.lasting := by
  unfold execOvercurrentTrip
  split <;> simp

@[simp] theorem execPoweringCheck_lasting (h : Fin 4) (vCode tCode : BitVec 12) (s : State) :
    lastingNext (execPoweringCheck h vCode tCode s) = some s.lasting := by simp [execPoweringCheck]

@[simp] theorem execAutoRetry_lasting (h : Fin 4) (s : State) :
    lastingNext (execAutoRetry h s) = some s.lasting := by simp [execAutoRetry]

@[simp] theorem execScanStart_lasting (h : Fin 4) (iSum : BitVec 17) (s : State) :
    lastingNext (execScanStart h iSum s) = some s.lasting := by
  simp only [execScanStart]
  (repeat' split) <;> simp

@[simp] theorem State.scanComplete_lasting (s : State) (h : Fin 4) :
    (s.scanComplete h).lasting = s.lasting := by simp [State.scanComplete]

@[simp] theorem State.scanOn_lasting (s : State) (h : Fin 4) (d : Nat) : (s.scanOn h d).lasting = s.lasting := by
  unfold State.scanOn
  split <;> simp

@[simp] theorem execScanDot_lasting (h : Fin 4) (vSum iSum : BitVec 17) (s : State) :
    lastingNext (execScanDot h vSum iSum s) = some s.lasting := by
  simp only [execScanDot]
  split <;> simp

@[simp] theorem State.handOver_lasting (s : State) (h : Fin 4) :
    (s.handOver h).lasting = s.lasting := by simp [State.handOver]

@[simp] theorem State.writeHeadCfg_lasting (s : State) (h : Fin 4) (v : Par) :
    (s.writeHeadCfg h v).lasting = s.lasting := by
  unfold State.writeHeadCfg
  split <;> simp

@[simp] theorem State.writeHeadCtrl_lasting (s : State) (h : Fin 4) (v : Par) :
    (s.writeHeadCtrl h v).lasting = s.lasting := by simp [State.writeHeadCtrl]

@[simp] theorem State.writeTenantBound_lasting (s : State) (w : Fin 11) (h : Fin 4) (upper : Bool) (v : Fin 8)
    (x : Par) :
    (s.writeTenantBound w h upper v x).1.lasting = s.lasting := by simp [State.writeTenantBound, apply_ite Prod.fst]

@[simp] theorem State.headItemWrite_lasting (s : State) (w : Fin 11) (h : Fin 4) (off : Nat) (v : Par) (vi : Option
    (Fin 8)) :
    (s.headItemWrite w h off v vi).1.lasting = s.lasting := by
  unfold State.headItemWrite
  (repeat' split) <;> simp

/-! ### Commands to the island -/

@[simp] theorem State.sendLegal_lasting (s : State) (c : LegCommand) : (s.sendLegal c).1.lasting = s.lasting := by
  unfold State.sendLegal
  (repeat' split) <;> simp

@[simp] theorem State.sendPrinted_lasting (s : State) (h : Fin 4) : (s.sendPrinted h).lasting = s.lasting := by
  unfold State.sendPrinted
  (repeat' split) <;> simp

@[simp] theorem State.resendPrinted_lasting (s : State) : s.resendPrinted.lasting = s.lasting := by
  unfold State.resendPrinted
  refine foldl_lasting (fun u e => ?_) _ _
  split <;> simp

@[simp] theorem State.cutMade_lasting (s : State) (h : Fin 4) : (s.cutMade h).lasting = s.lasting := by
  unfold State.cutMade
  split <;> simp

/-! ### Axes and the cutter -/

@[simp] theorem State.hardStopTo_lasting (s : State) (a : Fin 4) (cause : BitVec 3) (st : AxisState) :
    (s.hardStopTo a cause st).lasting = s.lasting := by
  simp only [State.hardStopTo]
  (repeat' split) <;> simp

@[simp] theorem execChopperTrip_lasting (a : Fin 4) (phaseB : Bool) (s : State) :
    lastingNext (execChopperTrip a phaseB s) = some s.lasting := by simp [execChopperTrip]

@[simp] theorem execOffTimeEnd_lasting (a : Fin 4) (phaseB : Bool) (s : State) :
    lastingNext (execOffTimeEnd a phaseB s) = some s.lasting := by simp [execOffTimeEnd]

@[simp] theorem execStandstillReduction_lasting (a : Fin 4) (s : State) :
    lastingNext (execStandstillReduction a s) = some s.lasting := by simp [execStandstillReduction]

@[simp] theorem State.setCutter_lasting (s : State) (st : CutState) :
    (s.setCutter st).lasting = s.lasting := by simp [State.setCutter]

@[simp] theorem State.cutterReturn_lasting (s : State) :
    s.cutterReturn.lasting = s.lasting := by simp [State.cutterReturn]

@[simp] theorem State.cutterEvent_lasting (s : State) (since : Nat) : (s.cutterEvent since).lasting = s.lasting := by
  unfold State.cutterEvent
  (repeat' split) <;> simp

@[simp] theorem State.cutterDropJob_lasting (s : State) : s.cutterDropJob.lasting = s.lasting := by
  unfold State.cutterDropJob
  split <;> simp

@[simp] theorem State.cutterJam_lasting (s : State) : s.cutterJam.lasting = s.lasting := by simp [State.cutterJam]

@[simp] theorem State.enableAxis_lasting (s : State) (a : Fin 4) : (s.enableAxis a).lasting = s.lasting := by
  unfold State.enableAxis
  (repeat' split) <;> simp

@[simp] theorem State.axisOff_lasting (s : State) (a : Fin 4) (cause : BitVec 3) :
    (s.axisOff a cause).lasting = s.lasting := by simp [State.axisOff]

@[simp] theorem State.haltAxis_lasting (s : State) (a : Fin 4) : (s.haltAxis a).lasting = s.lasting := by
  unfold State.haltAxis
  (repeat' split) <;> simp

@[simp] theorem State.clearAxis_lasting (s : State) (a : Fin 4) :
    (s.clearAxis a).lasting = s.lasting := by simp [State.clearAxis]

@[simp] theorem State.revReference_lasting (s : State) (a : Fin 4) :
    (s.revReference a).lasting = s.lasting := by simp [State.revReference]

@[simp] theorem execBridgeFault_lasting (a : Fin 4) (low : Bool) (s : State) :
    lastingNext (execBridgeFault a low s) = some s.lasting := by
  unfold execBridgeFault
  (repeat' split) <;> simp

@[simp] theorem execLimitActive_lasting (a : Fin 4) (input : Fin 2) (active : Bool) (s : State) :
    lastingNext (execLimitActive a input active s) = some s.lasting := by
  simp only [execLimitActive]
  (repeat' split) <;> simp

@[simp] theorem State.resumeRun_lasting (s : State) (h : Fin 4) : (s.resumeRun h).lasting = s.lasting := by
  simp only [State.resumeRun]
  (repeat' split) <;> simp

@[simp] theorem State.rampEnded_lasting (s : State) (a : Fin 4) : (s.rampEnded a).lasting = s.lasting := by
  simp only [State.rampEnded]
  (repeat' split) <;> simp

@[simp] theorem State.updateAxis_lasting (s : State) (a : Fin 4) : (s.updateAxis a).lasting = s.lasting := by
  simp only [State.updateAxis]
  (repeat' split) <;> simp

@[simp] theorem execMotionUpdate_lasting (s : State) :
    lastingNext (execMotionUpdate s) = some s.lasting := by simp [execMotionUpdate]

@[simp] theorem State.activateMover_lasting (s : State) (o : MoveOwner) : (s.activateMover o).lasting = s.lasting := by
  unfold State.activateMover
  (repeat' split) <;> simp

@[simp] theorem execMicrostep_lasting (a : Fin 4) (s : State) : lastingNext (execMicrostep a s) = some s.lasting := by
  simp only [execMicrostep]
  (repeat' split) <;> simp

@[simp] theorem State.startsHere_lasting (s : State) (a : Fin 4) (o : MoveOwner) :
    (s.startsHere a o).lasting = s.lasting := by
  unfold State.startsHere
  split <;> simp

@[simp] theorem State.startQueued_lasting (s : State) (a : Fin 4) (m : Move) :
    (s.startQueued a m).lasting = s.lasting := by
  unfold State.startQueued
  split <;> simp

@[simp] theorem execQueuedMoveStart_lasting (a : Fin 4) (s : State) :
    lastingNext (execQueuedMoveStart a s) = some s.lasting := by
  simp only [execQueuedMoveStart]
  split <;> simp

@[simp] theorem execCutStart_lasting (h : Fin 4) (s : State) : lastingNext (execCutStart h s) = some s.lasting := by
  unfold execCutStart
  (repeat' split) <;> simp

@[simp] theorem execHomeSwitch_lasting (home : Bool) (s : State) :
    lastingNext (execHomeSwitch home s) = some s.lasting := by
  unfold execHomeSwitch
  (repeat' split) <;> simp

@[simp] theorem execCutPartialTimeout_lasting (s : State) :
    lastingNext (execCutPartialTimeout s) = some s.lasting := by simp [execCutPartialTimeout]

@[simp] theorem execCutTimeout_lasting (s : State) : lastingNext (execCutTimeout s) = some s.lasting := by
  simp only [execCutTimeout]
  split <;> simp

@[simp] theorem execBrakeEnd_lasting (s : State) : lastingNext (execBrakeEnd s) = some s.lasting := by
  simp only [execBrakeEnd]
  (repeat' split) <;> simp

@[simp] theorem State.serviceMove_lasting (s : State) (a : Fin 4) (v : Par) :
    (s.serviceMove a v).1.lasting = s.lasting := by simp [State.serviceMove, apply_ite Prod.fst]

@[simp] theorem State.writeAxisCtrl_lasting (s : State) (a : Fin 4) (v : Par) :
    (s.writeAxisCtrl a v).lasting = s.lasting := by simp [State.writeAxisCtrl]

@[simp] theorem State.axisItemWrite_lasting (s : State) (a : Fin 4) (off : Nat) (v : Par) :
    (s.axisItemWrite a off v).1.lasting = s.lasting := by simp [State.axisItemWrite, apply_ite Prod.fst]

/-! ### Media -/

@[simp] theorem State.mediaEvent_lasting (s : State) (h : Fin 4) (code : Byte) (aux : Nat) (payload : Int) :
    (s.mediaEvent h code aux payload).lasting = s.lasting := by simp [State.mediaEvent]

@[simp] theorem State.mediaState_lasting (s : State) (h : Fin 4) :
    (s.mediaState h).lasting = s.lasting := by simp [State.mediaState]

@[simp] theorem State.mediaForget_lasting (s : State) (h : Fin 4) :
    (s.mediaForget h).lasting = s.lasting := by simp [State.mediaForget]

@[simp] theorem State.retarget_lasting (s : State) (a : Fin 4) (t : Int) :
    (s.retarget a t).lasting = s.lasting := by simp [State.retarget]

@[simp] theorem State.putThreshold_lasting (s : State) (h : Fin 4) (mark : Bool) (x : Int) (slew : Bool) :
    (s.putThreshold h mark x slew).lasting = s.lasting := by simp [State.putThreshold]

@[simp] theorem State.thresholdUpdate_lasting (s : State) (h : Fin 4) (lab gap : Rat) :
    (s.thresholdUpdate h lab gap).lasting = s.lasting := by simp [State.thresholdUpdate]

@[simp] theorem State.learnPitch_lasting (s : State) (h : Fin 4) :
    (s.learnPitch h).lasting = s.lasting := by simp [State.learnPitch]

@[simp] theorem State.learnStop_lasting (s : State) (h : Fin 4) : (s.learnStop h).lasting = s.lasting := by
  simp only [State.learnStop]
  (repeat' split) <;> simp

@[simp] theorem State.leadingEdge_lasting (s : State) (h : Fin 4) (p : Int) :
    (s.leadingEdge h p).lasting = s.lasting := by
  simp only [State.leadingEdge]
  split <;> simp

@[simp] theorem State.trailingEdge_lasting (s : State) (h : Fin 4) (p : Int) (lab gap : Option Rat) :
    (s.trailingEdge h p lab gap).lasting = s.lasting := by
  simp only [State.trailingEdge]
  (repeat' split) <;> simp

@[simp] theorem State.sideSample_lasting (s : State) (h : Fin 4) (side : Bool) (code : Nat) :
    (s.sideSample h side code).lasting = s.lasting := by
  simp only [State.sideSample]
  (repeat' split) <;> simp

@[simp] theorem execMediaSample_lasting (h : Fin 4) (code : BitVec 12) (s : State) :
    lastingNext (execMediaSample h code s) = some s.lasting := by
  unfold execMediaSample
  (repeat' split) <;> simp

@[simp] theorem execLabelStartMissed_lasting (h : Fin 4) (s : State) :
    lastingNext (execLabelStartMissed h s) = some s.lasting := by
  simp only [execLabelStartMissed]
  split <;> simp

@[simp] theorem execSeekMaxReached_lasting (h : Fin 4) (s : State) :
    lastingNext (execSeekMaxReached h s) = some s.lasting := by
  unfold execSeekMaxReached
  (repeat' split) <;> simp

@[simp] theorem State.paperEnds_lasting (s : State) (h : Fin 4) :
    (s.paperEnds h).lasting = s.lasting := by simp [State.paperEnds]

@[simp] theorem execPaperLow_lasting (h : Fin 4) (s : State) :
    lastingNext (execPaperLow h s) = some s.lasting := by simp [execPaperLow]

@[simp] theorem execPaperEnd_lasting (h : Fin 4) (s : State) :
    lastingNext (execPaperEnd h s) = some s.lasting := by simp [execPaperEnd]

@[simp] theorem execPaperClear_lasting (h : Fin 4) (s : State) :
    lastingNext (execPaperClear h s) = some s.lasting := by simp [execPaperClear]

@[simp] theorem execCoverOpen_lasting (h : Fin 4) (s : State) :
    lastingNext (execCoverOpen h s) = some s.lasting := by simp [execCoverOpen]

@[simp] theorem execCoverClose_lasting (h : Fin 4) (s : State) :
    lastingNext (execCoverClose h s) = some s.lasting := by simp [execCoverClose]

@[simp] theorem State.startLearn_lasting (s : State) (h : Fin 4) : (s.startLearn h).lasting = s.lasting := by
  unfold State.startLearn
  split <;> simp

@[simp] theorem State.writeMediaCtrl_lasting (s : State) (h : Fin 4) (v : Par) :
    (s.writeMediaCtrl h v).lasting = s.lasting := by simp [State.writeMediaCtrl]

@[simp] theorem State.freeIdleLoops_lasting (s : State) (h : Fin 4) :
    (s.freeIdleLoops h).lasting = s.lasting := by simp [State.freeIdleLoops]

@[simp] theorem State.mediaItemWrite_lasting (s : State) (h : Fin 4) (off : Nat) (v : Par) :
    (s.mediaItemWrite h off v).1.lasting = s.lasting := by simp [State.mediaItemWrite, apply_ite Prod.fst]

/-! ### Lamps and solenoids -/

@[simp] theorem State.lampOff_lasting (s : State) (c : Fin 8) :
    (s.lampOff c).lasting = s.lasting := by simp [State.lampOff]

@[simp] theorem State.lampEvent_lasting (s : State) (c : Fin 8) (code aux : Byte) (payload : Word) :
    (s.lampEvent c code aux payload).lasting = s.lasting := by simp [State.lampEvent]

@[simp] theorem State.lampTrip_lasting (s : State) (c : Fin 8) (heavy : Bool) :
    (s.lampTrip c heavy).lasting = s.lasting := by simp [State.lampTrip]

@[simp] theorem execLampAdmit_lasting (s : State) : lastingNext (execLampAdmit s) = some s.lasting := by
  unfold execLampAdmit
  split <;> simp

@[simp] theorem execPwmPeriod_lasting (s : State) :
    lastingNext (execPwmPeriod s) = some s.lasting := by simp [execPwmPeriod]

@[simp] theorem execInrushComplete_lasting (c : Fin 8) (s : State) :
    lastingNext (execInrushComplete c s) = some s.lasting := by simp [execInrushComplete]

@[simp] theorem execLimitTrip_lasting (c : Fin 8) (s : State) :
    lastingNext (execLimitTrip c s) = some s.lasting := by simp [execLimitTrip]

@[simp] theorem execOverload_lasting (c : Fin 8) (s : State) :
    lastingNext (execOverload c s) = some s.lasting := by simp [execOverload]

@[simp] theorem execShortTrip_lasting (c : Fin 8) (s : State) :
    lastingNext (execShortTrip c s) = some s.lasting := by simp [execShortTrip]

@[simp] theorem execLampOpen_lasting (c : Fin 8) (s : State) :
    lastingNext (execLampOpen c s) = some s.lasting := by simp [execLampOpen]

@[simp] theorem execLampCurrentSample_lasting (c : Fin 8) (code : BitVec 12) (s : State) :
    lastingNext (execLampCurrentSample c code s) = some s.lasting := by simp [execLampCurrentSample]

@[simp] theorem State.lampOp_lasting (s : State) (op duty : Nat) (c : Fin 8) :
    (s.lampOp op duty c).lasting = s.lasting := by
  unfold State.lampOp
  split <;> simp

@[simp] theorem State.writeLampCmd_lasting (s : State) (v : Fin 8) (x : Par) :
    (s.writeLampCmd v x).1.lasting = s.lasting := by simp [State.writeLampCmd, apply_ite Prod.fst]

@[simp] theorem State.lampItemWrite_lasting (s : State) (w : Fin 11) (c : Fin 8) (off : Nat) (v : Par) :
    (s.lampItemWrite w c off v).1.lasting = s.lasting := by simp [State.lampItemWrite, apply_ite Prod.fst]

/-! ### Loam -/

@[simp] theorem State.drive_lasting (s : State) (x : Word) : (s.drive x).lasting = s.lasting := by simp [State.drive]

@[simp] theorem State.endHeld_lasting (s : State) (v : Fin 8) :
    (s.endHeld v).lasting = s.lasting := by simp [State.endHeld]

@[simp] theorem execJobAlloc_lasting (vi : Fin 8) (s : State) : lastingNext (execJobAlloc vi s) = some s.lasting := by
  unfold execJobAlloc
  (repeat' split) <;> simp

@[simp] theorem State.refreshEligible_lasting (s : State) : s.refreshEligible.lasting = s.lasting := by
  unfold State.refreshEligible
  refine (foldl_lasting (fun u h => foldl_lasting (fun u v => ?_) _ _) _ _).trans s.accrue_lasting
  split <;> simp

@[simp] theorem State.joinBacklog_lasting (s : State) (v : Fin 8) (h : Fin 4) :
    (s.joinBacklog v h).lasting = s.lasting := by
  simp only [State.joinBacklog]
  (repeat' split) <;> simp

@[simp] theorem State.acceptJob_lasting (s : State) (v : Fin 8) (i : Handle) :
    (s.acceptJob v i).lasting = s.lasting := by
  unfold State.acceptJob
  simp

@[simp] theorem State.submitJob_lasting (s : State) (v : Fin 8) (x : Word) :
    (s.submitJob v x).lasting = s.lasting := by simp [State.submitJob]

@[simp] theorem State.startJob_lasting (s : State) (j : JobRef) (surplus : Bool) (record : Option (BitVec 32)) :
    (s.startJob j surplus record).lasting = s.lasting := by simp [State.startJob]

@[simp] theorem State.issueAnswer_lasting (s : State) (j : JobRef) (rsp : Byte) (surplus : Bool) :
    (s.issueAnswer j rsp surplus).lasting = s.lasting := by simp [State.issueAnswer]

@[simp] theorem State.sendIssue_lasting (s : State) (j : JobRef) :
    (s.sendIssue j).1.lasting = s.lasting := by simp [State.sendIssue, apply_ite Prod.fst]

@[simp] theorem State.issueJob_lasting (s : State) (j : JobRef) (surplus : Bool) :
    (s.issueJob j surplus).lasting = s.lasting := by
  simp only [State.issueJob]
  split <;> simp

@[simp] theorem State.startPurge_lasting (s : State) (h : Fin 4) (p : Purge) :
    (s.startPurge h p).lasting = s.lasting := by simp [State.startPurge]

@[simp] theorem execHeadPurged_lasting (h : Fin 4) (s : State) : lastingNext (execHeadPurged h s) = some s.lasting := by
  simp only [execHeadPurged]
  split <;> simp

@[simp] theorem execJobSelect_lasting (h : Fin 4) (s : State) : lastingNext (execJobSelect h s) = some s.lasting := by
  simp only [execJobSelect]
  (repeat' split) <;> simp

@[simp] theorem State.capLoop_lasting (s : State) (h : Fin 4) :
    (s.capLoop h).lasting = s.lasting := by simp [State.capLoop]

@[simp] theorem State.capNotify_lasting (s : State) (h : Fin 4) :
    (s.capNotify h).lasting = s.lasting := by simp [State.capNotify]

@[simp] theorem execCapacityUpdate_lasting (s : State) : lastingNext (execCapacityUpdate s) = some s.lasting := by
  simp only [execCapacityUpdate]
  split <;> simp

@[simp] theorem State.jobItemWrite_lasting (s : State) (v : Fin 8) (off : Nat) (x : Par) :
    (s.jobItemWrite v off x).lasting = s.lasting := by simp [State.jobItemWrite]

/-! ### The link -/

@[simp] theorem State.setLink_lasting (s : State) (st : LinkState) (cause : Nat) :
    (s.setLink st cause).lasting = s.lasting := by simp [State.setLink]

@[simp] theorem State.settleLink_lasting (s : State) : s.settleLink.lasting = s.lasting := by simp [State.settleLink]

@[simp] theorem execReceiveError_lasting (kind : Fin 3) (s : State) :
    lastingNext (execReceiveError kind s) = some s.lasting := by simp [execReceiveError]

@[simp] theorem execBusOffRecovery_lasting (s : State) :
    lastingNext (execBusOffRecovery s) = some s.lasting := by simp [execBusOffRecovery]

@[simp] theorem State.writeRyCtrl_lasting (s : State) (v : Par) :
    (s.writeRyCtrl v).lasting = s.lasting := by simp [State.writeRyCtrl]

@[simp] theorem State.jobBack_lasting (s : State) (j : JobRef) :
    (s.jobBack j).lasting = s.lasting := by simp [State.jobBack]

@[simp] theorem State.chargeE_lasting (s : State) (j : JobRef) :
    (s.chargeE j).lasting = s.lasting := by simp [State.chargeE]

@[simp] theorem State.peerGone_lasting (s : State) (j : JobRef) (m : Migration) :
    (s.peerGone j m).lasting = s.lasting := by simp [State.peerGone]

@[simp] theorem State.losePeer_lasting (s : State) (n : Fin 16) :
    (s.losePeer n).lasting = s.lasting := by simp [State.losePeer]

@[simp] theorem execPeerTimeout_lasting (n : Fin 16) (s : State) :
    lastingNext (execPeerTimeout n s) = some s.lasting := by
  unfold execPeerTimeout
  simp

@[simp] theorem State.linkFallback_lasting (s : State) : s.linkFallback.lasting = s.lasting := by
  unfold State.linkFallback
  simp

@[simp] theorem State.takeRyine_lasting (s : State) (src : Fin 16) (seq : BitVec 4) (dst : BitVec 5) :
    (s.takeRyine src seq dst).2.lasting = s.lasting := by simp [State.takeRyine, apply_ite Prod.snd]

@[simp] theorem execReservedFrame_lasting (src : Fin 16) (seq : BitVec 4) (dst : BitVec 5) (s : State) :
    lastingNext (execReservedFrame src seq dst s) = some s.lasting := by simp [execReservedFrame]

@[simp] theorem execEvt_lasting (src : Fin 16) (seq : BitVec 4) (dst : BitVec 5) (payload : List Byte) (s : State) :
    lastingNext (execEvt src seq dst payload s) = some s.lasting := by simp [execEvt]

@[simp] theorem execCap_lasting (src : Fin 16) (seq : BitVec 4) (dst : BitVec 5) (payload : List Byte) (s : State) :
    lastingNext (execCap src seq dst payload s) = some s.lasting := by simp [execCap]

@[simp] theorem State.applySync_lasting (s : State) (src : Fin 16) (off : Int) :
    (s.applySync src off).lasting = s.lasting := by simp [State.applySync]

@[simp] theorem execSync_lasting (src : Fin 16) (seq : BitVec 4) (dst : BitVec 5) (payload : List Byte) (age : Nat)
    (s : State) :
    lastingNext (execSync src seq dst payload age s) = some s.lasting := by simp [execSync]

@[simp] theorem execTimeSlew_lasting (s : State) :
    lastingNext (execTimeSlew s) = some s.lasting := by simp [execTimeSlew]

@[simp] theorem execSyncLoss_lasting (s : State) :
    lastingNext (execSyncLoss s) = some s.lasting := by simp [execSyncLoss]

@[simp] theorem execSyncPeriod_lasting (s : State) :
    lastingNext (execSyncPeriod s) = some s.lasting := by simp [execSyncPeriod]

@[simp] theorem execCapPeriod_lasting (s : State) :
    lastingNext (execCapPeriod s) = some s.lasting := by simp [execCapPeriod]

@[simp] theorem State.writeEvtTx_lasting (s : State) (v : Par) :
    (s.writeEvtTx v).lasting = s.lasting := by simp [State.writeEvtTx]

@[simp] theorem State.topData_lasting (s : State) : s.topData.lasting = s.lasting := by
  unfold State.topData
  (repeat' split) <;> simp

@[simp] theorem execFrameTransmit_lasting (fraction : Byte) (s : State) :
    lastingNext (execFrameTransmit fraction s) = some s.lasting := by
  unfold execFrameTransmit
  (repeat' split) <;> simp

@[simp] theorem State.retryFrame_lasting (s : State) (f : RyFrame) :
    (s.retryFrame f).lasting = s.lasting := by simp [State.retryFrame]

@[simp] theorem State.lostFrame_lasting (s : State) (f : RyFrame) :
    (s.lostFrame f).lasting = s.lasting := by simp [State.lostFrame]

@[simp] theorem execTransmitEnd_lasting (result : Fin 7) (s : State) :
    lastingNext (execTransmitEnd result s) = some s.lasting := by
  unfold execTransmitEnd
  (repeat' split) <;> simp

@[simp] theorem State.ryItemWrite_lasting (s : State) (off : Nat) (v : Par) :
    (s.ryItemWrite off v).lasting = s.lasting := by simp [State.ryItemWrite]

/-! ### Cancels and migration -/

@[simp] theorem State.sendRevoke_lasting (s : State) (m : Migration) :
    (s.sendRevoke m).lasting = s.lasting := by simp [State.sendRevoke]

@[simp] theorem State.orphan_lasting (s : State) (j : JobRef) (m : Migration) :
    (s.orphan j m).lasting = s.lasting := by simp [State.orphan]

@[simp] theorem State.reportOrphan_lasting (s : State) (src : Fin 16) (migId : Word) :
    (s.reportOrphan src migId).lasting = s.lasting := by
  unfold State.reportOrphan
  split <;> simp

@[simp] theorem State.cancelAfter_lasting (s : State) (j : JobRef) (m : Migration) :
    (s.cancelAfter j m).lasting = s.lasting := by simp [State.cancelAfter]

@[simp] theorem State.cancelRemote_lasting (s : State) (j : JobRef) (m : Migration) :
    (s.cancelRemote j m).lasting = s.lasting := by simp [State.cancelRemote]

@[simp] theorem State.dropReservation_lasting (s : State) (j : JobRef) :
    (s.dropReservation j).lasting = s.lasting := by simp [State.dropReservation]

@[simp] theorem State.cancelJob_lasting (s : State) (j : JobRef) : (s.cancelJob j).lasting = s.lasting := by
  simp only [State.cancelJob]
  (repeat' split) <;> simp

@[simp] theorem State.releaseJob_lasting (s : State) (j : JobRef) : (s.releaseJob j).lasting = s.lasting := by
  unfold State.releaseJob
  split <;> simp

@[simp] theorem State.writeCancel_lasting (s : State) (v : Fin 8) (x : Word) :
    (s.writeCancel v x).lasting = s.lasting := by
  unfold State.writeCancel
  (repeat' split) <;> simp

@[simp] theorem execCancel_lasting (vi : Fin 8) (v : Word) (s : State) :
    lastingNext (execCancel vi v s) = some s.lasting := by simp [execCancel]

@[simp] theorem execRelease_lasting (vi : Fin 8) (v : Word) (s : State) :
    lastingNext (execRelease vi v s) = some s.lasting := by simp [execRelease]

@[simp] theorem execCancelAll_lasting (vi : Fin 8) (v : Word) (s : State) :
    lastingNext (execCancelAll vi v s) = some s.lasting := by simp [execCancelAll]

@[simp] theorem State.trackMargins_lasting (s : State) :
    s.trackMargins.lasting = s.lasting := by simp [State.trackMargins]

@[simp] theorem State.offer_lasting (s : State) (j : JobRef) (n : Fin 16) (k : Fin 4) :
    (s.offer j n k).lasting = s.lasting := by simp [State.offer]

@[simp] theorem execMigrationCheck_lasting (s : State) : lastingNext (execMigrationCheck s) = some s.lasting := by
  simp only [execMigrationCheck]
  (repeat' split) <;> simp

@[simp] theorem State.takeResult_lasting (s : State) (src : Fin 16) (seq : BitVec 4) (dst : BitVec 5) (migId : Word)
    {f : State → JobRef → Migration → State} {g : State → State} (hf : ∀ u j m, (f u j m).lasting = u.lasting)
    (hg : ∀ u, (g u).lasting = u.lasting) : (s.takeResult src seq dst migId f g).lasting = s.lasting := by
  simp only [State.takeResult]
  (repeat' split) <;> simp [hf, hg]

@[simp] theorem execAccept_lasting (src : Fin 16) (seq : BitVec 4) (dst : BitVec 5) (migId : Word) (_detail : Byte)
    (_headTime : Par) (_amount : Word) (s : State) :
    lastingNext (execAccept src seq dst migId _detail _headTime _amount s) = some s.lasting := by simp [execAccept]

@[simp] theorem State.notHeld_lasting (s : State) (j : JobRef) (m : Migration) :
    (s.notHeld j m).lasting = s.lasting := by simp [State.notHeld]

@[simp] theorem execRefuse_lasting (src : Fin 16) (seq : BitVec 4) (dst : BitVec 5) (migId : Word) (_detail : Byte)
    (_headTime : Par) (_amount : Word) (s : State) :
    lastingNext (execRefuse src seq dst migId _detail _headTime _amount s) = some s.lasting := by simp [execRefuse]

@[simp] theorem execAbandoned_lasting (src : Fin 16) (seq : BitVec 4) (dst : BitVec 5) (migId : Word)
    (_detail : Byte) (_headTime : Par) (_amount : Word) (s : State) :
    lastingNext (execAbandoned src seq dst migId _detail _headTime _amount s) = some s.lasting := by
  simp [execAbandoned]

@[simp] theorem execStarted_lasting (src : Fin 16) (seq : BitVec 4) (dst : BitVec 5) (migId : Word) (_detail : Byte)
    (_headTime : Par) (_amount : Word) (s : State) :
    lastingNext (execStarted src seq dst migId _detail _headTime _amount s) = some s.lasting := by simp [execStarted]

@[simp] theorem State.peerReport_lasting (s : State) (j : JobRef) (m : Migration) (st : JobState)
    (result headTime amount : Nat) :
    (s.peerReport j m st result headTime amount).lasting = s.lasting := by simp [State.peerReport]

@[simp] theorem execDone_lasting (src : Fin 16) (seq : BitVec 4) (dst : BitVec 5) (migId : Word) (_detail : Byte)
    (headTime : Par) (amount : Word) (s : State) :
    lastingNext (execDone src seq dst migId _detail headTime amount s) = some s.lasting := by simp [execDone]

@[simp] theorem execFailed_lasting (src : Fin 16) (seq : BitVec 4) (dst : BitVec 5) (migId : Word) (_detail : Byte)
    (headTime : Par) (amount : Word) (s : State) :
    lastingNext (execFailed src seq dst migId _detail headTime amount s) = some s.lasting := by simp [execFailed]

@[simp] theorem execRevoked_lasting (src : Fin 16) (seq : BitVec 4) (dst : BitVec 5) (migId : Word) (_detail : Byte)
    (_headTime : Par) (_amount : Word) (s : State) :
    lastingNext (execRevoked src seq dst migId _detail _headTime _amount s) = some s.lasting := by simp [execRevoked]

@[simp] theorem execTooLate_lasting (src : Fin 16) (seq : BitVec 4) (dst : BitVec 5) (migId : Word) (_detail : Byte)
    (_headTime : Par) (_amount : Word) (s : State) :
    lastingNext (execTooLate src seq dst migId _detail _headTime _amount s) = some s.lasting := by simp [execTooLate]

@[simp] theorem execOfferTimeout_lasting (s : State) : lastingNext (execOfferTimeout s) = some s.lasting := by
  unfold execOfferTimeout
  (repeat' split) <;> simp

@[simp] theorem execRevokeTimeout_lasting (migId : Word) (s : State) :
    lastingNext (execRevokeTimeout migId s) = some s.lasting := by
  unfold execRevokeTimeout
  (repeat' split) <;> simp

/-- What an accepted offer reserves leaves what lasts. -/
theorem State.judgeOffer_lasting (s : State) (k : Nat) (w : Vector Par 4) (size : Nat) :
    ∀ r, s.judgeOffer k w size = .inr r → r.2.2.2.lasting = s.lasting := by
  unfold State.judgeOffer
  dsimp only
  repeat' split
  all_goals rintro _ ⟨⟩
  all_goals exact s.reserveChunks_lasting _ _ _ ‹_›

@[simp] theorem execMigOffer_lasting (src : Fin 16) (seq : BitVec 4) (dst : BitVec 5) (payload : List Byte)
    (s : State) :
    lastingNext (execMigOffer src seq dst payload s) = some s.lasting := by
  simp only [execMigOffer]
  split
  · split
    · simp
    next v g l u hu =>
      have h := State.judgeOffer_lasting _ _ _ _ _ hu
      simp [h]
  · simp

@[simp] theorem State.freeGuest_lasting (s : State) (g : Fin 4) : (s.freeGuest g).lasting = s.lasting := by
  unfold State.freeGuest
  split <;> simp

@[simp] theorem State.storeBlock_lasting (s : State) (v : Fin 8) (band : Nat) (external : Bool) (chunks : List Nat)
    (l : List Byte) :
    (s.storeBlock v band external chunks l).2.lasting = s.lasting := by simp [State.storeBlock]

@[simp] theorem State.storeBlocks_lasting (s : State) (v : Fin 8) (band : Nat) (external : Bool) (chunks : List Nat)
    (n : Nat) (l : List Byte) :
    (s.storeBlocks v band external chunks n l).2.lasting = s.lasting := by
  induction n generalizing s band chunks l with
  | zero => rfl
  | succ n ih => simp [State.storeBlocks, ih]

@[simp] theorem State.guestReady_lasting (s : State) (g : Fin 4) (x : GuestSlot) :
    (s.guestReady g x).lasting = s.lasting := by
  simp only [State.guestReady]
  split <;> simp

@[simp] theorem execMigData_lasting (src : Fin 16) (seq : BitVec 4) (dst : BitVec 5) (payload : List Byte) (s : State) :
    lastingNext (execMigData src seq dst payload s) = some s.lasting := by
  simp only [execMigData]
  (repeat' split) <;> simp

@[simp] theorem execTransferTimeout_lasting (slot : Fin 4) (s : State) :
    lastingNext (execTransferTimeout slot s) = some s.lasting := by
  unfold execTransferTimeout
  split <;> simp

@[simp] theorem execRevoke_lasting (src : Fin 16) (seq : BitVec 4) (dst : BitVec 5) (payload : List Byte) (s : State) :
    lastingNext (execRevoke src seq dst payload s) = some s.lasting := by
  simp only [execRevoke]
  (repeat' split) <;> simp

@[simp] theorem State.revokeAll_lasting (s : State) (v : Fin 8) :
    (s.revokeAll v).lasting = s.lasting := by simp [State.revokeAll]

/-! ### Power and the wake -/

@[simp] theorem State.discardHeld_lasting (s : State) : s.discardHeld.lasting = s.lasting := by simp [State.discardHeld]

@[simp] theorem State.enterWake_lasting (s : State) (source : BitVec 4) :
    (s.enterWake source).lasting = s.lasting := (rfl)

@[simp] theorem State.beginWake_lasting (s : State) (source : BitVec 4) :
    (s.beginWake source).lasting = s.lasting := by simp [State.beginWake]

@[simp] theorem State.wakeBy_lasting (s : State) (source : BitVec 4) :
    (s.wakeBy source).lasting = s.lasting := by simp [State.wakeBy]

@[simp] theorem State.beginPd_lasting (s : State) (reason : PdReason) (stage6Only : Bool) :
    (s.beginPd reason stage6Only).lasting = s.lasting := by
  unfold State.beginPd
  split <;> simp

@[simp] theorem State.revertBoot_lasting (s : State) : s.revertBoot.lasting = s.lasting := by simp [State.revertBoot]

@[simp] theorem State.countTrial_lasting (s : State) : s.countTrial.lasting = s.lasting := by simp [State.countTrial]

@[simp] theorem State.bootSlot_lasting (s : State) (a : Fin 2) (b : Bool) :
    (s.bootSlot a b).lasting = s.lasting := by simp [State.bootSlot]

@[simp] theorem execAoPowerOn_lasting (pwrFailN : Bool) (s : State) :
    lastingNext (execAoPowerOn pwrFailN s) = some s.lasting := by
  unfold execAoPowerOn
  split
  · dsimp only
    split
    · simp only [lastingNext_next, State.beginWake_lasting]
      rfl
    · rfl
  · rfl

@[simp] theorem execAllPowerLost_lasting (s : State) : lastingNext (execAllPowerLost s) = some s.lasting := (rfl)

@[simp] theorem execWakeNFall_lasting (s : State) :
    lastingNext (execWakeNFall s) = some s.lasting := by simp [execWakeNFall]

@[simp] theorem execAlarm_lasting (s : State) : lastingNext (execAlarm s) = some s.lasting := by simp [execAlarm]

@[simp] theorem execLinkWake_lasting (s : State) :
    lastingNext (execLinkWake s) = some s.lasting := by simp [execLinkWake]

@[simp] theorem execPowerReturn_lasting (s : State) :
    lastingNext (execPowerReturn s) = some s.lasting := by simp [execPowerReturn]

@[simp] theorem execThermalCooled_lasting (s : State) :
    lastingNext (execThermalCooled s) = some s.lasting := by simp [execThermalCooled]

@[simp] theorem execThermalRestart_lasting (s : State) :
    lastingNext (execThermalRestart s) = some s.lasting := by simp [execThermalRestart]

@[simp] theorem execWakeGuardEnd_lasting (s : State) : lastingNext (execWakeGuardEnd s) = some s.lasting := by
  simp only [execWakeGuardEnd]
  (repeat' split) <;> simp

@[simp] theorem execAoCrystalRuns_lasting (s : State) :
    lastingNext (execAoCrystalRuns s) = some s.lasting := by simp [execAoCrystalRuns]

@[simp] theorem execPgIoRise_lasting (s : State) :
    lastingNext (execPgIoRise s) = some s.lasting := by simp [execPgIoRise]

@[simp] theorem execPgRetry_lasting (s : State) : lastingNext (execPgRetry s) = some s.lasting := by
  unfold execPgRetry
  (repeat' split) <;> simp

@[simp] theorem execPgCoreRise_lasting (s : State) :
    lastingNext (execPgCoreRise s) = some s.lasting := by simp [execPgCoreRise]

@[simp] theorem execMgResetRelease_lasting (s : State) :
    lastingNext (execMgResetRelease s) = some s.lasting := by simp [execMgResetRelease]

@[simp] theorem execPllLock_lasting (s : State) : lastingNext (execPllLock s) = some s.lasting := by simp [execPllLock]

@[simp] theorem execIslandsResetRelease_lasting (nid : Fin 16) (s : State) :
    lastingNext (execIslandsResetRelease nid s) = some s.lasting := by simp [execIslandsResetRelease]

@[simp] theorem execPgMemRise_lasting (s : State) :
    lastingNext (execPgMemRise s) = some s.lasting := by simp [execPgMemRise]

@[simp] theorem State.memoryFailed_lasting (s : State) :
    s.memoryFailed.lasting = s.lasting := by simp [State.memoryFailed]

@[simp] theorem execMemoryTrainingDone_lasting (ok : Bool) (s : State) :
    lastingNext (execMemoryTrainingDone ok s) = some s.lasting := by simp [execMemoryTrainingDone]

@[simp] theorem execBootComplete_lasting (s : State) :
    lastingNext (execBootComplete s) = some s.lasting := by simp [execBootComplete]

@[simp] theorem execPwrFailNGlitch_lasting (counted : Bool) (s : State) :
    lastingNext (execPwrFailNGlitch counted s) = some s.lasting := by simp [execPwrFailNGlitch]

@[simp] theorem execPgKChange_lasting (level : Bool) (s : State) :
    lastingNext (execPgKChange level s) = some s.lasting := by simp [execPgKChange]

@[simp] theorem execMemCfgCommit_lasting (s : State) :
    lastingNext (execMemCfgCommit s) = some s.lasting := by simp [execMemCfgCommit]

@[simp] theorem State.refuseMode_lasting (s : State) (v : Word) :
    (s.refuseMode v).lasting = s.lasting := by simp [State.refuseMode]

@[simp] theorem State.acceptMode_lasting (s : State) : s.acceptMode.lasting = s.lasting := by simp [State.acceptMode]

@[simp] theorem State.gritBlockEvent_lasting (s : State) (cause : Nat) :
    (s.gritBlockEvent cause).lasting = s.lasting := by simp [State.gritBlockEvent]

@[simp] theorem State.endRaw_lasting (s : State) : s.endRaw.lasting = s.lasting := by
  simp only [State.endRaw]
  (repeat' split) <;> simp

@[simp] theorem State.requestRun_lasting (s : State) (v : Word) : (s.requestRun v).lasting = s.lasting := by
  unfold State.requestRun
  (repeat' split) <;> simp

@[simp] theorem State.requestService_lasting (s : State) (v : Word) : (s.requestService v).lasting = s.lasting := by
  unfold State.requestService
  (repeat' split) <;> simp

@[simp] theorem State.requestRetain_lasting (s : State) (v : Word) : (s.requestRetain v).lasting = s.lasting := by
  unfold State.requestRetain
  split <;> simp

@[simp] theorem State.modeRequest_lasting (s : State) (v : Word) : (s.modeRequest v).lasting = s.lasting := by
  unfold State.modeRequest
  (repeat' split) <;> simp

@[simp] theorem execRunRequest_lasting (s : State) :
    lastingNext (execRunRequest s) = some s.lasting := by simp [execRunRequest]

@[simp] theorem execServiceRequest_lasting (s : State) :
    lastingNext (execServiceRequest s) = some s.lasting := by simp [execServiceRequest]

@[simp] theorem execRetainRequest_lasting (s : State) :
    lastingNext (execRetainRequest s) = some s.lasting := by simp [execRetainRequest]

@[simp] theorem execInvalidModeRequest_lasting (value : Word) (s : State) :
    lastingNext (execInvalidModeRequest value s) = some s.lasting := by simp [execInvalidModeRequest]

@[simp] theorem execServiceEntry_lasting (s : State) :
    lastingNext (execServiceEntry s) = some s.lasting := by simp [execServiceEntry]

/-! ### The island -/

@[simp] theorem State.islandEvent_lasting (s : State) (holder : Bool) (code aux : Byte) (payload : Word) :
    (s.islandEvent holder code aux payload).lasting = s.lasting := by simp [State.islandEvent]

@[simp] theorem State.setIsland_lasting (s : State) (st : IslandState) :
    (s.setIsland st).lasting = s.lasting := by simp [State.setIsland]

@[simp] theorem State.settleIsland_lasting (s : State) : s.settleIsland.lasting = s.lasting := by
  simp only [State.settleIsland]
  split <;> simp

@[simp] theorem State.inhibitEvent_lasting (s : State) (before : Word) :
    (s.inhibitEvent before).lasting = s.lasting := by simp [State.inhibitEvent]

@[simp] theorem State.beginCause_lasting (s : State) (f : Island → Island) :
    (s.beginCause f).lasting = s.lasting := by simp [State.beginCause]

@[simp] theorem State.beginSelfTest_lasting (s : State) :
    s.beginSelfTest.lasting = s.lasting := by simp [State.beginSelfTest]

@[simp] theorem State.noData_lasting (s : State) : s.noData.2.lasting = s.lasting := by simp [State.noData]

@[simp] theorem State.issueDone_lasting (s : State) (c : LegCommand) (h : Fin 4) (rsp : Byte) (rec : Option Record) :
    (s.issueDone c h rsp rec).lasting = s.lasting := by
  unfold State.issueDone
  (repeat' split) <;> simp

@[simp] theorem State.printedDone_lasting (s : State) (c : LegCommand) (h : Fin 4) (rsp : Byte) :
    (s.printedDone c h rsp).lasting = s.lasting := by
  unfold State.printedDone
  split <;> simp

@[simp] theorem State.answerLegal_lasting (s : State) (c : LegCommand) (rsp : Byte) (data : Option (Vector Word 4))
    (rec : Option Record) :
    (s.answerLegal c rsp data rec).lasting = s.lasting := by
  unfold State.answerLegal
  (repeat' split) <;> simp

@[simp] theorem State.legAnswer_lasting (s : State) (v : Fin 8) (rsp : Byte) (tag : BitVec 4) :
    (s.legAnswer v rsp tag).lasting = s.lasting := by simp [State.legAnswer]

@[simp] theorem State.writeLegCmd_lasting (s : State) (v : Fin 8) (x : Word) :
    (s.writeLegCmd v x).lasting = s.lasting := by
  simp only [State.writeLegCmd]
  (repeat' split) <;> simp

@[simp] theorem execLegalRsp_lasting (s : State) : lastingNext (execLegalRsp s) = some s.lasting := by
  unfold execLegalRsp
  (repeat' split) <;> simp

@[simp] theorem State.orphanLegal_lasting (s : State) (t : LegSource → Bool) :
    (s.orphanLegal t).lasting = s.lasting := by simp [State.orphanLegal]

@[simp] theorem State.dropOrphanRsp_lasting (s : State) :
    s.dropOrphanRsp.lasting = s.lasting := by simp [State.dropOrphanRsp]

@[simp] theorem execLegalCmdTimeout_lasting (src : Fin 9) (s : State) :
    lastingNext (execLegalCmdTimeout src s) = some s.lasting := by
  simp only [execLegalCmdTimeout]
  (repeat' split) <;> simp

@[simp] theorem execPrintedTimeout_lasting (h : Fin 4) (s : State) :
    lastingNext (execPrintedTimeout h s) = some s.lasting := by
  unfold execPrintedTimeout
  split <;> simp

@[simp] theorem State.takeLegal_lasting (s : State) (t : LegCommand → Bool) (f : LegCommand → State → State)
    (hf : ∀ x u, (f x u).lasting = u.lasting) :
    (s.takeLegal t f).lasting = s.lasting := by
  simp only [State.takeLegal]
  split <;> simp [hf]

@[simp] theorem awaitResult_lasting (c : LegCommand) (s : State) :
    (awaitResult c s).lasting = s.lasting := by simp [awaitResult]

@[simp] theorem refuseLegal_lasting (rsp : Byte) (c : LegCommand) (s : State) :
    (refuseLegal rsp c s).lasting = s.lasting := by simp [refuseLegal]

@[simp] theorem execZero_lasting (s : State) : lastingNext (execZero s) = some s.lasting := by simp [execZero]

@[simp] theorem execTare_lasting (s : State) : lastingNext (execTare s) = some s.lasting := by simp [execTare]

@[simp] theorem execTareClear_lasting (s : State) :
    lastingNext (execTareClear s) = some s.lasting := by simp [execTareClear]

@[simp] theorem execReadWeight_lasting (s : State) :
    lastingNext (execReadWeight s) = some s.lasting := by simp [execReadWeight]

@[simp] theorem execReadWeightIssue_lasting (s : State) :
    lastingNext (execReadWeightIssue s) = some s.lasting := by simp [execReadWeightIssue]

@[simp] theorem execReadWeightDup_lasting (s : State) : lastingNext (execReadWeightDup s) = some s.lasting := by
  refine congrArg some (s.takeLegal_lasting _ _ fun c u => ?_)
  (repeat' split) <;> simp

@[simp] theorem execPrinted_lasting (s : State) : lastingNext (execPrinted s) = some s.lasting := by
  refine congrArg some (s.takeLegal_lasting _ _ fun c u => ?_)
  (repeat' split) <;> simp

@[simp] theorem execStatus_lasting (s : State) : lastingNext (execStatus s) = some s.lasting := by simp [execStatus]

@[simp] theorem execUnknownCommand_lasting (s : State) :
    lastingNext (execUnknownCommand s) = some s.lasting := by simp [execUnknownCommand]

@[simp] theorem State.decideZero_lasting (s : State) (c : LegCommand) :
    (s.decideZero c).lasting = s.lasting := by simp [State.decideZero]

@[simp] theorem State.decideTare_lasting (s : State) (c : LegCommand) :
    (s.decideTare c).lasting = s.lasting := by simp [State.decideTare]

@[simp] theorem State.decideIssue_lasting (s : State) (c : LegCommand) : (s.decideIssue c).lasting = s.lasting := by
  unfold State.decideIssue
  split <;> simp

@[simp] theorem State.decideLegal_lasting (s : State) : s.decideLegal.lasting = s.lasting := by
  unfold State.decideLegal
  split <;> simp

@[simp] theorem execIssuedCommit_lasting (s : State) : lastingNext (execIssuedCommit s) = some s.lasting := by
  simp only [execIssuedCommit]
  (repeat' split) <;> simp

@[simp] theorem execPrintedCommit_lasting (s : State) : lastingNext (execPrintedCommit s) = some s.lasting := by
  unfold execPrintedCommit
  split <;> simp

@[simp] theorem State.commitHeld_lasting (s : State) : s.commitHeld.lasting = s.lasting := by simp [State.commitHeld]

@[simp] theorem State.ukSend_lasting (s : State) (t : String) :
    (s.ukSend t).lasting = s.lasting := by simp [State.ukSend]

@[simp] theorem State.showFrame_lasting (s : State) : s.showFrame.lasting = s.lasting := by simp [State.showFrame]

@[simp] theorem execDisplayFrame_lasting (s : State) : lastingNext (execDisplayFrame s) = some s.lasting := by
  unfold execDisplayFrame
  split <;> simp

@[simp] theorem execShowIdEnd_lasting (s : State) :
    lastingNext (execShowIdEnd s) = some s.lasting := by simp [execShowIdEnd]

@[simp] theorem execWeighingResult_lasting (sig : Vector (BitVec 24) 4) (sns drv : BitVec 24) (vddaK : Int)
    (zeroMean refMean : List (Fin 5 × Rat)) (s : State) :
    lastingNext (execWeighingResult sig sns drv vddaK zeroMean refMean s) = some s.lasting := by
  unfold execWeighingResult
  split <;> simp

@[simp] theorem execSliceRotation_lasting (slice : Fin 5) (o g t : Int) (s : State) :
    lastingNext (execSliceRotation slice o g t s) = some s.lasting := by
  simp only [execSliceRotation]
  (repeat' split) <;> simp

@[simp] theorem execIslandTemp_lasting (t : Int) (s : State) : lastingNext (execIslandTemp t s) = some s.lasting := by
  unfold execIslandTemp
  split <;> simp

@[simp] theorem execIslandPowerUp_lasting (s : State) :
    lastingNext (execIslandPowerUp s) = some s.lasting := by simp [execIslandPowerUp]

@[simp] theorem execIslandReset_lasting (s : State) : lastingNext (execIslandReset s) = some s.lasting := by
  simp only [execIslandReset]
  split
  · rfl
  · exact congrArg some (State.setIsland_lasting _ _)

@[simp] theorem execIslandClockFault_lasting (s : State) : lastingNext (execIslandClockFault s) = some s.lasting := by
  unfold execIslandClockFault
  split <;> simp

@[simp] theorem State.sealEvent_lasting (s : State) (isOpen : Bool) :
    (s.sealEvent isOpen).lasting = s.lasting := by simp [State.sealEvent]

@[simp] theorem execSealOpen_lasting (s : State) : lastingNext (execSealOpen s) = some s.lasting := by
  simp only [execSealOpen]
  (repeat' split) <;> simp

@[simp] theorem execSealClose_lasting (s : State) :
    lastingNext (execSealClose s) = some s.lasting := by simp [execSealClose]

@[simp] theorem State.auditChange_lasting (s : State) (index : Word) (kind : Byte) (old new : Par) :
    (s.auditChange index kind old new).lasting = s.lasting := by simp [State.auditChange]

@[simp] theorem State.activateImage_lasting (s : State) : s.activateImage.lasting = s.lasting := by
  unfold State.activateImage
  split <;> simp

@[simp] theorem execSelfTestDone_lasting (imageOk paramsOk nvmOk auditOk crystalOk noiseOk : Bool) (nonce : Par)
    (key : BitVec 256) (s : State) :
    lastingNext (execSelfTestDone imageOk paramsOk nvmOk auditOk crystalOk noiseOk nonce key s) = some s.lasting := by
  simp [execSelfTestDone]

@[simp] theorem State.logEpochs_lasting (s : State) (m : MainImage) (l : Option LegalImage) (result : Nat)
    (forced : Bool) :
    (s.logEpochs m l result forced).lasting = s.lasting := by simp [State.logEpochs]

@[simp] theorem execEpochCheck_lasting (s : State) : lastingNext (execEpochCheck s) = some s.lasting := by
  unfold execEpochCheck
  split <;> simp

@[simp] theorem execUkI_lasting (s : State) : lastingNext (execUkI s) = some s.lasting := by simp [execUkI]

@[simp] theorem execUkA_lasting (s : State) : lastingNext (execUkA s) = some s.lasting := by simp [execUkA]

@[simp] theorem execUkR_lasting (index : Word) (s : State) :
    lastingNext (execUkR index s) = some s.lasting := by simp [execUkR]

@[simp] theorem execUkW_lasting (index : Word) (v : Par) (s : State) :
    lastingNext (execUkW index v s) = some s.lasting := by
  unfold execUkW
  (repeat' split) <;> simp

@[simp] theorem execUkU_lasting (data : List Byte) (s : State) : lastingNext (execUkU data s) = some s.lasting := by
  simp only [execUkU]
  (repeat' split) <;> simp

@[simp] theorem execUkMalformedFrame_lasting (s : State) :
    lastingNext (execUkMalformedFrame s) = some s.lasting := by simp [execUkMalformedFrame]

@[simp] theorem State.writeDupHi_lasting (s : State) (v : Fin 8) (x : Word) :
    (s.writeDupHi v x).lasting = s.lasting := by simp [State.writeDupHi]

@[simp] theorem execDupArm_lasting (vi : Fin 8) (v : Word) (s : State) :
    lastingNext (execDupArm vi v s) = some s.lasting := by simp [execDupArm]

/-! ### The management core -/

@[simp] theorem State.mbAnswer_lasting (s : State) (q : MbCommand) (rsp : Byte) (data : List Nat) :
    (s.mbAnswer q rsp data).lasting = s.lasting := by simp [State.mbAnswer]

@[simp] theorem State.mbRefuse_lasting (s : State) (q : MbCommand) (rsp : Byte) :
    (s.mbRefuse q rsp).lasting = s.lasting := by simp [State.mbRefuse]

@[simp] theorem State.u0Send_lasting (s : State) (t : String) (data : List Byte) :
    (s.u0Send t data).lasting = s.lasting := by simp [State.u0Send]

@[simp] theorem State.mbDeliver_lasting (s : State) (a : MbAnswer) : (s.mbDeliver a).lasting = s.lasting := by
  unfold State.mbDeliver
  split <;> simp

@[simp] theorem execMbDone_lasting (s : State) : lastingNext (execMbDone s) = some s.lasting := by
  unfold execMbDone
  split <;> simp

@[simp] theorem State.mbBusyNow_lasting (s : State) (q : MbCommand) : (s.mbBusyNow q).lasting = s.lasting := by
  simp only [State.mbBusyNow]
  split <;> simp

@[simp] theorem State.writeMwCmd_lasting (s : State) (v : Word) :
    (s.writeMwCmd v).lasting = s.lasting := by simp [State.writeMwCmd]

/-- The engine leaves the state, serves a command, or answers one of U0 that it is busy. -/
theorem State.mbServe_cases (s : State) (line : Option MLine) (t : Byte → Bool) (f : MbCommand → State → State) :
    s.mbServe line t f = s ∨ ∃ q, s.mbServe line t f = f q s ∨ s.mbServe line t f = s.mbBusyNow q := by
  unfold State.mbServe
  split
  · exact .inl rfl
  · split
    · split
      · split
        · exact .inr ⟨_, .inl rfl⟩
        · exact .inl rfl
      · exact .inl rfl
    · dsimp only
      split
      · exact .inl rfl
      · split
        · exact .inr ⟨_, .inr rfl⟩
        · exact .inr ⟨_, .inl rfl⟩

theorem State.mbServe_lasting (s : State) (line : Option MLine) (t : Byte → Bool) (f : MbCommand → State → State)
    (hf : ∀ q u, (f q u).lasting = u.lasting) : (s.mbServe line t f).lasting = s.lasting := by
  obtain h | ⟨q, h | h⟩ := s.mbServe_cases line t f <;> simp [h, hf]

theorem State.mbOpen_lasting {f : MbCommand → State → State} (hf : ∀ q u, (f q u).lasting = u.lasting) (q : MbCommand)
    (s : State) : (State.mbOpen f q s).lasting = s.lasting := by simp [State.mbOpen, hf]

theorem State.mbServe_open_lasting {f : MbCommand → State → State} (hf : ∀ q u, (f q u).lasting = u.lasting) (s : State)
    (line : Option MLine) (t : Byte → Bool) : (s.mbServe line t (State.mbOpen f)).lasting = s.lasting :=
  s.mbServe_lasting line t _ (State.mbOpen_lasting hf)

@[simp] theorem State.mbFill_lasting (s : State) (src : MbSource) (l : List Par) :
    (s.mbFill src l).lasting = s.lasting := by
  unfold State.mbFill
  split <;> simp

@[simp] theorem execInfo_lasting (line : Option MLine) (s : State) :
    lastingNext (execInfo line s) = some s.lasting := congrArg some (s.mbServe_lasting line _ _ (by simp))

@[simp] theorem State.mbLogRead_lasting (q : MbCommand) (s : State) :
    (State.mbLogRead q s).lasting = s.lasting := by simp [State.mbLogRead]

@[simp] theorem execLogRead_lasting (line : Option MLine) (s : State) :
    lastingNext (execLogRead line s) = some s.lasting :=
  congrArg some (State.mbServe_open_lasting State.mbLogRead_lasting s line _)

@[simp] theorem execMbUnknown_lasting (line : Option MLine) (s : State) :
    lastingNext (execMbUnknown line s) = some s.lasting :=
  congrArg some (State.mbServe_open_lasting (by simp) s line _)

@[simp] theorem State.confirmImage_lasting (s : State) :
    s.confirmImage.lasting = s.lasting := by simp [State.confirmImage]

@[simp] theorem State.mbConfirm_lasting (q : MbCommand) (s : State) :
    (State.mbConfirm q s).lasting = s.lasting := by simp [State.mbConfirm]

@[simp] theorem execConfirm_lasting (line : Option MLine) (s : State) :
    lastingNext (execConfirm line s) = some s.lasting :=
  congrArg some (State.mbServe_open_lasting State.mbConfirm_lasting s line _)

@[simp] theorem execTrialConfirm_lasting (s : State) :
    lastingNext (execTrialConfirm s) = some s.lasting := by simp [execTrialConfirm]

@[simp] theorem State.flashRose_lasting (s : State) : s.flashRose.lasting = s.lasting := by simp [State.flashRose]

@[simp] theorem State.setUpdate_lasting (s : State) (st : UpdateState) :
    (s.setUpdate st).lasting = s.lasting := by simp [State.setUpdate]

@[simp] theorem State.leaveUpdate_lasting (s : State) : s.leaveUpdate.lasting = s.lasting := by simp [State.leaveUpdate]

@[simp] theorem State.failSession_lasting (s : State) : s.failSession.lasting = s.lasting := by
  unfold State.failSession
  split <;> simp

@[simp] theorem State.invalidateTarget_lasting (s : State) :
    s.invalidateTarget.lasting = s.lasting := by simp [State.invalidateTarget]

@[simp] theorem State.updAnswer_lasting (s : State) (q : MbCommand) (rsp : Byte) (data : List Nat) :
    (s.updAnswer q rsp data).lasting = s.lasting := by simp [State.updAnswer]

@[simp] theorem State.flashFell_lasting (s : State) : s.flashFell.lasting = s.lasting := by
  unfold State.flashFell
  split <;> simp

@[simp] theorem State.mbUpdBegin_lasting (flash : Bool) (q : MbCommand) (s : State) :
    (State.mbUpdBegin flash q s).lasting = s.lasting := by
  simp only [State.mbUpdBegin]
  (repeat' split) <;> simp

@[simp] theorem execUpdBegin_lasting (line : Option MLine) (flash : Bool) (s : State) :
    lastingNext (execUpdBegin line flash s) = some s.lasting :=
  congrArg some (State.mbServe_open_lasting (State.mbUpdBegin_lasting flash) s line _)

theorem State.inSession_lasting {f : Session → MbCommand → State → State}
    (hf : ∀ x q u, (f x q u).lasting = u.lasting) (q : MbCommand) (s : State) :
    (State.inSession f q s).lasting = s.lasting := by
  unfold State.inSession
  (repeat' split) <;> simp [hf]

@[simp] theorem State.storeImage_lasting (s : State) (m : List Byte) :
    (s.storeImage m).lasting = s.lasting := by simp [State.storeImage]

@[simp] theorem State.mbUpdChunk_lasting (flash : Bool) (x : Session) (q : MbCommand) (s : State) :
    (State.mbUpdChunk flash x q s).lasting = s.lasting := by simp [State.mbUpdChunk]

@[simp] theorem execUpdChunk_lasting (line : Option MLine) (flash : Bool) (s : State) :
    lastingNext (execUpdChunk line flash s) = some s.lasting :=
  congrArg some (State.mbServe_open_lasting (State.inSession_lasting (State.mbUpdChunk_lasting flash)) s line _)

@[simp] theorem State.endFailed_lasting (s : State) (q : MbCommand) (rsp : Byte) :
    (s.endFailed q rsp).lasting = s.lasting := by simp [State.endFailed]

@[simp] theorem State.activateMain_lasting (s : State) (m : MainImage) :
    (s.activateMain m).lasting = s.lasting := by simp [State.activateMain]

@[simp] theorem State.mbUpdEnd_lasting (flash : Bool) (x : Session) (q : MbCommand) (s : State) :
    (State.mbUpdEnd flash x q s).lasting = s.lasting := by simp [State.mbUpdEnd]

@[simp] theorem execUpdEnd_lasting (line : Option MLine) (flash : Bool) (s : State) :
    lastingNext (execUpdEnd line flash s) = some s.lasting :=
  congrArg some (State.mbServe_open_lasting (State.inSession_lasting (State.mbUpdEnd_lasting flash)) s line _)

@[simp] theorem execUpdAbort_lasting (line : Option MLine) (s : State) :
    lastingNext (execUpdAbort line s) = some s.lasting :=
  congrArg some (State.mbServe_open_lasting (State.inSession_lasting (by simp)) s line _)

@[simp] theorem execSessionTimeout_lasting (s : State) :
    lastingNext (execSessionTimeout s) = some s.lasting := by simp [execSessionTimeout]

@[simp] theorem execMwBufRead_lasting (s : State) :
    lastingNext (execMwBufRead s) = some s.lasting := by simp [execMwBufRead]

@[simp] theorem State.writeMwBuf_lasting (s : State) (v : Word) :
    (s.writeMwBuf v).lasting = s.lasting := by simp [State.writeMwBuf]

@[simp] theorem execMwBufWrite_lasting (v : Word) (s : State) :
    lastingNext (execMwBufWrite v s) = some s.lasting := by simp [execMwBufWrite]

@[simp] theorem execU0B_lasting (off : Nat) (data : List Byte) (s : State) :
    lastingNext (execU0B off data s) = some s.lasting := by simp [execU0B]

@[simp] theorem execU0G_lasting (off len : Nat) (s : State) :
    lastingNext (execU0G off len s) = some s.lasting := by simp [execU0G]

@[simp] theorem execU0UnmatchedLine_lasting (s : State) :
    lastingNext (execU0UnmatchedLine s) = some s.lasting := by simp [execU0UnmatchedLine]

@[simp] theorem State.commitOldest_lasting (s : State) (erase : Bool) : (s.commitOldest erase).lasting = s.lasting := by
  unfold State.commitOldest
  split <;> simp

@[simp] theorem State.commitThermal_lasting (s : State) : s.commitThermal.lasting = s.lasting := by
  unfold State.commitThermal
  split <;> simp

@[simp] theorem execLogCommit_lasting (s : State) : lastingNext (execLogCommit s) = some s.lasting := by
  unfold execLogCommit
  split
  · split
    · simp
    · have h : (if s.mgmt.eraseOwed then s.onMgmt Mgmt.eraseNext else s).lasting = s.lasting := by
        rw [State.lasting_ite, State.onMgmt_lasting s Mgmt.eraseNext fun _ => rfl, ite_self]
      simp [h]
  · rfl

/-! ### Converters and monitors -/

@[simp] theorem State.convEvery_lasting (s : State) (interval : Nat) (x : Fin 2) (prio number : Nat) :
    (s.convEvery interval x prio number).lasting = s.lasting := by simp [State.convEvery]

@[simp] theorem State.headDue_lasting (s : State) (h : Fin 4) :
    (s.headDue h).lasting = s.lasting := by simp [State.headDue]

@[simp] theorem State.convMicro_lasting (s : State) : s.convMicro.lasting = s.lasting := by simp [State.convMicro]

@[simp] theorem State.adcOff_lasting (s : State) (x : Fin 2) :
    (s.adcOff x).lasting = s.lasting := by simp [State.adcOff]

@[simp] theorem State.adcTrigger_lasting (s : State) (x : Fin 2) :
    (s.adcTrigger x).lasting = s.lasting := by simp [State.adcTrigger]

@[simp] theorem execSequencerTrigger_lasting (x : Fin 2) (s : State) :
    lastingNext (execSequencerTrigger x s) = some s.lasting := by simp [execSequencerTrigger]

@[simp] theorem State.adcCtrl_lasting (s : State) (x : Fin 2) (v : Par) :
    (s.adcCtrl x v).lasting = s.lasting := by simp [State.adcCtrl]

@[simp] theorem execPassDelayEnd_lasting (x : Fin 2) (s : State) :
    lastingNext (execPassDelayEnd x s) = some s.lasting := by simp [execPassDelayEnd]

@[simp] theorem State.endEntry_lasting (s : State) (x : Fin 2) :
    (s.endEntry x).lasting = s.lasting := by simp [State.endEntry]

@[simp] theorem execConversionDone_lasting (x : Fin 2) (code : BitVec 12) (postponed : Bool) (s : State) :
    lastingNext (execConversionDone x code postponed s) = some s.lasting := by simp [execConversionDone]

@[simp] theorem execPlausibilityCheck_lasting (p : Fin 4) (made : Bool) (codeA codeB : BitVec 12) (s : State) :
    lastingNext (execPlausibilityCheck p made codeA codeB s) = some s.lasting := by simp [execPlausibilityCheck]

@[simp] theorem State.setLevel_lasting (s : State) (l : Fin 3) :
    (s.setLevel l).lasting = s.lasting := by simp [State.setLevel]

@[simp] theorem State.setFlashOk_lasting (s : State) (ok : Bool) :
    (s.setFlashOk ok).lasting = s.lasting := by simp [State.setFlashOk]

@[simp] theorem execDieTempUpdate_lasting (code : BitVec 12) (s : State) :
    lastingNext (execDieTempUpdate code s) = some s.lasting := by simp [execDieTempUpdate]

@[simp] theorem execThermalTrip_lasting (s : State) : lastingNext (execThermalTrip s) = some s.lasting := by
  unfold execThermalTrip
  split <;> simp

@[simp] theorem State.supplyEvent_lasting (s : State) (k : Fin 8) (before after fault : Bool) :
    (s.supplyEvent k before after fault).lasting = s.lasting := by simp [State.supplyEvent]

@[simp] theorem execSupplyMonitorSample_lasting (k : Fin 8) (code : BitVec 12) (s : State) :
    lastingNext (execSupplyMonitorSample k code s) = some s.lasting := by simp [execSupplyMonitorSample]

/-! ### Grit -/

@[simp] theorem State.gritBlock_lasting (s : State) (cause : Nat) (before : Bool) :
    (s.gritBlock cause before).lasting = s.lasting := by simp [State.gritBlock]

@[simp] theorem State.sourceFails_lasting (s : State) (x : Fin 2) (kinds : BitVec 3) :
    (s.sourceFails x kinds).lasting = s.lasting := by
  unfold State.sourceFails
  split <;> simp

@[simp] theorem execHealthTest_lasting (x : Fin 2) (ringA ringB : Nat) (samples : List Bool) (s : State) :
    lastingNext (execHealthTest x ringA ringB samples s) = some s.lasting := by simp [execHealthTest]

@[simp] theorem execGritRestored_lasting (x : Fin 2) (s : State) :
    lastingNext (execGritRestored x s) = some s.lasting := by simp [execGritRestored]

@[simp] theorem execLatchFiring_lasting (x : Fin 2) (b : Bool) (s : State) :
    lastingNext (execLatchFiring x b s) = some s.lasting := by simp [execLatchFiring]

@[simp] theorem execEntropyInputRelease_lasting (s : State) :
    lastingNext (execEntropyInputRelease s) = some s.lasting := by
  unfold execEntropyInputRelease
  split <;> simp

@[simp] theorem execReseedSlot_lasting (s : State) : lastingNext (execReseedSlot s) = some s.lasting := by
  unfold execReseedSlot
  split <;> simp

@[simp] theorem execGenerateRequest_lasting (i : Fin 10) (s : State) :
    lastingNext (execGenerateRequest i s) = some s.lasting := by
  unfold execGenerateRequest
  split <;> simp

@[simp] theorem State.eraseInst_lasting (s : State) (v : Fin 8) :
    (s.eraseInst v).lasting = s.lasting := by simp [State.eraseInst]

@[simp] theorem State.randEmpty_lasting (s : State) (w : Fin 9) :
    (s.randEmpty w).lasting = s.lasting := by simp [State.randEmpty]

@[simp] theorem execRandLoRead_lasting (w : Fin 9) (s : State) : lastingNext (execRandLoRead w s) = some s.lasting := by
  unfold execRandLoRead
  (repeat' split) <;> simp

@[simp] theorem execRandHiRead_lasting (w : Fin 9) (s : State) :
    lastingNext (execRandHiRead w s) = some s.lasting := by simp [execRandHiRead]

@[simp] theorem State.startRaw_lasting (s : State) : s.startRaw.lasting = s.lasting := by simp [State.startRaw]

@[simp] theorem State.switchSource_lasting (s : State) :
    s.switchSource.lasting = s.lasting := by simp [State.switchSource]

@[simp] theorem State.gritCtrl_lasting (s : State) (v : Par) :
    (s.gritCtrl v).lasting = s.lasting := by simp [State.gritCtrl]

@[simp] theorem State.gritRawCfg_lasting (s : State) (v : Par) :
    (s.gritRawCfg v).lasting = s.lasting := by simp [State.gritRawCfg]

/-! ### Serial ports -/

@[simp] theorem State.raiseSer_lasting (s : State) (p : Fin 3) (code aux : Byte) (payload : Word) :
    (s.raiseSer p code aux payload).lasting = s.lasting := by
  unfold State.raiseSer
  split <;> simp

@[simp] theorem State.reportRate_lasting (s : State) (p : Fin 3) :
    (s.reportRate p).lasting = s.lasting := by simp [State.reportRate]

@[simp] theorem State.reportRates_lasting (s : State) : s.reportRates.lasting = s.lasting := by simp [State.reportRates]

@[simp] theorem State.serClock_lasting (s : State) : s.serClock.lasting = s.lasting := by simp [State.serClock]

@[simp] theorem State.serRetrim_lasting (s : State) (p : Fin 3) :
    (s.serRetrim p).lasting = s.lasting := by simp [State.serRetrim]

@[simp] theorem execTrimMeasure_lasting (fMeas : Word) (s : State) :
    lastingNext (execTrimMeasure fMeas s) = some s.lasting := by simp [execTrimMeasure]

@[simp] theorem State.serNext_lasting (s : State) (p : Fin 3) :
    (s.serNext p).lasting = s.lasting := by simp [State.serNext]

@[simp] theorem State.serCount_lasting (s : State) (p : Fin 3) (kind : Nat) :
    (s.serCount p kind).lasting = s.lasting := by simp [State.serCount]

@[simp] theorem State.serWrite_lasting (s : State) (v : Fin 8) (p : Fin 3) (x : Word) :
    (s.serWrite v p x).lasting = s.lasting := by simp [State.serWrite]

@[simp] theorem execSerDataWrite_lasting (w : Fin 9) (p : Fin 3) (x : Word) (s : State) :
    lastingNext (execSerDataWrite w p x s) = some s.lasting := by
  unfold execSerDataWrite
  split <;> simp

@[simp] theorem State.serCtrl_lasting (s : State) (v : Fin 8) (x : Word) :
    (s.serCtrl v x).lasting = s.lasting := by simp [State.serCtrl]

@[simp] theorem State.serCtrlWin_lasting (s : State) (w : Fin 9) (x : Word) :
    (s.serCtrlWin w x).lasting = s.lasting := by
  unfold State.serCtrlWin
  split <;> simp

@[simp] theorem execSendBreak_lasting (w : Fin 9) (x : Word) (s : State) :
    lastingNext (execSendBreak w x s) = some s.lasting := by simp [execSendBreak]

@[simp] theorem execFlushRx_lasting (w : Fin 9) (x : Word) (s : State) :
    lastingNext (execFlushRx w x s) = some s.lasting := by simp [execFlushRx]

@[simp] theorem execFlushTx_lasting (w : Fin 9) (x : Word) (s : State) :
    lastingNext (execFlushTx w x s) = some s.lasting := by simp [execFlushTx]

@[simp] theorem State.serTakeOver_lasting (s : State) (p : Fin 3) (o : BitVec 4) :
    (s.serTakeOver p o).lasting = s.lasting := by
  unfold State.serTakeOver
  split <;> simp

@[simp] theorem State.serOwnerWrite_lasting (s : State) (v : Par) :
    (s.serOwnerWrite v).lasting = s.lasting := by simp [State.serOwnerWrite]

@[simp] theorem execCharacterSent_lasting (p : Fin 3) (s : State) :
    lastingNext (execCharacterSent p s) = some s.lasting := by
  unfold execCharacterSent
  (repeat' split) <;> simp

@[simp] theorem State.serViReset_lasting (s : State) (v : Fin 8) :
    (s.serViReset v).lasting = s.lasting := by simp [State.serViReset]

@[simp] theorem State.serSilence_lasting (s : State) : s.serSilence.lasting = s.lasting := by simp [State.serSilence]

@[simp] theorem State.serStop_lasting (s : State) : s.serStop.lasting = s.lasting := by simp [State.serStop]

@[simp] theorem State.serLevel_lasting (s : State) (p : Fin 3) (before : Nat) :
    (s.serLevel p before).lasting = s.lasting := by simp [State.serLevel]

@[simp] theorem State.serArrive_lasting (s : State) (p : Fin 3) (e : Word) :
    (s.serArrive p e).lasting = s.lasting := by simp [State.serArrive]

@[simp] theorem execCharacterReceived_lasting (p : Fin 3) (ch : Byte) (parity stop : Bool) (s : State) :
    lastingNext (execCharacterReceived p ch parity stop s) = some s.lasting := by simp [execCharacterReceived]

@[simp] theorem execBreakRx_lasting (p : Fin 3) (length : Nat) (s : State) :
    lastingNext (execBreakRx p length s) = some s.lasting := by simp [execBreakRx]

@[simp] theorem execSerRxTimeout_lasting (p : Fin 3) (s : State) :
    lastingNext (execSerRxTimeout p s) = some s.lasting := by simp [execSerRxTimeout]

@[simp] theorem execSerDataRead_lasting (w : Fin 9) (p : Fin 3) (s : State) :
    lastingNext (execSerDataRead w p s) = some s.lasting := by
  unfold execSerDataRead
  (repeat' split) <;> simp

@[simp] theorem State.serErrClear_lasting (s : State) (idx : Nat) (vi : Option (Fin 8)) :
    (s.serErrClear idx vi).lasting = s.lasting := by
  simp only [State.serErrClear]
  split <;> simp

/-! ### Marl -/

@[simp] theorem State.setBuffer_lasting (s : State) (i : Fin 8) (b : Option IngestBuffer) :
    (s.setBuffer i b).lasting = s.lasting := by simp [State.setBuffer]

@[simp] theorem State.dropWaiting_lasting (s : State) (v : Fin 8) (band : Nat) :
    (s.dropWaiting v band).lasting = s.lasting := by
  unfold State.dropWaiting
  refine foldl_lasting (fun u e => ?_) _ _
  split <;> simp

@[simp] theorem State.closeBand_lasting (s : State) (v : Fin 8) : (s.closeBand v).lasting = s.lasting := by
  unfold State.closeBand
  split <;> simp

theorem State.putByte_lasting (s : State) (v : Fin 8) (x : Byte) :
    ∀ u, s.putByte v x = some u → u.lasting = s.lasting := by
  unfold State.putByte
  (repeat' split) <;> simp

@[simp] theorem State.putQueued_lasting (s : State) (v : Fin 8) (l : List Byte) :
    (s.putQueued v l).lasting = s.lasting := by
  induction l generalizing s with
  | nil => rfl
  | cons x t ih =>
    unfold State.putQueued
    split
    next u hu => rw [ih, s.putByte_lasting v x u hu]
    next => rfl

@[simp] theorem State.putBytes_lasting (s : State) (v : Fin 8) (l : List Byte) :
    (s.putBytes v l).lasting = s.lasting := by simp [State.putBytes]

theorem State.yield_lasting (s : State) (v : Fin 8) (l : List Byte) :
    ∀ u, s.yield v l = some u → u.lasting = s.lasting := by
  unfold State.yield
  split <;> simp

@[simp] theorem State.countSpeckle_lasting (s : State) (v : Fin 8) (n : Nat) :
    (s.countSpeckle v n).lasting = s.lasting := by simp [State.countSpeckle]

theorem State.speckleByte_lasting (s : State) (v : Fin 8) (x : Byte) :
    ∀ u, s.speckleByte v x = some u → u.lasting = s.lasting := by
  unfold State.speckleByte
  dsimp only
  split
  · simp
  · split
    · simp
    · intro u hu
      obtain ⟨t, ht, rfl⟩ := Option.map_eq_some_iff.mp hu
      simpa using s.yield_lasting v _ t ht

theorem State.ditherByte_lasting (s : State) (v : Fin 8) (x : Byte) :
    ∀ u, s.ditherByte v x = some u → u.lasting = s.lasting := by
  intro u
  unfold State.ditherByte
  dsimp only
  split
  · rintro ⟨⟩
    rfl
  · intro hu
    rw [State.yield_lasting _ v _ u hu, State.onIngest_lasting]

theorem State.ingestByte_lasting (s : State) (v : Fin 8) (x : Byte) :
    ∀ u, s.ingestByte v x = some u → u.lasting = s.lasting := by
  unfold State.ingestByte
  split
  · exact s.speckleByte_lasting v x
  · exact s.ditherByte_lasting v x
  · exact s.yield_lasting v [x]

@[simp] theorem State.speckleFlush_lasting (s : State) (v : Fin 8) :
    (s.speckleFlush v).lasting = s.lasting := by simp [State.speckleFlush]

@[simp] theorem State.gatherRest_lasting (s : State) (v : Fin 8) :
    (s.gatherRest v).lasting = s.lasting := by simp [State.gatherRest]

@[simp] theorem State.handBand_lasting (s : State) (v : Fin 8) : (s.handBand v).lasting = s.lasting := by
  simp only [State.handBand]
  split <;> simp

@[simp] theorem State.flushBand_lasting (s : State) (v : Fin 8) :
    (s.flushBand v).2.lasting = s.lasting := by simp [State.flushBand, apply_ite Prod.snd]

@[simp] theorem State.drainLoop_lasting (s : State) (v : Fin 8) (n : Nat) : (s.drainLoop v n).lasting = s.lasting := by
  induction n generalizing s with
  | zero => rfl
  | succ n ih =>
    unfold State.drainLoop
    dsimp only
    split
    · rfl
    · split
      · split <;> simp [ih]
      · split
        · rfl
        · split
          next u hu =>
            obtain ⟨a, ha, hb⟩ := Option.bind_eq_some_iff.mp hu
            simp [ih, a.ingestByte_lasting v _ u hb, s.ingestByte_lasting v _ a ha]
          next => rfl

@[simp] theorem State.drain_lasting (s : State) (v : Fin 8) : (s.drain v).lasting = s.lasting := by simp [State.drain]

@[simp] theorem State.drainAll_lasting (s : State) : s.drainAll.lasting = s.lasting := by simp [State.drainAll]

@[simp] theorem State.stopStream_lasting (s : State) (v : Fin 8) :
    (s.stopStream v).lasting = s.lasting := by simp [State.stopStream]

@[simp] theorem State.acceptHalf_lasting (s : State) (v : Fin 8) (x : Word) :
    (s.acceptHalf v x).lasting = s.lasting := by simp [State.acceptHalf]

@[simp] theorem execDataPortWrite_lasting (vi : Fin 8) (v : Word) (s : State) :
    lastingNext (execDataPortWrite vi v s) = some s.lasting := by simp [execDataPortWrite]

@[simp] theorem execFifoPlaceFree_lasting (vi : Fin 8) (s : State) :
    lastingNext (execFifoPlaceFree vi s) = some s.lasting := by
  simp only [execFifoPlaceFree]
  split <;> simp

@[simp] theorem State.popHalf_lasting (s : State) (v : Fin 8) : (s.popHalf v).lasting = s.lasting := by
  unfold State.popHalf
  split <;> simp

@[simp] theorem execDataPortRead_lasting (vi : Fin 8) (s : State) :
    lastingNext (execDataPortRead vi s) = some s.lasting := by simp [execDataPortRead]

@[simp] theorem State.dataLost_lasting (s : State) (v : Fin 8) (aux : Byte) :
    (s.dataLost v aux).lasting = s.lasting := by simp [State.dataLost]

@[simp] theorem execDataPortTimeout_lasting (vi : Fin 8) (s : State) :
    lastingNext (execDataPortTimeout vi s) = some s.lasting := by simp [execDataPortTimeout]

@[simp] theorem State.leavePage_lasting (s : State) (v : Fin 8) : (s.leavePage v).lasting = s.lasting := by
  unfold State.leavePage
  split <;> simp

@[simp] theorem State.fetchHalves_lasting (s : State) (v : Fin 8) :
    (s.fetchHalves v).lasting = s.lasting := by simp [State.fetchHalves]

@[simp] theorem execReadStreamFill_lasting (vi : Fin 8) (s : State) :
    lastingNext (execReadStreamFill vi s) = some s.lasting := by simp [execReadStreamFill]

@[simp] theorem State.marlAccrue_lasting (s : State) : s.marlAccrue.lasting = s.lasting := by simp [State.marlAccrue]

@[simp] theorem State.storeFull_lasting (s : State) (i : Fin 8) (b : IngestBuffer) (quota : Bool) :
    (s.storeFull i b quota).lasting = s.lasting := by simp [State.storeFull]

@[simp] theorem State.marlStart_lasting (s : State) (waitClocks n : Nat) (l : List (Fin 8)) :
    (s.marlStart waitClocks n l).lasting = s.lasting := by
  induction n generalizing s l with
  | zero => rfl
  | succ n ih =>
    unfold State.marlStart
    split
    · rfl
    · split
      · rfl
      · dsimp only
        split
        · simp [ih]
        · split
          next => simp [ih]
          next l u hu => simpa using s.reserveChunks_lasting _ _ _ hu

@[simp] theorem execMarlBlockStart_lasting (waitClocks : Nat) (s : State) :
    lastingNext (execMarlBlockStart waitClocks s) = some s.lasting := by simp [execMarlBlockStart]

@[simp] theorem State.placeBlock_lasting (s : State) (q : Coding) (b : IngestBuffer) (block : List Byte) :
    (s.placeBlock q b block).lasting = s.lasting := by simp [State.placeBlock]

@[simp] theorem State.judgeBlock_lasting (s : State) (b : IngestBuffer) (block : List Byte) :
    (s.judgeBlock b block).lasting = s.lasting := by simp [State.judgeBlock]

@[simp] theorem execBlockPlaced_lasting (verifyOk : Bool) (s : State) :
    lastingNext (execBlockPlaced verifyOk s) = some s.lasting := by
  unfold execBlockPlaced
  (repeat' split) <;> simp

@[simp] theorem State.discardBlock_lasting (s : State) (v : Fin 8) (band : Nat) :
    (s.discardBlock v band).lasting = s.lasting := by
  simp only [State.discardBlock]
  (repeat' split) <;> simp

@[simp] theorem State.discardMarl_lasting (s : State) (v : Fin 8) : (s.discardMarl v).lasting = s.lasting := by
  simp only [State.discardMarl, State.onIngest_lasting]
  refine foldl_lasting (fun u i => ?_) _ _
  (repeat' split) <;> simp

/-! ### Silt -/

@[simp] theorem State.pruneFaults_lasting (s : State) : s.pruneFaults.lasting = s.lasting := by simp [State.pruneFaults]

@[simp] theorem execBandDecodeStart_lasting (s : State) : lastingNext (execBandDecodeStart s) = some s.lasting := by
  simp only [execBandDecodeStart]
  (repeat' split) <;> simp

@[simp] theorem State.enterPage_lasting (s : State) (v : Fin 8) (p f : Nat) (l : List Byte) :
    (s.enterPage v p f l).lasting = s.lasting := by simp [State.enterPage]

@[simp] theorem State.faultsOver_lasting (s : State) (v : Fin 8) (p : Nat) :
    (s.faultsOver v p).lasting = s.lasting := by simp [State.faultsOver]

@[simp] theorem State.keepPage_lasting (s : State) (d : Decode) (l : List Byte) :
    (s.keepPage d l).lasting = s.lasting := by
  simp only [State.keepPage]
  split
  · simp
  · split <;> simp [s.takeFrame_lasting d.vi]

@[simp] theorem State.raiseDecodeFail_lasting (s : State) (v : Fin 8) (band check : Nat) :
    (s.raiseDecodeFail v band check).lasting = s.lasting := by simp [State.raiseDecodeFail]

@[simp] theorem State.decodeFails_lasting (s : State) (v : Fin 8) (band check : Nat) :
    (s.decodeFails v band check).lasting = s.lasting := by simp [State.decodeFails]

@[simp] theorem State.endDecode_lasting (s : State) : s.endDecode.lasting = s.lasting := by simp [State.endDecode]

@[simp] theorem State.finishFreed_lasting (s : State) (d : Decode) (l : List Byte) :
    (s.finishFreed d l).lasting = s.lasting := by
  unfold State.finishFreed
  split <;> simp

@[simp] theorem State.finishPage_lasting (s : State) (d : Decode) : (s.finishPage d).lasting = s.lasting := by
  unfold State.finishPage
  (repeat' split) <;> simp

@[simp] theorem execFaultResolved_lasting (s : State) : lastingNext (execFaultResolved s) = some s.lasting := by
  unfold execFaultResolved
  (repeat' split) <;> simp

@[simp] theorem execQuotaReplace_lasting (s : State) : lastingNext (execQuotaReplace s) = some s.lasting := by
  refine congrArg some (foldl_lasting (fun u v => ?_) _ _)
  split
  · split <;> simp
  · rfl

@[simp] theorem State.writeDiscard_lasting (s : State) (v : Fin 8) (x : Par) :
    (s.writeDiscard v x).1.lasting = s.lasting := by simp [State.writeDiscard, apply_ite Prod.fst]

@[simp] theorem State.writeArbApply_lasting (s : State) (x : Par) :
    (s.writeArbApply x).1.lasting = s.lasting := by simp [State.writeArbApply, apply_ite Prod.fst]

@[simp] theorem State.arbClocks_lasting (s : State) (n : Nat) :
    (s.arbClocks n).lasting = s.lasting := by simp [State.arbClocks]

@[simp] theorem State.arbMicro_lasting (s : State) : s.arbMicro.lasting = s.lasting := by simp [State.arbMicro]

@[simp] theorem execTableCommit_lasting (s : State) :
    lastingNext (execTableCommit s) = some s.lasting := by simp [execTableCommit]

@[simp] theorem State.memoryLost_lasting (s : State) : s.memoryLost.lasting = s.lasting := by
  simp only [State.memoryLost, State.refreshHeads_lasting, State.pruneFaults_lasting, State.onMarl_lasting,
    State.onSilt_lasting]
  rw [foldl_lasting]
  · simp
  · intro u g
    split
    · split <;> simp
    · rfl

/-! ### Data streams -/

theorem State.drawSeed_lasting (s : State) : ∀ u, s.drawSeed = some u → u.2.lasting = s.lasting := by
  simp only [State.drawSeed]
  (repeat' split) <;> simp

@[simp] theorem State.refuseStart_lasting (s : State) (v : Fin 8) :
    (s.refuseStart v).lasting = s.lasting := by simp [State.refuseStart]

@[simp] theorem State.endEarlier_lasting (s : State) (v : Fin 8) :
    (s.endEarlier v).lasting = s.lasting := by simp [State.endEarlier]

@[simp] theorem State.startRead_lasting (s : State) (v : Fin 8) :
    (s.startRead v).lasting = s.lasting := by simp [State.startRead]

@[simp] theorem State.runWrite_lasting (s : State) (v : Fin 8) (mode : BitVec 2) (bpl : Nat) (lfsr : Word) :
    (s.runWrite v mode bpl lfsr).lasting = s.lasting := by simp [State.runWrite]

@[simp] theorem State.startWrite_lasting (s : State) (v : Fin 8) : (s.startWrite v).lasting = s.lasting := by
  simp only [State.startWrite]
  split
  · simp
  · split
    · split
      · simp
      next x u hu =>
        have h : u.lasting = s.lasting := by
          split at hu
          · cases hu
            rfl
          · exact s.drawSeed_lasting _ hu
        simp [h]
    · simp

@[simp] theorem State.closeSoon_lasting (s : State) (v : Fin 8) :
    (s.closeSoon v).lasting = s.lasting := by simp [State.closeSoon]

@[simp] theorem State.stopHost_lasting (s : State) (v : Fin 8) :
    (s.stopHost v).lasting = s.lasting := by simp [State.stopHost]

@[simp] theorem State.writeDataCtrl_lasting (s : State) (v : Fin 8) (x : Word) :
    (s.writeDataCtrl v x).lasting = s.lasting := by simp [State.writeDataCtrl]

@[simp] theorem execDataStreamStart_lasting (vi : Fin 8) (ctrl : Word) (s : State) :
    lastingNext (execDataStreamStart vi ctrl s) = some s.lasting := by simp [execDataStreamStart]

@[simp] theorem execDataStreamStop_lasting (vi : Fin 8) (ctrl : Word) (s : State) :
    lastingNext (execDataStreamStop vi ctrl s) = some s.lasting := by simp [execDataStreamStop]

@[simp] theorem execFlush_lasting (vi : Fin 8) (ctrl : Word) (s : State) :
    lastingNext (execFlush vi ctrl s) = some s.lasting := by simp [execFlush]

@[simp] theorem State.writeDataAddr_lasting (s : State) (v : Fin 8) (high : Bool) (x : Word) :
    (s.writeDataAddr v high x).lasting = s.lasting := by simp [State.writeDataAddr]

/-! ### Virtual instances -/

@[simp] theorem State.contractWrite_lasting (s : State) (v : Fin 8) (k : Fin 20) (x : Par) :
    (s.contractWrite v k x).lasting = s.lasting := by simp [State.contractWrite]

@[simp] theorem State.retire_lasting (s : State) (v : Fin 8) : (s.retire v).lasting = s.lasting := by
  unfold State.retire
  split <;> simp

@[simp] theorem State.writeEnBit_lasting (s : State) (v : Fin 8) (b : Bool) :
    (s.writeEnBit v b).lasting = s.lasting := by simp [State.writeEnBit]

@[simp] theorem State.writeViEn_lasting (s : State) (x : Word) :
    (s.writeViEn x).lasting = s.lasting := by simp [State.writeViEn]

@[simp] theorem State.handleEnable_lasting (s : State) (v : Fin 8) :
    (s.handleEnable v).lasting = s.lasting := by simp [State.handleEnable]

@[simp] theorem State.handleClears_lasting (s : State) (v : Fin 8) : (s.handleClears v).lasting = s.lasting := by
  unfold State.handleClears
  split <;> simp

@[simp] theorem execViEnable_lasting (vi : Fin 8) (s : State) : lastingNext (execViEnable vi s) = some s.lasting := by
  unfold execViEnable
  (repeat' split) <;> simp

@[simp] theorem execViRetire_lasting (vi : Fin 8) (s : State) :
    lastingNext (execViRetire vi s) = some s.lasting := by simp [execViRetire]

@[simp] theorem State.requestReset_lasting (s : State) (v : Fin 8) (src : ResetSource) :
    (s.requestReset v src).lasting = s.lasting := by simp [State.requestReset]

@[simp] theorem State.writeViReset_lasting (s : State) (v : Word) :
    (s.writeViReset v).lasting = s.lasting := by simp [State.writeViReset]

@[simp] theorem execHvViReset_lasting (v : Word) (s : State) :
    lastingNext (execHvViReset v s) = some s.lasting := by simp [execHvViReset]

@[simp] theorem State.stopViRuns_lasting (s : State) (v : Fin 8) : (s.stopViRuns v).lasting = s.lasting := by
  unfold State.stopViRuns
  refine foldl_lasting (fun u e => ?_) _ _
  split <;> simp

@[simp] theorem State.dropGuests_lasting (s : State) (v : Fin 8) : (s.dropGuests v).lasting = s.lasting := by
  unfold State.dropGuests
  refine foldl_lasting (fun u e => ?_) _ _
  split <;> simp

@[simp] theorem State.dropLoam_lasting (s : State) (v : Fin 8) :
    (s.dropLoam v).lasting = s.lasting := by simp [State.dropLoam]

@[simp] theorem State.keepDecode_lasting (s : State) (v : Fin 8) : (s.keepDecode v).lasting = s.lasting := by
  unfold State.keepDecode
  (repeat' split) <;> simp

@[simp] theorem State.dropRaster_lasting (s : State) (v : Fin 8) :
    (s.dropRaster v).lasting = s.lasting := by simp [State.dropRaster]

@[simp] theorem State.viLampsOff_lasting (s : State) (v : Fin 8) :
    (s.viLampsOff v).lasting = s.lasting := by simp [State.viLampsOff]

@[simp] theorem State.viParams_lasting (s : State) (v : Fin 8) : (s.viParams v).lasting = s.lasting := by
  unfold State.viParams
  exact foldl_lasting (fun u e => by simp) _ _

@[simp] theorem State.viRegisters_lasting (s : State) (v : Fin 8) :
    (s.viRegisters v).lasting = s.lasting := by simp [State.viRegisters]

@[simp] theorem State.dropTenantLegal_lasting (s : State) (v : Fin 8) :
    (s.dropTenantLegal v).lasting = s.lasting := by simp [State.dropTenantLegal]

@[simp] theorem State.resetVi_lasting (s : State) (v : Fin 8) (src : ResetSource) :
    (s.resetVi v src).lasting = s.lasting := by
  unfold State.resetVi
  simp

@[simp] theorem execViResetTakesEffect_lasting (vi : Fin 8) (s : State) :
    lastingNext (execViResetTakesEffect vi s) = some s.lasting := by
  unfold execViResetTakesEffect
  (repeat' split) <;> simp

@[simp] theorem State.freeScrubbed_lasting (s : State) (v : Fin 8) :
    (s.freeScrubbed v).lasting = s.lasting := by simp [State.freeScrubbed]

@[simp] theorem State.resetOver_lasting (s : State) (v : Fin 8) :
    (s.resetOver v).lasting = s.lasting := by simp [State.resetOver]

@[simp] theorem execViResetDone_lasting (vi : Fin 8) (s : State) :
    lastingNext (execViResetDone vi s) = some s.lasting := by
  unfold execViResetDone
  (repeat' split) <;> simp

@[simp] theorem State.failLegalJobs_lasting (s : State) (v : Fin 8) :
    (s.failLegalJobs v).lasting = s.lasting := by simp [State.failLegalJobs]

@[simp] theorem State.raiseOpt_lasting (s : State) (v : Option (Fin 8)) (code aux : Byte) (payload : Word) :
    (s.raiseOpt v code aux payload).lasting = s.lasting := by
  cases v <;> simp [State.raiseOpt]

@[simp] theorem State.loseRole_lasting (s : State) (v : Fin 8) :
    (s.loseRole v).lasting = s.lasting := by simp [State.loseRole]

@[simp] theorem State.moveRole_lasting (s : State) (x : BitVec 4) : (s.moveRole x).lasting = s.lasting := by
  have h : ((roleVi s.bus.legalRole).elim (s.onBus fun b => { b with legalRole := x }) fun v =>
      (s.onBus fun b => { b with legalRole := x }).loseRole v).lasting = s.lasting := by
    cases roleVi s.bus.legalRole <;> simp
  simp [State.moveRole, h]

@[simp] theorem execEvqPop_lasting (w : Fin 9) (s : State) : lastingNext (execEvqPop w s) = some s.lasting := by
  unfold execEvqPop
  (repeat' split) <;> simp

@[simp] theorem execIrqPendWrite_lasting (w : Fin 9) (v : Word) (s : State) :
    lastingNext (execIrqPendWrite w v s) = some s.lasting := by simp [execIrqPendWrite]

/-! ### Parameter writes -/

@[simp] theorem State.hostTime_lasting (s : State) (lo : Par) :
    (s.hostTime lo).lasting = s.lasting := by simp [State.hostTime]

@[simp] theorem State.writeFreeze_lasting (s : State) (v : Word) :
    (s.writeFreeze v).lasting = s.lasting := by simp [State.writeFreeze]

@[simp] theorem State.pwrItemWrite_lasting (s : State) (idx : Nat) (v : Par) :
    (s.pwrItemWrite idx v).lasting = s.lasting := by
  unfold State.pwrItemWrite
  split <;> simp

@[simp] theorem State.serviceItemWrite_lasting (s : State) (idx : Nat) (vi : Option (Fin 8)) (v : Par) :
    (s.serviceItemWrite idx vi v).lasting = s.lasting := by
  unfold State.serviceItemWrite
  split <;> simp

@[simp] theorem State.lowItemWrite_lasting (s : State) (idx : Nat) (vi : Option (Fin 8)) (v : Par) :
    (s.lowItemWrite idx vi v).1.lasting = s.lasting := by
  unfold State.lowItemWrite
  (repeat' split) <;> simp

@[simp] theorem State.itemWrite_lasting (s : State) (w : Fin 11) (idx : Nat) (vi : Option (Fin 8)) (v : Par) :
    (s.itemWrite w idx vi v).1.lasting = s.lasting := by
  unfold State.itemWrite
  (repeat' split) <;> simp

@[simp] theorem State.applyCommit_lasting (s : State) (w : Fin 11) (idx : Nat) (v : Par) :
    (s.applyCommit w idx v).1.lasting = s.lasting := by
  simp only [State.applyCommit]
  (repeat' split) <;> simp

/-! ### Parameter reads -/

@[simp] theorem State.clearItem_lasting (s : State) (idx : Nat) (vi : Option (Fin 8)) :
    (s.clearItem idx vi).lasting = s.lasting := by
  unfold State.clearItem
  split <;> simp

@[simp] theorem State.fetch_lasting (s : State) (w : Fin 11) (idx : Nat) : (s.fetch w idx).2.1.lasting = s.lasting := by
  simp only [State.fetch]
  (repeat' split) <;> simp

/-! ### Accesses of the host bus -/

@[simp] theorem State.raiseBusError_lasting (s : State) :
    s.raiseBusError.lasting = s.lasting := by simp [State.raiseBusError]

@[simp] theorem State.countAccess_lasting (s : State) (w : Nat) (off : BitVec 6) (write : Bool) (kind : Nat) :
    (s.countAccess w off write kind).lasting = s.lasting := by simp [State.countAccess]

@[simp] theorem execCountedAccess_lasting (w : BitVec 5) (off : BitVec 6) (write : Bool) (kind : BitVec 3) (s : State) :
    lastingNext (execCountedAccess w off write kind s) = some s.lasting := by simp [execCountedAccess]

@[simp] theorem execBusErrorRepeat_lasting (s : State) :
    lastingNext (execBusErrorRepeat s) = some s.lasting := by simp [execBusErrorRepeat]

@[simp] theorem execHvBusErrRead_lasting (s : State) :
    lastingNext (execHvBusErrRead s) = some s.lasting := by simp [execHvBusErrRead]

@[simp] theorem State.finishPosted_lasting (s : State) (w : Fin 11) : (s.finishPosted w).lasting = s.lasting := by
  unfold State.finishPosted
  split <;> simp

@[simp] theorem execParameterOpDone_lasting (w : Fin 11) (s : State) :
    lastingNext (execParameterOpDone w s) = some s.lasting := by simp [execParameterOpDone]

@[simp] theorem execParIndexWrite_lasting (w : Fin 11) (v : Word) (s : State) :
    lastingNext (execParIndexWrite w v s) = some s.lasting := by simp [execParIndexWrite]

@[simp] theorem execParDhiWrite_lasting (w : Fin 11) (v : Word) (s : State) :
    lastingNext (execParDhiWrite w v s) = some s.lasting := by simp [execParDhiWrite]

@[simp] theorem execParDloWrite_lasting (w : Fin 11) (v : Word) (s : State) :
    lastingNext (execParDloWrite w v s) = some s.lasting := by simp [execParDloWrite]

@[simp] theorem State.fetchCurrent_lasting (s : State) (w : Fin 11) :
    (s.fetchCurrent w).2.lasting = s.lasting := by simp [State.fetchCurrent]

@[simp] theorem execParDloRead_lasting (w : Fin 11) (s : State) :
    lastingNext (execParDloRead w s) = some s.lasting := by simp [execParDloRead]

@[simp] theorem execParDhiRead_lasting (w : Fin 11) (s : State) :
    lastingNext (execParDhiRead w s) = some s.lasting := by
  simp only [execParDhiRead]
  (repeat' split) <;> simp

@[simp] theorem State.ownCommit_lasting (s : State) (w : Fin 11) (idx : Nat) (v : Par) :
    (s.ownCommit w idx v).lasting = s.lasting := by simp [State.ownCommit]

@[simp] theorem State.writeLock_lasting (s : State) (v : Word) :
    (s.writeLock v).lasting = s.lasting := by simp [State.writeLock]

@[simp] theorem execLockWrite_lasting (v : Word) (s : State) :
    lastingNext (execLockWrite v s) = some s.lasting := by simp [execLockWrite]

@[simp] theorem State.writeReset_lasting (s : State) (vi : Fin 8) (v : Word) :
    (s.writeReset vi v).lasting = s.lasting := by simp [State.writeReset]

@[simp] theorem execVwReset_lasting (vi : Fin 8) (v : Word) (s : State) :
    lastingNext (execVwReset vi v s) = some s.lasting := by simp [execVwReset]

@[simp] theorem execTimeLoRead_lasting (w : Fin 9) (s : State) :
    lastingNext (execTimeLoRead w s) = some s.lasting := by simp [execTimeLoRead]

@[simp] theorem execTimeSet_lasting (lo : Par) (s : State) :
    lastingNext (execTimeSet lo s) = some s.lasting := by simp [execTimeSet]

@[simp] theorem State.writeSubmit_lasting (s : State) (vi : Fin 8) (v : Word) :
    (s.writeSubmit vi v).lasting = s.lasting := by
  simp only [State.writeSubmit]
  split <;> simp

@[simp] theorem execJobSubmit_lasting (vi : Fin 8) (v : Word) (s : State) :
    lastingNext (execJobSubmit vi v s) = some s.lasting := by simp [execJobSubmit]

@[simp] theorem State.lockedWrite_lasting (s : State) (off : BitVec 6) (lock : Nat) (f : State → State) (hf : ∀ u,
    (f u).lasting = u.lasting) :
    (s.lockedWrite off lock f).lasting = s.lasting := by simp [State.lockedWrite, hf]

@[simp] theorem State.writeRole_lasting (s : State) (v : Word) :
    (s.writeRole v).lasting = s.lasting := by simp [State.writeRole]

@[simp] theorem execLegalRoleWrite_lasting (v : Word) (s : State) :
    lastingNext (execLegalRoleWrite v s) = some s.lasting := by simp [execLegalRoleWrite]

@[simp] theorem State.writeParCtrl_lasting (s : State) (w : Fin 11) (v : Word) :
    (s.writeParCtrl w v).lasting = s.lasting := by simp [State.writeParCtrl]

@[simp] theorem State.writeCommon_lasting (s : State) (w : Fin 9) (o : Nat) (v : Word) :
    (s.writeCommon w o v).lasting = s.lasting := by
  unfold State.writeCommon
  split <;> simp

@[simp] theorem State.writeRoute_lasting (s : State) (k : Fin 4) (off : BitVec 6) (v : Word) :
    (s.writeRoute k off v).lasting = s.lasting := by simp [State.writeRoute]

@[simp] theorem State.writeHv_lasting (s : State) (off : BitVec 6) (v : Word) :
    (s.writeHv off v).lasting = s.lasting := by
  unfold State.writeHv
  split <;> simp

@[simp] theorem State.writePort_lasting (s : State) (vi : Fin 8) (v : Word) :
    (s.writePort vi v).lasting = s.lasting := by simp [State.writePort]

@[simp] theorem State.writeVw_lasting (s : State) (vi : Fin 8) (o : Nat) (v : Word) :
    (s.writeVw vi o v).lasting = s.lasting := by
  unfold State.writeVw
  split <;> simp

@[simp] theorem State.writeMw_lasting (s : State) (o : Nat) (v : Word) : (s.writeMw o v).lasting = s.lasting := by
  unfold State.writeMw
  split <;> simp

@[simp] theorem State.writePar_lasting (s : State) (w : Fin 11) (o : Nat) (v : Word) :
    (s.writePar w o v).lasting = s.lasting := by
  unfold State.writePar
  split <;> simp

@[simp] theorem execRegisterWrite_lasting (w : Fin 11) (off : BitVec 6) (v : Word) (s : State) :
    lastingNext (execRegisterWrite w off v s) = some s.lasting := by
  unfold execRegisterWrite
  (repeat' split) <;> simp

@[simp] theorem execDiscard_lasting (w : Fin 11) (v : Par) (s : State) :
    lastingNext (execDiscard w v s) = some s.lasting := by simp [execDiscard]

@[simp] theorem execArbApply_lasting (w : Fin 11) (v : Par) (s : State) :
    lastingNext (execArbApply w v s) = some s.lasting := by simp [execArbApply]

@[simp] theorem execHeadCfgWrite_lasting (w : Fin 11) (h : Fin 4) (v : Par) (s : State) :
    lastingNext (execHeadCfgWrite w h v s) = some s.lasting := by simp [execHeadCfgWrite]

@[simp] theorem execHeadEnable_lasting (w : Fin 11) (h : Fin 4) (v : Par) (s : State) :
    lastingNext (execHeadEnable w h v s) = some s.lasting := by simp [execHeadEnable]

@[simp] theorem execHeadDisable_lasting (w : Fin 11) (h : Fin 4) (v : Par) (s : State) :
    lastingNext (execHeadDisable w h v s) = some s.lasting := by simp [execHeadDisable]

@[simp] theorem execScan_lasting (w : Fin 11) (h : Fin 4) (v : Par) (s : State) :
    lastingNext (execScan w h v s) = some s.lasting := by simp [execScan]

@[simp] theorem execScanAbort_lasting (w : Fin 11) (h : Fin 4) (v : Par) (s : State) :
    lastingNext (execScanAbort w h v s) = some s.lasting := by simp [execScanAbort]

@[simp] theorem execAxisEnable_lasting (w : Fin 11) (a : Fin 4) (v : Par) (s : State) :
    lastingNext (execAxisEnable w a v s) = some s.lasting := by simp [execAxisEnable]

@[simp] theorem execAxisDisable_lasting (w : Fin 11) (a : Fin 4) (v : Par) (s : State) :
    lastingNext (execAxisDisable w a v s) = some s.lasting := by simp [execAxisDisable]

@[simp] theorem execHalt_lasting (w : Fin 11) (a : Fin 4) (v : Par) (s : State) :
    lastingNext (execHalt w a v s) = some s.lasting := by simp [execHalt]

@[simp] theorem execClear_lasting (w : Fin 11) (a : Fin 4) (v : Par) (s : State) :
    lastingNext (execClear w a v s) = some s.lasting := by simp [execClear]

@[simp] theorem execClearUncertain_lasting (w : Fin 11) (a : Fin 4) (v : Par) (s : State) :
    lastingNext (execClearUncertain w a v s) = some s.lasting := by simp [execClearUncertain]

@[simp] theorem execRevRef_lasting (w : Fin 11) (a : Fin 4) (v : Par) (s : State) :
    lastingNext (execRevRef w a v s) = some s.lasting := by simp [execRevRef]

@[simp] theorem execServiceMove_lasting (w : Fin 11) (a : Fin 4) (v : Par) (s : State) :
    lastingNext (execServiceMove w a v s) = some s.lasting := by simp [execServiceMove]

@[simp] theorem execLearn_lasting (w : Fin 11) (h : Fin 4) (v : Par) (s : State) :
    lastingNext (execLearn w h v s) = some s.lasting := by simp [execLearn]

@[simp] theorem execDropCut_lasting (w : Fin 11) (h : Fin 4) (v : Par) (s : State) :
    lastingNext (execDropCut w h v s) = some s.lasting := by simp [execDropCut]

@[simp] theorem execLampOn_lasting (w : Fin 11) (v : Par) (s : State) :
    lastingNext (execLampOn w v s) = some s.lasting := by simp [execLampOn]

@[simp] theorem execLampOff_lasting (w : Fin 11) (v : Par) (s : State) :
    lastingNext (execLampOff w v s) = some s.lasting := by simp [execLampOff]

@[simp] theorem execLampDuty_lasting (w : Fin 11) (v : Par) (s : State) :
    lastingNext (execLampDuty w v s) = some s.lasting := by simp [execLampDuty]

@[simp] theorem execLampClear_lasting (w : Fin 11) (v : Par) (s : State) :
    lastingNext (execLampClear w v s) = some s.lasting := by simp [execLampClear]

@[simp] theorem execGo_lasting (w : Fin 11) (x : Fin 2) (v : Par) (s : State) :
    lastingNext (execGo w x v s) = some s.lasting := by simp [execGo]

@[simp] theorem execAbort_lasting (w : Fin 11) (x : Fin 2) (v : Par) (s : State) :
    lastingNext (execAbort w x v s) = some s.lasting := by simp [execAbort]

@[simp] theorem execRaw_lasting (w : Fin 11) (v : Par) (s : State) :
    lastingNext (execRaw w v s) = some s.lasting := by simp [execRaw]

@[simp] theorem execSwitch_lasting (w : Fin 11) (v : Par) (s : State) :
    lastingNext (execSwitch w v s) = some s.lasting := by simp [execSwitch]

@[simp] theorem execRawCfgWrite_lasting (w : Fin 11) (v : Par) (s : State) :
    lastingNext (execRawCfgWrite w v s) = some s.lasting := by simp [execRawCfgWrite]

@[simp] theorem execOwnerChange_lasting (w : Fin 11) (v : Par) (s : State) :
    lastingNext (execOwnerChange w v s) = some s.lasting := by simp [execOwnerChange]

@[simp] theorem execEvtTx_lasting (w : Fin 11) (v : Par) (s : State) :
    lastingNext (execEvtTx w v s) = some s.lasting := by simp [execEvtTx]

@[simp] theorem execRecover_lasting (w : Fin 11) (v : Par) (s : State) :
    lastingNext (execRecover w v s) = some s.lasting := by simp [execRecover]

/-! ### HOLD, power-down and RST_N -/

@[simp] theorem State.safePins_lasting (s : State) : s.safePins.lasting = s.lasting := by simp [State.safePins]

@[simp] theorem State.recordWake_lasting (s : State) : s.recordWake.lasting = s.lasting := by simp [State.recordWake]

@[simp] theorem State.dropHeld_lasting (s : State) : s.dropHeld.lasting = s.lasting := by simp [State.dropHeld]

@[simp] theorem State.enterHold_lasting (s : State) (cause detail : Byte) :
    (s.enterHold cause detail).lasting = s.lasting := by
  simp only [State.enterHold]
  (repeat' split) <;> simp

@[simp] theorem State.powerGoodFailed_lasting (s : State) (core : Bool) :
    (s.powerGoodFailed core).lasting = s.lasting := by simp [State.powerGoodFailed]

@[simp] theorem execPgWaitTimeout_lasting (s : State) : lastingNext (execPgWaitTimeout s) = some s.lasting := by
  unfold execPgWaitTimeout
  (repeat' split) <;> simp

@[simp] theorem execLockTimeout_lasting (s : State) :
    lastingNext (execLockTimeout s) = some s.lasting := by simp [execLockTimeout]

@[simp] theorem State.slotAChecked_lasting (s : State) :
    s.slotAChecked.lasting = s.lasting := by simp [State.slotAChecked]

@[simp] theorem State.slotBChecked_lasting (s : State) :
    s.slotBChecked.lasting = s.lasting := by simp [State.slotBChecked]

@[simp] theorem execSlotCheckDone_lasting (s : State) : lastingNext (execSlotCheckDone s) = some s.lasting := by
  unfold execSlotCheckDone
  (repeat' split) <;> simp

@[simp] theorem execPwrFailNLow_lasting (s : State) : lastingNext (execPwrFailNLow s) = some s.lasting := by
  unfold execPwrFailNLow
  split <;> simp

@[simp] theorem execPgIoFall_lasting (s : State) : lastingNext (execPgIoFall s) = some s.lasting := by
  unfold execPgIoFall
  (repeat' split) <;> simp

@[simp] theorem State.collapse_lasting (s : State) : s.collapse.lasting = s.lasting := by
  unfold State.collapse
  split <;> simp

@[simp] theorem execPgCoreFall_lasting (s : State) : lastingNext (execPgCoreFall s) = some s.lasting := by
  unfold execPgCoreFall
  (repeat' split) <;> simp

@[simp] theorem execPgMemFall_lasting (s : State) : lastingNext (execPgMemFall s) = some s.lasting := by
  simp only [execPgMemFall]
  (repeat' split) <;> simp

@[simp] theorem State.markStage_lasting (s : State) (d : PowerDown) (n : Nat) :
    (s.markStage d n).lasting = s.lasting := (rfl)

@[simp] theorem State.stage_lasting (s : State) (n : Nat) (work : State → State) (hwork : ∀ u,
    (work u).lasting = u.lasting) :
    (s.stage n work).lasting = s.lasting := by
  unfold State.stage
  split <;> simp [hwork]

@[simp] theorem State.closeCauses_lasting (s : State) : s.closeCauses.lasting = s.lasting := by simp [State.closeCauses]

@[simp] theorem execStage1_lasting (s : State) : lastingNext (execStage1 s) = some s.lasting := by simp [execStage1]

@[simp] theorem State.stopHeads_lasting (s : State) (atOnce : Bool) :
    (s.stopHeads atOnce).lasting = s.lasting := by simp [State.stopHeads]

@[simp] theorem execStage2_lasting (s : State) : lastingNext (execStage2 s) = some s.lasting := by simp [execStage2]

@[simp] theorem State.stopAxis_lasting (s : State) (a : Fin 4) :
    (s.stopAxis a).lasting = s.lasting := by simp [State.stopAxis]

@[simp] theorem execStage3_lasting (s : State) : lastingNext (execStage3 s) = some s.lasting := by simp [execStage3]

@[simp] theorem State.commitMany_lasting (s : State) (n : Nat) : (s.commitMany n).lasting = s.lasting := by
  induction n generalizing s with
  | zero => rfl
  | succ n ih => simp [State.commitMany, ih]

@[simp] theorem State.commitCut_lasting (s : State) : s.commitCut.lasting = s.lasting := by simp [State.commitCut]

@[simp] theorem execStage4_lasting (commits : Nat) (s : State) :
    lastingNext (execStage4 commits s) = some s.lasting := by simp [execStage4]

@[simp] theorem execStage5_lasting (s : State) : lastingNext (execStage5 s) = some s.lasting := by simp [execStage5]

@[simp] theorem execStage6_lasting (s : State) : lastingNext (execStage6 s) = some s.lasting := by simp [execStage6]

@[simp] theorem State.enterRetain_lasting (s : State) (d : PowerDown) : (s.enterRetain d).lasting = s.lasting := by
  simp only [State.enterRetain]
  (repeat' split) <;> simp

@[simp] theorem State.dropEnable_lasting (s : State) (k : Fin 4) :
    (s.dropEnable k).lasting = s.lasting := by simp [State.dropEnable]

@[simp] theorem execPwrEnDrop_lasting (s : State) : lastingNext (execPwrEnDrop s) = some s.lasting := by
  unfold execPwrEnDrop
  (repeat' split) <;> simp

@[simp] theorem execRstNAssert_lasting (s : State) : lastingNext (execRstNAssert s) = some s.lasting := by
  unfold execRstNAssert
  (repeat' split) <;> simp

@[simp] theorem State.wakeByReset_lasting (s : State) : s.wakeByReset.lasting = s.lasting := by simp [State.wakeByReset]

@[simp] theorem execRstNRelease_lasting (s : State) : lastingNext (execRstNRelease s) = some s.lasting := by
  unfold execRstNRelease
  (repeat' split) <;> simp

@[simp] theorem State.holdExternal_lasting (s : State) (h : Fin 4) : (s.holdExternal h).lasting = s.lasting := by
  unfold State.holdExternal
  split <;> simp

@[simp] theorem State.clockStop_lasting (s : State) (a : Fin 4) :
    (s.clockStop a).lasting = s.lasting := by simp [State.clockStop]

@[simp] theorem State.resumeStanding_lasting (s : State) (h : Fin 4) : (s.resumeStanding h).lasting = s.lasting := by
  unfold State.resumeStanding
  (repeat' split) <;> simp

@[simp] theorem State.referenceFailed_lasting (s : State) :
    s.referenceFailed.lasting = s.lasting := by simp [State.referenceFailed]

@[simp] theorem execClockMon_lasting (stopped off : Bool) (count : Word) (s : State) :
    lastingNext (execClockMon stopped off count s) = some s.lasting := by simp [execClockMon]

@[simp] theorem execMgWatchdog_lasting (s : State) :
    lastingNext (execMgWatchdog s) = some s.lasting := by simp [execMgWatchdog]

@[simp] theorem execEccError_lasting (correctable : Bool) (s : State) :
    lastingNext (execEccError correctable s) = some s.lasting := by simp [execEccError]

/-! ### Idle time -/

@[simp] theorem State.mainMicro_lasting (s : State) : s.mainMicro.lasting = s.lasting := by
  simp only [State.mainMicro]
  split <;> simp

@[simp] theorem State.idle_lasting (s : State) : s.idle.lasting = s.lasting := by
  simp only [State.idle, State.mainMicro_lasting, State.convMicro_lasting]
  rfl

end Sys2Proof.Machine
end

section
/-! PROOFS. What is fused, and the rollback counter (18_management R1032, R1033): statement O4. -/

namespace Sys2Proof

open Machine

section
variable {p : Part} {f : Fuses} {n : Nat}

/-- What is fused stays so, and the counter at least as high, where what lasts is as before. -/
theorem FusedAs.of_lasting {s t : State} (h : FusedAs p f n s) (ht : t.lasting = s.lasting) :
    FusedAs p f n t := by
  obtain ⟨hfixed, hcount⟩ := Prod.mk.inj ht
  obtain ⟨hpart, hfuse⟩ := Prod.mk.inj hfixed
  obtain ⟨hfuse, -⟩ := Prod.mk.inj hfuse
  unfold FusedAs
  rwa [hpart, hfuse, hcount]

namespace Machine

/-- RB_COMMIT raises the counter to a security version above it, which the counter takes up to 64 (R1033). -/
theorem State.mbRollback_fusedAs {s : State} (q : MbCommand) (h : FusedAs p f n s) :
    FusedAs p f n (State.mbRollback q s) := by
  unfold State.mbRollback
  split
  · exact h.of_lasting (by simp)
  · split
    · exact h.of_lasting (by simp)
    next i _ =>
      split
      · exact h.of_lasting (by simp)
      next hsv =>
        obtain ⟨hpart, hfuse, hn, h64⟩ := h
        have hcount : n ≤ sat i.sv 64 ∧ sat i.sv 64 ≤ 64 := by
          unfold sat
          split <;> omega
        have hraised : FusedAs p f n (s.onMgmt fun m => { m with rollback := sat i.sv 64 }) := ⟨hpart, hfuse, hcount⟩
        exact hraised.of_lasting (by simp)

theorem State.mbServe_rollback_fusedAs {s : State} (line : Option MLine) (t : Byte → Bool) (h : FusedAs p f n s) :
    FusedAs p f n (s.mbServe line t (State.mbOpen State.mbRollback)) := by
  obtain hs | ⟨q, hs | hs⟩ := s.mbServe_cases line t (State.mbOpen State.mbRollback) <;> rw [hs]
  · exact h
  · unfold State.mbOpen
    split
    · exact h.of_lasting (by simp)
    · exact State.mbRollback_fusedAs q h
  · exact h.of_lasting (by simp)

/-- Every command but RB_COMMIT answers a next state, and what lasts is as before: for each command, the lemma about
its meaning. -/
theorem exec_lasting (i : Instr) (s : State) :
    (∃ line, i = .rbCommit line) ∨ lastingNext (exec i s) = some s.lasting := by
  cases i
  case rbCommit line => exact .inl ⟨line, rfl⟩
  all_goals
    right
    simp [exec]

/-- A command keeps what is fused, and the rollback counter does not fall over it. -/
theorem exec_fusedAs {i : Instr} {s t : State} (h : FusedAs p f n s) (ht : exec i s = .next t) : FusedAs p f n t := by
  obtain ⟨line, rfl⟩ | hl := exec_lasting i s
  · cases ht
    exact State.mbServe_rollback_fusedAs line _ h
  · rw [ht] at hl
    exact h.of_lasting (Option.some.inj hl)

end Machine

end

/-- Settles O4: RB_COMMIT raises the rollback counter to at most 64; every other command and idle time leave it, the
part and its fuses as they were. -/
theorem fusesStayAndRollbackNeverFalls : Obligations.FusesStayAndRollbackNeverFalls := by
  unfold Obligations.FusesStayAndRollbackNeverFalls
  intro p f n s t h ht
  unfold step at ht
  split at ht
  · cases ht
    exact h.of_lasting s.idle_lasting
  next c rest _ =>
    have hrest : FusedAs p f n { s with pending := rest } := h
    exact exec_fusedAs hrest ht

end Sys2Proof
end

section
/-! PROOFS. The mailbox's transfers (18_management R992, R993, R997): statement O57. -/

namespace Sys2Proof

open Machine

namespace Machine

/-! ### Bytes of a buffer -/

/-- Several bytes written are read back. -/
theorem memReadN_writeN_self (m : Memory) (a : Nat) (l : List Byte) : memReadN (memWriteN m a l) a l.length = l := by
  induction l generalizing m a with
  | nil => rfl
  | cons b t ih =>
    have hb : memRead (memWriteN (memWrite m a b) (a + 1) t) a = b := by
      rw [memRead_writeN_other _ _ _ _ (.inl a.lt_succ_self), memRead_write_self]
    exact congrArg₂ List.cons hb (ih _ _)

/-- Two bytes spell a halfword, the first in its upper half (R993). -/
theorem ofNat_natBE_pair (x y : Byte) : BitVec.ofNat 16 (natBE [x, y]) = x ++ y := by
  apply BitVec.eq_of_toNat_eq
  have hx := x.isLt
  have hy := y.isLt
  rw [BitVec.toNat_append, ← Nat.shiftLeft_add_eq_or_of_lt hy, Nat.shiftLeft_eq]
  simp only [natBE, List.foldl_cons, List.foldl_nil, BitVec.toNat_ofNat]
  omega

/-- A halfword as two bytes, its upper half first (R993). -/
theorem bytesBE_word (v : Word) : bytesBE v.toNat 2 = [BitVec.extractLsb' 8 8 v, BitVec.setWidth 8 v] := by
  have hhi : byteOf (v.toNat / 256) = BitVec.extractLsb' 8 8 v := by
    apply BitVec.eq_of_toNat_eq
    simp [byteOf, Nat.shiftRight_eq_div_pow]
  have hlo : byteOf v.toNat = BitVec.setWidth 8 v := BitVec.eq_of_toNat_eq (by simp [byteOf])
  simp [bytesBE, hhi, hlo]

/-! ### Answers -/

/-- What a record puts on a queue does not depend on the management core. -/
theorem State.logRecord_onMgmt_bus (s : State) (f : Mgmt → Mgmt) (code aux : Byte) (payload : Word) (w4 w5 : Par) :
    ((s.onMgmt f).logRecord code aux payload w4 w5).bus = (s.logRecord code aux payload w4 w5).bus := by
  obtain h | h | h := lt_trichotomy s.ao.ring.length 63
  · simp [State.logRecord, h]
  · simp [State.logRecord, h]
  · simp [State.logRecord, h.not_gt, h.ne']

/-- What an event puts on a queue does not depend on the management core. -/
theorem State.raise0_onMgmt_bus (s : State) (f : Mgmt → Mgmt) (code aux : Byte) (payload : Word) :
    ((s.onMgmt f).raise0 code aux payload).bus = (s.raise0 code aux payload).bus := by
  have hpar : (s.onMgmt f).parG 0x3814 = s.parG 0x3814 := rfl
  simp only [State.raise0, State.onMgmt_pwr, hpar]
  split_ifs
  · rfl
  · exact State.logRecord_onMgmt_bus (s.onEvq 0 _) f code aux payload 0 0
  · rfl

/-- The word of MW_RSP of a command answered: VALID, the tag and the response (R990, R992). -/
theorem Mgmt.rspWord_of_answered {m : Mgmt} {r : Byte} {tag : BitVec 4} (hc : m.command = none)
    (hr : m.rsp = some (r, tag)) : m.rspWord = BitVec.ofNat 16 (r.toNat + 256 * tag.toNat + 0x8000) := by
  simp only [Mgmt.rspWord, hc, hr, Nat.mul_comm]

/-- The management core once an answer is written in window 10 (R992). -/
def Mgmt.written (m : Mgmt) (a : MbAnswer) : Mgmt :=
  { m with rd := a.rd, rsp := some (a.rsp, BitVec.setWidth 4 a.cmd.tag), command := none, answer := none }

theorem State.mbDeliver_window10 (s : State) {a : MbAnswer} (h : a.cmd.source = .window10) :
    s.mbDeliver a = (s.onMgmt fun m => m.written a).raise0 0xC5
      (BitVec.setWidth 8 (BitVec.setWidth 4 a.cmd.tag : BitVec 4)) (s.mgmt.written a).rspWord := by
  unfold State.mbDeliver
  rw [h]
  rfl

theorem State.mbDeliver_u0 (s : State) {a : MbAnswer} (h : a.cmd.source = .u0) :
    s.mbDeliver a = { s with mgmt := { s.mgmt with
      answer := none, u0Tx := s.mgmt.u0Tx ++ asciiBytes a.line ++ [0x0D] } } := by
  simp [State.mbDeliver, h, State.u0Send, State.onMgmt]

theorem execMbDone_of_answer {s : State} {a : MbAnswer} (hrun : s.pwr.mgRunning = true) (ha : s.mgmt.answer = some a) :
    exec .mbDone s = .next (s.mbDeliver a) := by
  simp [exec, execMbDone, ha, hrun]

/-- At completion the data words and MW_RSP are written and MB_DONE is raised; the rest is a report (R992). -/
theorem mbDone_window10 {s : State} {a : MbAnswer} (hrun : s.pwr.mgRunning = true) (ha : s.mgmt.answer = some a)
    (hsrc : a.cmd.source = .window10) :
    let tag : BitVec 4 := BitVec.setWidth 4 a.cmd.tag
    Answers .mbDone s fun t => t.mgmt.rd = a.rd ∧ t.mgmt.rspWord
        = BitVec.ofNat 16 (a.rsp.toNat + 256 * tag.toNat + 0x8000) ∧ t.mgmt.command = none ∧ t.mgmt.answer = none
      ∧ t.bus = (s.raise0 0xC5 (BitVec.setWidth 8 tag) t.mgmt.rspWord).bus
      ∧ Reports { s with mgmt := { s.mgmt with
          rd := t.mgmt.rd, rsp := t.mgmt.rsp, command := none, answer := none } } t := by
  intro tag
  have hrep : Reports (s.onMgmt fun m => m.written a) (s.mbDeliver a) := by
    rw [State.mbDeliver_window10 s hsrc]
    exact State.raise0_reports _ _ _ _
  obtain ⟨n, hmg⟩ : ∃ n, (s.mbDeliver a).mgmt = { s.mgmt.written a with logLost := n } := ⟨_, congrArg State.mgmt hrep⟩
  have hw : (s.mbDeliver a).mgmt.rspWord = (s.mgmt.written a).rspWord := by rw [hmg]; rfl
  refine ⟨_, execMbDone_of_answer hrun ha, by rw [hmg]; rfl, ?_, by rw [hmg]; rfl, by rw [hmg]; rfl, ?_, ?_⟩
  · rw [hw]
    exact Mgmt.rspWord_of_answered rfl rfl
  · rw [hw, State.mbDeliver_window10 s hsrc]
    exact State.raise0_onMgmt_bus _ _ _ _ _
  · rw [hmg]
    exact hrep

/-! ### The window's buffer and lines of U0 -/

theorem mwBufRead_eq {s : State} (hrun : s.pwr.mgRunning = true) : exec .mwBufRead s = .next { s with
    bus := { s.bus with
      d := memRead s.mgmt.buf (2 * s.mgmt.bufPtr.toNat) ++ memRead s.mgmt.buf (2 * s.mgmt.bufPtr.toNat + 1) }
    mgmt := { s.mgmt with bufPtr := s.mgmt.bufPtr + 1 } } := by
  simp only [exec, execMwBufRead, hrun, if_true, memReadN, ofNat_natBE_pair]
  rfl

/-- A write while BUSY is ignored (R993). -/
theorem mwBufWrite_of_busy {s : State} (v : Word) (h : s.mgmt.command.isSome = true) :
    exec (.mwBufWrite v) s = .next s := by
  simp [exec, execMwBufWrite, State.writeMwBuf, Option.ne_none_iff_isSome.mpr h]

theorem mwBufWrite_of_free {s : State} (v : Word) (hrun : s.pwr.mgRunning = true) (h : s.mgmt.command = none) :
    exec (.mwBufWrite v) s = .next (s.onMgmt fun m => { m with
      buf := memWriteN m.buf (2 * m.bufPtr.toNat) [BitVec.extractLsb' 8 8 v, BitVec.setWidth 8 v]
      bufPtr := m.bufPtr + 1 }) := by
  simp [exec, execMwBufWrite, State.writeMwBuf, hrun, h, bytesBE_word]

section
variable {s : State} (hrun : s.pwr.mgRunning = true) (off : Nat)
include hrun

theorem u0B_of_fits (data : List Byte) (h : off + data.length ≤ 4096) :
    exec (.u0B off data) s
      = .next ((s.onMgmt fun m => { m with u0Buf := memWriteN m.u0Buf off data }).u0Send "= 00") := by
  simp [exec, execU0B, hrun, Nat.not_lt.mpr h]

theorem u0B_of_exceeds (data : List Byte) (h : 4096 < off + data.length) :
    exec (.u0B off data) s = .next (s.u0Send "! 03") := by
  simp [exec, execU0B, hrun, h]

theorem u0G_of_fits (len : Nat) (h : off + len ≤ 4096) : exec (.u0G off len) s = .next (s.u0Send
    ("D " ++ hexText 4 off ++ " " ++ hexText 4 len) (memReadN s.mgmt.u0Buf off len)) := by
  simp [exec, execU0G, hrun, Nat.not_lt.mpr h]

theorem u0G_of_exceeds (len : Nat) (h : 4096 < off + len) : exec (.u0G off len) s = .next (s.u0Send "! 03") := by
  simp [exec, execU0G, hrun, h]

end

end Machine

/-- Settles O57: each transfer by the branch that the running core takes; what is read back of a buffer rests on the
laws of memory. -/
theorem mailboxTransfers : Obligations.MailboxTransfers := by
  unfold Obligations.MailboxTransfers
  intro s hrun
  refine ⟨fun a ha => ⟨mbDone_window10 hrun ha, fun hsrc => ?_⟩, mwBufRead_eq hrun,
    fun v => ⟨mwBufWrite_of_busy v, fun hfree => ?_⟩, fun off data => ⟨fun hfit => ?_, u0B_of_exceeds hrun off data⟩,
    fun off len => ⟨u0G_of_fits hrun off len, u0G_of_exceeds hrun off len⟩, ?_⟩
  · rw [execMbDone_of_answer hrun ha, State.mbDeliver_u0 s hsrc]
  · refine ⟨_, mwBufWrite_of_free v hrun hfree, ?_, ?_, fun i hi => ?_, rfl⟩
    · exact (memRead_writeN_other (memWrite _ _ _) _ _ [_] (.inl (Nat.lt_succ_self _))).trans (memRead_write_self _ _ _)
    · exact memRead_write_self _ _ _
    · exact memRead_writeN_other _ _ i _ hi
  · refine ⟨_, u0B_of_fits hrun off data hfit, memReadN_writeN_self _ _ _,
      fun i hi => memRead_writeN_other _ _ i data hi, ?_⟩
    simp [State.u0Send, State.onMgmt]
  · exact congrArg Host.Outcome.next (if_pos hrun)

end Sys2Proof
end

section
/-! SUPPORT. What bounds a step: the audit counter (13_kaolin_island R789), the event queues (04_tenancy R245), the
retention ring (18_management R1007) and the memories. `Kept` asks for all of its bounds at once; here each is kept by
itself, whatever the others are. One lemma for each operation on a state and for each command, in the order of the
model's files; each proof follows the operation: `h.op` is what `op` keeps after what `h` says. The lemmas are
elaborated one after another: side by side their tasks would need more memory than the check has. -/

set_option Elab.async false

namespace Sys2Proof.Machine

/-- What the invariants of O5 to O7 read of a state. -/
def State.watched (s : State) : BitVec 32 × Vector EventPort 9 × List LogRecord × Memory × Memory × Memory × Memory :=
  (s.island.audit, s.bus.evq, s.ao.ring, s.silt.sram, s.silt.dram, s.mgmt.buf, s.mgmt.u0Buf)

/-- From `s₀` to `t`, the audit counter does not fall, and the queues, the ring and the memories stay within their
bounds and in their canonical form, each by itself. -/
structure Sound (s₀ t : State) : Prop where
  audit : s₀.island.audit.toNat ≤ t.island.audit.toNat
  queues : QueuesBounded s₀ → QueuesBounded t
  ring : RingBounded s₀ → RingBounded t
  memories : MemoriesWf s₀ → MemoriesWf t

theorem Sound.refl (s : State) : Sound s s := ⟨le_rfl, id, id, id⟩

/-- A command answers a next state, soundly from `s₀`. -/
def SoundNext (s₀ : State) (r : Answer) : Prop := ∃ t, r = .next t ∧ Sound s₀ t

section
variable {s₀ s t : State}

theorem Sound.trans (hs : Sound s₀ s) (k : Sound s t) : Sound s₀ t :=
  ⟨hs.audit.trans k.audit, k.queues ∘ hs.queues, k.ring ∘ hs.ring, k.memories ∘ hs.memories⟩

theorem Sound.frame (hs : Sound s₀ s) (ht : t.watched = s.watched := by rfl) : Sound s₀ t := by
  simp only [State.watched, Prod.mk.injEq] at ht
  obtain ⟨haudit, hevq, hring, hsram, hdram, hbuf, hu0⟩ := ht
  refine hs.trans ⟨haudit ▸ le_rfl, ?_, ?_, ?_⟩
  · unfold QueuesBounded
    rw [hevq]
    exact id
  · unfold RingBounded
    rw [hring]
    exact id
  · unfold MemoriesWf
    rw [hsram, hdram, hbuf, hu0]
    exact id

theorem Sound.ite {c : Prop} [Decidable c] (hs : Sound s₀ s) (ht : Sound s₀ t) : Sound s₀ (if c then s else t) := by
  split <;> assumption

theorem Sound.ite_fst {α : Type} {c : Prop} [Decidable c] {x y : State × α} (hx : Sound s₀ x.1) (hy : Sound s₀ y.1) :
    Sound s₀ (if c then x else y).1 := by
  split <;> assumption

theorem Sound.ite_snd {α : Type} {c : Prop} [Decidable c] {x y : α × State} (hx : Sound s₀ x.2) (hy : Sound s₀ y.2) :
    Sound s₀ (if c then x else y).2 := by
  split <;> assumption

theorem Sound.foldl {α : Type} {g : State → α → State} {l : List α} (hs : Sound s₀ s)
    (hg : ∀ u y, Sound s₀ u → Sound s₀ (g u y)) : Sound s₀ (l.foldl g s) := by
  induction l generalizing s with
  | nil => exact hs
  | cons x t ih => exact ih (hg s x hs)

theorem Sound.draw (hs : Sound s₀ s) : Sound s₀ s.draw.2 := hs.frame
/-! ### The parts of the state -/

theorem Sound.onPwr (hs : Sound s₀ s) {f : Pwr → Pwr} : Sound s₀ (s.onPwr f) := hs.frame
theorem Sound.onVi (hs : Sound s₀ s) {v : Fin 8} {f : Vi → Vi} : Sound s₀ (s.onVi v f) := hs.frame
theorem Sound.onPort (hs : Sound s₀ s) {w : Fin 11} {f : ParPort → ParPort} : Sound s₀ (s.onPort w f) := hs.frame
theorem Sound.onData (hs : Sound s₀ s) {v : Fin 8} {f : DataPort → DataPort} : Sound s₀ (s.onData v f) := hs.frame
theorem Sound.onLoam (hs : Sound s₀ s) {f : Loam → Loam} : Sound s₀ (s.onLoam f) := hs.frame
theorem Sound.onJob (hs : Sound s₀ s) {j : JobRef} {f : Job → Job} : Sound s₀ (s.onJob j f) := hs.frame
theorem Sound.onLoamHead (hs : Sound s₀ s) {k : Fin 4} {f : LoamHead → LoamHead} :
    Sound s₀ (s.onLoamHead k f) := hs.frame
theorem Sound.onMarl (hs : Sound s₀ s) {f : Marl → Marl} : Sound s₀ (s.onMarl f) := hs.frame
theorem Sound.onPaper (hs : Sound s₀ s) {f : Paper → Paper} : Sound s₀ (s.onPaper f) := hs.frame
theorem Sound.onHead (hs : Sound s₀ s) {k : Fin 4} {f : Head → Head} : Sound s₀ (s.onHead k f) := hs.frame
theorem Sound.onEnergy (hs : Sound s₀ s) {k : Fin 4} {f : Energy → Energy} : Sound s₀ (s.onEnergy k f) := hs.frame
theorem Sound.onRun (hs : Sound s₀ s) {k : Fin 4} {f : Option Run → Option Run} : Sound s₀ (s.onRun k f) := hs.frame
theorem Sound.onAxis (hs : Sound s₀ s) {k : Fin 4} {f : Axis → Axis} : Sound s₀ (s.onAxis k f) := hs.frame
theorem Sound.onCutter (hs : Sound s₀ s) {f : Cutter → Cutter} : Sound s₀ (s.onCutter f) := hs.frame
theorem Sound.onMedia (hs : Sound s₀ s) {k : Fin 4} {f : Media → Media} : Sound s₀ (s.onMedia k f) := hs.frame
theorem Sound.onLamp (hs : Sound s₀ s) {c : Fin 8} {f : Lamp → Lamp} : Sound s₀ (s.onLamp c f) := hs.frame
theorem Sound.onAnalog (hs : Sound s₀ s) {f : Analog → Analog} : Sound s₀ (s.onAnalog f) := hs.frame
theorem Sound.onConv (hs : Sound s₀ s) {x : Fin 2} {f : Converter → Converter} : Sound s₀ (s.onConv x f) := hs.frame
theorem Sound.onLegal (hs : Sound s₀ s) {f : Legal → Legal} : Sound s₀ (s.onLegal f) := hs.frame
theorem Sound.onGrit (hs : Sound s₀ s) {f : Grit → Grit} : Sound s₀ (s.onGrit f) := hs.frame
theorem Sound.onSerial (hs : Sound s₀ s) {f : SerialBlock → SerialBlock} : Sound s₀ (s.onSerial f) := hs.frame
theorem Sound.onSer (hs : Sound s₀ s) {p : Fin 3} {f : Serial → Serial} : Sound s₀ (s.onSer p f) := hs.frame
theorem Sound.onLink (hs : Sound s₀ s) {f : Link → Link} : Sound s₀ (s.onLink f) := hs.frame
theorem Sound.onSource (hs : Sound s₀ s) {x : Fin 2} {f : Source → Source} : Sound s₀ (s.onSource x f) := hs.frame
theorem Sound.onIngest (hs : Sound s₀ s) {v : Fin 8} {f : Ingest → Ingest} : Sound s₀ (s.onIngest v f) := hs.frame

theorem Sound.onAo (hs : Sound s₀ s) {f : Ao → Ao} (hf : ∀ x, (f x).ring = x.ring := by intro; rfl) :
    Sound s₀ (s.onAo f) := hs.frame (by simp [State.watched, hf])

theorem Sound.onBus (hs : Sound s₀ s) {f : Bus → Bus} (hf : ∀ x, (f x).evq = x.evq := by intro; rfl) :
    Sound s₀ (s.onBus f) := hs.frame (by simp [State.watched, hf])

theorem Sound.onIsland (hs : Sound s₀ s) {f : Island → Island} (hf : ∀ x, (f x).audit = x.audit := by intro; rfl) :
    Sound s₀ (s.onIsland f) := hs.frame (by simp [State.watched, hf])

theorem Sound.onMgmt (hs : Sound s₀ s) {f : Mgmt → Mgmt} (hbuf : ∀ x, (f x).buf = x.buf := by intro; rfl)
    (hu0 : ∀ x, (f x).u0Buf = x.u0Buf := by intro; rfl) : Sound s₀ (s.onMgmt f) :=
  hs.frame (by simp [State.watched, hbuf, hu0])

theorem Sound.onSilt (hs : Sound s₀ s) {f : Silt → Silt} (hsram : ∀ x, (f x).sram = x.sram := by intro; rfl)
    (hdram : ∀ x, (f x).dram = x.dram := by intro; rfl) : Sound s₀ (s.onSilt f) :=
  hs.frame (by simp [State.watched, hsram, hdram])

/-- A change of the raster memories that keeps each of them canonical. -/
theorem Sound.onSilt_wf (hs : Sound s₀ s) {f : Silt → Silt}
    (hsram : ∀ x : Silt, Memory.wf x.sram = true → Memory.wf (f x).sram = true)
    (hdram : ∀ x : Silt, Memory.wf x.dram = true → Memory.wf (f x).dram = true) : Sound s₀ (s.onSilt f) := by
  refine hs.trans ⟨le_rfl, id, id, fun hm => ?_⟩
  obtain ⟨hs, hd, hbufs⟩ := hm
  exact ⟨hsram _ hs, hdram _ hd, hbufs⟩

/-- A change of the mailbox buffers that keeps each of them canonical. -/
theorem Sound.onMgmt_wf (hs : Sound s₀ s) {f : Mgmt → Mgmt}
    (hbuf : ∀ x : Mgmt, Memory.wf x.buf = true → Memory.wf (f x).buf = true)
    (hu0 : ∀ x : Mgmt, Memory.wf x.u0Buf = true → Memory.wf (f x).u0Buf = true) : Sound s₀ (s.onMgmt f) := by
  refine hs.trans ⟨le_rfl, id, id, fun hm => ?_⟩
  obtain ⟨hs, hd, hb, hu⟩ := hm
  exact ⟨hs, hd, hbuf _ hb, hu0 _ hu⟩

/-- A change of one queue that keeps it within its places (04_tenancy R245). -/
theorem Sound.onEvq_self (hs : Sound s₀ s) {w : Fin 9} {f : EventPort → EventPort}
    (hf : (s.bus.evq[w]).queue.length ≤ 64 → (f s.bus.evq[w]).queue.length ≤ 64) : Sound s₀ (s.onEvq w f) := by
  refine hs.trans ⟨le_rfl, fun hq k => ?_, id, id⟩
  by_cases hk : w = k
  · subst hk
    simpa using hf (hq w)
  · simpa [vmod_other _ _ _ _ hk] using hq k

theorem Sound.onEvq (hs : Sound s₀ s) {w : Fin 9} {f : EventPort → EventPort}
    (hf : ∀ x : EventPort, x.queue.length ≤ 64 → (f x).queue.length ≤ 64 := by intro x hx; exact hx) :
    Sound s₀ (s.onEvq w f) := hs.onEvq_self (hf _)

/-! ### Records and events -/

/-- A change of the retention ring that keeps it within its records (18_management R1007). -/
theorem Sound.onAo_ring (hs : Sound s₀ s) {f : Ao → Ao} (hf : s.ao.ring.length ≤ 64 → (f s.ao).ring.length ≤ 64) :
    Sound s₀ (s.onAo f) := hs.trans ⟨le_rfl, id, hf, id⟩

theorem Sound.push (hs : Sound s₀ s) {w : Fin 9} {e : Event} : Sound s₀ (s.onEvq w fun p => p.push e) :=
  hs.onEvq fun p hp => p.push_bounded e hp

theorem Sound.logRecord (hs : Sound s₀ s) {code aux : Byte} {payload : Word} {w4 w5 : Par} :
    Sound s₀ (s.logRecord code aux payload w4 w5) := by
  unfold State.logRecord
  split
  · refine hs.onAo_ring fun _ => ?_
    rw [List.length_append, List.length_singleton]
    omega
  · split
    next heq =>
      refine Sound.push (Sound.onMgmt (hs.onAo_ring fun _ => ?_))
      rw [List.length_append, List.length_singleton]
      omega
    · refine Sound.onMgmt (hs.onAo_ring fun hr => ?_)
      dsimp only
      split
      · rw [List.length_append, List.length_dropLast, List.length_singleton]
        omega
      · exact hr

theorem Sound.raise0 (hs : Sound s₀ s) {code aux : Byte} {payload : Word} : Sound s₀ (s.raise0 code aux payload) := by
  unfold State.raise0
  exact .ite hs (.ite hs.push.logRecord hs.push)

theorem Sound.raiseVi (hs : Sound s₀ s) {v : Fin 8} {code aux : Byte} {payload : Word} :
    Sound s₀ (s.raiseVi v code aux payload) := by
  unfold State.raiseVi
  exact .ite hs.push hs

theorem Sound.convDue (hs : Sound s₀ s) {x : Fin 2} {prio number : Nat} : Sound s₀ (s.convDue x prio number) :=
  hs.onConv

theorem Sound.convMade (hs : Sound s₀ s) {x : Fin 2} {prio number : Nat} : Sound s₀ (s.convMade x prio number) :=
  hs.onConv

theorem Sound.setPar (hs : Sound s₀ s) {idx : Nat} {vi : Option (Fin 8)} {x : Par} : Sound s₀ (s.setPar idx vi x) :=
  hs.frame

theorem Sound.raiseVis (hs : Sound s₀ s) {t : State → Fin 8 → Bool} {code aux : Byte} {payload : Word} :
    Sound s₀ (s.raiseVis t code aux payload) := hs.foldl fun _ _ hu => .ite hu.raiseVi hu

theorem Sound.raiseWin (hs : Sound s₀ s) {w : Fin 11} {code aux : Byte} {payload : Word} :
    Sound s₀ (s.raiseWin w code aux payload) := by
  unfold State.raiseWin
  split
  · exact hs.raise0
  · split
    · exact hs.raiseVi
    · exact hs

theorem Sound.raiseBoth (hs : Sound s₀ s) {t : State → Fin 8 → Bool} {code aux : Byte} {payload : Word} :
    Sound s₀ (s.raiseBoth t code aux payload) := hs.raise0.raiseVis

theorem Sound.changeMode (hs : Sound s₀ s) {f : Pwr → Pwr} : Sound s₀ (s.changeMode f) :=
  .ite hs.frame hs.frame.raiseBoth

/-- A reset of the main side empties the queues and the raster memories. -/
theorem Sound.deviceReset (hs : Sound s₀ s) : Sound s₀ s.deviceReset := by
  refine hs.trans ⟨le_rfl, fun _ w => ?_, id, fun hm => ⟨rfl, rfl, hm.2.2⟩⟩
  show ((Vector.replicate 9 ({} : EventPort))[w]).queue.length ≤ 64
  simp

/-! ### Operands -/

theorem Sound.queueFrame (hs : Sound s₀ s) {t : BitVec 4} {dst : BitVec 5} {payload : List Byte} :
    Sound s₀ (s.queueFrame t dst payload) := .ite hs.onLink.onLink hs.onLink

theorem Sound.sendResult (hs : Sound s₀ s) {node : Fin 16} {migId : Word} {code detail headTime amount : Nat} :
    Sound s₀ (s.sendResult node migId code detail headTime amount) := hs.queueFrame

/-! ### The parameter port -/

theorem Sound.completeOp (hs : Sound s₀ s) {w : Fin 11} {idx : Nat} {err : BitVec 4} :
    Sound s₀ (s.completeOp w idx err) := .ite hs.onPort.raiseWin hs.onPort

/-! ### Frames, chunks and bands -/

theorem Sound.freeFrame (hs : Sound s₀ s) {f : Nat} : Sound s₀ (s.freeFrame f) :=
  hs.onSilt_wf (fun x hx => Memory.wf_filter x.sram _ hx) fun _ => id

theorem Sound.putFrame (hs : Sound s₀ s) {f : Nat} {x : Frame} : Sound s₀ (s.putFrame f x) := hs.onSilt

theorem Sound.clockVisit (hs : Sound s₀ s) {v : Fin 8} {l : List Nat} : Sound s₀ (Machine.clockVisit s v l).2 := by
  induction l generalizing s with
  | nil => exact hs
  | cons f t ih =>
    unfold Machine.clockVisit
    split
    · exact ih hs
    · dsimp only
      split
      · exact ih hs.onVi.putFrame
      · exact hs.onVi

theorem Sound.replaceOwn (hs : Sound s₀ s) {v : Fin 8} : Sound s₀ (s.replaceOwn v).2 := by
  have h := hs.clockVisit (v := v) (l := s.clockOrder v ++ s.clockOrder v)
  unfold State.replaceOwn
  dsimp only
  split
  next f u hu =>
    rw [hu] at h
    exact h.freeFrame
  next u hu =>
    rw [hu] at h
    exact h

theorem Sound.takeFrame (hs : Sound s₀ s) {v : Fin 8} {prefetch : Bool} : Sound s₀ (s.takeFrame v prefetch).2 := by
  have h := hs.replaceOwn (v := v)
  unfold State.takeFrame
  split
  · exact hs
  · split
    · exact hs
    · split
      · split
        next f u hu =>
          rw [hu] at h
          exact h.replaceOwn
        next u hu =>
          rw [hu] at h
          exact h
      · exact h

theorem Sound.pinPage (hs : Sound s₀ s) {v : Fin 8} {p : Nat} {who : Fin 5} : Sound s₀ (s.pinPage v p who) := by
  unfold State.pinPage
  split
  · exact hs.putFrame
  · exact hs

theorem Sound.unpinFrame (hs : Sound s₀ s) {f : Nat} {who : Fin 5} : Sound s₀ (s.unpinFrame f who) := by
  unfold State.unpinFrame
  dsimp only
  split
  · exact hs
  · split
    · split
      · exact hs.putFrame
      · split
        · exact hs.freeFrame
        · exact hs.putFrame
    · exact hs

theorem Sound.unpinWhere (hs : Sound s₀ s) {v : Fin 8} {who : Fin 5} {t : Nat → Bool} :
    Sound s₀ (s.unpinWhere v who t) := by
  unfold State.unpinWhere
  refine hs.foldl fun u y hu => ?_
  split
  · exact .ite hu.unpinFrame hu
  · exact .ite hu.unpinFrame hu
  · exact hu

theorem Sound.writeChunk (hs : Sound s₀ s) {external : Bool} {c : Nat} {l : List Byte} :
    Sound s₀ (s.writeChunk external c l) := by
  refine hs.onSilt_wf (fun x hx => ?_) fun x hx => ?_
  · split
    · exact hx
    · exact memWriteN_wf _ _ _ hx
  · split
    · exact memWriteN_wf _ _ _ hx
    · exact hx

theorem Sound.writeChain (hs : Sound s₀ s) {external : Bool} {l : List Nat} {b : List Byte} :
    Sound s₀ (Machine.writeChain s external l b) := by
  induction l generalizing s b with
  | nil => exact hs
  | cons c t ih => exact ih hs.writeChunk

theorem Sound.freeChunk (hs : Sound s₀ s) {external : Bool} {c : Nat} : Sound s₀ (s.freeChunk external c) := by
  unfold State.freeChunk
  split
  · exact hs.onSilt_wf (fun _ => id) fun x hx => Memory.wf_filter x.dram _ hx
  · split
    · split
      · exact .ite hs.freeFrame hs.putFrame
      · exact hs
    · exact hs

theorem Sound.freeChunks (hs : Sound s₀ s) {external : Bool} {l : List Nat} : Sound s₀ (s.freeChunks external l) :=
  hs.foldl fun _ _ hu => hu.freeChunk

theorem Sound.reserveChunk (hs : Sound s₀ s) {v : Fin 8} {u : Nat × State} (hu : s.reserveChunk v = some u) :
    Sound s₀ u.2 := by
  have h := hs.takeFrame (v := v) (prefetch := false)
  unfold State.reserveChunk at hu
  split at hu
  · dsimp only at hu
    split at hu
    · cases hu
      dsimp only
      exact hs.onSilt
    · cases hu
  · split at hu
    · split at hu
      · cases hu
        exact hs.putFrame
      · cases hu
    · split at hu
      next f t ht =>
        rw [ht] at h
        cases hu
        exact h.putFrame
      next => cases hu

theorem Sound.reserveChunks (hs : Sound s₀ s) {v : Fin 8} {n : Nat} {u : List Nat × State}
    (hu : s.reserveChunks v n = some u) : Sound s₀ u.2 := by
  induction n generalizing s u with
  | zero =>
    cases hu
    exact hs
  | succ n ih =>
    unfold State.reserveChunks at hu
    split at hu
    next c s1 h1 =>
      have hs1 : Sound s₀ s1 := hs.reserveChunk h1
      split at hu
      next l s2 h2 =>
        cases hu
        have h := ih hs1 h2
        exact h
      next => cases hu
    next => cases hu

theorem Sound.dropPages (hs : Sound s₀ s) {v : Fin 8} {b : Nat} : Sound s₀ (s.dropPages v b) := by
  unfold State.dropPages
  dsimp only
  refine hs.foldl fun u y hu => ?_
  split
  · exact .ite (.ite hu.freeFrame hu.putFrame) hu
  · exact hu

theorem Sound.dropBand (hs : Sound s₀ s) {v : Fin 8} {b : Nat} : Sound s₀ (s.dropBand v b) := by
  unfold State.dropBand
  dsimp only
  split
  · exact hs.dropPages.freeChunks.onSilt
  · exact hs.dropPages

theorem Sound.dropBands (hs : Sound s₀ s) {v : Fin 8} {b n : Nat} : Sound s₀ (s.dropBands v b n) := by
  induction n generalizing s b with
  | zero => exact hs
  | succ n ih => exact ih hs.dropBand

theorem Sound.placeBand (hs : Sound s₀ s) {v : Fin 8} {b : Nat} {external : Bool} {chunks : List Nat} :
    Sound s₀ (s.placeBand v b external chunks) := hs.dropBand.onSilt

/-! ### Jobs -/

theorem Sound.accrue (hs : Sound s₀ s) : Sound s₀ s.accrue := by
  unfold State.accrue
  dsimp only
  exact (hs.foldl (fun _ _ hu => .ite (hu.foldl (fun _ _ hu1 => hu1.onVi)) hu)).onLoam

theorem Sound.charge (hs : Sound s₀ s) {v : Fin 8} {h : Fin 4} {t : Nat} {surplus : Bool} :
    Sound s₀ (s.charge v h t surplus) := by
  unfold State.charge
  dsimp only
  exact hs.accrue.onVi

theorem Sound.joinChain (hs : Sound s₀ s) {j : JobRef} {order : Nat} : Sound s₀ (s.joinChain j order) :=
  .ite hs hs.onJob.onVi

theorem Sound.breakChain (hs : Sound s₀ s) {j : JobRef} : Sound s₀ (s.breakChain j) := by
  unfold State.breakChain
  dsimp only
  split
  · exact hs
  · exact .ite hs.onVi (hs.onVi.foldl (fun _ _ hu => hu.onJob))

theorem Sound.chainOver (hs : Sound s₀ s) {h : Fin 4} : Sound s₀ (s.chainOver h) := by
  unfold State.chainOver
  split
  · exact hs
  · exact .ite hs hs.onLoamHead

theorem Sound.endGuest (hs : Sound s₀ s) {j : JobRef} {ok : Bool} {result headTime amount : Nat} :
    Sound s₀ (s.endGuest j ok result headTime amount) := by
  unfold State.endGuest
  dsimp only
  split
  · exact hs
  · exact hs.sendResult.dropBands.onLink

theorem Sound.queueSpace (hs : Sound s₀ s) {v : Fin 8} : Sound s₀ (s.queueSpace v) := by
  unfold State.queueSpace
  split
  · exact .ite hs.onVi.raiseVi hs
  · exact hs

theorem Sound.finishOne (hs : Sound s₀ s) {j : JobRef} {st : JobState} {result amount : Nat} :
    Sound s₀ (s.finishOne j st result amount) := .ite hs.onJob.onVi.raiseVi.onJob hs.onJob.onVi.raiseVi

theorem Sound.fencesDone (hs : Sound s₀ s) {v : Fin 8} : Sound s₀ (s.fencesDone v) :=
  hs.foldl fun _ _ hu => .ite hu.finishOne.queueSpace hu

theorem Sound.endJob (hs : Sound s₀ s) {j : JobRef} {st : JobState} {result amount : Nat} :
    Sound s₀ (s.endJob j st result amount) := by
  unfold State.endJob
  dsimp only
  exact ((Sound.ite (Sound.ite hs.charge hs).endGuest (Sound.ite hs.charge
    hs).endGuest.breakChain).finishOne.onLoamHead.foldl (fun _ _ hu => hu.finishOne)).chainOver.fencesDone.queueSpace

theorem Sound.activate (hs : Sound s₀ s) {j : JobRef} : Sound s₀ (s.activate j) :=
  .ite (.ite hs.onJob.raiseVi hs.onJob) hs

theorem Sound.dispatchJob (hs : Sound s₀ s) {j : JobRef} {surplus : Bool} : Sound s₀ (s.dispatchJob j surplus) := by
  unfold State.dispatchJob
  dsimp only
  split
  · exact hs.onJob.onLoamHead.sendResult
  · exact hs.onJob.onLoamHead

theorem Sound.returnJob (hs : Sound s₀ s) {j : JobRef} : Sound s₀ (s.returnJob j) := hs.onJob

/-! ### Heads, axes and outputs -/

theorem Sound.raiseBound (hs : Sound s₀ s) {loop : Nat} {upper : Bool} {tenant : Option (Fin 8)} :
    Sound s₀ (s.raiseBound loop upper tenant) := by
  unfold State.raiseBound
  split
  · exact hs.raiseVi
  · exact hs.raise0

theorem Sound.loopHeld (hs : Sound s₀ s) {loop : Nat} {lo hi newLo newHi : Bool} {tLo tHi : Option (Fin 8)} :
    Sound s₀ (s.loopHeld loop lo hi newLo newHi tLo tHi) := by
  unfold State.loopHeld
  dsimp only
  exact (Sound.ite (Sound.ite hs.raiseBound hs).raiseBound (.ite hs.raiseBound hs)).onBus

theorem Sound.loopUpdated (hs : Sound s₀ s) {loop : Nat} {lo hi : Int} {steps : List (Int × Int)} {tLo tHi : Option (Fin
    8)} :
    Sound s₀ (s.loopUpdated loop lo hi steps tLo tHi) := hs.loopHeld

theorem Sound.loopHeldFrozen (hs : Sound s₀ s) {loop : Nat} {lo hi : Int} {held : List Int} {tLo tHi : Option (Fin 8)} :
    Sound s₀ (s.loopHeldFrozen loop lo hi held tLo tHi) := hs.loopHeld

theorem Sound.loopFree (hs : Sound s₀ s) {loop : Nat} : Sound s₀ (s.loopFree loop) := hs.loopHeld

theorem Sound.raiseClamp (hs : Sound s₀ s) {w : Fin 11} {ceiling head lamp : Nat} :
    Sound s₀ (s.raiseClamp w ceiling head lamp) := hs.raiseWin.onBus

theorem Sound.headEvent (hs : Sound s₀ s) {h : Fin 4} : Sound s₀ (s.headEvent h) := hs.raiseBoth

theorem Sound.settleHeadOut (hs : Sound s₀ s) : Sound s₀ s.settleHeadOut := hs.changeMode

theorem Sound.endStrobes (hs : Sound s₀ s) {h : Fin 4} {t : Rat} {atOnce : Bool} : Sound s₀ (s.endStrobes h t atOnce) :=
  hs.onHead.onEnergy

theorem Sound.setHead (hs : Sound s₀ s) {h : Fin 4} {st : HeadState} {cause : OutCause} :
    Sound s₀ (s.setHead h st cause) := (Sound.ite hs.onHead.onEnergy hs.onHead).headEvent.settleHeadOut

theorem Sound.axisEvent (hs : Sound s₀ s) {a : Fin 4} : Sound s₀ (s.axisEvent a) := hs.raise0

theorem Sound.setAxis (hs : Sound s₀ s) {a : Fin 4} {st : AxisState} : Sound s₀ (s.setAxis a st) :=
  .ite hs hs.onAxis.axisEvent

theorem Sound.rampStop (hs : Sound s₀ s) {a : Fin 4} : Sound s₀ (s.rampStop a) := by
  unfold State.rampStop
  dsimp only
  split
  · exact .ite hs.onAxis.onAxis.setAxis.onAxis.setAxis hs.onAxis.onAxis.setAxis
  · exact hs.onAxis.onAxis
  · exact hs.onAxis

theorem Sound.hardStop (hs : Sound s₀ s) {a : Fin 4} {cause : BitVec 3} : Sound s₀ (s.hardStop a cause) := hs.onAxis

theorem Sound.settleDisable (hs : Sound s₀ s) {h : Fin 4} : Sound s₀ (s.settleDisable h) := .ite hs.setHead hs

theorem Sound.endRun (hs : Sound s₀ s) {h : Fin 4} {st : JobState} {result amount : Nat} :
    Sound s₀ (s.endRun h st result amount) := by
  unfold State.endRun
  dsimp only
  split
  · exact hs
  · exact hs.unpinWhere.onRun.onHead.onCutter.onSilt.endJob.settleDisable

theorem Sound.stopMoves (hs : Sound s₀ s) {h : Fin 4} {r : Run} : Sound s₀ (s.stopMoves h r) :=
  .ite hs.rampStop (.ite hs.onAxis hs)

theorem Sound.withdrawPrinted (hs : Sound s₀ s) {h : Fin 4} : Sound s₀ (s.withdrawPrinted h) := by
  unfold State.withdrawPrinted
  split
  · exact hs
  · exact hs.onIsland

theorem Sound.stopJobAt (hs : Sound s₀ s) {h : Fin 4} {t : Rat} {st : JobState} {result : Nat} :
    Sound s₀ (s.stopJobAt h t st result) := by
  unfold State.stopJobAt
  dsimp only
  split
  · exact hs
  · split
    · exact (Sound.ite (Sound.ite hs.withdrawPrinted hs).endStrobes.raiseVi (Sound.ite hs.withdrawPrinted
        hs).endStrobes).stopMoves.onMedia.onLoamHead.endRun
    · exact (Sound.ite (Sound.ite hs.withdrawPrinted hs).endStrobes.raiseVi (Sound.ite hs.withdrawPrinted
        hs).endStrobes).stopMoves.onMedia.endRun

theorem Sound.stopJob (hs : Sound s₀ s) {h : Fin 4} {st : JobState} {result : Nat} : Sound s₀ (s.stopJob h st result) :=
  hs.stopJobAt

theorem Sound.headOutAt (hs : Sound s₀ s) {h : Fin 4} {t : Rat} {cause : OutCause} : Sound s₀ (s.headOutAt h t cause) :=
  hs.setHead.endStrobes.stopJobAt

theorem Sound.headOutOf (hs : Sound s₀ s) {h : Fin 4} {cause : OutCause} : Sound s₀ (s.headOutOf h cause) :=
  hs.headOutAt

theorem Sound.failAxisJobs (hs : Sound s₀ s) {a : Fin 4} : Sound s₀ (s.failAxisJobs a) := by
  unfold State.failAxisJobs
  refine hs.foldl fun u y hu => ?_
  split
  · exact .ite hu.stopJob hu
  · exact hu

theorem Sound.failOwner (hs : Sound s₀ s) {o : MoveOwner} : Sound s₀ (s.failOwner o) := by
  unfold State.failOwner
  split
  · exact hs.stopJob
  · exact hs.onMedia
  · exact hs.onLoamHead
  · exact hs

theorem Sound.limitEvent (hs : Sound s₀ s) {a : Fin 4} {input : Fin 2} {hard : Bool} {vi : Option (Fin 8)} :
    Sound s₀ (s.limitEvent a input hard vi) := by
  unfold State.limitEvent
  dsimp only
  split
  · exact hs.raise0.raiseVi
  · exact hs.raise0

theorem Sound.loadDacs (hs : Sound s₀ s) {a : Fin 4} : Sound s₀ (s.loadDacs a) := hs.onAxis

theorem Sound.startMove (hs : Sound s₀ s) {a : Fin 4} {move : Move} : Sound s₀ (s.startMove a move) := by
  unfold State.startMove
  dsimp only
  split
  · exact hs.setAxis.failOwner
  · split
    · exact hs.setAxis.limitEvent.failOwner
    · split
      · split
        · split
          · split
            · split
              · exact hs.raiseVi.onAxis.loadDacs.setAxis
              · exact hs.onAxis.loadDacs.setAxis
            · exact hs.onAxis.loadDacs.setAxis
          · exact hs.onAxis.loadDacs.setAxis
        · split
          · split
            · split
              · exact hs.raiseVi.onAxis.loadDacs.setAxis
              · exact hs.onAxis.loadDacs.setAxis
            · exact hs.onAxis.loadDacs.setAxis
          · exact hs.onAxis.loadDacs.setAxis
      · split
        · split
          · split
            · split
              · exact hs.raiseVi.onAxis.setAxis
              · exact hs.onAxis.setAxis
            · exact hs.onAxis.setAxis
          · exact hs.onAxis.setAxis
        · split
          · split
            · split
              · exact hs.raiseVi.onAxis.setAxis
              · exact hs.onAxis.setAxis
            · exact hs.onAxis.setAxis
          · exact hs.onAxis.setAxis

theorem Sound.requestMove (hs : Sound s₀ s) {a : Fin 4} {m : Move} : Sound s₀ (s.requestMove a m) := by
  unfold State.requestMove
  dsimp only
  split
  · exact .ite hs.startMove hs.failOwner
  · exact .ite hs.onAxis hs.failOwner
  · exact .ite hs.onAxis hs.failOwner
  · exact hs.failOwner

theorem Sound.feedTo (hs : Sound s₀ s) {h a : Fin 4} {target : Int} {o : MoveOwner} :
    Sound s₀ (s.feedTo h a target o) := hs.requestMove

theorem Sound.setPhase (hs : Sound s₀ s) {h : Fin 4} {p : Phase} : Sound s₀ (s.setPhase h p) := hs.onRun

theorem Sound.continueTof (hs : Sound s₀ s) {h : Fin 4} : Sound s₀ (s.continueTof h) := by
  unfold State.continueTof
  dsimp only
  split
  · split
    · exact hs.onMedia.setPhase
    · split
      · exact .ite (Sound.ite hs.onMedia hs).setPhase (.ite (Sound.ite hs.onMedia hs).setPhase.feedTo (Sound.ite
          hs.onMedia hs).setPhase.feedTo)
      · exact (Sound.ite hs.onMedia hs).setPhase.feedTo
  · split
    · exact hs.onMedia.setPhase
    · split
      · exact .ite (Sound.ite hs.onMedia hs).setPhase (.ite (Sound.ite hs.onMedia hs).setPhase.feedTo (Sound.ite
          hs.onMedia hs).setPhase.feedTo)
      · exact (Sound.ite hs.onMedia hs).setPhase.feedTo

theorem Sound.beginTof (hs : Sound s₀ s) {h : Fin 4} : Sound s₀ (s.beginTof h) :=
  .ite hs.onMedia.continueTof (Sound.ite hs.onMedia.onMedia hs.onMedia).continueTof

theorem Sound.beginTail (hs : Sound s₀ s) {h : Fin 4} : Sound s₀ (s.beginTail h) := by
  unfold State.beginTail
  dsimp only
  split
  · exact hs
  · split
    · exact .ite hs.onRun.setPhase hs.onRun.feedTo
    · exact hs.onRun.onMedia.feedTo

theorem Sound.doneRun (hs : Sound s₀ s) {h : Fin 4} : Sound s₀ (s.doneRun h) := by
  unfold State.doneRun
  dsimp only
  split
  · exact hs
  · exact hs.endRun

theorem Sound.requestOn (hs : Sound s₀ s) {c : Fin 8} {duty : Nat} : Sound s₀ (s.requestOn c duty) := by
  unfold State.requestOn
  dsimp only
  split
  · exact hs.onLamp.onLamp.onPaper
  · exact hs.onLamp

theorem Sound.beginPresent (hs : Sound s₀ s) {h : Fin 4} : Sound s₀ (s.beginPresent h) := by
  unfold State.beginPresent
  dsimp only
  split
  · exact hs
  · exact (Sound.ite hs.requestOn hs).onRun.requestMove

theorem Sound.afterCut (hs : Sound s₀ s) {h : Fin 4} : Sound s₀ (s.afterCut h) := by
  unfold State.afterCut
  split
  · exact hs
  · exact .ite hs.beginPresent hs.doneRun

theorem Sound.moveReached (hs : Sound s₀ s) {o : MoveOwner} : Sound s₀ (s.moveReached o) := by
  unfold State.moveReached
  split
  · split
    · exact hs
    · split
      · exact hs.continueTof
      · exact hs.setPhase
      · exact hs.doneRun
      · exact hs.doneRun
      · exact hs
  · exact hs.onMedia
  · exact hs
  · exact hs

theorem Sound.finishMove (hs : Sound s₀ s) {a : Fin 4} : Sound s₀ (s.finishMove a) := by
  unfold State.finishMove
  dsimp only
  split
  · exact hs
  · exact (Sound.ite hs.onAxis.setAxis hs.onAxis).moveReached

theorem Sound.senseAborts (hs : Sound s₀ s) : Sound s₀ s.senseAborts := hs.onAnalog

/-! ### Fetching -/

theorem Sound.raiseFault (hs : Sound s₀ s) {v : Fin 8} {p : Nat} {cls : FaultClass} : Sound s₀ (s.raiseFault v p cls) :=
  hs.onSilt.onVi

theorem Sound.raiseHold (hs : Sound s₀ s) {h : Fin 4} {r : Run} {c : HoldCause} : Sound s₀ (s.raiseHold h r c) :=
  hs.onSilt.raiseVi

theorem Sound.raiseResume (hs : Sound s₀ s) {h : Fin 4} {r : Run} {since : Nat} : Sound s₀ (s.raiseResume h r since) :=
  hs.raiseVi

theorem Sound.startHold (hs : Sound s₀ s) {h : Fin 4} {r : Run} {c : HoldCause} {page line : Nat} :
    Sound s₀ (s.startHold h r c page line) := by
  unfold State.startHold
  dsimp only
  split
  · exact hs.onRun.raiseHold.onAxis
  · exact hs.onRun.raiseHold

theorem Sound.endHold (hs : Sound s₀ s) {h : Fin 4} {r : Run} {x : Hold} : Sound s₀ (s.endHold h r x) :=
  hs.onRun.onAxis.raiseResume

theorem Sound.startLate (hs : Sound s₀ s) {h : Fin 4} {r : Run} : Sound s₀ (s.startLate h r) :=
  hs.onRun.onAxis.raiseHold

theorem Sound.endLate (hs : Sound s₀ s) {h : Fin 4} {r : Run} {since : Nat} : Sound s₀ (s.endLate h r since) :=
  hs.onRun.onAxis.raiseResume

theorem Sound.startExternal (hs : Sound s₀ s) {h : Fin 4} {r : Run} : Sound s₀ (s.startExternal h r) :=
  hs.onRun.raiseHold

theorem Sound.endExternal (hs : Sound s₀ s) {h : Fin 4} {r : Run} {since : Nat} : Sound s₀ (s.endExternal h r since) :=
  hs.onRun.raiseResume

theorem Sound.settleHold (hs : Sound s₀ s) {h : Fin 4} : Sound s₀ (s.settleHold h) := by
  unfold State.settleHold
  dsimp only
  split
  · exact hs
  · split
    · exact hs.startHold
    · exact hs
    · exact hs.endHold
    · split
      · exact hs.onRun.onAxis
      · exact hs.onRun

theorem Sound.pinWindow (hs : Sound s₀ s) {h : Fin 4} {r : Run} : Sound s₀ (s.pinWindow h r) :=
  hs.unpinWhere.onRun.foldl (fun _ _ hu => .ite hu (.ite (.ite hu hu.pinPage) (.ite hu (.ite hu hu.raiseFault))))

theorem Sound.prefetch (hs : Sound s₀ s) {h : Fin 4} {r : Run} : Sound s₀ (s.prefetch h r) := by
  unfold State.prefetch
  dsimp only
  split
  · refine hs.foldl fun u y hu => ?_
    split
    · exact hu
    · split
      · exact .ite hu hu.raiseFault
      · exact hu
  · exact hs

theorem Sound.refreshHead (hs : Sound s₀ s) {h : Fin 4} : Sound s₀ (s.refreshHead h) := by
  unfold State.refreshHead
  split
  · exact hs
  · exact .ite hs.pinWindow.prefetch.settleHold hs

theorem Sound.refreshHeads (hs : Sound s₀ s) : Sound s₀ s.refreshHeads := hs.foldl fun _ _ hu => hu.refreshHead

/-! ### The energy model -/

theorem Sound.settleEnvelope (hs : Sound s₀ s) {h : Fin 4} : Sound s₀ (s.settleEnvelope h) :=
  .ite hs (hs.foldl (fun _ _ hu => .ite hu hu.raise0)).onEnergy

@[simp] theorem execModelTick_sound (h : Fin 4) (slots : Nat) (s : State) : SoundNext s (execModelTick h slots s) :=
  ⟨_, rfl, .ite (Sound.refl _).onEnergy.settleEnvelope (Sound.refl _)⟩

@[simp] theorem execDeratingUpdate_sound (h : Fin 4) (s : State) : SoundNext s (execDeratingUpdate h s) :=
  ⟨_, rfl, .ite (.ite (Sound.refl _).onEnergy.loopHeldFrozen (Sound.refl _).onEnergy.loopUpdated) (Sound.refl _)⟩

theorem Sound.takeThermistor (hs : Sound s₀ s) {h : Fin 4} {code : BitVec 12} : Sound s₀ (s.takeThermistor h code) :=
  hs.onHead.onEnergy.settleEnvelope

@[simp] theorem execThermistorSample_sound (h : Fin 4) (code : BitVec 12) (s : State) :
    SoundNext s (execThermistorSample h code s) :=
  ⟨_, rfl, .ite (.ite (Sound.refl _).convMade.takeThermistor.onHead.headOutOf (Sound.refl
    _).convMade.takeThermistor.onHead) (Sound.refl _)⟩

theorem Sound.judgeSupply (hs : Sound s₀ s) {h : Fin 4} {mv : Nat} : Sound s₀ (s.judgeSupply h mv) :=
  .ite hs.onHead.settleEnvelope.headOutOf hs.onHead.settleEnvelope

@[simp] theorem execSupplySample_sound (h : Fin 4) (code : BitVec 12) (s : State) :
    SoundNext s (execSupplySample h code s) :=
  ⟨_, rfl, .ite (Sound.refl _).judgeSupply (Sound.refl _)⟩

/-! ### Printing -/

theorem Sound.capAdd (hs : Sound s₀ s) {h : Fin 4} {lines : Nat} {lineTime pauseTime : Rat} :
    Sound s₀ (s.capAdd h lines lineTime pauseTime) := hs.onLoamHead

theorem Sound.pauseLine (hs : Sound s₀ s) {h : Fin 4} {r : Run} {period : Rat} : Sound s₀ (s.pauseLine h r period) :=
  .ite hs.onEnergy.capAdd.onRun.onAxis hs.onEnergy.capAdd.onRun.onAxis.raiseVi.raise0

theorem Sound.senseLine (hs : Sound s₀ s) {h : Fin 4} {sensed : Bool} {v i : BitVec 12} {ns : Nat} :
    Sound s₀ (s.senseLine h sensed v i ns) := .ite hs.senseAborts.onHead.onEnergy hs.onAnalog

theorem Sound.burnLine (hs : Sound s₀ s) {h : Fin 4} {r : Run} {p : LinePlan} {period : Rat} {sensed : Bool} {v i :
    BitVec 12} :
    Sound s₀ (s.burnLine h r p period sensed v i) :=
  .ite hs.draw.senseLine.onEnergy.onHead.capAdd.onRun.onAxis.settleEnvelope.activate.headOutAt
    hs.draw.senseLine.onEnergy.onHead.capAdd.onRun.onAxis.settleEnvelope.activate

theorem Sound.afterLines (hs : Sound s₀ s) {h : Fin 4} {r : Run} : Sound s₀ (s.afterLines h r) := by
  unfold State.afterLines
  dsimp only
  split
  · split
    · split
      · exact hs.onMedia.doneRun
      · exact hs.onMedia.doneRun
    · exact hs.doneRun
  · exact hs.beginTail

theorem Sound.grantLine (hs : Sound s₀ s) {h : Fin 4} {r : Run} {sensed : Bool} {v i : BitVec 12} :
    Sound s₀ (s.grantLine h r sensed v i) := by
  unfold State.grantLine
  dsimp only
  split
  · exact hs.onEnergy.pauseLine
  · split
    · exact .ite hs.onEnergy.burnLine.afterLines hs.onEnergy.burnLine.refreshHead
    · exact hs.onEnergy.burnLine

theorem Sound.startPrint (hs : Sound s₀ s) {h : Fin 4} {r : Run} : Sound s₀ (s.startPrint h r) :=
  hs.onRun.onEnergy.startMove

@[simp] theorem execLineStart_sound (h : Fin 4) (sensed : Bool) (vCode iCode : BitVec 12) (s : State) :
    SoundNext s (execLineStart h sensed vCode iCode s) := by
  unfold execLineStart
  dsimp only
  refine ⟨_, rfl, ?_⟩
  split
  · exact Sound.refl _
  · split
    · exact Sound.refl _
    · split
      · split
        · exact Sound.refl _
        · split
          · exact (Sound.refl _).startPrint.grantLine
          · exact (Sound.refl _).startPrint
      · exact .ite (Sound.refl _) (.ite (.ite (Sound.refl _).onAxis (Sound.refl _).startLate) (Sound.refl _).grantLine)

@[simp] theorem execPauseCheck_sound (h : Fin 4) (sensed : Bool) (vCode iCode : BitVec 12) (s : State) :
    SoundNext s (execPauseCheck h sensed vCode iCode s) := by
  unfold execPauseCheck
  refine ⟨_, rfl, ?_⟩
  split
  · exact Sound.refl _
  · exact .ite (Sound.refl _).grantLine (Sound.refl _)

@[simp] theorem execLineFetchDone_sound (h : Fin 4) (s : State) : SoundNext s (execLineFetchDone h s) := by
  unfold execLineFetchDone
  dsimp only
  refine ⟨_, rfl, ?_⟩
  split
  · exact Sound.refl _
  · split
    · split
      · exact .ite (Sound.refl _).onRun.endLate (Sound.refl _).onRun
      · exact (Sound.refl _).onRun
    · exact Sound.refl _

/-! ### Heads -/

theorem Sound.enableHead (hs : Sound s₀ s) {h : Fin 4} : Sound s₀ (s.enableHead h) := by
  unfold State.enableHead
  dsimp only
  split
  · exact hs.onHead
  · split
    · exact hs.onHead
    · exact .ite hs.onHead.setHead hs.onHead
    · exact hs.onHead.setHead
  · exact hs

theorem Sound.disableHead (hs : Sound s₀ s) {h : Fin 4} : Sound s₀ (s.disableHead h) := by
  unfold State.disableHead
  split
  · exact hs.onHead.setHead
  · exact hs.onHead.settleDisable
  · exact hs

@[simp] theorem execHotplug_sound (h : Fin 4) (s : State) : SoundNext s (execHotplug h s) :=
  ⟨_, rfl, .ite (.ite (Sound.refl _).onHead.setHead (Sound.refl _).onHead) (Sound.refl _)⟩

@[simp] theorem execPresenceLoss_sound (h : Fin 4) (s : State) : SoundNext s (execPresenceLoss h s) := by
  unfold execPresenceLoss
  dsimp only
  refine ⟨_, rfl, ?_⟩
  split
  · exact (Sound.refl _).onHead
  · exact .ite (Sound.refl _).onHead (Sound.refl _).onHead.setHead
  · exact (Sound.refl _).onHead.headOutOf

@[simp] theorem execOvercurrentTrip_sound (h : Fin 4) (s : State) : SoundNext s (execOvercurrentTrip h s) := by
  unfold execOvercurrentTrip
  refine ⟨_, rfl, ?_⟩
  split
  · exact (Sound.refl _).onHead.raiseBoth.headOutOf
  · exact (Sound.refl _).onHead.raiseBoth.headOutOf
  · exact Sound.refl _

@[simp] theorem execPoweringCheck_sound (h : Fin 4) (vCode tCode : BitVec 12) (s : State) :
    SoundNext s (execPoweringCheck h vCode tCode s) :=
  ⟨_, rfl, .ite (.ite (Sound.refl _).onHead.takeThermistor.headOutOf (.ite (Sound.refl
    _).onHead.takeThermistor.headOutOf (Sound.refl _).onHead.takeThermistor.onHead)) (Sound.refl _)⟩

@[simp] theorem execAutoRetry_sound (h : Fin 4) (s : State) : SoundNext s (execAutoRetry h s) :=
  ⟨_, rfl, .ite (Sound.refl _).onHead.setHead (Sound.refl _)⟩

@[simp] theorem execScanStart_sound (h : Fin 4) (iSum : BitVec 17) (s : State) :
    SoundNext s (execScanStart h iSum s) := by
  unfold execScanStart
  dsimp only
  refine ⟨_, rfl, ?_⟩
  split
  · split
    · split
      · exact (Sound.refl _).onHead
      · exact (Sound.refl _).senseAborts.onHead
    · exact Sound.refl _
  · split
    · split
      · exact (Sound.refl _).onHead
      · exact (Sound.refl _).senseAborts.onHead
    · exact Sound.refl _
  · split
    · split
      · exact (Sound.refl _).onHead
      · exact (Sound.refl _).senseAborts.onHead
    · exact Sound.refl _

theorem Sound.scanComplete (hs : Sound s₀ s) {h : Fin 4} : Sound s₀ (s.scanComplete h) :=
  .ite (.ite hs.onHead.onEnergy.raise0.setHead hs.onHead.onEnergy.raise0.headOutOf) hs.onHead.onEnergy.raise0

theorem Sound.scanOn (hs : Sound s₀ s) {h : Fin 4} {d : Nat} : Sound s₀ (s.scanOn h d) := by
  unfold State.scanOn
  split
  · exact hs.onHead
  · exact hs.scanComplete

@[simp] theorem execScanDot_sound (h : Fin 4) (vSum iSum : BitVec 17) (s : State) :
    SoundNext s (execScanDot h vSum iSum s) := by
  unfold execScanDot
  dsimp only
  refine ⟨_, rfl, ?_⟩
  split
  · exact .ite (Sound.refl _).scanComplete (Sound.refl _)
  · exact .ite (Sound.refl _) (.ite (Sound.refl _).scanOn (.ite (Sound.ite (Sound.ite (Sound.refl
      _).senseAborts.onHead.raise0 (Sound.refl _).senseAborts.onHead).setPar (.ite (Sound.refl
      _).senseAborts.onHead.raise0 (Sound.refl _).senseAborts.onHead)).onEnergy.headOutOf (Sound.ite (Sound.ite
      (Sound.refl _).senseAborts.onHead.raise0 (Sound.refl _).senseAborts.onHead).setPar (.ite (Sound.refl
      _).senseAborts.onHead.raise0 (Sound.refl _).senseAborts.onHead)).onEnergy.scanOn))

theorem Sound.handOver (hs : Sound s₀ s) {h : Fin 4} : Sound s₀ (s.handOver h) := hs.onHead

theorem Sound.writeHeadCfg (hs : Sound s₀ s) {h : Fin 4} {v : Par} : Sound s₀ (s.writeHeadCfg h v) := by
  unfold State.writeHeadCfg
  dsimp only
  split
  · exact .ite hs.setPar.onEnergy.setHead hs.setPar
  · exact .ite hs.setPar hs.setPar.setHead
  · exact hs.setPar

theorem Sound.writeHeadCtrl (hs : Sound s₀ s) {h : Fin 4} {v : Par} : Sound s₀ (s.writeHeadCtrl h v) :=
  .ite (Sound.ite (Sound.ite hs.enableHead hs.disableHead).onHead (.ite hs.enableHead hs.disableHead)).onHead (.ite
    (Sound.ite hs.enableHead hs.disableHead).onHead (.ite hs.enableHead hs.disableHead))

theorem Sound.writeTenantBound (hs : Sound s₀ s) {w : Fin 11} {h : Fin 4} {upper : Bool} {v : Fin 8} {x : Par} :
    Sound s₀ (s.writeTenantBound w h upper v x).1 := .ite_fst hs (.ite_fst hs.setPar hs.setPar.raiseWin)

theorem Sound.headItemWrite (hs : Sound s₀ s) {w : Fin 11} {h : Fin 4} {off : Nat} {v : Par} {vi : Option (Fin 8)} :
    Sound s₀ (s.headItemWrite w h off v vi).1 := by
  unfold State.headItemWrite
  dsimp only
  split
  · dsimp only
    exact hs.writeHeadCfg
  · split
    · dsimp only
      exact hs.setPar.settleEnvelope
    · split
      · dsimp only
        exact hs.setPar.raiseClamp
      · split
        · dsimp only
          exact hs.writeHeadCtrl
        · split
          · dsimp only
            exact hs.setPar.raiseClamp
          · split
            · dsimp only
              exact hs.onHead
            · split
              · dsimp only
                exact hs.setPar.raiseClamp
              · split
                · exact .ite_fst (.ite_fst hs.setPar.raiseClamp hs.setPar) (.ite_fst hs.writeTenantBound (.ite_fst
                    hs.writeTenantBound hs.setPar))
                · dsimp only
                  exact hs.setPar

/-! ### The legal mailbox -/

theorem Sound.sendLegal (hs : Sound s₀ s) {c : LegCommand} : Sound s₀ (s.sendLegal c).1 := by
  unfold State.sendLegal
  split
  · exact hs
  · split
    · dsimp only
      exact hs.onIsland
    · dsimp only
      exact hs.onLegal

theorem Sound.sendPrinted (hs : Sound s₀ s) {h : Fin 4} : Sound s₀ (s.sendPrinted h) := by
  unfold State.sendPrinted
  dsimp only
  split
  · exact hs
  · split
    · exact hs
    · exact hs.sendLegal.onRun

theorem Sound.resendPrinted (hs : Sound s₀ s) : Sound s₀ s.resendPrinted := by
  unfold State.resendPrinted
  refine hs.foldl fun u y hu => ?_
  split
  · exact .ite hu.sendPrinted hu
  · exact hu

theorem Sound.cutMade (hs : Sound s₀ s) {h : Fin 4} : Sound s₀ (s.cutMade h) := by
  unfold State.cutMade
  split
  · exact hs
  · exact .ite hs.onRun.sendPrinted hs.afterCut

/-! ### Axes and the cutter -/

theorem Sound.hardStopTo (hs : Sound s₀ s) {a : Fin 4} {cause : BitVec 3} {st : AxisState} :
    Sound s₀ (s.hardStopTo a cause st) := by
  unfold State.hardStopTo
  dsimp only
  split
  · split
    · exact hs.hardStop.setAxis.failOwner.failAxisJobs
    · exact hs.hardStop.setAxis.failOwner.failAxisJobs
    · exact hs.hardStop.setAxis.failAxisJobs
  · exact hs.hardStop.setAxis.failAxisJobs

@[simp] theorem execChopperTrip_sound (a : Fin 4) (phaseB : Bool) (s : State) :
    SoundNext s (execChopperTrip a phaseB s) :=
  ⟨_, rfl, .ite (Sound.refl _).onAxis (Sound.refl _)⟩

@[simp] theorem execOffTimeEnd_sound (a : Fin 4) (phaseB : Bool) (s : State) :
    SoundNext s (execOffTimeEnd a phaseB s) :=
  ⟨_, rfl, .ite (Sound.refl _).onAxis (Sound.refl _)⟩

@[simp] theorem execStandstillReduction_sound (a : Fin 4) (s : State) : SoundNext s (execStandstillReduction a s) :=
  ⟨_, rfl, .ite (Sound.refl _).onAxis.loadDacs (Sound.refl _)⟩

theorem Sound.setCutter (hs : Sound s₀ s) {st : CutState} : Sound s₀ (s.setCutter st) := hs.onCutter.onAxis

theorem Sound.cutterReturn (hs : Sound s₀ s) : Sound s₀ s.cutterReturn := hs.setCutter

theorem Sound.cutterEvent (hs : Sound s₀ s) {since : Nat} : Sound s₀ (s.cutterEvent since) := by
  unfold State.cutterEvent
  dsimp only
  split
  · split
    · exact .ite hs.raise0.raiseVi hs.raise0
    · exact hs.raise0
  · exact hs.raise0

theorem Sound.cutterDropJob (hs : Sound s₀ s) : Sound s₀ s.cutterDropJob := by
  unfold State.cutterDropJob
  dsimp only
  split
  · exact (Sound.ite hs.stopJob hs).onCutter
  · exact hs.onCutter

theorem Sound.cutterJam (hs : Sound s₀ s) : Sound s₀ s.cutterJam := hs.setCutter.cutterEvent.cutterDropJob

theorem Sound.enableAxis (hs : Sound s₀ s) {a : Fin 4} : Sound s₀ (s.enableAxis a) := by
  unfold State.enableAxis
  dsimp only
  split
  · split
    · exact hs
    · split
      · exact hs.onAxis
      · exact .ite hs.onAxis.setCutter hs.onAxis.setCutter
  · split
    · exact hs
    · split
      · exact hs.onAxis.axisEvent
      · exact hs.onAxis.onAxis.loadDacs.setAxis

theorem Sound.axisOff (hs : Sound s₀ s) {a : Fin 4} {cause : BitVec 3} : Sound s₀ (s.axisOff a cause) :=
  .ite (.ite hs.onAxis hs.onAxis.setCutter.cutterDropJob) (.ite hs.hardStopTo.onAxis hs.onAxis.setAxis)

theorem Sound.haltAxis (hs : Sound s₀ s) {a : Fin 4} : Sound s₀ (s.haltAxis a) := by
  unfold State.haltAxis
  split
  · exact hs
  · split
    · exact hs.hardStopTo
    · exact hs.hardStopTo
    · exact hs.hardStopTo
    · exact hs

theorem Sound.clearAxis (hs : Sound s₀ s) {a : Fin 4} : Sound s₀ (s.clearAxis a) :=
  .ite (.ite hs (.ite hs.setCutter (.ite hs hs.setCutter))) (.ite hs (.ite hs.axisEvent hs.loadDacs.setAxis))

theorem Sound.revReference (hs : Sound s₀ s) {a : Fin 4} : Sound s₀ (s.revReference a) := hs.onAxis

@[simp] theorem execBridgeFault_sound (a : Fin 4) (low : Bool) (s : State) : SoundNext s (execBridgeFault a low s) := by
  unfold execBridgeFault
  dsimp only
  refine ⟨_, rfl, ?_⟩
  split
  · exact (Sound.refl _).onAxis
  · split
    · split
      · exact (Sound.refl _).onAxis
      · exact (Sound.refl _).onAxis
      · exact (Sound.refl _).onAxis.cutterJam
    · split
      · exact (Sound.refl _).onAxis.hardStopTo.onAxis
      · exact (Sound.refl _).onAxis.hardStopTo.onAxis
      · exact (Sound.refl _).onAxis.hardStopTo.onAxis
      · exact (Sound.refl _).onAxis

@[simp] theorem execLimitActive_sound (a : Fin 4) (input : Fin 2) (active : Bool) (s : State) :
    SoundNext s (execLimitActive a input active s) := by
  unfold execLimitActive
  dsimp only
  refine ⟨_, rfl, ?_⟩
  split
  · exact Sound.refl _
  · split
    · split
      · exact (Sound.refl _).onAxis
      · split
        · exact (Sound.refl _).onAxis.limitEvent.hardStopTo
        · split
          · split
            · exact (Sound.refl _).onAxis.limitEvent.rampStop.failOwner
            · exact (Sound.refl _).onAxis.limitEvent.rampStop
          · exact (Sound.refl _).onAxis.limitEvent
    · split
      · exact (Sound.refl _).onAxis
      · split
        · exact (Sound.refl _).onAxis.limitEvent.hardStopTo
        · split
          · split
            · exact (Sound.refl _).onAxis.limitEvent.rampStop.failOwner
            · exact (Sound.refl _).onAxis.limitEvent.rampStop
          · exact (Sound.refl _).onAxis.limitEvent

theorem Sound.resumeRun (hs : Sound s₀ s) {h : Fin 4} : Sound s₀ (s.resumeRun h) := by
  unfold State.resumeRun
  dsimp only
  split
  · exact hs
  · split
    · split
      · split
        · split
          · exact (Sound.ite hs.onRun.endLate hs.onRun).endExternal.afterLines
          · exact hs.onRun.endExternal.afterLines
        · split
          · exact (Sound.ite hs.onRun.endLate hs.onRun).afterLines
          · exact hs.onRun.afterLines
      · split
        · split
          · exact (Sound.ite hs.onRun.endLate hs.onRun).endExternal.refreshHead
          · exact hs.onRun.endExternal.refreshHead
        · split
          · exact (Sound.ite hs.onRun.endLate hs.onRun).refreshHead
          · exact hs.onRun.refreshHead
    · exact hs

theorem Sound.rampEnded (hs : Sound s₀ s) {a : Fin 4} : Sound s₀ (s.rampEnded a) := by
  unfold State.rampEnded
  dsimp only
  split
  · split
    · exact .ite hs.onAxis.setAxis.startMove.resumeRun hs.onAxis.setAxis.startMove
    · exact hs.onAxis.setAxis.startMove
  · exact hs.onAxis.setAxis

theorem Sound.updateAxis (hs : Sound s₀ s) {a : Fin 4} : Sound s₀ (s.updateAxis a) := by
  unfold State.updateAxis
  dsimp only
  split
  · split
    · exact hs
    · exact .ite hs.finishMove (.ite hs hs.onAxis)
  · exact .ite hs.rampEnded hs.onAxis
  · exact hs

@[simp] theorem execMotionUpdate_sound (s : State) : SoundNext s (execMotionUpdate s) :=
  ⟨_, rfl, (Sound.refl _).foldl fun _ _ hu => hu.updateAxis⟩

theorem Sound.activateMover (hs : Sound s₀ s) {o : MoveOwner} : Sound s₀ (s.activateMover o) := by
  unfold State.activateMover
  split
  · split
    · exact .ite hs.activate hs
    · exact hs
  · exact hs

@[simp] theorem execMicrostep_sound (a : Fin 4) (s : State) : SoundNext s (execMicrostep a s) := by
  unfold execMicrostep
  dsimp only
  refine ⟨_, rfl, ?_⟩
  split
  · split
    · split
      · exact .ite (Sound.refl _).onAxis.loadDacs.activateMover.finishMove (Sound.refl _).onAxis.loadDacs.activateMover
      · exact .ite (Sound.refl _).onAxis.loadDacs.finishMove (Sound.refl _).onAxis.loadDacs
    · split
      · exact (Sound.refl _).onAxis.loadDacs.activateMover
      · exact (Sound.refl _).onAxis.loadDacs
  · exact Sound.refl _

theorem Sound.startsHere (hs : Sound s₀ s) {a : Fin 4} {o : MoveOwner} : Sound s₀ (s.startsHere a o) := by
  unfold State.startsHere
  split
  · exact hs.onRun
  · exact hs

theorem Sound.startQueued (hs : Sound s₀ s) {a : Fin 4} {m : Move} : Sound s₀ (s.startQueued a m) := by
  unfold State.startQueued
  dsimp only
  split
  · exact .ite hs.setAxis.beginTof hs.startsHere.startMove
  · exact hs.startMove

@[simp] theorem execQueuedMoveStart_sound (a : Fin 4) (s : State) : SoundNext s (execQueuedMoveStart a s) := by
  unfold execQueuedMoveStart
  dsimp only
  refine ⟨_, rfl, ?_⟩
  split
  · exact .ite (.ite (Sound.refl _).onAxis.startQueued.axisEvent (Sound.refl _).onAxis.startQueued) (Sound.refl _)
  · exact Sound.refl _

@[simp] theorem execCutStart_sound (h : Fin 4) (s : State) : SoundNext s (execCutStart h s) := by
  unfold execCutStart
  dsimp only
  refine ⟨_, rfl, ?_⟩
  split
  · split
    · exact .ite (Sound.refl _).setCutter.onCutter.activate (Sound.refl _).setCutter.onCutter
    · exact (Sound.refl _).setCutter.onCutter
  · exact Sound.refl _

@[simp] theorem execHomeSwitch_sound (home : Bool) (s : State) : SoundNext s (execHomeSwitch home s) := by
  unfold execHomeSwitch
  dsimp only
  refine ⟨_, rfl, ?_⟩
  split
  · exact (Sound.refl _).onCutter
  · split
    · exact .ite (Sound.refl _).onCutter.onCutter (.ite (Sound.refl _).onCutter.setCutter (Sound.refl _).onCutter)
    · exact .ite (Sound.refl _).onCutter.setCutter (Sound.refl _).onCutter
    · exact (Sound.refl _).onCutter

@[simp] theorem execCutPartialTimeout_sound (s : State) : SoundNext s (execCutPartialTimeout s) :=
  ⟨_, rfl, .ite (Sound.refl _).cutterReturn (Sound.refl _)⟩

@[simp] theorem execCutTimeout_sound (s : State) : SoundNext s (execCutTimeout s) := by
  unfold execCutTimeout
  dsimp only
  refine ⟨_, rfl, ?_⟩
  split
  · exact .ite (Sound.refl _).setCutter.onCutter.cutterEvent.setCutter (Sound.refl _).setCutter.onCutter.cutterEvent
  · exact (Sound.refl _).cutterJam
  · exact Sound.refl _

@[simp] theorem execBrakeEnd_sound (s : State) : SoundNext s (execBrakeEnd s) := by
  unfold execBrakeEnd
  dsimp only
  refine ⟨_, rfl, ?_⟩
  split
  · split
    · split
      · exact (Sound.ite (Sound.refl _).stopJob (Sound.refl _)).setCutter.onCutter
      · exact (Sound.refl _).setCutter.onCutter
    · split
      · split
        · exact (Sound.ite (Sound.refl _).stopJob (Sound.refl _)).setCutter.onCutter
        · exact (Sound.refl _).setCutter.onCutter
      · split
        · split
          · exact (Sound.ite (Sound.refl _).stopJob (Sound.refl _)).setCutter.onCutter.onMedia.revReference
          · exact (Sound.refl _).setCutter.onCutter.onMedia.revReference
        · split
          · split
            · split
              · exact (Sound.ite (Sound.refl _).stopJob (Sound.refl
                  _)).setCutter.onCutter.onMedia.revReference.continueTof
              · exact (Sound.refl _).setCutter.onCutter.onMedia.revReference.continueTof
            · split
              · split
                · exact (Sound.ite (Sound.refl _).stopJob (Sound.refl
                    _)).setCutter.onCutter.onMedia.revReference.doneRun
                · exact (Sound.refl _).setCutter.onCutter.onMedia.revReference.doneRun
              · split
                · exact (Sound.ite (Sound.refl _).stopJob (Sound.refl
                    _)).setCutter.onCutter.onMedia.revReference.cutMade
                · exact (Sound.refl _).setCutter.onCutter.onMedia.revReference.cutMade
          · split
            · exact (Sound.ite (Sound.refl _).stopJob (Sound.refl _)).setCutter.onCutter.onMedia.revReference.onLoamHead
            · exact (Sound.refl _).setCutter.onCutter.onMedia.revReference.onLoamHead
  · exact Sound.refl _

theorem Sound.serviceMove (hs : Sound s₀ s) {a : Fin 4} {v : Par} : Sound s₀ (s.serviceMove a v).1 :=
  .ite_fst hs.onAxis (.ite_fst hs.onAxis hs.requestMove)

theorem Sound.writeAxisCtrl (hs : Sound s₀ s) {a : Fin 4} {v : Par} : Sound s₀ (s.writeAxisCtrl a v) :=
  .ite (Sound.ite (Sound.ite (Sound.ite (Sound.ite hs.enableAxis hs.axisOff).haltAxis (.ite hs.enableAxis
    hs.axisOff)).clearAxis (.ite (Sound.ite hs.enableAxis hs.axisOff).haltAxis (.ite hs.enableAxis hs.axisOff))).onAxis
    (.ite (Sound.ite (Sound.ite hs.enableAxis hs.axisOff).haltAxis (.ite hs.enableAxis hs.axisOff)).clearAxis (.ite
    (Sound.ite hs.enableAxis hs.axisOff).haltAxis (.ite hs.enableAxis hs.axisOff)))).revReference (.ite (Sound.ite
    (Sound.ite (Sound.ite hs.enableAxis hs.axisOff).haltAxis (.ite hs.enableAxis hs.axisOff)).clearAxis (.ite (Sound.ite
    hs.enableAxis hs.axisOff).haltAxis (.ite hs.enableAxis hs.axisOff))).onAxis (.ite (Sound.ite (Sound.ite
    hs.enableAxis hs.axisOff).haltAxis (.ite hs.enableAxis hs.axisOff)).clearAxis (.ite (Sound.ite hs.enableAxis
    hs.axisOff).haltAxis (.ite hs.enableAxis hs.axisOff))))

theorem Sound.axisItemWrite (hs : Sound s₀ s) {a : Fin 4} {off : Nat} {v : Par} :
    Sound s₀ (s.axisItemWrite a off v).1 :=
  .ite_fst hs.writeAxisCtrl (.ite_fst hs.serviceMove (.ite_fst hs.setPar.loadDacs hs.setPar))

/-! ### Media -/

theorem Sound.mediaEvent (hs : Sound s₀ s) {h : Fin 4} {code : Byte} {aux : Nat} {payload : Int} :
    Sound s₀ (s.mediaEvent h code aux payload) := hs.raiseBoth

theorem Sound.mediaState (hs : Sound s₀ s) {h : Fin 4} : Sound s₀ (s.mediaState h) := hs.raiseBoth

theorem Sound.mediaForget (hs : Sound s₀ s) {h : Fin 4} : Sound s₀ (s.mediaForget h) := hs.onMedia

theorem Sound.retarget (hs : Sound s₀ s) {a : Fin 4} {t : Int} : Sound s₀ (s.retarget a t) := hs.onAxis

theorem Sound.putThreshold (hs : Sound s₀ s) {h : Fin 4} {mark : Bool} {x : Int} {slew : Bool} :
    Sound s₀ (s.putThreshold h mark x slew) := hs.onMedia

theorem Sound.thresholdUpdate (hs : Sound s₀ s) {h : Fin 4} {lab gap : Rat} : Sound s₀ (s.thresholdUpdate h lab gap) :=
  .ite hs.onMedia.putThreshold.loopHeldFrozen (.ite hs.onMedia.putThreshold.loopUpdated.raise0
    hs.onMedia.putThreshold.loopUpdated)

theorem Sound.learnPitch (hs : Sound s₀ s) {h : Fin 4} : Sound s₀ (s.learnPitch h) := .ite hs.onMedia.mediaEvent hs

theorem Sound.learnStop (hs : Sound s₀ s) {h : Fin 4} : Sound s₀ (s.learnStop h) := by
  unfold State.learnStop
  dsimp only
  split
  · split
    · exact hs.onMedia.retarget
    · exact hs.onMedia.retarget
    · exact hs.onMedia
  · exact hs

theorem Sound.leadingEdge (hs : Sound s₀ s) {h : Fin 4} {p : Int} : Sound s₀ (s.leadingEdge h p) := by
  unfold State.leadingEdge
  dsimp only
  split
  · exact (Sound.ite hs.onMedia.onMedia hs.onMedia).onMedia.onRun.retarget
  · exact .ite hs.onMedia.onMedia hs.onMedia

theorem Sound.trailingEdge (hs : Sound s₀ s) {h : Fin 4} {p : Int} {lab gap : Option Rat} :
    Sound s₀ (s.trailingEdge h p lab gap) := by
  unfold State.trailingEdge
  dsimp only
  split
  · split
    · exact hs.onMedia.thresholdUpdate.learnPitch.learnStop.onMedia.onAxis.retarget
    · exact hs.onMedia.learnPitch.learnStop.onMedia.onAxis.retarget
  · split
    · exact hs.onMedia.thresholdUpdate.learnPitch.learnStop
    · exact hs.onMedia.learnPitch.learnStop

theorem Sound.sideSample (hs : Sound s₀ s) {h : Fin 4} {side : Bool} {code : Nat} :
    Sound s₀ (s.sideSample h side code) := by
  unfold State.sideSample
  dsimp only
  split
  · exact hs.onMedia
  · split
    · split
      · split
        · exact hs.onMedia
        · split
          · exact hs.onMedia
          · exact .ite hs.onMedia.leadingEdge hs.onMedia.trailingEdge
      · split
        · exact hs.onMedia
        · split
          · exact hs.onMedia
          · exact .ite hs.onMedia.leadingEdge hs.onMedia.trailingEdge
    · split
      · exact hs.onMedia
      · split
        · exact hs.onMedia
        · exact .ite hs.onMedia.leadingEdge hs.onMedia.trailingEdge

@[simp] theorem execMediaSample_sound (h : Fin 4) (code : BitVec 12) (s : State) :
    SoundNext s (execMediaSample h code s) := by
  unfold execMediaSample
  dsimp only
  refine ⟨_, rfl, ?_⟩
  split
  · split
    · exact (Sound.refl _).convMade.onMedia
    · split
      · exact (Sound.refl _).convMade.sideSample
      · exact (Sound.refl _).convMade.onMedia
  · exact Sound.refl _

@[simp] theorem execLabelStartMissed_sound (h : Fin 4) (s : State) : SoundNext s (execLabelStartMissed h s) := by
  unfold execLabelStartMissed
  dsimp only
  refine ⟨_, rfl, ?_⟩
  split
  · exact .ite (Sound.refl _).onMedia.mediaEvent (Sound.refl _)
  · exact Sound.refl _

@[simp] theorem execSeekMaxReached_sound (h : Fin 4) (s : State) : SoundNext s (execSeekMaxReached h s) := by
  unfold execSeekMaxReached
  dsimp only
  refine ⟨_, rfl, ?_⟩
  split
  · exact Sound.refl _
  · split
    · exact Sound.refl _
    · split
      · exact (Sound.refl _).onMedia.mediaEvent.stopJob
      · exact (Sound.refl _).onMedia.rampStop.setPhase.mediaEvent
      · exact (Sound.refl _).onMedia.rampStop.onMedia.mediaEvent

theorem Sound.paperEnds (hs : Sound s₀ s) {h : Fin 4} : Sound s₀ (s.paperEnds h) := hs.onMedia.mediaState.stopJob

@[simp] theorem execPaperLow_sound (h : Fin 4) (s : State) : SoundNext s (execPaperLow h s) :=
  ⟨_, rfl, .ite (Sound.refl _).onMedia (.ite (Sound.refl _).onMedia.onMedia.paperEnds (Sound.refl
    _).onMedia.onMedia.mediaState)⟩

@[simp] theorem execPaperEnd_sound (h : Fin 4) (s : State) : SoundNext s (execPaperEnd h s) :=
  ⟨_, rfl, .ite (Sound.refl _).paperEnds (Sound.refl _)⟩

@[simp] theorem execPaperClear_sound (h : Fin 4) (s : State) : SoundNext s (execPaperClear h s) :=
  ⟨_, rfl, .ite (Sound.refl _).onMedia.onMedia.onAxis.mediaForget.mediaState (Sound.refl _).onMedia⟩

@[simp] theorem execCoverOpen_sound (h : Fin 4) (s : State) : SoundNext s (execCoverOpen h s) :=
  ⟨_, rfl, .ite (Sound.refl _).onMedia (Sound.refl _).onMedia.onMedia.onAxis.mediaForget.mediaState.stopJob⟩

@[simp] theorem execCoverClose_sound (h : Fin 4) (s : State) : SoundNext s (execCoverClose h s) :=
  ⟨_, rfl, .ite (Sound.refl _).onMedia.onMedia.mediaState (Sound.refl _).onMedia⟩

theorem Sound.startLearn (hs : Sound s₀ s) {h : Fin 4} : Sound s₀ (s.startLearn h) := by
  unfold State.startLearn
  dsimp only
  split
  · exact hs.onMedia.feedTo
  · exact hs.onMedia.onMedia.feedTo

theorem Sound.writeMediaCtrl (hs : Sound s₀ s) {h : Fin 4} {v : Par} : Sound s₀ (s.writeMediaCtrl h v) :=
  .ite (Sound.ite hs.startLearn hs).onMedia (.ite hs.startLearn hs)

theorem Sound.freeIdleLoops (hs : Sound s₀ s) {h : Fin 4} : Sound s₀ (s.freeIdleLoops h) :=
  .ite (.ite hs hs.loopFree) (Sound.ite hs hs.loopFree).loopFree

theorem Sound.mediaItemWrite (hs : Sound s₀ s) {h : Fin 4} {off : Nat} {v : Par} :
    Sound s₀ (s.mediaItemWrite h off v).1 :=
  .ite_fst hs.setPar.mediaForget.freeIdleLoops (.ite_fst hs.writeMediaCtrl hs.setPar)

/-! ### Lamps -/

theorem Sound.lampOff (hs : Sound s₀ s) {c : Fin 8} : Sound s₀ (s.lampOff c) := hs.onLamp

theorem Sound.lampEvent (hs : Sound s₀ s) {c : Fin 8} {code aux : Byte} {payload : Word} :
    Sound s₀ (s.lampEvent c code aux payload) := hs.raiseBoth

theorem Sound.lampTrip (hs : Sound s₀ s) {c : Fin 8} {heavy : Bool} : Sound s₀ (s.lampTrip c heavy) :=
  hs.onLamp.lampEvent

@[simp] theorem execLampAdmit_sound (s : State) : SoundNext s (execLampAdmit s) := by
  unfold execLampAdmit
  refine ⟨_, rfl, ?_⟩
  split
  · exact .ite (Sound.refl _).onLamp (Sound.refl _)
  · exact Sound.refl _

@[simp] theorem execPwmPeriod_sound (s : State) : SoundNext s (execPwmPeriod s) :=
  ⟨_, rfl, (Sound.refl _).foldl fun _ _ hu => hu.onLamp⟩

@[simp] theorem execInrushComplete_sound (c : Fin 8) (s : State) : SoundNext s (execInrushComplete c s) :=
  ⟨_, rfl, .ite (Sound.refl _).onLamp (Sound.refl _)⟩

@[simp] theorem execLimitTrip_sound (c : Fin 8) (s : State) : SoundNext s (execLimitTrip c s) :=
  ⟨_, rfl, .ite (Sound.refl _).onLamp (Sound.refl _)⟩

@[simp] theorem execOverload_sound (c : Fin 8) (s : State) : SoundNext s (execOverload c s) :=
  ⟨_, rfl, .ite (Sound.refl _).lampTrip (Sound.refl _)⟩

@[simp] theorem execShortTrip_sound (c : Fin 8) (s : State) : SoundNext s (execShortTrip c s) :=
  ⟨_, rfl, .ite (Sound.refl _).lampTrip (Sound.refl _)⟩

@[simp] theorem execLampOpen_sound (c : Fin 8) (s : State) : SoundNext s (execLampOpen c s) :=
  ⟨_, rfl, .ite (Sound.refl _).onLamp.lampEvent (Sound.refl _)⟩

@[simp] theorem execLampCurrentSample_sound (c : Fin 8) (code : BitVec 12) (s : State) :
    SoundNext s (execLampCurrentSample c code s) := ⟨_, rfl, .ite (Sound.refl _).convMade.onLamp (Sound.refl _)⟩

theorem Sound.lampOp (hs : Sound s₀ s) {op duty : Nat} {c : Fin 8} : Sound s₀ (s.lampOp op duty c) := by
  unfold State.lampOp
  split
  · exact .ite hs hs.lampOff
  · exact hs.requestOn
  · exact hs.onLamp
  · exact .ite hs.lampOff hs

theorem Sound.writeLampCmd (hs : Sound s₀ s) {v : Fin 8} {x : Par} : Sound s₀ (s.writeLampCmd v x).1 :=
  .ite_fst hs (hs.onVi.foldl (fun _ _ hu => .ite hu.lampOp hu))

theorem Sound.lampItemWrite (hs : Sound s₀ s) {w : Fin 11} {c : Fin 8} {off : Nat} {v : Par} :
    Sound s₀ (s.lampItemWrite w c off v).1 := .ite_fst hs.setPar.raiseClamp hs.setPar

/-! ### Loam -/

theorem Sound.drive (hs : Sound s₀ s) {x : Word} : Sound s₀ (s.drive x) := hs.onBus

theorem Sound.endHeld (hs : Sound s₀ s) {v : Fin 8} : Sound s₀ (s.endHeld v) := by
  unfold State.endHeld
  dsimp only
  exact (Sound.ite hs.drive hs).onData

@[simp] theorem execJobAlloc_sound (vi : Fin 8) (s : State) : SoundNext s (execJobAlloc vi s) := by
  unfold execJobAlloc
  refine ⟨_, rfl, ?_⟩
  split
  · exact Sound.refl _
  · split
    · exact (Sound.refl _).drive
    · split
      · split
        · exact .ite (Sound.refl _).onJob.drive (Sound.refl _).drive
        · exact (Sound.refl _).drive
      · exact (Sound.refl _).drive
      · exact (Sound.refl _).drive

theorem Sound.refreshEligible (hs : Sound s₀ s) : Sound s₀ s.refreshEligible := by
  unfold State.refreshEligible
  dsimp only
  refine hs.accrue.foldl fun u y hu => ?_
  refine hu.foldl fun u y hu => ?_
  split
  · exact hu
  · exact hu.onJob

theorem Sound.joinBacklog (hs : Sound s₀ s) {v : Fin 8} {h : Fin 4} : Sound s₀ (s.joinBacklog v h) := by
  unfold State.joinBacklog
  dsimp only
  split
  · exact hs
  · split
    · exact hs.onVi
    · exact hs

theorem Sound.acceptJob (hs : Sound s₀ s) {v : Fin 8} {i : Handle} : Sound s₀ (s.acceptJob v i) := by
  unfold State.acceptJob
  dsimp only
  exact .ite (Sound.ite hs hs.joinBacklog).onJob.onLoam.joinChain.onVi.endJob (.ite (Sound.ite hs
    hs.joinBacklog).onJob.onLoam.joinChain.onVi.fencesDone (Sound.ite hs
    hs.joinBacklog).onJob.onLoam.joinChain.onVi.refreshEligible)

theorem Sound.submitJob (hs : Sound s₀ s) {v : Fin 8} {x : Word} : Sound s₀ (s.submitJob v x) :=
  .ite hs (.ite hs.onVi.acceptJob hs.onVi.onVi)

theorem Sound.startJob (hs : Sound s₀ s) {j : JobRef} {surplus : Bool} {record : Option (BitVec 32)} :
    Sound s₀ (s.startJob j surplus record) :=
  .ite (Sound.ite hs.dispatchJob.handOver.onRun.beginTof hs.dispatchJob.handOver.onRun).refreshHead (.ite
    hs.dispatchJob.handOver.onRun hs.dispatchJob.handOver.onRun.requestMove)

theorem Sound.issueAnswer (hs : Sound s₀ s) {j : JobRef} {rsp : Byte} {surplus : Bool} :
    Sound s₀ (s.issueAnswer j rsp surplus) := by
  unfold State.issueAnswer
  dsimp only
  exact .ite hs.onJob (.ite (.ite hs.endJob (.ite hs.onHead.startJob hs.onJob)) hs.endJob)

theorem Sound.sendIssue (hs : Sound s₀ s) {j : JobRef} : Sound s₀ (s.sendIssue j).1 := by
  unfold State.sendIssue
  split
  · exact hs
  · split
    · dsimp only
      exact hs.onLegal
    · exact hs.sendLegal

theorem Sound.issueJob (hs : Sound s₀ s) {j : JobRef} {surplus : Bool} : Sound s₀ (s.issueJob j surplus) := by
  unfold State.issueJob
  dsimp only
  split
  · exact hs.sendIssue.onLoamHead.onJob
  · exact hs.sendIssue.issueAnswer

theorem Sound.startPurge (hs : Sound s₀ s) {h : Fin 4} {p : Purge} : Sound s₀ (s.startPurge h p) :=
  .ite hs.onLoamHead (.ite hs.onLoamHead hs.onLoamHead.feedTo)

@[simp] theorem execHeadPurged_sound (h : Fin 4) (s : State) : SoundNext s (execHeadPurged h s) := by
  unfold execHeadPurged
  dsimp only
  refine ⟨_, rfl, ?_⟩
  split
  · exact Sound.refl _
  · exact .ite (Sound.refl _).onLoamHead.raise0 (Sound.refl _)

@[simp] theorem execJobSelect_sound (h : Fin 4) (s : State) : SoundNext s (execJobSelect h s) := by
  unfold execJobSelect
  dsimp only
  refine ⟨_, rfl, ?_⟩
  split
  · exact (Sound.refl _).refreshEligible
  · split
    · exact (Sound.refl _).refreshEligible
    · split
      · exact .ite (Sound.refl _).refreshEligible.startPurge (Sound.refl _).refreshEligible
      · exact .ite (Sound.refl _).refreshEligible.endJob (.ite (Sound.refl _).refreshEligible.issueJob (Sound.refl
          _).refreshEligible.startJob)

theorem Sound.capLoop (hs : Sound s₀ s) {h : Fin 4} : Sound s₀ (s.capLoop h) :=
  .ite hs.onLoamHead.loopFree (.ite hs.onLoamHead.loopHeldFrozen hs.onLoamHead.loopUpdated)

theorem Sound.capNotify (hs : Sound s₀ s) {h : Fin 4} : Sound s₀ (s.capNotify h) := .ite hs.onLoamHead.raiseBoth hs

@[simp] theorem execCapacityUpdate_sound (s : State) : SoundNext s (execCapacityUpdate s) :=
  ⟨_, rfl, .ite ((Sound.refl _).refreshEligible.foldl (fun _ _ hu => .ite hu.capLoop.capNotify hu)) (Sound.refl _)⟩

theorem Sound.jobItemWrite (hs : Sound s₀ s) {v : Fin 8} {off : Nat} {x : Par} : Sound s₀ (s.jobItemWrite v off x) :=
  .ite hs.onJob hs.onJob

/-! ### The link -/

theorem Sound.setLink (hs : Sound s₀ s) {st : LinkState} {cause : Nat} : Sound s₀ (s.setLink st cause) :=
  .ite hs hs.onLink.raise0

theorem Sound.settleLink (hs : Sound s₀ s) : Sound s₀ s.settleLink :=
  .ite hs (.ite hs.setLink (.ite hs.setLink hs.setLink))

@[simp] theorem execReceiveError_sound (kind : Fin 3) (s : State) : SoundNext s (execReceiveError kind s) :=
  ⟨_, rfl, .ite (Sound.refl _).onLink.settleLink (Sound.refl _)⟩

@[simp] theorem execBusOffRecovery_sound (s : State) : SoundNext s (execBusOffRecovery s) :=
  ⟨_, rfl, .ite (Sound.refl _).onLink.setLink (Sound.refl _)⟩

theorem Sound.writeRyCtrl (hs : Sound s₀ s) {v : Par} : Sound s₀ (s.writeRyCtrl v) := .ite hs.onLink hs

theorem Sound.jobBack (hs : Sound s₀ s) {j : JobRef} : Sound s₀ (s.jobBack j) := hs.joinBacklog.returnJob.onJob

theorem Sound.chargeE (hs : Sound s₀ s) {j : JobRef} : Sound s₀ (s.chargeE j) := hs.charge

theorem Sound.peerGone (hs : Sound s₀ s) {j : JobRef} {m : Migration} : Sound s₀ (s.peerGone j m) := by
  unfold State.peerGone
  exact .ite hs (.ite hs.chargeE.endJob hs.jobBack)

theorem Sound.losePeer (hs : Sound s₀ s) {n : Fin 16} : Sound s₀ (s.losePeer n) :=
  .ite hs (hs.onLink.raise0.foldl (fun _ _ hu => hu.peerGone))

@[simp] theorem execPeerTimeout_sound (n : Fin 16) (s : State) : SoundNext s (execPeerTimeout n s) :=
  ⟨_, rfl, (Sound.refl _).losePeer.refreshEligible⟩

theorem Sound.linkFallback (hs : Sound s₀ s) : Sound s₀ s.linkFallback :=
  (hs.setLink.foldl (fun _ _ hu => hu.losePeer)).refreshEligible

theorem Sound.takeRyine (hs : Sound s₀ s) {src : Fin 16} {seq : BitVec 4} {dst : BitVec 5} :
    Sound s₀ (s.takeRyine src seq dst).2 :=
  .ite_snd hs (.ite_snd hs.onLink.setLink (.ite_snd hs (.ite hs.onLink.settleLink hs.onLink.settleLink.raise0)))

@[simp] theorem execReservedFrame_sound (src : Fin 16) (seq : BitVec 4) (dst : BitVec 5) (s : State) :
    SoundNext s (execReservedFrame src seq dst s) := ⟨_, rfl, (Sound.refl _).takeRyine⟩

@[simp] theorem execEvt_sound (src : Fin 16) (seq : BitVec 4) (dst : BitVec 5) (payload : List Byte) (s : State) :
    SoundNext s (execEvt src seq dst payload s) :=
  ⟨_, rfl, .ite (Sound.refl _).takeRyine.raise0 (Sound.refl _).takeRyine⟩

@[simp] theorem execCap_sound (src : Fin 16) (seq : BitVec 4) (dst : BitVec 5) (payload : List Byte) (s : State) :
    SoundNext s (execCap src seq dst payload s) :=
  ⟨_, rfl, .ite (Sound.refl _).takeRyine.onLink (Sound.refl _).takeRyine⟩

theorem Sound.applySync (hs : Sound s₀ s) {src : Fin 16} {off : Int} : Sound s₀ (s.applySync src off) :=
  .ite hs.onAo.onLink.onAo.onLink.raise0 hs.onAo.onLink.onAo.onLink

@[simp] theorem execSync_sound (src : Fin 16) (seq : BitVec 4) (dst : BitVec 5) (payload : List Byte) (age : Nat) (s :
    State) :
    SoundNext s (execSync src seq dst payload age s) :=
  ⟨_, rfl, .ite (.ite (Sound.refl _).takeRyine.onLink.applySync (Sound.refl _).takeRyine.onLink) (Sound.refl
    _).takeRyine⟩

@[simp] theorem execTimeSlew_sound (s : State) : SoundNext s (execTimeSlew s) := by
  refine ⟨_, rfl, (Sound.refl s).onAo fun a => ?_⟩
  (repeat' split) <;> rfl

@[simp] theorem execSyncLoss_sound (s : State) : SoundNext s (execSyncLoss s) := ⟨_, rfl, (Sound.refl _).onLink⟩

@[simp] theorem execSyncPeriod_sound (s : State) : SoundNext s (execSyncPeriod s) :=
  ⟨_, rfl, .ite (Sound.refl _).queueFrame (Sound.refl _)⟩

@[simp] theorem execCapPeriod_sound (s : State) : SoundNext s (execCapPeriod s) :=
  ⟨_, rfl, .ite (Sound.refl _).onLink.queueFrame (Sound.refl _)⟩

theorem Sound.writeEvtTx (hs : Sound s₀ s) {v : Par} : Sound s₀ (s.writeEvtTx v) := hs.queueFrame

theorem Sound.topData (hs : Sound s₀ s) : Sound s₀ s.topData := by
  unfold State.topData
  dsimp only
  split
  · exact hs
  · split
    · exact hs
    · exact hs.onJob.queueFrame

@[simp] theorem execFrameTransmit_sound (fraction : Byte) (s : State) : SoundNext s (execFrameTransmit fraction s) := by
  unfold execFrameTransmit
  dsimp only
  refine ⟨_, rfl, ?_⟩
  split
  · split
    · exact (Sound.refl _).onLink.topData
    · exact Sound.refl _
  · exact Sound.refl _

theorem Sound.retryFrame (hs : Sound s₀ s) {f : RyFrame} : Sound s₀ (s.retryFrame f) :=
  .ite (.ite hs.onLink hs.onLink.raise0) hs.onLink

theorem Sound.lostFrame (hs : Sound s₀ s) {f : RyFrame} : Sound s₀ (s.lostFrame f) := hs.onLink

@[simp] theorem execTransmitEnd_sound (result : Fin 7) (s : State) : SoundNext s (execTransmitEnd result s) := by
  unfold execTransmitEnd
  dsimp only
  refine ⟨_, rfl, ?_⟩
  split
  · exact Sound.refl _
  · split
    · exact (Sound.refl _).onLink.onLink.settleLink.topData
    · exact (Sound.refl _).onLink.onLink.lostFrame.topData
    · exact (Sound.refl _).onLink.onLink.lostFrame.topData
    · exact (Sound.refl _).onLink.onLink.retryFrame.topData
    · exact (Sound.refl _).onLink.onLink.retryFrame.settleLink.topData

theorem Sound.ryItemWrite (hs : Sound s₀ s) {off : Nat} {v : Par} : Sound s₀ (s.ryItemWrite off v) :=
  .ite (.ite hs.setPar.onLink.setLink (.ite hs.setPar.setLink hs.setPar)) (.ite hs.writeEvtTx (.ite hs.writeRyCtrl
    hs.setPar))

/-! ### Migration -/

theorem Sound.sendRevoke (hs : Sound s₀ s) {m : Migration} : Sound s₀ (s.sendRevoke m) := hs.queueFrame

theorem Sound.orphan (hs : Sound s₀ s) {j : JobRef} {m : Migration} : Sound s₀ (s.orphan j m) := hs.onLink

theorem Sound.reportOrphan (hs : Sound s₀ s) {src : Fin 16} {migId : Word} : Sound s₀ (s.reportOrphan src migId) := by
  unfold State.reportOrphan
  split
  · exact hs.onLink.raise0
  · exact hs.raise0

theorem Sound.cancelAfter (hs : Sound s₀ s) {j : JobRef} {m : Migration} : Sound s₀ (s.cancelAfter j m) := by
  unfold State.cancelAfter
  exact hs.orphan.chargeE.endJob

theorem Sound.cancelRemote (hs : Sound s₀ s) {j : JobRef} {m : Migration} : Sound s₀ (s.cancelRemote j m) := by
  unfold State.cancelRemote
  dsimp only
  exact .ite hs (.ite hs.sendRevoke.endJob (.ite hs.sendRevoke.cancelAfter hs.sendRevoke.onJob))

theorem Sound.dropReservation (hs : Sound s₀ s) {j : JobRef} : Sound s₀ (s.dropReservation j) :=
  hs.foldl fun _ _ hu => .ite hu.onLoamHead.onIsland hu

theorem Sound.cancelJob (hs : Sound s₀ s) {j : JobRef} : Sound s₀ (s.cancelJob j) := by
  unfold State.cancelJob
  dsimp only
  split
  · exact hs.cancelRemote
  · split
    · exact hs.onJob
    · exact hs.dropReservation.endJob
    · exact hs.stopJob
    · exact hs.stopJob
    · exact hs

theorem Sound.releaseJob (hs : Sound s₀ s) {j : JobRef} : Sound s₀ (s.releaseJob j) := by
  unfold State.releaseJob
  split
  · exact hs.onJob
  · exact hs.onJob
  · exact hs.onJob
  · exact hs.onJob
  · exact hs

theorem Sound.writeCancel (hs : Sound s₀ s) {v : Fin 8} {x : Word} : Sound s₀ (s.writeCancel v x) := by
  unfold State.writeCancel
  dsimp only
  split
  · exact hs
  · split
    · exact hs.cancelJob.refreshEligible
    · exact hs.releaseJob
    · exact (hs.foldl (fun _ _ hu => hu.cancelJob)).refreshEligible
    · exact hs

@[simp] theorem execCancel_sound (vi : Fin 8) (v : Word) (s : State) : SoundNext s (execCancel vi v s) :=
  ⟨_, rfl, (Sound.refl _).writeCancel⟩

@[simp] theorem execRelease_sound (vi : Fin 8) (v : Word) (s : State) : SoundNext s (execRelease vi v s) :=
  ⟨_, rfl, (Sound.refl _).writeCancel⟩

@[simp] theorem execCancelAll_sound (vi : Fin 8) (v : Word) (s : State) : SoundNext s (execCancelAll vi v s) :=
  ⟨_, rfl, (Sound.refl _).writeCancel⟩

theorem Sound.trackMargins (hs : Sound s₀ s) : Sound s₀ s.trackMargins :=
  hs.foldl (fun _ _ hu => hu.foldl (fun _ _ hu1 => .ite hu1.onJob hu1))

theorem Sound.offer (hs : Sound s₀ s) {j : JobRef} {n : Fin 16} {k : Fin 4} : Sound s₀ (s.offer j n k) :=
  hs.onJob.onLink.queueFrame

@[simp] theorem execMigrationCheck_sound (s : State) : SoundNext s (execMigrationCheck s) := by
  unfold execMigrationCheck
  dsimp only
  refine ⟨_, rfl, ?_⟩
  split
  · exact (Sound.refl _).trackMargins
  · split
    · exact (Sound.refl _).trackMargins.offer
    · exact (Sound.refl _).trackMargins

theorem Sound.takeResult (hs : Sound s₀ s) {src : Fin 16} {seq : BitVec 4} {dst : BitVec 5} {migId : Word} {f : State →
    JobRef → Migration → State} {g : State → State} (hf : ∀ u y z, Sound s₀ u → Sound s₀ (f u y z)) (hg : ∀ u, Sound s₀
    u → Sound s₀ (g u)) :
    Sound s₀ (s.takeResult src seq dst migId f g) := by
  unfold State.takeResult
  dsimp only
  split
  · split
    · exact (hf _ _ _ hs.takeRyine).refreshEligible
    · exact (hg _ hs.takeRyine).refreshEligible
  · exact hs.takeRyine

@[simp] theorem execAccept_sound (src : Fin 16) (seq : BitVec 4) (dst : BitVec 5) (migId : Word) (_detail : Byte)
    (_headTime : Par) (_amount : Word) (s : State) :
    SoundNext s (execAccept src seq dst migId _detail _headTime _amount s) :=
  ⟨_, rfl, (Sound.refl _).takeResult (fun _ _ _ hu => .ite hu hu.onJob.onLink.raiseVi.topData) fun _ hu => hu⟩

theorem Sound.notHeld (hs : Sound s₀ s) {j : JobRef} {m : Migration} : Sound s₀ (s.notHeld j m) := by
  unfold State.notHeld
  exact .ite hs.endJob hs.jobBack.raiseVi

@[simp] theorem execRefuse_sound (src : Fin 16) (seq : BitVec 4) (dst : BitVec 5) (migId : Word) (_detail : Byte)
    (_headTime : Par) (_amount : Word) (s : State) :
    SoundNext s (execRefuse src seq dst migId _detail _headTime _amount s) :=
  ⟨_, rfl, (Sound.refl _).takeResult (fun _ _ _ hu => hu.notHeld) fun _ hu => hu⟩

@[simp] theorem execAbandoned_sound (src : Fin 16) (seq : BitVec 4) (dst : BitVec 5) (migId : Word) (_detail : Byte)
    (_headTime : Par) (_amount : Word) (s : State) :
    SoundNext s (execAbandoned src seq dst migId _detail _headTime _amount s) :=
  ⟨_, rfl, (Sound.refl _).takeResult (fun _ _ _ hu => hu.notHeld) fun _ hu => hu⟩

@[simp] theorem execStarted_sound (src : Fin 16) (seq : BitVec 4) (dst : BitVec 5) (migId : Word) (_detail : Byte)
    (_headTime : Par) (_amount : Word) (s : State) :
    SoundNext s (execStarted src seq dst migId _detail _headTime _amount s) :=
  ⟨_, rfl, (Sound.refl _).takeResult (fun _ _ _ hu => hu.onJob) fun _ hu => hu⟩

theorem Sound.peerReport (hs : Sound s₀ s) {j : JobRef} {m : Migration} {st : JobState} {result headTime amount : Nat} :
    Sound s₀ (s.peerReport j m st result headTime amount) := by
  unfold State.peerReport
  exact .ite hs.cancelAfter.reportOrphan hs.charge.endJob

@[simp] theorem execDone_sound (src : Fin 16) (seq : BitVec 4) (dst : BitVec 5) (migId : Word) (_detail : Byte)
    (headTime : Par) (amount : Word) (s : State) :
    SoundNext s (execDone src seq dst migId _detail headTime amount s) :=
  ⟨_, rfl, (Sound.refl _).takeResult (fun _ _ _ hu => hu.peerReport) fun _ hu => hu.reportOrphan⟩

@[simp] theorem execFailed_sound (src : Fin 16) (seq : BitVec 4) (dst : BitVec 5) (migId : Word) (_detail : Byte)
    (headTime : Par) (amount : Word) (s : State) :
    SoundNext s (execFailed src seq dst migId _detail headTime amount s) :=
  ⟨_, rfl, (Sound.refl _).takeResult (fun _ _ _ hu => hu.peerReport) fun _ hu => hu.reportOrphan⟩

@[simp] theorem execRevoked_sound (src : Fin 16) (seq : BitVec 4) (dst : BitVec 5) (migId : Word) (_detail : Byte)
    (_headTime : Par) (_amount : Word) (s : State) :
    SoundNext s (execRevoked src seq dst migId _detail _headTime _amount s) := by
  unfold execRevoked
  exact ⟨_, rfl, (Sound.refl _).takeResult (fun _ _ _ hu => .ite hu.endJob hu) fun _ hu => hu.onLink⟩

@[simp] theorem execTooLate_sound (src : Fin 16) (seq : BitVec 4) (dst : BitVec 5) (migId : Word) (_detail : Byte)
    (_headTime : Par) (_amount : Word) (s : State) :
    SoundNext s (execTooLate src seq dst migId _detail _headTime _amount s) :=
  ⟨_, rfl, (Sound.refl _).takeResult (fun _ _ _ hu => .ite hu.cancelAfter hu) fun _ hu => hu⟩

@[simp] theorem execOfferTimeout_sound (s : State) : SoundNext s (execOfferTimeout s) := by
  unfold execOfferTimeout
  refine ⟨_, rfl, ?_⟩
  split
  · exact (Sound.refl _).jobBack.sendRevoke.refreshEligible
  · exact Sound.refl _

@[simp] theorem execRevokeTimeout_sound (migId : Word) (s : State) : SoundNext s (execRevokeTimeout migId s) := by
  unfold execRevokeTimeout
  refine ⟨_, rfl, ?_⟩
  split
  · exact (Sound.refl _).cancelAfter.refreshEligible
  · exact Sound.refl _

/-- An accepted offer reserves chunks. -/
theorem Sound.judgeOffer (hs : Sound s₀ s) {k : Nat} {w : Vector Par 4} {size : Nat} :
    ∀ r, s.judgeOffer k w size = .inr r → Sound s₀ r.2.2.2 := by
  unfold State.judgeOffer
  dsimp only
  repeat' split
  all_goals rintro _ ⟨⟩
  all_goals exact hs.reserveChunks ‹_›

@[simp] theorem execMigOffer_sound (src : Fin 16) (seq : BitVec 4) (dst : BitVec 5) (payload : List Byte) (s : State) :
    SoundNext s (execMigOffer src seq dst payload s) := by
  have h := (Sound.refl s).takeRyine (src := src) (seq := seq) (dst := dst)
  unfold execMigOffer
  dsimp only
  refine ⟨_, rfl, ?_⟩
  split
  · split
    · exact h.sendResult
    next hu => exact (h.judgeOffer _ hu).onLink.sendResult
  · exact h

theorem Sound.freeGuest (hs : Sound s₀ s) {g : Fin 4} : Sound s₀ (s.freeGuest g) := by
  unfold State.freeGuest
  split
  · exact hs.freeChunks.dropBands.onLink
  · exact hs

theorem Sound.storeBlock (hs : Sound s₀ s) {v : Fin 8} {band : Nat} {external : Bool} {chunks : List Nat} {l : List
    Byte} :
    Sound s₀ (s.storeBlock v band external chunks l).2 := hs.writeChain.placeBand

theorem Sound.storeBlocks (hs : Sound s₀ s) {v : Fin 8} {band : Nat} {external : Bool} {chunks : List Nat} {n : Nat}
    {l : List Byte} : Sound s₀ (s.storeBlocks v band external chunks n l).2 := by
  induction n generalizing s band chunks l with
  | zero => exact hs
  | succ n ih => exact ih hs.storeBlock

theorem Sound.guestReady (hs : Sound s₀ s) {g : Fin 4} {x : GuestSlot} : Sound s₀ (s.guestReady g x) := by
  unfold State.guestReady
  dsimp only
  split
  · exact .ite hs.storeBlocks.freeChunks.onLink.onJob.onLink.acceptJob
      hs.storeBlocks.freeChunks.onLink.freeGuest.sendResult
  · exact hs.storeBlocks.freeChunks.onLink.freeGuest.sendResult

@[simp] theorem execMigData_sound (src : Fin 16) (seq : BitVec 4) (dst : BitVec 5) (payload : List Byte) (s : State) :
    SoundNext s (execMigData src seq dst payload s) := by
  unfold execMigData
  dsimp only
  refine ⟨_, rfl, ?_⟩
  split
  · split
    · exact .ite (.ite (Sound.refl _).takeRyine.onLink.guestReady (Sound.refl _).takeRyine.onLink) (Sound.refl
        _).takeRyine
    · exact (Sound.refl _).takeRyine
  · exact (Sound.refl _).takeRyine

@[simp] theorem execTransferTimeout_sound (slot : Fin 4) (s : State) : SoundNext s (execTransferTimeout slot s) := by
  unfold execTransferTimeout
  refine ⟨_, rfl, ?_⟩
  split
  · exact .ite (Sound.refl _).freeGuest.sendResult (Sound.refl _)
  · exact Sound.refl _

@[simp] theorem execRevoke_sound (src : Fin 16) (seq : BitVec 4) (dst : BitVec 5) (payload : List Byte) (s : State) :
    SoundNext s (execRevoke src seq dst payload s) := by
  unfold execRevoke
  dsimp only
  refine ⟨_, rfl, ?_⟩
  split
  · split
    · exact (Sound.refl _).takeRyine.sendResult
    · split
      · exact (Sound.refl _).takeRyine.freeGuest.sendResult
      · exact .ite (Sound.refl _).takeRyine.onJob.freeGuest.fencesDone.queueSpace.sendResult (Sound.refl
          _).takeRyine.sendResult
  · exact (Sound.refl _).takeRyine

theorem Sound.revokeAll (hs : Sound s₀ s) {v : Fin 8} : Sound s₀ (s.revokeAll v) :=
  hs.foldl fun _ _ hu => hu.sendRevoke.orphan.onJob

/-! ### The wake -/

theorem Sound.discardHeld (hs : Sound s₀ s) : Sound s₀ s.discardHeld :=
  hs.onAo_ring fun hr => (List.length_filter_le _ _).trans hr

theorem Sound.enterWake (hs : Sound s₀ s) {source : BitVec 4} : Sound s₀ (s.enterWake source) :=
  hs.deviceReset.discardHeld.frame

theorem Sound.beginWake (hs : Sound s₀ s) {source : BitVec 4} : Sound s₀ (s.beginWake source) := hs.enterWake.onPwr

theorem Sound.wakeBy (hs : Sound s₀ s) {source : BitVec 4} : Sound s₀ (s.wakeBy source) :=
  .ite hs.onAo (.ite hs.beginWake hs)

theorem Sound.beginPd (hs : Sound s₀ s) {reason : PdReason} {stage6Only : Bool} :
    Sound s₀ (s.beginPd reason stage6Only) := by
  unfold State.beginPd
  split
  · exact .ite hs.onPwr hs
  · exact hs.onPwr

theorem Sound.revertBoot (hs : Sound s₀ s) : Sound s₀ s.revertBoot := .ite hs.onMgmt.onAo hs.onAo

theorem Sound.countTrial (hs : Sound s₀ s) : Sound s₀ s.countTrial := .ite hs.onMgmt hs.onAo

theorem Sound.bootSlot (hs : Sound s₀ s) {a : Fin 2} {b : Bool} : Sound s₀ (s.bootSlot a b) := by
  unfold State.bootSlot
  dsimp only
  exact (Sound.ite (Sound.ite hs (.ite hs.countTrial hs)).onMgmt.revertBoot (Sound.ite hs (.ite hs.countTrial
    hs)).onMgmt).onPwr

@[simp] theorem execAoPowerOn_sound (pwrFailN : Bool) (s : State) : SoundNext s (execAoPowerOn pwrFailN s) := by
  unfold execAoPowerOn
  refine ⟨_, rfl, ?_⟩
  split
  · have hao : Sound s { s with ao := { wakeCount := 0 }, pwr := { s.pwr with pwrFailN := pwrFailN, en := 0 } } :=
      ⟨le_rfl, id, fun _ => Nat.zero_le _, id⟩
    exact .ite hao.beginWake hao.frame
  · exact Sound.refl s

@[simp] theorem execAllPowerLost_sound (s : State) : SoundNext s (execAllPowerLost s) := by
  have h := (Sound.refl s).deviceReset
  exact ⟨_, rfl, h.audit, h.queues, fun _ => Nat.zero_le _, h.memories⟩

@[simp] theorem execWakeNFall_sound (s : State) : SoundNext s (execWakeNFall s) :=
  ⟨_, rfl, .ite (.ite (Sound.refl _).wakeBy (Sound.refl _)) (.ite (Sound.refl _).wakeBy (Sound.refl _))⟩

@[simp] theorem execAlarm_sound (s : State) :
    SoundNext s (execAlarm s) := ⟨_, rfl, .ite (Sound.refl _).wakeBy (Sound.refl _)⟩

@[simp] theorem execLinkWake_sound (s : State) : SoundNext s (execLinkWake s) :=
  ⟨_, rfl, .ite (Sound.refl _).wakeBy (Sound.refl _)⟩

@[simp] theorem execPowerReturn_sound (s : State) : SoundNext s (execPowerReturn s) :=
  ⟨_, rfl, .ite (Sound.refl _).onPwr.wakeBy (Sound.refl _).onPwr⟩

@[simp] theorem execThermalCooled_sound (s : State) : SoundNext s (execThermalCooled s) :=
  ⟨_, rfl, .ite (Sound.refl _).onAo (Sound.refl _)⟩

@[simp] theorem execThermalRestart_sound (s : State) : SoundNext s (execThermalRestart s) :=
  ⟨_, rfl, .ite (Sound.refl _).wakeBy (Sound.refl _)⟩

@[simp] theorem execWakeGuardEnd_sound (s : State) : SoundNext s (execWakeGuardEnd s) := by
  unfold execWakeGuardEnd
  dsimp only
  refine ⟨_, rfl, ?_⟩
  split
  · exact .ite (Sound.refl _).onAo.beginWake (Sound.refl _).onAo
  · exact (Sound.refl _).onAo

@[simp] theorem execAoCrystalRuns_sound (s : State) : SoundNext s (execAoCrystalRuns s) :=
  ⟨_, rfl, .ite (Sound.refl _).onAo (Sound.refl _)⟩

@[simp] theorem execPgIoRise_sound (s : State) : SoundNext s (execPgIoRise s) :=
  ⟨_, rfl, .ite (Sound.refl _).onPwr.onPwr (Sound.refl _).onPwr⟩

@[simp] theorem execPgRetry_sound (s : State) : SoundNext s (execPgRetry s) := by
  unfold execPgRetry
  refine ⟨_, rfl, ?_⟩
  split
  · split
    · exact (Sound.refl _).onPwr.onAo
    · exact (Sound.refl _).onPwr
    · exact Sound.refl _
  · exact Sound.refl _

@[simp] theorem execPgCoreRise_sound (s : State) : SoundNext s (execPgCoreRise s) := ⟨_, rfl, (Sound.refl _).onPwr⟩

@[simp] theorem execMgResetRelease_sound (s : State) :
    SoundNext s (execMgResetRelease s) := ⟨_, rfl, (Sound.refl _).onPwr⟩

@[simp] theorem execPllLock_sound (s : State) : SoundNext s (execPllLock s) :=
  ⟨_, rfl, .ite (Sound.refl _).onPwr.onMgmt (Sound.refl _)⟩

@[simp] theorem execIslandsResetRelease_sound (nid : Fin 16) (s : State) :
    SoundNext s (execIslandsResetRelease nid s) :=
  ⟨_, rfl, .ite (Sound.refl _).onPwr.onLink (Sound.refl _)⟩

@[simp] theorem execPgMemRise_sound (s : State) : SoundNext s (execPgMemRise s) := ⟨_, rfl, (Sound.refl _).onPwr⟩

theorem Sound.memoryFailed (hs : Sound s₀ s) : Sound s₀ s.memoryFailed := hs.changeMode.onSilt

@[simp] theorem execMemoryTrainingDone_sound (ok : Bool) (s : State) : SoundNext s (execMemoryTrainingDone ok s) :=
  ⟨_, rfl, .ite (.ite (Sound.refl _).onPwr.onSilt (Sound.refl _).memoryFailed) (Sound.refl _)⟩

@[simp] theorem execBootComplete_sound (s : State) : SoundNext s (execBootComplete s) :=
  ⟨_, rfl, .ite (Sound.ite (Sound.refl _).changeMode.raise0.onAo (Sound.refl _).changeMode).logRecord (Sound.refl _)⟩

@[simp] theorem execPwrFailNGlitch_sound (counted : Bool) (s : State) : SoundNext s (execPwrFailNGlitch counted s) :=
  ⟨_, rfl, .ite (Sound.refl _).onAo (Sound.refl _)⟩

@[simp] theorem execPgKChange_sound (level : Bool) (s : State) : SoundNext s (execPgKChange level s) :=
  ⟨_, rfl, .ite (Sound.refl _) (Sound.refl _).onPwr.onLegal.raise0⟩

@[simp] theorem execMemCfgCommit_sound (s : State) : SoundNext s (execMemCfgCommit s) :=
  ⟨_, rfl, .ite (Sound.refl _).onMgmt.onPwr (Sound.refl _)⟩

theorem Sound.refuseMode (hs : Sound s₀ s) {v : Word} : Sound s₀ (s.refuseMode v) := hs.onPwr.raise0

theorem Sound.acceptMode (hs : Sound s₀ s) : Sound s₀ s.acceptMode := hs.onPwr

theorem Sound.gritBlockEvent (hs : Sound s₀ s) {cause : Nat} : Sound s₀ (s.gritBlockEvent cause) := hs.raiseBoth

theorem Sound.endRaw (hs : Sound s₀ s) : Sound s₀ s.endRaw := .ite hs (.ite hs.onGrit hs.onGrit.gritBlockEvent)

theorem Sound.requestRun (hs : Sound s₀ s) {v : Word} : Sound s₀ (s.requestRun v) := by
  unfold State.requestRun
  split
  · exact .ite hs.acceptMode hs.refuseMode
  · split
    · exact hs.endRaw.changeMode
    · exact hs.onPwr
    · exact hs.onPwr
    · exact hs.acceptMode
    · exact hs.acceptMode
    · exact hs.refuseMode

theorem Sound.requestService (hs : Sound s₀ s) {v : Word} : Sound s₀ (s.requestService v) := by
  unfold State.requestService
  split
  · exact .ite hs.acceptMode hs.refuseMode
  · split
    · exact hs.acceptMode
    · exact hs.acceptMode
    · exact hs.acceptMode
    · exact hs.onPwr
    · exact hs.onPwr
    · exact hs.refuseMode

theorem Sound.requestRetain (hs : Sound s₀ s) {v : Word} : Sound s₀ (s.requestRetain v) := by
  unfold State.requestRetain
  split
  · exact hs.endRaw.onPwr.beginPd
  · exact hs.acceptMode
  · exact hs.refuseMode

theorem Sound.modeRequest (hs : Sound s₀ s) {v : Word} : Sound s₀ (s.modeRequest v) := by
  unfold State.modeRequest
  split
  · exact hs
  · split
    · exact hs.requestRetain
    · exact hs.requestRun
    · exact hs.requestService
    · exact hs.refuseMode

@[simp] theorem execRunRequest_sound (s : State) :
    SoundNext s (execRunRequest s) := ⟨_, rfl, (Sound.refl _).modeRequest⟩

@[simp] theorem execServiceRequest_sound (s : State) : SoundNext s (execServiceRequest s) :=
  ⟨_, rfl, (Sound.refl _).modeRequest⟩

@[simp] theorem execRetainRequest_sound (s : State) :
    SoundNext s (execRetainRequest s) := ⟨_, rfl, (Sound.refl _).modeRequest⟩

@[simp] theorem execInvalidModeRequest_sound (value : Word) (s : State) :
    SoundNext s (execInvalidModeRequest value s) :=
  ⟨_, rfl, (Sound.refl _).modeRequest⟩

@[simp] theorem execServiceEntry_sound (s : State) : SoundNext s (execServiceEntry s) :=
  ⟨_, rfl, .ite (Sound.refl _).changeMode (Sound.refl _)⟩

/-! ### The island -/

theorem Sound.islandEvent (hs : Sound s₀ s) {holder : Bool} {code aux : Byte} {payload : Word} :
    Sound s₀ (s.islandEvent holder code aux payload) := .ite (.ite hs.raiseBoth hs.raise0) hs

theorem Sound.setIsland (hs : Sound s₀ s) {st : IslandState} : Sound s₀ (s.setIsland st) :=
  .ite hs (Sound.ite hs.onIsland.onLegal hs.onIsland).islandEvent

theorem Sound.settleIsland (hs : Sound s₀ s) : Sound s₀ s.settleIsland := by
  unfold State.settleIsland
  dsimp only
  split
  · exact hs.setIsland
  · exact hs.setIsland
  · exact hs

theorem Sound.inhibitEvent (hs : Sound s₀ s) {before : Word} : Sound s₀ (s.inhibitEvent before) :=
  .ite hs hs.islandEvent

theorem Sound.beginCause (hs : Sound s₀ s) {f : Island → Island} (hf : ∀ x, (f x).audit = x.audit := by intro; rfl) :
    Sound s₀ (s.beginCause f) := by
  have h := hs.onIsland (f := fun i => (f i).loseZero) fun i => (Island.loseZero_audit _).trans (hf i)
  exact h.inhibitEvent.settleIsland

theorem Sound.beginSelfTest (hs : Sound s₀ s) : Sound s₀ s.beginSelfTest := hs.onIsland.setIsland

theorem Sound.noData (hs : Sound s₀ s) : Sound s₀ s.noData.2 := hs.draw

theorem Sound.issueDone (hs : Sound s₀ s) {c : LegCommand} {h : Fin 4} {rsp : Byte} {rec : Option Record} :
    Sound s₀ (s.issueDone c h rsp rec) := by
  unfold State.issueDone
  dsimp only
  split
  · exact hs
  · split
    · exact .ite hs.onLoamHead.raiseVi.onHead.onJob.startJob hs.onLoamHead.raiseVi
    · exact hs.onLoamHead.issueAnswer

theorem Sound.printedDone (hs : Sound s₀ s) {c : LegCommand} {h : Fin 4} {rsp : Byte} :
    Sound s₀ (s.printedDone c h rsp) := by
  unfold State.printedDone
  split
  · exact hs
  · exact .ite hs (.ite hs.afterCut hs.onRun)

theorem Sound.answerLegal (hs : Sound s₀ s) {c : LegCommand} {rsp : Byte} {data : Option (Vector Word 4)} {rec : Option
    Record} :
    Sound s₀ (s.answerLegal c rsp data rec) := by
  unfold State.answerLegal
  dsimp only
  split
  · exact hs
  · split
    · split
      · exact hs.onIsland
      · exact hs.noData.onIsland
    · exact hs.issueDone
    · exact hs.printedDone

theorem Sound.legAnswer (hs : Sound s₀ s) {v : Fin 8} {rsp : Byte} {tag : BitVec 4} :
    Sound s₀ (s.legAnswer v rsp tag) := hs.onVi.raiseVi

theorem Sound.writeLegCmd (hs : Sound s₀ s) {v : Fin 8} {x : Word} : Sound s₀ (s.writeLegCmd v x) := by
  unfold State.writeLegCmd
  dsimp only
  split
  · exact hs
  · split
    · exact hs.legAnswer
    · split
      · exact hs.onLegal.legAnswer
      · split
        · exact hs.onVi.sendLegal.legAnswer
        · exact hs.onVi.sendLegal.onVi

@[simp] theorem execLegalRsp_sound (s : State) : SoundNext s (execLegalRsp s) := by
  unfold execLegalRsp
  dsimp only
  refine ⟨_, rfl, ?_⟩
  split
  · exact Sound.refl _
  · split
    · exact .ite (Sound.refl _).onIsland (Sound.refl _).onIsland.onVi.legAnswer
    · exact (Sound.refl _).onIsland

theorem Sound.orphanLegal (hs : Sound s₀ s) {t : LegSource → Bool} : Sound s₀ (s.orphanLegal t) := by
  unfold State.orphanLegal
  dsimp only
  exact hs.onIsland

theorem Sound.dropOrphanRsp (hs : Sound s₀ s) : Sound s₀ s.dropOrphanRsp := hs.onIsland

@[simp] theorem execLegalCmdTimeout_sound (src : Fin 9) (s : State) : SoundNext s (execLegalCmdTimeout src s) := by
  unfold execLegalCmdTimeout
  dsimp only
  refine ⟨_, rfl, ?_⟩
  split
  · split
    · exact Sound.refl _
    · split
      · exact Sound.refl _
      · exact (Sound.refl _).onLegal.orphanLegal.dropOrphanRsp.onVi.legAnswer
  · split
    · split
      · exact Sound.refl _
      · exact (Sound.refl _).onLegal.orphanLegal.onLoamHead.issueAnswer
    · split
      · exact .ite (Sound.refl _).onLegal.orphanLegal (Sound.refl _)
      · exact Sound.refl _

@[simp] theorem execPrintedTimeout_sound (h : Fin 4) (s : State) : SoundNext s (execPrintedTimeout h s) := by
  unfold execPrintedTimeout
  refine ⟨_, rfl, ?_⟩
  split
  · exact .ite (Sound.refl _).withdrawPrinted.endRun (Sound.refl _)
  · exact Sound.refl _

theorem Sound.takeLegal (hs : Sound s₀ s) {t : LegCommand → Bool} {f : LegCommand → State → State} (hf : ∀ x u, Sound s₀
    u → Sound s₀ (f x u)) :
    Sound s₀ (s.takeLegal t f) := by
  unfold State.takeLegal
  dsimp only
  split
  · exact .ite (hf _ _ hs.onIsland) hs
  · exact hs

theorem Sound.awaitResult (hs : Sound s₀ s) {c : LegCommand} : Sound s₀ (awaitResult c s) := hs.onIsland

theorem Sound.refuseLegal (hs : Sound s₀ s) {rsp : Byte} {c : LegCommand} : Sound s₀ (refuseLegal rsp c s) :=
  hs.onIsland.answerLegal

@[simp] theorem execZero_sound (s : State) : SoundNext s (execZero s) :=
  ⟨_, rfl, (Sound.refl _).takeLegal fun _ _ hu => hu.awaitResult⟩

@[simp] theorem execTare_sound (s : State) : SoundNext s (execTare s) :=
  ⟨_, rfl, (Sound.refl _).takeLegal fun _ _ hu => hu.awaitResult⟩

@[simp] theorem execTareClear_sound (s : State) : SoundNext s (execTareClear s) :=
  ⟨_, rfl, (Sound.refl _).takeLegal fun _ _ hu => hu.awaitResult⟩

@[simp] theorem execReadWeight_sound (s : State) : SoundNext s (execReadWeight s) :=
  ⟨_, rfl, (Sound.refl _).takeLegal fun _ _ hu => hu.awaitResult⟩

@[simp] theorem execReadWeightIssue_sound (s : State) : SoundNext s (execReadWeightIssue s) :=
  ⟨_, rfl, (Sound.refl _).takeLegal fun _ _ hu => .ite hu.awaitResult hu.refuseLegal⟩

@[simp] theorem execReadWeightDup_sound (s : State) : SoundNext s (execReadWeightDup s) := by
  refine ⟨_, rfl, (Sound.refl s).takeLegal fun c u hu => ?_⟩
  split
  · exact hu.refuseLegal
  · split
    · exact hu.answerLegal
    · split
      · exact hu.answerLegal
      · exact hu.onIsland.answerLegal

@[simp] theorem execPrinted_sound (s : State) : SoundNext s (execPrinted s) := by
  refine ⟨_, rfl, (Sound.refl s).takeLegal fun c u hu => ?_⟩
  split
  · exact hu.refuseLegal
  · split
    · exact hu.answerLegal
    · split
      · exact hu.answerLegal
      · exact .ite hu.answerLegal (.ite hu.onIsland.answerLegal hu.onIsland)

@[simp] theorem execStatus_sound (s : State) : SoundNext s (execStatus s) :=
  ⟨_, rfl, (Sound.refl _).takeLegal (fun _ _ hu => (Sound.ite hu.onIsland hu).answerLegal)⟩

@[simp] theorem execUnknownCommand_sound (s : State) : SoundNext s (execUnknownCommand s) :=
  ⟨_, rfl, (Sound.refl _).takeLegal fun _ _ hu => hu.refuseLegal⟩

theorem Sound.decideZero (hs : Sound s₀ s) {c : LegCommand} : Sound s₀ (s.decideZero c) :=
  .ite hs.answerLegal (.ite hs.answerLegal hs.onIsland.answerLegal)

theorem Sound.decideTare (hs : Sound s₀ s) {c : LegCommand} : Sound s₀ (s.decideTare c) :=
  .ite (.ite hs.answerLegal (.ite hs.answerLegal hs.onIsland.answerLegal)) (.ite hs.answerLegal hs.onIsland.answerLegal)

theorem Sound.decideIssue (hs : Sound s₀ s) {c : LegCommand} : Sound s₀ (s.decideIssue c) := by
  unfold State.decideIssue
  dsimp only
  split
  · exact hs.answerLegal
  · exact .ite hs.answerLegal (.ite hs.answerLegal (.ite hs.answerLegal hs.onIsland))

theorem Sound.decideLegal (hs : Sound s₀ s) : Sound s₀ s.decideLegal := by
  unfold State.decideLegal
  dsimp only
  split
  · exact hs
  · exact .ite hs.onIsland.onIsland.answerLegal (.ite hs.onIsland.decideIssue (.ite hs.onIsland.answerLegal (.ite
      hs.onIsland.decideZero (.ite hs.onIsland.decideTare hs.onIsland.answerLegal))))

@[simp] theorem execIssuedCommit_sound (s : State) : SoundNext s (execIssuedCommit s) := by
  unfold execIssuedCommit
  dsimp only
  refine ⟨_, rfl, ?_⟩
  split
  · exact Sound.refl _
  · split
    · exact (Sound.ite (Sound.refl _).onIsland.islandEvent (Sound.refl _)).onIsland.answerLegal
    · exact (Sound.refl _).onIsland.answerLegal

@[simp] theorem execPrintedCommit_sound (s : State) : SoundNext s (execPrintedCommit s) := by
  unfold execPrintedCommit
  dsimp only
  refine ⟨_, rfl, ?_⟩
  split
  · exact Sound.refl _
  · exact (Sound.refl _).onIsland.answerLegal

theorem Sound.commitHeld (hs : Sound s₀ s) : Sound s₀ s.commitHeld := by
  unfold State.commitHeld
  exact .ite (hs.onIsland fun i => Island.markAll_audit i.heldPrinted i) hs

theorem Sound.ukSend (hs : Sound s₀ s) {t : String} : Sound s₀ (s.ukSend t) := hs.onIsland

theorem Sound.showFrame (hs : Sound s₀ s) : Sound s₀ s.showFrame := hs.onIsland

@[simp] theorem execDisplayFrame_sound (s : State) : SoundNext s (execDisplayFrame s) := by
  unfold execDisplayFrame
  refine ⟨_, rfl, ?_⟩
  split
  · exact (Sound.refl _).showFrame
  · exact (Sound.refl _).showFrame
  · exact Sound.refl _

@[simp] theorem execShowIdEnd_sound (s : State) : SoundNext s (execShowIdEnd s) := ⟨_, rfl, (Sound.refl _).onIsland⟩

@[simp] theorem execWeighingResult_sound (sig : Vector (BitVec 24) 4) (sns drv : BitVec 24) (vddaK : Int) (zeroMean
    refMean : List (Fin 5 × Rat)) (s : State) :
    SoundNext s (execWeighingResult sig sns drv vddaK zeroMean refMean s) := by
  unfold execWeighingResult
  dsimp only
  refine ⟨_, rfl, ?_⟩
  have h := ((Sound.refl s).onIsland (f := fun i => (i.takeResult sig sns drv).evaluate sns drv vddaK zeroMean refMean
    s.now) fun i => by simp).inhibitEvent (before := s.island.causes) |>.settleIsland.decideLegal
  split
  · exact .ite h.showFrame h
  · exact .ite h.showFrame h
  · exact Sound.refl s

@[simp] theorem execSliceRotation_sound (slice : Fin 5) (o g t : Int) (s : State) :
    SoundNext s (execSliceRotation slice o g t s) := by
  unfold execSliceRotation
  dsimp only
  refine ⟨_, rfl, ?_⟩
  have h := (Sound.refl s).onIsland (f := fun i => i.correct slice o g t)
  split
  · exact (Sound.ite h h.islandEvent).onIsland Island.rotate_audit
  · exact (Sound.ite h h.islandEvent).onIsland Island.rotate_audit
  · exact Sound.refl s

@[simp] theorem execIslandTemp_sound (t : Int) (s : State) : SoundNext s (execIslandTemp t s) := by
  unfold execIslandTemp
  refine ⟨_, rfl, ?_⟩
  split
  · exact Sound.refl _
  · exact (Sound.refl _).onIsland

@[simp] theorem execIslandPowerUp_sound (s : State) : SoundNext s (execIslandPowerUp s) :=
  ⟨_, rfl, .ite (Sound.refl _).onIsland.beginSelfTest (Sound.refl _)⟩

@[simp] theorem execIslandReset_sound (s : State) : SoundNext s (execIslandReset s) :=
  ⟨_, rfl, .ite (Sound.refl _) (Sound.refl _).frame.setIsland⟩

@[simp] theorem execIslandClockFault_sound (s : State) : SoundNext s (execIslandClockFault s) := by
  unfold execIslandClockFault
  refine ⟨_, rfl, ?_⟩
  split
  · exact (Sound.refl _).beginCause
  · exact (Sound.refl _).beginCause
  · exact Sound.refl _

theorem Sound.sealEvent (hs : Sound s₀ s) {isOpen : Bool} : Sound s₀ (s.sealEvent isOpen) := .ite hs hs.islandEvent

@[simp] theorem execSealOpen_sound (s : State) : SoundNext s (execSealOpen s) := by
  unfold execSealOpen
  dsimp only
  refine ⟨_, rfl, ?_⟩
  split
  · exact Sound.refl _
  · split
    · exact (Sound.refl _).onIsland.sealEvent.beginCause
    · exact (Sound.refl _).onIsland.sealEvent.beginCause
    · exact (Sound.refl _).onIsland.sealEvent

@[simp] theorem execSealClose_sound (s : State) : SoundNext s (execSealClose s) :=
  ⟨_, rfl, .ite (Sound.refl _) (.ite (Sound.refl _).onIsland.sealEvent.beginSelfTest (Sound.refl
    _).onIsland.sealEvent.settleIsland)⟩

/-- A counter that goes up by one does not fall, nor does one at its largest value. -/
theorem toNat_le_satInc {w : Nat} (x : BitVec w) : x.toNat ≤ (satInc x).toNat := by
  unfold satInc
  split
  · exact le_rfl
  next hne =>
    have hlt : x.toNat + 1 < 2 ^ w := by
      have hx := x.isLt
      simp only [BitVec.toNat_eq, BitVec.toNat_allOnes] at hne
      omega
    simp only [BitVec.toNat_add, BitVec.ofNat_eq_ofNat, BitVec.toNat_ofNat, Nat.add_mod_mod,
      Nat.mod_eq_of_lt hlt]
    omega

/-- The audit counter goes up, or stays at its largest value (13_kaolin_island R789). -/
theorem Sound.auditChange (hs : Sound s₀ s) {index : Word} {kind : Byte} {old new : Par} :
    Sound s₀ (s.auditChange index kind old new) := by
  unfold State.auditChange
  dsimp only
  refine Sound.islandEvent ?_
  exact hs.trans ⟨toNat_le_satInc s.island.audit, id, id, id⟩

theorem Sound.activateImage (hs : Sound s₀ s) : Sound s₀ s.activateImage := by
  unfold State.activateImage
  dsimp only
  split
  · exact hs
  · exact hs.onIsland.auditChange

@[simp] theorem execSelfTestDone_sound (imageOk paramsOk nvmOk auditOk crystalOk noiseOk : Bool) (nonce : Par) (key :
    BitVec 256) (s : State) :
    SoundNext s (execSelfTestDone imageOk paramsOk nvmOk auditOk crystalOk noiseOk nonce key s) :=
  ⟨_, rfl, .ite (Sound.refl _) (Sound.refl _).activateImage.onIsland.setIsland.inhibitEvent⟩

theorem Sound.logEpochs (hs : Sound s₀ s) {m : MainImage} {l : Option LegalImage} {result : Nat} {forced : Bool} :
    Sound s₀ (s.logEpochs m l result forced) := hs.logRecord

@[simp] theorem execEpochCheck_sound (s : State) : SoundNext s (execEpochCheck s) := by
  unfold execEpochCheck
  dsimp only
  refine ⟨_, rfl, ?_⟩
  split
  · exact .ite (.ite (Sound.refl _).onLegal.logEpochs.islandEvent (Sound.refl _).onLegal.logEpochs) (Sound.refl _)
  · exact Sound.refl _

@[simp] theorem execUkI_sound (s : State) :
    SoundNext s (execUkI s) := ⟨_, rfl, .ite (Sound.refl _).ukSend (Sound.refl _)⟩

@[simp] theorem execUkA_sound (s : State) :
    SoundNext s (execUkA s) := ⟨_, rfl, .ite (Sound.refl _).ukSend (Sound.refl _)⟩

@[simp] theorem execUkR_sound (index : Word) (s : State) : SoundNext s (execUkR index s) :=
  ⟨_, rfl, .ite (Sound.refl _).ukSend (Sound.refl _)⟩

@[simp] theorem execUkW_sound (index : Word) (v : Par) (s : State) : SoundNext s (execUkW index v s) := by
  unfold execUkW
  dsimp only
  refine ⟨_, rfl, ?_⟩
  split
  · exact Sound.refl _
  · split
    · exact (Sound.refl _).ukSend
    · exact .ite (Sound.refl _).ukSend (.ite (Sound.refl _).ukSend (.ite (Sound.refl _).ukSend (Sound.ite (Sound.refl
        _).onIsland (Sound.refl _).onIsland.auditChange).ukSend))

@[simp] theorem execUkU_sound (data : List Byte) (s : State) : SoundNext s (execUkU data s) := by
  unfold execUkU
  dsimp only
  refine ⟨_, rfl, ?_⟩
  split
  · exact Sound.refl _
  · split
    · exact (Sound.refl _).ukSend
    · exact .ite (Sound.refl _).ukSend (.ite (Sound.refl _).ukSend (.ite (Sound.refl _).ukSend (Sound.refl
        _).onIsland.ukSend))

@[simp] theorem execUkMalformedFrame_sound (s : State) : SoundNext s (execUkMalformedFrame s) :=
  ⟨_, rfl, .ite (Sound.refl _).ukSend (Sound.refl _)⟩

theorem Sound.writeDupHi (hs : Sound s₀ s) {v : Fin 8} {x : Word} : Sound s₀ (s.writeDupHi v x) := .ite hs.onVi hs

@[simp] theorem execDupArm_sound (vi : Fin 8) (v : Word) (s : State) : SoundNext s (execDupArm vi v s) :=
  ⟨_, rfl, (Sound.refl _).writeDupHi⟩

/-! ### The management core -/

theorem Sound.mbAnswer (hs : Sound s₀ s) {q : MbCommand} {rsp : Byte} {data : List Nat} :
    Sound s₀ (s.mbAnswer q rsp data) := by
  unfold State.mbAnswer
  dsimp only
  exact hs.draw.onMgmt

theorem Sound.mbRefuse (hs : Sound s₀ s) {q : MbCommand} {rsp : Byte} : Sound s₀ (s.mbRefuse q rsp) := hs.mbAnswer

theorem Sound.u0Send (hs : Sound s₀ s) {t : String} {data : List Byte} : Sound s₀ (s.u0Send t data) := hs.onMgmt

theorem Sound.mbDeliver (hs : Sound s₀ s) {a : MbAnswer} : Sound s₀ (s.mbDeliver a) := by
  unfold State.mbDeliver
  dsimp only
  split
  · exact hs.onMgmt.raise0
  · exact hs.onMgmt.u0Send

@[simp] theorem execMbDone_sound (s : State) : SoundNext s (execMbDone s) := by
  unfold execMbDone
  refine ⟨_, rfl, ?_⟩
  split
  · exact .ite (Sound.refl _).mbDeliver (Sound.refl _)
  · exact Sound.refl _

theorem Sound.mbBusyNow (hs : Sound s₀ s) {q : MbCommand} : Sound s₀ (s.mbBusyNow q) := by
  unfold State.mbBusyNow
  dsimp only
  split
  · exact hs.mbRefuse.mbDeliver.onMgmt
  · exact hs.mbRefuse

theorem Sound.writeMwCmd (hs : Sound s₀ s) {v : Word} : Sound s₀ (s.writeMwCmd v) :=
  .ite hs (.ite hs.onMgmt (.ite hs.mbBusyNow hs.onMgmt))

theorem Sound.mbServe (hs : Sound s₀ s) {line : Option MLine} {t : Byte → Bool} {f : MbCommand → State → State} (hf : ∀
    x u, Sound s₀ u → Sound s₀ (f x u)) :
    Sound s₀ (s.mbServe line t f) := by
  unfold State.mbServe
  dsimp only
  split
  · exact hs
  · split
    · split
      · exact .ite (hf _ _ hs) hs
      · exact hs
    · exact .ite hs (.ite hs.mbBusyNow (hf _ _ hs))

theorem Sound.mbOpen (hs : Sound s₀ s) {f : MbCommand → State → State} {q : MbCommand} (hf : ∀ x u, Sound s₀ u → Sound
    s₀ (f x u)) :
    Sound s₀ (State.mbOpen f q s) := .ite hs.mbRefuse (hf _ _ hs)

theorem Sound.mbFill (hs : Sound s₀ s) {src : MbSource} {l : List Par} : Sound s₀ (s.mbFill src l) := by
  unfold State.mbFill
  dsimp only
  refine hs.onMgmt_wf (fun x hx => ?_) fun x hx => ?_
  · split
    · exact memWriteN_wf _ _ _ hx
    · exact hx
  · split
    · exact hx
    · exact memWriteN_wf _ _ _ hx

@[simp] theorem execInfo_sound (line : Option MLine) (s : State) : SoundNext s (execInfo line s) :=
  ⟨_, rfl, (Sound.refl _).mbServe fun _ _ hu => hu.mbFill.mbAnswer⟩

theorem Sound.mbLogRead (hs : Sound s₀ s) {q : MbCommand} : Sound s₀ (State.mbLogRead q s) :=
  .ite hs.mbRefuse (.ite hs.mbRefuse hs.mbFill.draw.mbAnswer)

@[simp] theorem execLogRead_sound (line : Option MLine) (s : State) : SoundNext s (execLogRead line s) :=
  ⟨_, rfl, (Sound.refl _).mbServe (fun _ _ hu => hu.mbOpen (fun _ _ hu1 => hu1.mbLogRead))⟩

@[simp] theorem execMbUnknown_sound (line : Option MLine) (s : State) : SoundNext s (execMbUnknown line s) :=
  ⟨_, rfl, (Sound.refl _).mbServe (fun _ _ hu => hu.mbOpen (fun _ _ hu1 => hu1.mbRefuse))⟩

theorem Sound.confirmImage (hs : Sound s₀ s) : Sound s₀ s.confirmImage := hs.onMgmt.onAo.raise0

theorem Sound.mbConfirm (hs : Sound s₀ s) {q : MbCommand} : Sound s₀ (State.mbConfirm q s) :=
  .ite hs.mbRefuse (.ite hs.mbRefuse (Sound.ite hs.confirmImage hs).mbAnswer)

@[simp] theorem execConfirm_sound (line : Option MLine) (s : State) : SoundNext s (execConfirm line s) :=
  ⟨_, rfl, (Sound.refl _).mbServe (fun _ _ hu => hu.mbOpen (fun _ _ hu1 => hu1.mbConfirm))⟩

@[simp] theorem execTrialConfirm_sound (s : State) : SoundNext s (execTrialConfirm s) :=
  ⟨_, rfl, .ite (.ite (Sound.refl _).confirmImage (Sound.refl _).onMgmt) (Sound.refl _)⟩

theorem Sound.mbRollback (hs : Sound s₀ s) {q : MbCommand} : Sound s₀ (State.mbRollback q s) := by
  unfold State.mbRollback
  split
  · exact hs.mbRefuse
  · split
    · exact hs.mbRefuse
    · exact .ite hs.mbRefuse hs.onMgmt.raise0.mbAnswer

@[simp] theorem execRbCommit_sound (line : Option MLine) (s : State) : SoundNext s (execRbCommit line s) :=
  ⟨_, rfl, (Sound.refl _).mbServe (fun _ _ hu => hu.mbOpen (fun _ _ hu1 => hu1.mbRollback))⟩

theorem Sound.flashRose (hs : Sound s₀ s) : Sound s₀ s.flashRose :=
  (Sound.ite (Sound.ite hs.onMgmt.onAo hs.onMgmt.onAo).confirmImage (.ite hs.onMgmt.onAo hs.onMgmt.onAo)).commitHeld

theorem Sound.setUpdate (hs : Sound s₀ s) {st : UpdateState} : Sound s₀ (s.setUpdate st) := .ite hs hs.onMgmt.raise0

theorem Sound.leaveUpdate (hs : Sound s₀ s) : Sound s₀ s.leaveUpdate := .ite hs.changeMode hs

theorem Sound.failSession (hs : Sound s₀ s) : Sound s₀ s.failSession := by
  unfold State.failSession
  split
  · exact hs
  · exact hs.onMgmt.setUpdate.leaveUpdate

theorem Sound.invalidateTarget (hs : Sound s₀ s) : Sound s₀ s.invalidateTarget := by
  unfold State.invalidateTarget
  dsimp only
  exact hs.onMgmt

theorem Sound.updAnswer (hs : Sound s₀ s) {q : MbCommand} {rsp : Byte} {data : List Nat} :
    Sound s₀ (s.updAnswer q rsp data) := hs.mbAnswer.onMgmt

theorem Sound.flashFell (hs : Sound s₀ s) : Sound s₀ s.flashFell := by
  unfold State.flashFell
  split
  · exact hs
  · exact hs.invalidateTarget.failSession

theorem Sound.mbUpdBegin (hs : Sound s₀ s) {flash : Bool} {q : MbCommand} : Sound s₀ (State.mbUpdBegin flash q s) :=
  .ite hs.mbRefuse (.ite hs.mbRefuse (.ite hs.mbRefuse (.ite hs.mbRefuse (.ite (Sound.ite hs.endRaw.onMgmt.changeMode
    hs.endRaw.onMgmt).setUpdate.invalidateTarget.setUpdate.updAnswer (Sound.ite hs.endRaw.onMgmt.changeMode
    hs.endRaw.onMgmt).setUpdate.invalidateTarget.failSession.updAnswer))))

@[simp] theorem execUpdBegin_sound (line : Option MLine) (flash : Bool) (s : State) :
    SoundNext s (execUpdBegin line flash s) :=
  ⟨_, rfl, (Sound.refl _).mbServe (fun _ _ hu => hu.mbOpen (fun _ _ hu1 => hu1.mbUpdBegin))⟩

theorem Sound.inSession (hs : Sound s₀ s) {f : Session → MbCommand → State → State} {q : MbCommand} (hf : ∀ x y u, Sound
    s₀ u → Sound s₀ (f x y u)) :
    Sound s₀ (State.inSession f q s) := by
  unfold State.inSession
  split
  · exact hs.mbRefuse
  · exact .ite (hf _ _ _ hs) hs.mbRefuse

theorem Sound.storeImage (hs : Sound s₀ s) {m : List Byte} : Sound s₀ (s.storeImage m) := by
  unfold State.storeImage
  dsimp only
  exact hs.onMgmt

theorem Sound.mbUpdChunk (hs : Sound s₀ s) {flash : Bool} {x : Session} {q : MbCommand} :
    Sound s₀ (State.mbUpdChunk flash x q s) :=
  .ite hs.updAnswer (.ite hs.updAnswer (.ite hs.updAnswer (.ite hs.failSession.updAnswer (.ite hs.failSession.updAnswer
    (.ite hs.failSession.updAnswer (Sound.ite hs.onMgmt.storeImage hs.onMgmt).updAnswer)))))

@[simp] theorem execUpdChunk_sound (line : Option MLine) (flash : Bool) (s : State) :
    SoundNext s (execUpdChunk line flash s) :=
  ⟨_, rfl, (Sound.refl _).mbServe (fun _ _ hu => hu.mbOpen (fun _ _ hu1 => hu1.inSession (fun _ _ _ hu2 =>
    hu2.mbUpdChunk)))⟩

theorem Sound.endFailed (hs : Sound s₀ s) {q : MbCommand} {rsp : Byte} : Sound s₀ (s.endFailed q rsp) :=
  hs.invalidateTarget.failSession.updAnswer

theorem Sound.activateMain (hs : Sound s₀ s) {m : MainImage} : Sound s₀ (s.activateMain m) :=
  hs.onMgmt.onAo.setUpdate.leaveUpdate

theorem Sound.mbUpdEnd (hs : Sound s₀ s) {flash : Bool} {x : Session} {q : MbCommand} :
    Sound s₀ (State.mbUpdEnd flash x q s) :=
  .ite hs.updAnswer (.ite hs.endFailed (.ite hs.endFailed (.ite hs.logEpochs.setUpdate.updAnswer (.ite
    hs.logEpochs.endFailed hs.logEpochs.activateMain.updAnswer))))

@[simp] theorem execUpdEnd_sound (line : Option MLine) (flash : Bool) (s : State) :
    SoundNext s (execUpdEnd line flash s) :=
  ⟨_, rfl, (Sound.refl _).mbServe (fun _ _ hu => hu.mbOpen (fun _ _ hu1 => hu1.inSession (fun _ _ _ hu2 =>
    hu2.mbUpdEnd)))⟩

@[simp] theorem execUpdAbort_sound (line : Option MLine) (s : State) : SoundNext s (execUpdAbort line s) :=
  ⟨_, rfl, (Sound.refl _).mbServe (fun _ _ hu => hu.mbOpen (fun _ _ hu1 => hu1.inSession (fun _ _ _ hu2 =>
    hu2.failSession.updAnswer)))⟩

@[simp] theorem execSessionTimeout_sound (s : State) : SoundNext s (execSessionTimeout s) :=
  ⟨_, rfl, (Sound.refl _).failSession⟩

@[simp] theorem execMwBufRead_sound (s : State) : SoundNext s (execMwBufRead s) :=
  ⟨_, rfl, .ite (Sound.refl _).drive.onMgmt (Sound.refl _)⟩

theorem Sound.writeMwBuf (hs : Sound s₀ s) {v : Word} : Sound s₀ (s.writeMwBuf v) := by
  unfold State.writeMwBuf
  exact .ite (hs.onMgmt_wf (fun _ => memWriteN_wf _ _ _) fun _ => id) hs

@[simp] theorem execMwBufWrite_sound (v : Word) (s : State) : SoundNext s (execMwBufWrite v s) :=
  ⟨_, rfl, (Sound.refl _).writeMwBuf⟩

@[simp] theorem execU0B_sound (off : Nat) (data : List Byte) (s : State) : SoundNext s (execU0B off data s) := by
  unfold execU0B
  refine ⟨_, rfl, ?_⟩
  have h := (Sound.refl s).onMgmt_wf (f := fun m => { m with u0Buf := memWriteN m.u0Buf off data }) (fun _ => id)
    fun _ => memWriteN_wf _ _ _
  exact .ite (Sound.refl s) (.ite (Sound.refl s).u0Send h.u0Send)

@[simp] theorem execU0G_sound (off len : Nat) (s : State) : SoundNext s (execU0G off len s) :=
  ⟨_, rfl, .ite (Sound.refl _) (.ite (Sound.refl _).u0Send (Sound.refl _).u0Send)⟩

@[simp] theorem execU0UnmatchedLine_sound (s : State) : SoundNext s (execU0UnmatchedLine s) :=
  ⟨_, rfl, .ite (Sound.refl _).u0Send (Sound.refl _)⟩

theorem Sound.commitOldest (hs : Sound s₀ s) {erase : Bool} : Sound s₀ (s.commitOldest erase) := by
  unfold State.commitOldest
  split
  · exact hs
  next r l hl =>
    refine .ite hs (Sound.onAo_ring (hs.onMgmt (fun m => m.commitRecord_buf r erase) fun m => m.commitRecord_u0Buf r
      erase)
      fun hr => ?_)
    rw [State.onMgmt_ao, hl] at hr
    exact Nat.le_of_succ_le hr

theorem Sound.commitThermal (hs : Sound s₀ s) : Sound s₀ s.commitThermal := by
  unfold State.commitThermal
  split
  · exact hs
  · exact hs.onAo.onAnalog.raise0

@[simp] theorem execLogCommit_sound (s : State) : SoundNext s (execLogCommit s) := by
  unfold execLogCommit
  refine ⟨_, rfl, ?_⟩
  split
  · split
    · exact (Sound.refl _).commitThermal
    · exact (Sound.ite (Sound.refl _).onMgmt (Sound.refl _)).commitOldest
  · exact Sound.refl _

/-! ### Converters -/

theorem Sound.convEvery (hs : Sound s₀ s) {interval : Nat} {x : Fin 2} {prio number : Nat} :
    Sound s₀ (s.convEvery interval x prio number) := .ite hs.convDue hs

theorem Sound.headDue (hs : Sound s₀ s) {h : Fin 4} : Sound s₀ (s.headDue h) :=
  .ite (Sound.ite hs.convEvery hs).convEvery (.ite hs.convEvery hs)

theorem Sound.convMicro (hs : Sound s₀ s) : Sound s₀ s.convMicro :=
  .ite hs ((((hs.foldl (fun _ _ hu => hu.headDue)).foldl (fun _ _ hu => .ite hu.convEvery hu)).convEvery.foldl (fun _ _
    hu => .ite hu.convDue hu)).foldl (fun _ _ hu => .ite hu.convEvery.convEvery hu))

theorem Sound.adcOff (hs : Sound s₀ s) {x : Fin 2} : Sound s₀ (s.adcOff x) := hs.setPar

theorem Sound.adcTrigger (hs : Sound s₀ s) {x : Fin 2} : Sound s₀ (s.adcTrigger x) :=
  .ite (.ite hs.onConv.onConv.raise0 hs.onConv) hs.onConv

@[simp] theorem execSequencerTrigger_sound (x : Fin 2) (s : State) : SoundNext s (execSequencerTrigger x s) :=
  ⟨_, rfl, .ite (Sound.refl _).adcTrigger (Sound.refl _)⟩

theorem Sound.adcCtrl (hs : Sound s₀ s) {x : Fin 2} {v : Par} : Sound s₀ (s.adcCtrl x v) :=
  .ite (Sound.ite hs.adcTrigger hs).adcOff.onConv (.ite hs.adcTrigger hs)

@[simp] theorem execPassDelayEnd_sound (x : Fin 2) (s : State) : SoundNext s (execPassDelayEnd x s) :=
  ⟨_, rfl, (Sound.refl _).onConv⟩

theorem Sound.endEntry (hs : Sound s₀ s) {x : Fin 2} : Sound s₀ (s.endEntry x) :=
  .ite (Sound.ite hs.onConv.raise0 hs.onConv).adcOff (.ite hs.onConv.raise0 hs.onConv)

@[simp] theorem execConversionDone_sound (x : Fin 2) (code : BitVec 12) (postponed : Bool) (s : State) :
    SoundNext s (execConversionDone x code postponed s) :=
  ⟨_, rfl, .ite (Sound.refl _) (.ite (Sound.refl _).onConv.endEntry (.ite (Sound.refl _).onConv.onConv (Sound.refl
    _).onConv))⟩

@[simp] theorem execPlausibilityCheck_sound (p : Fin 4) (made : Bool) (codeA codeB : BitVec 12) (s : State) :
    SoundNext s (execPlausibilityCheck p made codeA codeB s) :=
  ⟨_, rfl, .ite (Sound.refl _) (.ite (Sound.refl _).convMade.convMade.onAnalog (.ite (Sound.refl
    _).convMade.convMade.onAnalog.raise0 (Sound.refl _).convMade.convMade.onAnalog))⟩

theorem Sound.setLevel (hs : Sound s₀ s) {l : Fin 3} : Sound s₀ (s.setLevel l) := .ite hs hs.onAnalog.raise0.changeMode

theorem Sound.setFlashOk (hs : Sound s₀ s) {ok : Bool} : Sound s₀ (s.setFlashOk ok) :=
  .ite hs (.ite hs.onAnalog.raise0.flashRose hs.onAnalog.raise0.flashFell)

@[simp] theorem execDieTempUpdate_sound (code : BitVec 12) (s : State) : SoundNext s (execDieTempUpdate code s) :=
  ⟨_, rfl, .ite (Sound.ite (Sound.ite (Sound.refl _).convMade.onAnalog (Sound.refl
    _).convMade.onAnalog.raise0).onAnalog.setLevel (.ite (Sound.ite (Sound.refl _).convMade.onAnalog (Sound.refl
    _).convMade.onAnalog.raise0).onAnalog.setLevel (.ite (Sound.refl _).convMade.onAnalog (Sound.refl
    _).convMade.onAnalog.raise0))).setFlashOk (Sound.refl _)⟩

@[simp] theorem execThermalTrip_sound (s : State) : SoundNext s (execThermalTrip s) := by
  unfold execThermalTrip
  dsimp only
  refine ⟨_, rfl, ?_⟩
  split
  · exact Sound.refl _
  · exact (Sound.refl _).onAo
  · exact (Sound.refl _).onAo.setLevel
  · exact (Sound.refl _).onAo.beginPd

theorem Sound.supplyEvent (hs : Sound s₀ s) {k : Fin 8} {before after fault : Bool} :
    Sound s₀ (s.supplyEvent k before after fault) := .ite hs hs.raise0

@[simp] theorem execSupplyMonitorSample_sound (k : Fin 8) (code : BitVec 12) (s : State) :
    SoundNext s (execSupplyMonitorSample k code s) :=
  ⟨_, rfl, .ite (Sound.refl _) (.ite (Sound.refl _).convMade.onMgmt.supplyEvent.supplyEvent (Sound.refl
    _).convMade.onMgmt)⟩

/-! ### Grit -/

theorem Sound.gritBlock (hs : Sound s₀ s) {cause : Nat} {before : Bool} : Sound s₀ (s.gritBlock cause before) :=
  .ite hs.onGrit.gritBlockEvent hs

theorem Sound.sourceFails (hs : Sound s₀ s) {x : Fin 2} {kinds : BitVec 3} : Sound s₀ (s.sourceFails x kinds) := by
  unfold State.sourceFails
  dsimp only
  split
  · exact hs.onGrit
  · exact .ite hs.onGrit.onSource.raise0 hs.onGrit.onSource
  · exact .ite hs.onGrit.onSource.onGrit.gritBlock hs.onGrit.onSource.onGrit.onSource.onGrit.raise0

@[simp] theorem execHealthTest_sound (x : Fin 2) (ringA ringB : Nat) (samples : List Bool) (s : State) :
    SoundNext s (execHealthTest x ringA ringB samples s) :=
  ⟨_, rfl, .ite (Sound.refl _) (.ite (.ite (Sound.refl _).onGrit (Sound.refl _)) (Sound.ite (Sound.refl _).onGrit
    (Sound.refl _)).sourceFails)⟩

@[simp] theorem execGritRestored_sound (x : Fin 2) (s : State) : SoundNext s (execGritRestored x s) :=
  ⟨_, rfl, .ite (Sound.refl _) (.ite (Sound.refl _).onSource.raise0.gritBlockEvent (Sound.refl _).onSource.raise0)⟩

@[simp] theorem execLatchFiring_sound (x : Fin 2) (b : Bool) (s : State) : SoundNext s (execLatchFiring x b s) :=
  ⟨_, rfl, .ite (Sound.refl _) (.ite (Sound.refl _).onSource.onGrit.sourceFails (Sound.refl _).onSource.onGrit)⟩

@[simp] theorem execEntropyInputRelease_sound (s : State) : SoundNext s (execEntropyInputRelease s) := by
  unfold execEntropyInputRelease
  refine ⟨_, rfl, ?_⟩
  split
  · exact (Sound.refl _).onGrit
  · exact Sound.refl _

@[simp] theorem execReseedSlot_sound (s : State) : SoundNext s (execReseedSlot s) := by
  unfold execReseedSlot
  dsimp only
  refine ⟨_, rfl, ?_⟩
  split
  · exact Sound.refl _
  · exact .ite (Sound.refl _).onGrit.onGrit.onAo (.ite (Sound.refl _).onGrit.onGrit (Sound.refl _).onGrit.onGrit)

@[simp] theorem execGenerateRequest_sound (i : Fin 10) (s : State) : SoundNext s (execGenerateRequest i s) := by
  unfold execGenerateRequest
  dsimp only
  refine ⟨_, rfl, ?_⟩
  split
  · split
    · split
      · exact (Sound.refl _).onGrit.raiseVi
      · exact (Sound.refl _).onGrit.raise0
    · exact (Sound.refl _).onGrit
  · exact Sound.refl _

theorem Sound.eraseInst (hs : Sound s₀ s) {v : Fin 8} : Sound s₀ (s.eraseInst v) := hs.onGrit

theorem Sound.randEmpty (hs : Sound s₀ s) {w : Fin 9} : Sound s₀ (s.randEmpty w) := hs.onGrit.drive

@[simp] theorem execRandLoRead_sound (w : Fin 9) (s : State) : SoundNext s (execRandLoRead w s) := by
  unfold execRandLoRead
  dsimp only
  refine ⟨_, rfl, ?_⟩
  split
  · exact .ite (Sound.refl _).randEmpty (Sound.refl _)
  · split
    · exact (Sound.refl _).randEmpty
    · exact (Sound.ite (Sound.refl _).onGrit.onGrit (Sound.refl _).onGrit).drive

@[simp] theorem execRandHiRead_sound (w : Fin 9) (s : State) : SoundNext s (execRandHiRead w s) :=
  ⟨_, rfl, .ite (.ite (Sound.refl _).drive (Sound.refl _)) (Sound.refl _).drive.onGrit⟩

theorem Sound.startRaw (hs : Sound s₀ s) : Sound s₀ s.startRaw := .ite hs hs.onGrit.onGrit.gritBlock

theorem Sound.switchSource (hs : Sound s₀ s) : Sound s₀ s.switchSource := hs.onSource.onSource.onGrit.raise0

theorem Sound.gritCtrl (hs : Sound s₀ s) {v : Par} : Sound s₀ (s.gritCtrl v) :=
  .ite (Sound.ite hs.switchSource hs).startRaw (Sound.ite hs.switchSource hs).endRaw

theorem Sound.gritRawCfg (hs : Sound s₀ s) {v : Par} : Sound s₀ (s.gritRawCfg v) := hs.onGrit

/-! ### Serial ports -/

theorem Sound.raiseSer (hs : Sound s₀ s) {p : Fin 3} {code aux : Byte} {payload : Word} :
    Sound s₀ (s.raiseSer p code aux payload) := by
  unfold State.raiseSer
  split
  · exact hs.raiseVi
  · exact hs

theorem Sound.reportRate (hs : Sound s₀ s) {p : Fin 3} : Sound s₀ (s.reportRate p) :=
  .ite hs.onSer hs.onSer.raise0.raiseSer

theorem Sound.reportRates (hs : Sound s₀ s) : Sound s₀ s.reportRates := hs.foldl fun _ _ hu => hu.reportRate

theorem Sound.serClock (hs : Sound s₀ s) : Sound s₀ s.serClock := .ite hs.reportRates hs.onSerial.reportRates

theorem Sound.serRetrim (hs : Sound s₀ s) {p : Fin 3} : Sound s₀ (s.serRetrim p) := .ite hs.onSer hs

@[simp] theorem execTrimMeasure_sound (fMeas : Word) (s : State) : SoundNext s (execTrimMeasure fMeas s) :=
  ⟨_, rfl, .ite ((Sound.refl _).onSerial.foldl (fun _ _ hu => hu.onSer)).reportRates (Sound.refl _)⟩

theorem Sound.serNext (hs : Sound s₀ s) {p : Fin 3} : Sound s₀ (s.serNext p) := .ite hs hs.onSer

theorem Sound.serCount (hs : Sound s₀ s) {p : Fin 3} {kind : Nat} : Sound s₀ (s.serCount p kind) :=
  .ite hs.onSer.raiseSer hs.onSer

theorem Sound.serWrite (hs : Sound s₀ s) {v : Fin 8} {p : Fin 3} {x : Word} : Sound s₀ (s.serWrite v p x) :=
  .ite hs (.ite hs.serCount hs.onSer.serNext)

@[simp] theorem execSerDataWrite_sound (w : Fin 9) (p : Fin 3) (x : Word) (s : State) :
    SoundNext s (execSerDataWrite w p x s) := by
  unfold execSerDataWrite
  refine ⟨_, rfl, ?_⟩
  split
  · exact (Sound.refl _).serWrite
  · exact Sound.refl _

theorem Sound.serCtrl (hs : Sound s₀ s) {v : Fin 8} {x : Word} : Sound s₀ (s.serCtrl v x) := .ite hs hs.onSer.serNext

theorem Sound.serCtrlWin (hs : Sound s₀ s) {w : Fin 9} {x : Word} : Sound s₀ (s.serCtrlWin w x) := by
  unfold State.serCtrlWin
  split
  · exact hs.serCtrl
  · exact hs

@[simp] theorem execSendBreak_sound (w : Fin 9) (x : Word) (s : State) : SoundNext s (execSendBreak w x s) :=
  ⟨_, rfl, (Sound.refl _).serCtrlWin⟩

@[simp] theorem execFlushRx_sound (w : Fin 9) (x : Word) (s : State) : SoundNext s (execFlushRx w x s) :=
  ⟨_, rfl, (Sound.refl _).serCtrlWin⟩

@[simp] theorem execFlushTx_sound (w : Fin 9) (x : Word) (s : State) : SoundNext s (execFlushTx w x s) :=
  ⟨_, rfl, (Sound.refl _).serCtrlWin⟩

theorem Sound.serTakeOver (hs : Sound s₀ s) {p : Fin 3} {o : BitVec 4} : Sound s₀ (s.serTakeOver p o) := by
  unfold State.serTakeOver
  dsimp only
  split
  · exact hs.setPar.onSerial.onSer.serRetrim
  · exact hs.onSerial.onSer.serRetrim

theorem Sound.serOwnerWrite (hs : Sound s₀ s) {v : Par} : Sound s₀ (s.serOwnerWrite v) :=
  hs.foldl (fun _ _ hu => .ite hu.onSer (.ite hu hu.serTakeOver))

@[simp] theorem execCharacterSent_sound (p : Fin 3) (s : State) : SoundNext s (execCharacterSent p s) := by
  unfold execCharacterSent
  dsimp only
  refine ⟨_, rfl, ?_⟩
  split
  · exact .ite (Sound.refl _).onMgmt (Sound.refl _)
  · split
    · exact Sound.refl _
    · split
      · exact (Sound.refl _).onSer.serTakeOver.serNext
      · exact (Sound.refl _).onSer.serNext

theorem Sound.serViReset (hs : Sound s₀ s) {v : Fin 8} : Sound s₀ (s.serViReset v) :=
  hs.foldl fun _ _ hu => .ite hu.onSer hu

theorem Sound.serSilence (hs : Sound s₀ s) : Sound s₀ s.serSilence := hs.onSerial

theorem Sound.serStop (hs : Sound s₀ s) : Sound s₀ s.serStop := by
  unfold State.serStop
  dsimp only
  exact hs.onSerial

theorem Sound.serLevel (hs : Sound s₀ s) {p : Fin 3} {before : Nat} : Sound s₀ (s.serLevel p before) :=
  .ite hs.onSer.raiseSer hs

theorem Sound.serArrive (hs : Sound s₀ s) {p : Fin 3} {e : Word} : Sound s₀ (s.serArrive p e) :=
  .ite hs (Sound.ite (Sound.ite hs.onSer hs.onSer.serCount).raiseSer (.ite hs.onSer hs.onSer.serCount)).serLevel

@[simp] theorem execCharacterReceived_sound (p : Fin 3) (ch : Byte) (parity stop : Bool) (s : State) :
    SoundNext s (execCharacterReceived p ch parity stop s) :=
  ⟨_, rfl, .ite (Sound.refl _) (.ite (.ite (Sound.refl _) (Sound.refl _).serCount) (Sound.ite (Sound.refl _) (Sound.refl
    _).serCount).serArrive)⟩

@[simp] theorem execBreakRx_sound (p : Fin 3) (length : Nat) (s : State) : SoundNext s (execBreakRx p length s) :=
  ⟨_, rfl, .ite (Sound.refl _) (Sound.refl _).serArrive⟩

@[simp] theorem execSerRxTimeout_sound (p : Fin 3) (s : State) : SoundNext s (execSerRxTimeout p s) :=
  ⟨_, rfl, .ite (Sound.refl _).onSer.raiseSer (Sound.refl _)⟩

@[simp] theorem execSerDataRead_sound (w : Fin 9) (p : Fin 3) (s : State) : SoundNext s (execSerDataRead w p s) := by
  unfold execSerDataRead
  refine ⟨_, rfl, ?_⟩
  split
  · exact Sound.refl _
  · split
    · exact Sound.refl _
    · split
      · exact (Sound.refl _).drive
      · split
        · exact (Sound.refl _).drive
        · split
          · exact (Sound.refl _).onSer.drive
          · exact (Sound.refl _).onSer.drive

theorem Sound.serErrClear (hs : Sound s₀ s) {idx : Nat} {vi : Option (Fin 8)} : Sound s₀ (s.serErrClear idx vi) := by
  unfold State.serErrClear
  dsimp only
  split
  · exact hs.onSer
  · exact .ite hs.onSer hs.setPar

/-! ### Ingest and Marl -/

theorem Sound.setBuffer (hs : Sound s₀ s) {i : Fin 8} {b : Option IngestBuffer} : Sound s₀ (s.setBuffer i b) :=
  hs.onMarl

theorem Sound.dropWaiting (hs : Sound s₀ s) {v : Fin 8} {band : Nat} : Sound s₀ (s.dropWaiting v band) := by
  unfold State.dropWaiting
  refine hs.foldl fun u y hu => ?_
  split
  · exact .ite hu.setBuffer hu
  · exact hu

theorem Sound.closeBand (hs : Sound s₀ s) {v : Fin 8} : Sound s₀ (s.closeBand v) := by
  unfold State.closeBand
  dsimp only
  split
  · exact hs
  · exact hs.dropWaiting.setBuffer.onMarl

theorem Sound.putByte (hs : Sound s₀ s) {v : Fin 8} {x : Byte} {u : State} (hu : s.putByte v x = some u) :
    Sound s₀ u := by
  unfold State.putByte at hu
  dsimp only at hu
  split at hu
  · rw [← Option.some.inj hu]
    exact .ite hs.onIngest.setBuffer.closeBand hs.onIngest.setBuffer
  · split at hu
    · split at hu
      · rw [← Option.some.inj hu]
        exact hs.onIngest.setBuffer.onIngest
      · cases hu
    · cases hu

theorem Sound.putQueued (hs : Sound s₀ s) {v : Fin 8} {l : List Byte} : Sound s₀ (s.putQueued v l) := by
  induction l generalizing s with
  | nil => exact hs.onIngest
  | cons x t ih =>
    unfold State.putQueued
    split
    next u hu => exact ih (hs.putByte hu)
    next => exact hs.onIngest

theorem Sound.putBytes (hs : Sound s₀ s) {v : Fin 8} {l : List Byte} : Sound s₀ (s.putBytes v l) := hs.putQueued

theorem Sound.yield (hs : Sound s₀ s) {v : Fin 8} {l : List Byte} {u : State} (hu : s.yield v l = some u) :
    Sound s₀ u := by
  unfold State.yield at hu
  split at hu
  · cases hu
    exact hs
  · split at hu
    · cases hu
      exact hs.putBytes
    · cases hu

theorem Sound.countSpeckle (hs : Sound s₀ s) {v : Fin 8} {n : Nat} : Sound s₀ (s.countSpeckle v n) := hs.onVi

theorem Sound.speckleByte (hs : Sound s₀ s) {v : Fin 8} {x : Byte} {u : State} (hu : s.speckleByte v x = some u) :
    Sound s₀ u := by
  unfold State.speckleByte at hu
  dsimp only at hu
  split at hu
  · cases hu
    exact hs.onIngest
  · split at hu
    · cases hu
      exact hs.onIngest
    · obtain ⟨t, ht, rfl⟩ := Option.map_eq_some_iff.mp hu
      exact (hs.yield ht).countSpeckle.onIngest

theorem Sound.ditherByte (hs : Sound s₀ s) {v : Fin 8} {x : Byte} {u : State} (hu : s.ditherByte v x = some u) :
    Sound s₀ u := by
  unfold State.ditherByte at hu
  dsimp only at hu
  split at hu
  · cases hu
    exact hs.onIngest
  · exact hs.onIngest.yield hu

theorem Sound.ingestByte (hs : Sound s₀ s) {v : Fin 8} {x : Byte} {u : State} (hu : s.ingestByte v x = some u) :
    Sound s₀ u := by
  unfold State.ingestByte at hu
  split at hu
  · exact hs.speckleByte hu
  · exact hs.ditherByte hu
  · exact hs.yield hu

theorem Sound.speckleFlush (hs : Sound s₀ s) {v : Fin 8} : Sound s₀ (s.speckleFlush v) :=
  (Sound.ite (.ite hs hs.putBytes.countSpeckle) (Sound.ite hs hs.putBytes.countSpeckle).putBytes.countSpeckle).onIngest

theorem Sound.gatherRest (hs : Sound s₀ s) {v : Fin 8} : Sound s₀ (s.gatherRest v) :=
  .ite hs.speckleFlush (.ite hs.putBytes.onIngest hs)

theorem Sound.handBand (hs : Sound s₀ s) {v : Fin 8} : Sound s₀ (s.handBand v) := by
  unfold State.handBand
  dsimp only
  split
  · exact hs.onIngest
  · exact hs.onIngest.setBuffer.closeBand.onIngest

theorem Sound.flushBand (hs : Sound s₀ s) {v : Fin 8} : Sound s₀ (s.flushBand v).2 :=
  .ite_snd hs.gatherRest.handBand hs.gatherRest

theorem Sound.drainLoop (hs : Sound s₀ s) {v : Fin 8} {n : Nat} : Sound s₀ (s.drainLoop v n) := by
  induction n generalizing s with
  | zero => exact hs
  | succ n ih =>
    unfold State.drainLoop
    dsimp only
    split
    · exact hs
    · split
      · exact .ite (ih hs.flushBand.onData) hs.flushBand
      · split
        · exact hs
        · split
          next u hu =>
            obtain ⟨t, ht, hb⟩ := Option.bind_eq_some_iff.mp hu
            exact ih ((hs.ingestByte ht).ingestByte hb).putBytes.onData
          next => exact hs

theorem Sound.drain (hs : Sound s₀ s) {v : Fin 8} : Sound s₀ (s.drain v) := .ite hs.putBytes.drainLoop hs

theorem Sound.drainAll (hs : Sound s₀ s) : Sound s₀ s.drainAll := hs.foldl fun _ _ hu => hu.drain

theorem Sound.stopStream (hs : Sound s₀ s) {v : Fin 8} : Sound s₀ (s.stopStream v) :=
  .ite hs.onData.unpinWhere hs.onData.drain

theorem Sound.acceptHalf (hs : Sound s₀ s) {v : Fin 8} {x : Word} : Sound s₀ (s.acceptHalf v x) :=
  .ite hs.stopStream hs.onData.drain

@[simp] theorem execDataPortWrite_sound (vi : Fin 8) (v : Word) (s : State) : SoundNext s (execDataPortWrite vi v s) :=
  ⟨_, rfl, .ite (Sound.refl _) (.ite (Sound.refl _).acceptHalf (Sound.refl _).onData)⟩

@[simp] theorem execFifoPlaceFree_sound (vi : Fin 8) (s : State) : SoundNext s (execFifoPlaceFree vi s) := by
  unfold execFifoPlaceFree
  dsimp only
  refine ⟨_, rfl, ?_⟩
  split
  · exact .ite (Sound.refl _).drain.onData.acceptHalf (Sound.refl _).drain
  · exact (Sound.refl _).drain

theorem Sound.popHalf (hs : Sound s₀ s) {v : Fin 8} : Sound s₀ (s.popHalf v) := by
  unfold State.popHalf
  split
  · exact hs.onData.drive
  · exact hs.drive

@[simp] theorem execDataPortRead_sound (vi : Fin 8) (s : State) : SoundNext s (execDataPortRead vi s) :=
  ⟨_, rfl, .ite (.ite (Sound.refl _).drive (Sound.refl _)) (.ite (Sound.refl _).drive (.ite (Sound.refl _).onData (.ite
    (Sound.refl _).drive (Sound.refl _).popHalf)))⟩

theorem Sound.dataLost (hs : Sound s₀ s) {v : Fin 8} {aux : Byte} : Sound s₀ (s.dataLost v aux) := .ite hs.raiseVi hs

@[simp] theorem execDataPortTimeout_sound (vi : Fin 8) (s : State) : SoundNext s (execDataPortTimeout vi s) :=
  ⟨_, rfl, .ite (Sound.refl _).onData.dataLost (.ite (Sound.refl _).onData.drive.dataLost (Sound.refl _))⟩

theorem Sound.leavePage (hs : Sound s₀ s) {v : Fin 8} : Sound s₀ (s.leavePage v) := by
  unfold State.leavePage
  split
  · exact hs.unpinWhere.onData
  · exact hs

theorem Sound.fetchHalves (hs : Sound s₀ s) {v : Fin 8} : Sound s₀ (s.fetchHalves v) :=
  .ite (Sound.ite hs.onData.leavePage hs.onData).popHalf (.ite hs.onData.leavePage hs.onData)

@[simp] theorem execReadStreamFill_sound (vi : Fin 8) (s : State) : SoundNext s (execReadStreamFill vi s) :=
  ⟨_, rfl, .ite (Sound.refl _) (.ite (Sound.refl _).stopStream (.ite (Sound.refl _).fetchHalves (.ite (Sound.refl
    _).pinPage.onData.fetchHalves (.ite (Sound.refl _).stopStream (.ite (Sound.refl _).fetchHalves (.ite (Sound.refl _)
    (Sound.refl _).raiseFault))))))⟩

theorem Sound.marlAccrue (hs : Sound s₀ s) : Sound s₀ s.marlAccrue := by
  unfold State.marlAccrue
  dsimp only
  exact (hs.foldl (fun _ _ hu => hu.onVi)).onMarl

theorem Sound.storeFull (hs : Sound s₀ s) {i : Fin 8} {b : IngestBuffer} {quota : Bool} :
    Sound s₀ (s.storeFull i b quota) := .ite hs hs.setBuffer.raiseVi

theorem Sound.marlStart (hs : Sound s₀ s) {waitClocks n : Nat} {l : List (Fin 8)} :
    Sound s₀ (s.marlStart waitClocks n l) := by
  induction n generalizing s l with
  | zero => exact hs
  | succ n ih =>
    unfold State.marlStart
    split
    · exact hs
    · split
      · exact hs
      · dsimp only
        split
        · exact ih hs.storeFull
        · split
          next => exact ih hs.storeFull
          next hu => exact (hs.reserveChunks hu).onVi.onMarl

@[simp] theorem execMarlBlockStart_sound (waitClocks : Nat) (s : State) :
    SoundNext s (execMarlBlockStart waitClocks s) :=
  ⟨_, rfl, .ite (Sound.refl _) (Sound.refl _).marlAccrue.marlStart⟩

theorem Sound.placeBlock (hs : Sound s₀ s) {q : Coding} {b : IngestBuffer} {block : List Byte} :
    Sound s₀ (s.placeBlock q b block) := hs.writeChain.placeBand.freeChunks.onMarl.onVi

theorem Sound.judgeBlock (hs : Sound s₀ s) {b : IngestBuffer} {block : List Byte} : Sound s₀ (s.judgeBlock b block) :=
  .ite hs.onMarl.raiseVi.raise0 hs

@[simp] theorem execBlockPlaced_sound (verifyOk : Bool) (s : State) : SoundNext s (execBlockPlaced verifyOk s) := by
  unfold execBlockPlaced
  dsimp only
  refine ⟨_, rfl, ?_⟩
  split
  · exact Sound.refl _
  · split
    · exact Sound.refl _
    · split
      · exact (Sound.refl _).freeChunks.onMarl
      · exact (Sound.ite (Sound.refl _).onMarl.setBuffer.freeChunks (Sound.refl
          _).onMarl.setBuffer.placeBlock).judgeBlock.drainAll.refreshHeads

theorem Sound.discardBlock (hs : Sound s₀ s) {v : Fin 8} {band : Nat} : Sound s₀ (s.discardBlock v band) := by
  unfold State.discardBlock
  dsimp only
  split
  · split
    · exact .ite hs.dropWaiting.setBuffer hs.dropWaiting
    · exact hs.dropWaiting
  · exact hs.dropWaiting

theorem Sound.discardMarl (hs : Sound s₀ s) {v : Fin 8} : Sound s₀ (s.discardMarl v) := by
  unfold State.discardMarl
  dsimp only
  refine Sound.onIngest (hs.foldl fun u i hu => ?_)
  split
  · exact .ite hu (.ite hu.setBuffer hu.setBuffer)
  · exact hu

/-! ### Silt -/

theorem Sound.pruneFaults (hs : Sound s₀ s) : Sound s₀ s.pruneFaults := by
  unfold State.pruneFaults
  dsimp only
  exact hs.onSilt

@[simp] theorem execBandDecodeStart_sound (s : State) : SoundNext s (execBandDecodeStart s) := by
  unfold execBandDecodeStart
  dsimp only
  refine ⟨_, rfl, ?_⟩
  split
  · exact Sound.refl _
  · split
    · exact (Sound.refl _).pruneFaults
    · split
      · exact (Sound.refl _).pruneFaults.onSilt
      · exact (Sound.refl _).pruneFaults

theorem Sound.enterPage (hs : Sound s₀ s) {v : Fin 8} {p f : Nat} {l : List Byte} : Sound s₀ (s.enterPage v p f l) :=
  hs.putFrame.onSilt_wf (fun _ => memWriteN_wf _ _ _) fun _ => id

theorem Sound.faultsOver (hs : Sound s₀ s) {v : Fin 8} {p : Nat} : Sound s₀ (s.faultsOver v p) := hs.onSilt.onVi

theorem Sound.keepPage (hs : Sound s₀ s) {d : Decode} {l : List Byte} : Sound s₀ (s.keepPage d l) := by
  unfold State.keepPage
  dsimp only
  split
  · exact hs.faultsOver
  · split
    · exact hs.takeFrame.enterPage.faultsOver
    · exact hs.takeFrame

theorem Sound.raiseDecodeFail (hs : Sound s₀ s) {v : Fin 8} {band check : Nat} :
    Sound s₀ (s.raiseDecodeFail v band check) := hs.onMarl.raiseVi.raise0

theorem Sound.decodeFails (hs : Sound s₀ s) {v : Fin 8} {band check : Nat} : Sound s₀ (s.decodeFails v band check) :=
  hs.onSilt.raiseDecodeFail

theorem Sound.endDecode (hs : Sound s₀ s) : Sound s₀ s.endDecode := hs.onSilt

theorem Sound.finishFreed (hs : Sound s₀ s) {d : Decode} {l : List Byte} : Sound s₀ (s.finishFreed d l) := by
  unfold State.finishFreed
  split
  · exact hs.endDecode.raiseDecodeFail
  · exact hs.endDecode

theorem Sound.finishPage (hs : Sound s₀ s) {d : Decode} : Sound s₀ (s.finishPage d) := by
  unfold State.finishPage
  split
  · exact hs.endDecode
  · split
    · exact hs.endDecode
    · split
      · exact hs.decodeFails.refreshHeads
      · exact hs.keepPage.onSilt.refreshHeads

@[simp] theorem execFaultResolved_sound (s : State) : SoundNext s (execFaultResolved s) := by
  unfold execFaultResolved
  refine ⟨_, rfl, ?_⟩
  split
  · exact Sound.refl _
  · split
    · exact Sound.refl _
    · split
      · exact (Sound.refl _).finishFreed
      · exact (Sound.refl _).finishPage

@[simp] theorem execQuotaReplace_sound (s : State) : SoundNext s (execQuotaReplace s) := by
  unfold execQuotaReplace
  refine ⟨_, rfl, ?_⟩
  refine (Sound.refl _).foldl fun u y hu => ?_
  split
  · split
    · exact hu.onVi.freeFrame
    · exact hu
  · exact hu

theorem Sound.writeDiscard (hs : Sound s₀ s) {v : Fin 8} {x : Par} : Sound s₀ (s.writeDiscard v x).1 := by
  unfold State.writeDiscard
  dsimp only
  split
  · exact hs
  · dsimp only
    exact (hs.foldl fun _ _ hu => hu.discardBlock.dropBand).drainAll.refreshHeads

theorem Sound.writeArbApply (hs : Sound s₀ s) {x : Par} : Sound s₀ (s.writeArbApply x).1 := by
  unfold State.writeArbApply
  split
  · exact hs
  · dsimp only
    split
    · exact (hs.onSilt (f := fun y => { y with arb := { y.arb with refused := true } })).raise0
    · exact hs.onSilt (f := fun y => { y with
        arb := { y.arb with refused := false, pending := some (s.slotTable, s.burstTable) } })

theorem Sound.arbClocks (hs : Sound s₀ s) {n : Nat} : Sound s₀ (s.arbClocks n) := .ite hs.onSilt.raise0 hs.onSilt

theorem Sound.arbMicro (hs : Sound s₀ s) : Sound s₀ s.arbMicro := hs.arbClocks

@[simp] theorem execTableCommit_sound (s : State) : SoundNext s (execTableCommit s) :=
  ⟨_, rfl, .ite (Sound.refl _).arbClocks (Sound.refl _)⟩

theorem Sound.memoryLost (hs : Sound s₀ s) : Sound s₀ s.memoryLost := by
  unfold State.memoryLost
  dsimp only
  refine Sound.refreshHeads (Sound.pruneFaults (Sound.onMarl ?_))
  refine Sound.onSilt_wf ?_ (fun _ => id) fun _ _ => rfl
  refine Sound.foldl ?_ fun u g hu => ?_
  · exact Sound.raise0 (hs.foldl fun u v hu => .ite hu.raiseVi hu)
  · split
    · exact .ite hu.onLink.sendResult hu
    · exact hu

/-! ### Streams -/

theorem Sound.drawSeed (hs : Sound s₀ s) {u : Word × State} (hu : s.drawSeed = some u) : Sound s₀ u.2 := by
  unfold State.drawSeed at hu
  dsimp only at hu
  split at hu
  · cases hu
  · split at hu
    · cases hu
      dsimp only
      exact hs.onGrit
    · split at hu
      · split at hu
        · cases hu
          dsimp only
          exact hs.onGrit
        · cases hu
      · cases hu

theorem Sound.refuseStart (hs : Sound s₀ s) {v : Fin 8} : Sound s₀ (s.refuseStart v) := hs.onData

theorem Sound.endEarlier (hs : Sound s₀ s) {v : Fin 8} : Sound s₀ (s.endEarlier v) := by
  unfold State.endEarlier
  dsimp only
  exact (Sound.ite hs hs.flushBand).onData

theorem Sound.startRead (hs : Sound s₀ s) {v : Fin 8} : Sound s₀ (s.startRead v) :=
  .ite hs.refuseStart hs.endEarlier.onData

theorem Sound.runWrite (hs : Sound s₀ s) {v : Fin 8} {mode : BitVec 2} {bpl : Nat} {lfsr : Word} :
    Sound s₀ (s.runWrite v mode bpl lfsr) := by
  unfold State.runWrite
  dsimp only
  exact hs.endEarlier.onIngest.onData

theorem Sound.startWrite (hs : Sound s₀ s) {v : Fin 8} : Sound s₀ (s.startWrite v) := by
  unfold State.startWrite
  dsimp only
  split
  · exact hs.refuseStart
  · split
    · split
      · exact hs.refuseStart
      next x u hu =>
        have h : Sound s₀ u := by
          split at hu
          · cases hu
            exact hs
          · exact hs.drawSeed hu
        exact h.runWrite.onVi
    · exact hs.runWrite

theorem Sound.closeSoon (hs : Sound s₀ s) {v : Fin 8} : Sound s₀ (s.closeSoon v) := hs.onData.drain

theorem Sound.stopHost (hs : Sound s₀ s) {v : Fin 8} : Sound s₀ (s.stopHost v) :=
  .ite hs.leavePage.onData hs.onData.closeSoon

theorem Sound.writeDataCtrl (hs : Sound s₀ s) {v : Fin 8} {x : Word} : Sound s₀ (s.writeDataCtrl v x) :=
  .ite hs (Sound.ite (.ite (Sound.ite hs.onData.onData hs.onData).stopHost (.ite (Sound.ite hs.onData.onData
    hs.onData).closeSoon (.ite hs.onData.onData hs.onData))) (.ite (.ite hs.onData.onData.startRead
    hs.onData.onData.startWrite) hs.onData.onData)).refreshHeads

@[simp] theorem execDataStreamStart_sound (vi : Fin 8) (ctrl : Word) (s : State) :
    SoundNext s (execDataStreamStart vi ctrl s) := ⟨_, rfl, (Sound.refl _).writeDataCtrl⟩

@[simp] theorem execDataStreamStop_sound (vi : Fin 8) (ctrl : Word) (s : State) :
    SoundNext s (execDataStreamStop vi ctrl s) :=
  ⟨_, rfl, (Sound.refl _).writeDataCtrl⟩

@[simp] theorem execFlush_sound (vi : Fin 8) (ctrl : Word) (s : State) : SoundNext s (execFlush vi ctrl s) :=
  ⟨_, rfl, (Sound.refl _).writeDataCtrl⟩

theorem Sound.writeDataAddr (hs : Sound s₀ s) {v : Fin 8} {high : Bool} {x : Word} :
    Sound s₀ (s.writeDataAddr v high x) := hs.onData

/-! ### Virtual instances -/

theorem Sound.contractWrite (hs : Sound s₀ s) {v : Fin 8} {k : Fin 20} {x : Par} :
    Sound s₀ (s.contractWrite v k x) := by
  unfold State.contractWrite
  exact hs.accrue.marlAccrue.onVi

theorem Sound.retire (hs : Sound s₀ s) {v : Fin 8} : Sound s₀ (s.retire v) := by
  unfold State.retire
  split
  · exact hs.onVi
  · exact hs.onVi
  · exact hs

theorem Sound.writeEnBit (hs : Sound s₀ s) {v : Fin 8} {b : Bool} : Sound s₀ (s.writeEnBit v b) :=
  .ite hs (.ite hs.onVi (.ite hs.retire hs.onVi))

theorem Sound.writeViEn (hs : Sound s₀ s) {x : Word} : Sound s₀ (s.writeViEn x) :=
  .ite hs (hs.foldl (fun _ _ hu => hu.writeEnBit))

theorem Sound.handleEnable (hs : Sound s₀ s) {v : Fin 8} : Sound s₀ (s.handleEnable v) := by
  unfold State.handleEnable
  dsimp only
  exact .ite hs.accrue.onVi.raise0 hs.onVi.onBus.raise0

theorem Sound.handleClears (hs : Sound s₀ s) {v : Fin 8} : Sound s₀ (s.handleClears v) := by
  unfold State.handleClears
  split
  · exact hs.onVi.retire
  · exact hs

@[simp] theorem execViEnable_sound (vi : Fin 8) (s : State) : SoundNext s (execViEnable vi s) := by
  unfold execViEnable
  refine ⟨_, rfl, ?_⟩
  split
  · exact Sound.refl _
  · split
    · exact (Sound.refl _).onVi.handleEnable.handleClears
    · exact .ite (Sound.refl _).handleEnable (Sound.refl _)

@[simp] theorem execViRetire_sound (vi : Fin 8) (s : State) : SoundNext s (execViRetire vi s) :=
  ⟨_, rfl, .ite (Sound.refl _).writeEnBit (Sound.refl _)⟩

theorem Sound.requestReset (hs : Sound s₀ s) {v : Fin 8} {src : ResetSource} : Sound s₀ (s.requestReset v src) :=
  .ite hs.onVi hs

theorem Sound.writeViReset (hs : Sound s₀ s) {v : Word} : Sound s₀ (s.writeViReset v) :=
  .ite hs (hs.foldl (fun _ _ hu => .ite hu.requestReset hu))

@[simp] theorem execHvViReset_sound (v : Word) (s : State) : SoundNext s (execHvViReset v s) :=
  ⟨_, rfl, (Sound.refl _).writeViReset⟩

theorem Sound.stopViRuns (hs : Sound s₀ s) {v : Fin 8} : Sound s₀ (s.stopViRuns v) := by
  unfold State.stopViRuns
  refine hs.foldl fun u y hu => ?_
  split
  · exact .ite hu.stopJob hu
  · exact hu

theorem Sound.dropGuests (hs : Sound s₀ s) {v : Fin 8} : Sound s₀ (s.dropGuests v) := by
  unfold State.dropGuests
  refine hs.foldl fun u y hu => ?_
  split
  · exact .ite hu.sendResult.freeGuest hu
  · exact hu

theorem Sound.dropLoam (hs : Sound s₀ s) {v : Fin 8} : Sound s₀ (s.dropLoam v) := by
  unfold State.dropLoam
  dsimp only
  exact (hs.foldl (fun _ _ hu => hu.dropReservation)).onLoam

theorem Sound.keepDecode (hs : Sound s₀ s) {v : Fin 8} : Sound s₀ (s.keepDecode v) := by
  unfold State.keepDecode
  split
  · exact hs
  · split
    · split
      · exact .ite hs.endDecode hs.onSilt
      · exact hs.endDecode
    · exact hs

theorem Sound.dropRaster (hs : Sound s₀ s) {v : Fin 8} : Sound s₀ (s.dropRaster v) := by
  unfold State.dropRaster
  dsimp only
  exact hs.keepDecode.freeChunks.onSilt.onMarl

theorem Sound.viLampsOff (hs : Sound s₀ s) {v : Fin 8} : Sound s₀ (s.viLampsOff v) :=
  hs.foldl fun _ _ hu => .ite hu.lampOff hu

theorem Sound.viParams (hs : Sound s₀ s) {v : Fin 8} : Sound s₀ (s.viParams v) :=
  hs.frame.foldl fun _ _ hu => hu.setPar.setPar

theorem Sound.viRegisters (hs : Sound s₀ s) {v : Fin 8} : Sound s₀ (s.viRegisters v) := by
  unfold State.viRegisters
  exact hs.onVi.onPort.onEvq fun _ _ => Nat.zero_le _

theorem Sound.dropTenantLegal (hs : Sound s₀ s) {v : Fin 8} : Sound s₀ (s.dropTenantLegal v) :=
  hs.orphanLegal.dropOrphanRsp.onVi

theorem Sound.resetVi (hs : Sound s₀ s) {v : Fin 8} {src : ResetSource} : Sound s₀ (s.resetVi v src) := by
  unfold State.resetVi
  dsimp only
  refine Sound.viRegisters (Sound.endHeld (Sound.viParams (Sound.eraseInst (Sound.serViReset (Sound.viLampsOff ?_)))))
  exact hs.accrue.marlAccrue.onVi.revokeAll.stopViRuns.dropGuests.dropLoam.dropTenantLegal.dropRaster.discardMarl

@[simp] theorem execViResetTakesEffect_sound (vi : Fin 8) (s : State) : SoundNext s (execViResetTakesEffect vi s) := by
  unfold execViResetTakesEffect
  refine ⟨_, rfl, ?_⟩
  split
  · exact Sound.refl _
  · split
    · exact .ite (Sound.refl _) (Sound.refl _).resetVi.refreshEligible
    · exact Sound.refl _

theorem Sound.freeScrubbed (hs : Sound s₀ s) {v : Fin 8} : Sound s₀ (s.freeScrubbed v) :=
  hs.foldl fun _ _ hu => hu.freeFrame

theorem Sound.resetOver (hs : Sound s₀ s) {v : Fin 8} : Sound s₀ (s.resetOver v) :=
  .ite hs.freeScrubbed.onVi.raise0.raiseVi.raise0 hs.freeScrubbed.onVi.raise0.raiseVi

@[simp] theorem execViResetDone_sound (vi : Fin 8) (s : State) : SoundNext s (execViResetDone vi s) := by
  unfold execViResetDone
  refine ⟨_, rfl, ?_⟩
  split
  · exact Sound.refl _
  · split
    · exact (Sound.refl _).resetOver
    · exact .ite (Sound.refl _).resetOver (Sound.refl _)
    · exact Sound.refl _

theorem Sound.failLegalJobs (hs : Sound s₀ s) {v : Fin 8} : Sound s₀ (s.failLegalJobs v) := by
  unfold State.failLegalJobs
  dsimp only
  exact hs.foldl fun _ _ hu => .ite hu.dropReservation.endJob hu

theorem Sound.raiseOpt (hs : Sound s₀ s) {v : Option (Fin 8)} {code aux : Byte} {payload : Word} :
    Sound s₀ (s.raiseOpt v code aux payload) := by
  cases v
  · exact hs
  · exact hs.raiseVi

theorem Sound.loseRole (hs : Sound s₀ s) {v : Fin 8} : Sound s₀ (s.loseRole v) := hs.failLegalJobs.dropTenantLegal.onVi

theorem Sound.moveRole (hs : Sound s₀ s) {x : BitVec 4} : Sound s₀ (s.moveRole x) := by
  have hrole := hs.onBus (f := fun b => { b with legalRole := x })
  have hlost : Sound s₀ ((roleVi s.bus.legalRole).elim (s.onBus fun b => { b with legalRole := x }) fun v =>
      (s.onBus fun b => { b with legalRole := x }).loseRole v) := by
    cases roleVi s.bus.legalRole
    · exact hrole
    · exact hrole.loseRole
  unfold State.moveRole
  exact .ite hs hlost.raise0.raiseOpt.raiseOpt.refreshEligible

@[simp] theorem execEvqPop_sound (w : Fin 9) (s : State) : SoundNext s (execEvqPop w s) := by
  unfold execEvqPop
  refine ⟨_, rfl, .ite (.ite (Sound.refl s).drive (Sound.refl s)) ?_⟩
  split
  · exact (Sound.refl s).onEvq.drive
  next e l hq =>
    refine Sound.drive ((Sound.refl s).onEvq_self fun hle => ?_)
    rw [hq] at hle
    exact Nat.le_of_succ_le hle

@[simp] theorem execIrqPendWrite_sound (w : Fin 9) (v : Word) (s : State) : SoundNext s (execIrqPendWrite w v s) :=
  ⟨_, rfl, .ite (Sound.refl _).onEvq (Sound.refl _)⟩

/-! ### Parameter writes -/

theorem Sound.hostTime (hs : Sound s₀ s) {lo : Par} : Sound s₀ (s.hostTime lo) := hs.onAo.onBus.raise0

theorem Sound.writeFreeze (hs : Sound s₀ s) {v : Word} : Sound s₀ (s.writeFreeze v) :=
  hs.onBus.foldl fun _ _ hu => hu.onEnergy.onMedia

theorem Sound.pwrItemWrite (hs : Sound s₀ s) {idx : Nat} {v : Par} : Sound s₀ (s.pwrItemWrite idx v) := by
  unfold State.pwrItemWrite
  split
  · exact hs.onAo
  · exact hs.onAo
  · exact hs.onAo
  · exact hs.onAo
  · exact hs.onPwr
  · exact hs.setPar

theorem Sound.serviceItemWrite (hs : Sound s₀ s) {idx : Nat} {vi : Option (Fin 8)} {v : Par} :
    Sound s₀ (s.serviceItemWrite idx vi v) := by
  unfold State.serviceItemWrite
  split
  · exact hs.gritCtrl
  · exact hs.gritRawCfg
  · exact hs.serOwnerWrite
  · exact hs.setPar.serRetrim.serNext
  · exact hs.setPar.serClock
  · exact hs.setPar.serRetrim.serNext
  · exact hs.setPar.serRetrim.serNext
  · exact hs.setPar

theorem Sound.lowItemWrite (hs : Sound s₀ s) {idx : Nat} {vi : Option (Fin 8)} {v : Par} :
    Sound s₀ (s.lowItemWrite idx vi v).1 := by
  unfold State.lowItemWrite
  split
  · dsimp only
    exact hs.hostTime
  · split
    · dsimp only
      exact hs.onBus
    · split
      · dsimp only
        exact hs.writeFreeze
      · split
        · split
          · dsimp only
            exact hs.contractWrite
          · dsimp only
            exact hs
        · split
          · exact hs.writeArbApply
          · split
            · dsimp only
              exact hs.setPar
            · exact .ite_fst hs.jobItemWrite (.ite_fst hs.setPar (.ite_fst hs.onVi (.ite_fst hs.writeDiscard
                hs.setPar)))

theorem Sound.itemWrite (hs : Sound s₀ s) {w : Fin 11} {idx : Nat} {vi : Option (Fin 8)} {v : Par} :
    Sound s₀ (s.itemWrite w idx vi v).1 := by
  unfold State.itemWrite
  refine .ite_fst hs.lowItemWrite (.ite_fst hs.headItemWrite (.ite_fst hs.axisItemWrite ?_))
  split
  · exact hs.setPar
  refine .ite_fst hs.mediaItemWrite (.ite_fst hs.lampItemWrite ?_)
  split
  · split
    · exact hs.writeLampCmd
    · exact hs
  repeat' split
  · exact hs.adcCtrl
  · exact hs.pwrItemWrite
  · exact hs.serviceItemWrite
  · dsimp only
    exact hs.ryItemWrite
  · exact hs.setPar

theorem Sound.applyCommit (hs : Sound s₀ s) {w : Fin 11} {idx : Nat} {v : Par} :
    Sound s₀ (s.applyCommit w idx v).1 := by
  unfold State.applyCommit
  dsimp only
  split
  · dsimp only
    exact hs
  · split
    · dsimp only
      exact hs
    · exact .ite_fst hs (.ite_fst hs hs.itemWrite)

/-! ### Parameter reads -/

theorem Sound.clearItem (hs : Sound s₀ s) {idx : Nat} {vi : Option (Fin 8)} : Sound s₀ (s.clearItem idx vi) := by
  unfold State.clearItem
  dsimp only
  split
  · exact hs.onBus
  · exact hs.onSilt
  · exact hs.onVi
  · exact hs.onMarl
  · exact hs.onAnalog
  · exact hs.onGrit
  · exact hs.serErrClear
  · exact hs.serErrClear
  · exact hs.serErrClear
  · exact hs.onLink
  · exact hs.onLink
  · exact hs.onMgmt
  · exact hs

theorem Sound.fetch (hs : Sound s₀ s) {w : Fin 11} {idx : Nat} : Sound s₀ (s.fetch w idx).2.1 := by
  unfold State.fetch
  dsimp only
  split
  · exact hs
  · split
    · exact hs
    · split
      · exact hs
      · split
        · exact hs
        · exact .ite hs.onPort (.ite hs.clearItem hs)

/-! ### Accesses -/

theorem Sound.raiseBusError (hs : Sound s₀ s) : Sound s₀ s.raiseBusError := hs.raise0

theorem Sound.countAccess (hs : Sound s₀ s) {w : Nat} {off : BitVec 6} {write : Bool} {kind : Nat} :
    Sound s₀ (s.countAccess w off write kind) := .ite hs (.ite hs.onBus.onBus hs.onBus.onBus.raiseBusError)

@[simp] theorem execCountedAccess_sound (w : BitVec 5) (off : BitVec 6) (write : Bool) (kind : BitVec 3) (s : State) :
    SoundNext s (execCountedAccess w off write kind s) :=
  ⟨_, rfl, .ite (Sound.refl _) (.ite (Sound.refl _).countAccess (Sound.refl _).countAccess.drive)⟩

@[simp] theorem execBusErrorRepeat_sound (s : State) : SoundNext s (execBusErrorRepeat s) :=
  ⟨_, rfl, .ite (Sound.refl _).onBus.raiseBusError (Sound.refl _).onBus⟩

@[simp] theorem execHvBusErrRead_sound (s : State) : SoundNext s (execHvBusErrRead s) :=
  ⟨_, rfl, .ite (Sound.refl _).drive.onBus (.ite (Sound.refl _).drive (Sound.refl _))⟩

theorem Sound.finishPosted (hs : Sound s₀ s) {w : Fin 11} : Sound s₀ (s.finishPosted w) := by
  unfold State.finishPosted
  dsimp only
  split
  · exact hs
  · exact hs.onPort.applyCommit.onPort.completeOp

@[simp] theorem execParameterOpDone_sound (w : Fin 11) (s : State) : SoundNext s (execParameterOpDone w s) :=
  ⟨_, rfl, (Sound.refl _).finishPosted⟩

@[simp] theorem execParIndexWrite_sound (w : Fin 11) (v : Word) (s : State) : SoundNext s (execParIndexWrite w v s) :=
  ⟨_, rfl, .ite (Sound.refl _).finishPosted.onPort (Sound.refl _)⟩

@[simp] theorem execParDhiWrite_sound (w : Fin 11) (v : Word) (s : State) : SoundNext s (execParDhiWrite w v s) :=
  ⟨_, rfl, .ite (Sound.refl _).finishPosted.onPort (Sound.refl _)⟩

@[simp] theorem execParDloWrite_sound (w : Fin 11) (v : Word) (s : State) : SoundNext s (execParDloWrite w v s) :=
  ⟨_, rfl, .ite (Sound.refl _).finishPosted.onPort (Sound.refl _)⟩

theorem Sound.fetchCurrent (hs : Sound s₀ s) {w : Fin 11} : Sound s₀ (s.fetchCurrent w).2 := hs.fetch.completeOp.onPort

@[simp] theorem execParDloRead_sound (w : Fin 11) (s : State) : SoundNext s (execParDloRead w s) :=
  ⟨_, rfl, .ite (Sound.refl _).finishPosted.fetchCurrent.drive (.ite (Sound.refl _).drive (Sound.refl _))⟩

@[simp] theorem execParDhiRead_sound (w : Fin 11) (s : State) : SoundNext s (execParDhiRead w s) := by
  unfold execParDhiRead
  dsimp only
  refine ⟨_, rfl, ?_⟩
  split
  · split
    · exact (Sound.refl _).finishPosted.drive.onPort
    · exact (Sound.refl _).finishPosted.fetchCurrent.drive.onPort
  · exact .ite (Sound.refl _).drive (Sound.refl _)

theorem Sound.ownCommit (hs : Sound s₀ s) {w : Fin 11} {idx : Nat} {v : Par} : Sound s₀ (s.ownCommit w idx v) :=
  .ite hs hs.finishPosted.applyCommit.completeOp.onPort

theorem Sound.writeLock (hs : Sound s₀ s) {v : Word} : Sound s₀ (s.writeLock v) :=
  .ite hs (.ite hs.finishPosted.onBus hs.finishPosted.countAccess)

@[simp] theorem execLockWrite_sound (v : Word) (s : State) : SoundNext s (execLockWrite v s) :=
  ⟨_, rfl, (Sound.refl _).writeLock⟩

theorem Sound.writeReset (hs : Sound s₀ s) {vi : Fin 8} {v : Word} : Sound s₀ (s.writeReset vi v) :=
  .ite hs (.ite hs.finishPosted.countAccess (.ite hs.finishPosted.requestReset hs.finishPosted))

@[simp] theorem execVwReset_sound (vi : Fin 8) (v : Word) (s : State) : SoundNext s (execVwReset vi v s) :=
  ⟨_, rfl, (Sound.refl _).writeReset⟩

@[simp] theorem execTimeLoRead_sound (w : Fin 9) (s : State) : SoundNext s (execTimeLoRead w s) :=
  ⟨_, rfl, .ite (Sound.refl _).drive.onPort (.ite (Sound.refl _).drive (Sound.refl _))⟩

@[simp] theorem execTimeSet_sound (lo : Par) (s : State) :
    SoundNext s (execTimeSet lo s) := ⟨_, rfl, (Sound.refl _).ownCommit⟩

theorem Sound.writeSubmit (hs : Sound s₀ s) {vi : Fin 8} {v : Word} : Sound s₀ (s.writeSubmit vi v) :=
  .ite hs.finishPosted.submitJob.refreshEligible hs

@[simp] theorem execJobSubmit_sound (vi : Fin 8) (v : Word) (s : State) : SoundNext s (execJobSubmit vi v s) :=
  ⟨_, rfl, (Sound.refl _).writeSubmit⟩

theorem Sound.lockedWrite (hs : Sound s₀ s) {off : BitVec 6} {lock : Nat} {f : State → State} (hf : ∀ u, Sound s₀ u →
    Sound s₀ (f u)) :
    Sound s₀ (s.lockedWrite off lock f) := .ite hs (.ite hs.countAccess (hf _ hs))

theorem Sound.writeRole (hs : Sound s₀ s) {v : Word} : Sound s₀ (s.writeRole v) :=
  hs.lockedWrite fun _ hu => hu.moveRole

@[simp] theorem execLegalRoleWrite_sound (v : Word) (s : State) : SoundNext s (execLegalRoleWrite v s) :=
  ⟨_, rfl, (Sound.refl _).writeRole⟩

theorem Sound.writeParCtrl (hs : Sound s₀ s) {w : Fin 11} {v : Word} : Sound s₀ (s.writeParCtrl w v) := hs.onPort

theorem Sound.writeCommon (hs : Sound s₀ s) {w : Fin 9} {o : Nat} {v : Word} : Sound s₀ (s.writeCommon w o v) := by
  unfold State.writeCommon
  split
  · exact hs.onEvq
  · exact hs.onEvq
  · exact hs.onEvq
  · exact hs.onEvq
  · exact hs

theorem Sound.writeRoute (hs : Sound s₀ s) {k : Fin 4} {off : BitVec 6} {v : Word} : Sound s₀ (s.writeRoute k off v) :=
  hs.lockedWrite fun _ hu => hu.onBus

theorem Sound.writeHv (hs : Sound s₀ s) {off : BitVec 6} {v : Word} : Sound s₀ (s.writeHv off v) := by
  unfold State.writeHv
  split
  · exact hs.writeRole
  · exact hs.modeRequest
  · exact hs.writeLock
  · exact hs.lockedWrite (fun _ hu => hu.onBus)
  · exact hs.writeRoute
  · exact hs.writeRoute
  · exact hs.writeRoute
  · exact hs.writeRoute
  · exact hs.writeViEn
  · exact hs.writeViReset
  · exact hs.writeCommon

theorem Sound.writePort (hs : Sound s₀ s) {vi : Fin 8} {v : Word} : Sound s₀ (s.writePort vi v) :=
  .ite hs (.ite hs.acceptHalf hs.onData)

theorem Sound.writeVw (hs : Sound s₀ s) {vi : Fin 8} {o : Nat} {v : Word} : Sound s₀ (s.writeVw vi o v) := by
  unfold State.writeVw
  split
  · exact hs.writeSubmit
  · exact hs.writeCancel
  · exact hs.onVi
  · exact hs.writePort
  · exact hs.writeDataCtrl
  · exact hs.writeReset
  · exact .ite hs.onVi hs
  · exact hs.writeDataAddr
  · exact hs.writeDataAddr
  · exact hs.writeLegCmd
  · exact hs.onVi
  · exact hs.onVi
  · exact .ite hs.onVi hs
  · exact hs.writeDupHi
  · exact hs.serWrite
  · exact hs.serWrite
  · exact hs.serCtrl
  · exact hs.writeCommon

theorem Sound.writeMw (hs : Sound s₀ s) {o : Nat} {v : Word} : Sound s₀ (s.writeMw o v) := by
  unfold State.writeMw
  split
  · exact .ite hs.onMgmt hs
  · exact hs.writeMwCmd
  · exact hs.onMgmt
  · exact hs.onMgmt
  · exact hs.onMgmt
  · exact hs.onMgmt
  · exact hs.writeMwBuf
  · exact hs.onMgmt
  · exact hs

theorem Sound.writePar (hs : Sound s₀ s) {w : Fin 11} {o : Nat} {v : Word} : Sound s₀ (s.writePar w o v) := by
  unfold State.writePar
  dsimp only
  split
  · exact hs.finishPosted.onPort
  · exact hs.finishPosted.onPort
  · exact hs.finishPosted.onPort
  · exact hs.writeParCtrl

@[simp] theorem execRegisterWrite_sound (w : Fin 11) (off : BitVec 6) (v : Word) (s : State) :
    SoundNext s (execRegisterWrite w off v s) := by
  unfold execRegisterWrite
  dsimp only
  refine ⟨_, rfl, ?_⟩
  split
  · exact Sound.refl _
  · split
    · exact (Sound.refl _).countAccess
    · split
      · exact Sound.refl _
      · split
        · exact (Sound.refl _).writePar
        · split
          · exact (Sound.refl _).writeHv
          · split
            · exact .ite (Sound.refl _).writeVw (Sound.refl _)
            · exact .ite (Sound.refl _) (Sound.refl _).writeMw

@[simp] theorem execDiscard_sound (w : Fin 11) (v : Par) (s : State) : SoundNext s (execDiscard w v s) :=
  ⟨_, rfl, (Sound.refl _).ownCommit⟩

@[simp] theorem execArbApply_sound (w : Fin 11) (v : Par) (s : State) : SoundNext s (execArbApply w v s) :=
  ⟨_, rfl, (Sound.refl _).ownCommit⟩

@[simp] theorem execHeadCfgWrite_sound (w : Fin 11) (h : Fin 4) (v : Par) (s : State) :
    SoundNext s (execHeadCfgWrite w h v s) := ⟨_, rfl, (Sound.refl _).ownCommit⟩

@[simp] theorem execHeadEnable_sound (w : Fin 11) (h : Fin 4) (v : Par) (s : State) :
    SoundNext s (execHeadEnable w h v s) :=
  ⟨_, rfl, (Sound.refl _).ownCommit⟩

@[simp] theorem execHeadDisable_sound (w : Fin 11) (h : Fin 4) (v : Par) (s : State) :
    SoundNext s (execHeadDisable w h v s) :=
  ⟨_, rfl, (Sound.refl _).ownCommit⟩

@[simp] theorem execScan_sound (w : Fin 11) (h : Fin 4) (v : Par) (s : State) : SoundNext s (execScan w h v s) :=
  ⟨_, rfl, (Sound.refl _).ownCommit⟩

@[simp] theorem execScanAbort_sound (w : Fin 11) (h : Fin 4) (v : Par) (s : State) :
    SoundNext s (execScanAbort w h v s) :=
  ⟨_, rfl, (Sound.refl _).ownCommit⟩

@[simp] theorem execAxisEnable_sound (w : Fin 11) (a : Fin 4) (v : Par) (s : State) :
    SoundNext s (execAxisEnable w a v s) :=
  ⟨_, rfl, (Sound.refl _).ownCommit⟩

@[simp] theorem execAxisDisable_sound (w : Fin 11) (a : Fin 4) (v : Par) (s : State) :
    SoundNext s (execAxisDisable w a v s) :=
  ⟨_, rfl, (Sound.refl _).ownCommit⟩

@[simp] theorem execHalt_sound (w : Fin 11) (a : Fin 4) (v : Par) (s : State) : SoundNext s (execHalt w a v s) :=
  ⟨_, rfl, (Sound.refl _).ownCommit⟩

@[simp] theorem execClear_sound (w : Fin 11) (a : Fin 4) (v : Par) (s : State) : SoundNext s (execClear w a v s) :=
  ⟨_, rfl, (Sound.refl _).ownCommit⟩

@[simp] theorem execClearUncertain_sound (w : Fin 11) (a : Fin 4) (v : Par) (s : State) :
    SoundNext s (execClearUncertain w a v s) := ⟨_, rfl, (Sound.refl _).ownCommit⟩

@[simp] theorem execRevRef_sound (w : Fin 11) (a : Fin 4) (v : Par) (s : State) : SoundNext s (execRevRef w a v s) :=
  ⟨_, rfl, (Sound.refl _).ownCommit⟩

@[simp] theorem execServiceMove_sound (w : Fin 11) (a : Fin 4) (v : Par) (s : State) :
    SoundNext s (execServiceMove w a v s) :=
  ⟨_, rfl, (Sound.refl _).ownCommit⟩

@[simp] theorem execLearn_sound (w : Fin 11) (h : Fin 4) (v : Par) (s : State) : SoundNext s (execLearn w h v s) :=
  ⟨_, rfl, (Sound.refl _).ownCommit⟩

@[simp] theorem execDropCut_sound (w : Fin 11) (h : Fin 4) (v : Par) (s : State) : SoundNext s (execDropCut w h v s) :=
  ⟨_, rfl, (Sound.refl _).ownCommit⟩

@[simp] theorem execLampOn_sound (w : Fin 11) (v : Par) (s : State) : SoundNext s (execLampOn w v s) :=
  ⟨_, rfl, (Sound.refl _).ownCommit⟩

@[simp] theorem execLampOff_sound (w : Fin 11) (v : Par) (s : State) : SoundNext s (execLampOff w v s) :=
  ⟨_, rfl, (Sound.refl _).ownCommit⟩

@[simp] theorem execLampDuty_sound (w : Fin 11) (v : Par) (s : State) : SoundNext s (execLampDuty w v s) :=
  ⟨_, rfl, (Sound.refl _).ownCommit⟩

@[simp] theorem execLampClear_sound (w : Fin 11) (v : Par) (s : State) : SoundNext s (execLampClear w v s) :=
  ⟨_, rfl, (Sound.refl _).ownCommit⟩

@[simp] theorem execGo_sound (w : Fin 11) (x : Fin 2) (v : Par) (s : State) : SoundNext s (execGo w x v s) :=
  ⟨_, rfl, (Sound.refl _).ownCommit⟩

@[simp] theorem execAbort_sound (w : Fin 11) (x : Fin 2) (v : Par) (s : State) : SoundNext s (execAbort w x v s) :=
  ⟨_, rfl, (Sound.refl _).ownCommit⟩

@[simp] theorem execRaw_sound (w : Fin 11) (v : Par) (s : State) : SoundNext s (execRaw w v s) :=
  ⟨_, rfl, (Sound.refl _).ownCommit⟩

@[simp] theorem execSwitch_sound (w : Fin 11) (v : Par) (s : State) : SoundNext s (execSwitch w v s) :=
  ⟨_, rfl, (Sound.refl _).ownCommit⟩

@[simp] theorem execRawCfgWrite_sound (w : Fin 11) (v : Par) (s : State) : SoundNext s (execRawCfgWrite w v s) :=
  ⟨_, rfl, (Sound.refl _).ownCommit⟩

@[simp] theorem execOwnerChange_sound (w : Fin 11) (v : Par) (s : State) : SoundNext s (execOwnerChange w v s) :=
  ⟨_, rfl, (Sound.refl _).ownCommit⟩

@[simp] theorem execEvtTx_sound (w : Fin 11) (v : Par) (s : State) : SoundNext s (execEvtTx w v s) :=
  ⟨_, rfl, (Sound.refl _).ownCommit⟩

@[simp] theorem execRecover_sound (w : Fin 11) (v : Par) (s : State) : SoundNext s (execRecover w v s) :=
  ⟨_, rfl, (Sound.refl _).ownCommit⟩

/-! ### The power-down -/

theorem Sound.safePins (hs : Sound s₀ s) : Sound s₀ s.safePins := hs.onPaper.serSilence.onLink

theorem Sound.recordWake (hs : Sound s₀ s) : Sound s₀ s.recordWake := .ite hs.onPwr.logRecord hs

theorem Sound.dropHeld (hs : Sound s₀ s) : Sound s₀ s.dropHeld := hs.onBus.foldl fun _ _ hu => hu.endHeld

theorem Sound.enterHold (hs : Sound s₀ s) {cause detail : Byte} : Sound s₀ (s.enterHold cause detail) := by
  unfold State.enterHold
  dsimp only
  split
  · exact hs
  · split
    · exact hs
    · exact hs
    · exact hs
    · split
      · exact hs.recordWake.logRecord.onAo.onMgmt.setUpdate.dropHeld.safePins.changeMode.onMgmt
      · exact hs.recordWake.logRecord.onAo.dropHeld.safePins.changeMode.onMgmt
    · split
      · exact hs.recordWake.logRecord.onAo.onMgmt.setUpdate.dropHeld.safePins.changeMode.onMgmt
      · exact hs.recordWake.logRecord.onAo.dropHeld.safePins.changeMode.onMgmt
    · split
      · exact hs.recordWake.logRecord.onAo.onMgmt.setUpdate.dropHeld.safePins.changeMode.onMgmt
      · exact hs.recordWake.logRecord.onAo.dropHeld.safePins.changeMode.onMgmt
    · split
      · exact hs.recordWake.logRecord.onAo.onMgmt.setUpdate.dropHeld.safePins.changeMode.onMgmt
      · exact hs.recordWake.logRecord.onAo.dropHeld.safePins.changeMode.onMgmt
    · split
      · exact hs.recordWake.logRecord.onAo.onMgmt.setUpdate.dropHeld.safePins.changeMode.onMgmt
      · exact hs.recordWake.logRecord.onAo.dropHeld.safePins.changeMode.onMgmt

theorem Sound.powerGoodFailed (hs : Sound s₀ s) {core : Bool} : Sound s₀ (s.powerGoodFailed core) :=
  .ite hs.enterHold (.ite hs.onPwr hs.onPwr.onAo)

@[simp] theorem execPgWaitTimeout_sound (s : State) : SoundNext s (execPgWaitTimeout s) := by
  unfold execPgWaitTimeout
  refine ⟨_, rfl, ?_⟩
  split
  · split
    · exact (Sound.refl _).powerGoodFailed
    · exact (Sound.refl _).powerGoodFailed
    · exact (Sound.refl _).memoryFailed
    · exact Sound.refl _
  · exact Sound.refl _

@[simp] theorem execLockTimeout_sound (s : State) : SoundNext s (execLockTimeout s) :=
  ⟨_, rfl, .ite (Sound.refl _).changeMode.logRecord.serClock (Sound.refl _)⟩

theorem Sound.slotAChecked (hs : Sound s₀ s) : Sound s₀ s.slotAChecked :=
  .ite hs.raise0.onPwr (.ite hs.revertBoot.raise0 hs.raise0.bootSlot)

theorem Sound.slotBChecked (hs : Sound s₀ s) : Sound s₀ s.slotBChecked := .ite hs.bootSlot.raise0 hs.raise0.enterHold

@[simp] theorem execSlotCheckDone_sound (s : State) : SoundNext s (execSlotCheckDone s) := by
  unfold execSlotCheckDone
  refine ⟨_, rfl, ?_⟩
  split
  · split
    · exact (Sound.refl _).slotAChecked
    · exact (Sound.refl _).slotBChecked
    · exact Sound.refl _
  · exact Sound.refl _

@[simp] theorem execPwrFailNLow_sound (s : State) : SoundNext s (execPwrFailNLow s) := by
  unfold execPwrFailNLow
  dsimp only
  refine ⟨_, rfl, ?_⟩
  split
  · exact (Sound.refl _).onPwr
  · exact (Sound.refl _).onPwr.beginPd
  · exact (Sound.refl _).onPwr.beginPd
  · exact (Sound.refl _).onPwr.beginPd

@[simp] theorem execPgIoFall_sound (s : State) : SoundNext s (execPgIoFall s) := by
  unfold execPgIoFall
  dsimp only
  refine ⟨_, rfl, ?_⟩
  split
  · exact (Sound.refl _).onPwr
  · split
    · exact (Sound.refl _).onPwr.beginPd
    · exact (Sound.refl _).onPwr.beginPd
    · exact (Sound.refl _).onPwr.beginPd
    · exact (Sound.refl _).onPwr.beginPd
    · exact .ite (Sound.refl _).onPwr.beginPd (Sound.refl _).onPwr
    · exact (Sound.refl _).onPwr

theorem Sound.collapse (hs : Sound s₀ s) : Sound s₀ s.collapse := by
  unfold State.collapse
  dsimp only
  split
  · exact hs
  · exact .ite hs.deviceReset.onPwr.onAo hs.deviceReset.onPwr

@[simp] theorem execPgCoreFall_sound (s : State) : SoundNext s (execPgCoreFall s) := by
  unfold execPgCoreFall
  dsimp only
  refine ⟨_, rfl, ?_⟩
  split
  · exact (Sound.refl _).onPwr.onIsland
  · split
    · exact (Sound.refl _).onPwr.onIsland
    · exact (Sound.refl _).onPwr.onIsland
    · split
      · exact (Sound.refl _).onPwr.onIsland.onPwr.onPwr
      · exact (Sound.refl _).onPwr.onIsland.onPwr
    · exact .ite (Sound.refl _).onPwr.onIsland.beginPd.collapse (Sound.refl _).onPwr.onIsland
    · exact (Sound.refl _).onPwr.onIsland.beginPd.collapse

@[simp] theorem execPgMemFall_sound (s : State) : SoundNext s (execPgMemFall s) := by
  unfold execPgMemFall
  dsimp only
  refine ⟨_, rfl, ?_⟩
  split
  · exact (Sound.refl _).onPwr
  · split
    · exact (Sound.refl _).onPwr.changeMode.memoryLost
    · exact (Sound.refl _).onPwr.changeMode.memoryLost
    · exact (Sound.refl _).onPwr.changeMode.memoryLost
    · exact (Sound.refl _).onPwr.changeMode.memoryLost
    · exact (Sound.refl _).onPwr

theorem Sound.markStage (hs : Sound s₀ s) {d : PowerDown} {n : Nat} : Sound s₀ (s.markStage d n) := by
  unfold State.markStage
  dsimp only
  split
  · exact hs.onPwr.frame
  · exact hs.onPwr.frame

theorem Sound.stage (hs : Sound s₀ s) {n : Nat} {work : State → State} (hwork : ∀ u, Sound s₀ u → Sound s₀ (work u)) :
    Sound s₀ (s.stage n work) := by
  unfold State.stage
  split
  · exact hs
  · exact .ite (hwork _ hs.markStage) hs

theorem Sound.closeCauses (hs : Sound s₀ s) : Sound s₀ s.closeCauses := hs.onPwr

@[simp] theorem execStage1_sound (s : State) : SoundNext s (execStage1 s) :=
  ⟨_, rfl, ((Sound.refl _).stage (fun _ hu => hu.failSession)).closeCauses⟩

theorem Sound.stopHeads (hs : Sound s₀ s) {atOnce : Bool} : Sound s₀ (s.stopHeads atOnce) :=
  (hs.foldl (fun _ _ hu => hu.endStrobes)).onPaper

@[simp] theorem execStage2_sound (s : State) : SoundNext s (execStage2 s) :=
  ⟨_, rfl, (Sound.refl _).stage fun _ hu => hu.stopHeads⟩

theorem Sound.stopAxis (hs : Sound s₀ s) {a : Fin 4} : Sound s₀ (s.stopAxis a) := hs.axisOff

@[simp] theorem execStage3_sound (s : State) : SoundNext s (execStage3 s) :=
  ⟨_, rfl, (Sound.refl _).stage (fun _ hu => ((hu.foldl (fun _ _ hu1 => hu1.stopAxis)).foldl (fun _ _ hu1 =>
    hu1.lampOff)).serStop.onLink)⟩

theorem Sound.commitMany (hs : Sound s₀ s) {n : Nat} : Sound s₀ (s.commitMany n) := by
  induction n generalizing s with
  | zero => exact hs
  | succ n ih => exact ih hs.commitOldest

theorem Sound.commitCut (hs : Sound s₀ s) : Sound s₀ s.commitCut := by
  unfold State.commitCut
  have h := hs.draw.commitOldest (erase := false)
  exact .ite ⟨h.audit, h.queues, hs.ring, h.memories⟩ hs.draw

@[simp] theorem execStage4_sound (commits : Nat) (s : State) : SoundNext s (execStage4 commits s) :=
  ⟨_, rfl, (Sound.refl _).stage (fun _ hu => (Sound.ite hu.commitMany.commitCut hu).onAo)⟩

@[simp] theorem execStage5_sound (s : State) : SoundNext s (execStage5 s) :=
  ⟨_, rfl, (Sound.refl _).stage fun _ hu => hu.logRecord.onAo⟩

@[simp] theorem execStage6_sound (s : State) :
    SoundNext s (execStage6 s) := ⟨_, rfl, (Sound.refl _).stage fun _ hu => hu⟩

theorem Sound.enterRetain (hs : Sound s₀ s) {d : PowerDown} : Sound s₀ (s.enterRetain d) := by
  unfold State.enterRetain
  dsimp only
  split
  · split
    · split
      · split
        · exact hs.deviceReset.onPwr.onAo
        · split
          · exact hs.deviceReset.onPwr.onAo.beginWake
          · exact hs.deviceReset.onPwr.onAo
      · split
        · exact hs.deviceReset.onPwr.onAo
        · split
          · exact hs.deviceReset.onPwr.onAo.beginWake
          · exact hs.deviceReset.onPwr.onAo
    · split
      · split
        · exact hs.deviceReset.onPwr.onAo
        · split
          · exact hs.deviceReset.onPwr.onAo.beginWake
          · exact hs.deviceReset.onPwr.onAo
      · split
        · exact hs.deviceReset.onPwr.onAo
        · split
          · exact hs.deviceReset.onPwr.onAo.beginWake
          · exact hs.deviceReset.onPwr.onAo
  · split
    · split
      · split
        · exact hs.onAo.deviceReset.onPwr.onAo
        · split
          · exact hs.onAo.deviceReset.onPwr.onAo.beginWake
          · exact hs.onAo.deviceReset.onPwr.onAo
      · split
        · exact hs.onAo.deviceReset.onPwr.onAo
        · split
          · exact hs.onAo.deviceReset.onPwr.onAo.beginWake
          · exact hs.onAo.deviceReset.onPwr.onAo
    · split
      · split
        · exact hs.onAo.deviceReset.onPwr.onAo
        · split
          · exact hs.onAo.deviceReset.onPwr.onAo.beginWake
          · exact hs.onAo.deviceReset.onPwr.onAo
      · split
        · exact hs.onAo.deviceReset.onPwr.onAo
        · split
          · exact hs.onAo.deviceReset.onPwr.onAo.beginWake
          · exact hs.onAo.deviceReset.onPwr.onAo

theorem Sound.dropEnable (hs : Sound s₀ s) {k : Fin 4} : Sound s₀ (s.dropEnable k) := .ite hs.onPwr.onAo hs.onPwr

@[simp] theorem execPwrEnDrop_sound (s : State) : SoundNext s (execPwrEnDrop s) := by
  unfold execPwrEnDrop
  dsimp only
  refine ⟨_, rfl, ?_⟩
  split
  · exact Sound.refl _
  · split
    · exact Sound.refl _
    · split
      · exact .ite (Sound.refl _).dropEnable.enterRetain (Sound.refl _).dropEnable
      · exact .ite (Sound.refl _).enterRetain (Sound.refl _)

@[simp] theorem execRstNAssert_sound (s : State) : SoundNext s (execRstNAssert s) := by
  unfold execRstNAssert
  dsimp only
  refine ⟨_, rfl, ?_⟩
  split
  · exact (Sound.refl _).onPwr
  · split
    · exact Sound.refl _
    · exact (Sound.refl _).onPwr
    · exact (Sound.refl _).onPwr.deviceReset.onPwr.onAo

theorem Sound.wakeByReset (hs : Sound s₀ s) : Sound s₀ s.wakeByReset :=
  .ite hs.enterWake.onPwr (.ite hs.onAo hs.beginWake)

@[simp] theorem execRstNRelease_sound (s : State) : SoundNext s (execRstNRelease s) := by
  unfold execRstNRelease
  dsimp only
  refine ⟨_, rfl, ?_⟩
  split
  · exact Sound.refl _
  · split
    · exact (Sound.refl _).onPwr.onAo
    · split
      · exact (Sound.refl _).onPwr
      · exact (Sound.refl _).onPwr.wakeBy
      · exact (Sound.refl _).onPwr.wakeByReset

theorem Sound.holdExternal (hs : Sound s₀ s) {h : Fin 4} : Sound s₀ (s.holdExternal h) := by
  unfold State.holdExternal
  split
  · exact hs
  · exact .ite hs.endStrobes.startExternal hs

theorem Sound.clockStop (hs : Sound s₀ s) {a : Fin 4} : Sound s₀ (s.clockStop a) :=
  .ite (.ite hs.onAxis hs.onAxis.onAxis.setAxis) hs

theorem Sound.resumeStanding (hs : Sound s₀ s) {h : Fin 4} : Sound s₀ (s.resumeStanding h) := by
  unfold State.resumeStanding
  dsimp only
  split
  · exact hs
  · split
    · exact .ite hs hs.endExternal
    · exact hs

theorem Sound.referenceFailed (hs : Sound s₀ s) : Sound s₀ s.referenceFailed :=
  ((hs.foldl (fun _ _ hu => hu.holdExternal)).foldl (fun _ _ hu =>
    hu.clockStop)).onLink.linkFallback.changeMode.serClock.foldl fun _ _ hu => hu.resumeStanding

@[simp] theorem execClockMon_sound (stopped off : Bool) (count : Word) (s : State) :
    SoundNext s (execClockMon stopped off count s) :=
  ⟨_, rfl, .ite (Sound.refl _).onMgmt.raise0.referenceFailed (Sound.refl _)⟩

@[simp] theorem execMgWatchdog_sound (s : State) : SoundNext s (execMgWatchdog s) :=
  ⟨_, rfl, .ite (Sound.ite (Sound.refl _).revertBoot (Sound.refl _)).enterHold (Sound.refl _)⟩

@[simp] theorem execEccError_sound (correctable : Bool) (s : State) : SoundNext s (execEccError correctable s) :=
  ⟨_, rfl, .ite (Sound.refl _) (.ite (Sound.refl _).onMgmt (.ite (Sound.refl _).enterHold (Sound.refl _)))⟩

/-! ### Idle time -/

theorem Sound.mainMicro (hs : Sound s₀ s) : Sound s₀ s.mainMicro :=
  .ite hs.arbMicro.resendPrinted.refreshHeads.trackMargins.marlAccrue.refreshEligible hs

theorem Sound.idle (hs : Sound s₀ s) : Sound s₀ s.idle := by
  have h : Sound s₀ { s with now := s.now + 1, ao := s.ao.micro } := by
    refine hs.frame ?_
    unfold State.watched Ao.micro
    (repeat' split) <;> rfl
  exact h.convMicro.mainMicro

end

/-- Every command answers a next state, soundly. -/
theorem exec_sound (i : Instr) (s : State) : SoundNext s (exec i s) := by
  cases i
  all_goals simp only [exec]
  all_goals simp

/-- So does a step. -/
theorem step_sound {s t : State} (ht : step s = .next t) : Sound s t := by
  unfold step at ht
  split at ht
  · cases ht
    exact (Sound.refl s).idle
  next c rest _ =>
    obtain ⟨u, hu, hs⟩ := exec_sound c { s with pending := rest }
    rw [hu] at ht
    cases ht
    exact ⟨hs.audit, hs.queues, hs.ring, hs.memories⟩

end Sys2Proof.Machine
end

section
/-! PROOFS. The machine as a whole: statements O1, O3, O5 to O9. -/

set_option Elab.async false

namespace Sys2Proof

open Machine

namespace Machine

theorem State.pending_of_lasting {s t : State} (h : t.lasting = s.lasting) : t.pending = s.pending :=
  congrArg (fun x => x.1.2.2) h

/-- RB_COMMIT changes the rollback counter, and the commands that wait are as before. -/
theorem State.mbRollback_pending (s : State) (q : MbCommand) : (State.mbRollback q s).pending = s.pending := by
  unfold State.mbRollback
  split
  · exact State.pending_of_lasting (by simp)
  · split
    · exact State.pending_of_lasting (by simp)
    next i _ =>
      split
      · exact State.pending_of_lasting (by simp)
      · have hraised : (s.onMgmt fun m => { m with rollback := sat i.sv 64 }).pending = s.pending := rfl
        exact (State.pending_of_lasting (by simp)).trans hraised

theorem State.mbServe_rollback_pending (s : State) (line : Option MLine) (t : Byte → Bool) :
    (s.mbServe line t (State.mbOpen State.mbRollback)).pending = s.pending := by
  obtain hs | ⟨q, hs | hs⟩ := s.mbServe_cases line t (State.mbOpen State.mbRollback) <;> rw [hs]
  · unfold State.mbOpen
    split
    · exact State.pending_of_lasting (by simp)
    · exact s.mbRollback_pending q
  · exact State.pending_of_lasting (by simp)

/-- A command leaves the commands that wait as they are. -/
theorem exec_pending {i : Instr} {s t : State} (ht : exec i s = .next t) : t.pending = s.pending := by
  obtain ⟨line, rfl⟩ | hl := exec_lasting i s
  · cases ht
    exact s.mbServe_rollback_pending line _
  · rw [ht] at hl
    exact State.pending_of_lasting (Option.some.inj hl)

theorem reset_queuesBounded : QueuesBounded State.reset := by
  unfold QueuesBounded
  decide

theorem reset_ringBounded : RingBounded State.reset := by
  unfold RingBounded
  decide

theorem reset_memoriesWf : MemoriesWf State.reset := by
  unfold MemoriesWf
  decide

theorem reset_fusedAs : FusedAs .tl4816 {} 0 State.reset := by
  unfold FusedAs
  decide

end Machine

/-- Settles O1, by the form of the queue. -/
theorem stepServesTheFront : Obligations.StepServesTheFront := by
  unfold Obligations.StepServesTheFront
  intro i l s h
  unfold step
  rw [h]

/-- Settles O3: no arm of `exec` answers anything but a next state, and the commands that wait are among what lasts. -/
theorem everyCommandCompletes : Obligations.EveryCommandCompletes := by
  unfold Obligations.EveryCommandCompletes
  constructor
  · intro i s
    obtain ⟨t, ht, -⟩ := exec_sound i s
    exact ⟨t, ht⟩
  · intro i s t ht
    exact exec_pending ht

/-- Settles O5: the counter changes with a legal change alone, which counts it up to its largest value. -/
theorem auditNeverDecreases : Obligations.AuditNeverDecreases := by
  unfold Obligations.AuditNeverDecreases
  intro s t ht
  exact (step_sound ht).audit

/-- Settles O6: a queue grows by a push and the ring by a record, and neither beyond 64. -/
theorem queuesAndRingStayBounded : Obligations.QueuesAndRingStayBounded := by
  unfold Obligations.QueuesAndRingStayBounded
  exact ⟨fun s t hs ht => (step_sound ht).queues hs, fun s t hs ht => (step_sound ht).ring hs⟩

/-- Settles O7: the memories change by writes and by data dropped, which leave the canonical form. -/
theorem memoriesStayCanonical : Obligations.MemoriesStayCanonical := by
  unfold Obligations.MemoriesStayCanonical
  intro s t hs ht
  exact (step_sound ht).memories hs

/-- Settles O8, by evaluation of the reset state. -/
theorem resetIsWellKept : Obligations.ResetIsWellKept := by
  unfold Obligations.ResetIsWellKept
  exact ⟨⟨reset_fusedAs, Nat.zero_le _, rfl, reset_queuesBounded, reset_ringBounded, reset_memoriesWf⟩,
    reset_queuesBounded, reset_ringBounded, reset_memoriesWf⟩

/-- Settles O9, by evaluation of the reset state. -/
theorem resetState : Obligations.ResetState := by
  unfold Obligations.ResetState
  decide

end Sys2Proof
end

section
/-! PROOFS. The always-on island (02_power_clocks_modes R61, R97, R105, R114 to R121): statement O10. -/

namespace Sys2Proof

open Machine

namespace Machine

/-! ### A wake begins -/

/-- What a wake by source `n` leaves (R64, R116): phase A has begun, and AO, flash and the island keep what they
hold. -/
structure WokenBy (n : BitVec 4) (s t : State) : Prop where
  mode : t.pwr.mode = .wake
  source : t.pwr.wakeSource = n
  en : t.pwr.en = s.pwr.en ||| 1
  count : t.ao.wakeCount = s.ao.wakeCount + 1
  time : t.ao.time = s.ao.time
  ring : t.ao.ring = s.ao.ring.filter fun r => !s.mgmt.holdsSeq r
  island : t.island = s.island.disown s.pwr.pgCore
  log : t.mgmt.log = s.mgmt.log
  rollback : t.mgmt.rollback = s.mgmt.rollback

theorem State.beginWake_wokenBy (s : State) (n : BitVec 4) : WokenBy n s (s.beginWake n) :=
  ⟨rfl, rfl, rfl, rfl, rfl, rfl, rfl, rfl, rfl⟩

section
variable {s : State} (hmode : s.pwr.mode = .retain) (hpd : s.pwr.pd = none) (hguard : s.ao.guard = false)
include hmode hpd hguard

/-- In RETAIN, with nothing that holds it back, a wake source acts at once (R114). -/
theorem State.wakeBy_of_retain (n : BitVec 4) : s.wakeBy n = s.beginWake n := by
  simp [State.wakeBy, hmode, hpd, hguard]

theorem wakeNFall_of_enabled (hshut : s.ao.thermalShut = false) (hen : s.ao.wakeEn[(0 : Fin 4)] = true) :
    exec .wakeNFall s = .next (s.beginWake 2) := by
  have h0 : s.enabledSource 0 = true := by simp [State.enabledSource, hshut, hen]
  simp [exec, execWakeNFall, hshut, h0, State.wakeBy_of_retain hmode hpd hguard]

theorem wakeNFall_of_cooled (hshut : s.ao.thermalShut = true) (hcool : s.ao.thermalCooled = true) :
    exec .wakeNFall s = .next (s.beginWake 2) := by
  simp [exec, execWakeNFall, hshut, hcool, State.wakeBy_of_retain hmode hpd hguard]

theorem alarm_of_reached (hshut : s.ao.thermalShut = false) (hen : s.ao.wakeEn[(1 : Fin 4)] = true)
    (hset : s.ao.alarm ≠ 0) (hafter : s.ao.retainTime.toNat < s.ao.alarm.toNat)
    (hreached : s.ao.alarm.toNat ≤ s.ao.time.toNat) : exec .alarm s = .next (s.beginWake 3) := by
  have h1 : s.enabledSource 1 = true := by simp [State.enabledSource, hshut, hen]
  refine congrArg Host.Outcome.next ((if_pos ⟨hmode, h1, hset, hafter, hreached⟩).trans ?_)
  exact State.wakeBy_of_retain hmode hpd hguard 3

theorem linkWake_of_enabled (hshut : s.ao.thermalShut = false) (hen : s.ao.wakeEn[(2 : Fin 4)] = true) :
    exec .linkWake s = .next (s.beginWake 4) := by
  have h2 : s.enabledSource 2 = true := by simp [State.enabledSource, hshut, hen]
  exact congrArg Host.Outcome.next ((if_pos h2).trans (State.wakeBy_of_retain hmode hpd hguard 4))

theorem powerReturn_of_enabled (hshut : s.ao.thermalShut = false) (hen : s.ao.wakeEn[(3 : Fin 4)] = true)
    (hstage : s.ao.pdStage ≠ 0) (hreason : s.ao.pdReason = .powerFail) :
    exec .powerReturn s = .next ((s.onPwr fun p => { p with pwrFailN := true }).beginWake 5) := by
  have h3 : (s.onPwr fun p => { p with pwrFailN := true }).enabledSource 3 = true := by
    simp [State.enabledSource, hshut, hen]
  have hfailed : (s.onPwr fun p => { p with pwrFailN := true }).powerFailed = true := by
    simp only [State.powerFailed, State.onPwr_pwr, State.onPwr_ao, hpd, hreason]
    exact Bool.and_eq_true_iff.mpr ⟨decide_eq_true hstage, rfl⟩
  refine congrArg Host.Outcome.next ((if_pos ⟨hfailed, h3⟩).trans ?_)
  exact State.wakeBy_of_retain (s := s.onPwr fun p => { p with pwrFailN := true }) hmode hpd hguard 5

theorem thermalRestart_of_cooled (hshut : s.ao.thermalShut = true) (hcool : s.ao.thermalCooled = true)
    (hset : s.ao.thermalRestart ≠ 0) : exec .thermalRestart s = .next (s.beginWake 6) :=
  congrArg Host.Outcome.next ((if_pos ⟨hshut, hcool, hset⟩).trans (State.wakeBy_of_retain hmode hpd hguard 6))

theorem rstNRelease_of_held (hheld : s.pwr.rstHeld = true) :
    exec .rstNRelease s = .next ((s.onPwr fun p => { p with rstHeld := false }).beginWake 1) := by
  have hwake := State.wakeBy_of_retain (s := s.onPwr fun p => { p with rstHeld := false }) hmode hpd hguard 1
  simpa [exec, execRstNRelease, hheld, hpd, hmode] using hwake

end

/-! ### What AO does by itself -/

/-- AO with its power-on values, and nothing else powered (R61). -/
def State.aoPowered (s : State) (b : Bool) : State :=
  { s with ao := { wakeCount := 0 }, pwr := { s.pwr with pwrFailN := b, en := 0 } }

theorem aoPowerOn_of_good {s : State} (hoff : s.pwr.mode = .off) :
    exec (.aoPowerOn true) s = .next ((s.aoPowered true).beginWake 0) := congrArg Host.Outcome.next (if_pos hoff)

theorem aoPowerOn_of_failing {s : State} (hoff : s.pwr.mode = .off) :
    exec (.aoPowerOn false) s = .next ((s.aoPowered false).onPwr fun p => { p with mode := .retain }) :=
  congrArg Host.Outcome.next (if_pos hoff)

/-- The end of the guard time lets a latched source act (R97). -/
theorem wakeGuardEnd_of_latched {s : State} {n : BitVec 4} (hn : s.ao.wakeLatched = some n)
    (hmode : s.pwr.mode = .retain) (hpd : s.pwr.pd = none) :
    exec .wakeGuardEnd s = .next ((s.onAo fun a => { a with guard := false }).beginWake n) := by
  simp [exec, execWakeGuardEnd, hn, hmode, hpd]

theorem satInc_of_ne {w : Nat} {x : BitVec w} (h : x ≠ BitVec.allOnes w) : satInc x = x + 1 := if_neg h

end Machine

/-- Settles O10: each source that may act begins the wake at once, so that `beginWake_wokenBy` says what is left. -/
theorem alwaysOnIsland : Obligations.AlwaysOnIsland := by
  unfold Obligations.AlwaysOnIsland
  refine ⟨fun s hmode hpd hguard => ?_, fun s hoff => ?_, fun s hoff => ?_, fun s => ?_, fun s hpow => ?_,
    fun s hshut => ?_, fun s hpow hgl => ?_, fun s => ?_, fun s n hn hmode hpd => ?_⟩
  · intro woken
    have hwoken {i : Instr} {n : BitVec 4} {t : State} (ht : exec i s = .next t) (hw : WokenBy n s t) : woken i n :=
      ⟨t, ht, hw.mode, hw.source, hw.en, hw.count, hw.time, hw.ring, hw.island, hw.log, hw.rollback⟩
    refine ⟨?_, ?_, ?_, ?_, ?_, ?_, ?_⟩
    · intro hshut hen
      exact hwoken (wakeNFall_of_enabled hmode hpd hguard hshut hen) (s.beginWake_wokenBy 2)
    · intro hshut hen hset hafter hreached
      exact hwoken (alarm_of_reached hmode hpd hguard hshut hen hset hafter hreached) (s.beginWake_wokenBy 3)
    · intro hshut hen
      exact hwoken (linkWake_of_enabled hmode hpd hguard hshut hen) (s.beginWake_wokenBy 4)
    · intro hshut hen hstage hreason
      obtain ⟨hm, hs, he, hc, ht, hr, hi, hl, hb⟩ :=
        (s.onPwr fun p => { p with pwrFailN := true }).beginWake_wokenBy 5
      exact hwoken (powerReturn_of_enabled hmode hpd hguard hshut hen hstage hreason)
        ⟨hm, hs, he, hc, ht, hr, hi, hl, hb⟩
    · intro hshut hcool
      exact hwoken (wakeNFall_of_cooled hmode hpd hguard hshut hcool) (s.beginWake_wokenBy 2)
    · intro hshut hcool hset
      exact hwoken (thermalRestart_of_cooled hmode hpd hguard hshut hcool hset) (s.beginWake_wokenBy 6)
    · intro hheld
      obtain ⟨hm, hs, he, hc, ht, hr, hi, hl, hb⟩ :=
        (s.onPwr fun p => { p with rstHeld := false }).beginWake_wokenBy 1
      exact hwoken (rstNRelease_of_held hmode hpd hguard hheld) ⟨hm, hs, he, hc, ht, hr, hi, hl, hb⟩
  · have h := (s.aoPowered true).beginWake_wokenBy 0
    have hen : (0 : BitVec 4) ||| 1 = 1 := by decide
    exact ⟨_, aoPowerOn_of_good hoff, h.mode, h.source, h.en.trans hen, h.time, h.count, h.island⟩
  · exact ⟨_, aoPowerOn_of_failing hoff, rfl, rfl, rfl, rfl, rfl⟩
  · exact ⟨_, rfl, rfl, rfl, rfl, rfl, rfl, rfl, rfl⟩
  · exact congrArg Host.Outcome.next (if_pos hpow)
  · exact congrArg Host.Outcome.next (if_pos hshut)
  · have hinc := satInc_of_ne (x := s.ao.glitches) hgl
    refine ⟨_, congrArg Host.Outcome.next (if_pos ⟨rfl, hpow⟩), hinc, rfl⟩
  · rfl
  · exact ⟨_, wakeGuardEnd_of_latched hn hmode hpd, rfl, rfl, rfl⟩

end Sys2Proof
end

section
/-! PROOFS. The wake sequence (02_power_clocks_modes R64 to R69, R98 to R104, R122 to R131): statement O11. -/

namespace Sys2Proof

open Machine

/-! ### What a report leaves -/

/-- AO keeps all but its ring. -/
theorem Reports.ao_eq {s t : State} (h : Reports s t) : t.ao = { s.ao with ring := t.ao.ring } := congrArg State.ao h

/-- The management core keeps all but the count of lost records. -/
theorem Reports.mgmt_eq {s t : State} (h : Reports s t) : t.mgmt = { s.mgmt with logLost := t.mgmt.logLost } :=
  congrArg State.mgmt h

theorem Reports.inTrial {s t : State} (h : Reports s t) : t.inTrial = s.inTrial := by
  rw [h]
  rfl

namespace Machine

/-! ### The length of the ring (18_management R1007) -/

@[simp] theorem State.raiseVi_ao (s : State) (v : Fin 8) (code aux : Byte) (payload : Word) :
    (s.raiseVi v code aux payload).ao = s.ao := by
  unfold State.raiseVi
  split <;> rfl

/-- What each turn of a fold keeps of a state, the fold keeps. -/
theorem foldl_keeps {α β : Type} (F : State → β) {g : State → α → State} (hg : ∀ u y, F (g u y) = F u) (l : List α)
    (s : State) : F (l.foldl g s) = F s := by
  induction l generalizing s with
  | nil => rfl
  | cons x t ih => rw [List.foldl_cons, ih, hg]

@[simp] theorem State.raiseVis_ao (s : State) (p : State → Fin 8 → Bool) (code aux : Byte) (payload : Word) :
    (s.raiseVis p code aux payload).ao = s.ao := by
  refine foldl_keeps State.ao (fun u v => ?_) _ s
  split
  · exact u.raiseVi_ao v code aux payload
  · rfl

theorem State.logRecord_ring_length (s : State) (code aux : Byte) (payload : Word) (w4 w5 : Par) :
    (s.logRecord code aux payload w4 w5).ao.ring.length ≤ s.ao.ring.length + 1 := by
  unfold State.logRecord
  split
  · simp
  · split
    · simp
    · simp only [State.onMgmt_ao, State.onAo_ao]
      split
      · simp
      · exact Nat.le_succ _

theorem State.raise0_ring_length (s : State) (code aux : Byte) (payload : Word) :
    (s.raise0 code aux payload).ao.ring.length ≤ s.ao.ring.length + 1 := by
  unfold State.raise0
  split
  · exact Nat.le_succ _
  · dsimp only
    split
    · exact State.logRecord_ring_length _ _ _ _ _ _
    · exact Nat.le_succ _

theorem State.changeMode_ring_length (s : State) (f : Pwr → Pwr) :
    (s.changeMode f).ao.ring.length ≤ s.ao.ring.length + 1 := by
  unfold State.changeMode
  dsimp only
  split
  · exact Nat.le_succ _
  · rw [State.raiseBoth, State.raiseVis_ao]
    exact State.raise0_ring_length _ _ _ _

/-- With room, a record is the newest one (R999, R1000). -/
theorem State.logRecord_ring_of_room {s : State} (h : s.ao.ring.length < 63) (code aux : Byte) (payload : Word)
    (w4 w5 : Par) : (s.logRecord code aux payload w4 w5).ao.ring
      = s.ao.ring ++ [s.newRecord code aux payload w4 w5] := by
  simp [State.logRecord, h]

/-! ### A change of losses in a wake, and the serial ports' clock -/

/-- In WAKE a change of losses does not change the mode (R88). -/
theorem Pwr.settle_of_wake {p : Pwr} (h : p.mode = .wake) : p.settle = p := by simp [Pwr.settle, h]

/-- RUN settles to REDUCED while a loss is declared (R88, R89). -/
theorem Pwr.settle_of_run {p : Pwr} (h : p.mode = .run) :
    p.settle = { p with mode := if p.anyLoss then .reduced else .run } := by
  cases p
  cases h
  simp only [Pwr.settle]
  split <;> rfl

/-- But for what is reported, only the serial ports change. -/
def SerAlone (s t : State) : Prop := Reports { s with ser := t.ser } t

theorem SerAlone.trans {s t u : State} (h : SerAlone s t) (k : SerAlone t u) : SerAlone s u := by
  unfold SerAlone Reports at *
  rw [h] at k
  exact k

theorem SerAlone.of_reports {s t : State} (h : Reports s t) : SerAlone s t := by
  unfold SerAlone
  rw [h.ser]
  exact h

theorem State.onSer_serAlone (s : State) (p : Fin 3) (f : Serial → Serial) : SerAlone s (s.onSer p f) := Reports.refl _

theorem State.onSerial_serAlone (s : State) (f : SerialBlock → SerialBlock) : SerAlone s (s.onSerial f) :=
  Reports.refl _

theorem State.reportRate_serAlone (s : State) (p : Fin 3) : SerAlone s (s.reportRate p) := by
  unfold State.reportRate
  dsimp only
  split
  · exact s.onSer_serAlone p _
  · exact (s.onSer_serAlone p _).trans
      (.of_reports ((State.raise0_reports _ _ _ _).trans (State.raiseSer_reports _ _ _ _ _)))

theorem State.reportRates_serAlone (s : State) : SerAlone s s.reportRates := by
  unfold State.reportRates
  induction List.finRange 3 generalizing s with
  | nil => exact Reports.refl s
  | cons p l ih => exact (s.reportRate_serAlone p).trans (ih _)

/-- The serial ports take up the clock they are given, and report their rates. -/
theorem State.serClock_serAlone (s : State) : SerAlone s s.serClock := by
  unfold State.serClock
  split
  · exact s.reportRates_serAlone
  · exact (s.onSerial_serAlone _).trans (State.reportRates_serAlone _)

/-- External memory given up (R131). -/
theorem State.memoryFailed_of_wake {s : State} (hmode : s.pwr.mode = .wake) :
    s.memoryFailed.pwr.phase = .ready ∧ s.memoryFailed.pwr.memAbsent = true
      ∧ s.memoryFailed.pwr.en = s.pwr.en &&& 0xB := by
  unfold State.memoryFailed
  rw [State.onSilt_pwr, State.changeMode_pwr, Pwr.settle_of_wake (by exact hmode)]
  exact ⟨rfl, rfl, rfl⟩

/-! ### The wake goes on -/

/-- What a change makes of the power state is all that counts. -/
theorem State.onPwr_congr (s : State) {f g : Pwr → Pwr} (h : f s.pwr = g s.pwr) : s.onPwr f = s.onPwr g := by
  simp only [State.onPwr, h]

section
variable {s : State} (hmode : s.pwr.mode = .wake) (hpd : s.pwr.pd = none)
include hmode hpd

theorem Pwr.waking_of_wake : s.pwr.waking = true := by simp [Pwr.waking, hmode, hpd]

theorem pgIoRise_of_waitIo (hphase : s.pwr.phase = .waitIo) : exec .pgIoRise s = .next (s.onPwr fun p => { p with
    pgIo := true, phase := .waitCore, coreAttempts := 1
    en := p.en ||| 2 ||| (if s.part = .tl4816n then 0 else 8) }) := by
  have hw := Pwr.waking_of_wake hmode hpd
  have hen : (if s.islandPresent then 8 else 0 : BitVec 4) = if s.part = .tl4816n then 0 else 8 := by
    unfold State.islandPresent
    cases s.part <;> rfl
  rw [← hen]
  exact congrArg Host.Outcome.next (if_pos ⟨hw, hphase⟩)

theorem pgRetry_of_dropIo (hphase : s.pwr.phase = .dropIo) : exec .pgRetry s = .next ((s.onPwr fun p => { p with
    en := p.en ||| 1, phase := .waitIo, ioAttempts := p.ioAttempts + 1 }).onAo fun a => { a with guard := false }) := by
  refine congrArg Host.Outcome.next ((if_pos (Pwr.waking_of_wake hmode hpd)).trans ?_)
  rw [hphase]

theorem pgRetry_of_dropCore (hphase : s.pwr.phase = .dropCore) : exec .pgRetry s = .next (s.onPwr fun p => { p with
    en := p.en ||| 2, phase := .waitCore, coreAttempts := p.coreAttempts + 1 }) := by
  refine congrArg Host.Outcome.next ((if_pos (Pwr.waking_of_wake hmode hpd)).trans ?_)
  rw [hphase]

theorem pgCoreRise_of_waitCore (hphase : s.pwr.phase = .waitCore) :
    exec .pgCoreRise s = .next (s.onPwr fun p => { p with pgCore := true, phase := .coreUp }) :=
  congrArg Host.Outcome.next (s.onPwr_congr (if_pos ⟨Pwr.waking_of_wake hmode hpd, hphase⟩))

theorem mgResetRelease_of_coreUp (hphase : s.pwr.phase = .coreUp) (hrst : s.pwr.rstHeld = false) :
    exec .mgResetRelease s = .next (s.onPwr fun p => { p with phase := .waitLock, mgRunning := true }) :=
  congrArg Host.Outcome.next (s.onPwr_congr (if_pos ⟨Pwr.waking_of_wake hmode hpd, hphase, by rw [hrst]; rfl⟩))

theorem pllLock_of_waitLock (hphase : s.pwr.phase = .waitLock) : exec .pllLock s = .next ((s.onPwr fun p => { p with
    phase := .clocked, mainLock := true }).onMgmt fun m => { m with refRunning := true, refInTol := s.ao.xtal }) :=
  congrArg Host.Outcome.next (if_pos ⟨Pwr.waking_of_wake hmode hpd, hphase⟩)

theorem lockTimeout_of_waitLock (hphase : s.pwr.phase = .waitLock) :
    Answers .lockTimeout s fun t => t.pwr.phase = .clocked ∧ t.pwr.clkFallback = true
      ∧ t.pwr.mode = .wake ∧ t.paper = s.paper ∧ t.island = s.island := by
  refine ⟨_, congrArg Host.Outcome.next (if_pos ⟨Pwr.waking_of_wake hmode hpd, hphase⟩), ?_⟩
  have h (f : Pwr → Pwr) (x : Word) (hf : (f s.pwr).mode = .wake) :
      SerAlone { s with pwr := f s.pwr } ((s.changeMode f).logRecord 0xCF 0 x).serClock := by
    have hmodeChange := s.changeMode_reports f
    rw [Pwr.settle_of_wake hf] at hmodeChange
    exact (SerAlone.of_reports (hmodeChange.trans (State.logRecord_reports _ _ _ _ _ _))).trans
      (State.serClock_serAlone _)
  dsimp only
  rw [(h _ _ hmode).pwr, (h _ _ hmode).paper, (h _ _ hmode).island]
  exact ⟨rfl, rfl, hmode, rfl, rfl⟩

theorem islandsResetRelease_of_clocked (hphase : s.pwr.phase = .clocked) (nid : Fin 16) :
    exec (.islandsResetRelease nid) s = .next ((s.onPwr fun p => { p with
      phase := .checkA }).onLink fun l => { l with nid := nid }) :=
  congrArg Host.Outcome.next (if_pos ⟨Pwr.waking_of_wake hmode hpd, hphase⟩)

theorem pgMemRise_of_waitMem (hphase : s.pwr.phase = .waitMem) :
    exec .pgMemRise s = .next (s.onPwr fun p => { p with pgMem := true, phase := .training }) :=
  congrArg Host.Outcome.next (s.onPwr_congr (if_pos ⟨Pwr.waking_of_wake hmode hpd, hphase⟩))

theorem memoryTrainingDone_of_training (hphase : s.pwr.phase = .training) (ok : Bool) :
    exec (.memoryTrainingDone ok) s = .next (if ok then (s.onPwr fun p => { p with phase := .ready }).onSilt fun x =>
      { x with external := true, memStat := 3, extChunks := memChunks s.pwr.memCfg } else s.memoryFailed) :=
  congrArg Host.Outcome.next (if_pos ⟨Pwr.waking_of_wake hmode hpd, hphase⟩)

theorem pgWaitTimeout_of_waitIo (hphase : s.pwr.phase = .waitIo) :
    exec .pgWaitTimeout s = .next (s.powerGoodFailed false) := by
  refine congrArg Host.Outcome.next ((if_pos (Pwr.waking_of_wake hmode hpd)).trans ?_)
  rw [hphase]

theorem pgWaitTimeout_of_waitCore (hphase : s.pwr.phase = .waitCore) :
    exec .pgWaitTimeout s = .next (s.powerGoodFailed true) := by
  refine congrArg Host.Outcome.next ((if_pos (Pwr.waking_of_wake hmode hpd)).trans ?_)
  rw [hphase]

theorem pgWaitTimeout_of_waitMem (hphase : s.pwr.phase = .waitMem) :
    exec .pgWaitTimeout s = .next s.memoryFailed := by
  refine congrArg Host.Outcome.next ((if_pos (Pwr.waking_of_wake hmode hpd)).trans ?_)
  rw [hphase]

end

/-- A wake in which a power-down has begun goes no further (notes/assumptions 151). -/
theorem Pwr.not_waking_of_pd {p : Pwr} (h : p.pd ≠ none) : p.waking = false := by
  obtain ⟨d, hd⟩ := Option.ne_none_iff_exists'.mp h
  simp [Pwr.waking, hd]

/-! ### HOLD (R94, R95, R122) -/

theorem State.endHeld_pwr (s : State) (v : Fin 8) : (s.endHeld v).pwr = s.pwr := by
  unfold State.endHeld
  split <;> rfl

theorem State.endHeld_ao (s : State) (v : Fin 8) : (s.endHeld v).ao = s.ao := by
  unfold State.endHeld
  split <;> rfl

@[simp] theorem State.dropHeld_pwr (s : State) : s.dropHeld.pwr = s.pwr := foldl_keeps State.pwr State.endHeld_pwr _ _

@[simp] theorem State.dropHeld_ao (s : State) : s.dropHeld.ao = s.ao := foldl_keeps State.ao State.endHeld_ao _ _

theorem State.setUpdate_reports (s : State) (st : UpdateState) :
    Reports { s with mgmt := { s.mgmt with update := st } } (s.setUpdate st) := by
  unfold State.setUpdate
  split
  next h => rw [← h]; exact Reports.refl s
  · exact State.raise0_reports _ _ _ _

theorem State.recordWake_of_wake {s : State} (hmode : s.pwr.mode = .wake) :
    Reports { s with pwr := { s.pwr with wakeCause := s.pwr.causeWord } } s.recordWake := by
  unfold State.recordWake
  rw [if_pos hmode]
  exact State.logRecord_reports _ _ _ _ _ _

@[simp] theorem State.safePins_pwr (s : State) : s.safePins.pwr = s.pwr := rfl

@[simp] theorem State.safePins_ao (s : State) : s.safePins.ao = s.ao := rfl

theorem State.changeMode_holdCause (s : State) (f : Pwr → Pwr) : (s.changeMode f).ao.holdCause = s.ao.holdCause := by
  rw [(s.changeMode_reports f).ao_eq]

/-- HOLD is a settled mode (R88, R89). -/
theorem Pwr.settle_of_hold {p : Pwr} (h : p.mode = .hold) : p.settle = p := by simp [Pwr.settle, h]

/-- HOLD entered in a wake: the enables stay, and AO holds the cause. -/
theorem State.enterHold_of_wake {s : State} (hmode : s.pwr.mode = .wake) (hpd : s.pwr.pd = none) (cause detail : Byte) :
    (s.enterHold cause detail).pwr.mode = .hold ∧ (s.enterHold cause detail).pwr.en = s.pwr.en
      ∧ (s.enterHold cause detail).ao.holdCause
        = BitVec.setWidth 16 cause ||| ((BitVec.setWidth 16 detail : Word) <<< 8) := by
  have hen : (s.recordWake.logRecord 0xCD cause (BitVec.setWidth 16 detail)).pwr.en = s.pwr.en := by
    rw [((State.recordWake_of_wake hmode).trans
      (State.logRecord_reports s.recordWake 0xCD cause (BitVec.setWidth 16 detail) 0 0)).pwr]
  unfold State.enterHold
  rw [hpd, hmode]
  dsimp only [Option.isSome_none]
  rw [if_neg (by decide), State.onMgmt_pwr, State.onMgmt_ao, State.changeMode_pwr, State.changeMode_holdCause,
    Pwr.settle_of_hold (by rfl), State.safePins_pwr, State.safePins_ao, State.dropHeld_pwr, State.dropHeld_ao]
  split
  · rw [(State.setUpdate_reports _ _).pwr, (State.setUpdate_reports _ _).ao_eq]
    exact ⟨rfl, hen, rfl⟩
  · exact ⟨rfl, hen, rfl⟩

/-- A supply that never came up (R122, R123). -/
theorem State.powerGoodFailed_hold {s : State} (hmode : s.pwr.mode = .wake) (hpd : s.pwr.pd = none) {core : Bool}
    (hn : 3 ≤ if core then s.pwr.coreAttempts else s.pwr.ioAttempts) :
    (s.powerGoodFailed core).pwr.mode = .hold
      ∧ (s.powerGoodFailed core).ao.holdCause = (if core then 0x0302 else 0x0301)
      ∧ (s.powerGoodFailed core).pwr.en = s.pwr.en ∧ (s.powerGoodFailed core).faultLow = true := by
  have hgood : s.powerGoodFailed core = s.enterHold (if core then holdPgCore else holdPgIo) 3 := if_pos hn
  obtain ⟨hm, hen, hcause⟩ := State.enterHold_of_wake hmode hpd (if core then holdPgCore else holdPgIo) 3
  rw [hgood]
  refine ⟨hm, hcause.trans ?_, hen, decide_eq_true hm⟩
  cases core <;> rfl

theorem State.powerGoodFailed_io_drop {s : State} (hn : s.pwr.ioAttempts < 3) : s.powerGoodFailed false =
    (s.onPwr fun p => { p with en := p.en &&& 0xE, phase := .dropIo }).onAo fun a => { a with guard := true } :=
  if_neg (Nat.not_le.mpr hn)

theorem State.powerGoodFailed_core_drop {s : State} (hn : s.pwr.coreAttempts < 3) : s.powerGoodFailed true =
    s.onPwr fun p => { p with en := p.en &&& 0xD, phase := .dropCore } :=
  if_neg (Nat.not_le.mpr hn)

/-! ### A slot that passes its checks, and the end of the wake -/

theorem State.bootSlot_of_fresh {s : State} (htrial : s.inTrial = false) (hmem : s.mgmt.memCfgFlash.getLsbD 0 = false)
    (a : Fin 2) : s.bootSlot a false = (s.onMgmt fun m => { m with running := some a }).onPwr fun p => { p with
      slotB := false, memCfg := s.mgmt.memCfgFlash, phase := .ready } := by
  have hslot (s' : State) : (s'.onPwr fun p => if s.mgmt.memCfgFlash.getLsbD 0 then
      { p with slotB := false, memCfg := s.mgmt.memCfgFlash, en := p.en ||| 4, phase := .waitMem }
      else { p with slotB := false, memCfg := s.mgmt.memCfgFlash, phase := .ready }) = s'.onPwr fun p => { p with
      slotB := false, memCfg := s.mgmt.memCfgFlash, phase := .ready } :=
    s'.onPwr_congr (if_neg (by rw [hmem]; decide))
  unfold State.bootSlot
  simp only [htrial, hslot]
  rfl

theorem slotCheckDone_of_checkA {s : State} (hw : s.pwr.waking = true) (hmg : s.pwr.mgRunning = true)
    (hphase : s.pwr.phase = .checkA) : exec .slotCheckDone s = .next s.slotAChecked := by
  refine congrArg Host.Outcome.next ((if_pos ⟨hw, hmg⟩).trans ?_)
  rw [hphase]

theorem State.slotAChecked_of_good {s : State} (htrial : s.inTrial = false) (hgood : s.slotCheck s.preferredArea = 0)
    (hmem : s.mgmt.memCfgFlash.getLsbD 0 = false) : s.slotAChecked.pwr.phase = .ready
      ∧ s.slotAChecked.mgmt.running = some s.preferredArea ∧ s.slotAChecked.pwr.slotB = false := by
  have hr := State.raise0_reports s 0xC2 (imageCheckAux s.preferredArea false false)
    (BitVec.setWidth 16 (s.slotCheck s.preferredArea))
  have h : s.slotAChecked = (s.raise0 0xC2 (imageCheckAux s.preferredArea false false)
      (BitVec.setWidth 16 (s.slotCheck s.preferredArea))).bootSlot s.preferredArea false := by
    simp [State.slotAChecked, htrial, hgood]
  rw [h, State.bootSlot_of_fresh (hr.inTrial.trans htrial) (by rw [hr.mgmt_eq]; exact hmem)]
  exact ⟨rfl, rfl, rfl⟩

theorem State.slotAChecked_of_bad {s : State} (hbad : s.slotCheck s.preferredArea ≠ 0) :
    s.slotAChecked.pwr.phase = .checkB ∧ s.slotAChecked.mgmt.running = s.mgmt.running := by
  unfold State.slotAChecked
  dsimp only
  rw [if_pos hbad]
  exact ⟨rfl, by rw [State.onPwr_mgmt, (State.raise0_reports _ _ _ _).mgmt_eq]⟩

/-- The WAKE record closes the wake (R104): it is the newest one where the ring has room. -/
theorem State.logWake_of_reports {u v : State} (h : Reports u v) (c : Byte) (x : Word) :
    Reports u (v.logRecord 0xCC c x) := h.trans (State.logRecord_reports _ _ _ _ _ _)

theorem State.logWake_newest {v : State} (h : v.ao.ring.length < 63) (c : Byte) (x : Word) :
    ((v.logRecord 0xCC c x).ao.ring.getLast?.map fun r => r.code) = some 0xCC := by
  rw [State.logRecord_ring_of_room h, List.getLast?_concat]
  rfl

theorem bootComplete_of_ready {s : State} (hw : s.pwr.waking = true) (hphase : s.pwr.phase = .ready) :
    Answers .bootComplete s fun t => t.pwr.mode = (if s.pwr.anyLoss then .reduced else .run)
      ∧ t.pwr.wakeCause = s.pwr.causeWord ∧ t.paper = s.paper ∧ t.island = s.island ∧ t.vi = s.vi
      ∧ (s.ao.ring.length < 61 → (t.ao.ring.getLast?.map fun r => r.code) = some 0xCC) := by
  refine ⟨_, congrArg Host.Outcome.next (if_pos ⟨hw, hphase⟩), ?_⟩
  have hr := s.changeMode_reports fun p => { p with mode := .run, phase := .none, wakeCause := s.pwr.causeWord }
  have hlen := s.changeMode_ring_length fun p => { p with mode := .run, phase := .none, wakeCause := s.pwr.causeWord }
  rw [Pwr.settle_of_run (by rfl)] at hr
  dsimp only
  generalize s.changeMode _ = u at hr hlen ⊢
  split
  · have hr2 := u.raise0_reports 0x0B 0 (BitVec.setWidth 16 u.ao.lastPd)
    have hlen2 := u.raise0_ring_length 0x0B 0 (BitVec.setWidth 16 u.ao.lastPd)
    generalize u.raise0 0x0B 0 (BitVec.setWidth 16 u.ao.lastPd) = v at hr2 hlen2 ⊢
    simp only [State.onAo_ao]
    have hlog := State.logRecord_reports (v.onAo fun a => { a with pdReported := true }) 0xCC
      (BitVec.setWidth 8 s.pwr.causeWord) (BitVec.setWidth 16 v.ao.lastPd) 0 0
    rw [hlog.pwr, hlog.paper, hlog.island, hlog.vi]
    have h := hr.trans hr2
    refine ⟨congrArg Pwr.mode h.pwr, congrArg Pwr.wakeCause h.pwr, h.paper, h.island, h.vi, fun hroom => ?_⟩
    exact State.logWake_newest (by simp only [State.onAo_ao]; omega) _ _
  · have h := hr.trans
      (u.logRecord_reports 0xCC (BitVec.setWidth 8 s.pwr.causeWord) (BitVec.setWidth 16 u.ao.lastPd) 0 0)
    refine ⟨congrArg Pwr.mode h.pwr, congrArg Pwr.wakeCause h.pwr, h.paper, h.island, h.vi, fun hroom => ?_⟩
    exact State.logWake_newest (by omega) _ _

theorem exec_of_not_waking {s : State} (h : s.pwr.waking = false) :
    ∀ i ∈ [Instr.pgRetry, .slotCheckDone, .bootComplete, .lockTimeout, .pgWaitTimeout, .pllLock],
      exec i s = .next s := by
  have hn : ¬ s.pwr.waking = true := by simp [h]
  simp only [List.forall_mem_cons]
  exact ⟨congrArg _ (if_neg hn), congrArg _ (if_neg fun k => hn k.1), congrArg _ (if_neg fun k => hn k.1),
    congrArg _ (if_neg fun k => hn k.1), congrArg _ (if_neg hn), congrArg _ (if_neg fun k => hn k.1), nofun⟩

end Machine

/-- Settles O11: one lemma for each phase of the wake. -/
theorem wakeSequence : Obligations.WakeSequence := by
  unfold Obligations.WakeSequence
  refine ⟨fun s hm hp => ⟨pgIoRise_of_waitIo hm hp, pgRetry_of_dropIo hm hp, pgRetry_of_dropCore hm hp,
    pgCoreRise_of_waitCore hm hp, mgResetRelease_of_coreUp hm hp, pllLock_of_waitLock hm hp,
    lockTimeout_of_waitLock hm hp, islandsResetRelease_of_clocked hm hp, pgMemRise_of_waitMem hm hp,
    fun h => memoryTrainingDone_of_training hm hp h true,
    fun h => ⟨_, memoryTrainingDone_of_training hm hp h false, State.memoryFailed_of_wake hm⟩,
    fun h hn => (pgWaitTimeout_of_waitIo hm hp h).trans (congrArg _ (State.powerGoodFailed_io_drop hn)),
    fun h hn => (pgWaitTimeout_of_waitCore hm hp h).trans (congrArg _ (State.powerGoodFailed_core_drop hn)),
    fun h hn => ⟨_, pgWaitTimeout_of_waitIo hm hp h, State.powerGoodFailed_hold hm hp (core := false) hn⟩,
    fun h hn => ⟨_, pgWaitTimeout_of_waitCore hm hp h, State.powerGoodFailed_hold hm hp (core := true) hn⟩,
    fun h => ⟨_, pgWaitTimeout_of_waitMem hm hp h, State.memoryFailed_of_wake hm⟩⟩, ?_, ?_, ?_, ?_⟩
  · exact fun s _ hp => exec_of_not_waking (Pwr.not_waking_of_pd hp)
  · exact fun s hm hp hmg hphase htrial hgood hmem => ⟨_,
      slotCheckDone_of_checkA (Pwr.waking_of_wake hm hp) hmg hphase, State.slotAChecked_of_good htrial hgood hmem⟩
  · exact fun s hm hp hmg hphase hbad => ⟨_,
      slotCheckDone_of_checkA (Pwr.waking_of_wake hm hp) hmg hphase, State.slotAChecked_of_bad hbad⟩
  · exact fun s hm hp hphase => bootComplete_of_ready (Pwr.waking_of_wake hm hp) hphase

end Sys2Proof
end

section
/-! PROOFS. RST_N and the mode requests (02_power_clocks_modes R61, R82, R84, R138 to R142): statement O13. -/

namespace Sys2Proof

open Machine

namespace Machine

theorem Mode.running_iff {m : Mode} : m.running = true ↔ m = .run ∨ m = .reduced := by cases m <;> simp [Mode.running]

/-! ### Requests, by the state of the device -/

theorem State.modeRequest_of_served {s : State} (h : s.modeReqServed = true) (v : Word) : s.modeRequest v =
    match v.toNat % 8 with
    | 1 => s.requestRetain v
    | 3 => s.requestRun v
    | 5 => s.requestService v
    | _ => s.refuseMode v := if_neg (by simp [h])

theorem State.modeRequest_refused {s : State} (h : s.modeReqServed = true) {v : Word} (h1 : v.toNat % 8 ≠ 1)
    (h3 : v.toNat % 8 ≠ 3) (h5 : v.toNat % 8 ≠ 5) : s.modeRequest v = s.refuseMode v := by
  rw [State.modeRequest_of_served h]
  split
  · exact absurd ‹_› h1
  · exact absurd ‹_› h3
  · exact absurd ‹_› h5
  · rfl

theorem State.requestService_of_pd {s : State} (hpd : s.pwr.pd ≠ none) (hmode : s.pwr.mode.running = true) (v : Word) :
    s.requestService v = s.refuseMode v := by
  have hs : s.pwr.mode ≠ .service := by rintro h; rw [h] at hmode; cases hmode
  exact (if_pos (Option.isSome_iff_ne_none.mpr hpd)).trans (if_neg hs)

theorem State.requestRun_of_pd {s : State} (hpd : s.pwr.pd ≠ none) (hmode : s.pwr.mode.running = true) (v : Word) :
    s.requestRun v = s.acceptMode :=
  (if_pos (Option.isSome_iff_ne_none.mpr hpd)).trans (if_pos hmode)

section
variable {s : State} (hpd : s.pwr.pd = none)
include hpd

theorem State.requestService_begins (hmode : s.pwr.mode.running = true) (htarget : s.pwr.target = none) (v : Word) :
    s.requestService v = s.onPwr fun p => { p with target := some .service, drain := true, reqRefused := false } := by
  unfold State.requestService
  rw [hpd, htarget]
  obtain h | h := Mode.running_iff.mp hmode <;> rw [h] <;> rfl

theorem State.requestRun_ends_drain (hmode : s.pwr.mode.running = true) (htarget : s.pwr.target = some .service)
    (v : Word) :
    s.requestRun v = s.onPwr fun p => { p with target := none, drain := false, reqRefused := false } := by
  unfold State.requestRun
  rw [hpd, htarget]
  obtain h | h := Mode.running_iff.mp hmode <;> rw [h] <;> rfl

theorem State.requestRun_of_service (hmode : s.pwr.mode = .service) (htarget : s.pwr.target = none) (v : Word) :
    s.requestRun v = s.endRaw.changeMode fun p => { p with mode := .run, reqRefused := false } := by
  unfold State.requestRun
  rw [hpd, htarget, hmode]
  rfl

theorem State.requestRetain_of_service (hmode : s.pwr.mode = .service) (htarget : s.pwr.target = none) (v : Word) :
    s.requestRetain v = (s.endRaw.onPwr fun p => { p with reqRefused := false }).beginPd .retainRequest false := by
  unfold State.requestRetain
  rw [hpd, htarget, hmode]

end

theorem State.gritBlockEvent_reports (s : State) (cause : Nat) : Reports s (s.gritBlockEvent cause) :=
  State.raiseBoth_reports _ _ _ _ _

/-- RAW ends: the power state stays as it is. -/
theorem State.endRaw_spec (s : State) : s.endRaw.pwr = s.pwr ∧ s.endRaw.grit.raw = false := by
  unfold State.endRaw
  split
  next h => exact ⟨rfl, by simpa using h⟩
  · dsimp only
    split
    · exact ⟨rfl, rfl⟩
    · rw [(State.gritBlockEvent_reports _ _).pwr, (State.gritBlockEvent_reports _ _).grit]
      exact ⟨rfl, rfl⟩

theorem runRequest_of_service {s : State} (hserved : s.modeReqServed = true) (hpd : s.pwr.pd = none)
    (hmode : s.pwr.mode = .service) (htarget : s.pwr.target = none) : Answers .runRequest s fun t =>
      t.pwr.mode = (if s.pwr.anyLoss then .reduced else .run) ∧ t.pwr.reqRefused = false ∧ t.grit.raw = false := by
  obtain ⟨hpwr, hraw⟩ := s.endRaw_spec
  refine ⟨_, congrArg Host.Outcome.next ((State.modeRequest_of_served hserved 3).trans
    (State.requestRun_of_service hpd hmode htarget 3)), ?_⟩
  dsimp only
  rw [State.changeMode_pwr, (State.changeMode_reports _ _).grit, Pwr.settle_of_run (by rfl), hpwr]
  exact ⟨rfl, rfl, hraw⟩

theorem retainRequest_of_service {s : State} (hserved : s.modeReqServed = true) (hpd : s.pwr.pd = none)
    (hmode : s.pwr.mode = .service) (htarget : s.pwr.target = none) : Answers .retainRequest s fun t =>
      t.pwr.target = some .retain
        ∧ t.pwr.pd = some { reason := .retainRequest, stage := 0, collapsed := false, stage6Only := false } := by
  refine ⟨_, congrArg Host.Outcome.next ((State.modeRequest_of_served hserved 1).trans
    (State.requestRetain_of_service hpd hmode htarget 1)), ?_⟩
  simp [State.beginPd, s.endRaw_spec.1, hpd, hmode]

theorem serviceEntry_of_drained {s : State} (hpd : s.pwr.pd = none) (hmode : s.pwr.mode.running = true)
    (htarget : s.pwr.target = some .service) (hjobs : s.jobsRunning = false) : Answers .serviceEntry s fun t =>
      Reports (s.onPwr fun p => { p with mode := .service, target := none, drain := false }) t := by
  refine ⟨_, congrArg Host.Outcome.next (if_pos ⟨htarget, hmode, by simp [hjobs], hpd⟩), ?_⟩
  exact s.changeMode_reports fun p => { p with mode := .service, target := none, drain := false }

theorem rstNAssert_of_running {s : State} (hmode : s.pwr.mode.running = true) (hpd : s.pwr.pd = none) :
    exec .rstNAssert s = .next (((s.onPwr fun p => { p with rstHeld := true }).deviceReset.onPwr fun p => { p with
      phase := .none }).onAo fun a => { a with wakeLatched := none }) := by
  refine congrArg Host.Outcome.next ((if_neg (by simp [hpd])).trans ?_)
  obtain h | h := Mode.running_iff.mp hmode <;> rw [h]

end Machine

/-- Settles O13: each request by the branch that serves it, RST_N by what the device reset leaves of the power state.
-/
theorem resetAndModeRequests : Obligations.ResetAndModeRequests := by
  unfold Obligations.ResetAndModeRequests
  refine ⟨fun s hmode hpd => ⟨_, rstNAssert_of_running hmode hpd, rfl, rfl, rfl, rfl, rfl, rfl, rfl, rfl, rfl⟩,
    fun s hserved hpd hmode => ⟨?_, ?_⟩, fun s hserved hpd => ⟨?_, ?_, runRequest_of_service hserved hpd,
    retainRequest_of_service hserved hpd, ?_, serviceEntry_of_drained hpd, ?_⟩⟩
  · exact congrArg Host.Outcome.next ((State.modeRequest_of_served hserved 5).trans
      (State.requestService_of_pd hpd hmode 5))
  · exact congrArg Host.Outcome.next ((State.modeRequest_of_served hserved 3).trans
      (State.requestRun_of_pd hpd hmode 3))
  · exact fun hmode htarget => congrArg Host.Outcome.next ((State.modeRequest_of_served hserved 5).trans
      (State.requestService_begins hpd hmode htarget 5))
  · exact fun hmode htarget => congrArg Host.Outcome.next ((State.modeRequest_of_served hserved 3).trans
      (State.requestRun_ends_drain hpd hmode htarget 3))
  · exact fun v h1 h3 h5 => congrArg Host.Outcome.next (State.modeRequest_refused hserved h1 h3 h5)
  · exact fun hpend hflash => congrArg Host.Outcome.next (if_pos ⟨hpend, hflash⟩)

end Sys2Proof
end

section
/-! PROOFS. The data port and the read streams (03_host_bus R186 to R196, R1109, R1111): statements O20 and O21. -/

namespace Sys2Proof

open Machine

namespace Machine

/-! ### The data port -/

theorem State.onData_onData (s : State) (v : Fin 8) (f g : DataPort → DataPort) :
    (s.onData v f).onData v g = s.onData v fun d => g (f d) := by simp [State.onData, State.onVi]

@[simp] theorem State.data_onData (s : State) (v : Fin 8) (f : DataPort → DataPort) :
    (s.onData v f).vi[v].data = f s.vi[v].data := by simp

/-- Where the next halfword of a write stream goes does not depend on what is held. -/
theorem State.writeAt_onData {s : State} {v : Fin 8} {f : DataPort → DataPort}
    (hstart : (f s.vi[v].data).start = s.vi[v].data.start) (haddr : (f s.vi[v].data).addr = s.vi[v].data.addr) :
    (s.onData v f).writeAt v = s.writeAt v := by
  unfold State.writeAt
  simp only [State.data_onData, hstart, haddr]
  rfl

/-- What does not read the data port of a VI keeps its value. -/
theorem State.onData_vi_keeps {β : Type} {F : Vi → β} (s : State) (v : Fin 8) (f : DataPort → DataPort)
    (hF : ∀ x d, F { x with data := d } = F x) (u : Fin 8) : F (s.onData v f).vi[u] = F s.vi[u] := by
  by_cases h : v = u
  · subst h
    rw [State.onData_vi, vmod_self, hF]
  · rw [State.onData_vi, vmod_other _ _ _ _ h]

theorem State.writeLimit_onData (s : State) (v : Fin 8) (f : DataPort → DataPort) (w : Fin 8) :
    (s.onData v f).writeLimit w = s.writeLimit w := by
  have hstate (u : Fin 8) := s.onData_vi_keeps v f (F := Vi.state) (fun _ _ => rfl) u
  have hcontract (u : Fin 8) := s.onData_vi_keeps v f (F := Vi.contract) (fun _ _ => rfl) u
  simp only [State.writeLimit, State.isGuestVi, State.guestVi, hstate, hcontract]

theorem State.acceptHalf_of_below {s : State} {v : Fin 8} (h : s.writeAt v < s.writeLimit v) (x : Word) :
    s.acceptHalf v x = (s.onData v fun d => { d with fifo := d.fifo ++ [x], addr := d.addr + 2 }).drain v :=
  if_neg (Nat.not_le.mpr h)

theorem State.popHalf_of_cons {s : State} {v : Fin 8} {x : Word} {l : List Word} (h : s.vi[v].data.fifo = x :: l) :
    s.popHalf v = (s.onData v fun d => { d with fifo := l, addr := d.addr + 2, heldRead := false }).drive x := by
  unfold State.popHalf
  rw [h]

theorem State.dataLost_reports (s : State) (v : Fin 8) (aux : Byte) : Reports s (s.dataLost v aux) := by
  unfold State.dataLost
  split
  · exact State.raiseVi_reports _ _ _ _ _
  · exact Reports.refl s

section
variable {s : State} {v : Fin 8} (hserved : s.winServes v = true)
include hserved

theorem dataPortWrite_of_writing (hen : s.vi[v].data.en = true) (hdir : s.vi[v].data.dir = false) (x : Word) :
    exec (.dataPortWrite v x) s = .next (if s.vi[v].data.fifo.length < 256 then s.acceptHalf v x
      else s.onData v fun d => { d with heldWrite := some x }) :=
  congrArg Host.Outcome.next (if_neg (by simp [hserved, hen, hdir, -Fin.getElem_fin]))

theorem dataPortRead_of_reading (hdir : s.vi[v].data.dir = true) : exec (.dataPortRead v) s = .next (
    if s.vi[v].data.en ∧ s.vi[v].data.fifo.isEmpty then s.onData v fun d => { d with heldRead := true }
    else if !s.vi[v].data.closing.isEmpty then s.drive 0
    else s.popHalf v) :=
  congrArg Host.Outcome.next ((if_neg (by simp [hserved])).trans (if_neg (by simp [hdir, -Fin.getElem_fin])))

theorem dataPortRead_of_cons {x : Word} {l : List Word} (hdir : s.vi[v].data.dir = true)
    (hfifo : s.vi[v].data.fifo = x :: l) (hclosing : s.vi[v].data.closing = []) : exec (.dataPortRead v) s
      = .next ((s.onData v fun d => { d with fifo := l, addr := d.addr + 2, heldRead := false }).drive x) := by
  rw [dataPortRead_of_reading hserved hdir, if_neg (by simp [hfifo, -Fin.getElem_fin]),
    if_neg (by simp [hclosing, -Fin.getElem_fin]), State.popHalf_of_cons hfifo]

theorem dataPortRead_of_nil (hen : s.vi[v].data.en = true) (hdir : s.vi[v].data.dir = true)
    (hfifo : s.vi[v].data.fifo = []) :
    exec (.dataPortRead v) s = .next (s.onData v fun d => { d with heldRead := true }) := by
  rw [dataPortRead_of_reading hserved hdir, if_pos ⟨hen, by simp [hfifo, -Fin.getElem_fin]⟩]

end

theorem dataPortRead_of_unserved {s : State} {v : Fin 8} (h : s.winServes v = false) (hmg : s.pwr.mgRunning = true) :
    exec (.dataPortRead v) s = .next (s.drive 0) :=
  congrArg Host.Outcome.next ((if_pos (by simp [h])).trans (if_pos hmg))

theorem fifoPlaceFree_of_none {s : State} {v : Fin 8} (h : (s.drain v).vi[v].data.heldWrite = none) :
    exec (.fifoPlaceFree v) s = .next (s.drain v) := by
  refine congrArg Host.Outcome.next ?_
  rw [h]

theorem fifoPlaceFree_of_held {s : State} {v : Fin 8} {x : Word} (h : (s.drain v).vi[v].data.heldWrite = some x)
    (hroom : (s.drain v).vi[v].data.fifo.length < 256) (hbelow : (s.drain v).writeAt v < (s.drain v).writeLimit v) :
    exec (.fifoPlaceFree v) s = .next (((s.drain v).onData v fun d => { d with
      heldWrite := none, fifo := d.fifo ++ [x], addr := d.addr + 2 }).drain v) := by
  refine congrArg Host.Outcome.next ?_
  rw [h]
  have hat : ((s.drain v).onData v fun d => { d with heldWrite := none }).writeAt v = (s.drain v).writeAt v :=
    State.writeAt_onData rfl rfl
  dsimp only
  rw [if_pos hroom, State.acceptHalf_of_below (by rwa [hat, State.writeLimit_onData]), State.onData_onData]

theorem dataPortTimeout_of_heldWrite {s : State} {v : Fin 8} (h : s.vi[v].data.heldWrite ≠ none) :
    Answers (.dataPortTimeout v) s fun t =>
      Reports (s.onData v fun d => { d with heldWrite := none, lost := true }) t :=
  ⟨_, congrArg Host.Outcome.next (if_pos (Option.isSome_iff_ne_none.mpr h)), State.dataLost_reports _ _ _⟩

theorem dataPortTimeout_of_heldRead {s : State} {v : Fin 8} (hw : s.vi[v].data.heldWrite = none)
    (hr : s.vi[v].data.heldRead = true) : Answers (.dataPortTimeout v) s fun t =>
      Reports ((s.onData v fun d => { d with heldRead := false, underrun := true }).drive 0) t :=
  ⟨_, congrArg Host.Outcome.next ((if_neg (by simp [hw, -Fin.getElem_fin])).trans (if_pos hr)),
    State.dataLost_reports _ _ _⟩

end Machine

/-- Settles O20: an access is put behind the FIFO, held or given up by the branch that the FIFO's fill takes. -/
theorem dataPortAccesses : Obligations.DataPortAccesses := by
  unfold Obligations.DataPortAccesses
  refine fun s v => ⟨?_, ?_, dataPortRead_of_unserved, fun x l hserved => dataPortRead_of_cons hserved,
    dataPortRead_of_nil, fifoPlaceFree_of_none, fun x => fifoPlaceFree_of_held, dataPortTimeout_of_heldWrite,
    dataPortTimeout_of_heldRead⟩
  · intro x hserved hen hdir hroom hbelow
    rw [dataPortWrite_of_writing hserved hen hdir, if_pos hroom, State.acceptHalf_of_below hbelow]
  · intro x hserved hen hdir hfull
    rw [dataPortWrite_of_writing hserved hen hdir, if_neg (Nat.not_lt.mpr hfull)]

namespace Machine

/-! ### Read streams -/

section
variable {s : State} {v : Fin 8} (hen : s.vi[v].data.en = true) (hdir : s.vi[v].data.dir = true)
  (hroom : s.vi[v].data.fifo.length < 256) (hfetch : s.vi[v].data.fetch < 0x4000000)
include hen hdir hroom hfetch

theorem readStreamFill_of_pinned (hpin : s.vi[v].data.pinned = some (s.vi[v].data.fetch / 4096)) :
    exec (.readStreamFill v) s = .next (s.fetchHalves v) :=
  congrArg Host.Outcome.next <| (if_neg (by simp [hen, hdir, hroom, -Fin.getElem_fin])).trans <|
    (if_neg (by omega)).trans (if_pos hpin)

theorem readStreamFill_of_absent (hpin : s.vi[v].data.pinned = none)
    (hframe : s.frameOfPage v (s.vi[v].data.fetch / 4096) = none)
    (hlost : s.bandLost v (s.vi[v].data.fetch / 4096 / 4) = false)
    (hband : s.band v (s.vi[v].data.fetch / 4096 / 4) ≠ none) (hfaults : s.silt.faults = []) :
    exec (.readStreamFill v) s = .next (s.raiseFault v (s.vi[v].data.fetch / 4096) .read) := by
  refine congrArg Host.Outcome.next ?_
  rw [if_neg (by simp [hen, hdir, hroom, -Fin.getElem_fin]), if_neg (by omega),
    if_neg (by simp [hpin, -Fin.getElem_fin]), if_neg (by simp [hframe, -Fin.getElem_fin]),
    if_neg (by simp [hlost, -Fin.getElem_fin]), if_neg (by simpa [-Fin.getElem_fin] using hband),
    if_neg (by simp [State.faultWaits, hfaults])]

end

/-- Halfword `k` from the fetch address of a read stream, its bytes in the stream's order (R191, R1111). -/
def State.halfAt (s : State) (v : Fin 8) (k : Nat) : Word :=
  let a := (s.rasterByte v streamPin (s.vi[v].data.fetch + 2 * k)).toNat
  let b := (s.rasterByte v streamPin (s.vi[v].data.fetch + 2 * k + 1)).toNat
  BitVec.ofNat 16 (if s.vi[v].data.swapNow then 256 * b + a else 256 * a + b)

theorem State.halfAt_toNat (s : State) (v : Fin 8) (k : Nat) : (s.halfAt v k).toNat =
    let a := (s.rasterByte v streamPin (s.vi[v].data.fetch + 2 * k)).toNat
    let b := (s.rasterByte v streamPin (s.vi[v].data.fetch + 2 * k + 1)).toNat
    if s.vi[v].data.swapNow then 256 * b + a else 256 * a + b := by
  have ha := (s.rasterByte v streamPin (s.vi[v].data.fetch + 2 * k)).isLt
  have hb := (s.rasterByte v streamPin (s.vi[v].data.fetch + 2 * k + 1)).isLt
  unfold State.halfAt
  dsimp only
  rw [BitVec.toNat_ofNat, Nat.mod_eq_of_lt]
  split <;> omega

/-- A fill that stays within its page and finds no read waiting takes what the FIFO has room for. -/
theorem State.fetchHalves_within {s : State} {v : Fin 8} {n : Nat} (hn : n = 256 - s.vi[v].data.fifo.length)
    (hpos : 0 < n) (hpage : 2 * n < 4096 - s.vi[v].data.fetch % 4096) (hheld : s.vi[v].data.heldRead = false) :
    s.fetchHalves v = s.onData v fun d => { d with
      fifo := d.fifo ++ (List.range n).map (s.halfAt v), fetch := d.fetch + 2 * n } := by
  have hmin : min (256 - s.vi[v].data.fifo.length) ((4096 - s.vi[v].data.fetch % 4096) / 2) = n := by omega
  have hmod : ¬ (s.vi[v].data.fetch + 2 * n) % 4096 = 0 := by omega
  unfold State.fetchHalves
  dsimp only
  rw [hmin, if_neg hmod, if_neg (by simp [hheld, -Fin.getElem_fin])]
  rfl

theorem readStreamFill_within {s : State} {v : Fin 8} {n : Nat} (hn : n = 256 - s.vi[v].data.fifo.length)
    (hroom : s.vi[v].data.fifo.length < 256) (hpage : 2 * n < 4096 - s.vi[v].data.fetch % 4096)
    (hheld : s.vi[v].data.heldRead = false) (t : State) (ht : t = s.fetchHalves v) :
    t.vi[v].data.fetch = s.vi[v].data.fetch + 2 * n ∧ t.vi[v].data.fifo.length = 256
      ∧ (∀ k < n, (t.vi[v].data.fifo[s.vi[v].data.fifo.length + k]?).map BitVec.toNat = some (s.halfAt v k).toNat)
      ∧ t = s.onData v fun _ => t.vi[v].data := by
  have h := State.fetchHalves_within hn (by omega) hpage hheld
  rw [← ht] at h
  subst h
  simp only [State.data_onData]
  refine ⟨trivial, ?_, fun k hk => ?_, by rw [State.onData, State.onData, State.onVi, State.onVi, vmod, vmod]⟩
  · simp only [List.length_append, List.length_map, List.length_range]
    omega
  · rw [List.getElem?_append_right (Nat.le_add_right _ _), Nat.add_sub_cancel_left]
    simp [hk]

end Machine

/-- Settles O21: a fill reads the pinned page pair by pair; a page without a frame raises its fault. -/
theorem readStreamsFill : Obligations.ReadStreamsFill := by
  unfold Obligations.ReadStreamsFill
  intro s v d p n hen hdir hroom hfetch
  refine ⟨fun hpin hheld hpage => ⟨_, readStreamFill_of_pinned hen hdir hroom hfetch hpin, ?_⟩,
    fun hpin hframe hlost hband hfaults => ?_⟩
  · obtain ⟨h1, h2, h3, h4⟩ := readStreamFill_within rfl hroom hpage hheld _ rfl
    exact ⟨h1, h2, fun k hk => (h3 k hk).trans (congrArg some (s.halfAt_toNat v k)), h4⟩
  · rw [readStreamFill_of_absent hen hdir hroom hfetch hpin hframe hlost hband hfaults]
    simp [State.raiseFault, State.onSilt, hfaults, p, d]

end Sys2Proof
end

section
/-! PROOFS. Descriptors and their handles (05_loam R290 to R342): statement O26. -/

namespace Sys2Proof

open Machine

namespace Machine

theorem vmod_id {α : Type} {n : Nat} (v : Vector α n) (i : Fin n) {f : α → α} (h : f v[i] = v[i]) : vmod v i f = v := by
  rw [vmod, h]
  exact Vector.set_getElem_self i.isLt

/-- What a change of element `i` keeps of element `i`, it keeps of every element. -/
theorem vmod_keeps {α β : Type} {n : Nat} (F : α → β) (v : Vector α n) (i : Fin n) {f : α → α} (h : F (f v[i]) = F v[i])
    (j : Fin n) : F (vmod v i f)[j] = F v[j] := by
  by_cases e : i = j
  · subst e
    rw [vmod_self, h]
  · rw [vmod_other _ _ _ _ e]

theorem State.onVi_onVi (s : State) (v : Fin 8) (f g : Vi → Vi) :
    (s.onVi v f).onVi v g = s.onVi v fun x => g (f x) := by simp [State.onVi]

theorem State.jobs_onJob_self (s : State) (v : Fin 8) (i : Handle) (f : Job → Job) :
    (s.onJob ⟨v, i⟩ f).loam.jobs[v][i] = f s.loam.jobs[v][i] := by simp

theorem State.jobs_onJob_other (s : State) {j : JobRef} {v : Fin 8} {i : Handle} (h : j ≠ ⟨v, i⟩) (f : Job → Job) :
    (s.onJob j f).loam.jobs[v][i] = s.loam.jobs[v][i] := by
  obtain ⟨w, k⟩ := j
  rw [State.onJob_loam]
  by_cases hw : w = v
  · subst hw
    have hk : k ≠ i := fun e => h (e ▸ rfl)
    simp only [vmod_self, vmod_other _ _ _ _ hk]
  · simp only [vmod_other _ _ _ _ hw]

/-! ### The accounts rise and eligibility follows (05_loam, "Sharing a head") -/

/-- What the accounts and the eligibility times are apart from. -/
def Vi.account (x : Vi) : Vi := { x with
  creditG := default, creditM := default, creditFrac := default }

/-- A descriptor but for the times of its eligibility. -/
def Job.untimed (j : Job) : Job := { j with wasEligible := false, eligibleAt := 0 }

/-- From `s` to `t` only accounts and eligibility times change, and those times only of READY jobs. -/
structure Refreshed (s t : State) : Prop where
  frame : t = { s with vi := t.vi, loam := { s.loam with jobs := t.loam.jobs, creditAt := t.loam.creditAt } }
  account : ∀ v : Fin 8, t.vi[v].account = s.vi[v].account
  untimed : ∀ (v : Fin 8) (i : Handle), (t.loam.jobs[v][i]).untimed = (s.loam.jobs[v][i]).untimed
  waiting : ∀ (v : Fin 8) (i : Handle), (s.loam.jobs[v][i]).state ≠ .ready → t.loam.jobs[v][i] = s.loam.jobs[v][i]

theorem Refreshed.refl (s : State) : Refreshed s s := ⟨rfl, fun _ => rfl, fun _ _ => rfl, fun _ _ _ => rfl⟩

theorem Refreshed.job {s t : State} (h : Refreshed s t) {β : Type} (F : Job → β) (hF : ∀ x : Job, F x.untimed = F x)
    (v : Fin 8) (i : Handle) : F (t.loam.jobs[v][i]) = F (s.loam.jobs[v][i]) := by
  rw [← hF, h.untimed, hF]

theorem Refreshed.vi {s t : State} (h : Refreshed s t) {β : Type} (F : Vi → β) (hF : ∀ x : Vi, F x.account = F x)
    (v : Fin 8) : F t.vi[v] = F s.vi[v] := by
  rw [← hF, h.account, hF]

theorem Refreshed.paper {s t : State} (h : Refreshed s t) : t.paper = s.paper := by rw [h.frame]

theorem Refreshed.silt {s t : State} (h : Refreshed s t) : t.silt = s.silt := by rw [h.frame]

theorem Refreshed.bus {s t : State} (h : Refreshed s t) : t.bus = s.bus := by rw [h.frame]

theorem Refreshed.state {s t : State} (h : Refreshed s t) (v : Fin 8) (i : Handle) :
    (t.loam.jobs[v][i]).state = (s.loam.jobs[v][i]).state := h.job Job.state (fun _ => rfl) v i

theorem Refreshed.trans {s t u : State} (h : Refreshed s t) (k : Refreshed t u) : Refreshed s u where
  frame := by rw [k.frame, h.frame]
  account v := (k.account v).trans (h.account v)
  untimed v i := (k.untimed v i).trans (h.untimed v i)
  waiting v i hs := (k.waiting v i (by rwa [h.state])).trans (h.waiting v i hs)

theorem Refreshed.foldl {α : Type} {g : State → α → State} (hg : ∀ u y, Refreshed u (g u y)) (l : List α) (s : State) :
    Refreshed s (l.foldl g s) := by
  induction l generalizing s with
  | nil => exact Refreshed.refl s
  | cons x t ih => exact (hg s x).trans (ih _)

theorem Refreshed.of_onVi (s : State) (v : Fin 8) {f : Vi → Vi} (hf : (f s.vi[v]).account = s.vi[v].account) :
    Refreshed s (s.onVi v f) where
  frame := rfl
  account := vmod_keeps Vi.account s.vi v hf
  untimed _ _ := rfl
  waiting _ _ _ := rfl

theorem Refreshed.of_onJob (s : State) (j : JobRef) {f : Job → Job} (hready : (s.job j).state = .ready)
    (hf : ∀ x, (f x).untimed = x.untimed) : Refreshed s (s.onJob j f) where
  frame := rfl
  account _ := rfl
  untimed v i := by
    by_cases h : j = ⟨v, i⟩
    · subst h
      rw [State.jobs_onJob_self, hf]
    · rw [State.jobs_onJob_other s h]
  waiting v i hs := by
    refine State.jobs_onJob_other s (fun h => hs ?_) f
    subst h
    exact hready

theorem Refreshed.of_creditAt (s : State) (n : Nat) : Refreshed s (s.onLoam fun l => { l with creditAt := n }) where
  frame := rfl
  account _ := rfl
  untimed _ _ := rfl
  waiting _ _ _ := rfl

theorem State.accrue_refreshed (s : State) : Refreshed s s.accrue := by
  unfold State.accrue
  refine .trans (Refreshed.foldl (fun u v => ?_) _ s) (Refreshed.of_creditAt _ _)
  split
  · exact Refreshed.foldl (fun w h => Refreshed.of_onVi w v rfl) _ u
  · exact Refreshed.refl u

/-- The jobs of a VI on a head are among its descriptors. -/
theorem mem_insertByOrder {e f : Handle × Job} {l : List (Handle × Job)} (h : f ∈ insertByOrder e l) :
    f = e ∨ f ∈ l := by
  induction l with
  | nil => exact .inl (List.mem_singleton.mp h)
  | cons x t ih =>
    unfold insertByOrder at h
    split at h
    · exact List.mem_cons.mp h
    · obtain rfl | h := List.mem_cons.mp h
      · exact .inr List.mem_cons_self
      · exact (ih h).imp_right (List.mem_cons_of_mem x)

theorem mem_foldr_insertByOrder {f : Handle × Job} {l : List (Handle × Job)} (h : f ∈ l.foldr insertByOrder []) :
    f ∈ l := by
  induction l with
  | nil => exact h
  | cons x t ih =>
    obtain rfl | h := mem_insertByOrder h
    · exact List.mem_cons_self
    · exact List.mem_cons_of_mem x (ih h)

theorem State.mem_viJobs {s : State} {v : Fin 8} {e : Handle × Job} (h : e ∈ s.viJobs v) :
    s.loam.jobs[v][e.1] = e.2 := by
  obtain ⟨i, _, rfl⟩ := List.mem_map.mp h
  rfl

theorem State.frontJob_ready {s : State} {v : Fin 8} {h : Fin 4} {e : Handle × Job} (he : s.frontJob v h = some e) :
    (s.job ⟨v, e.1⟩).state = .ready := by
  have hmem := State.mem_viJobs (List.mem_of_mem_filter (mem_foldr_insertByOrder (List.mem_of_find?_eq_some he)))
  have hready := List.find?_some he
  unfold State.job
  rw [hmem]
  simpa using hready

theorem State.refreshEligible_refreshed (s : State) : Refreshed s s.refreshEligible := by
  refine s.accrue_refreshed.trans (Refreshed.foldl (fun u h => Refreshed.foldl (fun w v => ?_) _ u) _ _)
  dsimp only
  split
  · exact Refreshed.refl w
  next e he => exact Refreshed.of_onJob w _ (State.frontJob_ready he) fun _ => rfl

/-! ### Submission (R296 to R309) -/

theorem State.onVi_id {s : State} {v : Fin 8} {f : Vi → Vi} (h : f s.vi[v] = s.vi[v]) : s.onVi v f = s := by
  rw [State.onVi, vmod_id _ _ h]

/-- A VI that becomes backlogged changes its surplus alone. -/
theorem State.joinBacklog_surplus (s : State) (v : Fin 8) (h : Fin 4) :
    ∃ x, s.joinBacklog v h = s.onVi v fun y => { y with surplus := x } := by
  unfold State.joinBacklog
  split
  · exact ⟨s.vi[v].surplus, (State.onVi_id rfl).symm⟩
  · dsimp only
    split
    · exact ⟨_, rfl⟩
    · exact ⟨s.vi[v].surplus, (State.onVi_id rfl).symm⟩

/-- The chain that a job of a VI joins on its head (R318). -/
def State.chainFor (s : State) (v : Fin 8) (i : Handle) : Option Nat :=
  match s.vi[v].openChain[(s.loam.jobs[v][i]).head] with
  | some c => some c
  | none => if (s.loam.jobs[v][i]).cont then some s.loam.nextOrder else none

/-- Descriptor `i` of a VI is accepted, from `s` to `t`. -/
structure Accepted (v : Fin 8) (i : Handle) (s t : State) : Prop where
  result : t.vi[v].submitResult = s.vi[v].submitResult
  count : t.vi[v].accepted = s.vi[v].accepted + 1
  state : (t.loam.jobs[v][i]).state = .ready
  order : (t.loam.jobs[v][i]).order = s.loam.nextOrder
  next : t.loam.nextOrder = s.loam.nextOrder + 1
  paper : t.paper = s.paper
  silt : t.silt = s.silt
  bus : t.bus = s.bus
  chain : (s.loam.jobs[v][i]).guest = none → (t.loam.jobs[v][i]).chain = s.chainFor v i
    ∧ (t.loam.jobs[v][i]).broken = false
    ∧ t.vi[v].openChain[(s.loam.jobs[v][i]).head] = if (s.loam.jobs[v][i]).cont then s.chainFor v i else none

theorem Accepted.refreshed {v : Fin 8} {i : Handle} {s t u : State} (h : Accepted v i s t) (k : Refreshed t u) :
    Accepted v i s u where
  result := (k.vi Vi.submitResult (fun _ => rfl) v).trans h.result
  count := (k.vi Vi.accepted (fun _ => rfl) v).trans h.count
  state := (k.state v i).trans h.state
  order := (k.job Job.order (fun _ => rfl) v i).trans h.order
  next := (congrArg (fun x : State => x.loam.nextOrder) k.frame).trans h.next
  paper := k.paper.trans h.paper
  silt := k.silt.trans h.silt
  bus := k.bus.trans h.bus
  chain hg := by
    rw [k.job Job.chain (fun _ => rfl) v i, k.job Job.broken (fun _ => rfl) v i, k.vi Vi.openChain (fun _ => rfl) v]
    exact h.chain hg

theorem State.acceptJob_accepted {s : State} {v : Fin 8} {i : Handle} (hfence : (s.loam.jobs[v][i]).isFence = false)
    (hlegal : (s.loam.jobs[v][i]).isLegal = false ∨ s.part ≠ .tl4816n) : Accepted v i s (s.acceptJob v i) := by
  obtain ⟨x, hx⟩ := s.joinBacklog_surplus v (s.loam.jobs[v][i]).head
  have hno : ¬ ((s.loam.jobs[v][i]).isLegal = true ∧ !(s.loam.jobs[v][i]).legend ∧ s.part = .tl4816n) := by
    rintro ⟨h1, _, h3⟩
    obtain h | h := hlegal
    · rw [h] at h1
      cases h1
    · exact h h3
  unfold State.acceptJob
  dsimp only
  rw [if_neg hno, if_neg (by rw [hfence]; decide), if_neg (by rw [hfence]; decide), hx]
  refine Accepted.refreshed ?_ (State.refreshEligible_refreshed _)
  unfold State.joinChain
  dsimp only
  split
  next hguest =>
    simp only [State.job, State.onLoam_loam, State.onVi_loam, State.jobs_onJob_self] at hguest
    constructor
    case chain => intro hg; rw [hg] at hguest; cases hguest
    all_goals simp
  next hguest =>
    simp only [State.job, State.onLoam_loam, State.onVi_loam, State.jobs_onJob_self]
    constructor
    case chain =>
      intro _
      simp only [State.onVi_loam, State.jobs_onJob_self, State.onVi_vi, State.onJob_vi, State.onLoam_vi, vmod_self,
        State.onLoam_loam]
      exact ⟨rfl, trivial, Vector.getElem_set_self _⟩
    all_goals simp

/-! ### What only Silt sees, and the end of a descriptor -/

/-- Only Silt changes. -/
def SiltAlone (s t : State) : Prop := t = { s with silt := t.silt }

theorem SiltAlone.refl (s : State) : SiltAlone s s := rfl

theorem SiltAlone.trans {s t u : State} (h : SiltAlone s t) (k : SiltAlone t u) : SiltAlone s u := by
  unfold SiltAlone at *
  rw [h] at k
  exact k

theorem SiltAlone.of_onSilt (s : State) (f : Silt → Silt) : SiltAlone s (s.onSilt f) := rfl

theorem SiltAlone.foldl {α : Type} {g : State → α → State} (hg : ∀ u y, SiltAlone u (g u y)) (l : List α) (s : State) :
    SiltAlone s (l.foldl g s) := by
  induction l generalizing s with
  | nil => exact SiltAlone.refl s
  | cons x t ih => exact (hg s x).trans (ih _)

theorem State.freeFrame_alone (s : State) (f : Nat) : SiltAlone s (s.freeFrame f) := .of_onSilt _ _

theorem State.putFrame_alone (s : State) (f : Nat) (x : Frame) : SiltAlone s (s.putFrame f x) := .of_onSilt _ _

theorem State.freeChunk_alone (s : State) (external : Bool) (c : Nat) : SiltAlone s (s.freeChunk external c) := by
  unfold State.freeChunk
  split
  · exact .of_onSilt _ _
  · split
    · split
      · dsimp only
        split
        · exact s.freeFrame_alone _
        · exact s.putFrame_alone _ _
      · exact .refl s
    · exact .refl s

theorem State.dropPages_alone (s : State) (v : Fin 8) (b : Nat) : SiltAlone s (s.dropPages v b) := by
  refine SiltAlone.foldl (fun u e => ?_) _ s
  split
  · split
    · split
      · exact u.freeFrame_alone _
      · exact u.putFrame_alone _ _
    · exact .refl u
  · exact .refl u

theorem State.dropBand_alone (s : State) (v : Fin 8) (b : Nat) : SiltAlone s (s.dropBand v b) := by
  have h := s.dropPages_alone v b
  unfold State.dropBand
  dsimp only
  split
  · exact (h.trans (SiltAlone.foldl (fun u c => u.freeChunk_alone _ c) _ _)).trans (.of_onSilt _ _)
  · exact h

theorem State.dropBands_alone (s : State) (v : Fin 8) (b n : Nat) : SiltAlone s (s.dropBands v b n) := by
  induction n generalizing s b with
  | zero => exact .refl s
  | succ n ih => exact (s.dropBand_alone v b).trans (ih _ _)

/-! ### A READY job is cancelled (R336, R341, R342) -/

/-- Descriptor `j` and the paper path stay as they are. -/
def Spares (j : JobRef) (s t : State) : Prop := t.job j = s.job j ∧ t.paper = s.paper

theorem Spares.refl (j : JobRef) (s : State) : Spares j s s := ⟨rfl, rfl⟩

theorem Spares.trans {j : JobRef} {s t u : State} (h : Spares j s t) (k : Spares j t u) : Spares j s u :=
  ⟨k.1.trans h.1, k.2.trans h.2⟩

theorem Spares.foldl {α : Type} {j : JobRef} {g : State → α → State} {l : List α}
    (hg : ∀ u, ∀ y ∈ l, Spares j u (g u y)) (s : State) : Spares j s (l.foldl g s) := by
  induction l generalizing s with
  | nil => exact .refl j s
  | cons x t ih =>
    exact (hg s x List.mem_cons_self).trans (ih (fun u y hy => hg u y (List.mem_cons_of_mem x hy)) _)

theorem SiltAlone.spares {s t : State} (h : SiltAlone s t) (j : JobRef) : Spares j s t := by
  rw [h]
  exact .refl j s

theorem State.onVi_spares (s : State) (j : JobRef) (v : Fin 8) (f : Vi → Vi) : Spares j s (s.onVi v f) := ⟨rfl, rfl⟩

theorem State.onLink_spares (s : State) (j : JobRef) (f : Link → Link) : Spares j s (s.onLink f) := ⟨rfl, rfl⟩

theorem State.onLoamHead_spares (s : State) (j : JobRef) (h : Fin 4) (f : LoamHead → LoamHead) :
    Spares j s (s.onLoamHead h f) := ⟨rfl, rfl⟩

theorem State.onJob_spares (s : State) {k j : JobRef} (h : k ≠ j) (f : Job → Job) : Spares j s (s.onJob k f) :=
  ⟨s.jobs_onJob_other h f, rfl⟩

theorem State.raiseVi_spares (s : State) (j : JobRef) (v : Fin 8) (code aux : Byte) (payload : Word) :
    Spares j s (s.raiseVi v code aux payload) := by
  refine ⟨?_, by simp⟩
  unfold State.job
  rw [State.raiseVi_loam]

theorem State.finishOne_spares (s : State) {k j : JobRef} (h : k ≠ j) (st : JobState) (result amount : Nat) :
    Spares j s (s.finishOne k st result amount) := by
  have hone := ((s.onJob_spares h fun y => { y with
    state := st, remote := none, marginSince := none
    word := y.word.set 7 (fld (sat amount 65535) 0 ||| fld result 16) }).trans
      (State.onVi_spares _ j k.vi fun y => if y.dupHandle = k.handle then { y with dupArmed := false } else y)).trans
      (State.raiseVi_spares _ j k.vi (terminalEvent st) (byteOf (k.handle.val + 16 * result))
        (BitVec.ofNat 16 (sat amount 65535)))
  unfold State.finishOne
  dsimp only
  split
  · exact hone.trans (State.onJob_spares _ h _)
  · exact hone

theorem State.queueSpace_spares (s : State) (j : JobRef) (v : Fin 8) : Spares j s (s.queueSpace v) := by
  unfold State.queueSpace
  split
  · split
    · exact (s.onVi_spares j v _).trans (State.raiseVi_spares _ j v _ _ _)
    · exact .refl j s
  · exact .refl j s

theorem State.chainOver_spares (s : State) (j : JobRef) (h : Fin 4) : Spares j s (s.chainOver h) := by
  unfold State.chainOver
  split
  · exact .refl j s
  · split
    · exact .refl j s
    · exact s.onLoamHead_spares j h _

theorem State.queueFrame_spares (s : State) (j : JobRef) (t : BitVec 4) (dst : BitVec 5) (payload : List Byte) :
    Spares j s (s.queueFrame t dst payload) := by
  unfold State.queueFrame
  dsimp only
  split
  · exact (s.onLink_spares j _).trans (State.onLink_spares _ j _)
  · exact s.onLink_spares j _

theorem State.endGuest_spares (s : State) (k j : JobRef) (ok : Bool) (result headTime amount : Nat) :
    Spares j s (s.endGuest k ok result headTime amount) := by
  unfold State.endGuest
  split
  · exact .refl j s
  · exact ((State.queueFrame_spares s j _ _ _).trans ((State.dropBands_alone _ _ _ _).spares j)).trans
      (State.onLink_spares _ j _)

/-- A descriptor that is not READY is none of the fences that are done. -/
theorem State.fencesDone_spares {s : State} {j : JobRef} (hj : (s.job j).state ≠ .ready) :
    Spares j s (s.fencesDone j.vi) := by
  unfold State.fencesDone
  generalize s.viJobs j.vi = l
  induction l generalizing s with
  | nil => exact .refl j s
  | cons e l ih =>
    rw [List.foldl_cons]
    dsimp only
    split
    next hready =>
      have hne : (⟨j.vi, e.1⟩ : JobRef) ≠ j := by
        intro hne
        simp only [Bool.and_eq_true, decide_eq_true_eq] at hready
        refine hj ?_
        rw [← hne]
        exact hready.1.1
      have h := (s.finishOne_spares hne .done 0 0).trans (State.queueSpace_spares _ j j.vi)
      exact h.trans (ih (by rw [h.1]; exact hj))
    · exact ih hj

/-- A chain broken in a descriptor: it says so, and no more. -/
def Job.unbroken (j : Job) : Job := { j with broken := false }

theorem State.onJob_unbroken (s : State) (k j : JobRef) {f : Job → Job} (hf : ∀ x, (f x).unbroken = x.unbroken) :
    ((s.onJob k f).job j).unbroken = (s.job j).unbroken := by
  unfold State.job
  by_cases h : k = j
  · subst h
    rw [State.jobs_onJob_self, hf]
  · rw [State.jobs_onJob_other s h]

theorem State.breakChain_spec (s : State) (k j : JobRef) :
    ((s.breakChain k).job j).unbroken = (s.job j).unbroken ∧ (s.breakChain k).paper = s.paper := by
  unfold State.breakChain
  dsimp only
  split
  · exact ⟨rfl, rfl⟩
  · split
    · exact ⟨rfl, rfl⟩
    next c _ _ =>
      generalize hu : s.onVi k.vi _ = u
      have hjob : u.job j = s.job j := by rw [← hu]; exact (s.onVi_spares j _ _).1
      have hpaper : u.paper = s.paper := by rw [← hu]; rfl
      have hkeep := foldl_keeps (fun u : State => (u.job j).unbroken)
        (g := fun u (e : Handle × Job) => u.onJob ⟨k.vi, e.1⟩ fun y => { y with broken := true })
        (fun u _ => u.onJob_unbroken _ j fun _ => rfl) (u.chainJobs k.vi c) u
      have hfold := foldl_keeps State.paper
        (g := fun u (e : Handle × Job) => u.onJob ⟨k.vi, e.1⟩ fun y => { y with broken := true })
        (fun _ _ => rfl) (u.chainJobs k.vi c) u
      exact ⟨hkeep.trans (congrArg Job.unbroken hjob), hfold.trans hpaper⟩

/-- The end of a descriptor that stays (R341, R342). -/
theorem State.finishOne_self {s : State} {j : JobRef} (hauto : (s.job j).autofree = false) (st : JobState)
    (result amount : Nat) : ((s.finishOne j st result amount).job j).state = st
      ∧ ((s.finishOne j st result amount).job j).word[7] = (fld (sat amount 65535) 0 ||| fld result 16)
      ∧ (s.finishOne j st result amount).paper = s.paper := by
  unfold State.finishOne
  dsimp only
  rw [if_neg (by rw [hauto]; decide), (State.raiseVi_spares _ j _ _ _ _).1, (State.raiseVi_spares _ j _ _ _ _).2]
  unfold State.job
  rw [State.onVi_loam, State.jobs_onJob_self]
  exact ⟨rfl, Vector.getElem_set_self _, rfl⟩

/-- The later jobs of a chain do not include the one they follow. -/
theorem State.ne_of_mem_chainLater {s : State} {j : JobRef} {e : Handle × Job} (h : e ∈ s.chainLater j) :
    (⟨j.vi, e.1⟩ : JobRef) ≠ j := by
  intro hne
  unfold State.chainLater at h
  dsimp only at h
  split at h
  · obtain ⟨hmem, horder⟩ := List.mem_filter.mp h
    have hjob := State.mem_viJobs (List.mem_of_mem_filter (mem_foldr_insertByOrder hmem))
    have hjob : s.job j = e.2 := by rw [← hjob, ← hne]; rfl
    rw [hjob] at horder
    simp at horder
  · cases h

theorem State.dropReservation_spares (s : State) (k j : JobRef) : Spares j s (s.dropReservation k) := by
  refine Spares.foldl (fun u h _ => ?_) s
  split
  · exact (u.onLoamHead_spares j h _).trans ⟨rfl, rfl⟩
  · exact .refl j u

/-- A READY job ends CANCELLED, and nothing of the paper path changes. -/
theorem State.endJob_cancelled {s : State} {j : JobRef} (hready : (s.job j).state = .ready)
    (hauto : (s.job j).autofree = false) (result : Nat) :
    ((s.endJob j .cancelled result 0).job j).state = .cancelled
      ∧ ((s.endJob j .cancelled result 0).job j).word[7] = (fld (sat 0 65535) 0 ||| fld result 16)
      ∧ (s.endJob j .cancelled result 0).paper = s.paper := by
  have hlater (u : State) :
      Spares j u ((s.chainLater j).foldl (fun u e => u.finishOne ⟨j.vi, e.1⟩ .cancelled 12 0) u) :=
    Spares.foldl (fun u e he => u.finishOne_spares (State.ne_of_mem_chainLater he) _ _ _) u
  have hrun : ¬ (((s.job j).state = .dispatched ∨ (s.job j).state = .active) ∧ (s.job j).remote.isNone = true) := by
    rw [hready]
    rintro ⟨h | h, _⟩ <;> cases h
  unfold State.endJob
  dsimp only
  rw [if_neg hrun, if_neg hrun, if_neg (by decide), if_neg (by decide)]
  generalize hu : s.endGuest j _ result 0 _ = u
  have hguest : Spares j s u := by rw [← hu]; exact s.endGuest_spares _ _ _ _ _ _
  obtain ⟨hbroken, hpaper⟩ := u.breakChain_spec j j
  have hautoU : ((u.breakChain j).job j).autofree = false := by
    have h : ((u.breakChain j).job j).unbroken.autofree = (u.job j).unbroken.autofree := congrArg _ hbroken
    exact h.trans (by rw [hguest.1]; exact hauto)
  obtain ⟨hst, hword, hfin⟩ := State.finishOne_self hautoU .cancelled result 0
  generalize (u.breakChain j).finishOne j .cancelled result 0 = x at hst hword hfin ⊢
  have hkeep : Spares j x _ := ((x.onLoamHead_spares j (s.job j).head fun l => { l with
    running := if l.running = some j then none else l.running }).trans (hlater _)).trans
      (State.chainOver_spares _ j (s.job j).head)
  have hdone := hkeep.trans (State.fencesDone_spares (by rw [hkeep.1, hst]; decide))
  have hspace := hdone.trans (State.queueSpace_spares _ j j.vi)
  rw [hspace.1, hspace.2]
  exact ⟨hst, hword, hfin.trans (hpaper.trans hguest.2)⟩

/-! ### The commands -/

theorem handle_of_low {x : Word} {i : Handle} (hi : i.val = x.toNat % 16) (h : x.toNat % 16 < 16) :
    (⟨x.toNat % 16, h⟩ : Handle) = i := Fin.ext hi.symm

theorem Word.low_nibble (x : Word) : x.toNat % 16 = (x.extractLsb' 0 4).toNat := by
  simp [BitVec.extractLsb'_toNat]

theorem Word.operation (x : Word) : x.toNat / 16 % 4 = (x.extractLsb' 4 2).toNat := by
  simp [BitVec.extractLsb'_toNat, Nat.shiftRight_eq_div_pow]

/-- The operation of VW_JOB_CANCEL is what the command says, and the handle stays. -/
theorem Word.cancel_operation (x : Word) (op : BitVec 16) :
    ((x &&& 0xFFCF) ||| op).toNat / 16 % 4 = ((op.extractLsb' 4 2)).toNat := by
  have hmask : BitVec.extractLsb' 4 2 (0xFFCF : BitVec 16) = 0 := by decide
  rw [Word.operation, BitVec.extractLsb'_or, BitVec.extractLsb'_and, hmask]
  congr 1
  exact (congrArg (· ||| _) BitVec.and_zero).trans BitVec.zero_or

theorem Word.cancel_handle (x : Word) (op : BitVec 16) (hop : op.extractLsb' 0 4 = 0) :
    ((x &&& 0xFFCF) ||| op).toNat % 16 = x.toNat % 16 := by
  have hmask : BitVec.extractLsb' 0 4 (0xFFCF : BitVec 16) = BitVec.allOnes 4 := by decide
  rw [Word.low_nibble, Word.low_nibble, BitVec.extractLsb'_or, BitVec.extractLsb'_and, hmask, hop]
  rw [BitVec.and_allOnes]
  exact congrArg BitVec.toNat BitVec.or_zero

section
variable {s : State} {v : Fin 8}

theorem jobAlloc_of_running (hmg : s.pwr.mgRunning = true) (hmode : s.pwr.mode ≠ .hold)
    (hen : s.vi[v].state = .enabled) : exec (.jobAlloc v) s = .next (match s.freeHandle v with
      | some i => if s.reservedJobs v < s.freeJobs then
          (s.onJob ⟨v, i⟩ fun _ => { state := .filled }).drive (0x8000 ||| BitVec.ofNat 16 i.val) else s.drive noDesc
      | none => s.drive noDesc) := by
  refine congrArg Host.Outcome.next ((if_neg (by simp [hmg])).trans ((if_neg hmode).trans ?_))
  rw [hen] <;> rfl

theorem jobAlloc_of_idle (hmg : s.pwr.mgRunning = true) (hmode : s.pwr.mode ≠ .hold)
    (hvi : s.vi[v].state = .disabled ∨ s.vi[v].state = .retiring) :
    exec (.jobAlloc v) s = .next (s.drive 0x0010) := by
  refine congrArg Host.Outcome.next ((if_neg (by simp [hmg])).trans ((if_neg hmode).trans ?_))
  obtain h | h := hvi <;> rw [h] <;> rfl

theorem jobAlloc_of_silent (hmg : s.pwr.mgRunning = true) (h : s.pwr.mode = .hold ∨ s.vi[v].state = .resetting) :
    exec (.jobAlloc v) s = .next (s.drive 0) := by
  refine congrArg Host.Outcome.next ((if_neg (by simp [hmg])).trans ?_)
  by_cases hmode : s.pwr.mode = .hold
  · exact if_pos hmode
  · refine (if_neg hmode).trans ?_
    rw [h.resolve_left hmode]

theorem exec_jobSubmit_served {x : Word} {i : Handle} (hserved : s.winServes v = true) (hi : i.val = x.toNat % 16)
    {u : State} (hu : u = s.finishPosted (viPort v)) (hstill : u.winServes v = true) :
    exec (.jobSubmit v x) s = .next (if u.submitCheck v i = 0
      then ((u.onVi v fun y => { y with submitResult := some (u.submitCheck v i, BitVec.ofNat 4 i.val) }).acceptJob v
        i).refreshEligible
      else (u.onVi v fun y => { y with
          submitResult := some (u.submitCheck v i, BitVec.ofNat 4 i.val)
          refused := y.refused + 1
          queueFull := if u.submitCheck v i = 1 then some (u.loam.jobs[v][i]).head
            else y.queueFull }).refreshEligible) := by
  obtain ⟨n, hn⟩ := i
  obtain rfl : n = x.toNat % 16 := hi
  refine congrArg Host.Outcome.next ((if_pos hserved).trans ?_)
  rw [← hu]
  unfold State.submitJob
  rw [if_neg (by simp [hstill])]
  dsimp only
  rw [State.onVi_onVi]
  split <;> rfl

theorem jobSubmit_accepted {x : Word} {i : Handle} (hserved : s.winServes v = true) (hi : i.val = x.toNat % 16)
    {u : State} (hu : u = s.finishPosted (viPort v)) (hstill : u.winServes v = true) (hcheck : u.submitCheck v i = 0)
    (hfence : (u.loam.jobs[v][i]).isFence = false)
    (hlegal : (u.loam.jobs[v][i]).isLegal = false ∨ s.part ≠ .tl4816n) :
    Answers (.jobSubmit v x) s (Accepted v i (u.onVi v fun y => { y with
      submitResult := some (0, BitVec.ofNat 4 i.val) })) := by
  have hpart : u.part = s.part := by rw [hu]; exact congrArg Prod.fst (State.finishPosted_fixed _ _)
  refine ⟨_, exec_jobSubmit_served hserved hi hu hstill, ?_⟩
  rw [if_pos hcheck, hcheck]
  rw [← hpart] at hlegal
  exact (State.acceptJob_accepted (s := u.onVi v fun y => { y with submitResult := some (0, BitVec.ofNat 4 i.val) })
    hfence hlegal).refreshed (State.refreshEligible_refreshed _)

theorem jobSubmit_refused {x : Word} {i : Handle} (hserved : s.winServes v = true) (hi : i.val = x.toNat % 16)
    {u : State} (hu : u = s.finishPosted (viPort v)) (hstill : u.winServes v = true) {b : Byte}
    (hb : b = u.submitCheck v i) (hrefused : b ≠ 0) : Answers (.jobSubmit v x) s fun t =>
      t.vi[v].submitResult = some (b, BitVec.ofNat 4 i.val) ∧ t.vi[v].refused = u.vi[v].refused + 1
        ∧ (t.loam.jobs[v][i]).state = (u.loam.jobs[v][i]).state ∧ t.paper = u.paper ∧ t.bus = u.bus := by
  refine ⟨_, exec_jobSubmit_served hserved hi hu hstill, ?_⟩
  rw [← hb, if_neg hrefused]
  have hr := State.refreshEligible_refreshed (u.onVi v fun y => { y with
      submitResult := some (b, BitVec.ofNat 4 i.val), refused := y.refused + 1
      queueFull := if b = 1 then some (u.loam.jobs[v][i]).head else y.queueFull })
  refine ⟨?_, ?_, hr.state v i, hr.paper, hr.bus⟩
  · rw [hr.vi Vi.submitResult (fun _ => rfl) v]
    simp
  · rw [hr.vi Vi.refused (fun _ => rfl) v]
    simp

section
variable {x : Word} {i : Handle} (hserved : s.winServes v = true) (hi : i.val = x.toNat % 16)
include hserved hi

theorem State.writeCancel_served : s.writeCancel v x = match x.toNat / 16 % 4 with
    | 0 => (s.cancelJob ⟨v, i⟩).refreshEligible
    | 1 => s.releaseJob ⟨v, i⟩
    | 2 => ((List.finRange 16).foldl (fun u (i : Handle) => u.cancelJob ⟨v, i⟩) s).refreshEligible
    | _ => s := by
  obtain ⟨n, hn⟩ := i
  obtain rfl : n = x.toNat % 16 := hi
  unfold State.writeCancel
  rw [if_neg (by simp [hserved])] <;> rfl

theorem exec_release_served : exec (.release v x) s = .next (s.releaseJob ⟨v, i⟩) := by
  refine congrArg Host.Outcome.next ((State.writeCancel_served hserved
    (hi.trans (Word.cancel_handle x 0x10 (by decide)).symm)).trans ?_)
  rw [Word.cancel_operation]
  rfl

theorem exec_cancel_served : exec (.cancel v x) s = .next (s.cancelJob ⟨v, i⟩).refreshEligible := by
  have hor : (x &&& 0xFFCF) = (x &&& 0xFFCF) ||| 0 := BitVec.or_zero.symm
  refine congrArg Host.Outcome.next ((State.writeCancel_served hserved
    (hi.trans (by rw [hor, Word.cancel_handle x 0 (by decide)]))).trans ?_)
  rw [hor, Word.cancel_operation]
  rfl

end

theorem exec_cancelAll_served (hserved : s.winServes v = true) (x : Word) : exec (.cancelAll v x) s
    = .next ((List.finRange 16).foldl (fun u (i : Handle) => u.cancelJob ⟨v, i⟩) s).refreshEligible := by
  refine congrArg Host.Outcome.next ((State.writeCancel_served (i := ⟨_ % 16, Nat.mod_lt _ (by decide)⟩) hserved
    rfl).trans ?_)
  rw [Word.cancel_operation]
  rfl

theorem State.releaseJob_of_ended {j : JobRef} (h : (s.job j).state.terminal = true ∨ (s.job j).state = .filled) :
    s.releaseJob j = s.onJob j fun _ => {} := by
  unfold State.releaseJob
  revert h
  cases (s.job j).state <;> simp [JobState.terminal]

theorem State.cancelJob_of_filled {j : JobRef} (hremote : (s.job j).remote = none) (h : (s.job j).state = .filled) :
    s.cancelJob j = s.onJob j fun _ => {} := by
  unfold State.cancelJob
  dsimp only
  rw [hremote, h]

theorem State.cancelJob_of_free {j : JobRef} (hremote : (s.job j).remote = none) (h : (s.job j).state = .free) :
    s.cancelJob j = s := by
  unfold State.cancelJob
  dsimp only
  rw [hremote, h]

theorem State.cancelJob_of_ready {j : JobRef} (hremote : (s.job j).remote = none) (h : (s.job j).state = .ready) :
    s.cancelJob j = (s.dropReservation j).endJob j .cancelled 2 0 := by
  unfold State.cancelJob
  dsimp only
  rw [hremote, h]

theorem cancel_of_filled {x : Word} {i : Handle} (hserved : s.winServes v = true) (hi : i.val = x.toNat % 16)
    (hremote : (s.loam.jobs[v][i]).remote = none) (hst : (s.loam.jobs[v][i]).state = .filled) :
    Answers (.cancel v x) s fun t =>
      t.loam.jobs[v][i] = {} ∧ t.paper = s.paper ∧ t.silt = s.silt ∧ t.bus = s.bus := by
  refine ⟨_, exec_cancel_served hserved hi, ?_⟩
  rw [State.cancelJob_of_filled (j := ⟨v, i⟩) hremote hst]
  have hr := State.refreshEligible_refreshed (s.onJob ⟨v, i⟩ fun _ => {})
  refine ⟨?_, hr.paper, hr.silt, hr.bus⟩
  rw [hr.waiting v i (by rw [State.jobs_onJob_self]; decide), State.jobs_onJob_self]

theorem cancel_of_ready {x : Word} {i : Handle} (hserved : s.winServes v = true) (hi : i.val = x.toNat % 16)
    (hremote : (s.loam.jobs[v][i]).remote = none) (hst : (s.loam.jobs[v][i]).state = .ready)
    (hauto : (s.loam.jobs[v][i]).autofree = false) : Answers (.cancel v x) s fun t =>
      (t.loam.jobs[v][i]).state = .cancelled ∧ bits (t.loam.jobs[v][i]).word[7] 16 8 = 2 ∧ t.paper = s.paper := by
  refine ⟨_, exec_cancel_served hserved hi, ?_⟩
  rw [State.cancelJob_of_ready (j := ⟨v, i⟩) hremote hst]
  have hdrop := s.dropReservation_spares ⟨v, i⟩ ⟨v, i⟩
  obtain ⟨hstate, hword, hpaper⟩ := State.endJob_cancelled (j := ⟨v, i⟩) (by rw [hdrop.1]; exact hst)
    (by rw [hdrop.1]; exact hauto) 2
  have hr := State.refreshEligible_refreshed ((s.dropReservation ⟨v, i⟩).endJob ⟨v, i⟩ .cancelled 2 0)
  have hcode : bits (fld (sat 0 65535) 0 ||| fld 2 16) 16 8 = 2 := by decide
  refine ⟨(hr.state v i).trans hstate, ?_, hr.paper.trans (hpaper.trans hdrop.2)⟩
  rw [hr.job (fun y => y.word[7]) (fun _ => rfl) v i]
  exact (congrArg (bits · 16 8) hword).trans hcode

/-- From `s` to `t` only descriptors of VI `v` change, and those that do are FREE. -/
structure Freed (v : Fin 8) (s t : State) : Prop where
  frame : t = { s with loam := t.loam }
  freed : ∀ i : Handle, t.loam.jobs[v][i] = s.loam.jobs[v][i] ∨ t.loam.jobs[v][i] = {}

theorem Freed.state {s t : State} (h : Freed v s t) {i : Handle} (hi : (s.loam.jobs[v][i]).state = .free) :
    (t.loam.jobs[v][i]).state = .free := by
  obtain h | h := h.freed i
  · rw [h, hi]
  · rw [h]

theorem Freed.trans {s t u : State} (h : Freed v s t) (k : Freed v t u) : Freed v s u where
  frame := by rw [k.frame, h.frame]
  freed i := by
    obtain hk | hk := k.freed i
    · rw [hk]
      exact h.freed i
    · exact .inr hk

/-- No descriptor of VI `v` is beyond FILLED, here or at a peer. -/
def Idle (v : Fin 8) (s : State) : Prop :=
  ∀ i : Handle, (s.loam.jobs[v][i]).remote = none ∧ (s.loam.jobs[v][i]).state ∈ [JobState.filled, .free]

theorem Freed.idle {s t : State} (h : Freed v s t) (k : Idle v s) : Idle v t := by
  intro i
  obtain h | h := h.freed i
  · rw [h]
    exact k i
  · rw [h]
    exact ⟨rfl, by decide⟩

theorem State.cancelJob_freed {s : State} (h : Idle v s) (i : Handle) :
    Freed v s (s.cancelJob ⟨v, i⟩) ∧ ((s.cancelJob ⟨v, i⟩).loam.jobs[v][i]).state = .free := by
  obtain ⟨hremote, hst⟩ := h i
  obtain hst | hst := List.mem_pair.mp hst
  · rw [State.cancelJob_of_filled (j := ⟨v, i⟩) hremote hst, State.jobs_onJob_self]
    refine ⟨⟨rfl, fun k => ?_⟩, rfl⟩
    by_cases hk : i = k
    · subst hk
      exact .inr (s.jobs_onJob_self v i _)
    · exact .inl (s.jobs_onJob_other (fun e => hk (congrArg JobRef.handle e)) _)
  · rw [State.cancelJob_of_free (j := ⟨v, i⟩) hremote hst]
    exact ⟨⟨rfl, fun k => .inl rfl⟩, hst⟩

/-- Cancelling descriptors that are FILLED or FREE leaves those of the list FREE. -/
theorem State.cancel_fold (l : List Handle) {s : State} (h : Idle v s) :
    Freed v s (l.foldl (fun u (i : Handle) => u.cancelJob ⟨v, i⟩) s) ∧ ∀ i ∈ l,
      ((l.foldl (fun u (i : Handle) => u.cancelJob ⟨v, i⟩) s).loam.jobs[v][i]).state = .free := by
  induction l generalizing s with
  | nil => exact ⟨⟨rfl, fun i => .inl rfl⟩, fun i hi => by cases hi⟩
  | cons k l ih =>
    obtain ⟨hk, hfree⟩ := State.cancelJob_freed h k
    obtain ⟨hl, hmem⟩ := ih (hk.idle h)
    refine ⟨hk.trans hl, fun i hi => ?_⟩
    obtain rfl | hi := List.mem_cons.mp hi
    · exact hl.state hfree
    · exact hmem i hi

theorem cancelAll_of_idle (hserved : s.winServes v = true) (h : Idle v s) (x : Word) :
    Answers (.cancelAll v x) s fun t =>
      (∀ i : Handle, (t.loam.jobs[v][i]).state = .free) ∧ t.paper = s.paper ∧ t.silt = s.silt ∧ t.bus = s.bus := by
  refine ⟨_, exec_cancelAll_served hserved x, ?_⟩
  obtain ⟨hfreed, hfree⟩ := State.cancel_fold (List.finRange 16) h
  generalize (List.finRange 16).foldl (fun u (i : Handle) => u.cancelJob ⟨v, i⟩) s = u at hfreed hfree ⊢
  have hr := u.refreshEligible_refreshed
  have hu := hfreed.frame
  exact ⟨fun i => (hr.state v i).trans (hfree i (List.mem_finRange i)), by rw [hr.paper, hu], by rw [hr.silt, hu],
    by rw [hr.bus, hu]⟩

end

end Machine

/-- Settles O26: a submission that passes its checks is accepted in its order, and a cancelled READY job ends with its
accounts settled. -/
theorem tenantsHandleJobs : Obligations.TenantsHandleJobs := by
  unfold Obligations.TenantsHandleJobs
  intro s v
  refine ⟨?_, ?_, jobAlloc_of_idle, jobAlloc_of_silent, ?_, ?_, ?_, ?_, ?_⟩
  · intro i hmg hmode hen hfree hroom
    rw [jobAlloc_of_running hmg hmode hen, hfree]
    exact congrArg _ (if_pos hroom)
  · intro hmg hmode hen hfree
    rw [jobAlloc_of_running hmg hmode hen, hfree]
    rfl
  · intro x i hserved hi u hstill
    refine ⟨fun hcheck hfence hlegal => ?_, fun b hb => jobSubmit_refused hserved hi rfl hstill hb⟩
    obtain ⟨t, ht, hacc⟩ := jobSubmit_accepted hserved hi rfl hstill hcheck hfence hlegal
    refine ⟨t, ht, hacc.result.trans (by simp), hacc.count.trans (by simp; rfl), hacc.state, hacc.order, hacc.next,
      hacc.paper, hacc.silt, hacc.bus, fun hguest => ?_⟩
    have h := hacc.chain hguest
    simp only [State.chainFor, State.onVi_vi, vmod_self] at h
    exact h
  · intro x i hserved hi h
    rw [exec_release_served hserved hi]
    exact congrArg _ (State.releaseJob_of_ended (j := ⟨v, i⟩) h)
  · exact fun x i => cancel_of_filled
  · exact fun x i => cancel_of_ready
  · exact fun x hserved h => cancelAll_of_idle hserved h x

end Sys2Proof
end

section
/-! PROOFS. Frames, faults and the arbiter (06_silt R363 to R413, R401 to R410): statement O28. -/

namespace Sys2Proof

open Machine

/-- A write that is taken completes with its code (03_host_bus R172), told where the code is one that is told. -/
theorem Takes.own_reports {s u t : State} {w : Fin 11} {idx : Nat} {v x : Par} {r : ParRow} {e : BitVec 4}
    (h : Takes s w idx v r u x) (k : u.itemWrite w idx (if r.banked then u.portVi w else none) x = (t, e)) :
    Reports (wrote w idx e t) (s.ownCommit w idx v) := by
  have hx := h.admitted.commit
  rw [← h.value, k] at hx
  have hdone := (t.completeOp_reports w idx e).onPort w fun p =>
    ({ p with index := BitVec.ofNat 16 idx, staged := 0, snapshot := none } : ParPort).advance
  rw [State.onPort_onPort] at hdone
  unfold State.ownCommit
  rw [if_neg (by simp [h.served]), ← h.after]
  dsimp only
  rw [hx]
  exact hdone

/-- What is reported before a write completes is reported once it has. -/
theorem Reports.wrote {s t : State} (h : Reports s t) (w : Fin 11) (idx : Nat) (e : BitVec 4) :
    Reports (wrote w idx e s) (wrote w idx e t) := h.onPort w _

namespace Machine

/-! ### DISCARD and ARB_APPLY -/

theorem State.itemWrite_discard {u : State} {y : Fin 8} (w : Fin 11) (x : Par) :
    u.itemWrite w 0x906 (some y) x = u.writeDiscard y x := rfl

theorem State.itemWrite_arbApply (u : State) (w : Fin 11) (vi : Option (Fin 8)) (x : Par) :
    u.itemWrite w 0x810 vi x = u.writeArbApply x := rfl

theorem State.writeDiscard_within {u : State} {y : Fin 8} {x : Par} (h : bits x 0 12 + (bits x 16 12 + 1) ≤ 4096) :
    u.writeDiscard y x = (((List.range (bits x 16 12 + 1)).foldl (fun (q : State) k =>
      (q.discardBlock y (bits x 0 12 + k)).dropBand y (bits x 0 12 + k)) u).drainAll.refreshHeads, 0) :=
  if_neg (Nat.not_lt.mpr h)

theorem State.writeDiscard_beyond {u : State} {y : Fin 8} {x : Par} (h : 4096 < bits x 0 12 + (bits x 16 12 + 1)) :
    u.writeDiscard y x = (u, 4) := if_pos h

/-- A slot table that ARB_APPLY refuses (R405): too few entries of the background, or a reserved owner. -/
def State.tableUnfit (u : State) : Prop :=
  ownedBy u.slotTable 7 < 4 ∨ (u.slotTable.toList.any fun e => 10 ≤ e.toNat && e.toNat ≤ 14) = true

theorem State.writeArbApply_unfit {u : State} {x : Par} (hx : bit x 0 = true) (h : u.tableUnfit) :
    u.writeArbApply x = ((u.onSilt fun y => { y with arb := { y.arb with refused := true } }).raise0 0x44 1
      (BitVec.ofNat 16 (ownedBy u.slotTable 7)), 4) :=
  (if_neg (by simp [hx])).trans (if_pos h)

theorem State.writeArbApply_fit {u : State} {x : Par} (hx : bit x 0 = true) (h : ¬ u.tableUnfit) :
    u.writeArbApply x = (u.onSilt fun y => { y with
      arb := { y.arb with refused := false, pending := some (u.slotTable, u.burstTable) } }, 0) :=
  (if_neg (by simp [hx])).trans (if_neg h)

theorem State.itemWrite_discard_banked {u t : State} {w : Fin 11} {r : ParRow} {y : Fin 8} {x : Par} {e : BitVec 4}
    (hbanked : r.banked = true) (hport : u.portVi w = some y) (hwrite : u.writeDiscard y x = (t, e)) :
    u.itemWrite w 0x906 (if r.banked then u.portVi w else none) x = (t, e) := by
  rw [hbanked, if_pos rfl, hport, State.itemWrite_discard, hwrite]

/-! ### The arbiter: a table comes into force at position 0 (R406) -/

/-- From `a` to `b` the tables, the commit that waits and the clock stay. -/
structure Arbiter.SameTables (a b : Arbiter) : Prop where
  table : b.table = a.table
  burst : b.burst = a.burst
  pending : b.pending = a.pending
  clock : b.clock = a.clock

theorem Arbiter.SameTables.trans {a b c : Arbiter} (h : a.SameTables b) (k : b.SameTables c) : a.SameTables c :=
  ⟨k.table.trans h.table, k.burst.trans h.burst, k.pending.trans h.pending, k.clock.trans h.clock⟩

theorem Arbiter.give_sameTables (a : Arbiter) (w : ArbView) : a.SameTables (a.give w) := by
  unfold Arbiter.give
  split
  · exact ⟨rfl, rfl, rfl, rfl⟩
  · split
    · exact ⟨rfl, rfl, rfl, rfl⟩
    · split <;> exact ⟨rfl, rfl, rfl, rfl⟩

theorem Arbiter.drainPort_sameTables (a : Arbiter) : a.SameTables a.drainPort := by
  unfold Arbiter.drainPort
  split <;> exact ⟨rfl, rfl, rfl, rfl⟩

/-- A clock commits the waiting table at position 0; its beat leaves the tables; and the clock moves on. -/
theorem Arbiter.tick_sameTables (w : ArbView) (a : Arbiter) : ∃ b : Arbiter,
    (if a.pos = 0 then a.commit else a).SameTables b ∧ a.tick w = { b with clock := b.clock + 1 } := by
  refine ⟨_, ?_, rfl⟩
  refine .trans ((if a.pos = 0 then a.commit else a).drainPort_sameTables) (.trans ?_ (Arbiter.give_sameTables _ w))
  generalize (if a.pos = 0 then a.commit else a).drainPort = c
  split
  · split <;> exact ⟨rfl, rfl, rfl, rfl⟩
  · exact ⟨rfl, rfl, rfl, rfl⟩

theorem Arbiter.commit_of_pending {a : Arbiter} {p : Vector (BitVec 4) 64 × Vector Nat 10} (h : a.pending = some p) :
    a.commit = { a with table := p.1, burst := p.2, pending := none } := by
  unfold Arbiter.commit
  rw [h]

theorem Arbiter.pos_eq_zero {a : Arbiter} : a.pos = 0 ↔ a.clock % 64 = 0 := by
  simp [Arbiter.pos, Fin.ext_iff]

/-- The waiting table comes into force in the clock of the next position 0. -/
theorem Arbiter.run_commits (w : ArbView) {p : Vector (BitVec 4) 64 × Vector Nat 10} (n : Nat) {a : Arbiter}
    (hn : n = (64 - a.clock % 64) % 64 + 1) (hp : a.pending = some p) :
    (Arbiter.run w n a).table = p.1 ∧ (Arbiter.run w n a).burst = p.2 ∧ (Arbiter.run w n a).pending = none
      ∧ (Arbiter.run w n a).clock = a.clock + n := by
  induction n generalizing a with
  | zero => omega
  | succ n ih =>
    obtain ⟨b, hb, htick⟩ := a.tick_sameTables w
    unfold Arbiter.run
    rw [htick]
    by_cases hpos : a.pos = 0
    · rw [if_pos hpos, Arbiter.commit_of_pending hp] at hb
      obtain ⟨htable, hburst, hpending, hclock⟩ := hb
      have hzero : n = 0 := by have := Arbiter.pos_eq_zero.mp hpos; omega
      subst hzero
      exact ⟨htable, hburst, hpending, congrArg (· + 1) hclock⟩
    · rw [if_neg hpos] at hb
      have hclock : b.clock = a.clock := hb.clock
      have hne : a.clock % 64 ≠ 0 := fun e => hpos (Arbiter.pos_eq_zero.mpr e)
      obtain ⟨h1, h2, h3, h4⟩ := ih (a := { b with clock := b.clock + 1 }) (by dsimp only; omega)
        (hb.pending.trans hp)
      exact ⟨h1, h2, h3, by rw [h4]; dsimp only; omega⟩

theorem tableCommit_of_pending {s : State} {p : Vector (BitVec 4) 64 × Vector Nat 10}
    (hp : s.silt.arb.pending = some p) : Answers .tableCommit s fun t =>
      t.silt.arb.table = p.1 ∧ t.silt.arb.burst = p.2 ∧ t.silt.arb.pending = none ∧ t.silt.arb.clock % 64 = 1
        ∧ s.silt.arb.clock < t.silt.arb.clock ∧ t.silt.arb.clock ≤ s.silt.arb.clock + 64
        ∧ Reports (s.onSilt fun x => { x with arb := t.silt.arb }) t := by
  refine ⟨_, congrArg Host.Outcome.next (if_pos (by rw [hp]; rfl)), ?_⟩
  obtain ⟨htable, hburst, hpending, hclock⟩ := Arbiter.run_commits s.arbView
    ((64 - s.silt.arb.clock % 64) % 64 + 1) rfl hp
  have hquiet : ¬ s.silt.arb.quiet s.arbView = true := by simp [Arbiter.quiet, hp]
  unfold State.arbClocks
  dsimp only
  rw [if_neg hquiet]
  generalize Arbiter.run s.arbView ((64 - s.silt.arb.clock % 64) % 64 + 1) s.silt.arb = b
    at htable hburst hpending hclock ⊢
  rw [if_pos ⟨by rw [hp]; rfl, by rw [hpending]; rfl⟩]
  have hr := (s.onSilt fun y => { y with arb := b }).raise0_reports 0x44 0 (BitVec.ofNat 16 (ownedBy b.table 7))
  have harb : ((s.onSilt fun y => { y with arb := b }).raise0 0x44 0
      (BitVec.ofNat 16 (ownedBy b.table 7))).silt.arb = b := by rw [hr.silt]; rfl
  rw [harb]
  exact ⟨htable, hburst, hpending, by omega, by omega, by omega, hr⟩

/-! ### Faults and the pages decoded for them -/

theorem bandDecodeStart_of_idle {s : State} {f : PageFault} {b : Band} (hdecode : s.silt.decode = none)
    (hruns : s.pwr.islandsRun = true) (hserved : s.arbServes 6 = true) (hfault : s.pruneFaults.firstFault = some f)
    (hband : s.pruneFaults.band f.vi (f.page / 4) = some b) :
    exec .bandDecodeStart s = .next (s.pruneFaults.onSilt fun x => { x with decode := some {
      vi := f.vi, band := f.page / 4, last := f.page % 4, next := 0, chunks := b.chunks
      external := b.external } }) := by
  refine congrArg Host.Outcome.next ((if_neg (by simp [hdecode, hruns, hserved])).trans ?_)
  dsimp only
  rw [hfault]
  dsimp only
  rw [hband]

theorem bandDecodeStart_of_unserved {s : State} (h : s.arbServes 6 = false) : exec .bandDecodeStart s = .next s :=
  congrArg Host.Outcome.next (if_pos (by simp [h]))

theorem faultResolved_of_unserved {s : State} (h : s.arbServes 6 = false) : exec .faultResolved s = .next s := by
  refine congrArg Host.Outcome.next ?_
  split
  · rfl
  · exact if_pos (by simp [h])

theorem faultResolved_of_decode {s : State} {d : Decode} (hdecode : s.silt.decode = some d)
    (hserved : s.arbServes 6 = true) : exec .faultResolved s = .next (match d.freed with
      | some l => s.finishFreed d l
      | none => s.finishPage d) := by
  refine congrArg Host.Outcome.next ?_
  rw [hdecode]
  exact if_neg (by simp [hserved])

theorem faultResolved_of_page {s : State} {d : Decode} (hdecode : s.silt.decode = some d)
    (hserved : s.arbServes 6 = true) (hfreed : d.freed = none) :
    exec .faultResolved s = .next (s.finishPage d) := by
  rw [faultResolved_of_decode hdecode hserved, hfreed]

theorem State.finishPage_of_changed {s : State} {d : Decode} {b : Band} (hband : s.band d.vi d.band = some b)
    (h : b.chunks ≠ d.chunks) : s.finishPage d = s.endDecode := by
  unfold State.finishPage
  rw [hband]
  exact if_pos (.inl h)

theorem State.finishPage_of_same {s : State} {d : Decode} {b : Band} (hband : s.band d.vi d.band = some b)
    (hchunks : b.chunks = d.chunks) (hexternal : b.external = d.external) (hlost : b.lost = false) :
    s.finishPage d = (match decodePage (s.blockBytes b) d.band d.next with
      | .ok l => (s.keepPage d l).onSilt fun x => { x with
          decode := if d.next < d.last then some { d with next := d.next + 1 } else none }
      | .error e => s.decodeFails d.vi d.band e).refreshHeads := by
  unfold State.finishPage
  rw [hband]
  dsimp only
  rw [if_neg (by simp [hchunks, hexternal, hlost])]
  cases decodePage (s.blockBytes b) d.band d.next <;> rfl

/-! ### A VI above its quota (R363, R378) -/

/-- A fold of which only the turn of one element does something. -/
theorem foldl_of_single {α β : Type} {g : β → α → β} {v : α} {s t : β} (hg : g s v = t)
    (hs : ∀ u, u ≠ v → g s u = s) (ht : ∀ u, u ≠ v → g t u = t) {l : List α} (hv : v ∈ l) (hl : l.Nodup) :
    l.foldl g s = t := by
  have hrest (k : List α) (hk : v ∉ k) : k.foldl g t = t := by
    induction k with
    | nil => rfl
    | cons u k ih =>
      rw [List.foldl_cons, ht u (fun e => hk (e ▸ List.mem_cons_self)),
        ih fun hm => hk (List.mem_cons_of_mem u hm)]
  induction l with
  | nil => cases hv
  | cons u l ih =>
    obtain ⟨hu, hl⟩ := List.nodup_cons.mp hl
    rw [List.foldl_cons]
    by_cases huv : u = v
    · subst huv
      rw [hg]
      exact hrest l hu
    · rw [hs u huv]
      exact ih ((List.mem_cons.mp hv).resolve_left (Ne.symm huv)) hl

/-- A frame given back is held by no VI more than before. -/
theorem State.heldFrames_freeFrame (s : State) (f : Nat) (u : Fin 8) : (s.freeFrame f).heldFrames u ≤ s.heldFrames u :=
  (List.Sublist.filter _ List.filter_sublist).length_le

theorem State.frameMax_onVi_hand (s : State) (v : Fin 8) (n : Nat) (u : Fin 8) :
    (s.onVi v fun y => { y with hand := n }).frameMax u = s.frameMax u :=
  vmod_keeps (fun y : Vi => (y.contract[6]).toNat) s.vi v (f := fun y => { y with hand := n }) rfl u

/-- The turn of a VI in QUOTA_REPLACE. -/
def State.quotaTurn (u : State) (v : Fin 8) : State :=
  if u.frameMax v < u.heldFrames v then
    match (u.clockOrder v).find? fun f => match sparseFind f u.silt.frames with
        | some x => !x.ref
        | none => false with
    | some f => (u.onVi v fun y => { y with hand := f }).freeFrame f
    | none => u
  else u

theorem State.quotaTurn_within {u : State} {v : Fin 8} (h : ¬ u.frameMax v < u.heldFrames v) : u.quotaTurn v = u :=
  if_neg h

theorem quotaReplace_of_single {s : State} {v : Fin 8} {f : Nat}
    (hv : ∀ u : Fin 8, s.frameMax u < s.heldFrames u ↔ u = v)
    (hf : ((s.clockOrder v).find? fun f => match sparseFind f s.silt.frames with
      | some x => !x.ref
      | none => false) = some f) :
    exec .quotaReplace s = .next ((s.onVi v fun y => { y with hand := f }).freeFrame f) := by
  have hturn : s.quotaTurn v = (s.onVi v fun y => { y with hand := f }).freeFrame f := by
    refine (if_pos ((hv v).mpr rfl)).trans ?_
    rw [hf]
  have hbefore (u : Fin 8) (hu : u ≠ v) : ¬ s.frameMax u < s.heldFrames u := fun h => hu ((hv u).mp h)
  have hafter (u : Fin 8) (hu : u ≠ v) :
      ((s.onVi v fun y => { y with hand := f }).freeFrame f).quotaTurn u
        = (s.onVi v fun y => { y with hand := f }).freeFrame f := by
    refine State.quotaTurn_within fun h => hbefore u hu ?_
    have hmax := s.frameMax_onVi_hand v f u
    have hheld := (s.onVi v fun y => { y with hand := f }).heldFrames_freeFrame f u
    exact (hmax ▸ h : s.frameMax u < _).trans_le hheld
  exact congrArg Host.Outcome.next (foldl_of_single (g := State.quotaTurn) hturn
    (fun u hu => State.quotaTurn_within (hbefore u hu)) hafter (List.mem_finRange v) (List.nodup_finRange 8))

end Machine

/-- Settles O28: each engine by its own lemma, the frame that goes to a VI above its quota by the turn of its hand. -/
theorem rasterEngines : Obligations.RasterEngines := by
  unfold Obligations.RasterEngines
  refine ⟨fun s u w v x r => ⟨fun y h hbanked hport => ⟨fun hin => ?_, fun hout => ?_⟩, fun h hx => ⟨fun hbad => ?_,
    fun hfit => ?_⟩⟩, fun s p => tableCommit_of_pending, fun s f b => bandDecodeStart_of_idle,
    fun s h => ⟨bandDecodeStart_of_unserved h, faultResolved_of_unserved h⟩, fun s d l hdecode hserved hfreed => ?_,
    fun s d b hdecode hserved hfreed hband => ⟨fun hne => ?_, fun hchunks hexternal hlost => ?_⟩,
    fun s v f => quotaReplace_of_single⟩
  · exact congrArg Host.Outcome.next (h.own (State.itemWrite_discard_banked hbanked hport
      (State.writeDiscard_within hin)) (by decide))
  · exact ⟨_, rfl, h.own_reports (State.itemWrite_discard_banked hbanked hport (State.writeDiscard_beyond hout))⟩
  · have hw := (u.itemWrite_arbApply w (if r.banked then u.portVi w else none) x).trans
      (State.writeArbApply_unfit hx hbad)
    exact ⟨_, rfl, ((State.raise0_reports _ _ _ _).wrote w 0x810 4).trans (h.own_reports hw)⟩
  · have hw := (u.itemWrite_arbApply w (if r.banked then u.portVi w else none) x).trans
      (State.writeArbApply_fit hx hfit)
    exact congrArg Host.Outcome.next (h.own hw (by decide))
  · rw [faultResolved_of_decode hdecode hserved, hfreed]
    dsimp only
    unfold State.finishFreed
    cases decodePage l d.band d.next <;> rfl
  · exact (faultResolved_of_page hdecode hserved hfreed).trans
      (congrArg Host.Outcome.next (State.finishPage_of_changed hband hne))
  · exact (faultResolved_of_page hdecode hserved hfreed).trans
      (congrArg Host.Outcome.next (State.finishPage_of_same hband hchunks hexternal hlost))

end Sys2Proof
end

section
/-! PROOFS. The compressor (07_marl R427 to R436, R454 to R461): statement O29. -/

namespace Sys2Proof

open Machine

namespace Machine

theorem State.marlAccrue_silt (s : State) : s.marlAccrue.silt = s.silt := by
  unfold State.marlAccrue
  rw [State.onMarl_silt]
  exact foldl_keeps State.silt (fun u v => u.onVi_silt v _) _ s

theorem State.marlStart_of_none {s : State} {left : List (Fin 8)} (h : s.marlNext left = none) (clocks n : Nat) :
    s.marlStart clocks (n + 1) left = s := by
  rw [State.marlStart, h]

/-- The block of the VI whose turn it is starts, with its chunks reserved. -/
theorem State.marlStart_of_room {s w : State} {left : List (Fin 8)} {v : Fin 8} {surplus : Bool} {i : Fin 8}
    {b : IngestBuffer} {l : List Nat} (hnext : s.marlNext left = some (v, surplus))
    (hold : s.marl.oldestClosed v = some (i, b))
    (hquota : s.storeUsed v + s.storeReserved v + 17 ≤ (s.parB v 0x902).toNat)
    (hchunks : s.reserveChunks v 17 = some (l, w)) (clocks n : Nat) :
    s.marlStart clocks (n + 1) left = (w.onVi v fun x => { x with
      marlCredit := x.marlCredit - 16384 * 256 }).onMarl fun m => { m with
        coding := some { buffer := i, chunks := l, external := s.silt.external }
        surplusLast := if surplus then v else m.surplusLast
        waitMax := BitVec.ofNat 32 (max m.waitMax.toNat (sat clocks 4294967295)) } := by
  rw [State.marlStart, hnext]
  dsimp only
  rw [hold]
  dsimp only
  rw [if_neg (Nat.not_lt.mpr hquota), hchunks]

theorem marlBlockStart_of_free {s : State} (hcoding : s.marl.coding = none) (hruns : s.compressorRuns = true)
    (n : Nat) : exec (.marlBlockStart n) s = .next (s.marlAccrue.marlStart n 8 (List.finRange 8)) :=
  congrArg Host.Outcome.next (if_neg (by simp [hcoding, hruns]))

theorem marlBlockStart_of_not_free {s : State} (h : s.marl.coding ≠ none ∨ s.compressorRuns = false) (n : Nat) :
    exec (.marlBlockStart n) s = .next s := by
  refine congrArg Host.Outcome.next (if_pos ?_)
  rw [Option.isSome_iff_ne_none, Bool.not_eq_true']
  exact h

theorem blockPlaced_of_not_coding {s : State} (h : s.marl.coding = none ∨ s.compressorRuns = false) (ok : Bool) :
    exec (.blockPlaced ok) s = .next s := by
  refine congrArg Host.Outcome.next ?_
  split
  · rfl
  next q hq =>
    refine if_pos ?_
    rw [Bool.not_eq_true']
    exact h.resolve_left (by rw [hq]; nofun)

theorem blockPlaced_of_coding {s : State} {k : Coding} {b : IngestBuffer} (hcoding : s.marl.coding = some k)
    (hbuffer : s.marl.buffer[k.buffer] = some b) (hruns : s.compressorRuns = true) (ok : Bool) :
    exec (.blockPlaced ok) s = .next (((if b.discard then
        ((s.onMarl fun m => { m with coding := none }).setBuffer k.buffer none).freeChunks k.external k.chunks
      else ((s.onMarl fun m => { m with coding := none }).setBuffer k.buffer none).placeBlock k b
        (b.block ok)).judgeBlock b (b.block ok)).drainAll.refreshHeads) := by
  refine congrArg Host.Outcome.next ?_
  rw [hcoding]
  dsimp only
  rw [if_neg (by simp [hruns]), hbuffer]

end Machine

/-- Settles O29: the compressor takes the oldest closed buffer, and a placed block is the band's block from then on.
-/
theorem marlCodesBlocks : Obligations.MarlCodesBlocks := by
  unfold Obligations.MarlCodesBlocks
  refine ⟨fun s n hcoding hruns => ⟨fun hnext => ?_, fun v surplus i b l w hnext hold hquota hchunks => ?_⟩,
    fun s n h => marlBlockStart_of_not_free h n,
    fun s k b ok hcoding hbuffer hruns => ⟨fun hkeep => ?_, fun hdrop => ?_⟩,
    fun s ok h => blockPlaced_of_not_coding h ok⟩
  · exact (marlBlockStart_of_free hcoding hruns n).trans (congrArg _ (State.marlStart_of_none hnext n 7))
  · have hstart := State.marlStart_of_room hnext hold hquota hchunks n 7
    rw [s.marlAccrue_silt] at hstart
    exact (marlBlockStart_of_free hcoding hruns n).trans (congrArg _ hstart)
  · refine (blockPlaced_of_coding hcoding hbuffer hruns ok).trans ?_
    rw [if_neg (by simp [hkeep])]
    rfl
  · refine (blockPlaced_of_coding hcoding hbuffer hruns ok).trans ?_
    rw [if_pos hdrop]
    rfl

end Sys2Proof
end

section
/-! PROOFS. Head ports: their parameters and their service states (08_head_ports R481 to R510): statements O30 and
O31. -/

namespace Sys2Proof

open Machine

namespace Machine

/-! ### A head takes a state (R496, R481) -/

/-- The registers of a head that takes a state; `past` when stage 2 of a power-down has begun. -/
def Head.taking (x : Head) (st : HeadState) (cause : OutCause) (past : Bool) : Head :=
  let live : Bool := st = .powering || st = .inService
  { x with
    state := st, cause := cause, pen := live && !past
    dots := if st = .powering then [] else x.dots
    powerChecked := if st = .inService then x.powerChecked else false
    scanReq := if live then x.scanReq else false
    scanDot := if live then x.scanDot else none
    scanning := if live then x.scanning else false
    badSupply := 0, badTherm := 0
    disablePending := if st = .inService then x.disablePending else false }

/-- What a head that takes a state does before it is told: its registers, and the model's node on power-up. -/
def State.headTo (s : State) (h : Fin 4) (st : HeadState) (cause : OutCause) : State :=
  let s1 := s.onHead h fun x => x.taking st cause (s.pwr.pastStage 2)
  if st = .powering then s1.onEnergy h fun e => { e with p := none } else s1

/-- But for the registers of the head and the energy model, nothing changes. -/
theorem State.headTo_frame (s : State) (h : Fin 4) (st : HeadState) (cause : OutCause) :
    s.headTo h st cause = { s with paper := { s.paper with
      head := vmod s.paper.head h fun x => x.taking st cause (s.pwr.pastStage 2)
      energy := (s.headTo h st cause).paper.energy } } := by
  unfold State.headTo
  dsimp only
  split <;> rfl

theorem State.headTo_energy_of_not_powering (s : State) (h : Fin 4) {st : HeadState} (hst : st ≠ .powering)
    (cause : OutCause) : (s.headTo h st cause).paper.energy = s.paper.energy := by
  unfold State.headTo
  dsimp only
  rw [if_neg hst]
  rfl

theorem State.setHead_eq (s : State) (h : Fin 4) (st : HeadState) (cause : OutCause) :
    s.setHead h st cause = ((s.headTo h st cause).headEvent h).settleHeadOut := rfl

theorem State.headEvent_reports (s : State) (h : Fin 4) : Reports s (s.headEvent h) := State.raiseBoth_reports _ _ _ _ _

theorem Pwr.settle_headOut (p : Pwr) : p.settle.headOut = p.headOut := by
  unfold Pwr.settle
  cases p.mode <;> cases p.anyLoss <;> rfl

/-- But for what is reported, only the power state changes. -/
def ModeAlone (s t : State) : Prop := Reports { s with pwr := t.pwr } t

theorem ModeAlone.of_reports {s t : State} (h : Reports s t) : ModeAlone s t := by
  unfold ModeAlone
  rw [h.pwr]
  exact h

theorem ModeAlone.trans {s t u : State} (h : ModeAlone s t) (k : ModeAlone t u) : ModeAlone s u := by
  unfold ModeAlone Reports at *
  rw [h] at k
  exact k

theorem State.changeMode_alone (s : State) (f : Pwr → Pwr) : ModeAlone s (s.changeMode f) := by
  unfold ModeAlone
  rw [State.changeMode_pwr]
  exact s.changeMode_reports f

theorem State.setHead_alone (s : State) (h : Fin 4) (st : HeadState) (cause : OutCause) :
    ModeAlone (s.headTo h st cause) (s.setHead h st cause) := by
  rw [State.setHead_eq]
  unfold State.settleHeadOut
  exact (ModeAlone.of_reports (State.headEvent_reports _ h)).trans (State.changeMode_alone _ _)

theorem State.setHead_paper (s : State) (h : Fin 4) (st : HeadState) (cause : OutCause) :
    (s.setHead h st cause).paper = (s.headTo h st cause).paper := (s.setHead_alone h st cause).paper

theorem State.setHead_headOut (s : State) (h : Fin 4) (st : HeadState) (cause : OutCause) :
    (s.setHead h st cause).pwr.headOut = ((List.finRange 4).any fun (k : Fin 4) =>
      (s.setHead h st cause).paper.head[k].state = .out || (s.setHead h st cause).paper.head[k].state = .powering) := by
  rw [State.setHead_paper, ← (State.headEvent_reports (s.headTo h st cause) h).paper, State.setHead_eq,
    State.settleHeadOut, State.changeMode_pwr, Pwr.settle_headOut]

/-- The paper path of a head taken to a state. -/
theorem State.setHead_head (s : State) (h : Fin 4) (st : HeadState) (cause : OutCause) :
    (s.setHead h st cause).paper.head = vmod s.paper.head h fun x => x.taking st cause (s.pwr.pastStage 2) := by
  rw [State.setHead_paper, State.headTo_frame]

theorem State.setHead_self (s : State) (h : Fin 4) (st : HeadState) (cause : OutCause) :
    (s.setHead h st cause).paper.head[h] = (s.paper.head[h]).taking st cause (s.pwr.pastStage 2) := by
  rw [State.setHead_head, vmod_self]

theorem State.setHead_goes (s : State) (h : Fin 4) (st : HeadState) (cause : OutCause) :
    HeadGoes h st cause s (s.setHead h st cause) := by
  have halone := s.setHead_alone h st cause
  have hframe := s.headTo_frame h st cause
  have hself := s.setHead_self h st cause
  refine ⟨by rw [hself]; rfl, by rw [hself]; rfl, by rw [hself]; rfl, fun k hk => ?_, s.setHead_headOut h st cause,
    ?_, ?_, ?_, ?_, ?_⟩
  · rw [State.setHead_head, vmod_other _ _ _ _ (Ne.symm hk)]
  · rw [State.setHead_paper, hframe]
  · rw [State.setHead_paper, hframe]
  · rw [halone.vi, hframe]
  · rw [halone.loam, hframe]
  · rw [halone.island, hframe]

/-- Of what `HeadGoes` reads, only head `h` changes. -/
structure HeadAlone (h : Fin 4) (s t : State) : Prop where
  pwr : t.pwr = s.pwr
  others : ∀ k : Fin 4, k ≠ h → t.paper.head[k] = s.paper.head[k]
  axis : t.paper.axis = s.paper.axis
  run : t.paper.run = s.paper.run
  vi : t.vi = s.vi
  loam : t.loam = s.loam
  island : t.island = s.island

theorem HeadAlone.trans {h : Fin 4} {s t u : State} (a : HeadAlone h s t) (b : HeadAlone h t u) : HeadAlone h s u where
  pwr := b.pwr.trans a.pwr
  others k hk := (b.others k hk).trans (a.others k hk)
  axis := b.axis.trans a.axis
  run := b.run.trans a.run
  vi := b.vi.trans a.vi
  loam := b.loam.trans a.loam
  island := b.island.trans a.island

theorem HeadAlone.of_reports {s t : State} (hr : Reports s t) (h : Fin 4) : HeadAlone h s t :=
  ⟨hr.pwr, fun _ _ => by rw [hr.paper], by rw [hr.paper], by rw [hr.paper], hr.vi, hr.loam, hr.island⟩

theorem State.onHead_alone (s : State) (h : Fin 4) (f : Head → Head) : HeadAlone h s (s.onHead h f) :=
  ⟨rfl, fun _ hk => vmod_other _ _ _ _ (Ne.symm hk), rfl, rfl, rfl, rfl, rfl⟩

theorem State.onEnergy_alone (s : State) (h k : Fin 4) (f : Energy → Energy) : HeadAlone h s (s.onEnergy k f) :=
  ⟨rfl, fun _ _ => rfl, rfl, rfl, rfl, rfl, rfl⟩

theorem State.setPar_alone (s : State) (h : Fin 4) (idx : Nat) (vi : Option (Fin 8)) (x : Par) :
    HeadAlone h s (s.setPar idx vi x) := ⟨rfl, fun _ _ => rfl, rfl, rfl, rfl, rfl, rfl⟩

theorem State.wrote_alone (s : State) (h : Fin 4) (w : Fin 11) (idx : Nat) (e : BitVec 4) :
    HeadAlone h s (wrote w idx e s) := ⟨rfl, fun _ _ => rfl, rfl, rfl, rfl, rfl, rfl⟩

end Machine

/-- What is done to a head before it goes to a state does not count. -/
theorem HeadGoes.before {h : Fin 4} {st : HeadState} {cause : OutCause} {s u t : State} (g : HeadGoes h st cause u t)
    (a : HeadAlone h s u) : HeadGoes h st cause s t := by
  obtain ⟨hst, hcause, hpen, hothers, hout, haxis, hrun, hvi, hloam, hisland⟩ := g
  exact ⟨hst, hcause, by rw [hpen, a.pwr], fun k hk => (hothers k hk).trans (a.others k hk), hout, haxis.trans a.axis,
    hrun.trans a.run, hvi.trans a.vi, hloam.trans a.loam, hisland.trans a.island⟩

/-- Nor does what is done after it, where the head stays in its state. -/
theorem HeadGoes.after {h : Fin 4} {st : HeadState} {cause : OutCause} {s t u : State} (g : HeadGoes h st cause s t)
    (a : HeadAlone h t u) (hst : u.paper.head[h].state = t.paper.head[h].state)
    (hcause : u.paper.head[h].cause = t.paper.head[h].cause) (hpen : u.paper.head[h].pen = t.paper.head[h].pen) :
    HeadGoes h st cause s u := by
  obtain ⟨gst, gcause, gpen, gothers, gout, gaxis, grun, gvi, gloam, gisland⟩ := g
  have hstates (k : Fin 4) : u.paper.head[k].state = t.paper.head[k].state := by
    by_cases hk : k = h
    · rw [hk, hst]
    · rw [a.others k hk]
  refine ⟨hst.trans gst, hcause.trans gcause, hpen.trans gpen, fun k hk => (a.others k hk).trans (gothers k hk), ?_,
    a.axis.trans gaxis, a.run.trans grun, a.vi.trans gvi, a.loam.trans gloam, a.island.trans gisland⟩
  rw [a.pwr, gout]
  simp only [hstates]

namespace Machine

/-! ### Writes of head.cfg and head.ctrl -/

theorem State.itemWrite_head (u : State) (w : Fin 11) (h : Fin 4) {off : Nat} (hoff : off < 0x400) (vi : Option (Fin 8))
    (x : Par) : u.itemWrite w (headAt h off) vi x = u.headItemWrite w h off x vi := by
  have hunit : unitOf 4 (headAt h off) 0x1000 0x400 = h := by
    apply Fin.ext
    simp only [unitOf, headAt, Fin.ofNat]
    have := h.isLt
    omega
  have hrest : headAt h off % 0x400 = off := by
    unfold headAt
    omega
  have hlow : ¬ headAt h off < 0x1000 := by unfold headAt; omega
  have hhigh : headAt h off < 0x2000 := by have := h.isLt; unfold headAt; omega
  unfold State.itemWrite
  rw [if_neg hlow, if_pos hhigh, hunit, hrest]

theorem headCfg_takes {s u : State} {w : Fin 11} {h : Fin 4} {v x : Par} {r : ParRow}
    (k : Takes s w (headAt h 0) v r u x) :
    exec (.headCfgWrite w h v) s = .next (wrote w (headAt h 0) errOk (u.writeHeadCfg h x)) :=
  congrArg Host.Outcome.next (k.own (u.itemWrite_head w h (by decide) _ x) (by decide))

theorem headCtrl_takes {s u : State} {w : Fin 11} {h : Fin 4} {v x : Par} {r : ParRow}
    (k : Takes s w (headAt h 6) v r u x) :
    s.ownCommit w (headAt h 6) v = wrote w (headAt h 6) errOk (u.writeHeadCtrl h x) :=
  k.own (u.itemWrite_head w h (by decide) _ x) (by decide)

/-- The device reset value of a parameter. -/
def parDefault (idx : Nat) : Par :=
  match parRow idx with
  | some r => parReset r idx
  | none => 0

theorem State.parAt_eq (s : State) (idx : Nat) (vi : Option (Fin 8)) :
    s.parAt idx vi = (sparseFind (parKey idx vi) s.par).getD (parDefault idx) := by
  unfold State.parAt
  cases sparseFind (parKey idx vi) s.par <;> rfl

theorem State.setPar_table (s : State) (idx : Nat) (vi : Option (Fin 8)) (x : Par) : (s.setPar idx vi x).par =
    if x = parDefault idx then sparseDel (parKey idx vi) s.par else sparsePut (parKey idx vi) x s.par := rfl

/-- A plain parameter reads as it was written. -/
theorem State.parAt_setPar_self (s : State) (idx : Nat) (vi : Option (Fin 8)) (x : Par) :
    (s.setPar idx vi x).parAt idx vi = x := by
  rw [State.parAt_eq, State.setPar_table]
  by_cases hx : x = parDefault idx
  · rw [if_pos hx, sparseFind_del_self]
    exact hx.symm
  · rw [if_neg hx, sparseFind_put_self]
    rfl

theorem State.setHead_parG (s : State) (h : Fin 4) (st : HeadState) (cause : OutCause) (idx : Nat) :
    (s.setHead h st cause).parG idx = s.parG idx := by
  have hpar : (s.setHead h st cause).par = s.par := by rw [(s.setHead_alone h st cause).par, s.headTo_frame]
  unfold State.parG State.parAt
  rw [hpar]

theorem State.setHead_energy_of_not_powering (s : State) (h : Fin 4) {st : HeadState} (hst : st ≠ .powering)
    (cause : OutCause) : (s.setHead h st cause).paper.energy = s.paper.energy := by
  rw [State.setHead_paper, State.headTo_energy_of_not_powering s h hst]

theorem State.writeHeadCfg_fits {u : State} {h : Fin 4} {x : Par} (hst : u.paper.head[h].state = .unfitted)
    (hx : bit x 0 = true) : u.writeHeadCfg h x = (((u.setPar (headAt h 0) none x).onEnergy h fun e => { e with
      seedNodes := true }).setHead h .out (if u.paper.head[h].present then .manual else .notPresent)) := by
  unfold State.writeHeadCfg
  rw [hst]
  exact if_pos hx

theorem State.writeHeadCfg_unfits {u : State} {h : Fin 4} {x : Par} (hst : u.paper.head[h].state = .out)
    (hx : bit x 0 = false) : u.writeHeadCfg h x = (u.setPar (headAt h 0) none x).setHead h .unfitted .none := by
  unfold State.writeHeadCfg
  rw [hst]
  exact if_neg (by simp [hx])

theorem headCfg_fits {s u : State} {w : Fin 11} {h : Fin 4} {v x : Par} {r : ParRow}
    (k : Takes s w (headAt h 0) v r u x) (hst : u.paper.head[h].state = .unfitted) (hx : bit x 0 = true) :
    Answers (.headCfgWrite w h v) s fun t =>
      HeadGoes h .out (if u.paper.head[h].present then .manual else .notPresent) u t
        ∧ t.paper.energy[h] = { u.paper.energy[h] with seedNodes := true } ∧ t.parG (headAt h 0) = x := by
  refine ⟨_, headCfg_takes k, ?_, ?_, ?_⟩ <;> rw [State.writeHeadCfg_fits hst hx]
  · exact ((State.setHead_goes _ h _ _).before ((u.setPar_alone h _ _ _).trans (State.onEnergy_alone _ h h _))).after
      (State.wrote_alone _ h _ _ _) rfl rfl rfl
  · have henergy := State.setHead_energy_of_not_powering ((u.setPar (headAt h 0) none x).onEnergy h fun e => { e with
      seedNodes := true }) h (st := .out) (by decide) (if u.paper.head[h].present then .manual else .notPresent)
    exact (congrArg (·[h]) henergy).trans (vmod_self _ _ _)
  · refine (State.setHead_parG _ h _ _ _).trans ?_
    exact State.parAt_setPar_self u _ _ _

theorem headCfg_unfits {s u : State} {w : Fin 11} {h : Fin 4} {v x : Par} {r : ParRow}
    (k : Takes s w (headAt h 0) v r u x) (hst : u.paper.head[h].state = .out) (hx : bit x 0 = false) :
    Answers (.headCfgWrite w h v) s fun t => HeadGoes h .unfitted .none u t ∧ t.parG (headAt h 0) = x := by
  refine ⟨_, headCfg_takes k, ?_, ?_⟩ <;> rw [State.writeHeadCfg_unfits hst hx]
  · exact ((State.setHead_goes _ h _ _).before (u.setPar_alone h _ _ _)).after (State.wrote_alone _ h _ _ _) rfl rfl rfl
  · exact (State.setHead_parG _ h _ _ _).trans (State.parAt_setPar_self u _ _ _)

/-- head.ctrl that asks for no scan and gives none up. -/
theorem State.writeHeadCtrl_enable {u : State} {h : Fin 4} {x : Par} (h0 : bit x 0 = true) (h1 : bit x 1 = false)
    (h2 : bit x 2 = false) : u.writeHeadCtrl h x = u.enableHead h := by
  simp [State.writeHeadCtrl, h0, h1, h2]

theorem State.writeHeadCtrl_disable {u : State} {h : Fin 4} {x : Par} (h0 : bit x 0 = false) (h1 : bit x 1 = false)
    (h2 : bit x 2 = false) : u.writeHeadCtrl h x = u.disableHead h := by
  simp [State.writeHeadCtrl, h0, h1, h2]

theorem State.enableHead_of_inService {u : State} {h : Fin 4} (hst : u.paper.head[h].state = .inService) :
    u.enableHead h = u := by
  unfold State.enableHead
  dsimp only
  rw [hst]

theorem State.writeHeadCtrl_scan {u : State} {h : Fin 4} {x : Par} (h0 : bit x 0 = true) (h1 : bit x 1 = true)
    (h2 : bit x 2 = false) (hst : u.paper.head[h].state = .inService) :
    u.writeHeadCtrl h x = u.onHead h fun y => { y with scanReq := true } := by
  simp [State.writeHeadCtrl, h0, h1, h2, State.enableHead_of_inService hst]

theorem State.writeHeadCtrl_scanAbort {u : State} {h : Fin 4} {x : Par} (h0 : bit x 0 = true) (h1 : bit x 1 = false)
    (h2 : bit x 2 = true) (hst : u.paper.head[h].state = .inService) :
    u.writeHeadCtrl h x = u.onHead h fun y => { y with scanReq := false, scanDot := none, scanning := false } := by
  simp [State.writeHeadCtrl, h0, h1, h2, State.enableHead_of_inService hst]

/-- The causes of OUT that let a head be enabled (R496). -/
def State.mayEnable (u : State) (h : Fin 4) : Prop :=
  (u.paper.head[h].cause ≠ .notPresent ∧ u.paper.head[h].cause ≠ .hotplug)
    ∨ (u.paper.head[h].cause = .hotplug ∧ u.pwr.mode = .service)

theorem State.enableHead_goes {u : State} {h : Fin 4} (hst : u.paper.head[h].state = .out) (hmay : u.mayEnable h) :
    u.enableHead h = (u.onHead h fun y => { y with enable := true, enableRefused := false, retries := 0 }).setHead h
      .powering .none := by
  unfold State.enableHead
  dsimp only
  rw [hst]
  dsimp only
  obtain ⟨hp, hh⟩ | ⟨hc, hm⟩ := hmay
  · split
    · exact absurd ‹_› hp
    · exact absurd ‹_› hh
    · rfl
  · rw [hc]
    exact if_pos hm

theorem State.enableHead_refuses {u : State} {h : Fin 4} (hst : u.paper.head[h].state = .out)
    (hc : u.paper.head[h].cause = .notPresent ∨ (u.paper.head[h].cause = .hotplug ∧ u.pwr.mode ≠ .service)) :
    u.enableHead h = u.onHead h fun y => { y with enable := false, enableRefused := true } := by
  unfold State.enableHead
  dsimp only
  rw [hst]
  dsimp only
  obtain hc | ⟨hc, hm⟩ := hc
  · rw [hc]
  · rw [hc]
    exact if_neg hm

theorem headEnable_goes {s u : State} {w : Fin 11} {h : Fin 4} {v x : Par} {r : ParRow}
    (k : Takes s w (headAt h 6) (withBit v 0) r u x) (h0 : bit x 0 = true) (h1 : bit x 1 = false) (h2 : bit x 2 = false)
    (hst : u.paper.head[h].state = .out) (hmay : u.mayEnable h) : Answers (.headEnable w h v) s fun t =>
      HeadGoes h .powering .none u t ∧ t.paper.head[h].enable = true ∧ t.paper.head[h].retries = 0 := by
  refine ⟨_, congrArg Host.Outcome.next (headCtrl_takes k), ?_⟩
  rw [State.writeHeadCtrl_enable h0 h1 h2, State.enableHead_goes hst hmay]
  have hself := State.setHead_self (u.onHead h fun y => { y with enable := true, enableRefused := false, retries := 0 })
    h .powering .none
  refine ⟨((State.setHead_goes _ h _ _).before (u.onHead_alone h _)).after (State.wrote_alone _ h _ _ _) rfl rfl rfl,
    ?_, ?_⟩
  · refine (congrArg Head.enable hself).trans ?_
    simp [Head.taking]
  · refine (congrArg Head.retries hself).trans ?_
    simp [Head.taking]

theorem headDisable_goes {s u : State} {w : Fin 11} {h : Fin 4} {v x : Par} {r : ParRow}
    (k : Takes s w (headAt h 6) (v &&& 0xFFFFFFFE) r u x) (h1 : bit x 1 = false) (h2 : bit x 2 = false)
    (hst : u.paper.head[h].state = .powering) : Answers (.headDisable w h v) s fun t =>
      HeadGoes h .out .manual u t ∧ t.paper.head[h].enable = false := by
  have h0 : bit x 0 = false := by
    rw [k.value]
    simp [bit]
  refine ⟨_, congrArg Host.Outcome.next (headCtrl_takes k), ?_⟩
  have hdisable : u.disableHead h = (u.onHead h fun y => { y with enable := false }).setHead h .out .manual := by
    unfold State.disableHead
    rw [hst]
  rw [State.writeHeadCtrl_disable h0 h1 h2, hdisable]
  have hself := State.setHead_self (u.onHead h fun y => { y with enable := false }) h .out .manual
  refine ⟨((State.setHead_goes _ h _ _).before (u.onHead_alone h _)).after (State.wrote_alone _ h _ _ _) rfl rfl rfl,
    (congrArg Head.enable hself).trans ?_⟩
  simp [Head.taking]

end Machine

/-- Settles O30: the write reaches the port's own commit, and `setHead_goes` says what a change of service state is.
-/
theorem headParameterWrites : Obligations.HeadParameterWrites := by
  unfold Obligations.HeadParameterWrites
  intro s u w h v x r
  refine ⟨headCfg_fits, headCfg_unfits, fun k h0 h1 h2 hst => ⟨fun hp hh => ?_, fun hc hm => ?_, fun hc => ?_⟩,
    headDisable_goes, fun k h0 h1 h2 hst => ?_, fun k h0 h1 h2 hst => ?_⟩
  · exact headEnable_goes k h0 h1 h2 hst (.inl ⟨hp, hh⟩)
  · exact headEnable_goes k h0 h1 h2 hst (.inr ⟨hc, hm⟩)
  · refine congrArg Host.Outcome.next ((headCtrl_takes k).trans ?_)
    rw [State.writeHeadCtrl_enable h0 h1 h2, State.enableHead_refuses hst hc]
    rfl
  · refine congrArg Host.Outcome.next ((headCtrl_takes k).trans ?_)
    rw [State.writeHeadCtrl_scan h0 h1 h2 hst]
    rfl
  · refine congrArg Host.Outcome.next ((headCtrl_takes k).trans ?_)
    rw [State.writeHeadCtrl_scanAbort h0 h1 h2 hst]
    rfl

namespace Machine

/-! ### A head with nothing on its path goes OUT (R483, R496, R507) -/

/-- What the end of the strobes leaves of the model. -/
theorem State.endStrobes_spec (s : State) (h : Fin 4) (t : Rat) (atOnce : Bool) :
    (∃ n, (s.endStrobes h t atOnce).paper.head = vmod s.paper.head h fun x => { x with trunc := x.trunc - n })
      ∧ (∀ k : Fin 4, k ≠ h → (s.endStrobes h t atOnce).paper.energy[k] = s.paper.energy[k])
      ∧ (s.endStrobes h t atOnce).paper.energy[h].tRef = s.paper.energy[h].tRef := by
  refine ⟨⟨_, rfl⟩, fun k hk => ?_, ?_⟩
  · unfold State.endStrobes
    dsimp only
    rw [State.onEnergy_paper]
    exact vmod_other _ _ _ _ (Ne.symm hk)
  · unfold State.endStrobes
    dsimp only
    rw [State.onEnergy_paper]
    exact vmod_keeps Energy.tRef s.paper.energy h rfl h

theorem State.endStrobes_alone (s : State) (h : Fin 4) (t : Rat) (atOnce : Bool) :
    HeadAlone h s (s.endStrobes h t atOnce) := by
  obtain ⟨⟨n, hn⟩, -, -⟩ := s.endStrobes_spec h t atOnce
  exact ⟨rfl, fun k hk => by rw [hn, vmod_other _ _ _ _ (Ne.symm hk)], rfl, rfl, rfl, rfl, rfl⟩

/-- A head with no job on its path goes OUT: its registers, but for the count of strobes cut, and the model. -/
structure GoneOut (h : Fin 4) (cause : OutCause) (s t : State) : Prop where
  goes : HeadGoes h .out cause s t
  head : ∃ n, t.paper.head[h] = { (s.paper.head[h]).taking .out cause (s.pwr.pastStage 2) with trunc := n }
  energy : ∀ k : Fin 4, k ≠ h → t.paper.energy[k] = s.paper.energy[k]
  tRef : t.paper.energy[h].tRef = s.paper.energy[h].tRef

theorem State.headOutOf_gone {s : State} {h : Fin 4} (hrun : s.paper.run[h] = none) (cause : OutCause) :
    GoneOut h cause s (s.headOutOf h cause) := by
  have hgoes := s.setHead_goes h .out cause
  have hself := s.setHead_self h .out cause
  have henergy := s.setHead_energy_of_not_powering h (st := .out) (by decide) cause
  unfold State.headOutOf State.headOutAt
  generalize s.setHead h .out cause = u at hgoes hself henergy ⊢
  have hu : u.paper.run[h] = none := by rw [hgoes.2.2.2.2.2.2.1, hrun]
  have halone := u.endStrobes_alone h s.now (cause = .overcurrent || cause = .notPresent)
  obtain ⟨⟨n, hn⟩, hothers, href⟩ := u.endStrobes_spec h s.now (cause = .overcurrent || cause = .notPresent)
  generalize u.endStrobes h s.now (cause = .overcurrent || cause = .notPresent) = w at halone hn hothers href ⊢
  have hstop : w.stopJobAt h s.now .failed 6 = w := by
    unfold State.stopJobAt
    rw [halone.run, hu]
  have hw : w.paper.head[h] = { u.paper.head[h] with trunc := u.paper.head[h].trunc - n } := by rw [hn, vmod_self]
  rw [hstop]
  refine ⟨hgoes.after halone ?_ ?_ ?_, ⟨_, hw.trans (by rw [hself])⟩, fun k hk => (hothers k hk).trans ?_,
    href.trans ?_⟩
  · rw [hw]
  · rw [hw]
  · rw [hw]
  · rw [henergy]
  · rw [henergy]

theorem overcurrentTrip_goes {s : State} {h : Fin 4} (hrun : s.paper.run[h] = none)
    (hst : s.paper.head[h].state = .inService ∨ s.paper.head[h].state = .powering) :
    Answers (.overcurrentTrip h) s fun t =>
      HeadGoes h .out .overcurrent s t ∧ t.paper.head[h].ocCount = s.paper.head[h].ocCount + 1 := by
  have hexec : exec (.overcurrentTrip h) s = .next ((((s.onHead h fun x => { x with
      ocCount := x.ocCount + 1 }).raiseBoth (hasHead h) 0x53 (byteOf h.val)
        (BitVec.ofNat 16 s.paper.head[h].iMeas))).headOutOf h .overcurrent) := by
    refine congrArg Host.Outcome.next ?_
    obtain hst | hst := hst <;> rw [hst]
  have hr := State.raiseBoth_reports (s.onHead h fun x => { x with ocCount := x.ocCount + 1 }) (hasHead h) 0x53
    (byteOf h.val) (BitVec.ofNat 16 s.paper.head[h].iMeas)
  refine ⟨_, hexec, ?_⟩
  have halone := (s.onHead_alone h fun x => { x with ocCount := x.ocCount + 1 }).trans (.of_reports hr h)
  have hgone := State.headOutOf_gone (h := h) (cause := .overcurrent) (by rw [halone.run]; exact hrun)
  refine ⟨hgone.goes.before halone, ?_⟩
  obtain ⟨n, hn⟩ := hgone.head
  rw [hn, hr.paper]
  simp [Head.taking]

theorem hotplug_goes {s : State} {h : Fin 4} (hpresent : s.headPresent h = true) (hst : s.paper.head[h].state = .out)
    (hcause : s.paper.head[h].cause = .notPresent) : Answers (.hotplug h) s fun t =>
      HeadGoes h .out .hotplug s t ∧ t.paper.head[h].present = true := by
  refine ⟨_, congrArg Host.Outcome.next ((if_pos hpresent).trans (if_pos ⟨hst, hcause⟩)),
    (State.setHead_goes _ h _ _).before (s.onHead_alone h _), ?_⟩
  rw [State.setHead_self]
  simp [Head.taking]

theorem presenceLoss_goes {s : State} {h : Fin 4} (hrun : s.paper.run[h] = none)
    (hst : s.paper.head[h].state ≠ .unfitted) (hcause : s.paper.head[h].cause ≠ .notPresent) :
    Answers (.presenceLoss h) s fun t =>
      HeadGoes h .out .notPresent s t ∧ t.paper.head[h].present = false := by
  have halone := s.onHead_alone h fun x => { x with present := false }
  by_cases hout : s.paper.head[h].state = .out
  · have hexec : exec (.presenceLoss h) s
        = .next ((s.onHead h fun x => { x with present := false }).setHead h .out .notPresent) := by
      refine congrArg Host.Outcome.next ?_
      rw [hout]
      exact if_neg hcause
    refine ⟨_, hexec, (State.setHead_goes _ h _ _).before halone, ?_⟩
    rw [State.setHead_self]
    simp [Head.taking]
  · have hexec : exec (.presenceLoss h) s
        = .next ((s.onHead h fun x => { x with present := false }).headOutOf h .notPresent) := by
      refine congrArg Host.Outcome.next ?_
      cases hs : s.paper.head[h].state
      · exact absurd hs hst
      · exact absurd hs hout
      · rfl
      · rfl
    have hgone := State.headOutOf_gone (s := s.onHead h fun x => { x with present := false }) (h := h) hrun .notPresent
    refine ⟨_, hexec, hgone.goes.before halone, ?_⟩
    obtain ⟨n, hn⟩ := hgone.head
    rw [hn]
    simp [Head.taking]

theorem autoRetry_goes {s : State} {h : Fin 4} (hst : s.paper.head[h].state = .out) (hbit : bit (s.hPar h 0) 10 = true)
    (hretries : s.paper.head[h].retries.toNat < 3) (hcause : s.paper.head[h].cause = .supply) :
    Answers (.autoRetry h) s fun t =>
      HeadGoes h .powering .none s t ∧ t.paper.head[h].retries = s.paper.head[h].retries + 1 := by
  refine ⟨_, congrArg Host.Outcome.next (if_pos ⟨hst, hbit, hretries, .inl hcause⟩),
    (State.setHead_goes _ h _ _).before (s.onHead_alone h _), ?_⟩
  rw [State.setHead_self]
  simp [Head.taking]

/-! ### Readings of the thermistor and the supply (R496; 09_energy R539, R540, R555) -/

theorem Reports.onEnergy {s t : State} (k : Reports s t) (h : Fin 4) (f : Energy → Energy) :
    Reports (s.onEnergy h f) (t.onEnergy h f) := by
  rw [k]
  rfl

theorem Reports.onHead {s t : State} (k : Reports s t) (h : Fin 4) (f : Head → Head) :
    Reports (s.onHead h f) (t.onHead h f) := by
  rw [k]
  rfl

/-- The envelope is judged anew, and no more. -/
theorem State.settleEnvelope_reports (s : State) (h : Fin 4) :
    ∃ b, Reports (s.onEnergy h fun e => { e with envelope := b }) (s.settleEnvelope h) := by
  unfold State.settleEnvelope
  split
  · refine ⟨s.paper.energy[h].envelope, ?_⟩
    have hid : s.onEnergy h (fun e => { e with envelope := s.paper.energy[h].envelope }) = s := by
      rw [State.onEnergy, State.onPaper, vmod_id _ _ rfl]
    rw [hid]
    exact Reports.refl s
  · refine ⟨s.envelopeBits h, ?_⟩
    dsimp only
    refine Reports.onEnergy (reports_foldl ?_ _ _) h _
    intro u i
    split
    · exact Reports.refl u
    · exact State.raise0_reports _ _ _ _

/-- What a thermistor reading makes of the energy model of a head, apart from the envelope (R539, R540). -/
def Energy.sampled (e : Energy) (t : Int) : Energy :=
  if e.seedNodes then
    { e with tRef := t, seedNodes := false, tSub := BitVec.ofInt 32 (t * 4096)
             node := Vector.replicate 64 (BitVec.ofInt 32 (t * 4096)) }
  else { e with tRef := t }

/-- T_r after a reading (R539): an implausible one leaves it. -/
def State.sampleRef (s : State) (h : Fin 4) (code : BitVec 12) : Int :=
  if badThermistor code.toNat then s.paper.energy[h].tRef else s.ntc h code.toNat

theorem State.takeThermistor_reports (s : State) (h : Fin 4) (code : BitVec 12) :
    ∃ b, Reports ((s.onHead h fun x => { x with tCode := code }).onEnergy h fun e =>
      { e.sampled (s.sampleRef h code) with envelope := b }) (s.takeThermistor h code) := by
  obtain ⟨b, hb⟩ := State.settleEnvelope_reports ((s.onHead h fun x => { x with tCode := code }).onEnergy h fun e =>
    e.sampled (s.sampleRef h code)) h
  refine ⟨b, ?_⟩
  have hone : (((s.onHead h fun x => { x with tCode := code }).onEnergy h fun e =>
      e.sampled (s.sampleRef h code)).onEnergy h fun e => { e with envelope := b })
      = (s.onHead h fun x => { x with tCode := code }).onEnergy h fun e =>
        { e.sampled (s.sampleRef h code) with envelope := b } := by
    simp [State.onEnergy, State.onPaper]
  rw [hone] at hb
  exact hb

/-- A reading of the thermistor, taken while the converter serves it. -/
def State.thermistorRead (s : State) (h : Fin 4) (code : BitVec 12) : State :=
  ((s.convMade 0 4 h.val).takeThermistor h code).onHead h fun x => { x with
    badTherm := if badThermistor code.toNat then x.badTherm + 1 else 0 }

theorem thermistorSample_taken {s : State} {h : Fin 4} (hpresent : s.headPresent h = true)
    (hruns : s.pwr.islandsRun = true) (code : BitVec 12) : exec (.thermistorSample h code) s = .next (
      if (s.thermistorRead h code).paper.head[h].state = .inService
        ∧ 2 ≤ (s.thermistorRead h code).paper.head[h].badTherm
      then (s.thermistorRead h code).headOutOf h .thermistor else s.thermistorRead h code) :=
  congrArg Host.Outcome.next (if_pos ⟨hpresent, hruns⟩)

/-- But for what is reported, a reading changes the head's registers and its model. -/
theorem State.thermistorRead_reports (s : State) (h : Fin 4) (code : BitVec 12) :
    ∃ b, Reports { (s.convMade 0 4 h.val) with paper := { s.paper with
      head := s.paper.head.set h { s.paper.head[h] with
        badTherm := if badThermistor code.toNat then s.paper.head[h].badTherm + 1 else 0, tCode := code }
      energy := vmod s.paper.energy h fun e => { e.sampled (s.sampleRef h code) with envelope := b } } }
      (s.thermistorRead h code) := by
  obtain ⟨b, hb⟩ := (s.convMade 0 4 h.val).takeThermistor_reports h code
  refine ⟨b, ?_⟩
  have hread := Reports.onHead hb h fun x => { x with
    badTherm := if badThermistor code.toNat then x.badTherm + 1 else 0 }
  simp only [State.onHead, State.onEnergy, State.onPaper, vmod_vmod] at hread
  exact hread

theorem Energy.sampled_spec (e : Energy) (t : Int) (b : BitVec 3) :
    ({ e.sampled t with envelope := b } : Energy).tRef = t
      ∧ ({ e.sampled t with envelope := b } : Energy).seedNodes = false
      ∧ (∀ j : Fin 64, ({ e.sampled t with envelope := b } : Energy).node[j]
        = if e.seedNodes then BitVec.ofInt 32 (t * 4096) else e.node[j])
      ∧ ({ e.sampled t with envelope := b } : Energy).slots = e.slots := by
  unfold Energy.sampled
  split
  · exact ⟨rfl, rfl, fun j => by simp, rfl⟩
  next hs => exact ⟨rfl, by simpa using hs, fun j => rfl, rfl⟩

/-- A reading that leaves the head in its state. -/
theorem State.thermistorRead_taken {s : State} {h : Fin 4} {code : BitVec 12} {n : Nat}
    (hn : n = if badThermistor code.toNat then s.paper.head[h].badTherm + 1 else 0) :
    (s.thermistorRead h code).paper.energy[h].tRef = s.sampleRef h code
      ∧ (s.thermistorRead h code).paper.energy[h].seedNodes = false
      ∧ (∀ j : Fin 64, (s.thermistorRead h code).paper.energy[h].node[j] = if s.paper.energy[h].seedNodes
        then BitVec.ofInt 32 (s.sampleRef h code * 4096) else s.paper.energy[h].node[j])
      ∧ (s.thermistorRead h code).paper.energy[h].slots = s.paper.energy[h].slots
      ∧ (∀ k : Fin 4, k ≠ h → (s.thermistorRead h code).paper.energy[k] = s.paper.energy[k])
      ∧ Reports { (s.convMade 0 4 h.val) with paper := { s.paper with
          head := s.paper.head.set h { s.paper.head[h] with badTherm := n, tCode := code }
          energy := (s.thermistorRead h code).paper.energy } } (s.thermistorRead h code) := by
  obtain ⟨b, hb⟩ := s.thermistorRead_reports h code
  have henergy : (s.thermistorRead h code).paper.energy
      = vmod s.paper.energy h fun e => { e.sampled (s.sampleRef h code) with envelope := b } := by rw [hb.paper]
  rw [henergy, vmod_self]
  obtain ⟨h1, h2, h3, h4⟩ := (s.paper.energy[h]).sampled_spec (s.sampleRef h code) b
  exact ⟨h1, h2, h3, h4, fun k hk => vmod_other _ _ _ _ (Ne.symm hk), by rw [hn]; exact hb⟩

theorem State.thermistorRead_head (s : State) (h : Fin 4) (code : BitVec 12) :
    (s.thermistorRead h code).paper.head[h].state = s.paper.head[h].state
      ∧ (s.thermistorRead h code).paper.head[h].badTherm
        = if badThermistor code.toNat then s.paper.head[h].badTherm + 1 else 0 := by
  obtain ⟨b, hb⟩ := s.thermistorRead_reports h code
  rw [hb.paper]
  simp

theorem thermistorSample_stays {s : State} {h : Fin 4} (hpresent : s.headPresent h = true)
    (hruns : s.pwr.islandsRun = true) {code : BitVec 12}
    (hfew : (if badThermistor code.toNat then s.paper.head[h].badTherm + 1 else 0) < 2) :
    exec (.thermistorSample h code) s = .next (s.thermistorRead h code) := by
  obtain ⟨-, hbad⟩ := s.thermistorRead_head h code
  rw [thermistorSample_taken hpresent hruns, hbad, if_neg (fun k => Nat.not_le.mpr hfew k.2)]

theorem thermistorSample_goes {s : State} {h : Fin 4} (hrun : s.paper.run[h] = none) (hpresent : s.headPresent h = true)
    (hruns : s.pwr.islandsRun = true) {code : BitVec 12} (hbad : badThermistor code.toNat = true)
    (hst : s.paper.head[h].state = .inService) (hsecond : 1 ≤ s.paper.head[h].badTherm) :
    Answers (.thermistorSample h code) s fun t => HeadGoes h .out .thermistor s t
      ∧ t.paper.energy[h].tRef = s.paper.energy[h].tRef
      ∧ ∀ k : Fin 4, k ≠ h → t.paper.energy[k] = s.paper.energy[k] := by
  obtain ⟨hstate, htherm⟩ := s.thermistorRead_head h code
  obtain ⟨href, -, -, -, hothers, hr⟩ := State.thermistorRead_taken (s := s) (h := h) (code := code) rfl
  have hexec := thermistorSample_taken hpresent hruns code
  rw [if_pos ⟨hstate.trans hst, by rw [htherm, if_pos hbad]; omega⟩] at hexec
  have hrun' : (s.thermistorRead h code).paper.run[h] = none := by
    rw [hr.paper]
    exact hrun
  have hgone := State.headOutOf_gone hrun' .thermistor
  have halone : HeadAlone h s (s.thermistorRead h code) := by
    refine ⟨hr.pwr, fun k hk => ?_, by rw [hr.paper], by rw [hr.paper], hr.vi, hr.loam, hr.island⟩
    rw [hr.paper]
    exact vmod_other s.paper.head h k (fun _ => _) (Ne.symm hk)
  refine ⟨_, hexec, hgone.goes.before halone, (hgone.tRef.trans href).trans (if_pos hbad), fun k hk => ?_⟩
  exact (hgone.energy k hk).trans (hothers k hk)

/-! ### The supply's readings -/

/-- A reading of the supply. -/
def State.supplyRead (s : State) (h : Fin 4) (mv : Nat) : State :=
  (s.onHead h fun x => { x with
    vMeas := mv, badSupply := if s.badSupplyMv h mv then x.badSupply + 1 else 0 }).settleEnvelope h

theorem State.supplyRead_reports (s : State) (h : Fin 4) (mv : Nat) :
    ∃ b, Reports { s with paper := { s.paper with
      head := s.paper.head.set h { s.paper.head[h] with
        vMeas := mv, badSupply := if s.badSupplyMv h mv then s.paper.head[h].badSupply + 1 else 0 }
      energy := s.paper.energy.set h { s.paper.energy[h] with envelope := b } } } (s.supplyRead h mv) :=
  State.settleEnvelope_reports _ h

theorem supplySample_taken {s : State} {h : Fin 4} (hrun : s.paper.run[h] = none)
    (hst : s.paper.head[h].state = .inService) (code : BitVec 12) :
    exec (.supplySample h code) s = .next (s.judgeSupply h (s.supplyMv h code.toNat)) :=
  congrArg Host.Outcome.next (if_pos ⟨hst, by rw [hrun]; rfl⟩)

theorem State.judgeSupply_goes {s : State} {h : Fin 4} (hrun : s.paper.run[h] = none)
    (hst : s.paper.head[h].state = .inService) {mv : Nat} (hbad : s.badSupplyMv h mv = true)
    (hsecond : 1 ≤ s.paper.head[h].badSupply) : HeadGoes h .out .supply s (s.judgeSupply h mv) := by
  obtain ⟨b, hr⟩ := s.supplyRead_reports h mv
  have halone : HeadAlone h s (s.supplyRead h mv) := by
    refine ⟨hr.pwr, fun k hk => ?_, by rw [hr.paper], by rw [hr.paper], hr.vi, hr.loam, hr.island⟩
    rw [hr.paper]
    exact vmod_other s.paper.head h k (fun _ => _) (Ne.symm hk)
  have hout : (s.supplyRead h mv).paper.head[h].state = .inService
      ∧ 2 ≤ (s.supplyRead h mv).paper.head[h].badSupply := by
    rw [hr.paper]
    simp only [Fin.getElem_fin, Vector.getElem_set_self]
    exact ⟨hst, by rw [if_pos hbad]; exact Nat.succ_le_succ hsecond⟩
  have hjudge : s.judgeSupply h mv = (s.supplyRead h mv).headOutOf h .supply := if_pos hout
  rw [hjudge]
  exact (State.headOutOf_gone (by rw [halone.run]; exact hrun) .supply).goes.before halone

theorem State.judgeSupply_good {s : State} {h : Fin 4} {mv : Nat} (hgood : s.badSupplyMv h mv = false) :
    ∃ b, Reports { s with paper := { s.paper with
      head := s.paper.head.set h { s.paper.head[h] with vMeas := mv, badSupply := 0 }
      energy := s.paper.energy.set h { s.paper.energy[h] with envelope := b } } } (s.judgeSupply h mv) := by
  obtain ⟨b, hr⟩ := s.supplyRead_reports h mv
  rw [if_neg (by rw [hgood]; decide)] at hr
  have hstay : ¬ ((s.supplyRead h mv).paper.head[h].state = .inService
      ∧ 2 ≤ (s.supplyRead h mv).paper.head[h].badSupply) := by
    rintro ⟨-, h2⟩
    rw [hr.paper] at h2
    simp at h2
  have hjudge : s.judgeSupply h mv = s.supplyRead h mv := if_neg hstay
  rw [hjudge]
  exact ⟨b, hr⟩

/-! ### The readings of power-up (R496) -/

/-- The readings that a POWERING head is judged by. -/
def State.poweringRead (s : State) (h : Fin 4) (mv : Nat) (code : BitVec 12) : State :=
  (s.onHead h fun x => { x with vMeas := mv }).takeThermistor h code

theorem State.poweringRead_reports (s : State) (h : Fin 4) (mv : Nat) (code : BitVec 12) :
    ∃ b, Reports { s with paper := { s.paper with
      head := s.paper.head.set h { s.paper.head[h] with vMeas := mv, tCode := code }
      energy := vmod s.paper.energy h fun e => { e.sampled (s.sampleRef h code) with envelope := b } } }
      (s.poweringRead h mv code) := by
  obtain ⟨b, hb⟩ := (s.onHead h fun x => { x with vMeas := mv }).takeThermistor_reports h code
  refine ⟨b, ?_⟩
  simp only [State.onHead, State.onEnergy, State.onPaper, vmod_vmod] at hb
  exact hb

theorem poweringCheck_past {s : State} (hpast : s.pwr.pastStage 2 = true) (h : Fin 4) (vCode tCode : BitVec 12) :
    exec (.poweringCheck h vCode tCode) s = .next s :=
  congrArg Host.Outcome.next (if_neg (by simp [hpast]))

section
variable {s : State} {h : Fin 4} (hst : s.paper.head[h].state = .powering)
  (hchecked : s.paper.head[h].powerChecked = false)
include hst hchecked

theorem poweringCheck_taken (hpast : s.pwr.pastStage 2 = false) (vCode tCode : BitVec 12) :
    exec (.poweringCheck h vCode tCode) s = .next (
      if s.badSupplyMv h (s.supplyMv h vCode.toNat)
      then (s.poweringRead h (s.supplyMv h vCode.toNat) tCode).headOutOf h .supply
      else if badThermistor tCode.toNat
      then (s.poweringRead h (s.supplyMv h vCode.toNat) tCode).headOutOf h .thermistor
      else (s.poweringRead h (s.supplyMv h vCode.toNat) tCode).onHead h fun x => { x with
        powerChecked := true, scanReq := true }) :=
  congrArg Host.Outcome.next (if_pos ⟨hst, by rw [hchecked]; rfl, by rw [hpast]; rfl⟩)

theorem poweringCheck_goes (hrun : s.paper.run[h] = none) (hpast : s.pwr.pastStage 2 = false) {vCode : BitVec 12}
    (hbad : s.badSupplyMv h (s.supplyMv h vCode.toNat) = true) (tCode : BitVec 12) :
    Answers (.poweringCheck h vCode tCode) s fun t => HeadGoes h .out .supply s t := by
  obtain ⟨b, hr⟩ := s.poweringRead_reports h (s.supplyMv h vCode.toNat) tCode
  have hexec := poweringCheck_taken hst hchecked hpast vCode tCode
  rw [if_pos hbad] at hexec
  have halone : HeadAlone h s (s.poweringRead h (s.supplyMv h vCode.toNat) tCode) := by
    refine ⟨hr.pwr, fun k hk => ?_, by rw [hr.paper], by rw [hr.paper], hr.vi, hr.loam, hr.island⟩
    rw [hr.paper]
    exact vmod_other s.paper.head h k (fun _ => _) (Ne.symm hk)
  exact ⟨_, hexec, (State.headOutOf_gone (by rw [halone.run]; exact hrun) .supply).goes.before halone⟩

theorem poweringCheck_passes (hpast : s.pwr.pastStage 2 = false) {vCode tCode : BitVec 12}
    (hsupply : s.badSupplyMv h (s.supplyMv h vCode.toNat) = false) (htherm : badThermistor tCode.toNat = false) :
    Answers (.poweringCheck h vCode tCode) s fun t =>
      t.paper.energy[h].tRef = s.ntc h tCode.toNat ∧ t.paper.energy[h].slots = s.paper.energy[h].slots
      ∧ (∀ k : Fin 4, k ≠ h → t.paper.energy[k] = s.paper.energy[k])
      ∧ Reports { s with paper := { s.paper with
          head := s.paper.head.set h { s.paper.head[h] with
            vMeas := s.supplyMv h vCode.toNat, tCode := tCode, powerChecked := true, scanReq := true }
          energy := t.paper.energy } } t := by
  obtain ⟨b, hr⟩ := s.poweringRead_reports h (s.supplyMv h vCode.toNat) tCode
  have hexec := poweringCheck_taken hst hchecked hpast vCode tCode
  rw [if_neg (by rw [hsupply]; decide), if_neg (by rw [htherm]; decide)] at hexec
  have hpass := Reports.onHead hr h fun x => { x with powerChecked := true, scanReq := true }
  refine ⟨_, hexec, ?_⟩
  generalize (s.poweringRead h (s.supplyMv h vCode.toNat) tCode).onHead h
    (fun x => { x with powerChecked := true, scanReq := true }) = t at hpass ⊢
  simp only [State.onHead, State.onPaper, vmod, Vector.set_set, Fin.getElem_fin, Vector.getElem_set_self] at hpass
  have henergy : t.paper.energy
      = vmod s.paper.energy h fun e => { e.sampled (s.sampleRef h tCode) with envelope := b } := by
    rw [hpass.paper]
    rfl
  obtain ⟨h1, -, -, h4⟩ := (s.paper.energy[h]).sampled_spec (s.sampleRef h tCode) b
  have href : s.sampleRef h tCode = s.ntc h tCode.toNat := if_neg (by rw [htherm]; decide)
  refine ⟨?_, ?_, fun k hk => ?_, ?_⟩
  · rw [henergy, vmod_self, h1, href]
  · rw [henergy, vmod_self, h4]
  · rw [henergy, vmod_other _ _ _ _ (Ne.symm hk)]
  · rw [henergy]
    exact hpass

end

end Machine

/-- Settles O31: with no run on its path a head that goes OUT is `setHead` alone, and each sample is judged by
`judgeSupply`. -/
theorem headsGoOutAndReturn : Obligations.HeadsGoOutAndReturn := by
  unfold Obligations.HeadsGoOutAndReturn
  intro s h hrun x
  refine ⟨overcurrentTrip_goes hrun,
    fun code hpresent hruns => ⟨fun hbad => ?_, fun hbad hfirst => ?_, fun hgood => ?_⟩,
    fun code hst => ⟨fun hbad hsecond => ?_, fun hgood => ?_⟩, hotplug_goes, presenceLoss_goes hrun,
    fun vCode tCode hst hchecked => ⟨fun hpast => poweringCheck_past hpast h vCode tCode,
      fun hpast hbad => poweringCheck_goes hst hchecked hrun hpast hbad tCode,
      fun hpast hsupply htherm => poweringCheck_passes hst hchecked hpast hsupply htherm⟩,
    autoRetry_goes⟩
  · exact thermistorSample_goes hrun hpresent hruns hbad
  · have hone : (if badThermistor code.toNat then s.paper.head[h].badTherm + 1 else 0) = 1 := by
      rw [if_pos hbad, show s.paper.head[h].badTherm = 0 from hfirst]
    exact ⟨_, thermistorSample_stays hpresent hruns (by rw [hone]; decide), State.thermistorRead_taken hone.symm⟩
  · have hzero : (if badThermistor code.toNat then s.paper.head[h].badTherm + 1 else 0) = 0 :=
      if_neg (by rw [hgood]; decide)
    exact ⟨_, thermistorSample_stays hpresent hruns (by rw [hzero]; decide), State.thermistorRead_taken hzero.symm⟩
  · exact ⟨_, supplySample_taken hrun hst code, State.judgeSupply_goes hrun hst hbad hsecond⟩
  · obtain ⟨b, hr⟩ := State.judgeSupply_good hgood
    refine ⟨_, supplySample_taken hrun hst code, ?_⟩
    have hb : (s.judgeSupply h (s.supplyMv h code.toNat)).paper.energy[h].envelope = b := by
      rw [hr.paper]
      simp
    dsimp only
    rw [hb]
    exact hr

end Sys2Proof
end

section
/-! PROOFS. The thermal model and the derating loop (09_energy R537 to R548; 01_station_system R37 to R57): statement
O33. -/

namespace Sys2Proof

open Machine

namespace Machine

/-! ### The thermal model -/

/-- But for what is reported, only the energy model of head `h` changes. -/
structure EnergyAlone (h : Fin 4) (s t : State) : Prop where
  reports : Reports { s with paper := { s.paper with energy := t.paper.energy } } t
  others : ∀ k : Fin 4, k ≠ h → t.paper.energy[k] = s.paper.energy[k]

theorem EnergyAlone.of_onEnergy {h : Fin 4} {f : Energy → Energy} {s t : State} (hr : Reports (s.onEnergy h f) t) :
    EnergyAlone h s t ∧ t.paper.energy[h] = f s.paper.energy[h] := by
  have henergy : t.paper.energy = vmod s.paper.energy h f := by rw [hr.paper]; rfl
  refine ⟨⟨?_, fun k hk => ?_⟩, ?_⟩
  · rw [henergy]
    exact hr
  · rw [henergy, vmod_other _ _ _ _ (Ne.symm hk)]
  · rw [henergy, vmod_self]

theorem State.tick_node {s : State} {h : Fin 4} {j : Fin 64} (hj : j.val < s.segments h) (l : List Strobe) :
    (s.tick h l).node[j] = nodeOf (nodeStep (s.ePar h 0x10) (s.ePar h 0x11) (s.ePar h 0x12) (slotEnergy l j.val)
      s.paper.energy[h].node[j].toInt s.paper.energy[h].tSub.toInt
      (if hj : j.val - 1 < 64 then s.paper.energy[h].node[j.val - 1].toInt else 0)
      (if hj : min (j.val + 1) (s.segments h - 1) < 64
        then s.paper.energy[h].node[min (j.val + 1) (s.segments h - 1)].toInt else 0)) := by
  unfold State.tick
  simp [hj]

theorem modelTick_of_fitted {s : State} {h : Fin 4} (hfit : s.fitted h = true) (hruns : s.pwr.islandsRun = true)
    (n : Nat) : exec (.modelTick h n) s
      = .next ((s.onEnergy h fun e => s.tick h (e.slots.take n)).settleEnvelope h) :=
  congrArg Host.Outcome.next (if_pos ⟨hfit, hruns⟩)

/-- A tick gives the head its model's next state, but for the envelope. -/
theorem State.ticked_spec (s : State) (h : Fin 4) (n : Nat) :
    ∃ b, EnergyAlone h s ((s.onEnergy h fun e => s.tick h (e.slots.take n)).settleEnvelope h)
      ∧ ((s.onEnergy h fun e => s.tick h (e.slots.take n)).settleEnvelope h).paper.energy[h]
        = { s.tick h (s.paper.energy[h].slots.take n) with envelope := b } := by
  obtain ⟨b, hr⟩ := (s.onEnergy h fun e => s.tick h (e.slots.take n)).settleEnvelope_reports h
  refine ⟨b, EnergyAlone.of_onEnergy (f := fun e => { s.tick h (e.slots.take n) with envelope := b }) ?_⟩
  simp only [State.onEnergy, State.onPaper, vmod_vmod] at hr ⊢
  exact hr

/-! ### The loop's bounds (R38 to R40, R546) -/

theorem Reports.of_ite {s t : State} {c : Prop} [Decidable c] (k : Reports s t) : Reports s (if c then t else s) := by
  split
  · exact k
  · exact Reports.refl s

theorem State.raiseBound_reports (s : State) (loop : Nat) (upper : Bool) (tenant : Option (Fin 8)) :
    Reports s (s.raiseBound loop upper tenant) := by
  unfold State.raiseBound
  split
  · exact State.raiseVi_reports _ _ _ _ _
  · exact State.raise0_reports _ _ _ _

theorem Reports.onBus_bits {s t : State} (k : Reports s t) (f g : Word → Word) :
    Reports (s.onBus fun x => { x with clampedLo := f x.clampedLo, clampedHi := g x.clampedHi })
      (t.onBus fun x => { x with clampedLo := f x.clampedLo, clampedHi := g x.clampedHi }) := by
  rw [k]
  rfl

/-- A bit of a loop as it is set. -/
def loopBit (loop : Nat) (on : Bool) (x : Word) : Word :=
  if on then x ||| BitVec.ofNat 16 (2 ^ loop) else x &&& ~~~(BitVec.ofNat 16 (2 ^ loop))

theorem getLsbD_loopBit {loop : Nat} (hloop : loop < 16) (on : Bool) (x : Word) :
    (loopBit loop on x).getLsbD loop = on := by
  have hbit : (BitVec.ofNat 16 (2 ^ loop)).getLsbD loop = true := by
    rw [BitVec.getLsbD_ofNat, Nat.testBit_two_pow_self, decide_eq_true hloop, Bool.and_true]
  cases on
  · rw [loopBit, if_neg (by decide), BitVec.getLsbD_and, BitVec.getLsbD_not, hbit, Bool.not_true, Bool.and_false,
      Bool.and_false]
  · rw [loopBit, if_pos rfl, BitVec.getLsbD_or, hbit, Bool.or_true]

theorem State.loopHeld_reports (s : State) (loop : Nat) (lo hi newLo newHi : Bool) (tLo tHi : Option (Fin 8)) :
    Reports (s.onBus fun x => { x with
      clampedLo := loopBit loop lo x.clampedLo, clampedHi := loopBit loop hi x.clampedHi })
      (s.loopHeld loop lo hi newLo newHi tLo tHi) := by
  unfold State.loopHeld
  dsimp only
  exact Reports.onBus_bits ((Reports.of_ite (s.raiseBound_reports loop false tLo)).trans
    (Reports.of_ite (State.raiseBound_reports _ loop true tHi))) (loopBit loop lo) (loopBit loop hi)

/-- An update of a loop leaves its bits as told, and reports. -/
theorem State.loopHeld_bits (s : State) {loop : Nat} (hloop : loop < 16) (lo hi newLo newHi : Bool)
    (tLo tHi : Option (Fin 8)) : (s.loopHeld loop lo hi newLo newHi tLo tHi).bus.clampedLo.getLsbD loop = lo
      ∧ (s.loopHeld loop lo hi newLo newHi tLo tHi).bus.clampedHi.getLsbD loop = hi := by
  have hr := s.loopHeld_reports loop lo hi newLo newHi tLo tHi
  have hbus : (s.loopHeld loop lo hi newLo newHi tLo tHi).bus = { (s.onBus fun x => { x with
      clampedLo := loopBit loop lo x.clampedLo, clampedHi := loopBit loop hi x.clampedHi }).bus with
        evq := (s.loopHeld loop lo hi newLo newHi tLo tHi).bus.evq } := congrArg State.bus hr
  rw [hbus]
  exact ⟨getLsbD_loopBit hloop lo _, getLsbD_loopBit hloop hi _⟩

/-- What a loop's update leaves as it is. -/
theorem State.loopHeld_rest (s : State) (loop : Nat) (lo hi newLo newHi : Bool) (tLo tHi : Option (Fin 8)) :
    (s.loopHeld loop lo hi newLo newHi tLo tHi).paper = s.paper
      ∧ (s.loopHeld loop lo hi newLo newHi tLo tHi).vi = s.vi
      ∧ (s.loopHeld loop lo hi newLo newHi tLo tHi).pwr = s.pwr := by
  have hr := s.loopHeld_reports loop lo hi newLo newHi tLo tHi
  exact ⟨hr.paper, hr.vi, hr.pwr⟩

/-! ### The derating loop (R544 to R547) -/

/-- The outputs of the derating loop with each segment's step. -/
def State.derated (s : State) (h : Fin 4) (step : Fin 64 → Int) : Vector Nat 64 :=
  Vector.ofFn fun (j : Fin 64) =>
    if j.val < s.segments h then (limitTo (step j) (s.derateBounds h).1 (s.derateBounds h).2.1).toNat
    else s.paper.energy[h].d[j]

theorem State.derated_of_used {s : State} {h : Fin 4} {j : Fin 64} (hj : j.val < s.segments h) (step : Fin 64 → Int) :
    (s.derated h step)[j] = (limitTo (step j) (s.derateBounds h).1 (s.derateBounds h).2.1).toNat := by
  simp [State.derated, hj]

theorem State.derated_of_unused {s : State} {h : Fin 4} {j : Fin 64} (hj : s.segments h ≤ j.val) (step : Fin 64 → Int) :
    (s.derated h step)[j] = s.paper.energy[h].d[j] := by
  simp [State.derated, Nat.not_lt.mpr hj]

/-- An update of the derating loop: the outputs of its segments, the bits of the loop, and what stays. -/
structure Derated (h : Fin 4) (step : Fin 64 → Int) (lo hi : Bool) (s t : State) : Prop where
  outputs : t.paper.energy[h].d = s.derated h step
  clampedLo : t.bus.clampedLo.getLsbD h.val = lo
  clampedHi : t.bus.clampedHi.getLsbD h.val = hi
  others : ∀ k : Fin 4, k ≠ h → t.paper.energy[k] = s.paper.energy[k]
  head : t.paper.head = s.paper.head
  axis : t.paper.axis = s.paper.axis
  vi : t.vi = s.vi
  pwr : t.pwr = s.pwr

theorem State.loopHeld_derated {s : State} {h : Fin 4} {step : Fin 64 → Int} {f : Energy → Energy}
    (hf : (f s.paper.energy[h]).d = s.derated h step) (lo hi newLo newHi : Bool) (tLo tHi : Option (Fin 8)) :
    Derated h step lo hi s ((s.onEnergy h f).loopHeld h.val lo hi newLo newHi tLo tHi) := by
  obtain ⟨hlo, hhi⟩ := (s.onEnergy h f).loopHeld_bits (by have := h.isLt; omega : h.val < 16) lo hi newLo newHi tLo tHi
  obtain ⟨hpaper, hvi, hpwr⟩ := (s.onEnergy h f).loopHeld_rest h.val lo hi newLo newHi tLo tHi
  refine ⟨?_, hlo, hhi, fun k hk => ?_, ?_, ?_, hvi, hpwr⟩
  · rw [hpaper, State.onEnergy_paper, ← hf]
    exact congrArg Energy.d (vmod_self s.paper.energy h f)
  · rw [hpaper, State.onEnergy_paper]
    exact vmod_other _ _ _ _ (Ne.symm hk)
  · rw [hpaper, State.onEnergy_paper]
  · rw [hpaper, State.onEnergy_paper]

section
variable {s : State} {h : Fin 4} (hruns : s.pwr.islandsRun = true)
include hruns

theorem deratingUpdate_frozen (hfrozen : s.frozen h.val = true) : exec (.deratingUpdate h) s = .next (
    (s.onEnergy h fun e => { e with d := s.derated h fun j => (s.paper.energy[h].d[j] : Int) }).loopHeldFrozen h.val
      (s.derateBounds h).1 (s.derateBounds h).2.1
      ((s.segmentsUsed h).map fun j => ((s.paper.energy[h].d[j] : Nat) : Int))
      (s.derateBounds h).2.2.1 (s.derateBounds h).2.2.2) :=
  congrArg Host.Outcome.next ((if_pos hruns).trans (if_pos hfrozen))

theorem deratingUpdate_running (hfrozen : s.frozen h.val = false) : exec (.deratingUpdate h) s = .next (
    (s.onEnergy h fun e => { e with
      d := s.derated h (s.derateStep h)
      slewing := e.slewing && (s.segmentsUsed h).any fun j => ((s.derated h (s.derateStep h))[j] : Int)
        ≠ limitTo (s.dRaw h j) (s.derateBounds h).1 (s.derateBounds h).2.1 }).loopUpdated h.val
      (s.derateBounds h).1 (s.derateBounds h).2.1
      ((s.segmentsUsed h).map fun j => (((s.paper.energy[h].d[j] : Nat) : Int), s.derateStep h j))
      (s.derateBounds h).2.2.1 (s.derateBounds h).2.2.2) :=
  congrArg Host.Outcome.next ((if_pos hruns).trans (if_neg (by rw [hfrozen]; decide)))

end

end Machine

/-- Settles O33: the tick and the loop change the energy of one head, each up to reports. -/
theorem energyModelSteps : Obligations.EnergyModelSteps := by
  unfold Obligations.EnergyModelSteps
  intro s h hfit hruns e
  refine ⟨fun n => ⟨_, modelTick_of_fitted hfit hruns n, ?_⟩, ?_⟩
  · obtain ⟨b, halone, hself⟩ := s.ticked_spec h n
    refine ⟨fun j hj => ?_, ?_, halone.reports, halone.others⟩
    · rw [hself]
      exact State.tick_node hj _
    · rw [hself]
      exact congrArg (fun k => s.paper.energy[h].slots.drop k) List.length_take
  · cases hfrozen : s.frozen h.val
    · refine ⟨_, deratingUpdate_running hruns hfrozen, ?_⟩
      have hd := State.loopHeld_derated (s := s) (h := h) (step := s.derateStep h) (f := fun e => { e with
        d := s.derated h (s.derateStep h)
        slewing := e.slewing && (s.segmentsUsed h).any fun j => ((s.derated h (s.derateStep h))[j] : Int)
          ≠ limitTo (s.dRaw h j) (s.derateBounds h).1 (s.derateBounds h).2.1 }) rfl
      refine ⟨fun j hj => ?_, fun _ => ⟨?_, ?_⟩, fun j hj => ?_, (hd _ _ _ _ _ _).others, (hd _ _ _ _ _ _).head,
        (hd _ _ _ _ _ _).axis, (hd _ _ _ _ _ _).vi, (hd _ _ _ _ _ _).pwr⟩
      · refine (congrArg (·[j]) (hd _ _ _ _ _ _).outputs).trans ((State.derated_of_used hj _).trans ?_)
        rw [if_neg (by decide)]
        unfold State.derateStep
        split <;> rfl
      · exact (hd _ _ _ _ _ _).clampedLo.trans List.any_map
      · exact (hd _ _ _ _ _ _).clampedHi.trans List.any_map
      · exact (congrArg (·[j]) (hd _ _ _ _ _ _).outputs).trans (State.derated_of_unused hj _)
    · refine ⟨_, deratingUpdate_frozen hruns hfrozen, ?_⟩
      have hd := State.loopHeld_derated (s := s) (h := h) (step := fun j => (s.paper.energy[h].d[j] : Int))
        (f := fun e => { e with d := s.derated h fun j => (s.paper.energy[h].d[j] : Int) }) rfl
      refine ⟨fun j hj => ?_, fun hn => (nomatch hn), fun j hj => ?_, (hd _ _ _ _ _ _).others, (hd _ _ _ _ _ _).head,
        (hd _ _ _ _ _ _).axis, (hd _ _ _ _ _ _).vi, (hd _ _ _ _ _ _).pwr⟩
      · refine (congrArg (·[j]) (hd _ _ _ _ _ _).outputs).trans ((State.derated_of_used hj _).trans ?_)
        rw [if_pos rfl]
      · exact (congrArg (·[j]) (hd _ _ _ _ _ _).outputs).trans (State.derated_of_unused hj _)

end Sys2Proof
end

section
/-! PROOFS. The axes: steps, stops, choppers and bridges (10_motion R567 to R616): statement O35. -/

namespace Sys2Proof

open Machine

namespace Machine

/-! ### What one axis becomes -/

/-- But for what is reported, only axis `a` changes, and it becomes `y`. -/
def AxisIs (a : Fin 4) (y : Axis) (s t : State) : Prop :=
  Reports { s with paper := { s.paper with axis := s.paper.axis.set a y } } t

theorem AxisIs.self {a : Fin 4} {y : Axis} {s t : State} (h : AxisIs a y s t) : t.paper.axis[a] = y := by
  rw [h.paper]
  exact Vector.getElem_set_self a.isLt

theorem AxisIs.other {a k : Fin 4} {y : Axis} {s t : State} (h : AxisIs a y s t) (hk : k ≠ a) :
    t.paper.axis[k] = s.paper.axis[k] := by
  rw [h.paper]
  exact vmod_other s.paper.axis a k (fun _ => y) (Ne.symm hk)

theorem AxisIs.run {a : Fin 4} {y : Axis} {s t : State} (h : AxisIs a y s t) : t.paper.run = s.paper.run := by
  rw [h.paper]

theorem AxisIs.alone {a : Fin 4} {y : Axis} {s t : State} (h : AxisIs a y s t) : AxisAlone a s t := by
  refine ⟨fun k hk => h.other hk, ?_⟩
  have haxis : t.paper.axis = s.paper.axis.set a y := by rw [h.paper]
  rw [haxis]
  exact h

theorem AxisIs.trans {a : Fin 4} {y z : Axis} {s t u : State} (h : AxisIs a y s t) (k : AxisIs a z t u) :
    AxisIs a z s u := by
  unfold AxisIs Reports at *
  rw [h] at k
  simp only [Vector.set_set] at k
  exact k

theorem AxisIs.of_onAxis (s : State) (a : Fin 4) (f : Axis → Axis) : AxisIs a (f s.paper.axis[a]) s (s.onAxis a f) :=
  Reports.refl _

theorem AxisIs.of_reports {s t : State} (h : Reports s t) (a : Fin 4) : AxisIs a s.paper.axis[a] s t := by
  unfold AxisIs
  have hset : s.paper.axis.set a s.paper.axis[a] = s.paper.axis := Vector.set_getElem_self a.isLt
  rw [hset]
  exact h

theorem State.axisEvent_is (s : State) (a : Fin 4) : AxisIs a s.paper.axis[a] s (s.axisEvent a) :=
  .of_reports (State.raise0_reports _ _ _ _) a

theorem State.setAxis_is (s : State) (a : Fin 4) (st : AxisState) :
    AxisIs a { s.paper.axis[a] with state := st } s (s.setAxis a st) := by
  unfold State.setAxis
  split
  next h =>
    subst h
    exact .of_reports (Reports.refl s) a
  · have hto := AxisIs.of_onAxis s a fun x => { x with state := st }
    have hevent := (s.onAxis a fun x => { x with state := st }).axisEvent_is a
    rw [hto.self] at hevent
    exact hto.trans hevent

theorem State.loadDacs_is (s : State) (a : Fin 4) :
    ∃ cA cB, AxisIs a { s.paper.axis[a] with chopA := cA, chopB := cB } s (s.loadDacs a) :=
  ⟨_, _, AxisIs.of_onAxis s a _⟩

/-- What a change makes of the axis is all that counts. -/
theorem State.onAxis_congr {s : State} {a : Fin 4} {f g : Axis → Axis} (h : f s.paper.axis[a] = g s.paper.axis[a]) :
    s.onAxis a f = s.onAxis a g := by
  simp only [State.onAxis, State.onPaper, vmod, h]

theorem State.onAxis_id {s : State} {a : Fin 4} {f : Axis → Axis} (h : f s.paper.axis[a] = s.paper.axis[a]) :
    s.onAxis a f = s := by
  rw [State.onAxis, State.onPaper, vmod_id _ _ h]

/-! ### A move ends at its target (R567) -/

/-- A service move that has reached its target: the axis stops, and is IDLE unless a move is queued. -/
theorem State.finishMove_is {s : State} {a : Fin 4} {m : Move} (hmove : s.paper.axis[a].move = some m)
    (howner : m.owner = .service) : AxisIs a { (s.paper.axis[a]).stopped with
      state := if s.paper.axis[a].queued = none then .idle else s.paper.axis[a].state } s (s.finishMove a) := by
  have hstop := AxisIs.of_onAxis s a Axis.stopped
  unfold State.finishMove
  rw [hmove]
  dsimp only
  have hqueued : (s.onAxis a Axis.stopped).paper.axis[a].queued = s.paper.axis[a].queued := by
    rw [hstop.self]
    rfl
  rw [howner, hqueued]
  dsimp only [State.moveReached]
  split
  · have hidle := (s.onAxis a Axis.stopped).setAxis_is a .idle
    rw [hstop.self] at hidle
    exact hstop.trans hidle
  · exact hstop

/-! ### A microstep (R587, R603) -/

/-- The axis one microstep on. -/
def Axis.stepped (x : Axis) : Axis :=
  let p := if x.neg then x.pos - 1 else x.pos + 1
  { x with pos := p, revHigh := if x.revHigh.toInt < p.toInt then p else x.revHigh }

theorem Axis.stepped_revHigh (x : Axis) : x.stepped.revHigh.toInt = max x.revHigh.toInt x.stepped.pos.toInt := by
  unfold Axis.stepped
  generalize (if x.neg then x.pos - 1 else x.pos + 1) = p
  dsimp only
  split <;> omega

/-- A microstep of a service move, to its target or on the way. -/
theorem microstep_is {s : State} {a : Fin 4} {m : Move} (hstep : s.mayStep a = true)
    (hmove : s.paper.axis[a].move = some m) (howner : m.owner = .service) (hst : s.paper.axis[a].state = .moving) :
    ∃ t cA cB, exec (.microstep a) s = .next t ∧
      if s.paper.axis[a].stepped.pos.toInt = m.target
      then AxisIs a { (Axis.stopped { s.paper.axis[a].stepped with chopA := cA, chopB := cB }) with
        state := if s.paper.axis[a].queued = none then .idle else .moving } s t
      else AxisIs a { s.paper.axis[a].stepped with chopA := cA, chopB := cB } s t := by
  have hto := AxisIs.of_onAxis s a Axis.stepped
  obtain ⟨cA, cB, hdacs⟩ := (s.onAxis a Axis.stepped).loadDacs_is a
  rw [hto.self] at hdacs
  have hon := hto.trans hdacs
  have hexec : exec (.microstep a) s = .next (
      if s.paper.axis[a].state = .moving ∧ ((s.onAxis a Axis.stepped).loadDacs a).paper.axis[a].pos.toInt = m.target
      then ((s.onAxis a Axis.stepped).loadDacs a).finishMove a else (s.onAxis a Axis.stepped).loadDacs a) := by
    refine congrArg Host.Outcome.next ((if_pos hstep).trans ?_)
    rw [hmove]
    dsimp only
    rw [howner]
    rfl
  rw [hon.self] at hexec
  by_cases htarget : s.paper.axis[a].stepped.pos.toInt = m.target
  · refine ⟨_, cA, cB, hexec.trans (congrArg _ (if_pos ⟨hst, htarget⟩)), ?_⟩
    rw [if_pos htarget]
    have hmove' : ((s.onAxis a Axis.stepped).loadDacs a).paper.axis[a].move = some m := by
      rw [hon.self]
      exact hmove
    have hdone := State.finishMove_is hmove' howner
    rw [hon.self] at hdone
    have hsame : ({ s.paper.axis[a].stepped with chopA := cA, chopB := cB } : Axis).state = .moving := hst
    rw [hsame] at hdone
    exact hon.trans hdone
  · refine ⟨_, cA, cB, hexec.trans (congrArg _ (if_neg fun k => htarget k.2)), ?_⟩
    rw [if_neg htarget]
    exact hon

/-! ### The update of the moving axes (R589) -/

theorem State.updateAxis_of_resting {s : State} {a : Fin 4} (h : s.paper.axis[a].inMotion = false) :
    s.updateAxis a = s := by
  unfold State.updateAxis
  unfold Axis.inMotion at h
  dsimp only
  cases hst : s.paper.axis[a].state <;> rw [hst] at h <;> simp_all

theorem State.updateAxis_of_moving {s : State} {a : Fin 4} {m : Move} (hst : s.paper.axis[a].state = .moving)
    (hmove : s.paper.axis[a].move = some m) (htarget : s.paper.axis[a].pos.toInt ≠ m.target)
    (hstanding : s.paper.axis[a].standing = false) :
    s.updateAxis a = s.onAxis a fun x => { x with
      speed := (s.updateMove a s.paper.axis[a] m).1
      move := some { m with
        speed := (s.moveNow a m).1, acc := (s.updateMove a s.paper.axis[a] m).2.1
        braking := (s.updateMove a s.paper.axis[a] m).2.2 } } := by
  unfold State.updateAxis
  dsimp only
  rw [hst, hmove]
  dsimp only
  rw [if_neg htarget, if_neg (by rw [hstanding]; decide)]

theorem motionUpdate_of_single {s : State} {a : Fin 4} {m : Move} (hst : s.paper.axis[a].state = .moving)
    (hmove : s.paper.axis[a].move = some m) (htarget : s.paper.axis[a].pos.toInt ≠ m.target)
    (hstanding : s.paper.axis[a].standing = false)
    (hothers : ∀ k : Fin 4, k ≠ a → s.paper.axis[k].inMotion = false) : Answers .motionUpdate s fun t =>
      AxisAlone a s t ∧ t.paper.axis[a] = { s.paper.axis[a] with
        speed := (s.updateMove a s.paper.axis[a] m).1
        move := some { m with
          speed := (s.moveNow a m).1, acc := (s.updateMove a s.paper.axis[a] m).2.1
          braking := (s.updateMove a s.paper.axis[a] m).2.2 } } := by
  have hupdate := State.updateAxis_of_moving hst hmove htarget hstanding
  generalize hf : s.onAxis a _ = t at hupdate
  have his := AxisIs.of_onAxis s a fun x => { x with
    speed := (s.updateMove a s.paper.axis[a] m).1
    move := some { m with
      speed := (s.moveNow a m).1, acc := (s.updateMove a s.paper.axis[a] m).2.1
      braking := (s.updateMove a s.paper.axis[a] m).2.2 } }
  rw [hf] at his
  refine ⟨t, congrArg Host.Outcome.next (foldl_of_single hupdate
    (fun k hk => State.updateAxis_of_resting (hothers k hk)) (fun k hk => State.updateAxis_of_resting ?_)
    (List.mem_finRange a) (List.nodup_finRange 4)), his.alone, his.self⟩
  rw [his.other hk]
  exact hothers k hk

theorem standstillReduction_of_idle {s : State} {a : Fin 4} (hst : s.paper.axis[a].state = .idle)
    (hdelay : s.aPar a 8 / 65536 ≠ 0) : Answers (.standstillReduction a) s fun t =>
      AxisAlone a s t ∧ t.paper.axis[a].reduced = true ∧ t.paper.axis[a].pos = s.paper.axis[a].pos := by
  have hto := AxisIs.of_onAxis s a fun x => { x with reduced := true }
  obtain ⟨cA, cB, hdacs⟩ := (s.onAxis a fun x => { x with reduced := true }).loadDacs_is a
  rw [hto.self] at hdacs
  have hon := hto.trans hdacs
  exact ⟨_, congrArg Host.Outcome.next (if_pos ⟨.inl hst, hdelay⟩), hon.alone, by rw [hon.self], by rw [hon.self]⟩

/-! ### The chopper (R579 to R582) -/

/-- The chopper of a phase. -/
def Axis.chop (x : Axis) (phaseB : Bool) : Chop := if phaseB then x.chopB else x.chopA

/-- The chopper of a phase set. -/
def Axis.setChop (x : Axis) (phaseB : Bool) (d : Chop) : Axis :=
  if phaseB then { x with chopB := d } else { x with chopA := d }

theorem Axis.onChop_eq (x : Axis) (phaseB : Bool) (f : Chop → Chop) :
    x.onChop phaseB f = x.setChop phaseB (f (x.chop phaseB)) := by
  cases phaseB <;> rfl

theorem Axis.setChop_chop (x : Axis) (phaseB : Bool) : x.setChop phaseB (x.chop phaseB) = x := by
  cases phaseB <;> rfl

section
variable {s : State} {a : Fin 4} {ph : Bool} (hlive : s.phaseLive a ph = true)
include hlive

theorem chopperTrip_live : exec (.chopperTrip a ph) s
    = .next (s.onAxis a fun x => x.setChop ph (s.chopTrip a (s.paper.axis[a].chop ph))) :=
  congrArg Host.Outcome.next ((if_pos hlive).trans (State.onAxis_congr (Axis.onChop_eq _ _ _)))

theorem offTimeEnd_live : exec (.offTimeEnd a ph) s
    = .next (s.onAxis a fun x => x.setChop ph (s.chopResume a ph (s.paper.axis[a].chop ph))) :=
  congrArg Host.Outcome.next ((if_pos hlive).trans (State.onAxis_congr (Axis.onChop_eq _ _ _)))

theorem chopperTrip_of_drive {neg turned : Bool} {since blank : Nat}
    (hc : s.paper.axis[a].chop ph = .drive neg since blank turned) : exec (.chopperTrip a ph) s
      = .next (if s.blanked since blank then s
        else s.onAxis a fun x => x.setChop ph (.offTime neg s.now (s.parG (0x2009 + 0x80 * a.val)))) := by
  have hpar : 0x2000 + 0x80 * a.val + 9 = 0x2009 + 0x80 * a.val := by omega
  rw [chopperTrip_live hlive]
  congr 1
  split
  next hb =>
    refine State.onAxis_id ?_
    have htrip : s.chopTrip a (s.paper.axis[a].chop ph) = s.paper.axis[a].chop ph := by
      rw [hc]
      exact if_pos hb
    rw [htrip, Axis.setChop_chop]
  next hb =>
    have htrip : s.chopTrip a (s.paper.axis[a].chop ph) = .offTime neg s.now (s.parG (0x2009 + 0x80 * a.val)) := by
      rw [hc, ← hpar]
      exact if_neg hb
    rw [htrip]

theorem offTimeEnd_of_offTime {neg : Bool} {since : Nat} {chop : Par}
    (hc : s.paper.axis[a].chop ph = .offTime neg since chop) (hcutter : ¬ (a = 3 ∧ s.cutterMode = true)) :
    exec (.offTimeEnd a ph) s = .next (s.onAxis a fun x => x.setChop ph (if s.phaseCode a ph = 0 then .slow
      else .drive (decide (s.phaseCurrent a ph < 0)) s.now (bits chop 16 4) false)) := by
  have hblank : chopBlank chop.toNat = bits chop 16 4 := by
    unfold chopBlank bits
    rw [Nat.shiftRight_eq_div_pow] <;> rfl
  have hresume : s.chopResume a ph (s.paper.axis[a].chop ph) = if s.phaseCode a ph = 0 then .slow
      else .drive (decide (s.phaseCurrent a ph < 0)) s.now (bits chop 16 4) false := by
    rw [hc, ← hblank]
    exact if_neg hcutter
  rw [offTimeEnd_live hlive, hresume]

theorem chopper_of_slow (hc : s.paper.axis[a].chop ph = .slow) :
    exec (.chopperTrip a ph) s = .next s ∧ exec (.offTimeEnd a ph) s = .next s := by
  have hid : (s.onAxis a fun x => x.setChop ph .slow) = s := State.onAxis_id (by rw [← hc, Axis.setChop_chop])
  rw [chopperTrip_live hlive, offTimeEnd_live hlive, hc]
  exact ⟨congrArg _ hid, congrArg _ hid⟩

end

/-! ### The bridges (R583, R584) -/

theorem code_zero_ne_three : (0 : BitVec 2) ≠ 3 := by decide

theorem driveCode_ne_three (neg : Bool) : driveCode neg ≠ 3 := by
  cases neg <;> decide

theorem State.chopCode_ne_three (s : State) (c : Chop) : s.chopCode c ≠ 3 := by
  unfold State.chopCode
  cases c with
  | slow => exact code_zero_ne_three
  | drive neg since blank turned =>
    dsimp only
    split
    · exact code_zero_ne_three
    · exact driveCode_ne_three neg
  | offTime neg since chop =>
    dsimp only
    split
    · exact driveCode_ne_three !neg
    · exact code_zero_ne_three

theorem State.bridgeCode_ne_three (s : State) (a : Fin 4) (ph : Bool) : s.bridgeCode a ph ≠ 3 := by
  unfold State.bridgeCode
  split
  · exact code_zero_ne_three
  · exact s.chopCode_ne_three _

section
variable {s : State} {a : Fin 4} (hstepper : ¬(a = 3 ∧ s.cutterMode = true))
include hstepper

theorem State.phaseLive_of_stepper (ph : Bool) : s.phaseLive a ph = decide (s.paper.axis[a].state ≠ .off) :=
  if_neg hstepper

theorem State.bridge_of_off (hoff : s.paper.axis[a].state = .off) (ph : Bool) :
    s.bridgeEnabled a = false ∧ s.bridgeCode a ph = 0 := by
  constructor
  · refine (if_neg hstepper).trans ?_
    rw [hoff]
  · refine if_pos (.inl ?_)
    rw [State.phaseLive_of_stepper hstepper, hoff]
    rfl

theorem State.bridgeCode_of_live (hlive : s.paper.axis[a].state ≠ .off) (ph : Bool) :
    s.bridgeCode a ph = s.chopCode (s.paper.axis[a].chop ph) := by
  refine if_neg ?_
  rw [State.phaseLive_of_stepper hstepper, decide_eq_true hlive]
  rintro (hdead | ⟨h3, hcutter, -⟩)
  · exact Bool.noConfusion hdead
  · exact hstepper ⟨h3, hcutter⟩

end

end Machine

/-- Settles O35: `AxisIs` says of each operation that one axis alone changes, and how. -/
theorem axesStep : Obligations.AxesStep := by
  intro s a x
  refine ⟨?_, fun m => motionUpdate_of_single, standstillReduction_of_idle, ?_, fun ph => ⟨s.bridgeCode_ne_three a ph,
    fun hstepper hoff => State.bridge_of_off hstepper hoff ph, ?_, ?_⟩⟩
  · intro m hstep hmove howner hst p
    obtain ⟨t, cA, cB, hexec, ht⟩ := microstep_is hstep hmove howner hst
    refine ⟨t, hexec, ?_⟩
    have hhigh : x.stepped.revHigh.toInt = max x.revHigh.toInt p.toInt := x.stepped_revHigh
    by_cases htarget : p.toInt = m.target
    · rw [if_pos (show s.paper.axis[a].stepped.pos.toInt = m.target from htarget)] at ht
      refine ⟨ht.alone, by rw [ht.self] <;> rfl, by rw [ht.self] <;> exact hhigh, fun h => absurd htarget h,
        fun _ hqueued => ⟨by rw [ht.self] <;> rfl, ?_⟩⟩
      rw [ht.self]
      exact if_pos hqueued
    · rw [if_neg (show s.paper.axis[a].stepped.pos.toInt ≠ m.target from htarget)] at ht
      exact ⟨ht.alone, by rw [ht.self] <;> rfl, by rw [ht.self] <;> exact hhigh,
        fun _ => ⟨by rw [ht.self] <;> exact hmove, by rw [ht.self] <;> exact hst⟩, fun h => absurd h htarget⟩
  · intro ph hlive c sets
    have hsets : ∀ d, sets d = s.onAxis a fun y => y.setChop ph d := fun d => rfl
    refine ⟨?_, ?_, chopper_of_slow hlive⟩
    · intro neg turned since blank hc
      rw [hsets]
      exact chopperTrip_of_drive hlive hc
    · intro neg since chop hc hcutter
      rw [hsets]
      exact offTimeEnd_of_offTime hlive hc hcutter
  · intro neg since chop hstepper hlive hc
    rw [State.bridgeCode_of_live hstepper hlive, show s.paper.axis[a].chop ph = _ from hc]
    cases neg <;> rfl
  · intro neg since blank hstepper hlive hc
    rw [State.bridgeCode_of_live hstepper hlive, show s.paper.axis[a].chop ph = _ from hc]
    cases neg <;> rfl

end Sys2Proof
end

section
/-! PROOFS. The axes: moves, their starts, and stops (10_motion R599 to R618): statements O36 and O34. -/

namespace Sys2Proof

open Machine

namespace Machine

/-! ### What one axis becomes, further -/

theorem AxisIs.after {a : Fin 4} {y : Axis} {s t u : State} (h : Reports s t) (k : AxisIs a y t u) :
    AxisIs a y s u := by
  unfold AxisIs Reports at *
  rw [h] at k
  exact k

theorem AxisIs.before {a : Fin 4} {y : Axis} {s t u : State} (h : AxisIs a y s t) (k : Reports t u) : AxisIs a y s u :=
  Reports.trans h k

theorem AxisIs.wrote {a : Fin 4} {y : Axis} {s t : State} (h : AxisIs a y s t) (w : Fin 11) (idx : Nat)
    (e : BitVec 4) : AxisIs a y (wrote w idx e s) (wrote w idx e t) :=
  Reports.wrote h w idx e

theorem AxisIs.onAxis {a : Fin 4} {y : Axis} {s t : State} (h : AxisIs a y s t) (f : Axis → Axis) :
    AxisIs a (f y) s (t.onAxis a f) := by
  have hto := AxisIs.of_onAxis t a f
  rw [h.self] at hto
  exact h.trans hto

theorem AxisIs.setAxis {a : Fin 4} {y : Axis} {s t : State} (h : AxisIs a y s t) (st : AxisState) :
    AxisIs a { y with state := st } s (t.setAxis a st) := by
  have hto := t.setAxis_is a st
  rw [h.self] at hto
  exact h.trans hto

theorem AxisIs.loadDacs {a : Fin 4} {y : Axis} {s t : State} (h : AxisIs a y s t) :
    ∃ cA cB, AxisIs a { y with chopA := cA, chopB := cB } s (t.loadDacs a) := by
  obtain ⟨cA, cB, hto⟩ := t.loadDacs_is a
  rw [h.self] at hto
  exact ⟨cA, cB, h.trans hto⟩

theorem AxisIs.refl (a : Fin 4) (s : State) : AxisIs a s.paper.axis[a] s s := .of_reports (Reports.refl s) a

/-! ### A parameter of an axis -/

theorem State.itemWrite_axis (u : State) (w : Fin 11) (a : Fin 4) {off : Nat} (hoff : off < 0x80) (vi : Option (Fin 8))
    (x : Par) : u.itemWrite w (0x2000 + off + 0x80 * a.val) vi x = u.axisItemWrite a off x := by
  have ha := a.isLt
  have hunit : unitOf 4 (0x2000 + off + 0x80 * a.val) 0x2000 0x80 = a := by
    apply Fin.ext
    simp only [unitOf, Fin.ofNat]
    omega
  have hrest : (0x2000 + off + 0x80 * a.val) % 0x80 = off := by omega
  unfold State.itemWrite
  rw [if_neg (by omega), if_neg (by omega), if_pos (by omega), hunit, hrest]

theorem axisCtrl_takes {s u : State} {w : Fin 11} {a : Fin 4} {v x : Par} {r : ParRow}
    (k : Takes s w (axisCtrlAt a) v r u x) :
    s.ownCommit w (axisCtrlAt a) v = wrote w (axisCtrlAt a) errOk (u.writeAxisCtrl a x) :=
  k.own (u.itemWrite_axis w a (off := 0xC) (by decide) _ x) (by decide)

/-! ### The start of a move (R567, R602 to R604) -/

/-- Where a move ends: backwards no further than the reverse floor. -/
def State.endOf (s : State) (a : Fin 4) (target : Int) : Int :=
  if target < s.paper.axis[a].pos.toInt ∧ target < s.revFloor a then min s.paper.axis[a].pos.toInt (s.revFloor a)
  else target

/-- What a start makes of the axis before it is MOVING. -/
def Axis.launched (x : Axis) (m : Move) (neg : Bool) : Axis :=
  { x with
    move := some { m with braking := false }, reduced := false, neg := neg, speed := 0, standing := false
    stopAt := none, holdAt := none, resume := false }

/-- MOVE_SHORT, told where a job's move is made shorter (R604). -/
def State.toldEnd (s : State) (a : Fin 4) (m : Move) (t : Int) : State :=
  if t ≠ m.target then
    match m.owner, s.ownerVi m.owner with
    | .job h, some v => match s.paper.run[h] with
      | some r => s.raiseVi v 0x5E (byteOf (a.val + 16 * r.job.handle.val))
          (BitVec.ofNat 16 (sat (s.toTenths a (s.paper.axis[a].pos.toInt - t)).toNat 65535))
      | none => s
    | _, _ => s
  else s

theorem State.toldEnd_reports (s : State) (a : Fin 4) (m : Move) (t : Int) : Reports s (s.toldEnd a m t) := by
  unfold State.toldEnd
  split
  · split
    · split
      · exact State.raiseVi_reports _ _ _ _ _
      · exact Reports.refl s
    · exact Reports.refl s
  · exact Reports.refl s

section
variable {s : State} {a : Fin 4} {move m : Move} (hm : move.startAt s.paper.axis[a].pos.toInt = m)
  (hrev : m.target < s.paper.axis[a].pos.toInt → s.reversible a = true)
  (hfree : s.blocked a (decide (m.target < s.paper.axis[a].pos.toInt)) = none)
include hm hrev hfree

/-- A move that may start does. -/
theorem State.startMove_eq {s2 : State}
    (hs2 : s2 = (s.toldEnd a m (s.endOf a m.target)).onAxis a fun x => x.launched
      { m with target := s.endOf a m.target }
      (if s.endOf a m.target = s.paper.axis[a].pos.toInt then x.neg
        else decide (m.target < s.paper.axis[a].pos.toInt))) :
    s.startMove a move = (if s.paper.axis[a].reduced then s2.loadDacs a else s2).setAxis a .moving := by
  have hend : (if decide (m.target < s.paper.axis[a].pos.toInt) = true ∧ m.target < s.revFloor a
      then min s.paper.axis[a].pos.toInt (s.revFloor a) else m.target) = s.endOf a m.target := by
    simp only [decide_eq_true_eq] <;> rfl
  refine (if_neg (by rw [hm]; simpa using hrev)).trans ?_
  rw [hm, hfree, ite_self]
  dsimp only
  rw [hend, hs2]
  rfl

theorem State.startMove_is : ∃ cA cB, AxisIs a
    { s.paper.axis[a].launched { m with target := s.endOf a m.target }
        (if s.endOf a m.target = s.paper.axis[a].pos.toInt then s.paper.axis[a].neg
          else decide (m.target < s.paper.axis[a].pos.toInt)) with
      state := .moving, chopA := cA, chopB := cB } s (s.startMove a move) := by
  have hbegun := ((AxisIs.refl a s).before (s.toldEnd_reports a m (s.endOf a m.target))).onAxis fun x =>
    x.launched { m with target := s.endOf a m.target }
      (if s.endOf a m.target = s.paper.axis[a].pos.toInt then x.neg
        else decide (m.target < s.paper.axis[a].pos.toInt))
  rw [State.startMove_eq hm hrev hfree rfl]
  generalize (s.toldEnd a m (s.endOf a m.target)).onAxis a _ = s2 at hbegun ⊢
  by_cases hreduced : s.paper.axis[a].reduced = true
  · rw [if_pos hreduced]
    obtain ⟨cA, cB, hdacs⟩ := hbegun.loadDacs
    exact ⟨cA, cB, hdacs.setAxis .moving⟩
  · rw [if_neg hreduced]
    exact ⟨_, _, hbegun.setAxis .moving⟩

end

theorem State.endOf_of_ahead {s : State} {a : Fin 4} {t : Int} (h : ¬ t < s.paper.axis[a].pos.toInt) :
    s.endOf a t = t :=
  if_neg fun k => h k.1

/-! ### Service moves (R599, R617, R618) -/

/-- The move that a write of axis.move_dist asks for. -/
def State.serviceOf (s : State) (a : Fin 4) (x : Par) : Move :=
  { target := s.paper.axis[a].pos.toInt, dist := some (s.conv a x.toInt), speed := (s.aPar a 0x12 : Rat)
    acc := s.aPar a 0x13, owner := .service, lineLocked := false }

theorem State.conv_nonneg (s : State) (a : Fin 4) {d : Int} (h : 0 ≤ d) : 0 ≤ s.conv a d := by
  have hd : (0 : Rat) ≤ d := by exact_mod_cast h
  have hsum : (0 : Rat) ≤ (d : Rat) * s.axScale a / 655360 + 1 / 2 := by positivity
  exact Rat.le_floor_iff.2 (by exact_mod_cast hsum)

theorem State.serviceMove_irreversible {s : State} {a : Fin 4} {x : Par} (hx : x.toInt < 0)
    (hrev : s.reversible a = false) :
    s.serviceMove a x = (s.onAxis a fun y => { y with refuseCause := 4 }, errInvalid) :=
  if_pos ⟨hx, by rw [hrev]; rfl⟩

theorem State.serviceMove_of_idle {s : State} {a : Fin 4} {x : Par} (hx : x.toInt < 0 → s.reversible a = true)
    (hst : s.paper.axis[a].state = .idle) (hqueued : s.paper.axis[a].queued = none) :
    s.serviceMove a x = (s.startMove a (s.serviceOf a x), errOk) := by
  unfold State.serviceMove
  dsimp only
  rw [if_neg (by simpa using hx), hqueued, if_neg (by decide)]
  unfold State.requestMove
  dsimp only
  rw [hst]
  dsimp only
  rw [if_pos hqueued]
  rfl

theorem serviceMove_starts {s u : State} {w : Fin 11} {a : Fin 4} {v x : Par} {r : ParRow}
    (k : Takes s w (0x2011 + 0x80 * a.val) v r u x) (hst : u.paper.axis[a].state = .idle)
    (hqueued : u.paper.axis[a].queued = none)
    (hrev : x.toInt < 0 ∨ u.conv a x.toInt < 0 → u.reversible a = true)
    (hfree : u.blocked a (decide (u.conv a x.toInt < 0)) = none) :
    Answers (.serviceMove w a v) s fun t =>
      AxisAlone a (wrote w (0x2011 + 0x80 * a.val) 0 u) t ∧ t.paper.axis[a].state = .moving
        ∧ (t.paper.axis[a].move.map fun m => (m.target, m.owner))
            = some (u.endOf a (u.paper.axis[a].pos.toInt + u.conv a x.toInt), .service)
        ∧ t.paper.axis[a].pos = u.paper.axis[a].pos := by
  have hbehind : (u.paper.axis[a].pos.toInt + u.conv a x.toInt < u.paper.axis[a].pos.toInt) ↔ u.conv a x.toInt < 0 := by
    omega
  obtain ⟨cA, cB, hstart⟩ := State.startMove_is (s := u) (a := a) (move := u.serviceOf a x) rfl
    (fun h => hrev (.inr (hbehind.1 h))) (by rw [← hfree]; exact congrArg _ (decide_eq_decide.2 hbehind))
  have hwrite := k.own ((u.itemWrite_axis w a (off := 0x11) (by decide) _ x).trans
    (State.serviceMove_of_idle (fun h => hrev (.inl h)) hst hqueued)) (by decide)
  have hdone := hstart.wrote w (0x2011 + 0x80 * a.val) errOk
  exact ⟨_, congrArg Host.Outcome.next hwrite, hdone.alone, by rw [hdone.self], by rw [hdone.self] <;> rfl,
    by rw [hdone.self] <;> rfl⟩

/-! ### A queued move starts (R599, R604) -/

theorem State.blocked_congr {s t : State} {a : Fin 4} (hlim0 : t.paper.axis[a].lim0 = s.paper.axis[a].lim0)
    (hlim1 : t.paper.axis[a].lim1 = s.paper.axis[a].lim1) (hpar : ∀ i, t.aPar a i = s.aPar a i) (negative : Bool) :
    t.blocked a negative = s.blocked a negative := by
  unfold State.blocked
  dsimp only
  rw [hlim0, hlim1, hpar]

/-- Where a move that waits ends if it starts at a position. -/
theorem Move.startAt_eq (m : Move) (cur : Int) : m.startAt cur = { m with
    target := match m.dist with
      | some d => cur + d
      | none => m.target
    dist := none } := by
  obtain ⟨target, dist, speed, acc, owner, lineLocked, braking⟩ := m
  cases dist <;> rfl

/-- The axis with the queued move started, forward. -/
def Axis.startedQueued (x : Axis) (m : Move) (cA cB : Chop) : Axis :=
  { ({ x with queued := none } : Axis).launched (m.startAt x.pos.toInt) false with
    state := .moving, chopA := cA, chopB := cB }

/-- What is to be said of the axis whose queued move has started. -/
theorem Axis.startedQueued_move (x : Axis) (m : Move) (cA cB : Chop) : (x.startedQueued m cA cB).move = some { m with
    target := (match m.dist with
      | some d => x.pos.toInt + d
      | none => m.target)
    dist := none, braking := false } := by
  unfold Axis.startedQueued
  rw [Move.startAt_eq] <;> rfl

section
variable {s : State} {a : Fin 4} {m : Move}
  (hahead : s.paper.axis[a].pos.toInt < (m.startAt s.paper.axis[a].pos.toInt).target) (hfree : s.blocked a false = none)
include hahead hfree

theorem State.startForward_is {u : State} {x : Axis} (hx : u.paper.axis[a] = x)
    (hsame : x = { s.paper.axis[a] with queued := none }) (hpar : ∀ i, u.aPar a i = s.aPar a i) :
    ∃ cA cB, AxisIs a (s.paper.axis[a].startedQueued m cA cB) u (u.startMove a m) := by
  have hpos : u.paper.axis[a].pos = s.paper.axis[a].pos := by rw [hx, hsame]
  have hlim0 : u.paper.axis[a].lim0 = s.paper.axis[a].lim0 := by rw [hx, hsame]
  have hlim1 : u.paper.axis[a].lim1 = s.paper.axis[a].lim1 := by rw [hx, hsame]
  have hnot : ¬ (m.startAt s.paper.axis[a].pos.toInt).target < u.paper.axis[a].pos.toInt := by rw [hpos]; omega
  have hne : ¬ (m.startAt s.paper.axis[a].pos.toInt).target = u.paper.axis[a].pos.toInt := by rw [hpos]; omega
  obtain ⟨cA, cB, hstart⟩ := State.startMove_is (s := u) (a := a) (move := m) (by rw [hpos]) (fun h => absurd h hnot)
    (by rw [decide_eq_false hnot, State.blocked_congr hlim0 hlim1 hpar, hfree])
  rw [State.endOf_of_ahead hnot, if_neg hne, decide_eq_false hnot, hx, hsame] at hstart
  exact ⟨cA, cB, hstart⟩

section
variable (hqueued : s.paper.axis[a].queued = some m) (hmove : s.paper.axis[a].move = none)
  (hst : s.paper.axis[a].state = .idle)
include hqueued hmove hst

omit hahead hfree in
theorem queuedMoveStart_of_idle : exec (.queuedMoveStart a) s
    = .next ((s.onAxis a fun x => { x with queued := none }).startQueued a m) := by
  refine congrArg Host.Outcome.next ?_
  rw [hqueued]
  dsimp only
  refine (if_pos ⟨by rw [hmove] <;> rfl, .inl hst⟩).trans (if_neg ?_)
  rw [hst]
  rintro ⟨h, -⟩
  exact nomatch h

theorem queuedMoveStart_own (howner : ∀ h : Fin 4, m.owner ≠ .job h) : ∃ t cA cB,
    exec (.queuedMoveStart a) s = .next t ∧ AxisIs a (s.paper.axis[a].startedQueued m cA cB) s t := by
  have hdropped := (AxisIs.refl a s).onAxis fun x => { x with queued := none }
  obtain ⟨cA, cB, hstart⟩ := State.startForward_is hahead hfree hdropped.self rfl (fun _ => rfl)
  refine ⟨_, cA, cB, (queuedMoveStart_of_idle hqueued hmove hst).trans (congrArg _ ?_), hdropped.trans hstart⟩
  unfold State.startQueued
  dsimp only
  split
  next h hjob => exact absurd hjob (howner h)
  next => rfl

theorem queuedMoveStart_job {h : Fin 4} {r : Run} (howner : m.owner = .job h) (hrun : s.paper.run[h] = some r) :
    ∃ t cA cB, exec (.queuedMoveStart a) s = .next t ∧ AxisIs a (s.paper.axis[a].startedQueued m cA cB)
      (s.onRun h fun _ => some { r with startPos := s.paper.axis[a].pos.toInt }) t := by
  have hdropped := (AxisIs.refl a s).onAxis fun x => { x with queued := none }
  have hhere : (s.onAxis a fun x => { x with queued := none }).startsHere a m.owner
      = (s.onRun h fun _ => some { r with startPos := s.paper.axis[a].pos.toInt }).onAxis a
          fun x => { x with queued := none } := by
    rw [howner]
    unfold State.startsHere
    dsimp only
    rw [hdropped.self]
    simp [State.onRun, State.onAxis, State.onPaper, vmod, hrun]
  generalize hu : s.onRun h (fun _ => some { r with startPos := s.paper.axis[a].pos.toInt }) = u at hhere ⊢
  have haxis : u.paper.axis[a] = s.paper.axis[a] := by rw [← hu] <;> rfl
  have hlast := (AxisIs.refl a u).onAxis fun x => { x with queued := none }
  rw [haxis] at hlast
  obtain ⟨cA, cB, hstart⟩ := State.startForward_is hahead hfree hlast.self rfl (fun _ => by rw [← hu] <;> rfl)
  refine ⟨_, cA, cB, (queuedMoveStart_of_idle hqueued hmove hst).trans (congrArg _ ?_), hlast.trans hstart⟩
  have hnotPassed : (m.dist.isNone && decide (m.target < s.paper.axis[a].pos.toInt)) = false := by
    rw [Move.startAt_eq] at hahead
    cases hd : m.dist with
    | some d => rfl
    | none =>
      rw [hd] at hahead
      exact decide_eq_false (by dsimp only at hahead; omega)
  rw [← hhere]
  unfold State.startQueued
  dsimp only
  rw [howner, hdropped.self]
  exact if_neg (by dsimp only; rw [hnotPassed]; exact Bool.false_ne_true)

end
end

/-! ### Stops (R606 to R616) -/

/-- The axis after a hard stop. -/
def Axis.hardStopped (x : Axis) (cause : BitVec 3) : Axis :=
  { x.stopped with queued := none, uncertain := x.uncertain || !x.atRest, stopCause := cause, faults := x.faults + 1 }

theorem State.failAxisJobs_of_no_job {s : State} (a : Fin 4) (h : ∀ k : Fin 4, s.paper.run[k] = none) :
    s.failAxisJobs a = s := by
  unfold State.failAxisJobs
  refine List.foldl_fixed' (fun k => ?_) _
  rw [h k]

theorem State.hardStopTo_is {s u : State} {a : Fin 4} {x : Axis} (h : AxisIs a x u s)
    (hruns : ∀ k : Fin 4, u.paper.run[k] = none)
    (howner : ∀ m : Move, x.move = some m → m.owner = .service) (cause : BitVec 3) (st : AxisState) :
    AxisIs a { x.hardStopped cause with state := st } u (s.hardStopTo a cause st) := by
  have hstopped := (h.onAxis (fun x => x.hardStopped cause)).setAxis st
  have hquiet : s.hardStopTo a cause st = ((s.onAxis a fun x => x.hardStopped cause).setAxis a st).failAxisJobs a := by
    unfold State.hardStopTo
    dsimp only
    rw [h.self]
    cases hm : x.move with
    | none => rfl
    | some m =>
      dsimp only
      rw [howner m hm]
      rfl
  rw [hquiet, State.failAxisJobs_of_no_job a fun k => by rw [hstopped.run] <;> exact hruns k]
  exact hstopped

theorem State.limitEvent_reports (s : State) (a : Fin 4) (input : Fin 2) (hard : Bool) (vi : Option (Fin 8)) :
    Reports s (s.limitEvent a input hard vi) := by
  unfold State.limitEvent
  cases vi with
  | none => exact State.raise0_reports _ _ _ _
  | some v => exact (State.raise0_reports _ _ _ _).trans (State.raiseVi_reports _ _ _ _ _)

theorem State.rampStop_of_moving {s u : State} {a : Fin 4} {x : Axis} (h : AxisIs a x u s) (hst : x.state = .moving)
    (hspeed : x.atRest = false) : AxisIs a { x.dropQueued (x.move.map fun m => m.owner) with
      stopAt := some (s.aPar a 4 : Rat), state := .stopping } u (s.rampStop a) := by
  unfold State.rampStop
  dsimp only
  rw [h.self, hst]
  dsimp only
  rw [if_neg (by rw [hspeed]; exact Bool.false_ne_true)]
  have hdropped := h.onAxis fun y => y.dropQueued (y.move.map fun m => m.owner)
  have hslowing := (hdropped.onAxis fun y => { y with stopAt := some (s.aPar a 4 : Rat) }).setAxis .stopping
  exact hslowing

section
variable {s : State} {a : Fin 4} (hstepper : ¬(a = 3 ∧ s.cutterMode = true))
include hstepper

theorem bridgeFault_of_live (hruns : ∀ k : Fin 4, s.paper.run[k] = none)
    (hst : s.paper.axis[a].state = .idle ∨ s.paper.axis[a].state = .moving)
    (howner : ∀ m : Move, s.paper.axis[a].move = some m → m.owner = .service) : ∃ t,
    exec (.bridgeFault a true) s = .next t ∧
      AxisIs a { ({ s.paper.axis[a] with flt := true } : Axis).hardStopped 2 with
        state := .fault, chopA := .slow, chopB := .slow } s t := by
  have hlow := (AxisIs.refl a s).onAxis fun x => { x with flt := true }
  have hstop := (State.hardStopTo_is hlow hruns howner 2 .fault).onAxis
    fun x => { x with chopA := .slow, chopB := .slow }
  refine ⟨_, congrArg Host.Outcome.next ((if_neg (by decide)).trans ((if_neg hstepper).trans ?_)), hstop⟩
  obtain hidle | hmoving := hst
  · rw [hidle]
  · rw [hmoving]

theorem limitActive_of_moving {m : Move} {vi : Option (Fin 8)} (hvi : s.ownerVi m.owner = vi)
    (hst : s.paper.axis[a].state = .moving) (hmove : s.paper.axis[a].move = some m)
    (hneg : s.paper.axis[a].neg = false) (hon : s.aPar a 0xA / 256 % 4 ≠ 0) {s2 : State}
    (hs2 : s2 = (s.onAxis a fun x => { x with lim1 := true }).limitEvent a 1 (s.limitHard a 1) vi) :
    exec (.limitActive a 1 true) s = .next (if s.limitHard a 1 = true then s2.hardStopTo a 4 .idle
      else (s2.rampStop a).failOwner m.owner) := by
  have hgoes : ¬ (!true || decide ((if (1 : Fin 2) = 0 then s.aPar a 0xA % 4 else s.aPar a 0xA / 256 % 4) = 0)
      || !s.paper.axis[a].inMotion || !(if (1 : Fin 2) = 0 then s.paper.axis[a].neg else !s.paper.axis[a].neg))
      = true := by
    rw [hneg, if_neg (by decide), if_neg (by decide), decide_eq_false hon]
    unfold Axis.inMotion
    rw [hst]
    decide
  refine congrArg Host.Outcome.next ((if_neg hstepper).trans ((if_neg hgoes).trans ?_))
  rw [hmove, hst]
  dsimp only [Option.bind]
  rw [hvi, hs2]
  by_cases hhard : s.limitHard a 1 = true
  · rw [if_pos hhard, if_pos hhard, hhard, if_neg (by decide)] <;> rfl
  · rw [if_neg hhard, if_neg hhard, Bool.eq_false_of_not_eq_true hhard] <;> rfl

end

end Machine
/-- Settles O36: a move that starts or stops is a change of one axis, told by reports. -/
theorem movesStartAndStop : Obligations.MovesStartAndStop := by
  refine ⟨⟨?_, ?_⟩, ?_⟩
  · intro s u w a v x r k hst hqueued hmove
    refine ⟨fun hx hfree => ?_, fun hback hrev hfree => ?_, fun hx hrev => ?_⟩
    · have hconv := u.conv_nonneg a hx
      have hahead : ¬ u.paper.axis[a].pos.toInt + u.conv a x.toInt < u.paper.axis[a].pos.toInt := by omega
      have hgoes := serviceMove_starts k hst hqueued (by omega) (by rw [decide_eq_false (by omega)]; exact hfree)
      rw [State.endOf_of_ahead hahead] at hgoes
      exact hgoes
    · have hbehind : u.paper.axis[a].pos.toInt + u.conv a x.toInt < u.paper.axis[a].pos.toInt := by omega
      have hgoes := serviceMove_starts k hst hqueued (fun _ => hrev) (by rw [decide_eq_true hback]; exact hfree)
      have hend : u.endOf a (u.paper.axis[a].pos.toInt + u.conv a x.toInt)
          = if u.paper.axis[a].pos.toInt + u.conv a x.toInt < u.revFloor a
            then min u.paper.axis[a].pos.toInt (u.revFloor a) else u.paper.axis[a].pos.toInt + u.conv a x.toInt := by
        unfold State.endOf
        simp only [hbehind, true_and]
      rw [hend] at hgoes
      exact hgoes
    · have hwrite := k.own_reports ((u.itemWrite_axis w a (off := 0x11) (by decide) _ x).trans
        (State.serviceMove_irreversible hx hrev))
      exact ⟨_, rfl, hwrite⟩
  · intro s a m hqueued hmove hst cur end1 hahead hfree starts
    have hbound : s.paper.axis[a].pos.toInt < (m.startAt s.paper.axis[a].pos.toInt).target := by
      rw [Move.startAt_eq]
      exact hahead
    have hstarted : ∀ {t : State} {cA cB : Chop}, t.paper.axis[a] = s.paper.axis[a].startedQueued m cA cB →
        starts t := by
      intro t cA cB ht
      exact ⟨by rw [ht] <;> rfl, by rw [ht] <;> rfl, by rw [ht, Axis.startedQueued_move] <;> rfl, by rw [ht] <;> rfl⟩
    refine ⟨fun howner => ?_, fun h r howner hrun => ?_⟩
    · obtain ⟨t, cA, cB, hexec, ht⟩ := queuedMoveStart_own hbound hfree hqueued hmove hst howner
      exact ⟨t, hexec, ht.alone, hstarted ht.self⟩
    · obtain ⟨t, cA, cB, hexec, ht⟩ := queuedMoveStart_job hbound hfree hqueued hmove hst howner hrun
      have hruns : t.paper.run = s.paper.run.set h (some { r with startPos := cur }) := ht.run
      refine ⟨t, hexec, hstarted ht.self, ?_, fun k hk => ht.other hk, ?_⟩
      · rw [hruns]
        exact Vector.getElem_set_self h.isLt
      · have haxis : t.paper.axis = s.paper.axis.set a (s.paper.axis[a].startedQueued m cA cB) := by
          rw [ht.paper] <;> rfl
        rw [haxis, hruns]
        exact ht
  · intro s a hstepper hruns x
    refine ⟨fun hst howner => ?_, congrArg Host.Outcome.next (if_pos rfl), fun hrest b => ?_, fun hrest b => ?_, ?_⟩
    · obtain ⟨t, hexec, ht⟩ := bridgeFault_of_live hstepper hruns hst howner
      exact ⟨t, hexec, ht.alone, by rw [ht.self], by rw [ht.self] <;> rfl, by rw [ht.self] <;> rfl,
        by rw [ht.self] <;> rfl, by rw [ht.self] <;> rfl⟩
    · exact congrArg _ ((if_neg hstepper).trans (if_pos (by rw [hrest]; simp)))
    · exact congrArg _ ((if_neg hstepper).trans (if_pos (by rw [hrest]; simp)))
    · intro m hst hmove howner hneg hon
      have hnoVi : s.ownerVi m.owner = none := by rw [howner] <;> rfl
      have hexec := limitActive_of_moving hstepper hnoVi hst hmove hneg hon rfl
      have hseen := ((AxisIs.refl a s).onAxis fun x => { x with lim1 := true }).before
        (State.limitEvent_reports (s.onAxis a fun x => { x with lim1 := true }) a 1 (s.limitHard a 1) none)
      generalize (s.onAxis a fun x => { x with lim1 := true }).limitEvent a 1 (s.limitHard a 1) none = s2 at hexec hseen
      refine ⟨fun hhard => ?_, fun hsoft hspeed => ?_⟩
      · rw [if_pos hhard] at hexec
        have ht := State.hardStopTo_is hseen hruns (fun n hn => by
          rw [← howner, Option.some.inj (hn.symm.trans hmove)]) 4 .idle
        exact ⟨_, hexec, ht.alone, by rw [ht.self], by rw [ht.self] <;> rfl, by rw [ht.self] <;> rfl,
          by rw [ht.self] <;> rfl⟩
      · rw [if_neg (by rw [hsoft]; exact Bool.false_ne_true), howner] at hexec
        have ht := State.rampStop_of_moving hseen hst hspeed
        have hquiet : (s2.rampStop a).failOwner .service = s2.rampStop a := rfl
        rw [hquiet] at hexec
        exact ⟨_, hexec, ht.alone, by rw [ht.self], by rw [ht.self] <;> rfl, by rw [ht.self] <;> exact hmove⟩

end Sys2Proof
end

section
/-! PROOFS. axis.ctrl of the stepper axes (10_motion R567, R568, R612 to R614): statement O34. -/

namespace Sys2Proof

open Machine

namespace Machine

/-! ### A write of axis.ctrl, bit by bit -/

theorem Par.bit_of_low {x : Par} {n : Nat} (h : bits x 0 5 = n) {i : Nat} (hi : i < 5) : bit x i = n.testBit i := by
  rw [← h]
  unfold bit bits
  rw [Nat.testBit_mod_two_pow, decide_eq_true hi, Bool.true_and, Nat.shiftRight_zero]

section
variable {s : State} {a : Fin 4} {x : Par}

theorem State.writeAxisCtrl_off (h : bits x 0 5 = 0) : s.writeAxisCtrl a x = s.axisOff a 5 := by
  simp [State.writeAxisCtrl, Par.bit_of_low h, Nat.testBit_eq_decide_div_mod_eq]

theorem State.writeAxisCtrl_enable (h : bits x 0 5 = 1) : s.writeAxisCtrl a x = s.enableAxis a := by
  simp [State.writeAxisCtrl, Par.bit_of_low h, Nat.testBit_eq_decide_div_mod_eq]

theorem State.writeAxisCtrl_halt (h : bits x 0 5 = 3) : s.writeAxisCtrl a x = (s.enableAxis a).haltAxis a := by
  simp [State.writeAxisCtrl, Par.bit_of_low h, Nat.testBit_eq_decide_div_mod_eq]

theorem State.writeAxisCtrl_clear (h : bits x 0 5 = 5) : s.writeAxisCtrl a x = (s.enableAxis a).clearAxis a := by
  simp [State.writeAxisCtrl, Par.bit_of_low h, Nat.testBit_eq_decide_div_mod_eq]

theorem State.writeAxisCtrl_clearUncertain (h : bits x 0 5 = 9) :
    s.writeAxisCtrl a x = (s.enableAxis a).onAxis a fun y => { y with uncertain := false } := by
  simp [State.writeAxisCtrl, Par.bit_of_low h, Nat.testBit_eq_decide_div_mod_eq]

theorem State.writeAxisCtrl_revRef (h : bits x 0 5 = 17) :
    s.writeAxisCtrl a x = (s.enableAxis a).onAxis a fun y => { y with revHigh := y.pos } := by
  simp [State.writeAxisCtrl, Par.bit_of_low h, Nat.testBit_eq_decide_div_mod_eq, State.revReference]

end

/-! ### ENABLE, HALT and CLEAR (R567, R568) -/

section
variable {s : State} {a : Fin 4} (hstepper : ¬(a = 3 ∧ s.cutterMode = true))
include hstepper

theorem State.enableAxis_of_enabled (hst : s.paper.axis[a].state ≠ .off) : s.enableAxis a = s := by
  unfold State.enableAxis
  dsimp only
  rw [if_neg hstepper, if_pos (by simpa using hst)]

theorem State.enableAxis_refused (hst : s.paper.axis[a].state = .off) {c : BitVec 3}
    (hcheck : s.enableCheck a = some c) :
    s.enableAxis a = (s.onAxis a fun y => { y with enableRefused := true, refuseCause := c }).axisEvent a := by
  unfold State.enableAxis
  dsimp only
  rw [if_neg hstepper, if_neg (by rw [hst]; decide), hcheck]
  exact if_neg hstepper

theorem State.enableAxis_taken (hst : s.paper.axis[a].state = .off) (hcheck : s.enableCheck a = none) : ∃ cA cB,
    AxisIs a { s.paper.axis[a] with
      enable := true, enableRefused := false, reduced := false, revHigh := s.paper.axis[a].pos, state := .idle
      chopA := cA, chopB := cB } s (s.enableAxis a) := by
  have hready := ((AxisIs.refl a s).onAxis fun y => { y with enable := true, enableRefused := false }).onAxis
    fun y => { y with reduced := false, revHigh := y.pos, chopA := .slow, chopB := .slow }
  obtain ⟨cA, cB, hdacs⟩ := hready.loadDacs
  have hdone : s.enableAxis a = (((s.onAxis a fun y => { y with enable := true, enableRefused := false }).onAxis a
      fun y => { y with reduced := false, revHigh := y.pos, chopA := .slow, chopB := .slow }).loadDacs a).setAxis a
        .idle := by
    unfold State.enableAxis
    dsimp only
    rw [if_neg hstepper, if_neg (by rw [hst]; decide), hcheck]
    exact if_neg hstepper
  rw [hdone]
  exact ⟨cA, cB, hdacs.setAxis .idle⟩

theorem State.axisOff_of_idle (hst : s.paper.axis[a].state = .idle) (cause : BitVec 3) :
    AxisIs a { s.paper.axis[a] with
      enable := false, reduced := false, queued := none, chopA := .slow, chopB := .slow, state := .off }
      s (s.axisOff a cause) := by
  have hquiet := (AxisIs.refl a s).onAxis fun y => { y with
    enable := false, reduced := false, queued := none, chopA := .slow, chopB := .slow }
  have hdone : s.axisOff a cause = (s.onAxis a fun y => { y with
      enable := false, reduced := false, queued := none, chopA := .slow, chopB := .slow }).setAxis a .off := by
    refine (if_neg hstepper).trans (if_neg ?_)
    unfold Axis.inMotion
    rw [hst]
    decide
  rw [hdone]
  exact hquiet.setAxis .off

theorem State.haltAxis_of_idle (hst : s.paper.axis[a].state = .idle) (hmove : s.paper.axis[a].move = none)
    (hruns : ∀ k : Fin 4, s.paper.run[k] = none) :
    AxisIs a { s.paper.axis[a].hardStopped 1 with state := .fault } s (s.haltAxis a) := by
  have hdone : s.haltAxis a = s.hardStopTo a 1 .fault := by
    refine (if_neg hstepper).trans ?_
    rw [hst]
  rw [hdone]
  exact State.hardStopTo_is (AxisIs.refl a s) hruns (fun m hm => nomatch hmove.symm.trans hm) 1 .fault

theorem State.clearAxis_of_gone (hst : s.paper.axis[a].state = .fault) (hflt : s.paper.axis[a].flt = false) :
    ∃ cA cB, AxisIs a { s.paper.axis[a] with state := .idle, chopA := cA, chopB := cB } s (s.clearAxis a) := by
  obtain ⟨cA, cB, hdacs⟩ := (AxisIs.refl a s).loadDacs
  have hdone : s.clearAxis a = (s.loadDacs a).setAxis a .idle :=
    (if_neg hstepper).trans ((if_neg (by rw [hst]; decide)).trans (if_neg (by rw [hflt]; exact Bool.false_ne_true)))
  rw [hdone]
  exact ⟨cA, cB, hdacs.setAxis .idle⟩

theorem State.clearAxis_of_low (hst : s.paper.axis[a].state = .fault) (hflt : s.paper.axis[a].flt = true) :
    s.clearAxis a = s.axisEvent a :=
  (if_neg hstepper).trans ((if_neg (by rw [hst]; decide)).trans (if_pos hflt))

end

/-- A write of axis.ctrl that is taken leaves the axis as the write makes it. -/
theorem axisCtrl_is {s u t : State} {w : Fin 11} {a : Fin 4} {v x : Par} {r : ParRow} {y : Axis}
    (k : Takes s w (axisCtrlAt a) v r u x) (hwrite : u.writeAxisCtrl a x = t) (ht : AxisIs a y u t) :
    AxisIs a y (wrote w (axisCtrlAt a) 0 u) (s.ownCommit w (axisCtrlAt a) v) := by
  rw [axisCtrl_takes k, hwrite]
  exact ht.wrote w (axisCtrlAt a) errOk

end Machine

/-- Settles O34: each bit of the control word by the branch it takes on an axis that no job uses. -/
theorem axisControl : Obligations.AxisControl := by
  intro s u w a v x r hstepper hruns _ base y
  refine ⟨fun k hx hst => ⟨fun hcheck => ?_, fun c hcheck => ?_⟩, fun k hx hst => ?_, fun k hx hst hmove => ?_,
    fun k hx hst hflt => ?_, fun k hx hst hflt => ?_, fun k hx hst => ?_, fun k hx hst => ?_⟩
  · obtain ⟨cA, cB, htaken⟩ := State.enableAxis_taken hstepper hst hcheck
    have ht := axisCtrl_is k (State.writeAxisCtrl_enable hx) htaken
    exact ⟨_, rfl, ht.alone, by rw [ht.self], by rw [ht.self], by rw [ht.self], by rw [ht.self], by rw [ht.self]⟩
  · exact congrArg Host.Outcome.next ((axisCtrl_takes k).trans (congrArg _
      ((State.writeAxisCtrl_enable hx).trans (State.enableAxis_refused hstepper hst hcheck))))
  · have ht := axisCtrl_is k (State.writeAxisCtrl_off hx) (State.axisOff_of_idle hstepper hst 5)
    exact ⟨_, rfl, ht.alone, by rw [ht.self], by rw [ht.self], by rw [ht.self]⟩
  · have hon : u.enableAxis a = u := State.enableAxis_of_enabled hstepper (by rw [hst]; decide)
    have ht := axisCtrl_is k ((State.writeAxisCtrl_halt hx).trans (by rw [hon]))
      (State.haltAxis_of_idle hstepper hst hmove hruns)
    exact ⟨_, rfl, ht.alone, by rw [ht.self], by rw [ht.self] <;> rfl, by rw [ht.self] <;> rfl, by rw [ht.self] <;> rfl⟩
  · have hon : u.enableAxis a = u := State.enableAxis_of_enabled hstepper (by rw [hst]; decide)
    obtain ⟨cA, cB, hclear⟩ := State.clearAxis_of_gone hstepper hst hflt
    have ht := axisCtrl_is k ((State.writeAxisCtrl_clear hx).trans (by rw [hon])) hclear
    exact ⟨_, rfl, ht.alone, by rw [ht.self], by rw [ht.self]⟩
  · have hon : u.enableAxis a = u := State.enableAxis_of_enabled hstepper (by rw [hst]; decide)
    exact congrArg Host.Outcome.next ((axisCtrl_takes k).trans (congrArg _
      ((State.writeAxisCtrl_clear hx).trans (by rw [hon, State.clearAxis_of_low hstepper hst hflt]))))
  · have hon : u.enableAxis a = u := State.enableAxis_of_enabled hstepper hst
    exact congrArg Host.Outcome.next ((axisCtrl_takes k).trans (congrArg _
      ((State.writeAxisCtrl_clearUncertain hx).trans (by rw [hon]))))
  · have hon : u.enableAxis a = u := State.enableAxis_of_enabled hstepper hst
    exact congrArg Host.Outcome.next ((axisCtrl_takes k).trans (congrArg _
      ((State.writeAxisCtrl_revRef hx).trans (by rw [hon]))))

end Sys2Proof
end

section
/-! PROOFS. The cut cycle (10_motion R619 to R624; 11_media_outputs R659, R664 to R666): statement O37. -/

namespace Sys2Proof

open Machine

namespace Machine

/-! ### The cutter's own operations -/

theorem Reports.onCutter {s t : State} (h : Reports s t) (f : Cutter → Cutter) :
    Reports (s.onCutter f) (t.onCutter f) := by
  unfold Reports at *
  rw [h]
  rfl

theorem State.cutterEvent_reports (s : State) (since : Nat) : Reports s (s.cutterEvent since) := by
  unfold State.cutterEvent
  dsimp only
  split
  · split
    · split
      · exact (State.raise0_reports _ _ _ _).trans (State.raiseVi_reports _ _ _ _ _)
      · exact State.raise0_reports _ _ _ _
    · exact State.raise0_reports _ _ _ _
  · exact State.raise0_reports _ _ _ _

theorem State.cutterDropJob_of_none {s : State} (h : s.paper.cutter.head = none) :
    s.cutterDropJob = s.onCutter fun c => { c with head := none, waits := false, left := false } := by
  unfold State.cutterDropJob
  dsimp only
  rw [h]

theorem State.activate_paper (s : State) (j : JobRef) : (s.activate j).paper = s.paper := by
  unfold State.activate
  dsimp only
  split
  · split
    · exact (State.raiseVi_reports _ _ _ _ _).paper
    · rfl
  · rfl

theorem State.activate_island (s : State) (j : JobRef) : (s.activate j).island = s.island := by
  unfold State.activate
  dsimp only
  split
  · split
    · exact (State.raiseVi_reports _ _ _ _ _).island
    · rfl
  · rfl

/-- The bridge of the cutter driven as a state asks. -/
def State.drivenAs (s : State) (st : CutState) : State := s.onAxis 3 fun x => { x with
  chopA := cutterChop s.now (chopBlank (s.aPar 3 9)) x.chopA st }

theorem State.setCutter_eq (s : State) (st : CutState) :
    s.setCutter st = (s.onCutter fun c => { c with state := st, since := s.now }).drivenAs st := rfl

theorem State.drivenAs_pos (s : State) (st : CutState) (a : Fin 4) :
    (s.drivenAs st).paper.axis[a].pos = s.paper.axis[a].pos :=
  vmod_keeps Axis.pos s.paper.axis 3 rfl a

theorem State.drivenAs_onCutter (s : State) (st : CutState) (f : Cutter → Cutter) :
    (s.drivenAs st).onCutter f = (s.onCutter f).drivenAs st := rfl

theorem State.onCutter_onCutter (s : State) (f g : Cutter → Cutter) :
    (s.onCutter f).onCutter g = s.onCutter fun c => g (f c) := rfl

theorem State.onCutter_congr {s : State} {f g : Cutter → Cutter} (h : f s.paper.cutter = g s.paper.cutter) :
    s.onCutter f = s.onCutter g := by
  simp only [State.onCutter, State.onPaper, h]

/-! ### The commands -/

section
variable {s : State} {h : Fin 4} (hwanted : s.cutWanted h = true) (hmay : s.cutMay h = true)
include hwanted hmay

theorem cutStart_of_purge (hrun : s.paper.run[h] = none) : exec (.cutStart h) s
    = .next ((s.onCutter fun c => { c with
        state := .cutting, left := false, isPartial := false, fault := false, since := s.now, head := some h
        waits := true }).drivenAs .cutting) := by
  refine congrArg Host.Outcome.next ((if_pos ⟨hwanted, hmay⟩).trans ?_)
  rw [hrun]
  rfl

theorem cutStart_of_job {r : Run} (hrun : s.paper.run[h] = some r) (hphase : r.phase = .cut)
    (hkind : (s.job r.job).kind = 3) : exec (.cutStart h) s
    = .next (((s.onCutter fun c => { c with
        state := .cutting, left := false, isPartial := (s.job r.job).partialCut, fault := false, since := s.now
        head := some h, waits := true }).drivenAs .cutting).activate r.job) := by
  refine congrArg Host.Outcome.next ((if_pos ⟨hwanted, hmay⟩).trans ?_)
  rw [hrun]
  dsimp only
  have hpartial : (decide (r.phase = .cut) && decide ((s.job r.job).kind = 3) && (s.job r.job).partialCut)
      = (s.job r.job).partialCut := by rw [decide_eq_true hphase, decide_eq_true hkind, Bool.true_and, Bool.true_and]
  rw [if_pos hkind, hpartial]
  rfl

end

section
variable {s : State} (hmode : s.cutterMode = true)
include hmode

theorem homeSwitch_left (hst : s.paper.cutter.state = .cutting) :
    exec (.homeSwitch false) s = .next (s.onCutter fun c => { c with home := false, left := true }) := by
  refine congrArg Host.Outcome.next ((if_neg (by rw [hmode]; decide)).trans ?_)
  rw [hst]
  rfl

theorem homeSwitch_braking (hst : s.paper.cutter.state = .returning ∨ (s.paper.cutter.state = .cutting
      ∧ s.paper.cutter.left = true ∧ s.paper.cutter.isPartial = false)) : exec (.homeSwitch true) s
    = .next ((s.onCutter fun c => { c with home := true, state := .braking, since := s.now }).drivenAs .braking) := by
  refine congrArg Host.Outcome.next ((if_neg (by rw [hmode]; decide)).trans ?_)
  obtain hreturning | ⟨hcutting, hleft, hfull⟩ := hst
  · rw [hreturning]
    rfl
  · rw [hcutting]
    dsimp only
    rw [if_neg (by decide), if_pos ⟨hleft, by rw [hfull]; rfl⟩]
    rfl

end

section
variable {s : State}

theorem cutPartialTimeout_returns (hst : s.paper.cutter.state = .cutting) (hpartial : s.paper.cutter.isPartial = true)
    (hleft : s.paper.cutter.left = true) : exec .cutPartialTimeout s = .next ((s.onCutter fun d => { d with
      state := if s.paper.cutter.home then .braking else .returning, since := s.now }).drivenAs
        (if s.paper.cutter.home then .braking else .returning)) :=
  congrArg Host.Outcome.next (if_pos ⟨hst, hpartial, hleft⟩)

theorem cutTimeout_of_cutting (hst : s.paper.cutter.state = .cutting) (hhome : s.paper.cutter.home = false) :
    Answers .cutTimeout s fun t => Reports ((s.onCutter fun d => { d with
      state := .returning, fault := true, since := s.now }).drivenAs .returning) t := by
  refine ⟨_, congrArg Host.Outcome.next ?_, State.cutterEvent_reports _ s.paper.cutter.since⟩
  rw [hst, hhome]
  rfl

theorem cutTimeout_of_returning (hst : s.paper.cutter.state = .returning) (hhead : s.paper.cutter.head = none) :
    Answers .cutTimeout s fun t => Reports ((s.onCutter fun d => { d with
      state := .jammed, since := s.now, head := none, waits := false, left := false }).drivenAs .jammed) t := by
  have htold := State.cutterEvent_reports (s.setCutter .jammed) s.paper.cutter.since
  refine ⟨s.cutterJam, congrArg Host.Outcome.next (by rw [hst]), ?_⟩
  unfold State.cutterJam
  rw [State.cutterDropJob_of_none (by rw [htold.paper] <;> exact hhead)]
  exact Reports.onCutter htold fun c => { c with head := none, waits := false, left := false }

theorem brakeEnd_of_none (hst : s.paper.cutter.state = .braking) (hhead : s.paper.cutter.head = none) :
    exec .brakeEnd s = .next ((s.onCutter fun d => { d with
      state := .home, since := s.now, head := none, waits := false, left := false }).drivenAs .home) := by
  refine congrArg Host.Outcome.next ((if_pos hst).trans ?_)
  rw [hhead]
  rfl

/-- What a purge that has waited for its cut takes from the end of it. -/
def State.purgeAnswered (u : State) (h a : Fin 4) : State :=
  ((u.onMedia h fun m => { m with cutLine := none, cutWait := false }).revReference a).onLoamHead h fun l =>
    if l.purging then { l with purgeCut := true } else l

theorem State.purgeAnswered_purgeCut (u : State) (h a : Fin 4) :
    (u.purgeAnswered h a).loam.head[h].purgeCut = (u.loam.head[h].purgeCut || u.loam.head[h].purging) := by
  rw [show (u.purgeAnswered h a).loam.head[h] = _ from vmod_self u.loam.head h fun l =>
    if l.purging then { l with purgeCut := true } else l]
  split
  next hp => rw [hp, Bool.or_true]
  next hp => rw [Bool.eq_false_of_not_eq_true hp, Bool.or_false]

theorem State.purgeAnswered_revHigh (u : State) (h a : Fin 4) :
    (u.purgeAnswered h a).paper.axis[a].revHigh = u.paper.axis[a].pos := by
  rw [show (u.purgeAnswered h a).paper.axis[a] = _ from vmod_self u.paper.axis a _]

theorem State.purgeAnswered_cutLine (u : State) (h a : Fin 4) :
    (u.purgeAnswered h a).paper.media[h].cutLine = none := by
  rw [show (u.purgeAnswered h a).paper.media[h] = _ from vmod_self u.paper.media h _]

/-- The end of braking of a cut that a purge waits for (04_tenancy R280). -/
theorem brakeEnd_of_purge {h : Fin 4} (hst : s.paper.cutter.state = .braking) (hhead : s.paper.cutter.head = some h)
    (hfault : s.paper.cutter.fault = false) (hwaits : s.paper.cutter.waits = true) (hrun : s.paper.run[h] = none) :
    exec .brakeEnd s = .next (((s.onCutter fun x => { x with
      state := .home, since := s.now, head := none, waits := false, left := false
      count := x.count + 1 }).drivenAs .home).purgeAnswered h (s.paperAxis h)) := by
  refine congrArg Host.Outcome.next ((if_pos hst).trans ?_)
  rw [hhead, hfault, hwaits]
  dsimp only
  rw [if_neg (by decide), if_neg (by decide), if_neg (by decide), hrun]
  rfl

end

end Machine

/-- Settles O37: one lemma for each transition of the cutter. -/
theorem theCutterCuts : Obligations.TheCutterCuts := by
  intro s hmode c driven
  refine ⟨fun h => cutStart_of_purge, fun h r hwanted hmay hrun hphase hkind => ?_, homeSwitch_left hmode,
    fun hst hleft hfull => homeSwitch_braking hmode (.inr ⟨hst, hleft, hfull⟩),
    fun hst => homeSwitch_braking hmode (.inl hst), cutPartialTimeout_returns, cutTimeout_of_cutting,
    cutTimeout_of_returning, brakeEnd_of_none, fun h hst hhead hfault hwaits hrun => ?_⟩
  · refine ⟨_, cutStart_of_job hwanted hmay hrun hphase hkind, ?_⟩
    dsimp only
    rw [State.activate_paper, State.activate_island]
    exact ⟨rfl, rfl, rfl, rfl, rfl, rfl, rfl⟩
  · refine ⟨_, brakeEnd_of_purge hst hhead hfault hwaits hrun, ?_⟩
    generalize hu : s.onCutter _ = u
    have haxis : u.paper.axis = s.paper.axis := by rw [← hu] <;> rfl
    have hloam : u.loam = s.loam := by rw [← hu] <;> rfl
    refine ⟨by rw [← hu] <;> rfl, by rw [← hu] <;> rfl, ?_, ?_, State.purgeAnswered_cutLine _ _ _, by rw [← hu] <;> rfl,
      by rw [← hu] <;> rfl⟩
    · rw [← hloam]
      exact State.purgeAnswered_purgeCut _ _ _
    · rw [← haxis, State.purgeAnswered_revHigh]
      exact u.drivenAs_pos .home (s.paperAxis h)

end Sys2Proof
end

section
/-! PROOFS. The lamp and solenoid channels (11_media_outputs R667 to R685): statement O39. -/

namespace Sys2Proof

open Machine

namespace Machine

/-! ### Folds over the channels -/

/-- A fold over all of them, of which each step changes its own element and keeps what does not depend on the steps
(`I`), does to each what its step does. -/
theorem foldl_each {σ α : Type} {n : Nat} {g : σ → Fin n → σ} {F : σ → Fin n → α} {I : σ → Prop}
    {Q : Fin n → α → α → Prop} (hkeep : ∀ u c, I u → I (g u c)) (hother : ∀ u c d, d ≠ c → F (g u c) d = F u d)
    (hself : ∀ u c, I u → Q c (F u c) (F (g u c) c)) {s : σ} (hs : I s) :
    I ((List.finRange n).foldl g s) ∧ ∀ c, Q c (F s c) (F ((List.finRange n).foldl g s) c) := by
  have hpast : ∀ (l : List (Fin n)) (u : σ) (c : Fin n), c ∉ l → F (l.foldl g u) c = F u c := by
    intro l
    induction l with
    | nil => exact fun u c _ => rfl
    | cons d l ih =>
      intro u c hc
      obtain ⟨hd, hl⟩ := not_or.1 (mt List.mem_cons.2 hc)
      rw [List.foldl_cons, ih _ c hl, hother u d c hd]
  have hall : ∀ (l : List (Fin n)) (u : σ), l.Nodup → I u →
      I (l.foldl g u) ∧ ∀ c, c ∈ l → Q c (F u c) (F (l.foldl g u) c) := by
    intro l
    induction l with
    | nil => exact fun u _ hu => ⟨hu, fun c hc => nomatch hc⟩
    | cons d l ih =>
      intro u hl hu
      obtain ⟨hd, hl⟩ := List.nodup_cons.1 hl
      obtain ⟨hend, hrest⟩ := ih (g u d) hl (hkeep u d hu)
      refine ⟨hend, fun c hc => ?_⟩
      by_cases hcd : c = d
      · subst hcd
        rw [List.foldl_cons, hpast l _ c hd]
        exact hself u c hu
      · have hstep := hrest c ((List.mem_cons.1 hc).resolve_left hcd)
        rw [hother u d c hcd] at hstep
        exact hstep
  obtain ⟨hend, heach⟩ := hall (List.finRange n) s (List.nodup_finRange n) hs
  exact ⟨hend, fun c => heach c (List.mem_finRange c)⟩

/-! ### One channel -/

theorem State.onLamp_self (s : State) (c : Fin 8) (f : Lamp → Lamp) :
    (s.onLamp c f).paper.lamp[c] = f s.paper.lamp[c] := vmod_self s.paper.lamp c f

theorem State.onLamp_other (s : State) {c d : Fin 8} (f : Lamp → Lamp) (h : d ≠ c) :
    (s.onLamp c f).paper.lamp[d] = s.paper.lamp[d] := vmod_other s.paper.lamp c d f (Ne.symm h)

/-- Only lamp channels and the order of their requests differ. -/
def LampsAlone (s t : State) : Prop :=
  t = { s with paper := { s.paper with lamp := t.paper.lamp, lampOrder := t.paper.lampOrder } }

theorem LampsAlone.refl (s : State) : LampsAlone s s := rfl

theorem LampsAlone.trans {s t u : State} (h : LampsAlone s t) (k : LampsAlone t u) : LampsAlone s u := by
  unfold LampsAlone at *
  rw [h] at k
  exact k

theorem State.onLamp_alone (s : State) (c : Fin 8) (f : Lamp → Lamp) : LampsAlone s (s.onLamp c f) := rfl

theorem State.requestOn_alone (s : State) (c : Fin 8) (duty : Nat) : LampsAlone s (s.requestOn c duty) := by
  unfold State.requestOn
  dsimp only
  split <;> rfl

theorem State.requestOn_other (s : State) {c d : Fin 8} (duty : Nat) (h : d ≠ c) :
    (s.requestOn c duty).paper.lamp[d] = s.paper.lamp[d] := by
  unfold State.requestOn
  dsimp only
  split
  · exact (State.onLamp_other _ _ h).trans (State.onLamp_other _ _ h)
  · exact State.onLamp_other _ _ h

/-- What a request for ON makes of its channel (R669, R670). -/
theorem State.requestOn_self (s : State) (c : Fin 8) (duty : Nat) :
    (s.requestOn c duty).paper.lamp[c].command = some duty ∧ (s.requestOn c duty).paper.lamp[c].state
      = if s.paper.lamp[c].state = .off then .waiting else s.paper.lamp[c].state := by
  unfold State.requestOn
  dsimp only
  split
  next hoff =>
    have hlamp : ((s.onLamp c fun l => { l with command := some duty }).onLamp c fun l =>
        { l with state := .waiting, order := s.paper.lampOrder }).paper.lamp[c]
        = { s.paper.lamp[c] with command := some duty, state := .waiting, order := s.paper.lampOrder } := by
      rw [State.onLamp_self, State.onLamp_self]
    rw [if_pos hoff]
    exact ⟨congrArg Lamp.command hlamp, congrArg Lamp.state hlamp⟩
  next hon =>
    rw [State.onLamp_self, if_neg hon]
    exact ⟨rfl, rfl⟩

/-! ### lamp.cmd (R677) -/

/-- A lamp.cmd with bits for channels the tenant has. -/
def State.mayLamps (u : State) (y : Fin 8) (x : Par) : Prop :=
  bits x 0 8 &&& bits (u.vi[y].contract[2]) 0 8 = bits x 0 8

theorem State.lampOp_alone (s : State) (op duty : Nat) (c : Fin 8) : LampsAlone s (s.lampOp op duty c) := by
  unfold State.lampOp
  split
  · split
    · exact .refl s
    · exact s.onLamp_alone c _
  · exact s.requestOn_alone c duty
  · exact s.onLamp_alone c _
  · split
    · exact s.onLamp_alone c _
    · exact .refl s

theorem State.lampOp_other (s : State) (op duty : Nat) {c d : Fin 8} (h : d ≠ c) :
    (s.lampOp op duty c).paper.lamp[d] = s.paper.lamp[d] := by
  unfold State.lampOp
  split
  · split
    · rfl
    · exact s.onLamp_other _ h
  · exact s.requestOn_other duty h
  · exact s.onLamp_other _ h
  · split
    · exact s.onLamp_other _ h
    · rfl

theorem State.lampOff_state (s : State) (c : Fin 8) : (s.lampOff c).paper.lamp[c].state = .off := by
  unfold State.lampOff
  rw [State.onLamp_self]

/-- OFF of a channel (R669). -/
theorem State.lampOp_off (s : State) (duty : Nat) (c : Fin 8) : (s.lampOp 0 duty c).paper.lamp[c].state
    = if s.paper.lamp[c].state ≠ .tripped then .off else s.paper.lamp[c].state := by
  have hop : s.lampOp 0 duty c = if s.paper.lamp[c].state = .tripped then s else s.lampOff c := rfl
  rw [hop]
  by_cases htripped : s.paper.lamp[c].state = .tripped
  · rw [if_pos htripped, if_neg (not_not_intro htripped)]
  · rw [if_neg htripped, if_pos htripped, State.lampOff_state]

/-- CLEAR of a channel (R675). -/
theorem State.lampOp_clear (s : State) (duty : Nat) (c : Fin 8) : (s.lampOp 3 duty c).paper.lamp[c].state
    = if s.paper.lamp[c].state = .tripped then .off else s.paper.lamp[c].state := by
  have hop : s.lampOp 3 duty c = if s.paper.lamp[c].state = .tripped then s.lampOff c else s := rfl
  rw [hop]
  by_cases htripped : s.paper.lamp[c].state = .tripped
  · rw [if_pos htripped, if_pos htripped, State.lampOff_state]
  · rw [if_neg htripped, if_neg htripped]

/-- An operation on the channels of the bits: each of them becomes what the operation makes of it. -/
theorem State.writeLampCmd_each {u : State} {y : Fin 8} {x : Par} (hmay : u.mayLamps y x)
    {Q : Fin 8 → Lamp → Lamp → Prop} (hout : ∀ c l, bit x c.val = false → Q c l l)
    (hin : ∀ (t : State) c, bit x c.val = true →
      Q c t.paper.lamp[c] (t.lampOp (bits x 8 2) (bits x 16 9) c).paper.lamp[c]) : ∃ t,
    u.writeLampCmd y x = (t, errOk) ∧ LampsAlone (u.onVi y fun q => { q with lampCmd := x }) t
      ∧ ∀ c : Fin 8, Q c u.paper.lamp[c] t.paper.lamp[c] := by
  obtain ⟨halone, heach⟩ := foldl_each (s := u.onVi y fun q => { q with lampCmd := x })
    (I := LampsAlone (u.onVi y fun q => { q with lampCmd := x })) (F := fun (t : State) (c : Fin 8) => t.paper.lamp[c])
    (g := fun t c => if bit x c.val then t.lampOp (bits x 8 2) (bits x 16 9) c else t) (Q := Q)
    (fun t c ht => by
      split
      · exact ht.trans (t.lampOp_alone _ _ c)
      · exact ht)
    (fun t c d hd => by
      split
      · exact t.lampOp_other _ _ hd
      · rfl)
    (fun t c _ => by
      split
      next hb => exact hin t c hb
      next hb => exact hout c _ (Bool.eq_false_of_not_eq_true hb))
    (.refl _)
  exact ⟨_, if_neg fun h => h hmay, halone, heach⟩

theorem State.writeLampCmd_denied {u : State} {y : Fin 8} {x : Par} (hmay : ¬ u.mayLamps y x) :
    u.writeLampCmd y x = (u, errNoAccess) := if_pos hmay

theorem State.itemWrite_lampCmd {u : State} {w : Fin 11} {r : ParRow} {y : Fin 8} {x : Par}
    (hbanked : r.banked = true) (hport : u.portVi w = some y) :
    u.itemWrite w 0x29C0 (if r.banked then u.portVi w else none) x = u.writeLampCmd y x := by
  rw [hbanked, if_pos rfl, hport] <;> rfl

/-- A lamp.cmd that is taken: its effect on the channels, and what else it writes. -/
theorem lampCmd_taken {s u : State} {w : Fin 11} {v x : Par} {r : ParRow} {y : Fin 8} (k : Takes s w 0x29C0 v r u x)
    (hbanked : r.banked = true) (hport : u.portVi w = some y) (hmay : u.mayLamps y x)
    {Q : Fin 8 → Lamp → Lamp → Prop} (hout : ∀ c l, bit x c.val = false → Q c l l)
    (hin : ∀ (t : State) c, bit x c.val = true →
      Q c t.paper.lamp[c] (t.lampOp (bits x 8 2) (bits x 16 9) c).paper.lamp[c]) : ∃ t,
    s.ownCommit w 0x29C0 v = t
      ∧ t = wrote w 0x29C0 0 ({ u with paper := { u.paper with
          lamp := t.paper.lamp, lampOrder := t.paper.lampOrder } }.onVi y fun q => { q with lampCmd := x })
      ∧ ∀ c : Fin 8, Q c u.paper.lamp[c] t.paper.lamp[c] := by
  obtain ⟨t, hwrite, halone, heach⟩ := State.writeLampCmd_each hmay hout hin
  refine ⟨_, k.own ((State.itemWrite_lampCmd hbanked hport).trans hwrite) (by decide), ?_, heach⟩
  exact congrArg (wrote w 0x29C0 errOk) halone

/-! ### What the channels do by themselves (R670 to R675) -/

section
variable {s : State} {c : Fin 8}

theorem lampAdmit_of_oldest (holdest : s.oldestWaiting = some c) (hnone : ∀ d : Fin 8, s.paper.lamp[d].state ≠ .tripped)
    (hbudget : s.budgetUsed + s.lPar c 2 ≤ s.parN 0x2980) (hany : s.parN 0x2980 ≠ 0) : exec .lampAdmit s
      = .next (s.onLamp c fun l => { l with state := .inrush, period := 0, duty := s.inrushDuty c 0 }) := by
  have hfree : ((List.finRange 8).any fun (d : Fin 8) => s.paper.lamp[d].state = .tripped) = false :=
    List.any_eq_false.2 fun d _ => by simpa using hnone d
  refine congrArg Host.Outcome.next ?_
  rw [holdest]
  exact if_pos ⟨by rw [hfree]; rfl, hbudget, hany⟩

theorem State.lampTrip_reports (heavy : Bool) : Reports (s.onLamp c fun l => { l with
    state := .tripped, overload := heavy, duty := 0, trips := l.trips + 1, period := 0 }) (s.lampTrip c heavy) := by
  unfold State.lampTrip State.lampEvent
  exact State.raiseBoth_reports _ _ _ _ _

theorem lampOpen_of_low (hst : s.paper.lamp[c].state = .on) (hduty : s.paper.lamp[c].duty ≠ 0)
    (hlow : s.paper.lamp[c].iMeas < s.lPar c 7) (hopen : s.paper.lamp[c].isOpen = false) :
    Answers (.lampOpen c) s fun t => Reports (s.onLamp c fun l => { l with isOpen := true }) t :=
  ⟨_, congrArg Host.Outcome.next (if_pos ⟨hst, hduty, hlow, by rw [hopen]; rfl⟩), State.raiseBoth_reports _ _ _ _ _⟩

end

/-- Duty in period `j` of the inrush of a channel (R671, R678). -/
def State.rampDuty (s : State) (c : Fin 8) (l : Lamp) (j : Nat) : Nat :=
  if s.solenoid c then 256 else if s.lPar c 4 = 0 then l.commanded else l.commanded * j / s.inrushPeriods c

/-- Duty of a channel ON (R678). -/
def State.steadyDuty (s : State) (c : Fin 8) (l : Lamp) : Nat := if s.solenoid c then s.lPar c 5 else l.commanded

/-- A channel one PWM period on. -/
def State.lampPeriod (s : State) (c : Fin 8) (l : Lamp) : Lamp :=
  { l with
    limiting := l.blanked, blanked := false
    period := if l.state = .inrush then l.period + 1 else l.period
    duty := match l.state with
      | .inrush => s.rampDuty c l (min (l.period + 1) (s.inrushPeriods c))
      | .on => s.steadyDuty c l
      | _ => 0 }

/-- The channels and nothing else change. -/
def OnlyLamps (s t : State) : Prop := t = { s with paper := { s.paper with lamp := t.paper.lamp } }

section
variable {s u : State} (h : OnlyLamps s u) (c : Fin 8)
include h

theorem OnlyLamps.lPar (k : Nat) : u.lPar c k = s.lPar c k := by rw [h] <;> rfl

theorem OnlyLamps.solenoid : u.solenoid c = s.solenoid c := by rw [h] <;> rfl

theorem OnlyLamps.inrushPeriods : u.inrushPeriods c = s.inrushPeriods c := by rw [h] <;> rfl

theorem OnlyLamps.inrushDuty (j : Nat) : u.inrushDuty c j = s.rampDuty c u.paper.lamp[c] j := by
  unfold State.inrushDuty State.rampDuty
  rw [h.solenoid, h.lPar, h.inrushPeriods]

theorem OnlyLamps.onDuty : u.onDuty c = s.steadyDuty c u.paper.lamp[c] := by
  unfold State.onDuty State.steadyDuty
  rw [h.solenoid, h.lPar]

theorem OnlyLamps.onLamp (f : Lamp → Lamp) : OnlyLamps s (u.onLamp c f) := by
  unfold OnlyLamps at *
  rw [h]
  rfl

end

theorem pwmPeriod_each (s : State) : Answers .pwmPeriod s fun t =>
    OnlyLamps s t ∧ ∀ c : Fin 8, t.paper.lamp[c] = s.lampPeriod c s.paper.lamp[c] := by
  refine ⟨_, rfl, foldl_each (I := OnlyLamps s) (F := fun (t : State) (c : Fin 8) => t.paper.lamp[c])
    (Q := fun c l l' => l' = s.lampPeriod c l) (fun u c hu => hu.onLamp c _) (fun u c d hd => u.onLamp_other _ hd)
    (fun u c hu => ?_) rfl⟩
  dsimp only
  rw [State.onLamp_self, hu.inrushPeriods, hu.inrushDuty, hu.onDuty]
  rfl

end Machine
/-- Settles O39: the command goes over its channels one after another, each changed by its own bit alone. -/
theorem lampChannels : Obligations.LampChannels := by
  refine ⟨?_, ?_⟩
  · intro s u w v x r y hbanked hport may done
    refine ⟨fun k hop hmay => ?_, fun k hop hmay => ?_, fun k hop hmay => ?_, fun k hop hmay => ?_, fun k hmay => ?_⟩
    · obtain ⟨t, hexec, ht, heach⟩ := lampCmd_taken k hbanked hport hmay
        (Q := fun c l l' => l'.command = (if bit x c.val then some (bits x 16 9) else l.command)
          ∧ l'.state = if bit x c.val ∧ l.state = .off then .waiting else l.state)
        (fun c l hc => by simp [hc]) (fun t c hc => by
          rw [hop]
          simp only [hc, if_true, true_and]
          exact t.requestOn_self c (bits x 16 9))
      exact ⟨t, congrArg Host.Outcome.next hexec, ht, heach⟩
    · obtain ⟨t, hexec, ht, heach⟩ := lampCmd_taken k hbanked hport hmay
        (Q := fun c l l' => l'.state = if bit x c.val ∧ l.state ≠ .tripped then .off else l.state)
        (fun c l hc => by simp [hc]) (fun t c hc => by
          rw [hop]
          simp only [hc, true_and]
          exact t.lampOp_off (bits x 16 9) c)
      exact ⟨t, congrArg Host.Outcome.next hexec, ht, heach⟩
    · obtain ⟨t, hexec, ht, heach⟩ := lampCmd_taken k hbanked hport hmay
        (Q := fun c l l' => l' = if bit x c.val then { l with command := some (bits x 16 9) } else l)
        (fun c l hc => by simp [hc]) (fun t c hc => by
          rw [hop, if_pos hc]
          exact t.onLamp_self c _)
      exact ⟨t, congrArg Host.Outcome.next hexec, ht, heach⟩
    · obtain ⟨t, hexec, ht, heach⟩ := lampCmd_taken k hbanked hport hmay
        (Q := fun c l l' => l'.state = if bit x c.val ∧ l.state = .tripped then .off else l.state)
        (fun c l hc => by simp [hc]) (fun t c hc => by
          rw [hop]
          simp only [hc, true_and]
          exact t.lampOp_clear (bits x 16 9) c)
      exact ⟨t, congrArg Host.Outcome.next hexec, ht, heach⟩
    · exact ⟨_, rfl, k.own_reports ((State.itemWrite_lampCmd hbanked hport).trans (State.writeLampCmd_denied hmay))⟩
  · intro s c l
    refine ⟨lampAdmit_of_oldest, fun hst hdone => congrArg _ (if_pos ⟨hst, hdone⟩),
      fun hdriven => congrArg _ (if_pos hdriven),
      fun hst => ⟨_, congrArg Host.Outcome.next (if_pos hst), State.lampTrip_reports true⟩,
      fun hdriven => ⟨_, congrArg Host.Outcome.next (if_pos hdriven), State.lampTrip_reports false⟩, lampOpen_of_low,
      fun code hdriven => congrArg _ (if_pos hdriven), ?_⟩
    obtain ⟨t, hexec, ht, heach⟩ := pwmPeriod_each s
    have hlamp : t.paper.lamp[c] = s.lampPeriod c l := heach c
    refine ⟨t, hexec, ht, ?_⟩
    rw [hlamp]
    refine ⟨rfl, rfl, rfl, fun hon => ?_, fun hinrush => ⟨if_pos hinrush, ?_⟩, fun hrest => ?_⟩
    · unfold State.lampPeriod
      rw [hon] <;> rfl
    · unfold State.lampPeriod
      rw [hinrush] <;> rfl
    · unfold State.lampPeriod
      unfold Lamp.driven at hrest
      cases hst : l.state <;> rw [hst] at hrest <;> simp_all

end Sys2Proof
end

section
/-! PROOFS. The converters and their sequencers (12_analog_thermal R690 to R712): statement O40. -/

namespace Sys2Proof

open Machine

namespace Machine

/-! ### The order of what is due (R698) -/

/-- A conversion is begun no later than another: by priority, by how long it has been due, by number. -/
def Due.le (d e : Due) : Prop :=
  d.prio < e.prio ∨ (d.prio = e.prio ∧ (d.since < e.since ∨ (d.since = e.since ∧ d.number ≤ e.number)))

theorem Due.le_refl (d : Due) : d.le d := .inr ⟨rfl, .inr ⟨rfl, Nat.le_refl _⟩⟩

theorem Due.le_trans {a b c : Due} (h : a.le b) (k : b.le c) : a.le c := by
  unfold Due.le at *
  omega

theorem Due.le_of_before {a b : Due} (h : a.before b = true) : a.le b := by
  unfold Due.before at h
  simp only [Bool.or_eq_true, Bool.and_eq_true, decide_eq_true_eq] at h
  unfold Due.le
  omega

theorem Due.le_of_not_before {a b : Due} (h : ¬ a.before b = true) : b.le a := by
  unfold Due.before at h
  simp only [Bool.or_eq_true, Bool.and_eq_true, decide_eq_true_eq] at h
  unfold Due.le
  omega

theorem mem_insertDue (d e : Due) (l : List Due) : e ∈ insertDue d l ↔ e = d ∨ e ∈ l := by
  induction l with
  | nil => exact List.mem_cons
  | cons f t ih =>
    unfold insertDue
    split
    · exact List.mem_cons
    · rw [List.mem_cons, ih, List.mem_cons]
      exact or_left_comm

theorem mem_foldr_insertDue (e : Due) (l : List Due) : e ∈ l.foldr insertDue [] ↔ e ∈ l := by
  induction l with
  | nil => exact Iff.rfl
  | cons d t ih => rw [List.foldr_cons, mem_insertDue, ih, List.mem_cons]

/-- The first of a list comes before all of it. -/
def LeadsWithLeast (l : List Due) : Prop := ∀ d, l.head? = some d → ∀ e ∈ l, d.le e

theorem LeadsWithLeast.insertDue {l : List Due} (h : LeadsWithLeast l) (d : Due) : LeadsWithLeast (insertDue d l) := by
  intro f hf e he
  rw [mem_insertDue] at he
  cases l with
  | nil =>
    obtain rfl : d = f := Option.some.inj hf
    obtain rfl | he := he
    · exact e.le_refl
    · cases he
  | cons g t =>
    have hg := h g rfl
    unfold Machine.insertDue at hf
    by_cases hbefore : d.before g = true
    · rw [if_pos hbefore] at hf
      obtain rfl : d = f := Option.some.inj hf
      obtain rfl | he := he
      · exact e.le_refl
      · exact Due.le_trans (Due.le_of_before hbefore) (hg e he)
    · rw [if_neg hbefore] at hf
      obtain rfl : g = f := Option.some.inj hf
      obtain rfl | he := he
      · exact Due.le_of_not_before hbefore
      · exact hg e he

theorem leadsWithLeast_foldr (l : List Due) : LeadsWithLeast (l.foldr insertDue []) := by
  induction l with
  | nil => exact fun d hd => nomatch hd
  | cons d t ih => exact ih.insertDue d

theorem State.mem_dueOn (s : State) (x : Fin 2) (d : Due) : d ∈ s.dueOn x ↔ d ∈ s.analog.conv[x].due ∨
    (s.analog.conv[x].running = true ∧ s.analog.conv[x].delaying = false
      ∧ d = { prio := 6, since := s.now, number := bits (s.adcPar x (0x10 + s.analog.conv[x].entry.val)) 0 7 }) := by
  unfold State.dueOn
  dsimp only
  rw [mem_foldr_insertDue, List.mem_append, or_comm]
  refine or_congr Iff.rfl ?_
  split
  next h =>
    obtain ⟨hrun, hdelay⟩ := h
    rw [List.mem_singleton]
    exact ⟨fun hd => ⟨hrun, by simpa using hdelay, hd⟩, fun hd => hd.2.2⟩
  next h => exact ⟨fun hd => (nomatch hd), fun ⟨hrun, hdelay, _⟩ => absurd ⟨hrun, by rw [hdelay]; rfl⟩ h⟩

/-! ### One converter -/

/-- But for what is reported, only converter `x` changes, and it becomes `k`. -/
def ConvIs (x : Fin 2) (k : Converter) (s t : State) : Prop := Reports (s.onConv x fun _ => k) t

theorem State.onConv_onConv (s : State) (x : Fin 2) (f g : Converter → Converter) :
    (s.onConv x f).onConv x g = s.onConv x fun k => g (f k) := by
  simp only [State.onConv, State.onAnalog, vmod_vmod]

theorem State.onConv_self (s : State) (x : Fin 2) (f : Converter → Converter) :
    (s.onConv x f).analog.conv[x] = f s.analog.conv[x] := vmod_self s.analog.conv x f

theorem State.onConv_congr {s : State} {x : Fin 2} {f g : Converter → Converter}
    (h : f s.analog.conv[x] = g s.analog.conv[x]) : s.onConv x f = s.onConv x g := by
  simp only [State.onConv, State.onAnalog, vmod, h]

/-- A pass begins (R704, R706). -/
def State.passStarted (s : State) (x : Fin 2) (k : Converter) : Converter := { k with
  running := true, delaying := true, aborting := false, entry := 0, sum := 0, done := 0, late := false
  passes := k.passes + 1, limits := Vector.ofFn fun (e : Fin 16) => s.adcPar x (0x20 + e.val) }

theorem State.adcTrigger_at_rest {s : State} {x : Fin 2} (h : s.analog.conv[x].running = false) :
    s.adcTrigger x = s.onConv x (s.passStarted x) :=
  if_neg (by rw [h]; exact Bool.false_ne_true)

/-- A trigger in a pass is counted (R704). -/
theorem State.adcTrigger_in_pass {s : State} {x : Fin 2} (h : s.analog.conv[x].running = true) :
    Reports (s.onConv x fun k => { k with
      overruns := k.overruns + 1, overrunAt := ((s.adcTrigger x).analog.conv[x]).overrunAt }) (s.adcTrigger x) := by
  have hlast : ∀ at' : Option Nat, ∀ t, Reports (s.onConv x fun k => { k with
      overruns := k.overruns + 1, overrunAt := at' }) t → Reports (s.onConv x fun k => { k with
        overruns := k.overruns + 1, overrunAt := (t.analog.conv[x]).overrunAt }) t := by
    intro at' t ht
    rw [ht.analog, State.onConv_self]
    exact ht
  unfold State.adcTrigger
  dsimp only
  rw [if_pos h]
  refine @iteInduction _ _ _ (fun t : State => Reports (s.onConv x fun k => { k with
    overruns := k.overruns + 1, overrunAt := (t.analog.conv[x]).overrunAt }) t) _ _ (fun _ => ?_) fun _ => ?_
  · refine hlast (some s.now) _ ?_
    rw [State.onConv_onConv]
    exact State.raise0_reports _ _ _ _
  · refine hlast s.analog.conv[x].overrunAt _ ?_
    rw [State.onConv_congr (g := fun k => { k with
      overruns := k.overruns + 1, overrunAt := s.analog.conv[x].overrunAt }) rfl]
    exact Reports.refl _

/-! ### adc.ctrl (R702, R707) -/

theorem adcCtrl_takes {s u : State} {w : Fin 11} {x : Fin 2} {v q : Par} {r : ParRow}
    (k : Takes s w (0x3003 + 0x80 * x.val) v r u q) : s.ownCommit w (0x3003 + 0x80 * x.val) v
      = wrote w (0x3003 + 0x80 * x.val) 0 (u.adcCtrl x q) := by
  refine k.own (e := errOk) ?_ (by decide)
  have hunit : unitOf 2 (0x3003 + 0x80 * x.val) 0x3000 0x80 = x := by
    apply Fin.ext
    simp only [unitOf, Fin.ofNat]
    omega
  unfold State.itemWrite
  rw [if_neg (by omega), if_neg (by omega), if_neg (by omega), if_neg (by omega), if_neg (by omega), if_neg (by omega),
    if_neg (by omega), if_pos (by omega), hunit]

section
variable {u : State} {x : Fin 2} {q : Par}

theorem State.adcCtrl_go (hgo : bit q 0 = true) (habort : bit q 1 = false) (hen : u.adcEn x = true)
    (hmanual : bits (u.adcPar x 0) 2 2 = 0) (hrest : (u.analog.conv[x]).running = false) :
    u.adcCtrl x q = u.onConv x (u.passStarted x) := by
  unfold State.adcCtrl
  dsimp only
  rw [if_neg (by rw [habort]; exact Bool.false_ne_true), if_pos ⟨hgo, hen, hmanual⟩, State.adcTrigger_at_rest hrest]

theorem State.adcCtrl_abort (hgo : bit q 0 = false) (habort : bit q 1 = true)
    (hrun : (u.analog.conv[x]).running = true) (hdelay : (u.analog.conv[x]).delaying = true) :
    u.adcCtrl x q = (u.setPar (0x3000 + 0x80 * x.val) none (u.adcPar x 0 &&& 0xFFFFFFFE)).onConv x fun k => { k with
      running := false, delaying := false } := by
  unfold State.adcCtrl
  dsimp only
  rw [if_pos habort, if_neg fun h => Bool.false_ne_true (hgo.symm.trans h.1)]
  refine State.onConv_congr (s := u.adcOff x) ?_
  have hconv : (u.adcOff x).analog.conv[x] = u.analog.conv[x] := rfl
  rw [hconv, if_pos hrun, if_pos hdelay]

end

/-! ### A pass goes on (R693, R702, R708 to R711) -/

/-- The result of an entry as its word gives it (R709): flags and the number of the pass stand above it. -/
theorem resultWord_low (r n : Nat) (hr : r < 2 ^ 16) (late lim above : Bool) :
    bits (fld r 0 ||| flag late 17 ||| flag lim 18 ||| flag above 19 ||| fld n 20) 0 16 = r := by
  have hflag : ∀ (b : Bool) (i : Nat), 17 ≤ i → i < 20 → (flag b i).toNat % 2 ^ 16 = 0 := by
    intro b i hlow hhigh
    obtain rfl | rfl | rfl : i = 17 ∨ i = 18 ∨ i = 19 := by omega
    all_goals cases b <;> rfl
  have hpass : (fld n 20).toNat % 2 ^ 16 = 0 := by
    unfold fld
    rw [BitVec.toNat_ofNat, Nat.shiftLeft_eq]
    omega
  have hraw : (fld r 0).toNat = r := by
    unfold fld
    rw [BitVec.toNat_ofNat, Nat.shiftLeft_zero]
    omega
  unfold bits
  rw [Nat.shiftRight_zero]
  simp only [BitVec.toNat_or, Nat.or_mod_two_pow, hflag late 17 (by omega) (by omega),
    hflag lim 18 (by omega) (by omega), hflag above 19 (by omega) (by omega), hpass, hraw, Nat.or_zero]
  exact Nat.mod_eq_of_lt hr

section
variable {s : State} {x : Fin 2} (code : BitVec 12) (late : Bool) (hrun : s.analog.conv[x].running = true)
  (hdelay : s.analog.conv[x].delaying = false) (habort : s.analog.conv[x].aborting = false)
include hrun hdelay habort

/-- A conversion of a pass is summed (R708). -/
theorem conversionDone_of_pass : exec (.conversionDone x code late) s = .next (
    let k := s.analog.conv[x]
    let s1 := s.onConv x fun k => { k with
      sum := k.sum + (s.adcCode (bits (s.adcPar x (0x10 + s.analog.conv[x].entry.val)) 0 7) code).toNat
      done := k.done + 1, late := k.late || late }
    if 2 ^ bits (s.adcPar x (0x10 + k.entry.val)) 20 4 ≤ k.done + 1 then s1.endEntry x else s1) := by
  refine congrArg Host.Outcome.next ((if_neg ?_).trans ?_)
  · rw [hrun, hdelay]
    decide
  · dsimp only
    by_cases hlast : 2 ^ bits (s.adcPar x (0x10 + s.analog.conv[x].entry.val)) 20 4 ≤ s.analog.conv[x].done + 1
    · rw [if_pos hlast, if_pos hlast]
    · rw [if_neg hlast, if_neg hlast]
      exact if_neg (by rw [habort]; exact Bool.false_ne_true)

end

/-- The converter after an entry that is not the last of its pass (R705, R709, R711). -/
def State.entryEnded (s : State) (x : Fin 2) : Converter :=
  let k := s.analog.conv[x]
  let cfg := s.adcPar x (0x10 + k.entry.val)
  let q := k.entryResult cfg
  { k with
    result := k.result.set k.entry
      (fld q.1 0 ||| flag k.late 17 ||| flag q.2.2 18 ||| flag q.2.1 19 ||| fld (k.passes.toNat % 4096) 20)
    outside := if bit cfg 28 then k.outside.set k.entry q.2.2 else k.outside
    sum := 0, done := 0, late := false, aborting := false, entry := k.entry + 1, running := true, powered := true }

theorem State.entryEnded_result {s : State} {x : Fin 2} {e : Fin 16} {n : Nat} (he : s.analog.conv[x].entry = e)
    (hn : s.analog.conv[x].sum = n) : bits (s.entryEnded x).result[e] 0 16
      = sat (n >>> bits (s.adcPar x (0x10 + e.val)) 24 4) 65535 := by
  subst he hn
  unfold State.entryEnded
  rw [show ∀ (v : Vector Par 16) (i : Fin 16) (a : Par), (v.set i a)[i] = a from
    fun v i a => Vector.getElem_set_self i.isLt]
  refine resultWord_low _ _ ?_ _ _ _
  unfold Converter.entryResult sat
  dsimp only
  split <;> omega

theorem State.endEntry_of_more {s : State} {x : Fin 2} (habort : s.analog.conv[x].aborting = false)
    (hmore : s.analog.conv[x].entry.val < bits (s.adcPar x 0) 12 4) : ConvIs x (s.entryEnded x) s (s.endEntry x) := by
  have hends : (s.analog.conv[x].aborting || decide (bits (s.adcPar x 0) 12 4 ≤ s.analog.conv[x].entry.val))
      = false := by
    rw [habort, Bool.false_or]
    exact decide_eq_false (Nat.not_le.2 hmore)
  unfold State.endEntry
  dsimp only
  rw [hends]
  rw [if_neg fun h => Bool.false_ne_true h.1]
  generalize hs1 : s.onConv x _ = s1
  have hended : ConvIs x (s.entryEnded x) s s1 := by
    have hsame : s1 = s.onConv x fun _ => s.entryEnded x := hs1.symm.trans (State.onConv_congr rfl)
    rw [hsame]
    exact Reports.refl _
  split
  · exact Reports.trans hended (State.raise0_reports _ _ _ _)
  · exact hended

/-- The last conversion of an entry that is not the last of its pass (R705, R708). -/
theorem conversionDone_of_entry {s : State} {x : Fin 2} (code : BitVec 12) (late : Bool)
    (hrun : s.analog.conv[x].running = true) (hdelay : s.analog.conv[x].delaying = false)
    (habort : s.analog.conv[x].aborting = false)
    (hlast : 2 ^ bits (s.adcPar x (0x10 + s.analog.conv[x].entry.val)) 20 4 ≤ s.analog.conv[x].done + 1)
    (hmore : s.analog.conv[x].entry.val < bits (s.adcPar x 0) 12 4) :
    Answers (.conversionDone x code late) s fun t =>
      bits (t.analog.conv[x]).result[s.analog.conv[x].entry] 0 16 = sat ((s.analog.conv[x].sum
          + (s.adcCode (bits (s.adcPar x (0x10 + s.analog.conv[x].entry.val)) 0 7) code).toNat)
            >>> bits (s.adcPar x (0x10 + s.analog.conv[x].entry.val)) 24 4) 65535
      ∧ (t.analog.conv[x]).entry = s.analog.conv[x].entry + 1 ∧ (t.analog.conv[x]).sum = 0 ∧ (t.analog.conv[x]).done = 0
      ∧ (t.analog.conv[x]).running = true ∧ Reports (s.onConv x fun _ => t.analog.conv[x]) t := by
  have hexec := conversionDone_of_pass code late hrun hdelay habort
  dsimp only at hexec
  rw [if_pos hlast] at hexec
  have hsummed := s.onConv_self x fun k => { k with
    sum := k.sum + (s.adcCode (bits (s.adcPar x (0x10 + s.analog.conv[x].entry.val)) 0 7) code).toNat
    done := k.done + 1, late := k.late || late }
  generalize hu : s.onConv x _ = u at hexec hsummed
  have hpar : ∀ i, u.adcPar x i = s.adcPar x i := fun i => by rw [← hu] <;> rfl
  have hended := State.endEntry_of_more (s := u) (x := x) (by rw [hsummed]; exact habort)
    (by rw [hsummed, hpar]; exact hmore)
  have hresult := State.entryEnded_result (congrArg Converter.entry hsummed) (congrArg Converter.sum hsummed)
  have hentry : (u.entryEnded x).entry = u.analog.conv[x].entry + 1 := rfl
  rw [hpar] at hresult
  rw [hsummed] at hentry
  have hself : (u.endEntry x).analog.conv[x] = u.entryEnded x := by
    rw [Reports.analog hended, State.onConv_self]
  refine ⟨_, hexec, ?_⟩
  dsimp only
  rw [hself]
  refine ⟨hresult, hentry, rfl, rfl, rfl, ?_⟩
  have hsame : (s.onConv x fun _ => u.entryEnded x) = u.onConv x fun _ => u.entryEnded x := by
    rw [← hu, State.onConv_onConv]
  rw [hsame]
  exact hended

end Machine

/-- Settles O40: the choice is a minimum over the conversions due; a pass goes on entry by entry. -/
theorem convertersRunPasses : Obligations.ConvertersRunPasses := by
  intro s x k starts
  refine ⟨fun d hd => ⟨List.mem_of_mem_head? hd, leadsWithLeast_foldr _ d hd⟩, List.head?_eq_none_iff.1, s.mem_dueOn x,
    fun hislands hen hsource => ⟨fun hrest => ?_, fun hrun => ?_⟩, ?_, ?_, fun hrun hdelay => ?_, ?_⟩
  · exact congrArg Host.Outcome.next ((if_pos ⟨hislands, hen, hsource⟩).trans (State.adcTrigger_at_rest hrest))
  · exact ⟨_, congrArg Host.Outcome.next (if_pos ⟨hislands, hen, hsource⟩), State.adcTrigger_in_pass hrun⟩
  · intro w v q r u k hgo habort hen hmanual hrest
    exact congrArg Host.Outcome.next ((adcCtrl_takes k).trans
      (congrArg _ (State.adcCtrl_go hgo habort hen hmanual hrest)))
  · intro w v q r u k hgo habort hrun hdelay
    exact congrArg Host.Outcome.next ((adcCtrl_takes k).trans
      (congrArg _ (State.adcCtrl_abort hgo habort hrun hdelay)))
  · exact congrArg Host.Outcome.next (State.onConv_congr (if_pos ⟨hrun, hdelay⟩))
  · intro code late hrun hdelay habort cfg n
    refine ⟨fun hmore => ?_, fun hlast hmore => conversionDone_of_entry code late hrun hdelay habort hlast hmore⟩
    rw [conversionDone_of_pass code late hrun hdelay habort]
    exact congrArg Host.Outcome.next (if_neg (Nat.not_le.2 hmore))

end Sys2Proof
end

section
/-! PROOFS. The work on the paper paths leaves the island alone: each operation that an answer of the island can set in
motion (13_kaolin_island R765 to R770) keeps it as it is, in the order in which the operations are built. -/

namespace Sys2Proof

open Machine

namespace Machine

@[simp] theorem State.island_ite (c : Prop) [Decidable c] (s t : State) :
    (if c then s else t).island = if c then s.island else t.island := apply_ite State.island c s t

theorem SiltAlone.island {s t : State} (h : SiltAlone s t) : t.island = s.island := by rw [h]

/-! ### Frames of the link, pages, chunks and bands -/

@[simp] theorem State.queueFrame_island (s : State) (t : BitVec 4) (dst : BitVec 5) (payload : List Byte) :
    (s.queueFrame t dst payload).island = s.island := by simp [State.queueFrame]

@[simp] theorem State.sendResult_island (s : State) (node : Fin 16) (migId : Word)
    (code detail headTime amount : Nat) :
    (s.sendResult node migId code detail headTime amount).island = s.island := by simp [State.sendResult]

@[simp] theorem State.freeFrame_island (s : State) (f : Nat) : (s.freeFrame f).island = s.island :=
  (s.freeFrame_alone f).island

@[simp] theorem State.putFrame_island (s : State) (f : Nat) (x : Frame) : (s.putFrame f x).island = s.island :=
  (s.putFrame_alone f x).island

@[simp] theorem State.unpinFrame_island (s : State) (f : Nat) (who : Fin 5) :
    (s.unpinFrame f who).island = s.island := by
  simp only [State.unpinFrame]
  (repeat' split) <;> simp

@[simp] theorem State.unpinWhere_island (s : State) (v : Fin 8) (who : Fin 5) (t : Nat → Bool) :
    (s.unpinWhere v who t).island = s.island := by
  unfold State.unpinWhere
  refine foldl_keeps State.island (fun u e => ?_) _ _
  split <;> simp

@[simp] theorem State.pinPage_island (s : State) (v : Fin 8) (p : Nat) (who : Fin 5) :
    (s.pinPage v p who).island = s.island := by
  unfold State.pinPage
  split <;> simp

@[simp] theorem State.dropBands_island (s : State) (v : Fin 8) (b n : Nat) :
    (s.dropBands v b n).island = s.island := (s.dropBands_alone v b n).island

/-! ### Accounts and the end of jobs -/

@[simp] theorem State.accrue_island (s : State) : s.accrue.island = s.island := by
  rw [s.accrue_refreshed.frame]

@[simp] theorem State.charge_island (s : State) (v : Fin 8) (h : Fin 4) (t : Nat) (surplus : Bool) :
    (s.charge v h t surplus).island = s.island := by simp [State.charge]

@[simp] theorem State.breakChain_island (s : State) (j : JobRef) : (s.breakChain j).island = s.island := by
  unfold State.breakChain
  dsimp only
  cases (s.job j).chain with
  | none => rfl
  | some c =>
    dsimp only
    split
    · rfl
    · refine (foldl_keeps State.island (fun u e => ?_) _ _).trans rfl
      rfl

@[simp] theorem State.chainOver_island (s : State) (h : Fin 4) : (s.chainOver h).island = s.island := by
  unfold State.chainOver
  split <;> simp

@[simp] theorem State.endGuest_island (s : State) (j : JobRef) (ok : Bool) (result headTime amount : Nat) :
    (s.endGuest j ok result headTime amount).island = s.island := by
  unfold State.endGuest
  split <;> simp

@[simp] theorem State.queueSpace_island (s : State) (v : Fin 8) : (s.queueSpace v).island = s.island := by
  unfold State.queueSpace
  cases s.vi[v].queueFull with
  | none => rfl
  | some h =>
    dsimp only
    split
    · rw [State.raiseVi_island]
      rfl
    · rfl

@[simp] theorem State.finishOne_island (s : State) (j : JobRef) (st : JobState) (result amount : Nat) :
    (s.finishOne j st result amount).island = s.island := by simp [State.finishOne]

@[simp] theorem State.fencesDone_island (s : State) (v : Fin 8) : (s.fencesDone v).island = s.island := by
  refine foldl_keeps State.island (fun u e => ?_) _ _
  dsimp only
  split
  · rw [State.queueSpace_island, State.finishOne_island]
  · rfl

@[simp] theorem State.endJob_island (s : State) (j : JobRef) (st : JobState) (result amount : Nat) :
    (s.endJob j st result amount).island = s.island := by
  unfold State.endJob
  dsimp only
  rw [State.queueSpace_island, State.fencesDone_island, State.chainOver_island,
    foldl_keeps State.island fun u e => State.finishOne_island _ _ _ _ _]
  simp

@[simp] theorem State.dispatchJob_island (s : State) (j : JobRef) (surplus : Bool) :
    (s.dispatchJob j surplus).island = s.island := by
  simp only [State.dispatchJob]
  split <;> simp

@[simp] theorem State.handOver_island (s : State) (h : Fin 4) :
    (s.handOver h).island = s.island := by simp [State.handOver]

/-! ### Heads and axes -/

@[simp] theorem State.headEvent_island (s : State) (h : Fin 4) :
    (s.headEvent h).island = s.island := by simp [State.headEvent]

@[simp] theorem State.settleHeadOut_island (s : State) :
    s.settleHeadOut.island = s.island := by simp [State.settleHeadOut]

@[simp] theorem State.endStrobes_island (s : State) (h : Fin 4) (t : Rat) (atOnce : Bool) :
    (s.endStrobes h t atOnce).island = s.island := by simp [State.endStrobes]

@[simp] theorem State.setHead_island (s : State) (h : Fin 4) (st : HeadState) (cause : OutCause) :
    (s.setHead h st cause).island = s.island := by simp [State.setHead]

@[simp] theorem State.axisEvent_island (s : State) (a : Fin 4) :
    (s.axisEvent a).island = s.island := by simp [State.axisEvent]

@[simp] theorem State.setAxis_island (s : State) (a : Fin 4) (st : AxisState) :
    (s.setAxis a st).island = s.island := by simp [State.setAxis]

@[simp] theorem State.rampStop_island (s : State) (a : Fin 4) : (s.rampStop a).island = s.island := by
  simp only [State.rampStop]
  split <;> simp

@[simp] theorem State.settleDisable_island (s : State) (h : Fin 4) :
    (s.settleDisable h).island = s.island := by simp [State.settleDisable]

@[simp] theorem State.endRun_island (s : State) (h : Fin 4) (st : JobState) (result amount : Nat) :
    (s.endRun h st result amount).island = s.island := by
  unfold State.endRun
  split <;> simp

@[simp] theorem State.stopMoves_island (s : State) (h : Fin 4) (r : Run) :
    (s.stopMoves h r).island = s.island := by simp [State.stopMoves]

/-- But for a cancelled job, whose report is withdrawn from the mailbox. -/
theorem State.stopJobAt_island (s : State) (h : Fin 4) (t : Rat) {st : JobState} (hst : st ≠ .cancelled)
    (result : Nat) : (s.stopJobAt h t st result).island = s.island := by
  simp only [State.stopJobAt, hst, if_false, and_false]
  (repeat' split) <;> simp

@[simp] theorem State.failOwner_island (s : State) (o : MoveOwner) : (s.failOwner o).island = s.island := by
  unfold State.failOwner
  cases o with
  | job h => exact s.stopJobAt_island _ _ (by decide) _
  | learn h => rfl
  | purge h => rfl
  | service => rfl

/-! ### Moves and the phases of a job -/

@[simp] theorem State.limitEvent_island (s : State) (a : Fin 4) (input : Fin 2) (hard : Bool) (vi : Option (Fin 8)) :
    (s.limitEvent a input hard vi).island = s.island := (s.limitEvent_reports a input hard vi).island

@[simp] theorem State.loadDacs_island (s : State) (a : Fin 4) :
    (s.loadDacs a).island = s.island := by simp [State.loadDacs]

@[simp] theorem State.startMove_island (s : State) (a : Fin 4) (move : Move) :
    (s.startMove a move).island = s.island := by
  unfold State.startMove
  dsimp only
  generalize move.startAt s.paper.axis[a].pos.toInt = m
  split
  · simp
  · split
    · simp
    · rw [State.setAxis_island, State.island_ite, State.loadDacs_island, ite_self, State.onAxis_island]
      exact (s.toldEnd_reports a m _).island

@[simp] theorem State.requestMove_island (s : State) (a : Fin 4) (m : Move) :
    (s.requestMove a m).island = s.island := by
  simp only [State.requestMove]
  split <;> simp

@[simp] theorem State.feedTo_island (s : State) (h a : Fin 4) (target : Int) (o : MoveOwner) :
    (s.feedTo h a target o).island = s.island := by simp [State.feedTo]

@[simp] theorem State.setPhase_island (s : State) (h : Fin 4) (p : Phase) :
    (s.setPhase h p).island = s.island := by simp [State.setPhase]

@[simp] theorem State.continueTof_island (s : State) (h : Fin 4) : (s.continueTof h).island = s.island := by
  simp only [State.continueTof]
  (repeat' split) <;> simp

@[simp] theorem State.beginTof_island (s : State) (h : Fin 4) :
    (s.beginTof h).island = s.island := by simp [State.beginTof]

@[simp] theorem State.doneRun_island (s : State) (h : Fin 4) : (s.doneRun h).island = s.island := by
  unfold State.doneRun
  split <;> simp

@[simp] theorem State.requestOn_island (s : State) (c : Fin 8) (duty : Nat) :
    (s.requestOn c duty).island = s.island := by rw [s.requestOn_alone c duty]

@[simp] theorem State.beginPresent_island (s : State) (h : Fin 4) : (s.beginPresent h).island = s.island := by
  unfold State.beginPresent
  split <;> simp

@[simp] theorem State.afterCut_island (s : State) (h : Fin 4) : (s.afterCut h).island = s.island := by
  unfold State.afterCut
  split <;> simp

/-! ### Holds, faults and the pages of a path -/

@[simp] theorem State.raiseHold_island (s : State) (h : Fin 4) (r : Run) (c : HoldCause) :
    (s.raiseHold h r c).island = s.island := by simp [State.raiseHold]

@[simp] theorem State.startHold_island (s : State) (h : Fin 4) (r : Run) (c : HoldCause) (page line : Nat) :
    (s.startHold h r c page line).island = s.island := by
  unfold State.startHold
  split <;> simp

@[simp] theorem State.raiseResume_island (s : State) (h : Fin 4) (r : Run) (since : Nat) :
    (s.raiseResume h r since).island = s.island := by simp [State.raiseResume]

@[simp] theorem State.endHold_island (s : State) (h : Fin 4) (r : Run) (x : Hold) :
    (s.endHold h r x).island = s.island := by simp [State.endHold]

@[simp] theorem State.settleHold_island (s : State) (h : Fin 4) : (s.settleHold h).island = s.island := by
  unfold State.settleHold
  (repeat' split) <;> simp

@[simp] theorem State.raiseFault_island (s : State) (v : Fin 8) (p : Nat) (cls : FaultClass) :
    (s.raiseFault v p cls).island = s.island := by simp [State.raiseFault]

@[simp] theorem State.prefetch_island (s : State) (h : Fin 4) (r : Run) : (s.prefetch h r).island = s.island := by
  unfold State.prefetch
  dsimp only
  split
  · refine foldl_keeps State.island (fun u k => ?_) _ _
    split
    · rfl
    · split <;> simp
  · rfl

@[simp] theorem State.pinWindow_island (s : State) (h : Fin 4) (r : Run) :
    (s.pinWindow h r).island = s.island := by
  refine (foldl_keeps State.island (fun u p => ?_) _ _).trans (by simp)
  (repeat' split) <;> simp

@[simp] theorem State.refreshHead_island (s : State) (h : Fin 4) : (s.refreshHead h).island = s.island := by
  unfold State.refreshHead
  split <;> simp

/-! ### The start of a job, and what an answer of the island does -/

@[simp] theorem State.startJob_island (s : State) (j : JobRef) (surplus : Bool) (record : Option (BitVec 32)) :
    (s.startJob j surplus record).island = s.island := by simp [State.startJob]

@[simp] theorem State.issueAnswer_island (s : State) (j : JobRef) (rsp : Byte) (surplus : Bool) :
    (s.issueAnswer j rsp surplus).island = s.island := by simp [State.issueAnswer]

@[simp] theorem State.issueDone_island (s : State) (c : LegCommand) (h : Fin 4) (rsp : Byte) (rec : Option Record) :
    (s.issueDone c h rsp rec).island = s.island := by
  unfold State.issueDone
  (repeat' split) <;> simp

@[simp] theorem State.printedDone_island (s : State) (c : LegCommand) (h : Fin 4) (rsp : Byte) :
    (s.printedDone c h rsp).island = s.island := by
  unfold State.printedDone
  split <;> simp

end Machine
end Sys2Proof
end

section
/-! PROOFS. The protective interface of the island: commands taken and answered, and records (13_kaolin_island R758 to
R770; 14_weighing R824 to R833): statements O42 and O43. -/

namespace Sys2Proof

open Machine

namespace Machine

/-! ### A command is taken (R758) -/

/-- The island is out of its self-test and decides nothing: `c` is the oldest command of its mailbox, `m` the rest. -/
structure State.MayTake (s : State) (c : LegCommand) (m : List LegCommand) : Prop where
  front : s.island.mailbox = c :: m
  weighs : s.island.state = .operational ∨ s.island.state = .inhibited
  deciding : s.island.deciding = none
  issuing : s.island.issuing = none
  printing : s.island.printing = none

/-- The state with the command taken out of the mailbox. -/
def State.taken (s : State) (m : List LegCommand) : State := s.onIsland fun i => { i with mailbox := m }

/-- What a refusal of a tenant's command leaves (R760, R764). -/
theorem refuseLegal_tenant {s : State} {c : LegCommand} (m : List LegCommand) {v : Fin 8}
    (hsource : c.source = .tenant v) (horphan : c.orphan = false) (rsp : Byte) {t : State}
    (ht : t = refuseLegal rsp c (s.taken m)) :
    (t.island.response.map fun r => (r.cmd, r.rsp)) = some (c, rsp) ∧ t.island.refused = s.island.refused + 1
      ∧ t = { s with fresh := t.fresh, island := { s.island with
          mailbox := m, refused := t.island.refused, response := t.island.response } } := by
  have hnoData : t = let u := (s.taken m).onIsland fun i => { i with refused := i.refused + 1 }
      u.noData.2.onIsland fun i => { i with response := some { cmd := c, rsp := rsp, d := u.noData.1 } } := by
    rw [ht]
    unfold refuseLegal State.answerLegal
    rw [if_neg (by rw [horphan]; exact Bool.false_ne_true), hsource]
  rw [hnoData]
  exact ⟨rfl, rfl, rfl⟩

/-- An answer with data is on its way to the tenant (R764). -/
theorem State.answerLegal_tenant {s : State} {c : LegCommand} {v : Fin 8} (hsource : c.source = .tenant v)
    (horphan : c.orphan = false) (rsp : Byte) (d : Vector Word 4) (rec : Option Record) :
    s.answerLegal c rsp (some d) rec
      = s.onIsland fun i => { i with response := some { cmd := c, rsp := rsp, d := d } } := by
  unfold State.answerLegal
  rw [if_neg (by rw [horphan]; exact Bool.false_ne_true), hsource]

/-- An answer that reaches Loam or the cut path leaves the island as it is. -/
theorem State.answerLegal_device {s : State} {c : LegCommand} (hdevice : c.source.device = true) (rsp : Byte)
    (data : Option (Vector Word 4)) (rec : Option Record) : (s.answerLegal c rsp data rec).island = s.island := by
  unfold State.answerLegal
  split
  · rfl
  · cases hsource : c.source with
    | tenant v =>
      rw [hsource] at hdevice
      cases hdevice
    | loam h => exact s.issueDone_island _ _ _ _
    | cut h => exact s.printedDone_island _ _ _

/-- What STATUS answers (R759, R776). -/
def Island.statusData (i : Island) : Vector Word 4 := dataWords
  [(i.word false).toNat % 65536, i.audit.toNat % 65536, (i.running.map fun x => x.epoch.toNat).getD 0,
   (i.running.map fun x => x.version.toNat % 65536).getD 0]

section
variable {s : State} {c : LegCommand} {m : List LegCommand} (h : s.MayTake c m)
include h

theorem State.takeLegal_front {t : LegCommand → Bool} {f : LegCommand → State → State} (ht : t c = true) :
    s.takeLegal t f = f c (s.taken m) := by
  unfold State.takeLegal
  dsimp only
  rw [h.front]
  exact if_pos ⟨ht, h.weighs, h.deciding, h.issuing, h.printing⟩

theorem readWeightIssue_device (hcode : c.code = 4) (hissue : bit c.arg 0 = true) (hdup : bit c.arg 1 = false)
    (hdevice : c.source.device = true) :
    exec .readWeightIssue s = .next (s.onIsland fun i => { i with mailbox := m, deciding := some c }) :=
  congrArg Host.Outcome.next ((State.takeLegal_front h (by simp [hcode, hissue, hdup])).trans (if_pos hdevice))

theorem status_tenant {v : Fin 8} (hcode : c.code = 6) (hsource : c.source = .tenant v) (horphan : c.orphan = false) :
    Answers .status s fun t => (t.island.response.map fun r => (r.cmd, r.rsp, r.d[(1 : Fin 4)].toNat))
        = some (c, rspOk, s.island.audit.toNat % 65536)
      ∧ t = s.onIsland fun i => { i with
          mailbox := m, showId := i.showId || bit c.arg 0, response := t.island.response } := by
  have hshown : (if bit c.arg 0 then (s.taken m).onIsland fun i => { i with showId := true } else s.taken m)
      = s.onIsland fun i => { i with mailbox := m, showId := i.showId || bit c.arg 0 } := by
    cases bit c.arg 0
    · rw [if_neg Bool.false_ne_true]
      simp only [Bool.or_false]
      rfl
    · rw [if_pos rfl]
      simp only [Bool.or_true]
      rfl
  have hexec : exec .status s = .next ((if bit c.arg 0 then (s.taken m).onIsland fun i => { i with showId := true }
      else s.taken m).answerLegal c rspOk (some s.island.statusData)) :=
    congrArg Host.Outcome.next (State.takeLegal_front h (decide_eq_true hcode))
  rw [hshown, State.answerLegal_tenant hsource horphan] at hexec
  refine ⟨_, hexec, ?_, rfl⟩
  have haudit : s.island.statusData[(1 : Fin 4)].toNat = s.island.audit.toNat % 65536 := by
    simp [Island.statusData, dataWords]
  rw [← haudit]
  rfl

end

end Machine

/-- Settles O42: a command is decided by its code alone, and its answer is counted. -/
theorem legalCommandsAreAnswered : Obligations.LegalCommandsAreAnswered := by
  refine ⟨?_, ?_⟩
  · intro s c m hfront hweighs hdeciding hissuing hprinting awaited
    have h : s.MayTake c m := ⟨hfront, hweighs, hdeciding, hissuing, hprinting⟩
    refine ⟨fun hcode => congrArg Host.Outcome.next (State.takeLegal_front h (decide_eq_true hcode)),
      fun hcode => congrArg Host.Outcome.next (State.takeLegal_front h (decide_eq_true hcode)),
      fun hcode => congrArg Host.Outcome.next (State.takeLegal_front h (decide_eq_true hcode)),
      fun hcode hissue hdup => congrArg Host.Outcome.next (State.takeLegal_front h (by simp [hcode, hissue, hdup])),
      readWeightIssue_device h, fun v => status_tenant h⟩
  · intro s c m v hfront hweighs hdeciding hissuing hprinting hsource horphan refuses
    have h : s.MayTake c m := ⟨hfront, hweighs, hdeciding, hissuing, hprinting⟩
    have htenant : ¬ c.source.device = true := by
      rw [hsource]
      exact Bool.false_ne_true
    have hrefuses : ∀ rsp, refuses rsp (refuseLegal rsp c (s.taken m)) := fun rsp =>
      refuseLegal_tenant m hsource horphan rsp rfl
    refine ⟨fun hcode => ⟨_, congrArg Host.Outcome.next (State.takeLegal_front h (by simpa using hcode)), hrefuses _⟩,
      fun hcode hissue hdup => ⟨_, congrArg Host.Outcome.next ((State.takeLegal_front h
        (by simp [hcode, hissue, hdup])).trans (if_neg htenant)), hrefuses _⟩,
      fun hcode hdup => ⟨_, congrArg Host.Outcome.next ((State.takeLegal_front h (by simp [hcode, hdup])).trans
        (if_pos (by simpa using htenant))), hrefuses _⟩,
      fun hcode => ⟨_, congrArg Host.Outcome.next ((State.takeLegal_front h (decide_eq_true hcode)).trans
        (if_pos (by simpa using htenant))), hrefuses _⟩⟩

namespace Machine

/-! ### Records (14_weighing R824 to R833) -/

/-- Whoever is answered, of the island only the answer on its way to the tenant changes. -/
theorem State.answerLegal_keeps (s : State) (c : LegCommand) (rsp : Byte) (data : Option (Vector Word 4))
    (rec : Option Record) : (s.answerLegal c rsp data rec).island
      = { s.island with response := (s.answerLegal c rsp data rec).island.response } := by
  cases hsource : c.source with
  | tenant v =>
    unfold State.answerLegal
    rw [hsource]
    dsimp only
    split
    · rfl
    · cases data <;> rfl
  | loam h => rw [State.answerLegal_device (by rw [hsource]; rfl)]
  | cut h => rw [State.answerLegal_device (by rw [hsource]; rfl)]

section
variable {s : State} {c : LegCommand} {m : List LegCommand} (h : s.MayTake c m) (hdevice : c.source.device = true)
include h hdevice

/-- An open record is rendered again (R832, R833). -/
theorem readWeightDup_open {k : Nat} {r : Record} (hcode : c.code = 4) (hdup : bit c.arg 1 = true)
    (hgate : (s.taken m).issueGate = none) (hfind : ((s.taken m).island.newestFirst.find? fun e =>
      e.2.isOpen && e.2.seq.toNat % 2 ^ 24 = bits c.arg 8 24) = some (k, r)) :
    exec .readWeightDup s = .next (((s.taken m).onIsland fun i => { i with
      records := sparsePut k { r with dups := satInc r.dups } i.records }).answerLegal c rspOk (some (seqData r.seq))
        (some { r with dups := satInc r.dups })) := by
  refine congrArg Host.Outcome.next ((State.takeLegal_front h (by simp [hcode, hdup])).trans ?_)
  rw [if_neg (by simp [hdevice]), hgate]
  dsimp only
  rw [hfind]

variable {k : Nat} {r : Record} (hcode : c.code = 5) (hpower : s.islandPowerFail = false)
  (hfind : (s.island.newestFirst.find? fun e => e.2.seq = c.arg) = some (k, r)) (hissued : r.printed = false)
include hcode hpower hfind hissued

/-- PRINTED of an ISSUED record (R830). -/
theorem printed_issued : exec .printed s = .next (
    if !s.islandFlashOk then ((s.taken m).onIsland fun i => { i with
      heldPrinted := if i.heldPrinted.contains c.arg then i.heldPrinted else i.heldPrinted ++ [c.arg] }).answerLegal
        c rspOk none
    else (s.taken m).onIsland fun i => { i with printing := some (c, c.arg) }) := by
  refine congrArg Host.Outcome.next ((State.takeLegal_front h (decide_eq_true hcode)).trans ?_)
  have hfound : ((s.taken m).island.newestFirst.find? fun e => e.2.seq = c.arg) = some (k, r) := hfind
  rw [if_neg (by simp [hdevice]), if_neg (show ¬ (s.taken m).islandPowerFail = true from
    fun hp => Bool.false_ne_true (hpower.symm.trans hp)), hfound]
  exact if_neg (by rw [hissued]; exact Bool.false_ne_true)

end

theorem State.islandEvent_reports (s : State) (holder : Bool) (code aux : Byte) (payload : Word) :
    Reports s (s.islandEvent holder code aux payload) := by
  unfold State.islandEvent
  split
  · split
    · exact State.raiseBoth_reports _ _ _ _ _
    · exact State.raise0_reports _ _ _ _
  · exact Reports.refl s

/-- The number of open records that have lapsed, once the slot after the newest is taken (R827). -/
def Island.lapsedNext (i : Island) : BitVec 32 :=
  match sparseFind (i.newest + 1).val i.records with
  | some o => if o.isOpen then satInc i.lapsed else i.lapsed
  | none => i.lapsed

/-- The open record in the slot after the newest lapses. -/
def State.lapseNext (s : State) : State :=
  match sparseFind (s.island.newest + 1).val s.island.records with
  | some o =>
    if o.isOpen then
      (s.onIsland fun i => { i with lapsed := satInc i.lapsed }).islandEvent true 0x8A 0 (BitVec.setWidth 16 o.seq)
    else s
  | none => s

theorem State.lapseNext_island (s : State) : s.lapseNext.island = { s.island with lapsed := s.island.lapsedNext } := by
  unfold State.lapseNext Island.lapsedNext
  cases sparseFind (s.island.newest + 1).val s.island.records with
  | none => rfl
  | some o =>
    dsimp only
    split
    · exact (State.islandEvent_reports _ _ _ _ _).island
    · rfl

/-- An issue is committed (R826, R827). -/
theorem issuedCommit_of_issuing {s : State} {c : LegCommand} {r : Record} (h : s.island.issuing = some (c, r)) :
    exec .issuedCommit s = .next ((s.lapseNext.onIsland fun i => { i with
      issuing := none, records := sparsePut (s.island.newest + 1).val r i.records, newest := s.island.newest + 1
      heldPrinted := i.heldPrinted.filter fun q =>
        (sparseFind (s.island.newest + 1).val i.records).all fun o => o.seq ≠ q }).answerLegal
          c rspOk (some (seqData r.seq)) (some r)) := by
  refine congrArg Host.Outcome.next ?_
  rw [h] <;> rfl

/-- PRINTED is committed (R830). -/
theorem printedCommit_of_printing {s : State} {c : LegCommand} {q : BitVec 32} (h : s.island.printing = some (c, q)) :
    exec .printedCommit s = .next ((s.onIsland fun i => { i.markPrinted q with printing := none }).answerLegal
      c rspOk none) := by
  refine congrArg Host.Outcome.next ?_
  rw [h]

end Machine

/-- Settles O43: a commit changes the records of the island alone, since what the paper paths do keeps it. -/
theorem recordsAreKept : Obligations.RecordsAreKept := by
  refine ⟨?_, ?_, ?_⟩
  · intro s c m hfront hstate hdeciding hissuing hprinting hdevice u
    have h : s.MayTake c m := ⟨hfront, .inl hstate, hdeciding, hissuing, hprinting⟩
    refine ⟨fun k r hcode hdup hgate hfind => ?_, fun k r hcode hpower hfind hissued => ⟨fun hflash => ?_,
      fun hflash horphan hheld => ?_⟩⟩
    · refine ⟨_, readWeightDup_open h hdevice hcode hdup hgate hfind, ?_⟩
      dsimp only
      rw [State.answerLegal_device hdevice]
      exact ⟨sparseFind_put_self _ _ _, rfl, rfl, rfl⟩
    · exact (printed_issued h hdevice hcode hpower hfind hissued).trans
        (congrArg Host.Outcome.next (if_neg (by rw [hflash]; decide)))
    · refine (printed_issued h hdevice hcode hpower hfind hissued).trans
        (congrArg Host.Outcome.next ((if_pos (by rw [hflash]; rfl)).trans ?_))
      unfold State.answerLegal
      rw [if_pos horphan]
      exact congrArg (fun l => s.onIsland fun i => { i with mailbox := m, heldPrinted := l })
        (if_neg fun k => Bool.false_ne_true (hheld.symm.trans k))
  · intro s c r hissuing
    refine ⟨_, issuedCommit_of_issuing hissuing, ?_⟩
    dsimp only
    rw [State.answerLegal_keeps]
    have haudit : s.lapseNext.island.audit = s.island.audit := by rw [State.lapseNext_island]
    have htare : s.lapseNext.island.tare = s.island.tare := by rw [State.lapseNext_island]
    have hlapsed : s.lapseNext.island.lapsed = s.island.lapsedNext := by rw [State.lapseNext_island]
    exact ⟨rfl, sparseFind_put_self _ _ _, rfl, haudit, htare, hlapsed⟩
  · intro s c q hprinting
    refine ⟨_, printedCommit_of_printing hprinting, ?_⟩
    dsimp only
    rw [State.answerLegal_keeps]
    exact ⟨rfl, rfl, rfl, rfl⟩

end Sys2Proof
end

section
/-! PROOFS. The weighing chain: results, slices and temperature (14_weighing R801 to R823): statement O47. -/

namespace Sys2Proof

open Machine

namespace Machine

/-! ### What the evaluation of a result keeps (R816 to R821) -/

/-- The ratios, the gross weight as it splits and what is recorded stay. -/
structure Island.SameScale (i j : Island) : Prop where
  ratios : j.r = i.r
  params : j.live = i.live
  sum : j.g64 + j.z64 = i.g64 + i.z64
  results : j.results = i.results
  records : j.records = i.records
  audit : j.audit = i.audit
  deciding : j.deciding = i.deciding
  state : j.state = i.state

theorem Island.SameScale.refl (i : Island) : i.SameScale i := ⟨rfl, rfl, rfl, rfl, rfl, rfl, rfl, rfl⟩

theorem Island.SameScale.trans {i j k : Island} (h : i.SameScale j) (g : j.SameScale k) : i.SameScale k where
  ratios := g.ratios.trans h.ratios
  params := g.params.trans h.params
  sum := g.sum.trans h.sum
  results := g.results.trans h.results
  records := g.records.trans h.records
  audit := g.audit.trans h.audit
  deciding := g.deciding.trans h.deciding
  state := g.state.trans h.state

theorem Island.SameScale.ite {i j k : Island} {c : Prop} [Decidable c] (h : i.SameScale j) (g : i.SameScale k) :
    i.SameScale (if c then j else k) := by
  split
  · exact h
  · exact g

theorem Island.SameScale.gross {i j : Island} (h : i.SameScale j) : j.gross = i.gross := by
  unfold Island.gross Island.rz Island.terms Island.term Island.cell Island.lp
  rw [h.ratios, h.params]

theorem Island.countRuns_same (i : Island) (sns drv : BitVec 24) : i.SameScale (i.countRuns sns drv) :=
  ⟨rfl, rfl, rfl, rfl, rfl, rfl, rfl, rfl⟩

theorem Island.cellTests_same (i : Island) (w : Word) : i.SameScale (i.cellTests w) := by
  have hdg : i.SameScale (if i.cornerTest.isSome then { i with dg := i.cornerDg.natAbs } else i) := by
    split
    · exact ⟨rfl, rfl, rfl, rfl, rfl, rfl, rfl, rfl⟩
    · exact .refl i
  unfold Island.cellTests
  dsimp only
  generalize (if i.cornerTest.isSome then { i with dg := i.cornerDg.natAbs } else i) = i1 at hdg ⊢
  split
  · exact .refl i
  · split
    · exact .refl i
    · split
      · exact hdg.trans ⟨rfl, rfl, rfl, rfl, rfl, rfl, rfl, rfl⟩
      · exact hdg.trans ⟨rfl, rfl, rfl, rfl, rfl, rfl, rfl, rfl⟩

theorem Island.loseZero_same (i : Island) : i.SameScale i.loseZero :=
  ⟨rfl, rfl, Int.add_zero _, rfl, rfl, rfl, rfl, rfl⟩

theorem Island.setZero_same (i : Island) (z : Int) : i.SameScale (i.setZero z) :=
  ⟨rfl, rfl, Int.sub_add_cancel _ _, rfl, rfl, rfl, rfl, rfl⟩

theorem Island.initialZero_same (i : Island) : i.SameScale i.initialZero := by
  unfold Island.initialZero
  dsimp only
  split
  · exact (i.setZero_same _).trans ⟨rfl, rfl, rfl, rfl, rfl, rfl, rfl, rfl⟩
  · exact .refl i

theorem Island.track_same (i : Island) (now : Nat) : i.SameScale (i.track now) := by
  have hmoves : ∀ m, i.SameScale { i with moves := m } := fun m => ⟨rfl, rfl, rfl, rfl, rfl, rfl, rfl, rfl⟩
  unfold Island.track
  dsimp only
  split
  · split
    · exact hmoves _
    · exact (i.setZero_same _).trans ⟨rfl, rfl, rfl, rfl, rfl, rfl, rfl, rfl⟩
  · exact hmoves _

/-- New causes, and the loss of the zero that a new one brings (R817). -/
theorem Island.caused_same (i : Island) (ended lost : Prop) [Decidable ended] [Decidable lost] (w : Word) :
    i.SameScale (if lost
      then ({ (if ended then { i with suspect := none } else i) with causes := w } : Island).loseZero
      else { (if ended then { i with suspect := none } else i) with causes := w }) := by
  have hcaused : i.SameScale { (if ended then { i with suspect := none } else i) with causes := w } := by
    split
    · exact ⟨rfl, rfl, rfl, rfl, rfl, rfl, rfl, rfl⟩
    · exact ⟨rfl, rfl, rfl, rfl, rfl, rfl, rfl, rfl⟩
  split
  · exact hcaused.trans (Island.loseZero_same _)
  · exact hcaused

theorem Island.evaluate_same (i : Island) (sns drv : BitVec 24) (vdda : Int) (zero ref : List (Fin 5 × Rat))
    (now : Nat) : i.SameScale (i.evaluate sns drv vdda zero ref now) := by
  have htested := (i.countRuns_same sns drv).trans
    ((i.countRuns sns drv).cellTests_same ((i.countRuns sns drv).wireCauses drv vdda zero ref))
  unfold Island.evaluate
  dsimp only
  exact htested.trans (.ite ((Island.caused_same _ _ _ _).trans (Island.initialZero_same _))
    ((Island.caused_same _ _ _ _).trans (Island.track_same _ _)))

/-! ### A result (R807, R812) -/

/-- A result gives each ratio, and the gross weight splits into what is shown and the zero. -/
theorem Island.takeResult_says (i : Island) (sig : Vector (BitVec 24) 4) (sns drv : BitVec 24) :
    (i.takeResult sig sns drv).r = (Vector.ofFn fun n => ratioR sig[n].toInt sns.toInt)
      ∧ (i.takeResult sig sns drv).g64 + (i.takeResult sig sns drv).z64 = (i.takeResult sig sns drv).gross
      ∧ (i.takeResult sig sns drv).results = i.results + 1 ∧ (i.takeResult sig sns drv).records = i.records
      ∧ (i.takeResult sig sns drv).audit = i.audit ∧ (i.takeResult sig sns drv).deciding = i.deciding :=
  ⟨rfl, Int.sub_add_cancel _ _, rfl, rfl, rfl, rfl⟩


/-- The island and what the main side keeps of it change, and events are told. -/
def IslandWork (s t : State) : Prop := Reports { s with island := t.island, legal := t.legal } t

theorem IslandWork.of_reports {s t : State} (h : Reports s t) : IslandWork s t := by
  unfold IslandWork
  rw [h.island, h.legal]
  exact h

theorem IslandWork.of_onIsland (s : State) (f : Island → Island) : IslandWork s (s.onIsland f) := Reports.refl _

theorem IslandWork.of_onLegal (s : State) (f : Legal → Legal) : IslandWork s (s.onLegal f) := Reports.refl _

theorem IslandWork.trans {s t u : State} (h : IslandWork s t) (k : IslandWork t u) : IslandWork s u := by
  unfold IslandWork Reports at *
  rw [h] at k
  exact k

theorem State.inhibitEvent_reports (s : State) (before : Word) : Reports s (s.inhibitEvent before) := by
  unfold State.inhibitEvent
  dsimp only
  split
  · exact Reports.refl s
  · exact s.islandEvent_reports _ _ _ _

theorem State.setIsland_work (s : State) (st : IslandState) : IslandWork s (s.setIsland st)
    ∧ (s.setIsland st).island = { s.island with state := st } := by
  unfold State.setIsland
  split
  next h =>
    subst h
    exact ⟨.of_reports (Reports.refl s), rfl⟩
  next h =>
    dsimp only
    have hto : IslandWork s (if st = .operational then (s.onIsland fun i => { i with state := st }).onLegal fun l =>
          { l with epochOwed := true, epochStat := 0 } else s.onIsland fun i => { i with state := st })
        ∧ (if st = .operational then (s.onIsland fun i => { i with state := st }).onLegal fun l =>
          { l with epochOwed := true, epochStat := 0 } else s.onIsland fun i => { i with state := st }).island
            = { s.island with state := st } := by
      split
      · exact ⟨(IslandWork.of_onIsland s _).trans (.of_onLegal _ _), rfl⟩
      · exact ⟨.of_onIsland s _, rfl⟩
    obtain ⟨hwork, hisland⟩ := hto
    exact ⟨hwork.trans (.of_reports (State.islandEvent_reports _ _ _ _ _)),
      (State.islandEvent_reports _ _ _ _ _).island.trans hisland⟩

theorem State.settleIsland_work (s : State) : IslandWork s s.settleIsland
    ∧ ∃ st, s.settleIsland.island = { s.island with state := st } := by
  unfold State.settleIsland
  dsimp only
  split
  · exact ⟨(s.setIsland_work _).1, _, (s.setIsland_work _).2⟩
  · exact ⟨(s.setIsland_work _).1, _, (s.setIsland_work _).2⟩
  · exact ⟨.of_reports (Reports.refl s), _, rfl⟩

theorem State.showFrame_work (s : State) : IslandWork s s.showFrame := .of_onIsland s _

/-- The steps of a weighing result: measure and judge, tell, settle the state, decide, and show if it is time. -/
theorem execWeighingResult_of_weighing {s : State} (hst : s.island.state = .operational ∨ s.island.state = .inhibited)
    (sig : Vector (BitVec 24) 4) (sns drv : BitVec 24) (vdda : Int) (zero ref : List (Fin 5 × Rat)) :
    ∃ due : Bool, exec (.weighingResult sig sns drv vdda zero ref) s = .next (
      let s2 := (((s.onIsland fun i => (i.takeResult sig sns drv).evaluate sns drv vdda zero ref s.now).inhibitEvent
        s.island.causes).settleIsland).decideLegal
      if due then s2.showFrame else s2) := by
  have hexec : exec (.weighingResult sig sns drv vdda zero ref) s = .next (
      let s2 := (((s.onIsland fun i => (i.takeResult sig sns drv).evaluate sns drv vdda zero ref s.now).inhibitEvent
        s.island.causes).settleIsland).decideLegal
      let due : Bool := match s2.island.shownAt with
        | some t => t + 100000 ≤ s2.now
        | none => true
      if s2.island.state = .operational ∧ due then s2.showFrame else s2) := by
    refine congrArg Host.Outcome.next ?_
    obtain hst | hst := hst
    · rw [hst] <;> rfl
    · rw [hst] <;> rfl
  dsimp only at hexec ⊢
  generalize (((s.onIsland fun i => (i.takeResult sig sns drv).evaluate sns drv vdda zero ref s.now).inhibitEvent
    s.island.causes).settleIsland).decideLegal = s2 at hexec ⊢
  exact ⟨@decide _ _, hexec.trans (congrArg Host.Outcome.next (if_congr decide_eq_true_iff.symm rfl rfl))⟩

/-- What a weighing result makes of an island that decides nothing (R807, R812, R817 to R822). -/
theorem weighingResult_of_weighing {s : State} (hst : s.island.state = .operational ∨ s.island.state = .inhibited)
    (hdeciding : s.island.deciding = none) (sig : Vector (BitVec 24) 4) (sns drv : BitVec 24) (vdda : Int)
    (zero ref : List (Fin 5 × Rat)) : ∃ (t : State) (st : IslandState) (tx : String)
    (shown : Option Nat),
    exec (.weighingResult sig sns drv vdda zero ref) s = .next t ∧ IslandWork s t
      ∧ t.island = { (s.island.takeResult sig sns drv).evaluate sns drv vdda zero ref s.now with
          state := st, ukTx := tx, shownAt := shown } := by
  have hkept : ((s.island.takeResult sig sns drv).evaluate sns drv vdda zero ref s.now).deciding = none :=
    (Island.evaluate_same _ _ _ _ _ _ _).deciding.trans hdeciding
  have hmeasured := IslandWork.of_onIsland s fun i => (i.takeResult sig sns drv).evaluate sns drv vdda zero ref s.now
  have hjudged : (s.onIsland fun i => (i.takeResult sig sns drv).evaluate sns drv vdda zero ref s.now).island
      = (s.island.takeResult sig sns drv).evaluate sns drv vdda zero ref s.now := rfl
  have hexec := execWeighingResult_of_weighing hst sig sns drv vdda zero ref
  generalize (s.island.takeResult sig sns drv).evaluate sns drv vdda zero ref s.now = j at hkept hjudged ⊢
  generalize (s.onIsland fun i => (i.takeResult sig sns drv).evaluate sns drv vdda zero ref s.now) = s1
    at hexec hmeasured hjudged
  have htold := s1.inhibitEvent_reports s.island.causes
  obtain ⟨hsettled, st, hstate⟩ := (s1.inhibitEvent s.island.causes).settleIsland_work
  have hwork := (hmeasured.trans (.of_reports htold)).trans hsettled
  rw [htold.island, hjudged] at hstate
  have hidle : (s1.inhibitEvent s.island.causes).settleIsland.decideLegal
      = (s1.inhibitEvent s.island.causes).settleIsland := by
    unfold State.decideLegal
    rw [hstate, hkept]
  rw [hidle] at hexec
  generalize (s1.inhibitEvent s.island.causes).settleIsland = s2 at hexec hwork hstate
  obtain ⟨due, hexec⟩ := hexec
  cases due with
  | false => exact ⟨_, st, j.ukTx, j.shownAt, hexec, hwork, hstate⟩
  | true =>
    refine ⟨_, st, s2.island.frame, some s2.now, hexec, hwork.trans s2.showFrame_work, ?_⟩
    exact congrArg (fun i : Island => { i with ukTx := s2.island.frame, shownAt := some s2.now }) hstate

/-! ### Slices (R801 to R805) -/

theorem Island.rotate_same (i : Island) : i.rotate.corr = i.corr ∧ i.rotate.marked = i.marked
    ∧ i.rotate.records = i.records := by
  unfold Island.rotate
  split
  · exact ⟨rfl, rfl, rfl⟩
  · split
    · exact ⟨rfl, rfl, rfl⟩
    · split
      · exact ⟨rfl, rfl, rfl⟩
      · exact ⟨rfl, rfl, rfl⟩

/-- The correction of a slice is put in force and the spare takes over a role (R802 to R805). -/
theorem sliceRotation_of_weighing {s : State} (hst : s.island.state = .operational ∨ s.island.state = .inhibited)
    (n : Fin 5) (o g x : Int) : ∃ t, exec (.sliceRotation n o g x) s = .next t
      ∧ Reports { s with island := t.island } t ∧ t.island = (s.island.correct n o g x).rotate := by
  have hexec : exec (.sliceRotation n o g x) s = .next ((
      let s1 := s.onIsland fun i => i.correct n o g x
      if s1.island.marked = s.island.marked then s1
      else s1.islandEvent false 0x8B (byteOf n.val) (BitVec.setWidth 16 s1.island.slices)).onIsland Island.rotate) := by
    refine congrArg Host.Outcome.next ?_
    obtain hst | hst := hst
    · rw [hst]
    · rw [hst]
  dsimp only at hexec
  have htold : Reports (s.onIsland fun i => i.correct n o g x)
      (if (s.onIsland fun i => i.correct n o g x).island.marked = s.island.marked
        then s.onIsland fun i => i.correct n o g x
      else (s.onIsland fun i => i.correct n o g x).islandEvent false 0x8B (byteOf n.val)
        (BitVec.setWidth 16 (s.onIsland fun i => i.correct n o g x).island.slices)) := by
    split
    · exact Reports.refl _
    · exact State.islandEvent_reports _ _ _ _ _
  generalize (if (s.onIsland fun i => i.correct n o g x).island.marked = s.island.marked
    then s.onIsland fun i => i.correct n o g x else _) = u at hexec htold
  refine ⟨_, hexec, ?_, ?_⟩
  · unfold Reports at htold ⊢
    rw [htold]
    rfl
  · have hisland : u.island = s.island.correct n o g x := htold.island
    exact congrArg Island.rotate hisland

end Machine

/-- Settles O47: the result is a change of the island's own fields, taken in its order. -/
theorem weighingResults : Obligations.WeighingResults := by
  intro s hst
  refine ⟨fun sig sns drv vdda z r hdeciding => ?_, fun n o g x => ?_, fun x => ?_⟩
  · obtain ⟨t, st, tx, shown, hexec, hwork, hisland⟩ := weighingResult_of_weighing hst hdeciding sig sns drv vdda z r
    have hsame := (s.island.takeResult sig sns drv).evaluate_same sns drv vdda z r s.now
    obtain ⟨hr, hsum, hresults, hrecords, haudit, -⟩ := s.island.takeResult_says sig sns drv
    refine ⟨t, hexec, fun n => ?_, ?_, ?_, ?_, ?_, hwork⟩
    · rw [hisland]
      dsimp only
      rw [hsame.ratios, hr]
      simp
    · rw [hisland]
      exact hsame.sum.trans (hsum.trans hsame.gross.symm)
    · rw [hisland]
      exact hsame.results.trans hresults
    · rw [hisland]
      exact hsame.records.trans hrecords
    · rw [hisland]
      exact hsame.audit.trans haudit
  · obtain ⟨t, hexec, hreports, hisland⟩ := sliceRotation_of_weighing hst n o g x
    obtain ⟨hcorr, hmarked, hrecords⟩ := (s.island.correct n o g x).rotate_same
    refine ⟨t, hexec, ?_, fun hout => ?_, fun hin => ?_, ?_, hreports⟩
    · rw [hisland, hcorr]
      exact Vector.getElem_set_self n.isLt
    · have hset : (s.island.correct n o g x).marked = s.island.marked ||| BitVec.ofNat 5 (2 ^ n.val) := if_neg hout
      rw [hisland, hmarked, hset, BitVec.getLsbD_or, BitVec.getLsbD_ofNat, Nat.testBit_two_pow_self,
        decide_eq_true n.isLt, Bool.and_true, Bool.or_true]
    · rw [hisland, hmarked]
      exact if_pos hin
    · rw [hisland, hrecords]
      rfl
  · refine congrArg Host.Outcome.next ?_
    obtain hst | hst := hst
    · rw [hst]
    · rw [hst]

end Sys2Proof
end

section
/-! PROOFS. Frames on the island's UK port (13_kaolin_island R782 to R793; 14_weighing R839 to R841): statement O46. -/

namespace Sys2Proof

open Machine

namespace Machine

/-- UK answers with a line and nothing else. -/
def State.ukLine (s : State) (x : String) : State := s.onIsland fun i => { i with ukTx := x }

section
variable {s : State} (h : s.ukServes = true)
include h

theorem ukI_of_running {m : LegalImage} (hm : s.island.running = some m) : exec .ukI s = .next (s.ukLine ("ID "
    ++ hexText 8 s.island.serial.toNat ++ " " ++ hexText 8 m.version.toNat ++ " " ++ hexText 8 m.ident.toNat ++ " "
    ++ hexText 4 m.epoch.toNat)) := by
  refine congrArg Host.Outcome.next ((if_pos h).trans ?_)
  rw [hm]
  rfl

/-- A read of an index of the island's own (R841). -/
theorem ukR_of_index {n : Word} (hn : n.toNat < 0x5000) : exec (.ukR n) s
    = .next (s.ukLine (match s.island.index false n.toNat with
      | some x => "= " ++ hexText 8 x.toNat
      | none => "! 02")) := by
  refine congrArg Host.Outcome.next ((if_pos h).trans ?_)
  rw [if_neg (by omega)] <;> rfl

/-- With the seal closed nothing is written (R783). -/
theorem ukW_sealed (hseal : s.island.sealOpen = false) (n : Word) (v : Par) :
    exec (.ukW n v) s = .next (s.ukLine "! 01") := by
  have hgate : s.ukGate = some "! 01" := if_pos (by rw [hseal]; rfl)
  refine congrArg Host.Outcome.next ((if_neg (by simp [h])).trans ?_)
  rw [hgate] <;> rfl

theorem ukU_sealed (hseal : s.island.sealOpen = false) (d : List Byte) :
    exec (.ukU d) s = .next (s.ukLine "! 01") := by
  have hgate : s.ukGate = some "! 01" := if_pos (by rw [hseal]; rfl)
  refine congrArg Host.Outcome.next ((if_neg (by simp [h])).trans ?_)
  rw [hgate] <;> rfl

end

/-! ### Writes with the seal open (R784, R788 to R790) -/

theorem State.ukGate_open {s : State} (hseal : s.island.sealOpen = true) (hflash : s.islandFlashOk = true)
    (hpower : s.islandPowerFail = false) : s.ukGate = none := by
  unfold State.ukGate
  rw [hseal, hflash, hpower]
  rfl

/-- A legal change is counted and told (R789). -/
theorem State.auditChange_says (s : State) (index : Word) (kind : Byte) (old new : Par) :
    Reports { s with island := (s.auditChange index kind old new).island } (s.auditChange index kind old new)
      ∧ (s.auditChange index kind old new).island = { s.island with
          audit := satInc s.island.audit
          changes := ({ counter := satInc s.island.audit, index := index, kind := kind, old := old, new := new
                        time := s.islandTime } :: s.island.changes).take 32 } := by
  have htold : Reports (s.onIsland fun i => { i with
      audit := satInc i.audit
      changes := ({ counter := satInc i.audit, index := index, kind := kind, old := old, new := new
                    time := s.islandTime } :: i.changes).take 32 }) (s.auditChange index kind old new) :=
    State.islandEvent_reports _ _ _ _ _
  refine ⟨?_, htold.island⟩
  rw [htold.island]
  exact htold

section
variable {s : State} (h : s.ukServes = true) (hgate : s.ukGate = none)
include h hgate

/-- A legal parameter is changed, and the change audited (R788, R789, R839). -/
theorem ukW_changed {k : Fin 32} {v : Par} {p : Vector Par 32} (hk : k.val < 28) (hp : s.island.params = some p)
    (hok : legalParamOk (fun n => if h : n < 32 then p[n] else 0) k.val v = true) (hnew : p[k] ≠ v)
    (haudit : s.island.audit ≠ BitVec.allOnes 32) : ∃ index,
    exec (.ukW (BitVec.ofNat 16 (0x4200 + k.val)) v) s = .next ((((s.onIsland fun i => { i with
      params := some (p.set k v) }).auditChange index 1 p[k] v)).ukLine ("= " ++ hexText 8 v.toNat)) := by
  have hindex : (BitVec.ofNat 16 (0x4200 + k.val)).toNat = 0x4200 + k.val := by
    rw [BitVec.toNat_ofNat]
    omega
  have hat : (BitVec.ofNat 16 (0x4200 + k.val)).toNat - 0x4200 = k.val := by rw [hindex]; omega
  refine ⟨BitVec.ofNat 16 (0x4200 + k.val), congrArg Host.Outcome.next ((if_neg (by simp [h])).trans ?_)⟩
  rw [hgate, hp]
  dsimp only [Option.getD_some]
  have hold : (if h : k.val < 32 then p[k.val] else 0) = p[k] := dif_pos k.isLt
  rw [if_neg (by omega), hat, if_neg fun hbad => Bool.false_ne_true ((congrArg not hok).symm.trans hbad),
    if_neg fun hfull => haudit hfull.2, if_neg fun hsame => hnew (hold.symm.trans hsame)]
  rw [hold]
  simp only [k.isLt, dif_pos]
  rfl

theorem ukU_open (d : List Byte) (haudit : s.island.audit ≠ BitVec.allOnes 32) : exec (.ukU d) s
    = .next (s.onIsland fun i => if kuwellLegalOk d = false then { i with ukTx := "! 05" }
      else if (kuwellLegal d).version.toNat < (s.island.running.map fun x => x.version.toNat).getD 0
      then { i with ukTx := "! 06" }
      else { i with
        image := i.image.set (otherArea i.active) (some (kuwellLegal d)), nextImage := some (otherArea i.active)
        ukTx := "= OK" }) := by
  refine congrArg Host.Outcome.next ((if_neg (by simp [h])).trans ?_)
  rw [hgate]
  dsimp only
  by_cases hfit : kuwellLegalOk d = false
  · simp only [hfit, Bool.not_false, if_true]
    rfl
  · by_cases holder : (kuwellLegal d).version.toNat < (s.island.running.map fun x => x.version.toNat).getD 0
    · rw [if_neg (by simpa using hfit), if_pos holder]
      simp only [hfit, holder, if_true]
      rfl
    · rw [if_neg (by simpa using hfit), if_neg holder, if_neg haudit]
      simp only [hfit, if_false, holder]
      rfl

end

end Machine

/-- Settles O46: each frame by the branch of the powered island; a changed parameter counts in the audit counter. -/
theorem ukCommands : Obligations.UkCommands := by
  refine ⟨fun s h => ?_, fun s hst => ?_, fun s => rfl⟩
  · intro sends
    refine ⟨⟨_, congrArg Host.Outcome.next (if_pos h), rfl⟩, fun m hm => ⟨_, ukI_of_running h hm, rfl⟩,
      fun n x hn hx => ?_, fun n hn hx => ?_, ⟨_, congrArg Host.Outcome.next (if_pos h), rfl⟩,
      fun hseal n v d => ⟨⟨_, ukW_sealed h hseal n v, rfl⟩, ⟨_, ukU_sealed h hseal d, rfl⟩⟩,
      fun hseal hflash hpower => ⟨?_, fun d haudit => ukU_open h (State.ukGate_open hseal hflash hpower) d haudit⟩⟩
    · have hexec := ukR_of_index h hn
      rw [hx] at hexec
      exact ⟨_, hexec, rfl⟩
    · have hexec := ukR_of_index h hn
      rw [hx] at hexec
      exact ⟨_, hexec, rfl⟩
    · intro k v p hk hp hok hnew haudit
      obtain ⟨index, hexec⟩ := ukW_changed h (State.ukGate_open hseal hflash hpower) hk hp hok hnew haudit
      obtain ⟨hreports, hisland⟩ := (s.onIsland fun i => { i with params := some (p.set k v) }).auditChange_says
        index 1 p[k] v
      generalize (s.onIsland fun i => { i with params := some (p.set k v) }).auditChange index 1 p[k] v = t
        at hexec hreports hisland
      have hparams : t.island.params = some (p.set k v) := by rw [hisland] <;> rfl
      have hcount : t.island.audit = s.island.audit + 1 := by
        rw [hisland]
        exact if_neg haudit
      have hlive : t.island.live = s.island.live := by rw [hisland] <;> rfl
      refine ⟨_, hexec, ?_, ?_, rfl, ?_, ?_⟩
      · exact hparams
      · exact hcount
      · exact hlive
      · exact congrArg (fun u : State => u.ukLine ("= " ++ hexText 8 v.toNat)) hreports
  · refine congrArg Host.Outcome.next ?_
    obtain hst | hst := hst
    · rw [hst] <;> rfl
    · rw [hst] <;> rfl

end Sys2Proof
end

section
/-! PROOFS. What the engine of the mailbox returns (18_management R992 to R996, R1010): statement O58. -/

namespace Sys2Proof

open Machine

namespace Machine

/-- A command that the engine takes is served (R994). -/
theorem mbServe_of_takes {s : State} {line : Option MLine} {q : MbCommand} (h : EngineTakes s line q)
    {t : Byte → Bool} (ht : t q.code = true) (f : MbCommand → State → State) : s.mbServe line t f = f q s := by
  obtain ⟨hrun, hfree, hwaits, hbrought⟩ := h
  cases line with
  | none => simp [State.mbServe, hrun, hwaits rfl, hfree, ht]
  | some l =>
    obtain ⟨hnone, rfl⟩ := hbrought l rfl
    simp [State.mbServe, hrun, Mgmt.engaged, hnone, hfree, ht]

/-- From stage 1 of a power-down a command is answered NOT_NOW (R996). -/
theorem mbOpen_of_begun {s : State} (h : s.pwr.stageBegun = true) (f : MbCommand → State → State) (q : MbCommand) :
    State.mbOpen f q s = s.mbRefuse q mbNotNow := if_pos h

theorem mbOpen_of_open {s : State} (h : s.pwr.stageBegun = false) (f : MbCommand → State → State) (q : MbCommand) :
    State.mbOpen f q s = f q s := if_neg (by simp [h])

theorem mbAnswer_answered (s : State) (q : MbCommand) (r : Byte) (data : List Nat) :
    Answered q r (s.mbAnswer q r data) := rfl

theorem mbRefuse_only (s : State) (q : MbCommand) (r : Byte) : OnlyAnswered q r s (s.mbRefuse q r) := ⟨rfl, rfl⟩

/-- Words laid out take four bytes each. -/
theorem length_flatMap_bytesBE (l : List Par) : (l.flatMap fun w => bytesBE w.toNat 4).length = 4 * l.length := by
  have hfour (w : Par) : (bytesBE w.toNat 4).length = 4 := rfl
  simp only [List.length_flatMap, hfour, List.map_const', List.sum_replicate, smul_eq_mul, mul_comm]

/-- The buffer of a source holds the words laid out in it (R993). -/
theorem mbFill_read (s : State) (src : MbSource) (l : List Par) :
    memReadN ((s.mbFill src l).mbBuffer src) 0 (4 * l.length) = l.flatMap fun w => bytesBE w.toNat 4 := by
  rw [← length_flatMap_bytesBE]
  cases src <;> exact memReadN_writeN_self _ _ _

theorem mbFill_mgmt (s : State) (src : MbSource) (l : List Par) :
    s.mbFill src l = { s with mgmt := { s.mgmt with
      buf := (s.mbFill src l).mgmt.buf, u0Buf := (s.mbFill src l).mgmt.u0Buf } } := by
  cases src <;> rfl

/-- What INFO and LOG_READ do: the buffer of the source is filled and the command answered OK, with no more. -/
structure BufferFilled (s : State) (q : MbCommand) (l : List Par) (t : State) : Prop where
  answered : Answered q mbOk t
  read : memReadN (t.mbBuffer q.source) 0 (4 * l.length) = l.flatMap fun w => bytesBE w.toNat 4
  rest : t = { s with
    mgmt := { s.mgmt with answer := t.mgmt.answer, buf := t.mgmt.buf, u0Buf := t.mgmt.u0Buf }, fresh := t.fresh }

theorem mbFill_answered (s : State) (q : MbCommand) (l : List Par) (data : List Nat) (k : Nat) :
    BufferFilled s q l (({ s.mbFill q.source l with fresh := k }).mbAnswer q mbOk data) := by
  refine ⟨rfl, ?_, ?_⟩
  · refine Eq.trans ?_ (mbFill_read s q.source l)
    cases q.source <;> rfl
  · rw [mbFill_mgmt s q.source l]
    rfl

section
variable {s : State} {line : Option MLine} {q : MbCommand} (h : EngineTakes s line q)
include h

theorem info_fills (hcode : q.code = 1) : Answers (.info line) s (BufferFilled s q s.infoBlock) :=
  ⟨_, congrArg Host.Outcome.next (mbServe_of_takes h (by simp [hcode]) _), mbFill_answered s q s.infoBlock [] _⟩

/-- What is open from stage 1 of a power-down on is refused (R996). -/
theorem refused_of_begun (hbegun : s.pwr.stageBegun = true) {c : Byte} (hcode : q.code = c) {i : Instr}
    {f : MbCommand → State → State}
    (hi : exec i s = .next (s.mbServe line (fun n => n = c) (State.mbOpen f))) :
    Answers i s (OnlyAnswered q mbNotNow s) :=
  ⟨_, hi.trans (congrArg Host.Outcome.next ((mbServe_of_takes h (by simp [hcode]) _).trans
    (mbOpen_of_begun hbegun f q))), mbRefuse_only s q mbNotNow⟩

/-- A command of the table while no power-down has begun. -/
theorem served_of_open (hopen : s.pwr.stageBegun = false) {c : Byte} (hcode : q.code = c) {i : Instr}
    {f : MbCommand → State → State}
    (hi : exec i s = .next (s.mbServe line (fun n => n = c) (State.mbOpen f))) :
    exec i s = .next (f q s) :=
  hi.trans (congrArg Host.Outcome.next ((mbServe_of_takes h (by simp [hcode]) _).trans (mbOpen_of_open hopen f q)))

theorem mbUnknown_answered (hopen : s.pwr.stageBegun = false) (hcode : q.code = 0 ∨ 8 < q.code.toNat) :
    Answers (.mbUnknown line) s (OnlyAnswered q mbUnknown s) :=
  ⟨_, congrArg Host.Outcome.next ((mbServe_of_takes h (by simpa using hcode) _).trans (mbOpen_of_open hopen _ q)),
    mbRefuse_only s q mbUnknown⟩

end

/-! ### LOG_READ (R1010) -/

section
variable {s : State} {q : MbCommand}

theorem mbLogRead_mode (h : s.pwr.mode.logRead = false) : s.mbLogRead q = s.mbRefuse q mbNotNow :=
  if_pos (by simp [h])

theorem mbLogRead_count (h : s.pwr.mode.logRead = true) (hn : q.arg[2].toNat = 0 ∨ 128 < q.arg[2].toNat) :
    s.mbLogRead q = s.mbRefuse q mbBadArg :=
  (if_neg (by simp [h])).trans (if_pos (hn.imp_left Nat.lt_one_iff.mpr))

/-- The third word of an answer whose first two are given. -/
theorem mbAnswer_third (s : State) (q : MbCommand) (r : Byte) {first : List Nat} (hfirst : first.length = 2) (m : Nat)
    {n : Nat} (hn : n < 65536) :
    ((s.mbAnswer q r (first ++ [n, m])).mgmt.answer.map fun x => x.rd[2].toNat) = some n := by
  obtain ⟨a, b, rfl⟩ := List.length_eq_two.mp hfirst
  exact congrArg some ((BitVec.toNat_ofNat n 16).trans (Nat.mod_eq_of_lt hn))

/-- The records that a LOG_READ asks for, and their words. -/
def State.logAsked (s : State) (q : MbCommand) : List (LogRecord × Bool) := (s.logFrom (q.arg32 0)).take q.arg[2].toNat

def State.logWords (s : State) (q : MbCommand) : List Par := (s.logAsked q).flatMap fun e => e.1.words e.2

theorem mbLogRead_answer (h : s.pwr.mode.logRead = true) (h1 : 1 ≤ q.arg[2].toNat) (h128 : q.arg[2].toNat ≤ 128) :
    ∃ (first : List Nat) (m : Nat), first.length = 2 ∧ s.mbLogRead q
      = (s.mbFill q.source (s.logWords q)).draw.2.mbAnswer q mbOk (first ++ [(s.logAsked q).length, m]) := by
  unfold State.mbLogRead
  rw [if_neg (by simp [h]), if_neg (by omega)]
  refine ⟨_, _, ?_, rfl⟩
  by_cases hempty : (s.logAsked q).isEmpty = true
  · exact (congrArg List.length (if_pos hempty)).trans rfl
  · exact (congrArg List.length (if_neg hempty)).trans rfl

theorem mbLogRead_fills (h : s.pwr.mode.logRead = true) (h1 : 1 ≤ q.arg[2].toNat) (h128 : q.arg[2].toNat ≤ 128) :
    BufferFilled s q (s.logWords q) (s.mbLogRead q)
      ∧ ((s.mbLogRead q).mgmt.answer.map fun a => a.rd[2].toNat) = some (s.logAsked q).length := by
  have hl : (s.logAsked q).length < 65536 := by
    have : (s.logAsked q).length ≤ q.arg[2].toNat := List.length_take_le _ _
    omega
  obtain ⟨first, m, hfirst, heq⟩ := mbLogRead_answer h h1 h128
  rw [heq]
  exact ⟨mbFill_answered s q _ _ _, mbAnswer_third _ _ _ hfirst m hl⟩

end

/-! ### BUSY (R994) -/

/-- A command from U0 while the engine is engaged is answered on U0 and leaves the engine's own. -/
theorem mbServe_of_engaged {s : State} (hrun : s.pwr.mgRunning = true) (hengaged : s.mgmt.engaged = true)
    {l : MLine} {t : Byte → Bool} (ht : t l.code = true) (f : MbCommand → State → State) :
    s.mbServe (some l) t f = s.mbBusyNow { source := .u0, code := l.code, tag := l.tag, arg := l.arg } := by
  simp [State.mbServe, hrun, ht, hengaged]

theorem mbBusyNow_u0 (s : State) {q : MbCommand} (h : q.source = .u0) : ∃ (rd : Vector Word 4) (k : Nat),
    s.mbBusyNow q = { s with
      mgmt := { s.mgmt with u0Tx := s.mgmt.u0Tx ++ asciiBytes (MbAnswer.line ⟨q, mbBusy, rd⟩) ++ [0x0D] }
      fresh := k } := by
  obtain ⟨rd, k, hrefuse⟩ : ∃ rd k, s.mbRefuse q mbBusy
      = { s with mgmt := { s.mgmt with answer := some ⟨q, mbBusy, rd⟩ }, fresh := k } := ⟨_, _, rfl⟩
  refine ⟨rd, k, ?_⟩
  unfold State.mbBusyNow
  rw [hrefuse]
  exact congrArg (fun u => State.onMgmt u fun m => { m with answer := s.mgmt.answer }) (State.mbDeliver_u0 _ h)

end Machine

/-- Settles O58: `mbServe_of_takes` reduces each command to its function, and a filled buffer is read back by the laws
of memory. -/
theorem engineReturnsInformation : Obligations.EngineReturnsInformation := by
  unfold Obligations.EngineReturnsInformation
  refine ⟨fun s line q h => ?_, fun s l hrun hengaged hcode => ?_⟩
  · intro filled
    refine ⟨fun hcode => ?_, fun hbegun => ?_, fun hopen => ⟨mbUnknown_answered h hopen, fun hcode => ?_⟩⟩
    · obtain ⟨t, ht, hfill⟩ := info_fills h hcode
      exact ⟨t, ht, hfill.answered, hfill.read, hfill.rest⟩
    · simp only [List.forall_mem_cons, List.not_mem_nil, false_implies, implies_true, and_true]
      exact ⟨fun hc => refused_of_begun h hbegun hc rfl, fun hc => refused_of_begun h hbegun hc rfl,
        fun hc => refused_of_begun h hbegun hc rfl, fun hc => refused_of_begun h hbegun hc rfl,
        fun hc => refused_of_begun h hbegun hc rfl, fun hc => refused_of_begun h hbegun hc rfl,
        fun hc => refused_of_begun h hbegun hc rfl⟩
    · have hexec : exec (.logRead line) s = .next (s.mbLogRead q) := served_of_open h hopen hcode rfl
      intro n
      refine ⟨fun hmode => ⟨_, hexec, ?_⟩, fun hmode hn => ⟨_, hexec, ?_⟩, fun hmode h1 h128 => ⟨_, hexec, ?_⟩⟩
      · rw [mbLogRead_mode hmode]
        exact mbRefuse_only s q mbNotNow
      · rw [mbLogRead_count hmode hn]
        exact mbRefuse_only s q mbBadArg
      · obtain ⟨hfill, hlen⟩ := mbLogRead_fills hmode h1 h128
        exact ⟨hfill.answered, ⟨hfill.read, hfill.rest⟩, hlen⟩
  · refine ⟨_, congrArg Host.Outcome.next (mbServe_of_engaged hrun hengaged (by simp [hcode]) _), ?_⟩
    obtain ⟨rd, k, heq⟩ := mbBusyNow_u0 s (q := { source := .u0, code := l.code, tag := l.tag, arg := l.arg }) rfl
    rw [heq]
    exact ⟨rfl, rfl, rfl, rfl, rd, rfl⟩

end Sys2Proof
end

section
/-! PROOFS. The boot record, the rollback counter and the commit of the log (18_management R1001 to R1015, R1033):
statement O59. -/

namespace Sys2Proof

open Machine

namespace Machine

/-! ### What an event does not depend on -/

/-- A record reaches a queue only as LOG_LOST, when it finds the ring with one place left (R1004). -/
theorem State.logRecord_bus (s : State) (code aux : Byte) (payload : Word) (w4 w5 : Par) :
    (s.logRecord code aux payload w4 w5).bus
      = if s.ao.ring.length = 63 then (s.onEvq 0 fun p => p.push ⟨0xC0, 0, 1⟩).bus else s.bus := by
  unfold State.logRecord
  obtain h | h | h := lt_trichotomy s.ao.ring.length 63
  · rw [if_pos h, if_neg h.ne]
    rfl
  · rw [if_neg h.not_lt, if_pos h, if_pos h]
    rfl
  · rw [if_neg h.not_gt, if_neg h.ne', if_neg h.ne']
    rfl

theorem State.logRecord_onAo_bus (s : State) {f : Ao → Ao} (hf : (f s.ao).ring = s.ao.ring) (code aux : Byte)
    (payload : Word) (w4 w5 : Par) :
    ((s.onAo f).logRecord code aux payload w4 w5).bus = (s.logRecord code aux payload w4 w5).bus := by
  rw [State.logRecord_bus, State.logRecord_bus]
  exact if_congr (by rw [show (s.onAo f).ao.ring = s.ao.ring from hf]) rfl rfl

theorem State.raise0_onAo_bus (s : State) {f : Ao → Ao} (hf : (f s.ao).ring = s.ao.ring) (code aux : Byte)
    (payload : Word) : ((s.onAo f).raise0 code aux payload).bus = (s.raise0 code aux payload).bus := by
  have hpar : (s.onAo f).parG 0x3814 = s.parG 0x3814 := rfl
  simp only [State.raise0, State.onAo_pwr, hpar]
  split_ifs
  · rfl
  · exact State.logRecord_onAo_bus (s.onEvq 0 _) hf code aux payload 0 0
  · rfl

/-- An answer put into the core leaves a report a report. -/
theorem Reports.mbAnswer {s t : State} (h : Reports s t) (q : MbCommand) (r : Byte) (data : List Nat) :
    let u := t.mbAnswer q r data
    Reports { s with mgmt := { s.mgmt with answer := u.mgmt.answer }, fresh := u.fresh } u := by
  unfold Reports at h
  rw [h]
  rfl

/-! ### Confirmation (R1015) -/

/-- The boot record of a confirmed image, IMAGE_CONFIRMED with it. -/
structure Confirmed (s t : State) : Prop where
  trial : t.mgmt.trial = false
  boots : t.mgmt.trialBoots = 0
  held : t.ao.trialHeld = 0
  bus : t.bus = (s.raise0 0xC7 (byteOf s.preferredArea.val) (((s.mgmt.image[s.preferredArea]).map fun i =>
    BitVec.setWidth 16 i.version).getD 0)).bus
  rest : Reports { s with
    ao := { s.ao with trialHeld := 0 }
    mgmt := { s.mgmt with trial := false, trialBoots := 0, confirmHeld := false, answer := t.mgmt.answer }
    fresh := t.fresh } t

theorem State.confirmImage_reports (s : State) : Reports { s with
    ao := { s.ao with trialHeld := 0 }
    mgmt := { s.mgmt with trial := false, trialBoots := 0, confirmHeld := false } } s.confirmImage :=
  State.raise0_reports _ _ _ _

theorem State.confirmImage_bus (s : State) : s.confirmImage.bus = (s.raise0 0xC7 (byteOf s.preferredArea.val)
    (((s.mgmt.image[s.preferredArea]).map fun i => BitVec.setWidth 16 i.version).getD 0)).bus :=
  (State.raise0_onAo_bus _ rfl _ _ _).trans (State.raise0_onMgmt_bus _ _ _ _ _)

theorem confirmed_of_reports {s t : State} (hbus : t.bus = s.confirmImage.bus) (h : Reports { s with
    ao := { s.ao with trialHeld := 0 }
    mgmt := { s.mgmt with trial := false, trialBoots := 0, confirmHeld := false, answer := t.mgmt.answer }
    fresh := t.fresh } t) : Confirmed s t where
  trial := congrArg (fun u : State => u.mgmt.trial) h
  boots := congrArg (fun u : State => u.mgmt.trialBoots) h
  held := congrArg (fun u : State => u.ao.trialHeld) h
  bus := hbus.trans s.confirmImage_bus
  rest := h

theorem trialConfirm_confirms {s : State} (hrun : s.pwr.mode.running = true) (htrial : s.runsTrial = true)
    (hflash : s.analog.flashOk = true) :
    Answers .trialConfirm s fun t => t.mgmt.answer = s.mgmt.answer ∧ Confirmed s t := by
  have hrep := s.confirmImage_reports
  have hanswer : s.confirmImage.mgmt.answer = s.mgmt.answer :=
    (congrArg (fun u : State => u.mgmt.answer) hrep).trans rfl
  have hfresh : s.confirmImage.fresh = s.fresh := hrep.fresh
  refine ⟨_, congrArg Host.Outcome.next ((if_pos ⟨hrun, htrial⟩).trans (if_pos hflash)), hanswer,
    confirmed_of_reports rfl ?_⟩
  rw [hanswer, hfresh]
  exact hrep

section
variable {s : State} {line : Option MLine} {q : MbCommand} (h : EngineTakes s line q)
  (hopen : s.pwr.stageBegun = false) (hflash : s.analog.flashOk = true)
include h hopen hflash

theorem confirm_confirms (hcode : q.code = 8) (hmode : s.pwr.mode.running = true ∨ s.pwr.mode = .service)
    (htrial : s.runsTrial = true) : Answers (.confirm line) s fun t => Answered q mbOk t ∧ Confirmed s t := by
  have hserved : s.mbConfirm q = s.confirmImage.mbAnswer q mbOk [] :=
    (if_neg (by simpa [or_iff_not_imp_left] using hmode)).trans ((if_neg (by simp [hflash])).trans
      (congrArg (fun u => State.mbAnswer u q mbOk []) (if_pos htrial)))
  refine ⟨_, (served_of_open h hopen hcode rfl).trans (congrArg Host.Outcome.next hserved), rfl,
    confirmed_of_reports rfl ?_⟩
  exact Reports.mbAnswer s.confirmImage_reports q mbOk []

theorem confirm_without_trial (hcode : q.code = 8) (hmode : s.pwr.mode.running = true ∨ s.pwr.mode = .service)
    (htrial : s.runsTrial = false) : Answers (.confirm line) s (OnlyAnswered q mbOk s) := by
  have hserved : s.mbConfirm q = s.mbAnswer q mbOk [] :=
    (if_neg (by simpa [or_iff_not_imp_left] using hmode)).trans ((if_neg (by simp [hflash])).trans
      (congrArg (fun u => State.mbAnswer u q mbOk []) (if_neg (by simp [htrial]))))
  exact ⟨_, (served_of_open h hopen hcode rfl).trans (congrArg Host.Outcome.next hserved), rfl, rfl⟩

end

/-! ### RB_COMMIT (R1033) -/

section
variable {s : State} {line : Option MLine} {q : MbCommand} (h : EngineTakes s line q)
  (hopen : s.pwr.stageBegun = false) (hcode : q.code = 7)
include h hopen hcode

theorem rbCommit_refused (hnot : s.runsTrial = true ∨ s.analog.flashOk = false) :
    Answers (.rbCommit line) s (OnlyAnswered q mbNotNow s) :=
  ⟨_, (served_of_open h hopen hcode rfl).trans (congrArg Host.Outcome.next (if_pos (.inr (hnot.imp_right (by simp))))),
    mbRefuse_only s q mbNotNow⟩

variable {i : MainImage} (hi : s.mainImage = some i) (hmode : s.pwr.mode = .service) (htrial : s.runsTrial = false)
  (hflash : s.analog.flashOk = true)
include hi hmode htrial hflash

theorem rbCommit_spent (hsv : i.sv ≤ s.mgmt.rollback) : Answers (.rbCommit line) s (OnlyAnswered q mbBadArg s) := by
  refine ⟨_, (served_of_open h hopen hcode rfl).trans (congrArg Host.Outcome.next (if_neg (by simp [*]))), ?_⟩
  rw [hi]
  exact (congrArg (OnlyAnswered q mbBadArg s) (if_pos hsv)).mpr (mbRefuse_only s q mbBadArg)

theorem rbCommit_raises (hlt : s.mgmt.rollback < i.sv) (hsv : i.sv ≤ 64) : Answers (.rbCommit line) s fun t =>
    Answered q mbOk t ∧ t.mgmt.rollback = i.sv ∧ t.bus = (s.raise0 0xC6 (byteOf i.sv) (BitVec.ofNat 16 i.sv)).bus
      ∧ Reports { s with
          mgmt := { s.mgmt with rollback := t.mgmt.rollback, answer := t.mgmt.answer }, fresh := t.fresh } t := by
  have hserved : s.mbRollback q = ((s.onMgmt fun m => { m with rollback := i.sv }).raise0 0xC6 (byteOf i.sv)
      (BitVec.ofNat 16 i.sv)).mbAnswer q mbOk [i.sv] := by
    have hsat : sat i.sv 64 = i.sv := if_pos hsv
    refine (if_neg (by simp [*])).trans ?_
    rw [hi]
    refine (if_neg (Nat.not_le.mpr hlt)).trans ?_
    rw [hsat]
  have hrep := Reports.mbAnswer (State.raise0_reports (s.onMgmt fun m => { m with rollback := i.sv }) 0xC6
    (byteOf i.sv) (BitVec.ofNat 16 i.sv)) q mbOk [i.sv]
  generalize hu : State.mbAnswer _ q mbOk [i.sv] = u at hserved hrep
  have hraised : u.mgmt.rollback = i.sv := (congrArg (fun u : State => u.mgmt.rollback) hrep).trans rfl
  refine ⟨_, (served_of_open h hopen hcode rfl).trans (congrArg Host.Outcome.next hserved), by rw [← hu]; rfl, hraised,
    by rw [← hu]; exact State.raise0_onMgmt_bus _ _ _ _ _, ?_⟩
  rw [hraised]
  exact hrep

end

/-! ### The commit of the log (R1001 to R1006) -/

/-- Of the entries, oldest first, those that go leave 4,096 or more (R1006). -/
def KeepsRecent (l l' : List LogRecord) : Prop := ∃ k, l' = l.drop k ∧ (k = 0 ∨ 4096 ≤ l'.length)

theorem KeepsRecent.refl (l : List LogRecord) : KeepsRecent l l := ⟨0, rfl, .inl rfl⟩

theorem KeepsRecent.trans {l l' l'' : List LogRecord} (h : KeepsRecent l l') (h' : KeepsRecent l' l'') :
    KeepsRecent l l'' := by
  obtain ⟨k, rfl, hk⟩ := h
  obtain ⟨n, rfl, hn⟩ := h'
  refine ⟨k + n, List.drop_drop, ?_⟩
  obtain rfl | hn := hn
  · exact hk
  · exact .inr hn

/-- A record put behind those kept. -/
theorem KeepsRecent.append {l l' : List LogRecord} (h : KeepsRecent l l') (r : LogRecord) :
    KeepsRecent (l ++ [r]) (l' ++ [r]) := by
  obtain ⟨k, rfl, hk⟩ := h
  rw [List.length_drop] at hk
  refine ⟨k, (List.drop_append_of_le_length (by omega)).symm, hk.imp_right fun h => ?_⟩
  rw [List.length_append, List.length_drop]
  omega

theorem Mgmt.eraseNext_keeps (m : Mgmt) : KeepsRecent m.log m.eraseNext.log := by
  refine ⟨_, rfl, ?_⟩
  dsimp only [Mgmt.eraseNext]
  rw [List.length_drop]
  omega

/-- An erase that is owed is made before the record goes to flash (R1006). -/
def Mgmt.paid (m : Mgmt) : Mgmt := if m.eraseOwed then m.eraseNext else m

theorem Mgmt.paid_says (m : Mgmt) : KeepsRecent m.log m.paid.log
    ∧ m.paid = { m with log := m.paid.log, eraseOwed := false } := by
  unfold Mgmt.paid
  by_cases h : m.eraseOwed = true
  · rw [if_pos h]
    exact ⟨m.eraseNext_keeps, rfl⟩
  · rw [if_neg h]
    refine ⟨.refl _, ?_⟩
    rw [← Bool.eq_false_iff.mpr h]

theorem Mgmt.commitRecord_says {m : Mgmt} (hpaid : m.eraseOwed = false) (r : LogRecord) :
    KeepsRecent (m.log ++ [r]) (m.commitRecord r true).log
      ∧ m.commitRecord r true = { m with
        log := (m.commitRecord r true).log, sectorFill := (m.sectorFill + 1) % 128, eraseOwed := false } := by
  unfold Mgmt.commitRecord
  by_cases h : m.sectorFill = 0
  · rw [if_pos h]
    exact ⟨m.eraseNext_keeps.append r, rfl⟩
  · rw [if_neg h]
    refine ⟨.refl _, ?_⟩
    rw [← hpaid]

/-- The oldest record goes to flash, an owed erase made before it. -/
theorem Mgmt.paid_commit (m : Mgmt) (r : LogRecord) : KeepsRecent (m.log ++ [r]) (m.paid.commitRecord r true).log
    ∧ m.paid.commitRecord r true = { m with
      log := (m.paid.commitRecord r true).log, sectorFill := (m.sectorFill + 1) % 128, eraseOwed := false } := by
  obtain ⟨hkept, hpaid⟩ := m.paid_says
  have howed : m.paid.eraseOwed = false := by rw [hpaid]
  obtain ⟨hlog, hcommit⟩ := Mgmt.commitRecord_says howed r
  refine ⟨(hkept.append r).trans hlog, hcommit.trans ?_⟩
  generalize (m.paid.commitRecord r true).log = kept
  rw [hpaid]

theorem logCommit_eq {s : State} {r : LogRecord} {l : List LogRecord} (hrun : s.pwr.mgRunning = true)
    (hslot : s.mgmt.running.isSome = true) (hflash : s.analog.flashOk = true) (hpd : s.pwr.pd = none)
    (hmode : s.pwr.mode ≠ .hold) (hthermal : s.ao.thermalRecord = none) (hring : s.ao.ring = r :: l) :
    exec .logCommit s
      = .next { s with mgmt := s.mgmt.paid.commitRecord r true, ao := { s.ao with ring := l } } := by
  refine congrArg Host.Outcome.next ((if_pos ⟨hrun, hslot, hflash, hpd, hmode⟩).trans ?_)
  rw [hthermal]
  have hpay : (if s.mgmt.eraseOwed then s.onMgmt Mgmt.eraseNext else s) = { s with mgmt := s.mgmt.paid } := by
    unfold Mgmt.paid
    split_ifs <;> rfl
  rw [hpay]
  unfold State.commitOldest
  rw [show ({ s with mgmt := s.mgmt.paid } : State).ao.ring = r :: l from hring]
  rfl

end Machine

/-- Settles O59: a confirmation and a raised counter are one event over a changed boot record; what an erase drops
leaves 4,096 entries. -/
theorem bootRecordAndLogMoveOn : Obligations.BootRecordAndLogMoveOn := by
  unfold Obligations.BootRecordAndLogMoveOn
  refine ⟨fun s => ?_, fun s r l hrun hslot hflash hpd hmode hthermal hring =>
    ⟨_, logCommit_eq hrun hslot hflash hpd hmode hthermal hring, rfl, ?_, ?_⟩⟩
  · intro confirmed
    have hconfirmed {t : State} (h : Confirmed s t) : confirmed t := ⟨h.trial, h.boots, h.held, h.bus, h.rest⟩
    refine ⟨fun hrun htrial hflash => ?_, fun line q h hopen =>
      ⟨fun hcode hmode hflash => ⟨fun htrial => ?_, confirm_without_trial h hopen hflash hcode hmode⟩,
        fun hcode i hi => ⟨rbCommit_refused h hopen hcode, fun hmode htrial hflash =>
          ⟨rbCommit_spent h hopen hcode hi hmode htrial hflash,
            rbCommit_raises h hopen hcode hi hmode htrial hflash⟩⟩⟩⟩
    · obtain ⟨t, ht, hanswer, hc⟩ := trialConfirm_confirms hrun htrial hflash
      exact ⟨t, ht, hanswer, hconfirmed hc⟩
    · obtain ⟨t, ht, hanswer, hc⟩ := confirm_confirms h hopen hflash hcode hmode htrial
      exact ⟨t, ht, hanswer, hconfirmed hc⟩
  · exact (s.mgmt.paid_commit r).1
  · exact congrArg (fun m => { s with mgmt := m, ao := { s.ao with ring := l } }) (s.mgmt.paid_commit r).2

end Sys2Proof
end

section
/-! PROOFS. Update sessions (17_ryine R1019 to R1031): statement O60. -/

namespace Sys2Proof

open Machine

/-! ### What an update session's steps leave -/

/-- What lies outside the update of the main image. -/
structure BesideUpdate (s t : State) : Prop where
  rollback : t.mgmt.rollback = s.mgmt.rollback
  fuse : t.fuse = s.fuse
  paper : t.paper = s.paper
  silt : t.silt = s.silt
  link : t.link = s.link
  island : t.island = s.island
  running : t.mgmt.running = s.mgmt.running

theorem BesideUpdate.trans {s t u : State} (h : BesideUpdate s t) (k : BesideUpdate t u) : BesideUpdate s u where
  rollback := k.rollback.trans h.rollback
  fuse := k.fuse.trans h.fuse
  paper := k.paper.trans h.paper
  silt := k.silt.trans h.silt
  link := k.link.trans h.link
  island := k.island.trans h.island
  running := k.running.trans h.running

theorem Reports.besideUpdate {s t : State} (h : Reports s t) : BesideUpdate s t where
  rollback := by rw [h.mgmt_eq]
  fuse := h.fuse
  paper := h.paper
  silt := h.silt
  link := h.link
  island := h.island
  running := by rw [h.mgmt_eq]

/-- A change of the core that leaves the count of lost records to the reports. -/
theorem Reports.onMgmt {s t : State} (h : Reports s t) {f : Mgmt → Mgmt}
    (hf : ∀ m n, f { m with logLost := n } = { f m with logLost := n }) : Reports (s.onMgmt f) (t.onMgmt f) := by
  have ht : t.onMgmt f = { s.onMgmt f with
      bus := { s.bus with evq := t.bus.evq }
      ao := { s.ao with ring := t.ao.ring }
      mgmt := { f s.mgmt with logLost := t.mgmt.logLost } } := by
    rw [h]
    exact congrArg (fun m => ({ s with
      bus := { s.bus with evq := t.bus.evq }, ao := { s.ao with ring := t.ao.ring }, mgmt := m } : State)) (hf _ _)
  rw [ht]
  rfl

theorem Reports.setUpdate {s t : State} (h : Reports s t) (st : UpdateState) :
    Reports (s.onMgmt fun m => { m with update := st }) (t.setUpdate st) :=
  (h.onMgmt fun _ _ => rfl).trans (t.setUpdate_reports st)

/-- UPDATE is left to SERVICE (02_power_clocks_modes R61, R87). -/
def Machine.State.leftUpdate (s : State) : State :=
  { s with pwr := if s.pwr.mode = .update then { s.pwr with mode := .service } else s.pwr }

theorem Machine.State.leaveUpdate_reports (s : State) : Reports s.leftUpdate s.leaveUpdate := by
  unfold State.leftUpdate State.leaveUpdate
  by_cases h : s.pwr.mode = .update
  · rw [if_pos h, if_pos h]
    exact State.changeMode_reports s _
  · rw [if_neg h, if_neg h]
    exact Reports.refl s

theorem Reports.leaveUpdate {s t : State} (h : Reports s t) : Reports s.leftUpdate t.leaveUpdate := by
  refine Reports.trans ?_ t.leaveUpdate_reports
  unfold Reports at h
  rw [h]
  rfl

theorem Machine.State.leftUpdate_mode (s : State) (h : s.pwr.mode = .update) : s.leftUpdate.pwr.mode = .service :=
  congrArg Pwr.mode (if_pos h)

theorem Machine.State.endRaw_reports (s : State) : Reports { s with grit := s.endRaw.grit } s.endRaw := by
  unfold State.endRaw
  by_cases h : (!s.grit.raw) = true
  · rw [if_pos h]
    exact Reports.refl s
  · rw [if_neg h]
    dsimp only
    generalize hu : s.onGrit _ = u
    have hgrit (t : State) (k : Reports u t) : Reports { s with grit := t.grit } t := by
      subst hu
      rw [k.grit]
      exact k
    by_cases hblocked : u.grit.blocked = true
    · rw [if_pos hblocked]
      exact hgrit u (.refl u)
    · rw [if_neg hblocked]
      exact hgrit _ (u.gritBlockEvent_reports 2)

/-! ### The open session ends (R1028) -/

/-- A session that has ended FAILED: the boot record is as it was, and UPDATE is left. -/
structure SessionFailed (s t : State) : Prop where
  session : t.mgmt.session = none
  update : t.mgmt.update = .failed
  image : t.mgmt.image = s.mgmt.image
  preferred : t.mgmt.preferred = s.mgmt.preferred
  trial : t.mgmt.trial = s.mgmt.trial
  mode : s.pwr.mode = .update → t.pwr.mode = .service
  beside : BesideUpdate s t

theorem failSession_reports {s : State} {x : Session} (hx : s.mgmt.session = some x) :
    Reports (s.onMgmt fun m => { m with session := none, update := .failed }).leftUpdate s.failSession := by
  have heq : s.failSession = ((s.onMgmt fun m => { m with session := none }).setUpdate .failed).leaveUpdate := by
    unfold State.failSession
    rw [hx]
  rw [heq]
  exact Reports.leaveUpdate (Reports.setUpdate (Reports.refl _) _)

theorem failSession_fails {s : State} {x : Session} (hx : s.mgmt.session = some x) :
    SessionFailed s s.failSession := by
  have hrep := failSession_reports hx
  have hm := hrep.mgmt_eq
  exact {
    session := by rw [hm] <;> rfl
    update := by rw [hm] <;> rfl
    image := by rw [hm] <;> rfl
    preferred := by rw [hm] <;> rfl
    trial := by rw [hm] <;> rfl
    mode := fun h => (congrArg Pwr.mode hrep.pwr).trans (State.leftUpdate_mode _ h)
    beside := by
      obtain ⟨h1, h2, h3, h4, h5, h6, h7⟩ := hrep.besideUpdate
      exact ⟨h1, h2, h3, h4, h5, h6, h7⟩ }

/-- An answer of the session is an answer and no more. -/
theorem SessionFailed.answer {s t : State} (h : SessionFailed s t) (q : MbCommand) (r : Byte) (data : List Nat) :
    SessionFailed s (t.updAnswer q r data) :=
  ⟨h.session, h.update, h.image, h.preferred, h.trial, h.mode, h.beside.trans ⟨rfl, rfl, rfl, rfl, rfl, rfl, rfl⟩⟩

/-! ### The area that is written (R1020) -/

theorem otherArea_ne (a : Fin 2) : otherArea a ≠ a := by
  revert a
  decide

/-- Area k holds m and the other what it held. -/
structure AreaHolds (s : State) (k : Fin 2) (m : Option MainImage) (t : State) : Prop where
  self : t.mgmt.image[k] = m
  other : t.mgmt.image[otherArea k] = s.mgmt.image[otherArea k]

theorem areaHolds_of_set {s t : State} {k : Fin 2} {m : Option MainImage}
    (h : t.mgmt.image = s.mgmt.image.set k m) : AreaHolds s k m t := by
  constructor
  · rw [h]
    exact Vector.getElem_set_self _
  · rw [h]
    exact Vector.getElem_set_ne _ _ fun h => otherArea_ne k (Fin.ext h.symm)

theorem targetArea_of_mode {s : State} (h : s.pwr.mode ≠ .hold) :
    s.targetArea = otherArea (s.mgmt.running.getD s.preferredArea) := if_neg h

/-! ### UPD_BEGIN (R1019) -/

theorem Reports.changeMode {s t : State} (h : Reports s t) (f : Pwr → Pwr) :
    Reports { s with pwr := (f s.pwr).settle } (t.changeMode f) := by
  refine Reports.trans ?_ (t.changeMode_reports f)
  unfold Reports at h
  rw [h]
  rfl

/-- The target area is marked invalid through what was told. -/
theorem Reports.invalidateTarget {s t : State} (h : Reports s t) : Reports s.invalidateTarget t.invalidateTarget := by
  have harea : t.targetArea = s.targetArea := by
    unfold Reports at h
    rw [h]
    rfl
  have heq : t.invalidateTarget = t.onMgmt fun m => { m with image := m.image.set s.targetArea none } :=
    congrArg (fun a : Fin 2 => t.onMgmt fun m => { m with image := m.image.set a none }) harea
  rw [heq]
  exact Reports.onMgmt h fun _ _ => rfl

/-- A session is begun. -/
def Machine.Mgmt.begun (q : MbCommand) (m : Mgmt) : Mgmt := { m with
  session := some { source := q.source, length := q.arg32 0, received := [] }
  updateSource := (match q.source with | .window10 => 1 | .u0 => 2)
  updateBytes := 0 }

theorem mbUpdBegin_opens {s : State} {q : MbCommand} (hnone : s.mgmt.session = none) (hmode : s.pwr.mode = .service)
    (hlo : 257 ≤ q.arg32 0) (hhi : q.arg32 0 ≤ 1048576) (hflash : s.analog.flashOk = true) :
    ∃ u, s.mbUpdBegin true q = u.updAnswer q mbOk
      ∧ Reports { s with
        grit := s.endRaw.grit
        pwr := { s.pwr with mode := .update }
        mgmt := { s.mgmt.begun q with
          image := s.mgmt.image.set (otherArea (s.mgmt.running.getD s.preferredArea)) none
          update := .receiving } } u := by
  unfold State.mbUpdBegin
  rw [hnone, if_neg (by simp), if_neg (by simp [hmode]), if_neg (by omega), if_neg (by simp [hflash])]
  have hbegun := Reports.onMgmt s.endRaw_reports (f := Mgmt.begun q) fun _ _ => rfl
  have hservice : (s.endRaw.onMgmt (Mgmt.begun q)).pwr.mode = .service :=
    (congrArg Pwr.mode s.endRaw_reports.pwr).trans hmode
  have hupdate : Reports { s with
      grit := s.endRaw.grit
      pwr := { s.pwr with mode := .update }
      mgmt := s.mgmt.begun q } (if (s.endRaw.onMgmt (Mgmt.begun q)).pwr.mode = .service then
      (s.endRaw.onMgmt (Mgmt.begun q)).changeMode fun p => { p with mode := .update }
      else s.endRaw.onMgmt (Mgmt.begun q)) := by
    rw [if_pos hservice]
    exact Reports.changeMode hbegun _
  exact ⟨_, rfl, Reports.setUpdate (Reports.invalidateTarget (Reports.setUpdate hupdate .erasing)) .receiving⟩

/-! ### Commands of an open session (R1021 to R1028) -/

theorem inSession_own {s : State} {x : Session} (hx : s.mgmt.session = some x) {q : MbCommand}
    (hsrc : x.source = q.source) (f : Session → MbCommand → State → State) : State.inSession f q s = f x q s := by
  unfold State.inSession
  rw [hx]
  exact if_pos hsrc

section
variable {s : State} {x : Session} {q : MbCommand} {b : Bool}

theorem mbUpdChunk_order (h1 : 1 ≤ q.arg[0].toNat) (h4096 : q.arg[0].toNat ≤ 4096)
    (hoff : q.arg32 1 ≠ x.received.length) : s.mbUpdChunk b x q = s.updAnswer q mbOrder :=
  (if_neg (by omega)).trans (if_pos hoff)

theorem mbUpdChunk_long (h1 : 1 ≤ q.arg[0].toNat) (h4096 : q.arg[0].toNat ≤ 4096)
    (hoff : q.arg32 1 = x.received.length) (hlong : x.length < x.received.length + q.arg[0].toNat) :
    s.mbUpdChunk b x q = s.updAnswer q mbBadArg :=
  (if_neg (by omega)).trans ((if_neg (not_not.mpr hoff)).trans (if_pos hlong))

/-- The bytes that an UPD_CHUNK brings. -/
def Machine.State.chunkData (s : State) (q : MbCommand) : List Byte := memReadN (s.mbBuffer q.source) 0 q.arg[0].toNat

theorem length_memReadN (m : Memory) (a n : Nat) : (memReadN m a n).length = n := by
  induction n generalizing a with
  | zero => rfl
  | succ n ih => exact congrArg Nat.succ (ih (a + 1))

/-- The core once the bytes of a chunk are taken, the area aside. -/
def Machine.Mgmt.taking (x : Session) (data : List Byte) (m : Mgmt) : Mgmt := { m with
  session := some { x with received := x.received ++ data }
  updateBytes := BitVec.ofNat 32 (x.received ++ data).length }

theorem mbUpdChunk_takes (h1 : 1 ≤ q.arg[0].toNat) (h4096 : q.arg[0].toNat ≤ 4096)
    (hoff : q.arg32 1 = x.received.length) (hfits : x.received.length + q.arg[0].toNat ≤ x.length)
    (hfirst : x.received = [] → kuwellFormat (s.chunkData q) = true ∧ kuwellLength (s.chunkData q) = x.length
      ∧ kuwellKind (s.chunkData q) = 1) :
    ∃ image, s.mbUpdChunk true x q
      = (s.onMgmt fun m => { m.taking x (s.chunkData q) with image := image }).updAnswer q mbOk := by
  have hzero : q.arg32 1 = 0 → x.received = [] := fun h => List.length_eq_zero_iff.mp (hoff.symm.trans h)
  have hformat : ¬ (q.arg32 1 = 0 ∧ (!kuwellFormat (s.chunkData q) ∨ kuwellLength (s.chunkData q) ≠ x.length)) := by
    rintro ⟨h0, hbad⟩
    obtain ⟨hf, hl, -⟩ := hfirst (hzero h0)
    simp [hf, hl] at hbad
  have hkind : ¬ (q.arg32 1 = 0 ∧ kuwellKind (s.chunkData q) ≠ 1) := fun ⟨h0, hbad⟩ => hbad (hfirst (hzero h0)).2.2
  have heq : s.mbUpdChunk true x q = (if (x.received ++ s.chunkData q).length = x.length
      then (s.onMgmt fun m => m.taking x (s.chunkData q)).storeImage (x.received ++ s.chunkData q)
      else s.onMgmt fun m => m.taking x (s.chunkData q)).updAnswer q mbOk :=
    (if_neg (by omega)).trans ((if_neg (not_not.mpr hoff)).trans ((if_neg (by omega)).trans
      ((if_neg hformat).trans ((if_neg hkind).trans (if_neg (by decide))))))
  rw [heq]
  by_cases hwhole : (x.received ++ s.chunkData q).length = x.length
  · rw [if_pos hwhole]
    exact ⟨_, rfl⟩
  · rw [if_neg hwhole]
    exact ⟨s.mgmt.image, rfl⟩

/-! ### UPD_END (R1024 to R1027) -/

theorem mbUpdEnd_short (hshort : x.received.length < x.length) : s.mbUpdEnd b x q = s.updAnswer q mbBadArg :=
  if_pos hshort

theorem mbUpdEnd_unfit (hlen : x.length ≤ x.received.length) (hcode : kuwellCheck x.received s.mgmt.rollback ≠ 0) :
    s.mbUpdEnd b x q = s.endFailed q (kuwellCheck x.received s.mgmt.rollback) :=
  (if_neg (Nat.not_lt.mpr hlen)).trans (if_pos hcode)

/-- The image that the session brought. -/
def Machine.Session.main (x : Session) : MainImage := kuwellMain x.received

/-- The stepping of this part is outside the range of the image. -/
def Machine.Session.steppingOut (x : Session) : Prop :=
  Config.stepping.toNat % 65536 < x.main.stepLo.toNat ∨ x.main.stepHi.toNat < Config.stepping.toNat % 65536

theorem mbUpdEnd_stepping (hlen : x.length ≤ x.received.length)
    (hcode : kuwellCheck x.received s.mgmt.rollback = 0) (hstep : x.steppingOut) :
    s.mbUpdEnd b x q = s.endFailed q mbStepping :=
  (if_neg (Nat.not_lt.mpr hlen)).trans ((if_neg (not_not.mpr hcode)).trans (if_pos hstep))

section
variable (hlen : x.length ≤ x.received.length) (hcode : kuwellCheck x.received s.mgmt.rollback = 0)
  (hstep : ¬ x.steppingOut)
include hlen hcode hstep

/-- The check of the epochs is logged (R1024); a mismatch that is not forced holds the session. -/
theorem mbUpdEnd_epoch (hepoch : s.updEpoch x.main = some true) (hforce : (q.arg[0]).getLsbD 0 = false) :
    ∃ u, Reports s u ∧ s.mbUpdEnd b x q = (u.setUpdate .epochHeld).updAnswer q mbEpoch :=
  ⟨_, State.logRecord_reports _ _ _ _ _ _, (if_neg (Nat.not_lt.mpr hlen)).trans ((if_neg (not_not.mpr hcode)).trans
    ((if_neg hstep).trans (if_pos ⟨decide_eq_true hepoch, by rw [hforce]; rfl⟩)))⟩

theorem mbUpdEnd_activates (hgood : ¬ (s.updEpoch x.main = some true ∧ (q.arg[0]).getLsbD 0 = false)) :
    ∃ u data, Reports s u ∧ s.mbUpdEnd true x q = (u.activateMain x.main).updAnswer q mbOk data :=
  ⟨_, _, State.logRecord_reports _ _ _ _ _ _, (if_neg (Nat.not_lt.mpr hlen)).trans
    ((if_neg (not_not.mpr hcode)).trans ((if_neg hstep).trans ((if_neg fun h => hgood
      ⟨of_decide_eq_true h.1, by simpa using h.2⟩).trans (if_neg (by decide)))))⟩

end

theorem SessionFailed.of_reports {s u t : State} (h : Reports s u) (k : SessionFailed u t) : SessionFailed s t where
  session := k.session
  update := k.update
  image := k.image.trans (by rw [h.mgmt_eq])
  preferred := k.preferred.trans (by rw [h.mgmt_eq])
  trial := k.trial.trans (by rw [h.mgmt_eq])
  mode := fun hs => k.mode (by rw [h.pwr, hs])
  beside := h.besideUpdate.trans k.beside

/-- A session that has ended FAILED with its target area, that of k, invalid (R1027). -/
structure TargetLost (s : State) (k : Fin 2) (t : State) : Prop where
  session : t.mgmt.session = none
  update : t.mgmt.update = .failed
  area : AreaHolds s k none t
  preferred : t.mgmt.preferred = s.mgmt.preferred
  mode : s.pwr.mode = .update → t.pwr.mode = .service
  beside : BesideUpdate s t

theorem endFailed_loses (hx : s.mgmt.session = some x) {k : Fin 2} (hk : s.targetArea = k) (r : Byte) :
    TargetLost s k (s.endFailed q r) := by
  subst hk
  have hfailed := (failSession_fails (s := s.invalidateTarget) hx).answer q r []
  obtain ⟨h1, h2, h3, h4, h5, h6, h7⟩ := hfailed.beside
  exact ⟨hfailed.session, hfailed.update, areaHolds_of_set hfailed.image, hfailed.preferred, hfailed.mode,
    ⟨h1, h2, h3, h4, h5, h6, h7⟩⟩

/-- The image of the session is the first one, in TRIAL (R1025). -/
structure Activated (s : State) (m : MainImage) (t : State) : Prop where
  session : t.mgmt.session = none
  update : t.mgmt.update = .done
  image : t.mgmt.image = s.mgmt.image.set s.targetArea (some m)
  preferred : t.mgmt.preferred = s.targetArea
  trial : t.mgmt.trial = true
  boots : t.mgmt.trialBoots = 0
  held : t.ao.trialHeld = 0
  mode : s.pwr.mode = .update → t.pwr.mode = .service
  beside : BesideUpdate s t

theorem activateMain_activates (s : State) (m : MainImage) : Activated s m (s.activateMain m) := by
  have hrep : Reports _ (s.activateMain m) := Reports.leaveUpdate (State.setUpdate_reports
    ((s.onMgmt fun g => { g with
      image := g.image.set s.targetArea (some m), preferred := s.targetArea, trial := true, trialBoots := 0
      confirmHeld := false, session := none }).onAo fun x => { x with trialHeld := 0, revertHeld := false }) .done)
  have hm := hrep.mgmt_eq
  obtain ⟨h1, h2, h3, h4, h5, h6, h7⟩ := hrep.besideUpdate
  exact {
    session := by rw [hm] <;> rfl
    update := by rw [hm] <;> rfl
    image := by rw [hm] <;> rfl
    preferred := by rw [hm] <;> rfl
    trial := by rw [hm] <;> rfl
    boots := by rw [hm] <;> rfl
    held := by rw [hrep.ao_eq] <;> rfl
    mode := fun h => (congrArg Pwr.mode hrep.pwr).trans (State.leftUpdate_mode _ h)
    beside := ⟨h1, h2, h3, h4, h5, h6, h7⟩ }

theorem Reports.targetArea {s u : State} (h : Reports s u) : u.targetArea = s.targetArea := by
  unfold Reports at h
  rw [h]
  rfl

theorem Activated.of_reports {s u t : State} {m : MainImage} (h : Reports s u) (k : Activated u m t) :
    Activated s m t where
  session := k.session
  update := k.update
  image := k.image.trans (by
    rw [show u.mgmt.image = s.mgmt.image by rw [h.mgmt_eq]]
    exact congrArg (fun a : Fin 2 => s.mgmt.image.set a (some m)) h.targetArea)
  preferred := k.preferred.trans h.targetArea
  trial := k.trial
  boots := k.boots
  held := k.held
  mode := fun hs => k.mode (by rw [h.pwr, hs])
  beside := h.besideUpdate.trans k.beside

theorem Activated.answer {s t : State} {m : MainImage} (h : Activated s m t) (q : MbCommand) (r : Byte)
    (data : List Nat) : Activated s m (t.updAnswer q r data) :=
  ⟨h.session, h.update, h.image, h.preferred, h.trial, h.boots, h.held, h.mode,
    h.beside.trans ⟨rfl, rfl, rfl, rfl, rfl, rfl, rfl⟩⟩

end

/-! ### The commands by their lines -/

section
variable {s : State} {line : Option MLine} {q : MbCommand} (h : EngineTakes s line q) (hopen : s.pwr.stageBegun = false)
include h hopen

/-- A command of the open session of its source. -/
theorem served_in_session {x : Session} (hx : s.mgmt.session = some x) (hsrc : x.source = q.source) {c : Byte}
    (hcode : q.code = c) {i : Instr} {f : Session → MbCommand → State → State}
    (hi : exec i s = .next (s.mbServe line (fun n => n = c) (State.mbOpen (State.inSession f)))) :
    exec i s = .next (f x q s) :=
  (served_of_open h hopen hcode hi).trans (congrArg Host.Outcome.next (inSession_own hx hsrc f))

end

/-- Settles O60: every command of a session is its change of the boot record up to reports, and its answer. -/
theorem updateSessions : Obligations.UpdateSessions := by
  unfold Obligations.UpdateSessions
  refine ⟨fun s line q h hopen => ?_, fun s => ⟨fun hnone => ?_, fun hsome => ?_⟩⟩
  · intro rest target area
    have hrest {t : State} (b : BesideUpdate s t) : rest t :=
      ⟨b.rollback, b.fuse, b.paper, b.silt, b.link, b.island, b.running⟩
    refine ⟨fun hcode hnone hmode hlo hhi hflash => ?_, fun x hx hsrc => ?_⟩
    · obtain ⟨u, heq, hrep⟩ := mbUpdBegin_opens hnone hmode hlo hhi hflash
      have hm := hrep.mgmt_eq
      have harea : AreaHolds s target none u := areaHolds_of_set (by rw [hm])
      obtain ⟨h1, h2, h3, h4, h5, h6, h7⟩ := hrep.besideUpdate
      refine ⟨_, served_of_open h hopen hcode rfl, ?_⟩
      rw [heq]
      exact ⟨rfl, (congrArg Mgmt.session hm).trans rfl, (congrArg Mgmt.update hm).trans rfl,
        (congrArg Pwr.mode hrep.pwr).trans rfl, ⟨harea.self, harea.other⟩, (congrArg Mgmt.preferred hm).trans rfl,
        hrest ⟨h1, h2, h3, h4, h5, h6, h7⟩⟩
    · intro n data kept ended
      have hkept (r : Byte) (y : Session) (u : State) (hsession : u.mgmt.session = some y)
          (hupdate : u.mgmt.update = s.mgmt.update) (hpreferred : u.mgmt.preferred = s.mgmt.preferred)
          (hpwr : u.pwr = s.pwr) (b : BesideUpdate s u) : kept r y (u.updAnswer q r) :=
        ⟨rfl, hsession, rfl, hupdate, hpreferred, hpwr, hrest (b.trans ⟨rfl, rfl, rfl, rfl, rfl, rfl, rfl⟩)⟩
      have hsame (r : Byte) : kept r x (s.updAnswer q r) :=
        hkept r x s hx rfl rfl rfl ⟨rfl, rfl, rfl, rfl, rfl, rfl, rfl⟩
      refine ⟨fun hcode h1 h4096 => ⟨fun hoff b => ?_, fun hoff => ⟨fun hlong b => ?_, fun hfits hfirst => ?_⟩⟩,
        fun hcode => ?_, fun hcode => ?_⟩
      · refine ⟨_, served_in_session h hopen hx hsrc hcode rfl, ?_⟩
        rw [mbUpdChunk_order h1 h4096 hoff]
        exact hsame mbOrder
      · refine ⟨_, served_in_session h hopen hx hsrc hcode rfl, ?_⟩
        rw [mbUpdChunk_long h1 h4096 hoff hlong]
        exact hsame mbBadArg
      · obtain ⟨image, heq⟩ := mbUpdChunk_takes h1 h4096 hoff hfits hfirst
        refine ⟨_, served_in_session h hopen hx hsrc hcode rfl, ?_⟩
        rw [heq]
        exact ⟨hkept mbOk _ _ rfl rfl rfl rfl ⟨rfl, rfl, rfl, rfl, rfl, rfl, rfl⟩,
          congrArg (BitVec.ofNat 32) (List.length_append.trans (congrArg _ (length_memReadN _ _ _)))⟩
      · intro m
        refine ⟨fun hshort b => ?_, fun hlen hmode => ?_⟩
        · refine ⟨_, served_in_session h hopen hx hsrc hcode rfl, ?_⟩
          rw [mbUpdEnd_short hshort]
          exact hsame mbBadArg
        · have hend {t : State} (ht : s.mbUpdEnd true x q = t) : exec (.updEnd line true) s = .next t :=
            (served_in_session h hopen hx hsrc hcode rfl).trans (congrArg Host.Outcome.next ht)
          have htarget : s.targetArea = target := targetArea_of_mode hmode
          by_cases hcheck : kuwellCheck x.received s.mgmt.rollback ≠ 0
          · have hlost := endFailed_loses (q := q) hx htarget (kuwellCheck x.received s.mgmt.rollback)
            exact ⟨_, hend (mbUpdEnd_unfit hlen hcheck), hrest hlost.beside, Eq.mpr (if_pos hcheck) ⟨rfl, hlost.session,
              hlost.update, ⟨hlost.area.self, hlost.area.other⟩, hlost.preferred, hlost.mode⟩⟩
          have hcheck0 : kuwellCheck x.received s.mgmt.rollback = 0 := not_not.mp hcheck
          by_cases hstep : x.steppingOut
          · have hlost := endFailed_loses (q := q) hx htarget mbStepping
            exact ⟨_, hend (mbUpdEnd_stepping hlen hcheck0 hstep), hrest hlost.beside,
              Eq.mpr ((if_neg hcheck).trans (if_pos hstep)) ⟨rfl, hlost.session, hlost.update,
                ⟨hlost.area.self, hlost.area.other⟩, hlost.preferred, hlost.mode⟩⟩
          by_cases hepoch : s.updEpoch m = some true ∧ (q.arg[0]).getLsbD 0 = false
          · obtain ⟨u, hu, heq⟩ := mbUpdEnd_epoch (b := true) hlen hcheck0 hstep hepoch.1 hepoch.2
            have hrep := Reports.setUpdate hu .epochHeld
            have hm := hrep.mgmt_eq
            obtain ⟨h1, h2, h3, h4, h5, h6, h7⟩ := hrep.besideUpdate
            exact ⟨_, hend heq, hrest ⟨h1, h2, h3, h4, h5, h6, h7⟩,
              Eq.mpr ((if_neg hcheck).trans ((if_neg hstep).trans (if_pos hepoch))) ⟨rfl,
                (congrArg Mgmt.session hm).trans hx, (congrArg Mgmt.update hm).trans rfl,
                (congrArg Mgmt.image hm).trans rfl, (congrArg Mgmt.preferred hm).trans rfl, hrep.pwr⟩⟩
          · obtain ⟨u, more, hu, heq⟩ := mbUpdEnd_activates hlen hcheck0 hstep hepoch
            have hact := ((activateMain_activates u x.main).of_reports hu).answer q mbOk more
            have harea := areaHolds_of_set (hact.image.trans
              (congrArg (fun a : Fin 2 => s.mgmt.image.set a (some x.main)) htarget))
            exact ⟨_, hend heq, hrest hact.beside,
              Eq.mpr ((if_neg hcheck).trans ((if_neg hstep).trans (if_neg hepoch))) ⟨rfl, hact.session,
                ⟨harea.self, harea.other⟩, hact.preferred.trans htarget, hact.trial, hact.boots, hact.held, hact.mode,
                hact.update⟩⟩
      · have hfailed := (failSession_fails hx).answer q mbOk []
        exact ⟨_, served_in_session h hopen hx hsrc hcode rfl, rfl, hfailed.session, hfailed.update, hfailed.image,
          hfailed.preferred, hfailed.trial, hfailed.mode, hrest hfailed.beside⟩
  · refine congrArg Host.Outcome.next ?_
    unfold State.failSession
    rw [hnone]
  · obtain ⟨x, hx⟩ := Option.isSome_iff_exists.mp hsome
    have hfailed := failSession_fails hx
    exact ⟨_, rfl, hfailed.session, hfailed.update, hfailed.image, hfailed.preferred, hfailed.mode,
      hfailed.beside.paper, hfailed.beside.silt, hfailed.beside.link, hfailed.beside.island⟩

end Sys2Proof
end

section
/-! PROOFS. Frames sent on the Ryine link (17_ryine R930 to R937): statement O52. -/

namespace Sys2Proof

open Machine

/-! ### The transmit queue (R930, R931) -/

/-- A frame put behind the others, with the next SEQ. -/
def Machine.Link.appended (l : Link) (t : BitVec 4) (dst : BitVec 5) (p : List Byte) : Link := { l with
  nextSeq := l.nextSeq + 1
  queue := l.queue ++ [{ type := t, dst := dst, payload := p, src := BitVec.ofNat 4 l.nid.val, seq := l.nextSeq
                         attempts := 0 }] }

/-- A frame whose TYPE is not superseding goes behind the others or, where there is no room, is lost. -/
theorem queueFrame_of_plain (s : State) {t : BitVec 4} (ht : ryineSupersedes t = false) (dst : BitVec 5)
    (p : List Byte) : s.queueFrame t dst p = if s.link.room then s.onLink fun l => l.appended t dst p else s := by
  simp [State.queueFrame, ht, State.onLink, Link.appended]

/-! ### What sending on leaves -/

/-- The counters of sending are as they were, a frame may have gone behind the queue, and nothing outside the link is
touched but a job's state at a peer. -/
structure SendsOn (s t : State) : Prop where
  sending : t.link.sending = s.link.sending
  framesSent : t.link.framesSent = s.link.framesSent
  tecCount : t.link.tecCount = s.link.tecCount
  arbLoss : t.link.arbLoss = s.link.arbLoss
  lateLoss : t.link.lateLoss = s.link.lateLoss
  superseded : t.link.superseded = s.link.superseded
  errBit : t.link.errBit = s.link.errBit
  ackErr : t.link.ackErr = s.link.ackErr
  exhausted : t.link.exhausted = s.link.exhausted
  queue : ∃ l, t.link.queue = s.link.queue ++ l
  paper : t.paper = s.paper
  vi : t.vi = s.vi
  island : t.island = s.island
  pwr : t.pwr = s.pwr

theorem SendsOn.refl (s : State) : SendsOn s s :=
  ⟨rfl, rfl, rfl, rfl, rfl, rfl, rfl, rfl, rfl, ⟨[], (List.append_nil _).symm⟩, rfl, rfl, rfl, rfl⟩

theorem SendsOn.trans {s t u : State} (h : SendsOn s t) (k : SendsOn t u) : SendsOn s u where
  sending := k.sending.trans h.sending
  framesSent := k.framesSent.trans h.framesSent
  tecCount := k.tecCount.trans h.tecCount
  arbLoss := k.arbLoss.trans h.arbLoss
  lateLoss := k.lateLoss.trans h.lateLoss
  superseded := k.superseded.trans h.superseded
  errBit := k.errBit.trans h.errBit
  ackErr := k.ackErr.trans h.ackErr
  exhausted := k.exhausted.trans h.exhausted
  queue := by
    obtain ⟨l, hl⟩ := h.queue
    obtain ⟨m, hm⟩ := k.queue
    exact ⟨l ++ m, by rw [hm, hl, List.append_assoc]⟩
  paper := k.paper.trans h.paper
  vi := k.vi.trans h.vi
  island := k.island.trans h.island
  pwr := k.pwr.trans h.pwr

theorem Reports.sendsOn {s t : State} (h : Reports s t) : SendsOn s t := by
  unfold Reports at h
  rw [h]
  exact ⟨rfl, rfl, rfl, rfl, rfl, rfl, rfl, rfl, rfl, ⟨[], (List.append_nil _).symm⟩, rfl, rfl, rfl, rfl⟩

/-- The first frame stays the first. -/
theorem SendsOn.head {s t : State} (h : SendsOn s t) {f : RyFrame} {l : List RyFrame} (hq : s.link.queue = f :: l) :
    t.link.queue.head? = some f := by
  obtain ⟨m, hm⟩ := h.queue
  rw [hm, hq]
  rfl

theorem queueFrame_sendsOn (s : State) {t : BitVec 4} (ht : ryineSupersedes t = false) (dst : BitVec 5)
    (p : List Byte) : SendsOn s (s.queueFrame t dst p) := by
  rw [queueFrame_of_plain s ht]
  split
  · exact ⟨rfl, rfl, rfl, rfl, rfl, rfl, rfl, rfl, rfl, ⟨_, rfl⟩, rfl, rfl, rfl, rfl⟩
  · exact .refl s

/-- The next data of a migration are queued (R955). -/
theorem topData_sendsOn (s : State) : SendsOn s s.topData := by
  unfold State.topData
  by_cases hwait : (s.link.queue.any fun f => f.type = 4) = true ∨ (!s.link.room) = true
  · rw [if_pos hwait]
    exact .refl s
  · rw [if_neg hwait]
    cases s.sendingJob with
    | none => exact .refl s
    | some e =>
      refine SendsOn.trans (t := s.onJob e.1 _) ?_ (queueFrame_sendsOn _ rfl _ _)
      exact ⟨rfl, rfl, rfl, rfl, rfl, rfl, rfl, rfl, rfl, ⟨[], (List.append_nil _).symm⟩, rfl, rfl, rfl, rfl⟩

/-- A change of link state while no frame is being sent. -/
theorem setLink_sendsOn {s : State} (hnone : s.link.sending = none) (st : LinkState) (c : Nat) :
    SendsOn s (s.setLink st c) := by
  unfold State.setLink
  by_cases h : s.link.state = st
  · rw [if_pos h]
    exact .refl s
  · rw [if_neg h]
    refine SendsOn.trans (t := s.onLink _) ?_ (State.raise0_reports _ _ _ _).sendsOn
    refine ⟨?_, rfl, rfl, rfl, rfl, rfl, rfl, rfl, rfl, ⟨[], ?_⟩, rfl, rfl, rfl, rfl⟩
    · dsimp only [State.onLink]
      rw [hnone, ite_self]
    · dsimp only [State.onLink]
      rw [hnone, List.append_nil]

theorem settleLink_sendsOn {s : State} (hnone : s.link.sending = none) : SendsOn s s.settleLink := by
  unfold State.settleLink
  by_cases h1 : (!s.link.live) = true
  · rw [if_pos h1]
    exact .refl s
  rw [if_neg h1]
  by_cases h2 : 256 ≤ s.link.tecCount
  · rw [if_pos h2]
    exact setLink_sendsOn hnone _ _
  rw [if_neg h2]
  by_cases h3 : 128 ≤ s.link.tecCount ∨ 128 ≤ s.link.recCount
  · rw [if_pos h3]
    exact setLink_sendsOn hnone _ _
  · rw [if_neg h3]
    exact setLink_sendsOn hnone _ _

/-! ### Transmission (R932 to R937, R970) -/

section
variable {s : State} {x : Byte} {f : RyFrame} {l : List RyFrame}

/-- The frame that begins, a SYNC with the device time at its SOF. -/
def Machine.State.outgoing (s : State) (x : Byte) (f : RyFrame) : RyFrame :=
  if f.type = 0 then { f with payload := bytesBE s.ao.time.toNat 6 ++ [x] } else f

theorem frameTransmit_begins (hlive : s.link.live = true) (hnone : s.link.sending = none)
    (hopen : s.pwr.stageBegun = false) (hl : lowestType s.link.queue = some (f, l)) :
    exec (.frameTransmit x) s
      = .next (s.onLink fun k => { k with queue := l, sending := some (s.outgoing x f) }).topData := by
  refine congrArg Host.Outcome.next ((if_pos ⟨hlive, hnone, by rw [hopen]; rfl⟩).trans ?_)
  rw [hl] <;> rfl

theorem sync_begins (hlive : s.link.live = true) (hnone : s.link.sending = none) (hopen : s.pwr.stageBegun = false)
    (hl : lowestType s.link.queue = some (f, l)) (htype : f.type = 0) : Answers (.frameTransmit x) s fun t =>
      (t.link.sending.map fun g => (g.type, g.payload)) = some (f.type, bytesBE s.ao.time.toNat 6 ++ [x])
        ∧ t.paper = s.paper ∧ t.vi = s.vi ∧ t.island = s.island := by
  refine ⟨_, frameTransmit_begins hlive hnone hopen hl, ?_⟩
  have hout : s.outgoing x f = { f with payload := bytesBE s.ao.time.toNat 6 ++ [x] } := if_pos htype
  rw [hout]
  have hsent := topData_sendsOn
    (s.onLink fun k => { k with queue := l, sending := some { f with payload := bytesBE s.ao.time.toNat 6 ++ [x] } })
  exact ⟨congrArg _ hsent.sending, hsent.paper, hsent.vi, hsent.island⟩

end

/-! ### The end of a transmission -/

theorem retryFrame_again {s : State} {f : RyFrame} (h : f.attempts + 1 < s.parN 0x360C) : s.retryFrame f
    = s.onLink fun l => { l with queue := { f with attempts := f.attempts + 1 } :: l.queue } :=
  if_neg (Nat.not_le.mpr h)

/-- The last attempt: a frame to one node is told as lost (R937). -/
theorem retryFrame_last {s : State} {f : RyFrame} (h : s.parN 0x360C ≤ f.attempts + 1) :
    Reports (s.onLink fun l => { l with exhausted := l.exhausted + 1 }) (s.retryFrame f) := by
  unfold State.retryFrame
  rw [if_pos h]
  dsimp only
  by_cases hall : f.dst = 31
  · rw [if_pos hall]
    exact Reports.refl _
  · rw [if_neg hall]
    exact State.raise0_reports _ _ _ _

section
variable {s : State} {f : RyFrame} (hf : s.link.sending = some f)
include hf

/-- What ends a transmission: the frame is no longer being sent, and the outcome is counted. -/
theorem transmitEnd_sent : exec (.transmitEnd 0) s = .next (s.onLink fun l => { l with
    sending := none, framesSent := l.framesSent + 1, tecCount := l.tecCount - 1 }).settleLink.topData := by
  refine congrArg Host.Outcome.next ?_
  rw [hf] <;> rfl

theorem transmitEnd_arbitration (hplain : ryineSupersedes f.type = false) : exec (.transmitEnd 1) s
    = .next (s.onLink fun l => { l with
      sending := none, arbLoss := l.arbLoss + 1, queue := f :: l.queue }).topData := by
  refine congrArg Host.Outcome.next ?_
  rw [hf]
  refine congrArg (fun k => State.topData { s with link := k }) ?_
  exact if_neg (by rw [hplain]; exact Bool.false_ne_true)

theorem transmitEnd_late (hsuper : ryineSupersedes f.type = true) : exec (.transmitEnd 2) s
    = .next (s.onLink fun l => { l with
      sending := none, lateLoss := l.lateLoss + 1, superseded := l.superseded + 1 }).topData := by
  refine congrArg Host.Outcome.next ?_
  rw [hf]
  exact congrArg (fun k => State.topData { s with link := k }) (if_pos hsuper)

theorem transmitEnd_bitError (hretry : f.attempts + 1 < s.parN 0x360C) : exec (.transmitEnd 3) s
    = .next (s.onLink fun l => { l with
      sending := none, tecCount := l.tecCount + 8, errBit := satInc l.errBit
      queue := { f with attempts := f.attempts + 1 } :: l.queue }).settleLink.topData := by
  refine congrArg Host.Outcome.next ?_
  rw [hf]
  exact congrArg (fun u : State => u.settleLink.topData) (retryFrame_again hretry)

theorem transmitEnd_unacknowledged (hlast : s.parN 0x360C ≤ f.attempts + 1) :
    ∃ u, exec (.transmitEnd 6) s = .next u.topData ∧ Reports (s.onLink fun l => { l with
      sending := none, ackErr := satInc l.ackErr, exhausted := l.exhausted + 1 }) u := by
  refine ⟨(s.onLink fun l => { l with sending := none, ackErr := satInc l.ackErr }).retryFrame f,
    congrArg Host.Outcome.next ?_, retryFrame_last hlast⟩
  rw [hf] <;> rfl

end

/-- Settles O52: `SendsOn` says that what follows a transmission keeps its counts and the front of the queue. -/
theorem framesAreTransmitted : Obligations.FramesAreTransmitted := by
  unfold Obligations.FramesAreTransmitted
  refine ⟨fun s t dst p hroom ht => ?_, fun s x f l hlive hnone hopen hl => ⟨fun htype => ?_, ?_⟩, fun s f hf => ?_⟩
  · exact (queueFrame_of_plain s ht dst p).trans (if_pos hroom)
  · have hout : s.outgoing x f = f := if_neg htype
    rw [frameTransmit_begins hlive hnone hopen hl, hout]
  · exact sync_begins hlive hnone hopen hl
  · intro same
    have hsame {k : Link} {t : State} (h : SendsOn { s with link := k } t) (hk : k.sending = none) : same t :=
      ⟨h.sending.trans hk, h.paper, h.vi, h.island, h.pwr⟩
    refine ⟨⟨_, transmitEnd_sent hf, ?_⟩, fun hplain => ⟨_, transmitEnd_arbitration hf hplain, ?_⟩,
      fun hsuper => ⟨_, transmitEnd_late hf hsuper, ?_⟩, fun hretry => ⟨_, transmitEnd_bitError hf hretry, ?_⟩,
      fun hlast => ?_⟩
    · have h := (settleLink_sendsOn (s := s.onLink fun l => { l with
        sending := none, framesSent := l.framesSent + 1, tecCount := l.tecCount - 1 }) rfl).trans (topData_sendsOn _)
      exact ⟨hsame h rfl, h.framesSent, h.tecCount⟩
    · have h := topData_sendsOn (s.onLink fun l => { l with
        sending := none, arbLoss := l.arbLoss + 1, queue := f :: l.queue })
      exact ⟨hsame h rfl, h.arbLoss, h.head rfl⟩
    · have h := topData_sendsOn (s.onLink fun l => { l with
        sending := none, lateLoss := l.lateLoss + 1, superseded := l.superseded + 1 })
      exact ⟨hsame h rfl, h.lateLoss, h.superseded⟩
    · have h := (settleLink_sendsOn (s := s.onLink fun l => { l with
        sending := none, tecCount := l.tecCount + 8, errBit := satInc l.errBit
        queue := { f with attempts := f.attempts + 1 } :: l.queue }) rfl).trans (topData_sendsOn _)
      exact ⟨hsame h rfl, h.tecCount, h.errBit, h.head rfl⟩
    · obtain ⟨u, hexec, hu⟩ := transmitEnd_unacknowledged hf hlast
      have h := hu.sendsOn.trans (topData_sendsOn u)
      exact ⟨_, hexec, hsame h rfl, h.ackErr, h.exhausted, h.tecCount⟩

end Sys2Proof
end

section
/-! PROOFS. Guests that arrive from peers (17_ryine R962 to R967): statement O56. -/

namespace Sys2Proof

open Machine

/-! ### A guest's slot -/

theorem freeChunks_alone (s : State) (external : Bool) (l : List Nat) : SiltAlone s (s.freeChunks external l) :=
  SiltAlone.foldl (fun u c => u.freeChunk_alone external c) l s

/-- A result goes behind the other frames: it changes the link's queue alone (R957). -/
theorem sendResult_guest (s : State) (n : Fin 16) (id : Word) (c d t a : Nat) :
    (s.sendResult n id c d t a).link.guest = s.link.guest ∧ (s.sendResult n id c d t a).link.peer = s.link.peer
      ∧ s.sendResult n id c d t a = { s with link := (s.sendResult n id c d t a).link } := by
  have heq := queueFrame_of_plain s (t := 2) rfl (BitVec.ofNat 5 n.val)
    (bytesBE id.toNat 2 ++ [byteOf c, byteOf d] ++ bytesBE t 4 ++ bytesBE a 2)
  unfold State.sendResult
  rw [heq]
  split
  · exact ⟨rfl, rfl, rfl⟩
  · exact ⟨rfl, rfl, rfl⟩

/-- A slot freed: only the store and the slot itself change. -/
theorem freeGuest_frees {s : State} {g : Fin 4} {x : GuestSlot} (hx : s.link.guest[g] = some x) :
    s.freeGuest g = { s with
      silt := (s.freeGuest g).silt, link := { s.link with guest := s.link.guest.set g none } } := by
  have heq : s.freeGuest g = ((s.freeChunks x.external x.reserved).dropBands x.vi (guestBand g) 256).onLink fun l =>
      { l with guest := l.guest.set g none } := by
    unfold State.freeGuest
    rw [hx]
  have halone : SiltAlone s ((s.freeChunks x.external x.reserved).dropBands x.vi (guestBand g) 256) :=
    (freeChunks_alone s x.external x.reserved).trans (State.dropBands_alone _ _ _ _)
  generalize (s.freeChunks x.external x.reserved).dropBands x.vi (guestBand g) 256 = u at heq halone
  rw [heq, halone]
  rfl

/-! ### What a peer sends -/

section
variable {s u : State} {src : Fin 16} {seq : BitVec 4} {dst : BitVec 5} {p : List Byte}
  (ht : s.takeRyine src seq dst = (true, u))
include ht

/-- Thirty-two bits of an offer from a byte on. -/
def wordAt (p : List Byte) (i : Nat) : Par := BitVec.ofNat 32 (natBE ((p.drop i).take 4))

/-- The judgement of an offer's payload (R962). -/
def Machine.State.judged (u : State) (p : List Byte) : Nat ⊕ (Fin 8 × Fin 4 × List Nat × State) :=
  u.judgeOffer ((p[2]?).getD 0).toNat #v[wordAt p 3, wordAt p 7, wordAt p 11, wordAt p 15] (wordAt p 19).toNat

theorem migOffer_refused (hlen : p.length = 25) {d : Nat} (hd : u.judged p = .inl d) :
    exec (.migOffer src seq dst p) s
      = .next (u.sendResult src (BitVec.ofNat 16 (natBE (p.take 2))) 2 d 0 0) := by
  refine congrArg Host.Outcome.next ((if_pos ⟨congrArg Prod.fst ht, hlen⟩).trans ?_)
  rw [ht]
  unfold State.judged at hd
  dsimp only [wordAt] at hd ⊢
  rw [hd]

/-- The slot that an accepted offer takes. -/
def takenSlot (u : State) (src : Fin 16) (p : List Byte) (v : Fin 8) (l : List Nat) : GuestSlot :=
  { node := src, migId := BitVec.ofNat 16 (natBE (p.take 2)), vi := v
    head := ⟨((p[2]?).getD 0).toNat % 4, by omega⟩
    word := #v[wordAt p 3, wordAt p 7, wordAt p 11, wordAt p 15], size := (wordAt p 19).toNat
    data := [], nextFrame := 0
    reserved := l, external := u.silt.external, handle := none }

theorem migOffer_accepted (hlen : p.length = 25) {v : Fin 8} {g : Fin 4} {l : List Nat} {q : State}
    (hj : u.judged p = .inr (v, g, l, q)) : exec (.migOffer src seq dst p) s = .next ((q.onLink fun x => { x with
      guest := x.guest.set g (some (takenSlot u src p v l))
      peer := vmod x.peer src fun p => { p with acceptedAt := some u.now } }).sendResult src
        (BitVec.ofNat 16 (natBE (p.take 2))) 1 g.val 0 0) := by
  refine congrArg Host.Outcome.next ((if_pos ⟨congrArg Prod.fst ht, hlen⟩).trans ?_)
  rw [ht]
  unfold State.judged at hj
  dsimp only [wordAt] at hj ⊢
  rw [hj] <;> rfl

theorem migData_gathers (hlen : 4 ≤ p.length) {g : Fin 4} {x : GuestSlot}
    (hg : u.guestOf src (BitVec.ofNat 16 (natBE (p.take 2))) = some (g, x)) (hhandle : x.handle = none)
    (hframe : natBE ((p.drop 2).take 2) = x.nextFrame % 65536) (hmore : (x.data ++ p.drop 4).length < x.size) :
    exec (.migData src seq dst p) s = .next (u.onLink fun l => { l with
      guest := l.guest.set g (some { x with data := x.data ++ p.drop 4, nextFrame := x.nextFrame + 1 }) }) := by
  refine congrArg Host.Outcome.next ((if_pos ⟨congrArg Prod.fst ht, hlen⟩).trans ?_)
  rw [ht]
  dsimp only
  rw [hg]
  exact (if_pos ⟨by rw [hhandle]; rfl, hframe⟩).trans (if_neg (Nat.not_le.mpr hmore))

section
variable (hlen : p.length = 2)
include hlen

theorem revoke_unknown (hg : u.guestOf src (BitVec.ofNat 16 (natBE p)) = none) :
    exec (.revoke src seq dst p) s = .next (u.sendResult src (BitVec.ofNat 16 (natBE p)) 6 0 0 0) := by
  refine congrArg Host.Outcome.next ((if_pos ⟨congrArg Prod.fst ht, hlen⟩).trans ?_)
  rw [ht]
  dsimp only
  rw [hg]

theorem revoke_gathering {g : Fin 4} {x : GuestSlot} (hg : u.guestOf src (BitVec.ofNat 16 (natBE p)) = some (g, x))
    (hhandle : x.handle = none) : exec (.revoke src seq dst p) s
      = .next ((u.freeGuest g).sendResult src (BitVec.ofNat 16 (natBE p)) 6 0 0 0) := by
  refine congrArg Host.Outcome.next ((if_pos ⟨congrArg Prod.fst ht, hlen⟩).trans ?_)
  rw [ht]
  dsimp only
  rw [hg]
  dsimp only
  rw [hhandle]

theorem revoke_too_late {g : Fin 4} {x : GuestSlot} {i : Handle}
    (hg : u.guestOf src (BitVec.ofNat 16 (natBE p)) = some (g, x)) (hhandle : x.handle = some i)
    (hjob : (u.job ⟨x.vi, i⟩).state ≠ .ready) : exec (.revoke src seq dst p) s
      = .next (u.sendResult src (BitVec.ofNat 16 (natBE p)) 7 0 0 0) := by
  refine congrArg Host.Outcome.next ((if_pos ⟨congrArg Prod.fst ht, hlen⟩).trans ?_)
  rw [ht]
  dsimp only
  rw [hg]
  dsimp only
  rw [hhandle]
  exact if_neg hjob

end

end

/-- A transfer that does not go on is given up: its slot is free and the peer is told (R965). -/
theorem transferTimeout_abandons {s : State} {g : Fin 4} {x : GuestSlot} (hx : s.link.guest[g] = some x)
    (hhandle : x.handle = none) : exec (.transferTimeout g) s
      = .next ((s.freeGuest g).sendResult x.node x.migId 8 0 0 0) := by
  refine congrArg Host.Outcome.next ?_
  rw [hx]
  exact if_pos (by rw [hhandle]; rfl)

/-- Settles O56: a frame taken is judged by the slot it names; a slot given back changes the store and the link alone.
-/
theorem guestsArrive : Obligations.GuestsArrive := by
  unfold Obligations.GuestsArrive
  refine ⟨fun s u src seq dst p ht => ?_, fun s g x hx hhandle => ⟨_, transferTimeout_abandons hx hhandle, ?_⟩⟩
  · intro at4 id judged
    refine ⟨fun d hlen hd => migOffer_refused ht hlen hd,
      fun v g l q hlen hj => ⟨_, migOffer_accepted ht hlen hj, ?_⟩,
      fun g x hlen hg hhandle hframe hmore => migData_gathers ht hlen hg hhandle hframe hmore,
      fun hlen => ⟨revoke_unknown ht hlen, fun g x hg hhandle => revoke_gathering ht hlen hg hhandle,
        fun g x i hg hhandle hjob => revoke_too_late ht hlen hg hhandle hjob⟩⟩
    obtain ⟨hguest, hpeer, hrest⟩ := sendResult_guest (q.onLink fun x => { x with
      guest := x.guest.set g (some (takenSlot u src p v l))
      peer := vmod x.peer src fun p => { p with acceptedAt := some u.now } }) src
        (BitVec.ofNat 16 (natBE (p.take 2))) 1 g.val 0 0
    have hslot : (q.link.guest.set g (some (takenSlot u src p v l)))[g] = some (takenSlot u src p v l) :=
      Vector.getElem_set_self _
    refine ⟨?_, ?_, ?_, hrest⟩
    · rw [hguest]
      exact congrArg (Option.map _) hslot
    · rw [hguest]
      exact congrArg (Option.map _) hslot
    · rw [hpeer]
      exact congrArg Peer.acceptedAt (vmod_self _ _ _)
  · obtain ⟨hguest, -, hrest⟩ := sendResult_guest (s.freeGuest g) x.node x.migId 8 0 0 0
    have hfree := freeGuest_frees hx
    have hslot : (s.freeGuest g).link.guest[g] = none := by
      rw [hfree]
      exact Vector.getElem_set_self _
    rw [hguest]
    refine ⟨hslot, ?_⟩
    rw [hrest, hfree]
    exact ⟨rfl, rfl, rfl, rfl⟩

end Sys2Proof
end

section
/-! PROOFS. Scans of a head's dots, and the lanes of its data (08_head_ports R464 to R468, R485 to R496; 09_energy R534
to R536): towards statement O32. -/

namespace Sys2Proof

open Machine

/-! ### The lanes of head data (R464 to R470) -/

/-- A lane not in use stays low. -/
theorem laneLevel_unused (s : State) (h : Fin 4) (plane : Nat → Bool) {lane : Nat} (i : Nat)
    (hlane : s.lanes h ≤ lane) : s.laneLevel h plane lane i = false := by
  simp [State.laneLevel, Nat.not_lt.mpr hlane]

/-- The clock at which a place of a lane is shifted: the order of shifting is its own inverse. -/
theorem shiftPos_shiftPos (s : State) (h : Fin 4) {i : Nat} (hi : i < s.laneDots h) :
    s.shiftPos h i < s.laneDots h ∧ s.shiftPos h (s.shiftPos h i) = i := by
  unfold State.shiftPos
  split
  · exact ⟨hi, rfl⟩
  · omega

/-- Every head dot is shifted on one lane, a masked one as 0. -/
theorem laneLevel_of_dot (s : State) (h : Fin 4) (plane : Nat → Bool) {hd : Nat}
    (hhd : hd < s.laneDots h * s.lanes h) : ∃ lane i, lane < s.lanes h ∧ i < s.laneDots h
      ∧ s.laneLevel h plane lane i = (plane hd && !s.masked h hd) := by
  have hpos : 0 < s.laneDots h := Nat.pos_of_ne_zero fun h0 => by simp [h0] at hhd
  have hlane : hd / s.laneDots h < s.lanes h := Nat.div_lt_of_lt_mul hhd
  obtain ⟨hi, hback⟩ := shiftPos_shiftPos s h (Nat.mod_lt hd hpos)
  refine ⟨hd / s.laneDots h, s.shiftPos h (hd % s.laneDots h), hlane, hi, ?_⟩
  have hdot : hd / s.laneDots h * s.laneDots h + s.shiftPos h (s.shiftPos h (hd % s.laneDots h)) = hd := by
    rw [hback, Nat.div_add_mod']
  simp only [State.laneLevel, hlane, hi, hdot, decide_true, Bool.true_and]
  exact Bool.and_comm _ _

/-! ### The dots that a scan takes (R489) -/

theorem hPar_congr {s t : State} (hpar : t.par = s.par) (h : Fin 4) (off : Nat) : t.hPar h off = s.hPar h off := by
  simp only [State.hPar, State.parG, State.parAt_eq, hpar]

theorem scanFrom_congr {s t : State} {h : Fin 4} {d : Nat} (hpar : t.par = s.par)
    (hdot : ∀ k, d ≤ k → t.paper.head[h].dot k = s.paper.head[h].dot k) : t.scanFrom h d = s.scanFrom h d := by
  have hscans (k : Nat) (hk : d ≤ k) : t.scans h k = s.scans h k := by
    simp only [State.scans, State.masked, hPar_congr hpar, hdot k hk]
  simp only [State.scanFrom, State.dots, hPar_congr hpar]
  refine List.find?_congr fun k hk => ?_
  obtain ⟨i, -, rfl⟩ := List.mem_map.mp hk
  exact hscans _ (Nat.le_add_right d i)

section
variable {s : State} {h : Fin 4}

theorem scanStart_begins {i : BitVec 17} (hst : s.paper.head[h].state = .inService) (hidle : s.headIdle h = true)
    (hreq : s.paper.head[h].scanReq = true) (hdot : s.paper.head[h].scanDot = none)
    (hnot : s.paper.head[h].scanning = false) (hrest : s.paper.axis[s.paperAxis h].atRest = true)
    (hpast : s.pwr.pastStage 2 = false) : exec (.scanStart h i) s
      = .next (s.senseAborts.onHead h fun y => { y with
        scanning := true, scanReq := true, scanDot := s.scanFrom h 0, baseline := s.scanCurrent h i.toNat }) := by
  refine congrArg Host.Outcome.next ((if_pos ⟨?_, by rw [hnot]; rfl⟩).trans ?_)
  · rw [hdot]
  · rw [hst, hrest, hpast]
    dsimp only
    rw [hidle, hreq]
    rfl

/-! ### A dot of a scan (R489 to R494) -/

variable (v i : BitVec 17) (hscan : s.paper.head[h].scanning = true)
include hscan

section
variable {d n : Nat} (hdot : s.paper.head[h].scanDot = some d) (hnext : s.scanFrom h (d + 1) = some n)
include hdot hnext

/-- A dot that a scan no longer measures is passed over (R511). -/
theorem scanDot_passes (hnot : s.scans h d = false) :
    exec (.scanDot h v i) s = .next (s.onHead h fun y => { y with scanDot := some n }) := by
  refine congrArg Host.Outcome.next ?_
  rw [hdot]
  refine (if_neg (by rw [hscan]; exact Bool.false_ne_true)).trans ((if_pos (by rw [hnot]; rfl)).trans ?_)
  unfold State.scanOn
  rw [hnext]

end

/-! ### The end of a scan (R488, R496) -/

section
variable (hdot : s.paper.head[h].scanDot = none)
include hdot

theorem scanDot_completes : exec (.scanDot h v i) s = .next (s.scanComplete h) := by
  refine congrArg Host.Outcome.next ?_
  rw [hdot]
  exact if_pos hscan

end

end

/-- The head and its model as a scan ends. -/
def Machine.State.scanned (s : State) (h : Fin 4) : State :=
  (s.onHead h fun x => { x with
    scanning := false, scanReq := false, scanDot := none, scanDoneAt := some s.now, lastScan := x.dots }).onEnergy
      h fun e => { e with iIdle := s.paper.head[h].baseline }

theorem scanned_head (s : State) (h : Fin 4) : (s.scanned h).paper.head[h] = { s.paper.head[h] with
    scanning := false, scanReq := false, scanDot := none, scanDoneAt := some s.now
    lastScan := s.paper.head[h].dots } := vmod_self _ _ _

/-- The end of a scan, told (R488). -/
theorem scanComplete_cases (s : State) (h : Fin 4) : ∃ u, Reports (s.scanned h) u
    ∧ s.scanComplete h = if s.paper.head[h].state = .powering then
        if s.paper.head[h].badDots ≤ (s.hPar h 0x15).toNat then u.setHead h .inService .none else u.headOutOf h .dots
      else u := by
  have hrep := State.raise0_reports (s.scanned h) 0x51 (byteOf h.val)
    (BitVec.ofNat 16 (s.scanned h).paper.head[h].badDots)
  refine ⟨_, hrep, ?_⟩
  generalize hu : (s.scanned h).raise0 0x51 (byteOf h.val) (BitVec.ofNat 16 (s.scanned h).paper.head[h].badDots) = u
    at hrep
  have heq : s.scanComplete h = if u.paper.head[h].state = .powering then
      if u.paper.head[h].badDots ≤ (u.hPar h 0x15).toNat then u.setHead h .inService .none else u.headOutOf h .dots
    else u := by
    rw [← hu]
    rfl
  rw [heq, hrep.paper, scanned_head, hPar_congr (s := s) hrep.par]
  rfl

theorem scanDot_ends {s : State} {h : Fin 4} (v i : BitVec 17) (hscan : s.paper.head[h].scanning = true)
    (hdot : s.paper.head[h].scanDot = none) (hst : s.paper.head[h].state = .inService) :
    Answers (.scanDot h v i) s fun t => t.paper.head[h].scanDoneAt = some s.now
      ∧ t.paper.head[h].lastScan = s.paper.head[h].dots ∧ t.paper.head[h].scanning = false
      ∧ t.paper.energy[h].iIdle = s.paper.head[h].baseline ∧ t.paper.axis = s.paper.axis ∧ t.vi = s.vi := by
  obtain ⟨u, hu, heq⟩ := scanComplete_cases s h
  have heq' : s.scanComplete h = u := heq.trans (if_neg (by rw [hst]; decide))
  refine ⟨u, (scanDot_completes v i hscan hdot).trans (congrArg Host.Outcome.next heq'), ?_⟩
  have henergy : (s.scanned h).paper.energy[h].iIdle = s.paper.head[h].baseline :=
    congrArg Energy.iIdle (vmod_self _ _ _)
  dsimp only
  rw [hu.paper, hu.vi, scanned_head]
  exact ⟨rfl, rfl, rfl, henergy, rfl, rfl⟩

/-- A scan that leaves few enough bad dots puts a POWERING head into service (R496). -/
theorem scanDot_powers {s : State} {h : Fin 4} (v i : BitVec 17) (hscan : s.paper.head[h].scanning = true)
    (hdot : s.paper.head[h].scanDot = none) (hst : s.paper.head[h].state = .powering)
    (hfew : s.paper.head[h].badDots ≤ (s.hPar h 0x15).toNat) :
    Answers (.scanDot h v i) s fun t => HeadGoes h .inService .none s t := by
  obtain ⟨u, hu, heq⟩ := scanComplete_cases s h
  have heq' : s.scanComplete h = u.setHead h .inService .none := heq.trans ((if_pos hst).trans (if_pos hfew))
  refine ⟨_, (scanDot_completes v i hscan hdot).trans (congrArg Host.Outcome.next heq'), ?_⟩
  exact (u.setHead_goes h .inService .none).before (((State.onHead_alone s h _).trans
    (State.onEnergy_alone _ h h _)).trans (HeadAlone.of_reports hu h))

/-! ### A dot measured (R489 to R494, R534) -/

/-- The mean voltage and the rise of the current that a pulse gives (R490). -/
def Machine.State.pulseMv (s : State) (h : Fin 4) (v : BitVec 17) : Rat :=
  (v.toNat : Rat) / s.scanSamples h * (s.hPar h 8).toNat / 4096

def Machine.State.pulseRise (s : State) (h : Fin 4) (i : BitVec 17) : Rat :=
  s.scanCurrent h i.toNat - s.paper.head[h].baseline

/-- The class that the codes of a pulse give, and the dot with its resistance. -/
def Machine.State.pulseClass (s : State) (h : Fin 4) (v i : BitVec 17) : DotClass :=
  classify (bits (s.hPar h 0x11) 0 16) (bits (s.hPar h 0x11) 16 16) (s.pulseMv h v / s.pulseRise h i)
    (s.pulseRise h i) (s.scanStep h)

def Machine.State.pulseDot (s : State) (h : Fin 4) (v i : BitVec 17) : Dot :=
  { cls := s.pulseClass h v i
    r := if s.pulseClass h v i = .open then 0xFFFF
      else BitVec.ofNat 16 (sat (roundHalfUp (16 * (s.pulseMv h v / s.pulseRise h i))).toNat 65535) }

/-- The energy of a pulse waits for its tick (R534). -/
def Machine.State.pulseAdded (s : State) (h : Fin 4) (v i : BitVec 17) (d : Nat) (e : Energy) : Energy :=
  { e with slots := e.slots ++ [{
      slot := 0, group := s.groupOf h d, start := s.now - s.scanWidth h, width := s.scanWidth h, cut := false
      energy := s.pulseEnergy h d (s.pulseMv h v) (s.pulseRise h i) }] }

/-- After a dot a head in service with too many bad ones goes OUT; else the scan goes on (R494). -/
def Machine.State.afterDot (s : State) (h : Fin 4) (d : Nat) : State :=
  if s.paper.head[h].state = .inService ∧ (s.hPar h 0x15).toNat < s.paper.head[h].badDots then s.headOutOf h .dots
  else s.scanOn h (d + 1)

/-- A head's dot is as a pulse gives it, with the mean of its dots anew. -/
def Machine.Head.measured (x : Head) (d : Nat) (y : Dot) : Head :=
  let z := { x with dots := sparsePut d y x.dots }
  { z with rAvg := z.meanR }

theorem Machine.Head.measured_dot (x : Head) (d : Nat) (y : Dot) :
    (x.measured d y).dot d = y ∧ ∀ k, k ≠ d → (x.measured d y).dot k = x.dot k := by
  refine ⟨?_, fun k hk => ?_⟩
  · exact congrArg (fun o : Option Dot => o.getD { cls := .unmeasured, r := 0 }) (sparseFind_put_self _ _ _)
  · exact congrArg (fun o : Option Dot => o.getD { cls := .unmeasured, r := 0 }) (sparseFind_put_other _ _ _ _ hk)

section
variable {s : State} {h : Fin 4} (v i : BitVec 17) {d n : Nat} (hscan : s.paper.head[h].scanning = true)
  (hdot : s.paper.head[h].scanDot = some d) (htakes : s.scans h d = true) (hkeep : bit (s.hPar h 0) 9 = false)
include hscan hdot htakes hkeep

theorem scanDot_measures : ∃ u, Reports (s.senseAborts.onHead h fun x => x.measured d (s.pulseDot h v i)) u
    ∧ exec (.scanDot h v i) s = .next ((u.onEnergy h (s.pulseAdded h v i d)).afterDot h d) := by
  have hmask (c : DotClass) : ¬ ((c = .open ∨ c = .short) ∧ (s.paper.head[h].dot d).cls ≠ c
      ∧ bit (s.hPar h 0) 9 = true) := fun k => Bool.false_ne_true (hkeep.symm.trans k.2.2)
  refine ⟨_, Reports.of_ite (c := (s.paper.head[h].dot d).cls ≠ s.pulseClass h v i ∧ s.pulseClass h v i ≠ .ok)
    (State.raise0_reports _ 0x52 (byteOf (h.val + 16 * (s.pulseClass h v i).code)) (BitVec.ofNat 16 d)),
    congrArg Host.Outcome.next ?_⟩
  rw [hdot]
  refine (if_neg (by rw [hscan]; exact Bool.false_ne_true)).trans
    ((if_neg (by rw [htakes]; exact Bool.false_ne_true)).trans ?_)
  exact congrArg (fun u : State => (u.onEnergy h (s.pulseAdded h v i d)).afterDot h d)
    (if_neg (hmask (s.pulseClass h v i)))

variable (hst : s.paper.head[h].state = .powering) (hnext : s.scanFrom h (d + 1) = some n)
include hst hnext

theorem scanDot_goes_on : Answers (.scanDot h v i) s fun t =>
    (t.paper.head[h].dot d).cls = s.pulseClass h v i ∧ t.paper.head[h].scanDot = some n
      ∧ t.paper.head[h].scanning = true ∧ t.paper.head[h].state = .powering ∧ t.paper.axis = s.paper.axis
      ∧ t.par = s.par ∧ t.vi = s.vi := by
  obtain ⟨u, hu, hexec⟩ := scanDot_measures v i hscan hdot htakes hkeep
  have hself : u.paper.head[h] = (s.paper.head[h]).measured d (s.pulseDot h v i) := by
    rw [hu.paper]
    exact vmod_self _ _ _
  obtain ⟨hd, hothers⟩ := (s.paper.head[h]).measured_dot d (s.pulseDot h v i)
  have hfrom : (u.onEnergy h (s.pulseAdded h v i d)).scanFrom h (d + 1) = some n := by
    refine (scanFrom_congr (s := s) hu.par fun k hk => ?_).trans hnext
    exact (congrArg (fun x : Head => x.dot k) hself).trans (hothers k (Nat.ne_of_gt hk))
  have hpowering : ¬ (u.paper.head[h].state = .inService
      ∧ ((u.onEnergy h (s.pulseAdded h v i d)).hPar h 0x15).toNat < u.paper.head[h].badDots) := by
    rw [hself, show ((s.paper.head[h]).measured d (s.pulseDot h v i)).state = .powering from hst]
    exact fun k => HeadState.noConfusion k.1
  have hafter : (u.onEnergy h (s.pulseAdded h v i d)).afterDot h d
      = (u.onEnergy h (s.pulseAdded h v i d)).onHead h fun x => { x with scanDot := some n } := by
    refine (if_neg hpowering).trans ?_
    unfold State.scanOn
    rw [hfrom]
  refine ⟨_, hexec.trans (congrArg Host.Outcome.next hafter), ?_⟩
  have hhead : ((u.onEnergy h (s.pulseAdded h v i d)).onHead h fun x => { x with scanDot := some n }).paper.head[h]
      = { (s.paper.head[h]).measured d (s.pulseDot h v i) with scanDot := some n } :=
    (vmod_self _ _ _).trans (congrArg (fun x : Head => { x with scanDot := some n }) hself)
  dsimp only
  rw [hhead]
  exact ⟨congrArg Dot.cls hd, rfl, hscan, hst, congrArg (fun p => p.axis) hu.paper, hu.par, hu.vi⟩

end

end Sys2Proof
end

section
/-! PROOFS. The accounts of jobs leave the paper paths alone, and a head that goes OUT with a job on its path ends that
job's run (05_loam R318 to R322; 08_head_ports R496). -/

namespace Sys2Proof

open Machine

namespace Machine

@[simp] theorem State.paper_ite (c : Prop) [Decidable c] (s t : State) :
    (if c then s else t).paper = if c then s.paper else t.paper := apply_ite State.paper c s t

theorem SiltAlone.paper {s t : State} (h : SiltAlone s t) : t.paper = s.paper := by rw [h]

/-! ### Pages and faults -/

theorem State.unpinFrame_alone (s : State) (f : Nat) (who : Fin 5) : SiltAlone s (s.unpinFrame f who) := by
  unfold State.unpinFrame
  cases sparseFind f s.silt.frames with
  | none => exact .refl s
  | some x =>
    dsimp only
    split
    · split
      · exact s.putFrame_alone _ _
      · cases x.use with
        | detached p => exact s.freeFrame_alone f
        | page p => exact s.putFrame_alone _ _
        | store u => exact s.putFrame_alone _ _
    · exact .refl s

theorem State.unpinWhere_alone (s : State) (v : Fin 8) (who : Fin 5) (t : Nat → Bool) :
    SiltAlone s (s.unpinWhere v who t) := by
  refine SiltAlone.foldl (fun u e => ?_) _ s
  have hpage (p : Nat) : SiltAlone u (if t p then u.unpinFrame e.1 who else u) := by
    split
    · exact u.unpinFrame_alone _ _
    · exact .refl u
  cases e.2.use with
  | page p => exact hpage p
  | detached p => exact hpage p
  | store m => exact .refl u

theorem State.pinPage_alone (s : State) (v : Fin 8) (p : Nat) (who : Fin 5) : SiltAlone s (s.pinPage v p who) := by
  unfold State.pinPage
  cases s.frameOfPage v p with
  | none => exact .refl s
  | some e => exact s.putFrame_alone _ _

@[simp] theorem State.raiseFault_paper (s : State) (v : Fin 8) (p : Nat) (cls : FaultClass) :
    (s.raiseFault v p cls).paper = s.paper := rfl

/-! ### The end of a job -/

@[simp] theorem State.charge_paper (s : State) (v : Fin 8) (h : Fin 4) (t : Nat) (surplus : Bool) :
    (s.charge v h t surplus).paper = s.paper := by
  unfold State.charge
  rw [State.onVi_paper, s.accrue_refreshed.frame]

@[simp] theorem State.breakChain_paper (s : State) (j : JobRef) : (s.breakChain j).paper = s.paper := by
  unfold State.breakChain
  dsimp only
  cases (s.job j).chain with
  | none => rfl
  | some c =>
    dsimp only
    split
    · rfl
    · refine (foldl_keeps State.paper (fun u e => ?_) _ _).trans rfl
      rfl

@[simp] theorem State.chainOver_paper (s : State) (h : Fin 4) : (s.chainOver h).paper = s.paper := by
  unfold State.chainOver
  cases s.loam.head[h].chain with
  | none => rfl
  | some c =>
    dsimp only
    split
    · rfl
    · rfl

@[simp] theorem State.endGuest_paper (s : State) (j : JobRef) (ok : Bool) (result headTime amount : Nat) :
    (s.endGuest j ok result headTime amount).paper = s.paper := by
  unfold State.endGuest
  cases (s.job j).guest with
  | none => rfl
  | some g =>
    dsimp only
    rw [State.onLink_paper, (State.dropBands_alone _ _ _ _).paper, (sendResult_guest s _ _ _ _ _ _).2.2]

@[simp] theorem State.queueSpace_paper (s : State) (v : Fin 8) : (s.queueSpace v).paper = s.paper := by
  unfold State.queueSpace
  cases s.vi[v].queueFull with
  | none => rfl
  | some h =>
    dsimp only
    split
    · exact State.raiseVi_paper _ _ _ _ _
    · rfl

@[simp] theorem State.finishOne_paper (s : State) (j : JobRef) (st : JobState) (result amount : Nat) :
    (s.finishOne j st result amount).paper = s.paper := by simp [State.finishOne]

@[simp] theorem State.fencesDone_paper (s : State) (v : Fin 8) : (s.fencesDone v).paper = s.paper := by
  refine foldl_keeps State.paper (fun u e => ?_) _ _
  dsimp only
  split
  · rw [State.queueSpace_paper, State.finishOne_paper]
  · rfl

@[simp] theorem State.endJob_paper (s : State) (j : JobRef) (st : JobState) (result amount : Nat) :
    (s.endJob j st result amount).paper = s.paper := by
  unfold State.endJob
  dsimp only
  rw [State.queueSpace_paper, State.fencesDone_paper, State.chainOver_paper,
    foldl_keeps State.paper fun u e => State.finishOne_paper _ _ _ _ _]
  simp

/-! ### A run ends -/

/-- The heads and the runs of the paper paths. -/
def Paths (s t : State) : Prop := t.paper.head = s.paper.head ∧ t.paper.run = s.paper.run

theorem Paths.trans {s t u : State} (h : Paths s t) (k : Paths t u) : Paths s u :=
  ⟨k.1.trans h.1, k.2.trans h.2⟩

theorem Paths.of_paper {s t : State} (h : t.paper = s.paper) : Paths s t := by
  unfold Paths
  rw [h]
  exact ⟨rfl, rfl⟩

theorem State.setAxis_paths (s : State) (a : Fin 4) (st : AxisState) : Paths s (s.setAxis a st) := by
  unfold State.setAxis
  split
  · exact ⟨rfl, rfl⟩
  · exact Paths.trans (t := s.onAxis a _) ⟨rfl, rfl⟩ (.of_paper (State.raise0_paper _ _ _ _))

theorem State.onAxis_setAxis_paths (s : State) (a : Fin 4) (f : Axis → Axis) (st : AxisState) :
    Paths s ((s.onAxis a f).setAxis a st) := Paths.trans (t := s.onAxis a f) ⟨rfl, rfl⟩ (State.setAxis_paths _ _ _)

theorem State.rampStop_paths (s : State) (a : Fin 4) : Paths s (s.rampStop a) := by
  have hdrop : Paths s (s.onAxis a fun x => x.dropQueued (s.paper.axis[a].move.map fun m => m.owner)) := ⟨rfl, rfl⟩
  unfold State.rampStop
  dsimp only
  cases s.paper.axis[a].state with
  | moving =>
    have hstopping := hdrop.trans (State.onAxis_setAxis_paths _ a
      (fun x => { x with stopAt := some (s.aPar a 4 : Rat) }) .stopping)
    dsimp only
    split
    · exact hstopping.trans (State.onAxis_setAxis_paths _ a Axis.stopped .idle)
    · exact hstopping
  | stopping => exact ⟨rfl, rfl⟩
  | off => exact hdrop
  | idle => exact hdrop
  | fault => exact hdrop

theorem State.stopMoves_paths (s : State) (h : Fin 4) (r : Run) : Paths s (s.stopMoves h r) := by
  unfold State.stopMoves
  dsimp only
  split
  · exact s.rampStop_paths _
  · split
    · exact ⟨rfl, rfl⟩
    · exact ⟨rfl, rfl⟩

/-- A head that is OUT, with its cause. -/
def IsOut (h : Fin 4) (cause : OutCause) (s : State) : Prop :=
  s.paper.head[h].state = .out ∧ s.paper.head[h].cause = cause

theorem IsOut.of_head {h : Fin 4} {cause : OutCause} {s t : State} (k : IsOut h cause s)
    (hhead : t.paper.head = s.paper.head) : IsOut h cause t := by
  unfold IsOut at *
  rw [hhead]
  exact k

theorem IsOut.of_vmod {h : Fin 4} {cause : OutCause} {s t : State} (k : IsOut h cause s) {f : Head → Head}
    (hhead : t.paper.head = vmod s.paper.head h f) (hst : ∀ x, (f x).state = x.state)
    (hcause : ∀ x, (f x).cause = x.cause) : IsOut h cause t := by
  unfold IsOut
  rw [hhead, vmod_self, hst, hcause]
  exact k

theorem IsOut.endStrobes {h : Fin 4} {cause : OutCause} {s : State} (k : IsOut h cause s) (t : Rat) (atOnce : Bool) :
    IsOut h cause (s.endStrobes h t atOnce) := by
  obtain ⟨⟨n, hn⟩, -, -⟩ := s.endStrobes_spec h t atOnce
  exact k.of_vmod hn (fun _ => rfl) fun _ => rfl

theorem State.settleDisable_of_out {h : Fin 4} {cause : OutCause} {s : State} (k : IsOut h cause s) :
    s.settleDisable h = s := if_neg fun hd => by
  rw [k.1] at hd
  exact HeadState.noConfusion hd.2.1

theorem State.endRun_out {s : State} {h : Fin 4} {cause : OutCause} {r : Run} (hr : s.paper.run[h] = some r)
    (k : IsOut h cause s) (st : JobState) (result amount : Nat) :
    IsOut h cause (s.endRun h st result amount) ∧ (s.endRun h st result amount).paper.run[h] = none := by
  obtain ⟨u, hout, hnone, heq⟩ : ∃ u, IsOut h cause u ∧ u.paper.run[h] = none
      ∧ s.endRun h st result amount = (u.endJob r.job st result amount).settleDisable h := by
    unfold State.endRun
    rw [hr]
    have hpaper := congrArg (fun p => p.head) (s.unpinWhere_alone r.job.vi (fetcherPin h) fun _ => true).paper
    refine ⟨_, ?_, ?_, rfl⟩
    · exact (IsOut.of_head k hpaper).of_vmod (f := fun x => { x with field := none }) rfl (fun _ => rfl) fun _ => rfl
    · exact vmod_self _ _ _
  have hout' : IsOut h cause (u.endJob r.job st result amount) := hout.of_head (by rw [State.endJob_paper])
  rw [heq, State.settleDisable_of_out hout', State.endJob_paper]
  exact ⟨hout', hnone⟩

/-- A job on the path of a head that is OUT is stopped: the head has no run (R318). -/
theorem State.stopJobAt_out {s : State} {h : Fin 4} {cause : OutCause} {r : Run} (hr : s.paper.run[h] = some r)
    (k : IsOut h cause s) (t : Rat) :
    IsOut h cause (s.stopJobAt h t .failed 6) ∧ (s.stopJobAt h t .failed 6).paper.run[h] = none := by
  obtain ⟨u, amount, hu, hrun, heq⟩ : ∃ u amount, IsOut h cause u ∧ u.paper.run[h] = some r
      ∧ s.stopJobAt h t .failed 6 = u.endRun h .failed 6 amount := by
    have hw : IsOut h cause (s.endStrobes h t false) := k.endStrobes t false
    have hwr : (s.endStrobes h t false).paper.run[h] = some r := hr
    have hstop := (s.endStrobes h t false).stopMoves_paths h r
    have hstop' : Paths (s.endStrobes h t false) (((s.endStrobes h t false).stopMoves h r).onMedia h fun m =>
        { m with seek := if (r.phase = .tof || r.phase = .tofCut) || r.phase = .tail then none else m.seek }) := hstop
    generalize hv : State.onMedia _ h _ = v at hstop'
    have hpurge (o : Option Purge) : Paths v (match o with
        | some p => v.onLoamHead h fun l => { l with purge := some p, purging := false, purgeCut := false }
        | none => v) := by
      cases o with
      | none => exact ⟨rfl, rfl⟩
      | some p => exact ⟨rfl, rfl⟩
    have hall := hstop'.trans (hpurge ((s.endStrobes h t false).stoppedPage h r))
    refine ⟨_, (s.endStrobes h t false).runAmount h r, hw.of_head hall.1,
      (congrArg (fun p => p[h]) hall.2).trans hwr, ?_⟩
    unfold State.stopJobAt
    rw [hr, ← hv]
    have hkeep : ¬ JobState.failed = .cancelled := by decide
    dsimp only
    rw [if_neg hkeep, if_neg fun k => hkeep k.2] <;> rfl
  rw [heq]
  exact State.endRun_out hrun hu _ _ _

/-- A head that goes OUT ends the run on its path (R496, R318). -/
theorem State.headOutAt_out {s : State} {h : Fin 4} {r : Run} (hr : s.paper.run[h] = some r) (t : Rat)
    (cause : OutCause) :
    IsOut h cause (s.headOutAt h t cause) ∧ (s.headOutAt h t cause).paper.run[h] = none := by
  obtain ⟨hst, hcause, -, -, -, -, hrun, -⟩ := s.setHead_goes h .out cause
  have hout : IsOut h cause (s.setHead h .out cause) := ⟨hst, hcause⟩
  refine State.stopJobAt_out (r := r) ?_ (hout.endStrobes t _) t
  exact (congrArg (fun v => v[h]) hrun).trans hr

end Machine

end Sys2Proof
end

section
/-! PROOFS. Lines are granted, burnt, paused, fetched and held (06_silt R391 to R394, R1106; 08_head_ports R467 to R475,
R496; 09_energy R512 to R553): statement O32. -/

namespace Sys2Proof

open Machine

namespace Machine

/-! ### The pages of a path, and what follows a line's start -/

/-- Of a run, what a line's bookkeeping counts. -/
def Run.SameLine (r q : Run) : Prop := q.job = r.job ∧ q.line = r.line ∧ q.burnt = r.burnt ∧ q.paused = r.paused

/-- The run of head h goes on at its line, and no energy is given. -/
structure LineStays (h : Fin 4) (s t : State) : Prop where
  run : ∀ r, s.paper.run[h] = some r → ∃ q, t.paper.run[h] = some q ∧ r.SameLine q
  energy : t.paper.energy = s.paper.energy

theorem LineStays.of_paper {h : Fin 4} {s t : State} (hp : t.paper = s.paper) : LineStays h s t :=
  ⟨fun r hr => ⟨r, by rw [hp, hr], rfl, rfl, rfl, rfl⟩, by rw [hp]⟩

theorem LineStays.trans {h : Fin 4} {s t u : State} (a : LineStays h s t) (b : LineStays h t u) : LineStays h s u := by
  refine ⟨fun r hr => ?_, b.energy.trans a.energy⟩
  obtain ⟨q, hq, h1, h2, h3, h4⟩ := a.run r hr
  obtain ⟨w, hw, k1, k2, k3, k4⟩ := b.run q hq
  exact ⟨w, hw, k1.trans h1, k2.trans h2, k3.trans h3, k4.trans h4⟩

/-- A run that changes in what is not counted. -/
theorem LineStays.onRun (s : State) (h : Fin 4) {f : Run → Run} (hf : ∀ r : Run, r.SameLine (f r)) :
    LineStays h s (s.onRun h fun o => o.map f) := by
  refine ⟨fun r hr => ⟨f r, ?_, hf r⟩, rfl⟩
  exact (vmod_self _ _ _).trans (congrArg (Option.map f) hr)

theorem LineStays.onAxis (h : Fin 4) (s : State) (a : Fin 4) (f : Axis → Axis) : LineStays h s (s.onAxis a f) :=
  ⟨fun r hr => ⟨r, hr, rfl, rfl, rfl, rfl⟩, rfl⟩

@[simp] theorem State.pinPage_paper (s : State) (v : Fin 8) (p : Nat) (who : Fin 5) :
    (s.pinPage v p who).paper = s.paper := (s.pinPage_alone v p who).paper

theorem State.prefetch_paper (s : State) (h : Fin 4) (r : Run) : (s.prefetch h r).paper = s.paper := by
  have hfault (u : State) (o : Option Nat) : (match o with
      | some p => if u.faultWaits r.job.vi p (fun _ => true) then u else u.raiseFault r.job.vi p (.prefetch h)
      | none => u).paper = u.paper := by
    cases o with
    | none => rfl
    | some p => simp
  unfold State.prefetch
  dsimp only
  cases ((s.job r.job).pages r.line (s.nLook h (s.job r.job))).getLast? with
  | none => rfl
  | some e =>
    cases ((s.job r.job).pages r.line (s.job r.job).lines).getLast? with
    | none => rfl
    | some l =>
      refine foldl_keeps State.paper (fun u k => ?_) _ _
      rw [State.paper_ite]
      exact (ite_congr rfl (fun _ => rfl) fun _ => hfault u _).trans (ite_self _)

theorem State.pinWindow_stays (s : State) (h : Fin 4) (r : Run) : LineStays h s (s.pinWindow h r) := by
  unfold State.pinWindow
  dsimp only
  generalize hu : State.onRun _ h _ = u
  have hpinned : LineStays h s u := by
    rw [← hu]
    exact (LineStays.of_paper (s.unpinWhere_alone _ _ _).paper).trans
      (LineStays.onRun _ h fun _ => ⟨rfl, rfl, rfl, rfl⟩)
  refine hpinned.trans (.of_paper (foldl_keeps State.paper (fun w p => ?_) _ _))
  simp only [State.paper_ite, State.pinPage_paper, State.raiseFault_paper, ite_self]

/-! ### Holds -/

theorem State.raiseHold_stays (s : State) (h : Fin 4) (r : Run) (c : HoldCause) : LineStays h s (s.raiseHold h r c) :=
  .of_paper (State.raiseVi_paper _ _ _ _ _)

theorem State.startHold_stays (s : State) (h : Fin 4) (r : Run) (c : HoldCause) (page line : Nat) :
    LineStays h s (s.startHold h r c page line) := by
  have hheld := (LineStays.onRun s h (f := fun r => { r with
    hold := some { cause := c, page := page, stopLine := line, since := s.now } }) fun _ => ⟨rfl, rfl, rfl, rfl⟩).trans
    (State.raiseHold_stays _ h r c)
  unfold State.startHold
  cases r.origin with
  | none => exact hheld
  | some o => exact hheld.trans (.onAxis h _ _ _)

theorem State.endHold_stays (s : State) (h : Fin 4) (r : Run) (x : Hold) : LineStays h s (s.endHold h r x) :=
  ((LineStays.onRun s h (f := fun r => { r with hold := none }) fun _ => ⟨rfl, rfl, rfl, rfl⟩).trans
    (.onAxis h _ _ _)).trans (.of_paper (State.raiseVi_paper _ _ _ _ _))

theorem State.settleHold_stays (s : State) (h : Fin 4) : LineStays h s (s.settleHold h) := by
  unfold State.settleHold
  cases s.paper.run[h] with
  | none => exact .of_paper rfl
  | some r =>
    dsimp only
    cases r.hold with
    | none =>
      cases s.guard h r with
      | none => exact .of_paper rfl
      | some e => exact s.startHold_stays h r e.1 e.2.1 e.2.2
    | some x =>
      cases s.guard h r with
      | none => exact s.endHold_stays h r x
      | some e =>
        have hheld := LineStays.onRun s h (f := fun r => { r with
          hold := some { x with cause := e.1, page := e.2.1, stopLine := e.2.2 } }) fun _ => ⟨rfl, rfl, rfl, rfl⟩
        dsimp only
        cases r.origin with
        | none => exact hheld
        | some o => exact hheld.trans (.onAxis h _ _ _)

theorem State.refreshHead_stays (s : State) (h : Fin 4) : LineStays h s (s.refreshHead h) := by
  unfold State.refreshHead
  cases s.paper.run[h] with
  | none => exact .of_paper rfl
  | some r =>
    dsimp only
    split
    · exact ((s.pinWindow_stays h r).trans (.of_paper (State.prefetch_paper _ h r))).trans (State.settleHold_stays _ h)
    · exact .of_paper rfl

/-! ### A line is granted or withheld (R512, R513, R549) -/

/-- The base time is published (R512). -/
def State.timed (s : State) (h : Fin 4) : State := s.onEnergy h fun e => { e with tBase := s.baseTime h }

theorem State.timed_energy (s : State) (h : Fin 4) :
    (s.timed h).paper.energy[h] = { s.paper.energy[h] with tBase := s.baseTime h } := vmod_self _ _ _

/-- A line is withheld: its head's supply is too low, or a segment would go beyond the pause limit. -/
def State.withheld (s : State) (h : Fin 4) (r : Run) : Prop :=
  s.vEff h < 1000 ∨ s.tooHot h (s.planLine h r) (s.dotPower h) (s.baseTime h) = true

theorem State.timed_withheld (s : State) (h : Fin 4) (r : Run) : ((s.timed h).vEff h < 1000
    ∨ (s.timed h).tooHot h (s.planLine h r) ((s.timed h).dotPower h) ((s.timed h).baseTime h) = true)
      ↔ s.withheld h r := by
  have hpower : (s.timed h).dotPower h = s.dotPower h := by
    unfold State.dotPower
    rw [s.timed_energy h]
    rfl
  have hhot (p : LinePlan) (power : Rat) (tsp : Nat) : (s.timed h).tooHot h p power tsp = s.tooHot h p power tsp := by
    unfold State.tooHot
    rw [s.timed_energy h]
    rfl
  have hvolts : (s.timed h).vEff h = s.vEff h := rfl
  have htime : (s.timed h).baseTime h = s.baseTime h := by
    unfold State.baseTime
    rw [hvolts]
    rfl
  rw [hpower, hhot, hvolts, htime]
  exact Iff.rfl

/-- What a line withheld leaves: the run paused, the paper standing, and the pause counted. -/
structure Pauses (s : State) (h : Fin 4) (r : Run) (t : State) : Prop where
  run : t.paper.run[h] = some { r with paused := true }
  standing : (t.paper.axis[s.paperAxis h]).standing = true
  pauses : (t.paper.energy[h]).pauses = (s.paper.energy[h]).pauses + 1
  tBase : (t.paper.energy[h]).tBase = s.baseTime h
  head : t.paper.head = s.paper.head
  island : t.island = s.island

/-- The line withheld, before it is told. -/
def State.paused (s : State) (h : Fin 4) (period : Rat) : State :=
  (((s.onEnergy h fun e => { e with pauses := e.pauses + 1, pauseTold := true }).capAdd h 0 0 period).onRun h fun o =>
    o.map fun r => { r with paused := true }).onAxis (s.paperAxis h) fun x => { x with standing := true }

theorem State.pauseLine_reports (s : State) (h : Fin 4) (r : Run) (period : Rat) :
    Reports (s.paused h period) (s.pauseLine h r period) := by
  unfold State.pauseLine
  dsimp only
  split
  · exact Reports.refl _
  · exact (State.raiseVi_reports _ _ _ _ _).trans (State.raise0_reports _ _ _ _)

theorem State.timed_pauses {s : State} {h : Fin 4} {r : Run} (hr : s.paper.run[h] = some r) (period : Rat) :
    Pauses s h r ((s.timed h).pauseLine h r period) := by
  have hrep := State.pauseLine_reports (s.timed h) h r period
  have henergy : ((s.timed h).paused h period).paper.energy[h] = { s.paper.energy[h] with
      tBase := s.baseTime h, pauses := s.paper.energy[h].pauses + 1, pauseTold := true } :=
    (vmod_self _ _ _).trans (congrArg (fun e : Energy => { e with pauses := e.pauses + 1, pauseTold := true })
      (s.timed_energy h))
  have hrun : ((s.timed h).paused h period).paper.run[h] = some { r with paused := true } :=
    (vmod_self _ _ _).trans (congrArg (Option.map fun r => { r with paused := true }) hr)
  have haxis : ((s.timed h).paused h period).paper.axis[s.paperAxis h].standing = true :=
    congrArg Axis.standing (vmod_self _ _ _)
  constructor
  · rw [hrep.paper, hrun]
  · rw [hrep.paper, haxis]
  · rw [hrep.paper, henergy]
  · rw [hrep.paper, henergy]
  · rw [hrep.paper]
    rfl
  · rw [hrep.island]
    simp only [State.paused, State.timed, State.capAdd, State.onAxis_island, State.onRun_island,
      State.onLoamHead_island, State.onEnergy_island]

/-! ### A line is burnt (R512 to R533) -/

/-- Of what a line's start reads, the run, the head's state and supply, the base time and the island stay. -/
structure LineKept (h : Fin 4) (s t : State) : Prop where
  run : t.paper.run[h] = s.paper.run[h]
  state : t.paper.head[h].state = s.paper.head[h].state
  badSupply : t.paper.head[h].badSupply = s.paper.head[h].badSupply
  tBase : t.paper.energy[h].tBase = s.paper.energy[h].tBase
  island : t.island = s.island

theorem LineKept.trans {h : Fin 4} {s t u : State} (a : LineKept h s t) (b : LineKept h t u) : LineKept h s u :=
  ⟨b.run.trans a.run, b.state.trans a.state, b.badSupply.trans a.badSupply, b.tBase.trans a.tBase,
    b.island.trans a.island⟩

theorem LineKept.of_paper {h : Fin 4} {s t : State} (hp : t.paper = s.paper) (hi : t.island = s.island) :
    LineKept h s t := by
  constructor
  · rw [hp]
  · rw [hp]
  · rw [hp]
  · rw [hp]
  · exact hi

theorem LineKept.onEnergy (h : Fin 4) (s : State) {f : Energy → Energy} (hf : ∀ e, (f e).tBase = e.tBase) :
    LineKept h s (s.onEnergy h f) :=
  ⟨rfl, rfl, rfl, (congrArg Energy.tBase (vmod_self s.paper.energy h f)).trans (hf _), rfl⟩

theorem LineKept.onHead (h : Fin 4) (s : State) {f : Head → Head} (hst : ∀ x, (f x).state = x.state)
    (hbad : ∀ x, (f x).badSupply = x.badSupply) : LineKept h s (s.onHead h f) :=
  ⟨rfl, (congrArg Head.state (vmod_self s.paper.head h f)).trans (hst _),
    (congrArg Head.badSupply (vmod_self s.paper.head h f)).trans (hbad _), rfl, rfl⟩

/-- What the sense of a line makes of the count of bad readings (R496). -/
def State.sensedBad (s : State) (h : Fin 4) (sensed : Bool) (v : BitVec 12) : Nat :=
  if sensed then if s.badSupplyMv h (s.supplyMv h v.toNat) then s.paper.head[h].badSupply + 1 else 0
  else s.paper.head[h].badSupply

/-- The line sense measures the power anew or keeps it; it counts a bad reading. -/
structure Sensed (h : Fin 4) (n : Nat) (s t : State) : Prop where
  run : t.paper.run[h] = s.paper.run[h]
  state : t.paper.head[h].state = s.paper.head[h].state
  badSupply : t.paper.head[h].badSupply = n
  tBase : t.paper.energy[h].tBase = s.paper.energy[h].tBase
  island : t.island = s.island

theorem Sensed.after {h : Fin 4} {n : Nat} {s t u : State} (a : Sensed h n s t) (b : LineKept h t u) :
    Sensed h n s u :=
  ⟨b.run.trans a.run, b.state.trans a.state, b.badSupply.trans a.badSupply, b.tBase.trans a.tBase,
    b.island.trans a.island⟩

theorem State.senseLine_sensed (s : State) (h : Fin 4) (sensed : Bool) (v i : BitVec 12) (ns : Nat) :
    Sensed h (s.sensedBad h sensed v) s (s.senseLine h sensed v i ns) := by
  cases sensed with
  | false => exact ⟨rfl, rfl, rfl, rfl, rfl⟩
  | true =>
    have hread : Sensed h (s.sensedBad h true v) s (s.senseAborts.onHead h fun x => { x with
        vMeas := s.supplyMv h v.toNat, iMeas := i.toNat * (s.hPar h 9).toNat / 4096
        badSupply := if s.badSupplyMv h (s.supplyMv h v.toNat) then x.badSupply + 1 else 0 }) :=
      ⟨rfl, (congrArg Head.state (vmod_self _ _ _)).trans rfl, (congrArg Head.badSupply (vmod_self _ _ _)).trans rfl,
        rfl, rfl⟩
    refine hread.after (LineKept.onEnergy h _ fun e => ?_)
    split
    · rfl
    · cases e.p with
      | none => rfl
      | some p => rfl

/-- The line that a head burns, over the state that its sense leaves: before its job is set going. -/
def State.lineGiven (s : State) (h a : Fin 4) (f : Energy → Energy) (n : BitVec 32) (period : Rat) : State :=
  ((((s.onEnergy h f).onHead h fun x => { x with trunc := x.trunc + n }).capAdd h 1 period 0).onRun h fun o =>
    o.map fun r => { r with
      line := r.line + 1, burnt := r.burnt + 1, fetched := r.fetched.tail, paused := false }).onAxis a fun x =>
        { x with standing := false }

theorem State.lineGiven_run {s : State} {h : Fin 4} {r : Run} (hr : s.paper.run[h] = some r) (a : Fin 4)
    (f : Energy → Energy) (n : BitVec 32) (period : Rat) : (s.lineGiven h a f n period).paper.run[h] = some { r with
      line := r.line + 1, burnt := r.burnt + 1, fetched := r.fetched.tail, paused := false } :=
  (vmod_self _ _ _).trans (congrArg (Option.map fun r => { r with
    line := r.line + 1, burnt := r.burnt + 1, fetched := r.fetched.tail, paused := false }) hr)

theorem State.lineGiven_keeps (s : State) (h a : Fin 4) {f : Energy → Energy} (hf : ∀ e, (f e).tBase = e.tBase)
    (n : BitVec 32) (period : Rat) : let t := s.lineGiven h a f n period
    t.paper.head[h].state = s.paper.head[h].state ∧ t.paper.head[h].badSupply = s.paper.head[h].badSupply
      ∧ t.paper.energy[h].tBase = s.paper.energy[h].tBase ∧ t.island = s.island := by
  have hkept : LineKept h s ((s.onEnergy h f).onHead h fun x => { x with trunc := x.trunc + n }) :=
    (LineKept.onEnergy h s hf).trans (LineKept.onHead h _ (fun _ => rfl) fun _ => rfl)
  refine ⟨hkept.state, hkept.badSupply, hkept.tBase, ?_⟩
  simp only [State.lineGiven, State.capAdd, State.onAxis_island, State.onRun_island, State.onLoamHead_island,
    State.onHead_island, State.onEnergy_island]

/-- A line burnt: its run, and the counts that decide whether its head stays in service. -/
structure Burnt (s : State) (h : Fin 4) (r : Run) (bad : Nat) (t : State) : Prop where
  run : t.paper.run[h] = some { r with
    line := r.line + 1, burnt := r.burnt + 1, fetched := r.fetched.tail, paused := false }
  state : t.paper.head[h].state = s.paper.head[h].state
  badSupply : t.paper.head[h].badSupply = bad
  tBase : t.paper.energy[h].tBase = s.paper.energy[h].tBase
  island : t.island = s.island

/-- Of the envelope's check only the flags of head h and the reports remain. -/
theorem State.settleEnvelope_keeps (s : State) (h : Fin 4) : LineKept h s (s.settleEnvelope h) := by
  obtain ⟨b, hb⟩ := s.settleEnvelope_reports h
  exact (LineKept.onEnergy h s (f := fun e => { e with envelope := b }) fun _ => rfl).trans
    (.of_paper hb.paper hb.island)

theorem State.burnLine_burnt {s : State} {h : Fin 4} {r : Run} (hr : s.paper.run[h] = some r) (p : LinePlan)
    (period : Rat) (sensed : Bool) (v i : BitVec 12) :
    ∃ u, Burnt s h r (s.sensedBad h sensed v) u ∧ ∃ t : Rat, s.burnLine h r p period sensed v i
      = if u.paper.head[h].state = .inService ∧ 2 ≤ u.paper.head[h].badSupply then u.headOutAt h t .supply else u := by
  obtain ⟨f, n, t, hf, heq⟩ : ∃ (f : Energy → Energy) (n : BitVec 32) (t : Rat), (∀ e, (f e).tBase = e.tBase)
      ∧ ∀ w, w = s.draw.2.senseLine h sensed v i (s.sensedDots h p period s.paper.energy[h].tBase) →
        ∀ u, u = ((w.lineGiven h (s.paperAxis h) f n period).settleEnvelope h).activate r.job →
          s.burnLine h r p period sensed v i = if u.paper.head[h].state = .inService
            ∧ 2 ≤ u.paper.head[h].badSupply then u.headOutAt h t .supply else u := by
    refine ⟨?f, ?n, ?t, ?hf, ?heq⟩
    case heq =>
      intro w hw u hu
      subst hw
      subst hu
      rfl
    case hf => exact fun _ => rfl
  have hsensed := s.draw.2.senseLine_sensed h sensed v i (s.sensedDots h p period s.paper.energy[h].tBase)
  generalize s.draw.2.senseLine h sensed v i (s.sensedDots h p period s.paper.energy[h].tBase) = w at heq hsensed
  obtain ⟨hst, hbad, htime, hisland⟩ := w.lineGiven_keeps h (s.paperAxis h) hf n period
  have hrun := State.lineGiven_run (hsensed.run.trans hr) (s.paperAxis h) f n period
  have hkept := (State.settleEnvelope_keeps (w.lineGiven h (s.paperAxis h) f n period) h).trans
    (.of_paper (State.activate_paper _ r.job) (State.activate_island _ r.job))
  exact ⟨_, ⟨hkept.run.trans hrun, hkept.state.trans (hst.trans hsensed.state),
    hkept.badSupply.trans (hbad.trans hsensed.badSupply), hkept.tBase.trans (htime.trans hsensed.tBase),
    hkept.island.trans (hisland.trans hsensed.island)⟩, t, heq w rfl _ rfl⟩

/-! ### A line granted -/

section
variable {s : State} {h : Fin 4} {r : Run} (hr : s.paper.run[h] = some r) (sensed : Bool) (v i : BitVec 12)
include hr

theorem grantLine_withheld (hw : s.withheld h r) : Pauses s h r (s.grantLine h r sensed v i) := by
  have heq : s.grantLine h r sensed v i = (s.timed h).pauseLine h r (s.periodNow h r) :=
    if_pos ((s.timed_withheld h r).mpr hw)
  rw [heq]
  exact State.timed_pauses hr _

variable (hw : ¬ s.withheld h r)
include hw

theorem grantLine_out (hst : s.paper.head[h].state = .inService) (hbad : 2 ≤ s.sensedBad h sensed v) :
    IsOut h .supply (s.grantLine h r sensed v i) ∧ (s.grantLine h r sensed v i).paper.run[h] = none := by
  have hr' : (s.timed h).paper.run[h] = some r := hr
  obtain ⟨u, hu, t, heq⟩ := State.burnLine_burnt hr' (s.planLine h r) (s.periodNow h r) sensed v i
  have hgone : (s.timed h).burnLine h r (s.planLine h r) (s.periodNow h r) sensed v i = u.headOutAt h t .supply :=
    heq.trans (if_pos ⟨hu.state.trans hst, by rw [hu.badSupply]; exact hbad⟩)
  have hout := State.headOutAt_out hu.run t .supply
  have hgrant : s.grantLine h r sensed v i = u.headOutAt h t .supply := by
    refine (if_neg fun k => hw ((s.timed_withheld h r).mp k)).trans ?_
    rw [show (s.onEnergy h fun e => { e with tBase := s.baseTime h }) = s.timed h from rfl, hgone, hout.2]
  rw [hgrant]
  exact hout

/-- A line begun, and the run gone on to the next. -/
structure GoneOn (s : State) (h : Fin 4) (r : Run) (t : State) : Prop where
  run : ∃ q, t.paper.run[h] = some q ∧ q.job = r.job ∧ q.line = r.line + 1 ∧ q.burnt = r.burnt + 1 ∧ q.paused = false
  tBase : t.paper.energy[h].tBase = s.baseTime h
  island : t.island = s.island

theorem grantLine_burns (hbad : s.sensedBad h sensed v < 2) (hmore : r.line + 1 < (s.job r.job).lines) :
    GoneOn s h r (s.grantLine h r sensed v i) := by
  have hr' : (s.timed h).paper.run[h] = some r := hr
  obtain ⟨u, hu, t, heq⟩ := State.burnLine_burnt hr' (s.planLine h r) (s.periodNow h r) sensed v i
  have hburnt : (s.timed h).burnLine h r (s.planLine h r) (s.periodNow h r) sensed v i = u :=
    heq.trans (if_neg fun k => by rw [hu.badSupply] at k; exact absurd k.2 (Nat.not_le.mpr hbad))
  have hgrant : s.grantLine h r sensed v i = u.refreshHead h := by
    refine (if_neg fun k => hw ((s.timed_withheld h r).mp k)).trans ?_
    rw [show (s.onEnergy h fun e => { e with tBase := s.baseTime h }) = s.timed h from rfl, hburnt, hu.run]
    exact if_neg (Nat.not_le.mpr hmore)
  have hstays := State.refreshHead_stays u h
  obtain ⟨q, hq, hjob, hline, hcount, hpaused⟩ := hstays.run _ hu.run
  rw [hgrant]
  refine ⟨⟨q, hq, hjob, hline, hcount, hpaused⟩, ?_, ?_⟩
  · rw [hstays.energy, hu.tBase, s.timed_energy h]
  · rw [State.refreshHead_island, hu.island]
    rfl

end

end Machine

end Sys2Proof
end

section
/-! PROOFS. The starts, the pause checks and the fetches of lines (06_silt R391 to R394, R1106; 09_energy R549):
statement O32. -/

namespace Sys2Proof

open Machine

namespace Machine

/-! ### Line starts, pauses and fetches -/

/-- What is done to the run of head h, where one is there. -/
theorem State.onRun_map {s : State} {h : Fin 4} {r : Run} (hr : s.paper.run[h] = some r) (f : Run → Run) :
    (s.onRun h fun o => o.map f) = s.onRun h fun _ => some (f r) := by
  refine congrArg (fun v => s.onPaper fun p => { p with run := v }) (congrArg (s.paper.run.set h) ?_)
  rw [hr]
  rfl

theorem State.onRun_onRun (s : State) (h : Fin 4) (f g : Option Run → Option Run) :
    (s.onRun h f).onRun h g = s.onRun h fun o => g (f o) := by
  simp only [State.onRun, State.onPaper, vmod_vmod]

section
variable {s : State} {h : Fin 4} {r : Run} (hr : s.paper.run[h] = some r)
include hr

section
variable (hmay : s.mayPrint h r = true) (hheld : r.held = false) (sensed : Bool) (v i : BitVec 12)
include hmay hheld

theorem pauseCheck_grants (hpaused : r.paused = true) :
    exec (.pauseCheck h sensed v i) s = .next (s.grantLine h r sensed v i) := by
  refine congrArg Host.Outcome.next ?_
  rw [hr]
  exact if_pos ⟨hpaused, hmay, by rw [hheld]; rfl⟩

variable (hpaused : r.paused = false) {o : Int} (horigin : r.origin = some o)
  (hplace : s.linePos h o r.line ≤ s.paper.axis[s.paperAxis h].pos.toInt)
include hpaused horigin hplace

theorem lineStart_grants (hfetched : s.linesNeeded h r ≤ r.fetched.length) :
    exec (.lineStart h sensed v i) s = .next (s.grantLine h r sensed v i) := by
  refine congrArg Host.Outcome.next ?_
  rw [hr]
  refine (if_neg (by rw [hmay, hheld, hpaused]; exact Bool.false_ne_true)).trans ?_
  rw [horigin]
  exact (if_neg (Int.not_lt.mpr hplace)).trans (if_neg (Nat.not_lt.mpr hfetched))

/-- A line not fetched in time: the paper stands and the run is held with cause LATE (R1106). -/
theorem lineStart_late (hmissing : r.fetched.length < s.linesNeeded h r) (hlate : r.late = none) :
    exec (.lineStart h sensed v i) s = .next (((s.onRun h fun _ => some { r with late := some s.now }).onAxis
      (s.paperAxis h) fun x => { x with standing := true }).raiseHold h r .late) := by
  have hlateness : exec (.lineStart h sensed v i) s = .next (s.startLate h r) := by
    refine congrArg Host.Outcome.next ?_
    rw [hr]
    refine (if_neg (by rw [hmay, hheld, hpaused]; exact Bool.false_ne_true)).trans ?_
    rw [horigin]
    exact (if_neg (Int.not_lt.mpr hplace)).trans ((if_pos hmissing).trans
      (if_neg (by rw [hlate]; exact Bool.false_ne_true)))
  refine hlateness.trans (congrArg Host.Outcome.next ?_)
  exact congrArg (fun u : State => (u.onAxis (s.paperAxis h) fun x => { x with standing := true }).raiseHold h r .late)
    (State.onRun_map hr fun r => { r with late := some s.now })

end

/-! ### The next line is fetched (R391) -/

/-- The run with its next line in the line buffer. -/
def Run.fetching (s : State) (h : Fin 4) (r : Run) : Run :=
  { r with fetchNext := r.fetchNext + 1, fetched := r.fetched ++ [s.rasterLine h r r.fetchNext] }

section
variable (hfetch : s.fetching r = true) (hmore : r.fetchNext < (s.job r.job).lines)
  (hahead : r.fetchNext ≤ r.line + 1 + s.ahead h) (hready : s.lineReady h r r.fetchNext = true)
  (harb : s.arbServes (fetcherOf h) = true)
include hfetch hmore hahead hready harb

theorem lineFetchDone_fetches (hlate : r.late = none) :
    exec (.lineFetchDone h) s = .next (s.onRun h fun _ => some (r.fetching s h)) := by
  have hdone : exec (.lineFetchDone h) s = .next (s.onRun h fun o => o.map fun r => r.fetching s h) := by
    refine congrArg Host.Outcome.next ?_
    rw [hr]
    refine (if_pos ⟨hfetch, hmore, hahead, hready, harb⟩).trans ?_
    dsimp only
    rw [hlate]
    rfl
  exact hdone.trans (congrArg Host.Outcome.next (State.onRun_map hr fun r => r.fetching s h))

/-- A stand for a late line ends with its fetch (R1106). -/
theorem lineFetchDone_resumes {since : Nat} (hlate : r.late = some since)
    (henough : s.linesNeeded h r ≤ (r.fetching s h).fetched.length) : exec (.lineFetchDone h) s
      = .next (((s.onRun h fun _ => some { r.fetching s h with late := none }).onAxis (s.paperAxis h) fun x =>
        { x with standing := false }).raiseResume h r since) := by
  have hrun : (s.onRun h fun o => o.map fun r => r.fetching s h).paper.run[h] = some (r.fetching s h) :=
    (vmod_self _ _ _).trans (congrArg (Option.map fun r => r.fetching s h) hr)
  have hdone : exec (.lineFetchDone h) s
      = .next ((s.onRun h fun o => o.map fun r => r.fetching s h).endLate h (r.fetching s h) since) := by
    refine congrArg Host.Outcome.next ?_
    rw [hr]
    refine (if_pos ⟨hfetch, hmore, hahead, hready, harb⟩).trans ?_
    dsimp only
    unfold Run.fetching at hrun
    rw [hlate, hrun]
    exact if_pos henough
  refine hdone.trans (congrArg Host.Outcome.next ?_)
  have htwice : ((s.onRun h fun o => o.map fun r => r.fetching s h).onRun h fun o => o.map fun r =>
      { r with late := none }) = s.onRun h fun _ => some { r.fetching s h with late := none } :=
    (State.onRun_map hrun fun r => { r with late := none }).trans (State.onRun_onRun s h _ _)
  exact congrArg (fun u : State => (u.onAxis (s.paperAxis h) fun x =>
    { x with standing := false }).raiseResume h r since) htwice

end

end

theorem lineFetchDone_unserved {s : State} {h : Fin 4} (harb : s.arbServes (fetcherOf h) = false) :
    exec (.lineFetchDone h) s = .next s := by
  refine congrArg Host.Outcome.next ?_
  cases s.paper.run[h] with
  | none => rfl
  | some r => exact if_neg fun k => Bool.false_ne_true (harb.symm.trans k.2.2.2.2)

/-- What a reading makes of the count of bad ones: none, a first one, or one in a row (R496). -/
theorem State.sensedBad_good {s : State} {h : Fin 4} {b : Bool} {v : BitVec 12}
    (hgood : (b && s.badSupplyMv h (s.supplyMv h v.toNat)) = false)
    (hfew : b = true ∨ s.paper.head[h].badSupply < 2) : s.sensedBad h b v < 2 := by
  cases b with
  | false => exact hfew.resolve_left Bool.false_ne_true
  | true =>
    have hmv : s.badSupplyMv h (s.supplyMv h v.toNat) = false := hgood
    have hzero : s.sensedBad h true v = 0 := by
      unfold State.sensedBad
      rw [hmv]
      rfl
    omega

theorem State.sensedBad_bad {s : State} {h : Fin 4} {b : Bool} {v : BitVec 12}
    (hbad : (b && s.badSupplyMv h (s.supplyMv h v.toNat)) = true) (hone : 1 ≤ s.paper.head[h].badSupply) :
    2 ≤ s.sensedBad h b v := by
  obtain ⟨rfl, hmv⟩ := Bool.and_eq_true_iff.mp hbad
  have hmore : s.sensedBad h true v = s.paper.head[h].badSupply + 1 := if_pos hmv
  omega

theorem State.mayPrint_inService {s : State} {h : Fin 4} {r : Run} (hmay : s.mayPrint h r = true) :
    s.paper.head[h].state = .inService := by
  simp only [State.mayPrint, Bool.and_eq_true, decide_eq_true_eq] at hmay
  obtain ⟨⟨⟨-, hst⟩, -⟩, -⟩ := hmay
  exact hst

theorem grantLine_fuse (s : State) (h : Fin 4) (r : Run) (b : Bool) (v i : BitVec 12) :
    (s.grantLine h r b v i).fuse = s.fuse :=
  congrArg (fun x : (Part × Fuses × List Instr) × Nat => x.1.2.1) (s.grantLine_lasting h r b v i)

end Machine

/-- Settles O32: a scan by its dots, a line by whether it is withheld; what follows a burnt line keeps its run, and a
head OUT has none. -/
theorem scansAndLines : Obligations.ScansAndLines := by
  unfold Obligations.ScansAndLines
  refine ⟨fun s h => ?_, fun s h plane => ⟨fun lane i hlane => laneLevel_unused s h plane i hlane,
    fun hd hhd => laneLevel_of_dot s h plane hhd⟩, fun s h r hr hmay hheld => ?_⟩
  · intro x
    exact ⟨fun i hst hidle hreq hdot hnot hrest hpast => scanStart_begins hst hidle hreq hdot hnot hrest hpast,
      fun v i d n hscan hdot hnot hnext => scanDot_passes v i hscan hdot hnext hnot,
      fun v i d n hscan hdot hst htakes hnext hkeep => scanDot_goes_on v i hscan hdot htakes hkeep hst hnext,
      fun v i hscan hdot hst => scanDot_ends v i hscan hdot hst,
      fun v i hscan hdot hst hfew => scanDot_powers v i hscan hdot hst hfew⟩
  · intro j hot burnt pauses bad goesOut
    have hst := State.mayPrint_inService hmay
    have hburns (b : Bool) (v i : BitVec 12) (hmore : r.line + 1 < j.lines) (hcool : ¬ hot) (hgood : bad b v = false)
        (hfew : b = true ∨ s.paper.head[h].badSupply < 2) : burnt (s.grantLine h r b v i) := by
      have hline := grantLine_burns hr b v i hcool (State.sensedBad_good hgood hfew) hmore
      obtain ⟨q, hq, hjob, hl, hb, hp⟩ := hline.run
      exact ⟨q, hq, hjob, hl, hb, hp, hline.tBase, hline.island, grantLine_fuse s h r b v i⟩
    have hgoes (b : Bool) (v i : BitVec 12) (hcool : ¬ hot) (hbad : bad b v = true)
        (hone : 1 ≤ s.paper.head[h].badSupply) : goesOut (s.grantLine h r b v i) := by
      obtain ⟨hout, hnone⟩ := grantLine_out hr b v i hcool hst (State.sensedBad_bad hbad hone)
      exact ⟨hout.1, hout.2, hnone⟩
    have hpauses (b : Bool) (v i : BitVec 12) (hhot : hot) : pauses (s.grantLine h r b v i) := by
      have hp := grantLine_withheld hr b v i hhot
      exact ⟨hp.run, hp.standing, hp.pauses, hp.tBase, hp.head, hp.island⟩
    refine ⟨fun o b v i hpaused horigin hplace => ?_, fun b v i hpaused => ?_, ?_, lineFetchDone_unserved⟩
    · have hgrants := lineStart_grants hr hmay hheld b v i hpaused horigin hplace
      exact ⟨fun hfetched hmore hcool hgood hfew => ⟨_, hgrants hfetched, hburns b v i hmore hcool hgood hfew⟩,
        fun hfetched hcool hbad hone => ⟨_, hgrants hfetched, hgoes b v i hcool hbad hone⟩,
        fun hfetched hhot => ⟨_, hgrants hfetched, hpauses b v i hhot⟩,
        fun hmissing hlate => lineStart_late hr hmay hheld b v i hpaused horigin hplace hmissing hlate⟩
    · have hgrants := pauseCheck_grants hr hmay hheld b v i hpaused
      exact ⟨fun hmore hcool hgood hfew => ⟨_, hgrants, hburns b v i hmore hcool hgood hfew⟩,
        fun hcool hbad hone => ⟨_, hgrants, hgoes b v i hcool hbad hone⟩,
        fun hhot => ⟨_, hgrants, hpauses b v i hhot⟩⟩
    · intro hfetch hmore hahead hready harb r1
      exact ⟨fun hlate => lineFetchDone_fetches hr hfetch hmore hahead hready harb hlate,
        fun since hlate henough => lineFetchDone_resumes hr hfetch hmore hahead hready harb hlate henough⟩

end Sys2Proof
end
